-- ==== Sys2Proof/Word.lean ====
section
/-!
DEFINITION. The word types of the device and the sparse maps its memories and register files are held in.
-/
namespace Sys2Proof

/-- One byte: the unit of data space, I/O space and far space (R271, R6). -/
abbrev Byte := BitVec 8

/-- A 16-bit value: data addresses, instruction word addresses, pointers (R266, R271). -/
abbrev Word := BitVec 16

/-- A 32-bit register value or instruction word (R330). -/
abbrev Quad := BitVec 32

/-- A sparse map from numbers to values: keys strictly rising, no entry equal to what an unlisted key reads as. The
operations over it are in Machine/Ops.lean. -/
abbrev SMap (α : Type) := List (Nat × α)

end Sys2Proof
end

