-- ==== Sys2Proof/Syntax.lean ====
section
/-!
DEFINITION. The commands of the device: one constructor for each row of the table of operations and events, with the
operands the row's rule names, and the types of those operands. `t` is a thread, `req` a requester of I/O space (R15):
0-7 the threads T0-T7, 8 the debug bus master. `tie` on an expiry says that the arrival it awaits is recognised on the
edge on which the timeout ends or starts (R249, R263).
-/
namespace Sys2Proof

/-- The operand b of format A (R333, R342): a general register (I = 0) or an 8-bit immediate (I = 1). -/
inductive Operand where
  | reg (gb : Fin 16)
  | imm (v : BitVec 8)
  deriving DecidableEq, Repr

/-- The address forms of format M (R334). -/
inductive MemOp where
  | off (pb : Fin 4) (simm10 : BitVec 10)
  | post (pb : Fin 4) (simm10 : BitVec 10)
  | idx (pb : Fin 4) (gx : Fin 16)
  | abs (addr : BitVec 16)
  deriving DecidableEq, Repr

/-- The two forms of BRX (R363): base plus index, or a pointer. -/
inductive BrxForm where
  | index (ga : Fin 16) (base : BitVec 16)
  | pointer (ps : Fin 4)
  deriving DecidableEq, Repr

/-- Where a value read from a register or from far space goes: a general register of a thread, a pointer or lk (4) of a
thread (LDP), or the debug bus master. -/
inductive Dst where
  | greg (t : Fin 8) (r : Fin 16)
  | preg (t : Fin 8) (p : Fin 5)
  | debug
  deriving DecidableEq, Repr

/-- A pad whose level can change: a GP pin, WPN or VBUS (R71, R73). -/
inductive Pad where
  | gp (n : Fin 96)
  | wpn
  | vbus
  deriving DecidableEq, Repr

/-- The debounced inputs of the paper path (R772). -/
inductive InputName where
  | cover | cutHome | drawerSense | feedButton
  deriving DecidableEq, Repr

/-- A sample of the Waypost line (R929, R933): its level, and whether that level was recognised on the very edge of the sample (R253). -/
structure WpSample where
  level : Bool
  edge : Bool
  deriving DecidableEq, Repr

/-- The commands, one constructor per row of the table of operations and events, each with its rule. -/
inductive Instr where
  /-- REGISTER_WRITE (R17). -/
  | registerWrite (req : Nat) (addr : Nat) (v : BitVec 8)
  /-- CROSSING_ISSUE (R232). -/
  | crossingIssue (id : Fin 20)
  /-- CROSSING_CAPTURE (R237). -/
  | crossingCapture (id : Fin 20)
  /-- CROSSING_STALL (R259). -/
  | crossingStall (id : Fin 20)
  /-- PIN_MUX_WRITE (R65). -/
  | pinMuxWrite (req : Nat) (n : Fin 96) (v : BitVec 8)
  /-- PIN_WORLD_WRITE (R81). -/
  | pinWorldWrite (req : Nat) (n : Fin 96) (v : BitVec 8)
  /-- PIN_WORLD_LOCK (R82). -/
  | pinWorldLock (req : Nat) (n : Fin 96)
  /-- PIN_INPUT_CHANGE (R71). -/
  | pinInputChange (p : Pad) (level : Bool)
  /-- PIN_CONTENTION (R94). -/
  | pinContention (n : Fin 96)
  /-- AO_POR (R131). -/
  | aoPor
  /-- POR_RELEASE (R144). -/
  | porRelease
  /-- BROWN_OUT (R132). -/
  | brownOut
  /-- RSTN_RESET (R135). -/
  | rstnReset
  /-- RSTN_RELEASE (R136). -/
  | rstnRelease
  /-- NEAR_RAM_CLEAR_DONE (R144). -/
  | nearRamClearDone
  /-- XTAL_STABLE (R141). -/
  | xtalStable
  /-- PLL_LOCK (R141). -/
  | pllLock (pll : Fin 3)
  /-- SWITCH (R142). -/
  | switch (req : Nat)
  /-- SPREAD_CHANGE_APPLY (R222). -/
  | spreadChangeApply (pllB : Bool)
  /-- PLL_UNLOCK (R254). -/
  | pllUnlock (pllB : Bool)
  /-- PLL_C_UNLOCK (R255). -/
  | pllCUnlock
  /-- XTAL_FAIL (R257). -/
  | xtalFail
  /-- SAFE_FEED_START (R148). -/
  | safeFeedStart
  /-- SAFE_FEED_STEP (R149). -/
  | safeFeedStep
  /-- SAFE_FEED_STOP (R150). -/
  | safeFeedStop
  /-- SAFE_FEED_HOLD_END (R150). -/
  | safeFeedHoldEnd
  /-- ENTER_RUN (R174). -/
  | enterRun (req : Nat)
  /-- ROMOFF_ARM (R168). -/
  | romoffArm (req : Nat)
  /-- DOZE_ENTRY (R177). -/
  | dozeEntry
  /-- STANDBY_REQUEST (R182). -/
  | standbyRequest (req : Nat)
  /-- STANDBY_CROSSINGS_DRAINED (R45). -/
  | standbyCrossingsDrained
  /-- WAKE_SOURCE (R190). -/
  | wakeSource (src : Fin 4)
  /-- RTC_SET_LOAD (R197). -/
  | rtcSetLoad
  /-- RTC_TRIM_APPLY (R198). -/
  | rtcTrimApply
  /-- RTC_ALARM_MATCH (R199). -/
  | rtcAlarmMatch
  /-- RTC_XTAL_FAIL (R200). -/
  | rtcXtalFail
  /-- RTC_XTAL_RESTORE (R200). -/
  | rtcXtalRestore
  /-- RETENTION_DATA_ACCESS (R206). -/
  | retentionDataAccess (req : Nat) (normalPort : Bool) (wr : Option (BitVec 8)) (dst : Dst)
  /-- WDT_ENABLE (R201). -/
  | wdtEnable (req : Nat)
  /-- WDT_KICK (R202). -/
  | wdtKick (req : Nat) (v : BitVec 8)
  /-- WDT_EXPIRY (R204). -/
  | wdtExpiry (tie : Bool)
  /-- THREAD_START (R303). -/
  | threadStart (req : Nat) (n : Fin 8)
  /-- THREAD_STOP (R309). -/
  | threadStop (req : Nat) (n : Fin 8)
  /-- THREAD_STOPPED (R312). -/
  | threadStopped (n : Fin 8)
  /-- THREAD_WORLD_WRITE (R308). -/
  | threadWorldWrite (req : Nat) (n : Fin 8) (v : BitVec 8)
  /-- THREAD_WORLD_LOCK (R308). -/
  | threadWorldLock (req : Nat) (n : Fin 8)
  /-- WINDOW_OWNER_WRITE (R287). -/
  | windowOwnerWrite (req : Nat) (n : Fin 8) (normal : Bool) (v : BitVec 16)
  /-- IRAM_PORT_READ (R319). -/
  | iramPortRead (req : Nat) (dst : Dst)
  /-- IRAM_PORT_WRITE (R275). -/
  | iramPortWrite (req : Nat) (v : BitVec 32)
  /-- TRAP (R375). -/
  | trap (t : Fin 8) (n : BitVec 8)
  /-- ILLEGAL_INSTRUCTION (R331). -/
  | illegalInstruction (t : Fin 8) (w : BitVec 32)
  /-- NOP (R368). -/
  | nop (t : Fin 8)
  /-- FENCE (R368). -/
  | fence (t : Fin 8)
  /-- WAIT (R368). -/
  | wait (t : Fin 8)
  /-- WAITB (R369). -/
  | waitb (t : Fin 8) (bit : BitVec 12) (v : Bool)
  /-- PARK_RELEASE (R413). -/
  | parkRelease (t : Fin 8)
  /-- TOLL (R371). -/
  | toll (t : Fin 8) (n : BitVec 8)
  /-- RTOLL (R371). -/
  | rtoll (t : Fin 8)
  /-- RETI (R368). -/
  | reti (t : Fin 8)
  /-- MOV (R342). -/
  | mov (t : Fin 8) (gd : Fin 16) (ga : Fin 16)
  /-- MOVI (R342). -/
  | movi (t : Fin 8) (gd : Fin 16) (v : BitVec 8)
  /-- ADD (R342). -/
  | add (t : Fin 8) (gd : Fin 16) (ga : Fin 16) (b : Operand)
  /-- ADC (R342). -/
  | adc (t : Fin 8) (gd : Fin 16) (ga : Fin 16) (b : Operand)
  /-- SUB (R342). -/
  | sub (t : Fin 8) (gd : Fin 16) (ga : Fin 16) (b : Operand)
  /-- SBC (R342). -/
  | sbc (t : Fin 8) (gd : Fin 16) (ga : Fin 16) (b : Operand)
  /-- AND (R342). -/
  | andR (t : Fin 8) (gd : Fin 16) (ga : Fin 16) (b : Operand)
  /-- OR (R342). -/
  | orR (t : Fin 8) (gd : Fin 16) (ga : Fin 16) (b : Operand)
  /-- XOR (R342). -/
  | xorR (t : Fin 8) (gd : Fin 16) (ga : Fin 16) (b : Operand)
  /-- NOT (R342). -/
  | notR (t : Fin 8) (gd : Fin 16) (ga : Fin 16)
  /-- SHL (R343). -/
  | shl (t : Fin 8) (gd : Fin 16) (ga : Fin 16) (b : Operand)
  /-- SHR (R343). -/
  | shr (t : Fin 8) (gd : Fin 16) (ga : Fin 16) (b : Operand)
  /-- SAR (R343). -/
  | sar (t : Fin 8) (gd : Fin 16) (ga : Fin 16) (b : Operand)
  /-- ROL (R343). -/
  | rol (t : Fin 8) (gd : Fin 16) (ga : Fin 16) (b : Operand)
  /-- ROR (R343). -/
  | ror (t : Fin 8) (gd : Fin 16) (ga : Fin 16) (b : Operand)
  /-- MUL (R345). -/
  | mul (t : Fin 8) (gd : Fin 16) (ga : Fin 16) (b : Operand) (sgn : Bool)
  /-- SEQ (R347). -/
  | seq (t : Fin 8) (gd : Fin 16) (ga : Fin 16) (b : Operand)
  /-- SNE (R347). -/
  | sne (t : Fin 8) (gd : Fin 16) (ga : Fin 16) (b : Operand)
  /-- SLT (R347). -/
  | slt (t : Fin 8) (gd : Fin 16) (ga : Fin 16) (b : Operand)
  /-- SLTU (R347). -/
  | sltu (t : Fin 8) (gd : Fin 16) (ga : Fin 16) (b : Operand)
  /-- SGEU (R347). -/
  | sgeu (t : Fin 8) (gd : Fin 16) (ga : Fin 16) (b : Operand)
  /-- SETB (R348). -/
  | setb (t : Fin 8) (bd : BitVec 12)
  /-- CLRB (R348). -/
  | clrb (t : Fin 8) (bd : BitVec 12)
  /-- CPLB (R348). -/
  | cplb (t : Fin 8) (bd : BitVec 12)
  /-- MOVB (R348). -/
  | movb (t : Fin 8) (bd : BitVec 12) (bs : BitVec 12) (neg : Bool)
  /-- ANDB (R348). -/
  | andb (t : Fin 8) (bd : BitVec 12) (bs : BitVec 12) (neg : Bool)
  /-- ORB (R348). -/
  | orb (t : Fin 8) (bd : BitVec 12) (bs : BitVec 12) (neg : Bool)
  /-- XORB (R348). -/
  | xorb (t : Fin 8) (bd : BitVec 12) (bs : BitVec 12) (neg : Bool)
  /-- LDB (R348). -/
  | ldb (t : Fin 8) (gd : Fin 16) (bit : BitVec 12)
  /-- STB (R348). -/
  | stb (t : Fin 8) (bit : BitVec 12) (ga : Fin 16)
  /-- TSB (R348). -/
  | tsb (t : Fin 8) (gd : Fin 16) (bit : BitVec 12)
  /-- LD (R352). -/
  | ld (t : Fin 8) (r : Fin 16) (m : MemOp)
  /-- ST (R352). -/
  | st (t : Fin 8) (r : Fin 16) (m : MemOp)
  /-- LDP (R352). -/
  | ldp (t : Fin 8) (r : Fin 5) (m : MemOp)
  /-- STP (R352). -/
  | stp (t : Fin 8) (r : Fin 5) (m : MemOp)
  /-- PSET (R357). -/
  | pset (t : Fin 8) (r : Fin 5) (v : BitVec 16)
  /-- PADD (R357). -/
  | padd (t : Fin 8) (p : Fin 4) (v : BitVec 10)
  /-- PADDG (R357). -/
  | paddg (t : Fin 8) (p : Fin 4) (ga : Fin 16) (wide : Bool) (sgn : Bool)
  /-- IN (R359). -/
  | inp (t : Fin 8) (r : Fin 16) (m : MemOp)
  /-- OUT (R359). -/
  | out (t : Fin 8) (r : Fin 16) (m : MemOp)
  /-- BZ (R363). -/
  | bz (t : Fin 8) (ga : Fin 16) (off : BitVec 16)
  /-- BNZ (R363). -/
  | bnz (t : Fin 8) (ga : Fin 16) (off : BitVec 16)
  /-- JB (R363). -/
  | jb (t : Fin 8) (bit : BitVec 12) (off : BitVec 14)
  /-- JNB (R363). -/
  | jnb (t : Fin 8) (bit : BitVec 12) (off : BitVec 14)
  /-- JMP (R363). -/
  | jmp (t : Fin 8) (target : BitVec 16)
  /-- CALL (R363). -/
  | call (t : Fin 8) (target : BitVec 16)
  /-- RET (R363). -/
  | ret (t : Fin 8)
  /-- BRX (R363). -/
  | brx (t : Fin 8) (x : BrxForm) (link : Bool)
  /-- STORE_ACCEPT (R515). -/
  | storeAccept
  /-- SLOTMAP_WRITE (R400). -/
  | slotmapWrite (req : Nat) (v : BitVec 32)
  /-- SLOTMAP_APPLY (R399). -/
  | slotmapApply
  /-- ICU_COMMIT (R537). -/
  | icuCommit
  /-- HANDLER_ENTRY (R541). -/
  | handlerEntry (t : Fin 8)
  /-- ICU_SWLOCK (R550). -/
  | icuSwlock (req : Nat)
  /-- TOLL_BUDGET_EXPIRY (R434). -/
  | tollBudgetExpiry (t : Fin 8) (tie : Bool)
  /-- FORCED_RETURN (R434). -/
  | forcedReturn (t : Fin 8)
  /-- KEEPER_RESET_REQUEST (R440). -/
  | keeperResetRequest (req : Nat)
  /-- KEEPER_RESET_RESTART (R441). -/
  | keeperResetRestart
  /-- TOLL_VECTOR_LOCK (R431). -/
  | tollVectorLock (req : Nat)
  /-- WATERMARK_LOCK (R450). -/
  | watermarkLock (req : Nat) (nv : Bool)
  /-- HANDOVER_REQUEST (R462). -/
  | handoverRequest (req : Nat) (n : Fin 31)
  /-- HANDOVER_QUIESCE_DONE (R463). -/
  | handoverQuiesceDone (n : Fin 31)
  /-- HANDOVER_FORCED (R463). -/
  | handoverForced (n : Fin 31) (tie : Bool)
  /-- HANDOVER_FLIP (R463). -/
  | handoverFlip (n : Fin 31)
  /-- HANDOVER_LOCK (R468). -/
  | handoverLock (req : Nat) (n : Fin 31)
  /-- PAGE_OWNER_WRITE (R507). -/
  | pageOwnerWrite (req : Nat) (v : BitVec 8)
  /-- PAGE_TABLE_READ (R1248). -/
  | pageTableRead (req : Nat) (dst : Dst)
  /-- KEYS_READY (R496). -/
  | keysReady
  /-- TRNG_FAIL (R497). -/
  | trngFail
  /-- REKEY_REQUEST (R510). -/
  | rekeyRequest (req : Nat) (owner : BitVec 4)
  /-- REKEY_DONE (R510). -/
  | rekeyDone
  /-- LINE_TAG_READ (R517). -/
  | lineTagRead (req : Nat) (dst : Dst)
  /-- RING_ENABLE (R564). -/
  | ringEnable (req : Nat) (ch : Fin 16)
  /-- RING_STOP (R594). -/
  | ringStop (req : Nat) (ch : Fin 16)
  /-- RING_ABORT (R595). -/
  | ringAbort (req : Nat) (ch : Fin 16)
  /-- RING_POST (R577). -/
  | ringPost (req : Nat) (ch : Fin 16) (count : BitVec 16)
  /-- RING_FETCH (R581). -/
  | ringFetch (ch : Fin 16)
  /-- RING_COMPLETION (R588). -/
  | ringCompletion (ch : Fin 16)
  /-- RING_CQ_RETRY (R589). -/
  | ringCqRetry (ch : Fin 16)
  /-- POOL_ENABLE (R609). -/
  | poolEnable (req : Nat) (p : Fin 4)
  /-- POOL_PLACEMENT_DONE (R610). -/
  | poolPlacementDone (p : Fin 4)
  /-- POOL_DISABLE (R612). -/
  | poolDisable (req : Nat) (p : Fin 4)
  /-- ALLOCATE (R617). -/
  | allocate (req : Nat) (dst : Dst)
  /-- FREE (R626). -/
  | free (req : Nat) (h : BitVec 16)
  /-- RESERVATION_WRITE (R624). -/
  | reservationWrite (req : Nat) (v : BitVec 16)
  /-- BUFFER_STATUS_READ (R632). -/
  | bufferStatusRead (req : Nat) (dst : Dst)
  /-- BOOK_SETTLE (R653). -/
  | bookSettle (b : Fin 24) (tie : Bool)
  /-- BOOK_UNSETTLED (R657). -/
  | bookUnsettled (b : Fin 24) (tie : Bool)
  /-- REBASE (R669). -/
  | rebase (req : Nat) (b : BitVec 5)
  /-- TERM_READ (R671). -/
  | termRead (req : Nat) (dst : Dst)
  /-- WRITEOFF_LOG_READ (R671). -/
  | writeoffLogRead (req : Nat) (dst : Dst)
  /-- MILLRACE_ENABLE (R731). -/
  | millraceEnable (req : Nat)
  /-- MILLRACE_DISABLE (R726). -/
  | millraceDisable (req : Nat)
  /-- MILLRACE_ENTRY_ACCEPT (R688). -/
  | millraceEntryAccept
  /-- MILLRACE_ROW_LANDED (R709). -/
  | millraceRowLanded
  /-- MILLRACE_SHIFT_DONE (R682). -/
  | millraceShiftDone
  /-- LINE_START (R709). -/
  | lineStart
  /-- SCHEDULE_END (R714). -/
  | scheduleEnd
  /-- MILLRACE_LATCH (R695). -/
  | millraceLatch
  /-- MILLRACE_PHASE_START (R704). -/
  | millracePhaseStart
  /-- MILLRACE_PHASE_END (R704). -/
  | millracePhaseEnd
  /-- HEAD_POWER_DELAY_END (R685). -/
  | headPowerDelayEnd
  /-- MILLRACE_IDLE_ADC_REQUEST (R703). -/
  | millraceIdleAdcRequest
  /-- HEAD_CURRENT_TRIP (R721). -/
  | headCurrentTrip (mv : Nat)
  /-- STROBE_OVERTIME (R722). -/
  | strobeOvertime
  /-- MILLRACE_FAULT_CLEAR (R728). -/
  | millraceFaultClear (req : Nat) (v : BitVec 8)
  /-- MILLRACE_LIMIT_LOCK (R734). -/
  | millraceLimitLock (req : Nat)
  /-- FEEDER_ENABLE (R792). -/
  | feederEnable (req : Nat)
  /-- FEEDER_DISABLE (R790). -/
  | feederDisable (req : Nat)
  /-- FEED_CANCEL (R759). -/
  | feedCancel (req : Nat)
  /-- FEED_MOVE (R752). -/
  | feedMove (req : Nat) (v : BitVec 32)
  /-- HALF_STEP_DUE (R751). -/
  | halfStepDue
  /-- FEED_MICROSTEP (R746). -/
  | feedMicrostep
  /-- CHOP_PERIOD_START (R747). -/
  | chopPeriodStart
  /-- CHOP_ONTIME_LIMIT (R747). -/
  | chopOntimeLimit (w : Fin 2)
  /-- HOLD_TIMEOUT (R756). -/
  | holdTimeout
  /-- RIPPLE_WINDOW_END (R760). -/
  | rippleWindowEnd
  /-- BEMF_SAMPLE (R763). -/
  | bemfSample
  /-- FEEDER_FAULT_CLEAR (R791). -/
  | feederFaultClear (req : Nat) (v : BitVec 8)
  /-- SENSOR_PERIOD (R767). -/
  | sensorPeriod
  /-- SENSOR_EMIT_SETTLE (R767). -/
  | sensorEmitSettle
  /-- SENSOR_CALIBRATE (R769). -/
  | sensorCalibrate (req : Nat) (k : Fin 4)
  /-- INPUT_DEBOUNCED (R772). -/
  | inputDebounced (name : InputName) (level : Bool)
  /-- CUT (R776). -/
  | cut (req : Nat)
  /-- CUTTER_DRIVE_RISE (R777). -/
  | cutterDriveRise
  /-- CUT_LEAVE_TIMEOUT (R777). -/
  | cutLeaveTimeout (tie : Bool)
  /-- CUTTER_BRAKE (R777). -/
  | cutterBrake
  /-- CUTTER_BRAKE_END (R777). -/
  | cutterBrakeEnd
  /-- CUT_TIMEOUT (R778). -/
  | cutTimeout (tie : Bool)
  /-- JOG (R779). -/
  | jog (req : Nat)
  /-- JOG_END (R779). -/
  | jogEnd
  /-- CUTTER_DISABLE (R790). -/
  | cutterDisable (req : Nat)
  /-- CUTTER_FAULT_CLEAR (R791). -/
  | cutterFaultClear (req : Nat) (v : BitVec 8)
  /-- DRAWER_PULSE (R782). -/
  | drawerPulse (req : Nat) (k : Fin 2) (v : BitVec 8)
  /-- DRAWER_PULSE_END (R785). -/
  | drawerPulseEnd (k : Fin 2)
  /-- DRAWER_COOLDOWN_END (R784). -/
  | drawerCooldownEnd (k : Fin 2)
  /-- DRAWER_DISABLE (R790). -/
  | drawerDisable (req : Nat) (k : Fin 2)
  /-- BELL_GO (R786). -/
  | bellGo (req : Nat)
  /-- BELL_STOP (R786). -/
  | bellStop (req : Nat)
  /-- BELL_TIMER (R786). -/
  | bellTimer
  /-- LED_MODE_WRITE (R787). -/
  | ledModeWrite (req : Nat) (k : Fin 3) (field : Fin 5) (v : BitVec 8)
  /-- LED_PATTERN_TICK (R787). -/
  | ledPatternTick (k : Fin 3)
  /-- PP_LIMIT_LOCK (R797). -/
  | ppLimitLock (req : Nat)
  /-- ADC_CONVERSION_DONE (R793). -/
  | adcConversionDone (code : BitVec 12)
  /-- ADC_SEQ_GO (R795). -/
  | adcSeqGo (req : Nat)
  /-- ADC_SEQ_STOP (R795). -/
  | adcSeqStop (req : Nat)
  /-- ADC_SEQ_PERIOD (R795). -/
  | adcSeqPeriod
  /-- USB_DISABLE (R806). -/
  | usbDisable (req : Nat)
  /-- LINK_CLOCK_RESTORE (R807). -/
  | linkClockRestore
  /-- LINK_NOCLK_CLEAR (R807). -/
  | linkNoclkClear (req : Nat) (eth : Bool)
  /-- VBUS_CHANGE (R812). -/
  | vbusChange (level : Bool)
  /-- USB_BUS_RESET (R813). -/
  | usbBusReset
  /-- USB_SUSPEND (R814). -/
  | usbSuspend
  /-- USB_RESUME (R814). -/
  | usbResume
  /-- USB_REMOTE_WAKE (R815). -/
  | usbRemoteWake (req : Nat)
  /-- USB_REMOTE_WAKE_END (R815). -/
  | usbRemoteWakeEnd
  /-- USB_ADDR_WRITE (R816). -/
  | usbAddrWrite (req : Nat) (v : BitVec 8)
  /-- USB_SETUP (R817). -/
  | usbSetup (addr : BitVec 7) (data : BitVec 64)
  /-- USB_IN_TOKEN (R821). -/
  | usbInToken (addr : BitVec 7) (ep : Fin 4)
  /-- USB_OUT_DATA (R822). -/
  | usbOutData (addr : BitVec 7) (ep : Fin 4) (toggle : Bool) (data : List (BitVec 8)) (crcOk : Bool)
  /-- USB_HANDSHAKE (R821). -/
  | usbHandshake
  /-- USB_HANDSHAKE_TIMEOUT (R828). -/
  | usbHandshakeTimeout (tie : Bool)
  /-- USB_EP0_ARMIN (R819). -/
  | usbEp0Armin (req : Nat)
  /-- USB_EP0_ARMOUT (R819). -/
  | usbEp0Armout (req : Nat)
  /-- USB_EP0_STALL (R819). -/
  | usbEp0Stall (req : Nat)
  /-- USB_TOGGLE_RESET (R826). -/
  | usbToggleReset (req : Nat) (ep : Fin 3)
  /-- ETH_DISABLE (R806). -/
  | ethDisable (req : Nat)
  /-- ETH_FRAME_RECEIVED (R836). -/
  | ethFrameReceived (frame : List (BitVec 8)) (rxer : Bool)
  /-- ETH_RX_DELIVER (R840). -/
  | ethRxDeliver
  /-- ETH_TX_START (R843). -/
  | ethTxStart
  /-- ETH_TX_DONE (R845). -/
  | ethTxDone
  /-- ETH_COLLISION (R845). -/
  | ethCollision (late : Bool)
  /-- ETH_BACKOFF_END (R845). -/
  | ethBackoffEnd
  /-- ETH_PAUSE_END (R846). -/
  | ethPauseEnd (tie : Bool)
  /-- ETH_PAUSE_SEND (R847). -/
  | ethPauseSend
  /-- ETH_REFCLK_LOSS (R831). -/
  | ethRefclkLoss
  /-- MDIO_GO (R833). -/
  | mdioGo (req : Nat)
  /-- MDIO_DONE (R833). -/
  | mdioDone (data : BitVec 16)
  /-- MDIO_POLL (R834). -/
  | mdioPoll (data : BitVec 16)
  /-- UART_DISABLE (R806). -/
  | uartDisable (req : Nat) (n : Fin 2)
  /-- UART_CHAR_RECEIVED (R850). -/
  | uartCharReceived (n : Fin 2) (b : BitVec 8) (framing : Bool) (parity : Bool)
  /-- UART_BREAK (R855). -/
  | uartBreak (n : Fin 2)
  /-- UART_IDLE_TIMEOUT (R852). -/
  | uartIdleTimeout (n : Fin 2) (tie : Bool)
  /-- UART_TX_CHAR_DONE (R853). -/
  | uartTxCharDone (n : Fin 2)
  /-- UART_LINE_CHANGE (R854). -/
  | uartLineChange (n : Fin 2) (cts : Bool) (dsr : Bool)
  /-- UART_DATA_READ (R851). -/
  | uartDataRead (req : Nat) (n : Fin 2) (dst : Dst)
  /-- UART_DATA_WRITE (R851). -/
  | uartDataWrite (req : Nat) (n : Fin 2) (v : BitVec 8)
  /-- KOLNEX_ENABLE (R914). -/
  | kolnexEnable (req : Nat)
  /-- KOLNEX_DISABLE (R915). -/
  | kolnexDisable (req : Nat)
  /-- KOLNEX_TX_ACCEPT (R908). -/
  | kolnexTxAccept
  /-- KOLNEX_BUS_FREE (R876). -/
  | kolnexBusFree
  /-- KOLNEX_SLOT_START (R877). -/
  | kolnexSlotStart (startBit : Bool)
  /-- KOLNEX_READBACK_MISMATCH (R882). -/
  | kolnexReadbackMismatch (inSync : Bool)
  /-- KOLNEX_STUCK (R898). -/
  | kolnexStuck
  /-- KOLNEX_FRAME_SENT (R886). -/
  | kolnexFrameSent
  /-- KOLNEX_ACK_RECEIVED (R887). -/
  | kolnexAckReceived (bytes : List (BitVec 8)) (early : Bool)
  /-- KOLNEX_ACK_TIMEOUT (R888). -/
  | kolnexAckTimeout (tie : Bool) (heard : Bool)
  /-- KOLNEX_DATA_RECEIVED (R901). -/
  | kolnexDataReceived (bytes : List (BitVec 8)) (malformed : Bool) (early : Bool)
  /-- KOLNEX_BEACON_RECEIVED (R894). -/
  | kolnexBeaconReceived (bytes : List (BitVec 8)) (early : Bool)
  /-- KOLNEX_RX_GAP (R869). -/
  | kolnexRxGap
  /-- KOLNEX_ACK_SEND (R902). -/
  | kolnexAckSend
  /-- KOLNEX_RX_DELIVER (R905). -/
  | kolnexRxDeliver
  /-- KOLNEX_LONE_AGE (R893). -/
  | kolnexLoneAge
  /-- KOLNEX_BEACON_DUE (R896). -/
  | kolnexBeaconDue
  /-- KOLNEX_FAULT_CLEAR (R900). -/
  | kolnexFaultClear (req : Nat) (v : BitVec 8)
  /-- WAYPOST_RESET (R949). -/
  | waypostReset (req : Nat)
  /-- WAYPOST_XFER (R950). -/
  | waypostXfer (req : Nat)
  /-- WAYPOST_PASS (R952). -/
  | waypostPass (req : Nat)
  /-- WAYPOST_SLOT_END (R929). -/
  | waypostSlotEnd (a : WpSample) (b : WpSample)
  /-- WAYPOST_DISTURBANCE (R934). -/
  | waypostDisturbance
  /-- WAYPOST_SHORT (R935). -/
  | waypostShort
  /-- WAYPOST_ABORT (R960). -/
  | waypostAbort (req : Nat)
  /-- WAYPOST_DISABLE (R961). -/
  | waypostDisable (req : Nat)
  /-- SPI_ENTRY_START (R978). -/
  | spiEntryStart
  /-- SPI_READY_HIGH (R985). -/
  | spiReadyHigh (data : List (BitVec 8))
  /-- SPI_ENTRY_DONE (R980). -/
  | spiEntryDone (data : List (BitVec 8))
  /-- SPI_STRETCH_TIMEOUT (R986). -/
  | spiStretchTimeout (tie : Bool) (data : List (BitVec 8))
  /-- SPI_CHAIN_TIMEOUT (R982). -/
  | spiChainTimeout (tie : Bool)
  /-- SPI_FAULT_CLEAR (R988). -/
  | spiFaultClear (req : Nat) (v : BitVec 8)
  /-- SPI_WINDOW_LOAD (R991). -/
  | spiWindowLoad
  /-- SPI_FILL_START (R996). -/
  | spiFillStart
  /-- SPI_FILL_DONE (R993). -/
  | spiFillDone (data : List (BitVec 8))
  /-- SPI_CACHE_INVALIDATE (R998). -/
  | spiCacheInvalidate (req : Nat)
  /-- SPI_INVALIDATE_DONE (R998). -/
  | spiInvalidateDone
  /-- SPI_LOAD_GO (R1002). -/
  | spiLoadGo (req : Nat)
  /-- SPI_LOAD_DONE (R1003). -/
  | spiLoadDone (data : List (BitVec 8))
  /-- NV_READY (R1022). -/
  | nvReady (lost : List Nat) (bad : Bool)
  /-- NV_COMMAND_DISPATCH (R1029). -/
  | nvCommandDispatch
  /-- NV_WRITE (R1031). -/
  | nvWrite
  /-- NV_ERASE (R1031). -/
  | nvErase
  /-- NV_TWINWR (R1046). -/
  | nvTwinwr
  /-- NV_TWINRD (R1048). -/
  | nvTwinrd
  /-- NV_RINGAPP (R1053). -/
  | nvRingapp
  /-- NV_RINGRD (R1054). -/
  | nvRingrd
  /-- NV_MCINC (R1056). -/
  | nvMcinc
  /-- NV_MCRAISE (R1057). -/
  | nvMcraise
  /-- NV_PROTECT (R1043). -/
  | nvProtect
  /-- NV_MAINT (R1050). -/
  | nvMaint
  /-- NV_BAD_COMMAND (R1031). -/
  | nvBadCommand
  /-- NV_PHASE_DONE (R1033). -/
  | nvPhaseDone (verified : Bool)
  /-- NV_DISABLE (R1060). -/
  | nvDisable (req : Nat)
  /-- NV_BUFFER_ACCESS (R1028). -/
  | nvBufferAccess (req : Nat) (w : Fin 2) (wr : Option (BitVec 8)) (dst : Dst)
  /-- NV_PAGE_STATUS_READ (R1021). -/
  | nvPageStatusRead (req : Nat) (dst : Dst)
  /-- NV_MASK_ACCESS (R1047). -/
  | nvMaskAccess (req : Nat) (wr : Option (BitVec 8)) (dst : Dst)
  /-- GLOGON_LOW (R1072). -/
  | glogonLow (width : Nat) (late : Bool)
  /-- GLOGON_SESSION_TIMEOUT (R1077). -/
  | glogonSessionTimeout
  /-- GLOGON_FRAME_TIMEOUT (R1081). -/
  | glogonFrameTimeout
  /-- GLOGON_STATUS (R1086). -/
  | glogonStatus
  /-- GLOGON_RESET (R1087). -/
  | glogonReset
  /-- GLOGON_RDIO (R1088). -/
  | glogonRdio
  /-- GLOGON_WRIO (R1088). -/
  | glogonWrio
  /-- GLOGON_RDFAR (R1088). -/
  | glogonRdfar
  /-- GLOGON_WRFAR (R1088). -/
  | glogonWrfar
  /-- GLOGON_END (R1077). -/
  | glogonEnd
  /-- GLOGON_RESULT (R1083). -/
  | glogonResult
  /-- GLOGON_BADCMD (R1090). -/
  | glogonBadcmd
  /-- GLOGON_PENDING_TIMEOUT (R1083). -/
  | glogonPendingTimeout
  /-- GLOGON_RESPONSE (R1082). -/
  | glogonResponse (collide : Bool)
  /-- DEBUG_ACCESS_TIMEOUT (R1106). -/
  | debugAccessTimeout (tie : Bool)
  /-- DEBUG_HALT (R1093). -/
  | debugHalt (req : Nat) (v : BitVec 8)
  /-- DEBUG_RESUME (R1096). -/
  | debugResume (req : Nat) (v : BitVec 8)
  /-- DEBUG_STEP (R1097). -/
  | debugStep (req : Nat) (v : BitVec 8)
  /-- DEBUG_REGISTER_ACCESS (R1098). -/
  | debugRegisterAccess (req : Nat) (wr : Option (BitVec 16)) (dst : Dst)
  /-- BREAKPOINT_MATCH (R1099). -/
  | breakpointMatch (t : Fin 8) (k : Fin 4)
  /-- WATCHPOINT_MATCH (R1100). -/
  | watchpointMatch (t : Fin 8) (k : Fin 2) (space : Fin 3) (addr : BitVec 24) (wr : Bool)
  /-- PC_SAMPLE_READ (R1107). -/
  | pcSampleRead (req : Nat) (dst : Dst)
  /-- MONITOR_STATUS (R1111). -/
  | monitorStatus (usb : Bool) (payload : List (BitVec 8)) (crc : BitVec 16)
  /-- MONITOR_RESET (R1111). -/
  | monitorReset (usb : Bool) (payload : List (BitVec 8)) (crc : BitVec 16)
  /-- MONITOR_RDIO (R1111). -/
  | monitorRdio (usb : Bool) (payload : List (BitVec 8)) (crc : BitVec 16)
  /-- MONITOR_WRIO (R1111). -/
  | monitorWrio (usb : Bool) (payload : List (BitVec 8)) (crc : BitVec 16)
  /-- MONITOR_RDFAR (R1111). -/
  | monitorRdfar (usb : Bool) (payload : List (BitVec 8)) (crc : BitVec 16)
  /-- MONITOR_WRFAR (R1111). -/
  | monitorWrfar (usb : Bool) (payload : List (BitVec 8)) (crc : BitVec 16)
  /-- PROVISION (R1111). -/
  | provision (usb : Bool) (payload : List (BitVec 8)) (crc : BitVec 16)
  /-- LOADHDR (R1111). -/
  | loadhdr (usb : Bool) (payload : List (BitVec 8)) (crc : BitVec 16)
  /-- LOADDATA (R1111). -/
  | loaddata (usb : Bool) (payload : List (BitVec 8)) (crc : BitVec 16)
  /-- LOADGO (R1114). -/
  | loadgo (usb : Bool) (payload : List (BitVec 8)) (crc : BitVec 16)
  /-- MONITOR_END (R1113). -/
  | monitorEnd (usb : Bool) (payload : List (BitVec 8)) (crc : BitVec 16)
  /-- MONITOR_SESSION_TIMEOUT (R1113). -/
  | monitorSessionTimeout
  /-- MONITOR_FRAME_TIMEOUT (R1109). -/
  | monitorFrameTimeout
  /-- COUNTER_SEL_WRITE (R1126). -/
  | counterSelWrite (req : Nat) (n : Fin 8) (v : BitVec 8)
  /-- COUNTER_COUNT_WRITE (R1134). -/
  | counterCountWrite (req : Nat) (n : Fin 8) (v : BitVec 32)
  /-- COUNTER_CLEAR (R1135). -/
  | counterClear (req : Nat) (n : Fin 8)
  /-- DISAGREE_HOLD_EXPIRY (R1153). -/
  | disagreeHoldExpiry (u : Fin 11) (tie : Bool)
  /-- AO_POR_RELEASE (R1203). -/
  | aoPorRelease
  /-- HFRC_RUNS (R258). -/
  | hfrcRuns
  /-- WINDING_CURRENT_CONVERSION (R747). -/
  | windingCurrentConversion (w : Fin 2)
  /-- UART_BREAK_END (R855). -/
  | uartBreakEnd (n : Fin 2)
  deriving DecidableEq, Repr

end Sys2Proof
end

