-- ==== Sys2Proof/WellFormed.lean ====
section
/-!
DEFINITION. Which commands are well formed: operands that the rules of the encoding admit (R331, R343, R345, R357), requesters 0-8,
I/O addresses of 16 bits.
-/
namespace Sys2Proof

/-- The shift count of an immediate is below 8 (R343). -/
def shiftOk (b : Operand) : Bool :=
  match b with
  | .reg _ => true
  | .imm v => decide (v.toNat < 8)

/-- W = 1 needs S = 0 and an even ga (R357). -/
def paddgOk (ga : Fin 16) (wide sgn : Bool) : Bool := !wide || (!sgn && ga.val % 2 == 0)

/-- An instruction that no rule marks illegal; every other command is legal here. -/
def Instr.legal (i : Instr) : Bool :=
  match i with
  | .shl _ _ _ b | .shr _ _ _ b | .sar _ _ _ b | .rol _ _ _ b | .ror _ _ _ b => shiftOk b
  | .mul _ gd _ _ _ => gd.val % 2 == 0
  | .paddg _ _ ga wide sgn => paddgOk ga wide sgn
  | _ => true

/-- A requester of I/O space: T0-T7 or the debug bus master (R15). -/
def reqOk (n : Nat) : Bool := decide (n ≤ 8)

/-- The requester a command names, where it is one of I/O space. -/
def Instr.requester (i : Instr) : Option Nat :=
  match i with
  | .registerWrite req _ _ | .pinMuxWrite req _ _ | .pinWorldWrite req _ _ | .pinWorldLock req _ | .switch req | .enterRun req
  | .romoffArm req | .standbyRequest req | .retentionDataAccess req _ _ _ | .wdtEnable req | .wdtKick req _ | .threadStart req _
  | .threadStop req _ | .threadWorldWrite req _ _ | .threadWorldLock req _ | .windowOwnerWrite req _ _ _ | .iramPortRead req _
  | .iramPortWrite req _ | .slotmapWrite req _ | .icuSwlock req | .keeperResetRequest req | .tollVectorLock req | .watermarkLock req _
  | .handoverRequest req _ | .handoverLock req _ | .pageOwnerWrite req _ | .pageTableRead req _ | .rekeyRequest req _ | .lineTagRead req _
  | .ringEnable req _ | .ringStop req _ | .ringAbort req _ | .ringPost req _ _ | .poolEnable req _ | .poolDisable req _ | .allocate req _
  | .free req _ | .reservationWrite req _ | .bufferStatusRead req _ | .rebase req _ | .termRead req _ | .writeoffLogRead req _
  | .millraceEnable req | .millraceDisable req | .millraceFaultClear req _ | .millraceLimitLock req | .feederEnable req
  | .feederDisable req | .feedCancel req | .feedMove req _ | .feederFaultClear req _ | .sensorCalibrate req _ | .cut req | .jog req
  | .cutterDisable req | .cutterFaultClear req _ | .drawerPulse req _ _ | .drawerDisable req _ | .bellGo req | .bellStop req
  | .ledModeWrite req _ _ _ | .ppLimitLock req | .adcSeqGo req | .adcSeqStop req | .usbDisable req | .linkNoclkClear req _
  | .usbRemoteWake req | .usbAddrWrite req _ | .usbEp0Armin req | .usbEp0Armout req | .usbEp0Stall req | .usbToggleReset req _
  | .ethDisable req | .mdioGo req | .uartDisable req _ | .uartDataRead req _ _ | .uartDataWrite req _ _ | .kolnexEnable req
  | .kolnexDisable req | .kolnexFaultClear req _ | .waypostReset req | .waypostXfer req | .waypostPass req | .waypostAbort req
  | .waypostDisable req | .spiFaultClear req _ | .spiCacheInvalidate req | .spiLoadGo req | .nvDisable req | .nvBufferAccess req _ _ _
  | .nvPageStatusRead req _ | .nvMaskAccess req _ _ | .debugHalt req _ | .debugResume req _ | .debugStep req _
  | .debugRegisterAccess req _ _ | .pcSampleRead req _ | .counterSelWrite req _ _ | .counterCountWrite req _ _ | .counterClear req _ => some req
  | _ => none

/-- The I/O address a command names has 16 bits. -/
def Instr.addrOk (i : Instr) : Bool :=
  match i with
  | .registerWrite _ addr _ => decide (addr < 65536)
  | _ => true

/-- A command a sender may put in the queue: a legal instruction, a requester of I/O space, a 16-bit I/O address. -/
def Instr.wf (i : Instr) : Bool := i.legal && (i.requester.getD 0 |> reqOk) && i.addrOk

end Sys2Proof
end

