-- ==== Sys2Proof/Decode.lean ====
section
/-!
DEFINITION. The encoding of Nalti instruction words (R330-R335, R392): the decoder, total on any word, and the encoder; and the host's
reading of a word of the table of operations, none of whose rows has bits.
-/
namespace Sys2Proof

/-! ## Fields -/

/-- Bits `lo + n - 1` to `lo` of a word. -/
def bitsAt (w lo n : Nat) : Nat := w / 2 ^ lo % 2 ^ n

/-- A field of four bits as a register number. -/
def g4 (w lo : Nat) : Fin 16 := ⟨w / 2 ^ lo % 16, Nat.mod_lt _ (by decide)⟩

/-- A field of two bits as a pointer number. -/
def p2 (w lo : Nat) : Fin 4 := ⟨w / 2 ^ lo % 4, Nat.mod_lt _ (by decide)⟩

/-- A one-bit field. -/
def flag (w lo : Nat) : Bool := w / 2 ^ lo % 2 == 1

/-- An instruction where its condition on the other fields holds (R331, R392). -/
def only (c : Bool) (i : Instr) : Option Instr := if c then some i else none

/-- The operand b of format A; [15:8] are 0, and [7:4] too where I = 0 (R333). -/
def decOperand (w : Nat) : Option Operand :=
  if bitsAt w 8 8 ≠ 0 then none
  else if flag w 17 then some (.imm (BitVec.ofNat 8 (bitsAt w 0 8)))
  else if bitsAt w 4 4 ≠ 0 then none else some (.reg (g4 w 0))

/-- A format A instruction with two sources, S = 0 (R344). -/
def decAlu (w : Nat) (f : Fin 16 → Fin 16 → Operand → Instr) : Option Instr :=
  if flag w 16 then none else (decOperand w).map (f (g4 w 22) (g4 w 18))

/-- A shift or rotate: imm8[7:3] is 0 (R343). -/
def decShift (w : Nat) (f : Fin 16 → Fin 16 → Operand → Instr) : Option Instr :=
  if flag w 16 then none
  else match decOperand w with
    | some b => only (shiftOk b) (f (g4 w 22) (g4 w 18) b)
    | none => none

/-- The address of format M (R334). -/
def decMem (w : Nat) : Option MemOp :=
  if bitsAt w 16 2 ≠ 0 then none
  else
    match bitsAt w 18 2 with
    | 0 => if bitsAt w 10 6 = 0 then some (.off (p2 w 20) (BitVec.ofNat 10 w)) else none
    | 1 => if bitsAt w 10 6 = 0 then some (.post (p2 w 20) (BitVec.ofNat 10 w)) else none
    | 2 => if bitsAt w 4 12 = 0 then some (.idx (p2 w 20) (g4 w 0)) else none
    | _ => if bitsAt w 20 2 = 0 then some (.abs (BitVec.ofNat 16 w)) else none

/-- r as a pointer or lk (R352, R357). -/
def decPtr (w : Nat) : Option (Fin 5) := if h : bitsAt w 22 4 < 5 then some ⟨bitsAt w 22 4, h⟩ else none

/-- A format M instruction on a pointer or lk. -/
def decMemPtr (w : Nat) (f : Fin 5 → MemOp → Instr) : Option Instr :=
  match decPtr w, decMem w with
  | some r, some m => some (f r m)
  | _, _ => none

/-- A pointer update: r is p0-p3 (R357). -/
def decPadd (w : Nat) (ok : Bool) (i : Fin 4 → Instr) : Option Instr :=
  if bitsAt w 24 2 ≠ 0 then none else only ok (i (p2 w 22))

/-- BRX (R363). -/
def decBrx (t : Fin 8) (w : Nat) : Option Instr :=
  if bitsAt w 16 2 ≠ 0 then none
  else if flag w 21 then only (bitsAt w 22 4 == 0 && bitsAt w 0 16 == 0) (.brx t (.pointer (p2 w 18)) (flag w 20))
  else only (bitsAt w 18 2 == 0) (.brx t (.index (g4 w 22) (BitVec.ofNat 16 w)) (flag w 20))

/-! ## The decoder -/

/-- Opcodes 0x00-0x0F (R335). -/
def decode0 (t : Fin 8) (op w : Nat) : Option Instr :=
  match op with
  | 0x00 => only (bitsAt w 8 18 == 0) (.trap t (BitVec.ofNat 8 w))
  | 0x01 => only (bitsAt w 0 26 == 0) (.nop t)
  | 0x02 => only (bitsAt w 0 26 == 0) (.fence t)
  | 0x03 => only (bitsAt w 0 26 == 0) (.wait t)
  | 0x04 => only (bitsAt w 0 13 == 0) (.waitb t (BitVec.ofNat 12 (bitsAt w 14 12)) (flag w 13))
  | 0x05 => only (bitsAt w 8 18 == 0) (.toll t (BitVec.ofNat 8 w))
  | 0x06 => only (bitsAt w 0 26 == 0) (.rtoll t)
  | 0x07 => only (bitsAt w 0 26 == 0) (.reti t)
  | 0x08 => only (bitsAt w 0 18 == 0) (.mov t (g4 w 22) (g4 w 18))
  | 0x09 => only (bitsAt w 8 14 == 0x200) (.movi t (g4 w 22) (BitVec.ofNat 8 w))
  | 0x0A => decAlu w (.add t)
  | 0x0B => decAlu w (.adc t)
  | 0x0C => decAlu w (.sub t)
  | 0x0D => decAlu w (.sbc t)
  | 0x0E => decAlu w (.andR t)
  | _ => decAlu w (.orR t)

/-- Opcodes 0x10-0x1F. -/
def decode1 (t : Fin 8) (op w : Nat) : Option Instr :=
  match op with
  | 0x10 => decAlu w (.xorR t)
  | 0x11 => only (bitsAt w 0 18 == 0) (.notR t (g4 w 22) (g4 w 18))
  | 0x12 => decShift w (.shl t)
  | 0x13 => decShift w (.shr t)
  | 0x14 => decShift w (.sar t)
  | 0x15 => decShift w (.rol t)
  | 0x16 => decShift w (.ror t)
  | 0x17 =>
    match decOperand w with
    | some b => only (bitsAt w 22 1 == 0) (.mul t (g4 w 22) (g4 w 18) b (flag w 16))
    | none => none
  | 0x18 => decAlu w (.seq t)
  | 0x19 => decAlu w (.sne t)
  | 0x1A => decAlu w (.slt t)
  | 0x1B => decAlu w (.sltu t)
  | 0x1C => decAlu w (.sgeu t)
  | _ => none

/-- Opcodes 0x20-0x2F. -/
def decode2 (t : Fin 8) (op w : Nat) : Option Instr :=
  let bd : BitVec 12 := BitVec.ofNat 12 (bitsAt w 14 12)
  let bs : BitVec 12 := BitVec.ofNat 12 (bitsAt w 2 12)
  let b2 : Bool := bitsAt w 12 10 == 0
  match op with
  | 0x20 => only (bitsAt w 0 14 == 0) (.setb t bd)
  | 0x21 => only (bitsAt w 0 14 == 0) (.clrb t bd)
  | 0x22 => only (bitsAt w 0 14 == 0) (.cplb t bd)
  | 0x23 => only (bitsAt w 1 1 == 0) (.movb t bd bs (flag w 0))
  | 0x24 => only (bitsAt w 1 1 == 0) (.andb t bd bs (flag w 0))
  | 0x25 => only (bitsAt w 1 1 == 0) (.orb t bd bs (flag w 0))
  | 0x26 => only (bitsAt w 1 1 == 0) (.xorb t bd bs (flag w 0))
  | 0x27 => only b2 (.ldb t (g4 w 22) (BitVec.ofNat 12 w))
  | 0x28 => only b2 (.stb t (BitVec.ofNat 12 w) (g4 w 22))
  | 0x29 => only b2 (.tsb t (g4 w 22) (BitVec.ofNat 12 w))
  | 0x2A => (decMem w).map (.ld t (g4 w 22))
  | 0x2B => (decMem w).map (.st t (g4 w 22))
  | 0x2C => decMemPtr w (.ldp t)
  | 0x2D => decMemPtr w (.stp t)
  | 0x2E =>
    match decPtr w with
    | some r => only (bitsAt w 16 6 == 0) (.pset t r (BitVec.ofNat 16 w))
    | none => none
  | _ => decPadd w (bitsAt w 10 12 == 0) fun p => .padd t p (BitVec.ofNat 10 w)

/-- Opcodes 0x30-0x3F. -/
def decode3 (t : Fin 8) (op w : Nat) : Option Instr :=
  match op with
  | 0x30 => decPadd w (bitsAt w 0 16 == 0 && paddgOk (g4 w 18) (flag w 17) (flag w 16))
      fun p => .paddg t p (g4 w 18) (flag w 17) (flag w 16)
  | 0x31 => (decMem w).map (.inp t (g4 w 22))
  | 0x32 => (decMem w).map (.out t (g4 w 22))
  | 0x33 => only (bitsAt w 16 6 == 0) (.bz t (g4 w 22) (BitVec.ofNat 16 w))
  | 0x34 => only (bitsAt w 16 6 == 0) (.bnz t (g4 w 22) (BitVec.ofNat 16 w))
  | 0x35 => some (.jb t (BitVec.ofNat 12 (bitsAt w 14 12)) (BitVec.ofNat 14 w))
  | 0x36 => some (.jnb t (BitVec.ofNat 12 (bitsAt w 14 12)) (BitVec.ofNat 14 w))
  | 0x37 => only (bitsAt w 16 10 == 0) (.jmp t (BitVec.ofNat 16 w))
  | 0x38 => only (bitsAt w 16 10 == 0) (.call t (BitVec.ofNat 16 w))
  | 0x39 => only (bitsAt w 0 26 == 0) (.ret t)
  | 0x3A => decBrx t w
  | _ => none

/-- The instruction a word of a thread encodes, `none` where the word is illegal (R331). -/
def decodeWord (t : Fin 8) (word : BitVec 32) : Option Instr :=
  let w := word.toNat
  let op := w / 2 ^ 26
  if op < 0x10 then decode0 t op w
  else if op < 0x20 then decode1 t op w
  else if op < 0x30 then decode2 t op w
  else decode3 t op w

/-! ## The encoder -/

/-- A one-bit field's value. -/
def bitNat (b : Bool) : Nat := if b then 1 else 0

/-- gd, ga, S and b of format A. -/
def encA (gd ga : Fin 16) (s : Bool) (b : Operand) : Nat :=
  gd.val * 2 ^ 22 + ga.val * 2 ^ 18 + bitNat s * 2 ^ 16 +
  match b with
  | .reg gb => gb.val
  | .imm v => 2 ^ 17 + v.toNat

/-- r, MODE and operand of format M. -/
def encM (r : Nat) (m : MemOp) : Nat :=
  r * 2 ^ 22 +
  match m with
  | .off pb s => pb.val * 2 ^ 20 + s.toNat
  | .post pb s => pb.val * 2 ^ 20 + 2 ^ 18 + s.toNat
  | .idx pb gx => pb.val * 2 ^ 20 + 2 * 2 ^ 18 + gx.val
  | .abs a => 3 * 2 ^ 18 + a.toNat

/-- bd, bs and N of format B1. -/
def encB (bd bs : BitVec 12) (n : Bool) : Nat := bd.toNat * 2 ^ 14 + bs.toNat * 4 + bitNat n

/-- Major opcode and fields of an instruction, `none` for a command that is no instruction (R335). -/
def encFields (i : Instr) : Option (Nat × Nat) :=
  match i with
  | .trap _ n => some (0x00, n.toNat)
  | .nop _ => some (0x01, 0)
  | .fence _ => some (0x02, 0)
  | .wait _ => some (0x03, 0)
  | .waitb _ b v => some (0x04, b.toNat * 2 ^ 14 + bitNat v * 2 ^ 13)
  | .toll _ n => some (0x05, n.toNat)
  | .rtoll _ => some (0x06, 0)
  | .reti _ => some (0x07, 0)
  | .mov _ gd ga => some (0x08, gd.val * 2 ^ 22 + ga.val * 2 ^ 18)
  | .movi _ gd v => some (0x09, gd.val * 2 ^ 22 + 2 ^ 17 + v.toNat)
  | .add _ gd ga b => some (0x0A, encA gd ga false b)
  | .adc _ gd ga b => some (0x0B, encA gd ga false b)
  | .sub _ gd ga b => some (0x0C, encA gd ga false b)
  | .sbc _ gd ga b => some (0x0D, encA gd ga false b)
  | .andR _ gd ga b => some (0x0E, encA gd ga false b)
  | .orR _ gd ga b => some (0x0F, encA gd ga false b)
  | .xorR _ gd ga b => some (0x10, encA gd ga false b)
  | .notR _ gd ga => some (0x11, gd.val * 2 ^ 22 + ga.val * 2 ^ 18)
  | .shl _ gd ga b => some (0x12, encA gd ga false b)
  | .shr _ gd ga b => some (0x13, encA gd ga false b)
  | .sar _ gd ga b => some (0x14, encA gd ga false b)
  | .rol _ gd ga b => some (0x15, encA gd ga false b)
  | .ror _ gd ga b => some (0x16, encA gd ga false b)
  | .mul _ gd ga b s => some (0x17, encA gd ga s b)
  | .seq _ gd ga b => some (0x18, encA gd ga false b)
  | .sne _ gd ga b => some (0x19, encA gd ga false b)
  | .slt _ gd ga b => some (0x1A, encA gd ga false b)
  | .sltu _ gd ga b => some (0x1B, encA gd ga false b)
  | .sgeu _ gd ga b => some (0x1C, encA gd ga false b)
  | .setb _ bd => some (0x20, encB bd 0 false)
  | .clrb _ bd => some (0x21, encB bd 0 false)
  | .cplb _ bd => some (0x22, encB bd 0 false)
  | .movb _ bd bs n => some (0x23, encB bd bs n)
  | .andb _ bd bs n => some (0x24, encB bd bs n)
  | .orb _ bd bs n => some (0x25, encB bd bs n)
  | .xorb _ bd bs n => some (0x26, encB bd bs n)
  | .ldb _ g b => some (0x27, g.val * 2 ^ 22 + b.toNat)
  | .stb _ b g => some (0x28, g.val * 2 ^ 22 + b.toNat)
  | .tsb _ g b => some (0x29, g.val * 2 ^ 22 + b.toNat)
  | .ld _ r m => some (0x2A, encM r.val m)
  | .st _ r m => some (0x2B, encM r.val m)
  | .ldp _ r m => some (0x2C, encM r.val m)
  | .stp _ r m => some (0x2D, encM r.val m)
  | .pset _ r v => some (0x2E, r.val * 2 ^ 22 + v.toNat)
  | .padd _ p v => some (0x2F, p.val * 2 ^ 22 + v.toNat)
  | .paddg _ p ga w s => some (0x30, p.val * 2 ^ 22 + ga.val * 2 ^ 18 + bitNat w * 2 ^ 17 + bitNat s * 2 ^ 16)
  | .inp _ r m => some (0x31, encM r.val m)
  | .out _ r m => some (0x32, encM r.val m)
  | .bz _ ga o => some (0x33, ga.val * 2 ^ 22 + o.toNat)
  | .bnz _ ga o => some (0x34, ga.val * 2 ^ 22 + o.toNat)
  | .jb _ b o => some (0x35, b.toNat * 2 ^ 14 + o.toNat)
  | .jnb _ b o => some (0x36, b.toNat * 2 ^ 14 + o.toNat)
  | .jmp _ a => some (0x37, a.toNat)
  | .call _ a => some (0x38, a.toNat)
  | .ret _ => some (0x39, 0)
  | .brx _ (.index ga base) l => some (0x3A, ga.val * 2 ^ 22 + bitNat l * 2 ^ 20 + base.toNat)
  | .brx _ (.pointer ps) l => some (0x3A, 2 ^ 21 + bitNat l * 2 ^ 20 + ps.val * 2 ^ 18)
  | _ => none

/-- The word of an instruction. -/
def encodeWord (i : Instr) : Option (BitVec 32) :=
  match encFields i with
  | some (op, x) => some (BitVec.ofNat 32 (op * 2 ^ 26 + x))
  | none => none

/-- The thread of an instruction (0 for a command that is none). -/
def Instr.thread (i : Instr) : Fin 8 :=
  match i with
  | .trap t _ | .nop t | .fence t | .wait t | .waitb t .. | .toll t _ | .rtoll t | .reti t | .mov t .. | .movi t .. | .add t ..
  | .adc t .. | .sub t .. | .sbc t .. | .andR t .. | .orR t .. | .xorR t .. | .notR t .. | .shl t .. | .shr t .. | .sar t ..
  | .rol t .. | .ror t .. | .mul t .. | .seq t .. | .sne t .. | .slt t .. | .sltu t .. | .sgeu t .. | .setb t _ | .clrb t _
  | .cplb t _ | .movb t .. | .andb t .. | .orb t .. | .xorb t .. | .ldb t .. | .stb t .. | .tsb t .. | .ld t .. | .st t ..
  | .ldp t .. | .stp t .. | .pset t .. | .padd t .. | .paddg t .. | .inp t .. | .out t .. | .bz t .. | .bnz t .. | .jb t ..
  | .jnb t .. | .jmp t _ | .call t _ | .ret t | .brx t .. => t
  | _ => 0

/-! ## The host's words -/

/-- The command that a word spells by the table's bits: no row of the table has bits, so none. -/
def decodeTableWord (_nbits _w : Nat) : Option Instr := none

end Sys2Proof
end

