-- ==== Sys2Proof/Config.lean ====
section
/-!
DEFINITION. What the spec leaves open, as constants without a body: nothing in Lean can evaluate them or prove a value of
them. A constant applied to `State.fresh`, a plain counter the step advances, is a fresh free value each time.
-/
namespace Sys2Proof.Config

/-- The die serial number that DBG_UID reads: fixed per die (chapter 21, Registers). -/
opaque dieSerial : Quad

/-- The key material the TRNG and its conditioning give for the n-th key generated (R495). -/
opaque sealKey : Nat → BitVec 128

/-- A free 32-bit value, one per count of `State.fresh`: a value the spec does not state. -/
opaque free : Nat → Quad

/-- Whether an edge of the 32.768 kHz clock that the RTC counts comes on the n-th time-base tick (R196, R227: the AO oscillators keep no
stated phase to the time base). -/
opaque rtcEdge : Nat → Bool

/-- Whether a millisecond of the watchdog's 1 MHz RC oscillator ends on the n-th time-base tick (R201, R227). -/
opaque wdtMs : Nat → Bool

/-- CORE cycles that pass in the n-th time-base tick (R216, R219: the spread makes the number vary). -/
opaque coreCycles : Nat → Nat

/-- CORE cycles from the capture of a transfer until its source sees the acknowledge low and the slot is free (R233), by crossing and count of
free values; only the sustained rate is stated (R238). -/
opaque ackCycles : Nat → Nat → Nat

/-- Whether VDD33 is above 0.8 V while it is below its release threshold, by the count of free values and the CORE cycle (R63, R92, R130). -/
opaque padsUp : Nat → Nat → Bool

/-- The level of a pad that nothing drives or pulls, by pad, count of free values and CORE cycle. -/
opaque floating : Nat → Nat → Nat → Bool

/-- The level of an output whose bits at a moment the spec does not give, by pin, count of free values and CORE cycle. -/
opaque lineBit : Nat → Nat → Nat → Bool

/-- Lines of the tag array that a REKEY's sweep passes in the n-th time-base tick (R510: the sweep ends within 23 us; how far it is at a
moment is not stated). -/
opaque sweepLines : Nat → Nat

end Sys2Proof.Config
end

