-- ==== Sys2Proof/Machine/RegName.lean ====
section
/-!
DEFINITION. The names of the device's registers, one per register or register array of the chapters' Registers sections,
the islands that hold them (R29, R1178, R1179) and the form of one row of the register table.
-/
namespace Sys2Proof.Machine
/-- The clock islands (R29); LINK has its USB part and its Ethernet part (R218). -/
inductive Island where
  | core | fabric | print | serial | usb | eth | ao
  deriving DecidableEq, Repr

/-- Who may access a register (R10, R1184): `keeper` is code K, `both` code KN, `block b step` code N where instance `i`
follows hand-over block `b + step * i`, `pin` code N by PIN_WORLDn, `source` code N by the source's world (R531),
`nvBlock` is K for command block 0 and KN for block 1, `nvRing` K for rings 0-3 and KN for rings 4-7. -/
inductive WorldCode where
  | keeper | both | pin | source | nvBlock | nvRing
  | block (base step : Nat)
  deriving DecidableEq, Repr

/-- The registers of I/O space by the spec's names (an array of registers has one name and an index). -/
inductive Rg where
  | THR_CTL | THR_STAT | THR_STARTPC | THR_PC | THR_EPC | THR_WORLD | THR_ICOUNT | THR_TRAP | ICU_SRC | ICU_SWORLD 
  | ICU_CTL | ICU_VBASE | ICU_CUR | PMU_MODE | PMU_CTL | PMU_RSTCAUSE | PMU_BOOTSTAT | PMU_STBYSTAT | PMU_IMAP 
  | PMU_WDTCTL | PMU_WDTLOAD | PMU_WDTKICK | PMU_WDTCNT | CLK_STAT | CLK_CTL | CLK_SSA | CLK_SSB | CLK_FAIL 
  | CLK_XSTALL | CLK_TIME | PMU_SLOTMAP | PMU_SLOTSTAT | PMU_DISHOLD | PMU_DISAGREE | PMU_DISF | TG_CTL | TG_STAT 
  | TG_KRST | TG_KVEC | TG_BUDGET | TG_IWM | TG_NWM | TG_DBGEN | TG_VIOL | TG_GRANT | TG_HOLIMIT | TG_IRADDR 
  | TG_IRDATA | TG_TREM | TG_HO | SEAL_PTIDX | SEAL_PTDATA | SEAL_STAT | SEAL_STRICT | SEAL_REKEY | SEAL_FAULT 
  | SEAL_FAGENT | SEAL_LTIDX | SEAL_LTDATA | WIN_B0 | WIN_B1 | WIN_B2 | WIN_OWN | WIN_STAT | HOP_AREQ | HOP_ARES 
  | HOP_FREE | HOP_FERR | HOP_SPILL | HOP_RSVIDX | HOP_RSVDATA | HOP_HELDDATA | HOP_STAT | HOP_PCTL | HOP_PSTAT 
  | HOP_PCOUNT | HOP_PBASE | HOP_PFREE | HOP_PLOW | HOP_BUFIDX | HOP_BUFSTAT | LED_STAT | LED_REBASE | LED_SETTLEMAX 
  | LED_IMB | LED_FAILED | LED_UNSET | LED_BAL | LED_TIDX | LED_TDATA | LED_WOIDX | LED_WODATA | LED_WOCNT | EC_CTL 
  | EC_SEL | EC_STAT | EC_COUNT | EC_LAST | RING_CFG | RING_CTL | RING_STAT | RING_BASE | RING_CQBASE | RING_CQCFG 
  | RING_POST | RING_TAIL | RING_FETCH | RING_RECL | RING_HELD | RING_OUTST | RING_CQHEAD | RING_ERRIDX | RING_NCOMPL 
  | MR_CTL | MR_STATE | MR_FAULT | MR_STAT | MR_DOTS | MR_GEOM | MR_SHRATE | MR_TLINE | MR_TLMIN | MR_REGAIN 
  | MR_SLOWPCT | MR_GIVEUP | MR_LATEACC | MR_PGAP | MR_HGAIN | MR_SPW | MR_TREF | MR_TCOEF | MR_VREF | MR_VSCALE 
  | MR_VMIN | MR_VMAX | MR_RDOT | MR_TOKPOOL | MR_MAXDOTS | MR_HCTRIP | MR_HCBLANK | MR_STBMAX | MR_TSLOW | MR_TSTOP 
  | MR_THYST | MR_LIMLOCK | MR_PWRDLY | MR_REQLOW | MR_ROWAHEAD | MR_TEMP | MR_VHEAD | MR_KT | MR_KV | MR_K | MR_HOFF 
  | MR_DRAW | MR_LINES | MR_TTAB | MR_ETAB | PP_FCTL | PP_FSTATE | PP_FFAULT | PP_FSTAT | PP_FCFG | PP_FSAFE 
  | PP_IRUN | PP_IHOLD | PP_IMAX | PP_CHOP | PP_HOLDT | PP_ITAB | PP_MOVE | PP_TSTEP | PP_TSTART | PP_TSMIN 
  | PP_RAMPN | PP_REGAIN | PP_GIVEUP | PP_LATEACC | PP_MOVESTAT | PP_PEND | PP_POS | PP_YCFG | PP_RIPTH | PP_RIPN 
  | PP_RIPLEARN | PP_BEMFTH | PP_BEMFN | PP_RIPBASE | PP_RIPLAST | PP_SNSCTL | PP_SNSPER | PP_EMITSET | PP_SNSBMIN 
  | PP_SNSCFG | PP_SNSTHR | PP_SNSN | PP_SNSSTAT | PP_SNSBASE | PP_SNSS | PP_INPOL | PP_INDB | PP_BTNDB | PP_CCTL 
  | PP_CSTATE | PP_CFAULT | PP_CSTAT | PP_CUTTMO | PP_CUTLEAVE | PP_CUTDB | PP_BRKT | PP_JOGT | PP_DCTL | PP_DSTATE 
  | PP_DPULSE | PP_DCOOL | PP_BELLON | PP_BELLOFF | PP_BELLCNT | PP_BELLCTL | PP_LEDMODE | PP_LEDON | PP_LEDOFF 
  | PP_LEDCNT | PP_LEDREP | PP_LIMLOCK | ADC_SEQCTL | ADC_SEQLEN | ADC_SEQPER | ADC_SEQ | ADC_RES | ADC_LAST 
  | ADC_WININ | ADC_WINLO | ADC_WINHI | ADC_WINSTAT | USB_CTL | USB_STATE | USB_STAT | USB_ADDR | USB_FRAME 
  | USB_EP0CTL | USB_EP0LEN | USB_SETUP | USB_EP0BUF | USB_EPCFG | USB_EPMPS | USB_EPSTAT | ETH_CTL | ETH_STATE 
  | ETH_MACCFG | ETH_FILT | ETH_MACAL | ETH_MACAH | ETH_HASHL | ETH_HASHH | ETH_RXPHI | ETH_RXPLO | ETH_PQUANTA 
  | ETH_MDCMD | ETH_MDDATA | ETH_MDPOLL | ETH_STAT | ETH_RXFILL | UART_CTL | UART_STATE | UART_FMT | UART_DIV 
  | UART_STAT | UART_DATA | UART_RXCNT | UART_TXCNT | UART_RXTH | UART_TXTH | UART_RTSHI | UART_RTSLO | UART_IDLECH 
  | UART_LINES | KX_CTL | KX_STATE | KX_CFG | KX_ADDR | KX_STAT | KX_RETRY | KX_ACKDLY | KX_LONEWIN | KX_LONEBCN 
  | KX_DUPWIN | KX_LASTNA | KX_NACNT | WP_CTL | WP_CFG | WP_OP | WP_WLEN | WP_RLEN | WP_STAT | WP_RESULT | WP_IDCOUNT 
  | WP_IDFOUND | WP_IDCRC | WP_LASTDISC | WP_TX | WP_RX | WP_ID | SPI_STAT | SPI_FAULT | SPI_STRMAX | SPI_CSCFG 
  | SPI_WINCFG | SPI_WINCMD | SPI_CACHE | SPI_HITS | SPI_MISSES | SPI_LDCTL | SPI_LDADDR | SPI_LDLEN | SPI_LDIRW 
  | SPI_LDCOUNT | NVB_CMD | NVB_RES | NVB_ADDR | NVB_LEN | NVB_PAGEB | NVB_TYPE | NVB_SEL | NVB_IDX | NVB_VALUE 
  | NVB_SEQ | NVB_DONEPG | NVB_BUFIDX | NVB_BUFDATA | NV_CTL | NV_STATE | NV_STAT | NV_WEARWARN | NV_PGIDX 
  | NV_PGSTAT | NV_RS | NV_MC | NV_MCSTAT | NV_RINGCFG | NV_MSKIDX | NV_MSKTYPE | NV_MSKDATA | PIN_MUX | PIN_PAD 
  | PIN_STAT | PIN_WORLD | RTC_SEC | RTC_SUB | RTC_SET | RTC_ALARM | RTC_CTL | RTC_STAT | RTC_TRIM | RTC_WAKEEN 
  | RTC_WAKEPOL | RTC_WAKESRC | RTC_FLAGS | RTC_WAKEVEC | RTC_RRADDRK | RTC_RRDATAK | RTC_RRADDRN | RTC_RRDATAN 
  | DBG_ID | DBG_UID | DBG_USBID | DBG_STAT | DBG_HALT | DBG_RESUME | DBG_STEP | DBG_HSTAT | DBG_HCAUSE | DBG_REGSEL 
  | DBG_REGDATA | DBG_BP | DBG_WPA | DBG_WPM | DBG_GROUP | DBG_PCSAMP | DBG_TMO | DBG_ARM 
  deriving DecidableEq, Repr

/-- One row of the register table: lowest address of instance 0, distance between instances, number of instances, bytes,
world code, island, and the bits with access RW, W1C and (kept when written 1) W1S (R11). -/
structure RegInfo where
  base : Nat
  stride : Nat
  count : Nat
  bytes : Nat
  world : WorldCode
  island : Island
  rw : BitVec 32
  w1c : BitVec 32
  w1s : BitVec 32
  deriving DecidableEq, Repr

end Sys2Proof.Machine
end

