-- ==== Sys2Proof/Machine/RegTable.lean ====
section
/-!
DEFINITION. The register table: address, stride, count, width, world code, island and access masks of every register of
I/O space, each row from the Registers section of the chapter its comment names, and the reset values (R19).
-/
namespace Sys2Proof.Machine

/-- The row of each register. -/
def regInfo (r : Rg) : RegInfo :=
  match r with
  | .THR_CTL => ⟨0x0100, 0x20, 8, 1, .keeper, .core, 0x0, 0x0, 0x0⟩  -- ch 05 R303 R309
  | .THR_STAT => ⟨0x0101, 0x20, 8, 1, .both, .core, 0x0, 0x0, 0x0⟩  -- ch 05 R301
  | .THR_STARTPC => ⟨0x0102, 0x20, 8, 2, .keeper, .core, 0xFFFF, 0x0, 0x0⟩  -- ch 05 R303
  | .THR_PC => ⟨0x0104, 0x20, 8, 2, .both, .core, 0x0, 0x0, 0x0⟩  -- ch 05 Registers
  | .THR_EPC => ⟨0x0106, 0x20, 8, 2, .both, .core, 0x0, 0x0, 0x0⟩  -- ch 05 R266
  | .THR_WORLD => ⟨0x0108, 0x20, 8, 1, .keeper, .core, 0x1, 0x0, 0x2⟩  -- ch 05 R308
  | .THR_ICOUNT => ⟨0x010C, 0x20, 8, 4, .both, .core, 0x0, 0x0, 0x0⟩  -- ch 05 R379
  | .THR_TRAP => ⟨0x0110, 0x20, 8, 4, .keeper, .core, 0x0, 0xC0000000, 0x0⟩  -- ch 06 R375
  | .ICU_SRC => ⟨0x0200, 0x2, 128, 2, .source, .core, 0xFF07, 0x0, 0x0⟩  -- ch 10 R532
  | .ICU_SWORLD => ⟨0x0300, 0x1, 16, 1, .keeper, .core, 0xFF, 0x0, 0x0⟩  -- ch 10 R531
  | .ICU_CTL => ⟨0x0310, 0x0, 1, 1, .keeper, .core, 0x0, 0x0, 0x1⟩  -- ch 10 R550
  | .ICU_VBASE => ⟨0x0320, 0x2, 16, 2, .keeper, .core, 0xFFFF, 0x0, 0x0⟩  -- ch 10 R533
  | .ICU_CUR => ⟨0x0340, 0x1, 8, 1, .both, .core, 0x0, 0x0, 0x0⟩  -- ch 10 R541
  | .PMU_MODE => ⟨0x0400, 0x0, 1, 1, .keeper, .core, 0x0, 0x0, 0x0⟩  -- ch 03 R174
  | .PMU_CTL => ⟨0x0401, 0x0, 1, 1, .keeper, .core, 0x3, 0x0, 0x0⟩  -- ch 03 R177
  | .PMU_RSTCAUSE => ⟨0x0402, 0x0, 1, 1, .keeper, .ao, 0x0, 0x3F, 0x0⟩  -- ch 03 R138
  | .PMU_BOOTSTAT => ⟨0x0403, 0x0, 1, 1, .both, .core, 0x0, 0x0, 0x0⟩  -- ch 03 R163
  | .PMU_STBYSTAT => ⟨0x0404, 0x0, 1, 1, .keeper, .core, 0x0, 0x0, 0x0⟩  -- ch 03 R183
  | .PMU_IMAP => ⟨0x0405, 0x0, 1, 1, .keeper, .core, 0x0, 0x0, 0x1⟩  -- ch 03 R168
  | .PMU_WDTCTL => ⟨0x0408, 0x0, 1, 1, .keeper, .ao, 0x0, 0x0, 0x1⟩  -- ch 03 R201
  | .PMU_WDTLOAD => ⟨0x040A, 0x0, 1, 2, .keeper, .ao, 0xFFFF, 0x0, 0x0⟩  -- ch 03 R203
  | .PMU_WDTKICK => ⟨0x040C, 0x0, 1, 1, .keeper, .ao, 0x0, 0x0, 0x0⟩  -- ch 03 R202
  | .PMU_WDTCNT => ⟨0x040E, 0x0, 1, 2, .keeper, .ao, 0x0, 0x0, 0x0⟩  -- ch 03 R201
  | .CLK_STAT => ⟨0x0440, 0x0, 1, 1, .both, .core, 0x0, 0x0, 0x0⟩  -- ch 03 R141
  | .CLK_CTL => ⟨0x0441, 0x0, 1, 1, .keeper, .core, 0x27, 0x0, 0x10⟩  -- ch 03 R142
  | .CLK_SSA => ⟨0x0442, 0x0, 1, 1, .keeper, .core, 0x3F, 0x0, 0x0⟩  -- ch 04 R220
  | .CLK_SSB => ⟨0x0443, 0x0, 1, 1, .keeper, .core, 0x3F, 0x0, 0x0⟩  -- ch 04 R221
  | .CLK_FAIL => ⟨0x0444, 0x0, 1, 1, .keeper, .core, 0x0, 0x1F, 0x0⟩  -- ch 04 R254
  | .CLK_XSTALL => ⟨0x0445, 0x0, 1, 1, .keeper, .core, 0x0, 0x0, 0x0⟩  -- ch 04 R259
  | .CLK_TIME => ⟨0x0448, 0x0, 1, 4, .both, .core, 0x0, 0x0, 0x0⟩  -- ch 04 R225
  | .PMU_SLOTMAP => ⟨0x0480, 0x0, 1, 4, .keeper, .core, 0xFFFFFF, 0x0, 0x0⟩  -- ch 07 R399
  | .PMU_SLOTSTAT => ⟨0x0484, 0x0, 1, 1, .both, .core, 0x0, 0x2, 0x0⟩  -- ch 07 R400
  | .PMU_DISHOLD => ⟨0x04C0, 0x0, 1, 2, .keeper, .core, 0xFFFF, 0x0, 0x0⟩  -- ch 23 R1153
  | .PMU_DISAGREE => ⟨0x04C4, 0x0, 1, 2, .both, .core, 0x0, 0x0, 0x0⟩  -- ch 23 R1152
  | .PMU_DISF => ⟨0x04C8, 0x0, 1, 2, .keeper, .core, 0x0, 0x7FF, 0x0⟩  -- ch 23 R1153
  | .TG_CTL => ⟨0x0500, 0x0, 1, 1, .keeper, .core, 0x1, 0x0, 0x2⟩  -- ch 08 R431
  | .TG_STAT => ⟨0x0501, 0x0, 1, 1, .both, .core, 0x0, 0x0, 0x0⟩  -- ch 08 R434
  | .TG_KRST => ⟨0x0502, 0x0, 1, 1, .keeper, .core, 0x0, 0x8, 0x0⟩  -- ch 08 R440
  | .TG_KVEC => ⟨0x0504, 0x0, 1, 2, .keeper, .core, 0xFFFF, 0x0, 0x0⟩  -- ch 08 R371
  | .TG_BUDGET => ⟨0x0506, 0x0, 1, 2, .keeper, .core, 0xFFFF, 0x0, 0x0⟩  -- ch 08 R429
  | .TG_IWM => ⟨0x0508, 0x0, 1, 1, .keeper, .core, 0x7F, 0x0, 0x80⟩  -- ch 08 R444
  | .TG_NWM => ⟨0x050A, 0x0, 1, 2, .keeper, .core, 0x3FF, 0x0, 0x8000⟩  -- ch 08 R447
  | .TG_DBGEN => ⟨0x050C, 0x0, 1, 1, .keeper, .core, 0x0, 0xF, 0x0⟩  -- ch 08 R473
  | .TG_VIOL => ⟨0x0510, 0x0, 1, 4, .keeper, .core, 0x0, 0xC0000000, 0x0⟩  -- ch 08 R472
  | .TG_GRANT => ⟨0x0540, 0x2, 8, 2, .keeper, .core, 0x7FFE, 0x0, 0x0⟩  -- ch 08 R454
  | .TG_HOLIMIT => ⟨0x0580, 0x0, 1, 2, .keeper, .core, 0xFFFF, 0x0, 0x0⟩  -- ch 08 R463
  | .TG_IRADDR => ⟨0x0590, 0x0, 1, 2, .both, .core, 0xFFFF, 0x0, 0x0⟩  -- ch 05 R321
  | .TG_IRDATA => ⟨0x0594, 0x0, 1, 4, .both, .core, 0xFFFFFFFF, 0x0, 0x0⟩  -- ch 05 R319 R320
  | .TG_TREM => ⟨0x05A0, 0x2, 8, 2, .both, .core, 0x0, 0x0, 0x0⟩  -- ch 08 R429
  | .TG_HO => ⟨0x05C0, 0x2, 31, 2, .keeper, .core, 0xF00, 0x30, 0x40⟩  -- ch 08 R462
  | .SEAL_PTIDX => ⟨0x0600, 0x0, 1, 2, .keeper, .fabric, 0x3FF, 0x0, 0x0⟩  -- ch 08 R452
  | .SEAL_PTDATA => ⟨0x0602, 0x0, 1, 1, .keeper, .fabric, 0x0, 0x0, 0x0⟩  -- ch 08 R452
  | .SEAL_STAT => ⟨0x0604, 0x0, 1, 1, .keeper, .fabric, 0x0, 0x2, 0x0⟩  -- ch 09 R496
  | .SEAL_STRICT => ⟨0x0606, 0x0, 1, 2, .keeper, .fabric, 0x7FFF, 0x0, 0x0⟩  -- ch 09 R503
  | .SEAL_REKEY => ⟨0x0608, 0x0, 1, 1, .keeper, .fabric, 0xF, 0x40, 0x0⟩  -- ch 09 R510
  | .SEAL_FAULT => ⟨0x0610, 0x0, 1, 4, .keeper, .fabric, 0x0, 0xC0000000, 0x0⟩  -- ch 09 R504
  | .SEAL_FAGENT => ⟨0x0614, 0x0, 1, 1, .keeper, .fabric, 0x0, 0x0, 0x0⟩  -- ch 09 R504
  | .SEAL_LTIDX => ⟨0x0618, 0x0, 1, 4, .keeper, .fabric, 0x1FFFF, 0x0, 0x0⟩  -- ch 09 R517
  | .SEAL_LTDATA => ⟨0x061C, 0x0, 1, 1, .keeper, .fabric, 0x0, 0x0, 0x0⟩  -- ch 09 R517
  | .WIN_B0 => ⟨0x0700, 0x10, 16, 2, .keeper, .core, 0xFFF, 0x0, 0x0⟩  -- ch 05 R283
  | .WIN_B1 => ⟨0x0702, 0x10, 16, 2, .keeper, .core, 0xFFF, 0x0, 0x0⟩  -- ch 05 R283
  | .WIN_B2 => ⟨0x0704, 0x10, 16, 2, .keeper, .core, 0xFFF, 0x0, 0x0⟩  -- ch 05 R283
  | .WIN_OWN => ⟨0x0706, 0x10, 16, 2, .keeper, .core, 0xFFF, 0x0, 0x0⟩  -- ch 05 R284 R287
  | .WIN_STAT => ⟨0x0708, 0x10, 16, 1, .keeper, .core, 0x0, 0x1, 0x0⟩  -- ch 05 R287
  | .HOP_AREQ => ⟨0x0800, 0x0, 1, 4, .both, .fabric, 0xF3FFF, 0x0, 0x0⟩  -- ch 12 R615
  | .HOP_ARES => ⟨0x0804, 0x0, 1, 4, .both, .fabric, 0x0, 0x0, 0x0⟩  -- ch 12 R615 R617
  | .HOP_FREE => ⟨0x0808, 0x0, 1, 2, .both, .fabric, 0x0, 0x0, 0x0⟩  -- ch 12 R626
  | .HOP_FERR => ⟨0x080C, 0x0, 1, 4, .keeper, .fabric, 0x0, 0xC0000000, 0x0⟩  -- ch 12 R627
  | .HOP_SPILL => ⟨0x0810, 0x0, 1, 2, .keeper, .fabric, 0x7FFF, 0x0, 0x0⟩  -- ch 12 R625
  | .HOP_RSVIDX => ⟨0x0814, 0x0, 1, 1, .keeper, .fabric, 0x3F, 0x0, 0x0⟩  -- ch 12 R1255
  | .HOP_RSVDATA => ⟨0x0816, 0x0, 1, 2, .keeper, .fabric, 0x1FFF, 0x0, 0x0⟩  -- ch 12 R624
  | .HOP_HELDDATA => ⟨0x0818, 0x0, 1, 2, .both, .fabric, 0x0, 0x0, 0x0⟩  -- ch 12 R622
  | .HOP_STAT => ⟨0x081A, 0x0, 1, 1, .keeper, .fabric, 0x0, 0x11, 0x0⟩  -- ch 12 R609
  | .HOP_PCTL => ⟨0x0840, 0x10, 4, 1, .keeper, .fabric, 0x0, 0x0, 0x0⟩  -- ch 12 R609 R612
  | .HOP_PSTAT => ⟨0x0841, 0x10, 4, 1, .both, .fabric, 0x0, 0x6, 0x0⟩  -- ch 12 R631
  | .HOP_PCOUNT => ⟨0x0842, 0x10, 4, 2, .keeper, .fabric, 0x1FFF, 0x0, 0x0⟩  -- ch 12 R608
  | .HOP_PBASE => ⟨0x0844, 0x10, 4, 4, .keeper, .fabric, 0xFFF000, 0x0, 0x0⟩  -- ch 12 R608
  | .HOP_PFREE => ⟨0x0848, 0x10, 4, 2, .both, .fabric, 0x0, 0x0, 0x0⟩  -- ch 12 Registers
  | .HOP_PLOW => ⟨0x084A, 0x10, 4, 2, .keeper, .fabric, 0x1FFF, 0x0, 0x0⟩  -- ch 12 R608
  | .HOP_BUFIDX => ⟨0x0880, 0x0, 1, 2, .keeper, .fabric, 0xFFFF, 0x0, 0x0⟩  -- ch 12 R632
  | .HOP_BUFSTAT => ⟨0x0882, 0x0, 1, 1, .keeper, .fabric, 0x0, 0x0, 0x0⟩  -- ch 12 R632
  | .LED_STAT => ⟨0x0900, 0x0, 1, 1, .both, .fabric, 0x0, 0xD, 0x0⟩  -- ch 13 R665
  | .LED_REBASE => ⟨0x0901, 0x0, 1, 1, .keeper, .fabric, 0x1F, 0x0, 0x0⟩  -- ch 13 R669
  | .LED_SETTLEMAX => ⟨0x0902, 0x0, 1, 2, .keeper, .fabric, 0xFFFF, 0x0, 0x0⟩  -- ch 13 R657
  | .LED_IMB => ⟨0x0904, 0x0, 1, 4, .keeper, .fabric, 0x0, 0xC0000000, 0x0⟩  -- ch 13 R665
  | .LED_FAILED => ⟨0x0908, 0x0, 1, 4, .keeper, .fabric, 0x0, 0x0, 0x0⟩  -- ch 13 R666
  | .LED_UNSET => ⟨0x090C, 0x0, 1, 4, .keeper, .fabric, 0x0, 0xFFFFFF, 0x0⟩  -- ch 13 R657
  | .LED_BAL => ⟨0x0910, 0x0, 1, 4, .both, .fabric, 0x0, 0x0, 0x0⟩  -- ch 13 R655
  | .LED_TIDX => ⟨0x0914, 0x0, 1, 2, .keeper, .fabric, 0x71F, 0x0, 0x0⟩  -- ch 13 R671
  | .LED_TDATA => ⟨0x0918, 0x0, 1, 4, .keeper, .fabric, 0x0, 0x0, 0x0⟩  -- ch 13 R671
  | .LED_WOIDX => ⟨0x091C, 0x0, 1, 1, .keeper, .fabric, 0xF, 0x0, 0x0⟩  -- ch 13 R671
  | .LED_WODATA => ⟨0x0920, 0x0, 1, 4, .keeper, .fabric, 0x0, 0x0, 0x0⟩  -- ch 13 R671
  | .LED_WOCNT => ⟨0x0924, 0x0, 1, 2, .keeper, .fabric, 0x0, 0x0, 0x0⟩  -- ch 13 R662
  | .EC_CTL => ⟨0x0A00, 0x20, 8, 1, (.block 23 1), .core, 0x3F, 0x0, 0x0⟩  -- ch 22 R1126
  | .EC_SEL => ⟨0x0A02, 0x20, 8, 1, (.block 23 1), .core, 0xFF, 0x0, 0x0⟩  -- ch 22 R1126
  | .EC_STAT => ⟨0x0A03, 0x20, 8, 1, (.block 23 1), .core, 0x0, 0x3, 0x0⟩  -- ch 22 R1133
  | .EC_COUNT => ⟨0x0A04, 0x20, 8, 4, (.block 23 1), .core, 0xFFFFFFFF, 0x0, 0x0⟩  -- ch 22 R1134
  | .EC_LAST => ⟨0x0A08, 0x20, 8, 4, (.block 23 1), .core, 0x0, 0x0, 0x0⟩  -- ch 22 R1130
  | .RING_CFG => ⟨0x1000, 0x40, 16, 2, (.block 7 1), .fabric, 0xFFF, 0x0, 0x0⟩  -- ch 11 R564 R597
  | .RING_CTL => ⟨0x1002, 0x40, 16, 1, (.block 7 1), .fabric, 0x0, 0x0, 0x0⟩  -- ch 11 R1252
  | .RING_STAT => ⟨0x1003, 0x40, 16, 1, (.block 7 1), .fabric, 0x0, 0x8, 0x0⟩  -- ch 11 R596
  | .RING_BASE => ⟨0x1004, 0x40, 16, 4, (.block 7 1), .fabric, 0xFFFF00, 0x0, 0x0⟩  -- ch 11 R564
  | .RING_CQBASE => ⟨0x1008, 0x40, 16, 4, (.block 7 1), .fabric, 0xFFFF00, 0x0, 0x0⟩  -- ch 11 R564
  | .RING_CQCFG => ⟨0x100C, 0x40, 16, 1, (.block 7 1), .fabric, 0xF, 0x0, 0x0⟩  -- ch 11 R564
  | .RING_POST => ⟨0x1010, 0x40, 16, 2, (.block 7 1), .fabric, 0x0, 0x0, 0x0⟩  -- ch 11 R577
  | .RING_TAIL => ⟨0x1012, 0x40, 16, 2, (.block 7 1), .fabric, 0x0, 0x0, 0x0⟩  -- ch 11 R577
  | .RING_FETCH => ⟨0x1014, 0x40, 16, 2, (.block 7 1), .fabric, 0x0, 0x0, 0x0⟩  -- ch 11 R581
  | .RING_RECL => ⟨0x1016, 0x40, 16, 2, (.block 7 1), .fabric, 0x0, 0x0, 0x0⟩  -- ch 11 R579
  | .RING_HELD => ⟨0x1018, 0x40, 16, 1, (.block 7 1), .fabric, 0x0, 0x0, 0x0⟩  -- ch 11 R563
  | .RING_OUTST => ⟨0x101A, 0x40, 16, 2, (.block 7 1), .fabric, 0x0, 0x0, 0x0⟩  -- ch 11 Registers
  | .RING_CQHEAD => ⟨0x101C, 0x40, 16, 2, (.block 7 1), .fabric, 0x0, 0x0, 0x0⟩  -- ch 11 R588
  | .RING_ERRIDX => ⟨0x101E, 0x40, 16, 2, (.block 7 1), .fabric, 0x0, 0x8000, 0x0⟩  -- ch 11 R596
  | .RING_NCOMPL => ⟨0x1020, 0x40, 16, 4, (.block 7 1), .fabric, 0x0, 0x0, 0x0⟩  -- ch 11 Registers
  | .MR_CTL => ⟨0x2000, 0x0, 1, 1, .both, .print, 0x3, 0x0, 0x0⟩  -- ch 14 R731
  | .MR_STATE => ⟨0x2001, 0x0, 1, 1, .both, .print, 0x0, 0x0, 0x0⟩  -- ch 14 R725
  | .MR_FAULT => ⟨0x2002, 0x0, 1, 1, .both, .print, 0x0, 0x7, 0x0⟩  -- ch 14 R728
  | .MR_STAT => ⟨0x2003, 0x0, 1, 1, .both, .print, 0x0, 0x1, 0x0⟩  -- ch 14 R731
  | .MR_DOTS => ⟨0x2004, 0x0, 1, 2, .keeper, .print, 0x7FF, 0x0, 0x0⟩  -- ch 14 R679
  | .MR_GEOM => ⟨0x2006, 0x0, 1, 1, .keeper, .print, 0x3F, 0x0, 0x0⟩  -- ch 14 R679 R682
  | .MR_SHRATE => ⟨0x2007, 0x0, 1, 1, .both, .print, 0x7F, 0x0, 0x0⟩  -- ch 14 Registers
  | .MR_TLINE => ⟨0x2008, 0x0, 1, 4, .both, .print, 0xFFFFF, 0x0, 0x0⟩  -- ch 14 Registers
  | .MR_TLMIN => ⟨0x200C, 0x0, 1, 4, .keeper, .print, 0xFFFFF, 0x0, 0x0⟩  -- ch 14 Registers
  | .MR_REGAIN => ⟨0x2010, 0x0, 1, 1, .both, .print, 0x3F, 0x0, 0x0⟩  -- ch 14 Registers
  | .MR_SLOWPCT => ⟨0x2011, 0x0, 1, 1, .keeper, .print, 0xFF, 0x0, 0x0⟩  -- ch 14 Registers
  | .MR_GIVEUP => ⟨0x2012, 0x0, 1, 2, .both, .print, 0xFFFF, 0x0, 0x0⟩  -- ch 14 R713
  | .MR_LATEACC => ⟨0x2014, 0x0, 1, 4, .both, .print, 0x0, 0x0, 0x0⟩  -- ch 14 R709
  | .MR_PGAP => ⟨0x2018, 0x0, 1, 1, .both, .print, 0xFF, 0x0, 0x0⟩  -- ch 14 Registers
  | .MR_HGAIN => ⟨0x2019, 0x0, 1, 1, .both, .print, 0x7F, 0x0, 0x0⟩  -- ch 14 Registers
  | .MR_SPW => ⟨0x201A, 0x2, 4, 2, .both, .print, 0xFFFF, 0x0, 0x0⟩  -- ch 14 Registers
  | .MR_TREF => ⟨0x2022, 0x0, 1, 1, .both, .print, 0xFF, 0x0, 0x0⟩  -- ch 14 R701
  | .MR_TCOEF => ⟨0x2023, 0x0, 1, 1, .both, .print, 0xFF, 0x0, 0x0⟩  -- ch 14 R701
  | .MR_VREF => ⟨0x2024, 0x0, 1, 2, .both, .print, 0xFFFF, 0x0, 0x0⟩  -- ch 14 R701
  | .MR_VSCALE => ⟨0x2026, 0x0, 1, 2, .keeper, .print, 0xFFFF, 0x0, 0x0⟩  -- ch 14 R701
  | .MR_VMIN => ⟨0x2028, 0x0, 1, 2, .keeper, .print, 0xFFFF, 0x0, 0x0⟩  -- ch 14 R718
  | .MR_VMAX => ⟨0x202A, 0x0, 1, 2, .keeper, .print, 0xFFFF, 0x0, 0x0⟩  -- ch 14 R718
  | .MR_RDOT => ⟨0x202C, 0x0, 1, 2, .keeper, .print, 0xFFFF, 0x0, 0x0⟩  -- ch 14 Registers
  | .MR_TOKPOOL => ⟨0x202E, 0x0, 1, 2, .keeper, .print, 0xFFFF, 0x0, 0x0⟩  -- ch 14 Registers
  | .MR_MAXDOTS => ⟨0x2030, 0x0, 1, 2, .keeper, .print, 0x7FF, 0x0, 0x0⟩  -- ch 14 Registers
  | .MR_HCTRIP => ⟨0x2032, 0x0, 1, 1, .keeper, .print, 0xFF, 0x0, 0x0⟩  -- ch 14 R721
  | .MR_HCBLANK => ⟨0x2033, 0x0, 1, 1, .keeper, .print, 0x3F, 0x0, 0x0⟩  -- ch 14 Registers
  | .MR_STBMAX => ⟨0x2034, 0x0, 1, 2, .keeper, .print, 0xFFFF, 0x0, 0x0⟩  -- ch 14 R722
  | .MR_TSLOW => ⟨0x2036, 0x0, 1, 1, .keeper, .print, 0xFF, 0x0, 0x0⟩  -- ch 14 R716
  | .MR_TSTOP => ⟨0x2037, 0x0, 1, 1, .keeper, .print, 0xFF, 0x0, 0x0⟩  -- ch 14 R717
  | .MR_THYST => ⟨0x2038, 0x0, 1, 1, .keeper, .print, 0x1F, 0x0, 0x0⟩  -- ch 14 Registers
  | .MR_LIMLOCK => ⟨0x2039, 0x0, 1, 1, .keeper, .print, 0x0, 0x0, 0x1⟩  -- ch 14 R734
  | .MR_PWRDLY => ⟨0x203A, 0x0, 1, 2, .both, .print, 0xFFFF, 0x0, 0x0⟩  -- ch 14 R685
  | .MR_REQLOW => ⟨0x203C, 0x0, 1, 1, .both, .print, 0xFF, 0x0, 0x0⟩  -- ch 14 R692
  | .MR_ROWAHEAD => ⟨0x203D, 0x0, 1, 1, .both, .print, 0x7, 0x0, 0x0⟩  -- ch 14 Registers
  | .MR_TEMP => ⟨0x2040, 0x0, 1, 2, .both, .print, 0x0, 0x0, 0x0⟩  -- ch 14 R701
  | .MR_VHEAD => ⟨0x2042, 0x0, 1, 2, .both, .print, 0x0, 0x0, 0x0⟩  -- ch 14 R701
  | .MR_KT => ⟨0x2044, 0x0, 1, 2, .both, .print, 0x0, 0x0, 0x0⟩  -- ch 14 R701
  | .MR_KV => ⟨0x2046, 0x0, 1, 2, .both, .print, 0x0, 0x0, 0x0⟩  -- ch 14 R701
  | .MR_K => ⟨0x2048, 0x0, 1, 2, .both, .print, 0x0, 0x0, 0x0⟩  -- ch 14 R701
  | .MR_HOFF => ⟨0x204A, 0x0, 1, 1, .both, .print, 0x0, 0x0, 0x0⟩  -- ch 14 R701
  | .MR_DRAW => ⟨0x204B, 0x0, 1, 1, .both, .print, 0x0, 0x0, 0x0⟩  -- ch 14 Registers
  | .MR_LINES => ⟨0x204C, 0x0, 1, 4, .both, .print, 0x0, 0x0, 0x0⟩  -- ch 14 Registers
  | .MR_TTAB => ⟨0x2060, 0x2, 17, 2, .keeper, .print, 0xFFFF, 0x0, 0x0⟩  -- ch 14 Registers
  | .MR_ETAB => ⟨0x2100, 0x1, 128, 1, .both, .print, 0xF, 0x0, 0x0⟩  -- ch 14 Registers
  | .PP_FCTL => ⟨0x2400, 0x0, 1, 1, .both, .print, 0x3, 0x0, 0x0⟩  -- ch 15 R792
  | .PP_FSTATE => ⟨0x2401, 0x0, 1, 1, .both, .print, 0x0, 0x0, 0x0⟩  -- ch 15 Registers
  | .PP_FFAULT => ⟨0x2402, 0x0, 1, 1, .both, .print, 0x0, 0x1F, 0x0⟩  -- ch 15 R791
  | .PP_FSTAT => ⟨0x2403, 0x0, 1, 1, .both, .print, 0x0, 0x19, 0x0⟩  -- ch 15 R792
  | .PP_FCFG => ⟨0x2404, 0x0, 1, 2, .both, .print, 0xFF, 0x0, 0x0⟩  -- ch 15 R746
  | .PP_FSAFE => ⟨0x2406, 0x0, 1, 1, .keeper, .print, 0xF, 0x0, 0x0⟩  -- ch 15 Registers
  | .PP_IRUN => ⟨0x2408, 0x0, 1, 2, .keeper, .print, 0xFFF, 0x0, 0x0⟩  -- ch 15 Registers
  | .PP_IHOLD => ⟨0x240A, 0x0, 1, 2, .keeper, .print, 0xFFF, 0x0, 0x0⟩  -- ch 15 Registers
  | .PP_IMAX => ⟨0x240C, 0x0, 1, 2, .keeper, .print, 0xFFF, 0x0, 0x0⟩  -- ch 15 R748
  | .PP_CHOP => ⟨0x240E, 0x0, 1, 1, .both, .print, 0x7F, 0x0, 0x0⟩  -- ch 15 R747
  | .PP_HOLDT => ⟨0x240F, 0x0, 1, 1, .both, .print, 0xFF, 0x0, 0x0⟩  -- ch 15 R756
  | .PP_ITAB => ⟨0x2410, 0x1, 17, 1, .both, .print, 0xFF, 0x0, 0x0⟩  -- ch 15 R746
  | .PP_MOVE => ⟨0x2424, 0x0, 1, 4, .both, .print, 0x0, 0x0, 0x0⟩  -- ch 15 R752
  | .PP_TSTEP => ⟨0x2428, 0x0, 1, 4, .both, .print, 0xFFFFF, 0x0, 0x0⟩  -- ch 15 R752
  | .PP_TSTART => ⟨0x242C, 0x0, 1, 4, .both, .print, 0xFFFFF, 0x0, 0x0⟩  -- ch 15 R752
  | .PP_TSMIN => ⟨0x2430, 0x0, 1, 4, .keeper, .print, 0xFFFFF, 0x0, 0x0⟩  -- ch 15 R752
  | .PP_RAMPN => ⟨0x2434, 0x0, 1, 2, .both, .print, 0xFFFF, 0x0, 0x0⟩  -- ch 15 R752
  | .PP_REGAIN => ⟨0x2436, 0x0, 1, 1, .both, .print, 0x3F, 0x0, 0x0⟩  -- ch 15 Registers
  | .PP_GIVEUP => ⟨0x2438, 0x0, 1, 2, .both, .print, 0xFFFF, 0x0, 0x0⟩  -- ch 15 R754
  | .PP_LATEACC => ⟨0x243C, 0x0, 1, 4, .both, .print, 0x0, 0x0, 0x0⟩  -- ch 15 R754
  | .PP_MOVESTAT => ⟨0x2440, 0x0, 1, 1, .both, .print, 0x0, 0x0, 0x0⟩  -- ch 15 Registers
  | .PP_PEND => ⟨0x2444, 0x0, 1, 4, .both, .print, 0x0, 0x0, 0x0⟩  -- ch 15 Registers
  | .PP_POS => ⟨0x2448, 0x0, 1, 4, .both, .print, 0x0, 0x0, 0x0⟩  -- ch 15 Registers
  | .PP_YCFG => ⟨0x2460, 0x0, 1, 1, .both, .print, 0x3, 0x0, 0x0⟩  -- ch 15 R760
  | .PP_RIPTH => ⟨0x2461, 0x0, 1, 1, .both, .print, 0xFF, 0x0, 0x0⟩  -- ch 15 R760
  | .PP_RIPN => ⟨0x2462, 0x0, 1, 1, .both, .print, 0xFF, 0x0, 0x0⟩  -- ch 15 R760
  | .PP_RIPLEARN => ⟨0x2463, 0x0, 1, 1, .both, .print, 0xFF, 0x0, 0x0⟩  -- ch 15 R760
  | .PP_BEMFTH => ⟨0x2464, 0x0, 1, 2, .both, .print, 0xFFF, 0x0, 0x0⟩  -- ch 15 R763
  | .PP_BEMFN => ⟨0x2466, 0x0, 1, 1, .both, .print, 0xF, 0x0, 0x0⟩  -- ch 15 R763
  | .PP_RIPBASE => ⟨0x2468, 0x0, 1, 1, .both, .print, 0x0, 0x0, 0x0⟩  -- ch 15 R760
  | .PP_RIPLAST => ⟨0x2469, 0x0, 1, 1, .both, .print, 0x0, 0x0, 0x0⟩  -- ch 15 R760
  | .PP_SNSCTL => ⟨0x2480, 0x0, 1, 1, .both, .print, 0x0, 0x0, 0x0⟩  -- ch 15 R769
  | .PP_SNSPER => ⟨0x2481, 0x0, 1, 1, .both, .print, 0xFF, 0x0, 0x0⟩  -- ch 15 R767
  | .PP_EMITSET => ⟨0x2482, 0x0, 1, 1, .both, .print, 0xFF, 0x0, 0x0⟩  -- ch 15 R767
  | .PP_SNSBMIN => ⟨0x2484, 0x0, 1, 2, .keeper, .print, 0xFFF, 0x0, 0x0⟩  -- ch 15 R770
  | .PP_SNSCFG => ⟨0x2490, 0x8, 4, 1, .both, .print, 0xF, 0x0, 0x0⟩  -- ch 15 Registers
  | .PP_SNSTHR => ⟨0x2491, 0x8, 4, 1, .both, .print, 0xFF, 0x0, 0x0⟩  -- ch 15 R768
  | .PP_SNSN => ⟨0x2492, 0x8, 4, 1, .both, .print, 0xFF, 0x0, 0x0⟩  -- ch 15 R768
  | .PP_SNSSTAT => ⟨0x2493, 0x8, 4, 1, .both, .print, 0x0, 0x2, 0x0⟩  -- ch 15 R768
  | .PP_SNSBASE => ⟨0x2494, 0x8, 4, 2, .both, .print, 0xFFF, 0x0, 0x0⟩  -- ch 15 R769
  | .PP_SNSS => ⟨0x2496, 0x8, 4, 2, .both, .print, 0x0, 0x0, 0x0⟩  -- ch 15 R768
  | .PP_INPOL => ⟨0x24C0, 0x0, 1, 1, .both, .print, 0xF, 0x0, 0x0⟩  -- ch 15 R772
  | .PP_INDB => ⟨0x24C1, 0x0, 1, 1, .both, .print, 0xFF, 0x0, 0x0⟩  -- ch 15 R772
  | .PP_BTNDB => ⟨0x24C2, 0x0, 1, 1, .both, .print, 0xFF, 0x0, 0x0⟩  -- ch 15 R772
  | .PP_CCTL => ⟨0x24D0, 0x0, 1, 1, .both, .print, 0x1, 0x0, 0x0⟩  -- ch 15 R776
  | .PP_CSTATE => ⟨0x24D1, 0x0, 1, 1, .both, .print, 0x0, 0x0, 0x0⟩  -- ch 15 Registers
  | .PP_CFAULT => ⟨0x24D2, 0x0, 1, 1, .both, .print, 0x0, 0x7, 0x0⟩  -- ch 15 R791
  | .PP_CSTAT => ⟨0x24D3, 0x0, 1, 1, .both, .print, 0x0, 0x0, 0x0⟩  -- ch 15 Registers
  | .PP_CUTTMO => ⟨0x24D4, 0x0, 1, 2, .keeper, .print, 0xFFFF, 0x0, 0x0⟩  -- ch 15 R778
  | .PP_CUTLEAVE => ⟨0x24D6, 0x0, 1, 2, .keeper, .print, 0xFFFF, 0x0, 0x0⟩  -- ch 15 R777
  | .PP_CUTDB => ⟨0x24D8, 0x0, 1, 1, .both, .print, 0xFF, 0x0, 0x0⟩  -- ch 15 R772
  | .PP_BRKT => ⟨0x24D9, 0x0, 1, 1, .both, .print, 0xFF, 0x0, 0x0⟩  -- ch 15 R777
  | .PP_JOGT => ⟨0x24DA, 0x0, 1, 1, .both, .print, 0xFF, 0x0, 0x0⟩  -- ch 15 R779
  | .PP_DCTL => ⟨0x24E0, 0x0, 1, 1, .both, .print, 0x3, 0x0, 0x0⟩  -- ch 15 R782
  | .PP_DSTATE => ⟨0x24E1, 0x1, 2, 1, .both, .print, 0x0, 0x0, 0x0⟩  -- ch 15 Registers
  | .PP_DPULSE => ⟨0x24E4, 0x1, 2, 1, .both, .print, 0x0, 0x0, 0x0⟩  -- ch 15 R782
  | .PP_DCOOL => ⟨0x24E8, 0x2, 2, 2, .both, .print, 0x0, 0x0, 0x0⟩  -- ch 15 R784
  | .PP_BELLON => ⟨0x24F0, 0x0, 1, 1, .both, .print, 0xFF, 0x0, 0x0⟩  -- ch 15 R786
  | .PP_BELLOFF => ⟨0x24F1, 0x0, 1, 1, .both, .print, 0xFF, 0x0, 0x0⟩  -- ch 15 R786
  | .PP_BELLCNT => ⟨0x24F2, 0x0, 1, 1, .both, .print, 0xFF, 0x0, 0x0⟩  -- ch 15 R786
  | .PP_BELLCTL => ⟨0x24F3, 0x0, 1, 1, .both, .print, 0x0, 0x0, 0x0⟩  -- ch 15 R786
  | .PP_LEDMODE => ⟨0x2500, 0x8, 3, 1, .both, .print, 0xFF, 0x0, 0x0⟩  -- ch 15 R787
  | .PP_LEDON => ⟨0x2501, 0x8, 3, 1, .both, .print, 0xFF, 0x0, 0x0⟩  -- ch 15 R787
  | .PP_LEDOFF => ⟨0x2502, 0x8, 3, 1, .both, .print, 0xFF, 0x0, 0x0⟩  -- ch 15 R787
  | .PP_LEDCNT => ⟨0x2503, 0x8, 3, 1, .both, .print, 0xFF, 0x0, 0x0⟩  -- ch 15 R787
  | .PP_LEDREP => ⟨0x2504, 0x8, 3, 1, .both, .print, 0xFF, 0x0, 0x0⟩  -- ch 15 R787
  | .PP_LIMLOCK => ⟨0x25F0, 0x0, 1, 1, .keeper, .print, 0x0, 0x0, 0x1⟩  -- ch 15 R797
  | .ADC_SEQCTL => ⟨0x2600, 0x0, 1, 1, .both, .print, 0x0, 0x8, 0x0⟩  -- ch 15 R795
  | .ADC_SEQLEN => ⟨0x2601, 0x0, 1, 1, .both, .print, 0xF, 0x0, 0x0⟩  -- ch 15 R795
  | .ADC_SEQPER => ⟨0x2602, 0x0, 1, 2, .both, .print, 0xFFFF, 0x0, 0x0⟩  -- ch 15 R795
  | .ADC_SEQ => ⟨0x2610, 0x1, 16, 1, .both, .print, 0xF, 0x0, 0x0⟩  -- ch 15 R795
  | .ADC_RES => ⟨0x2620, 0x2, 16, 2, .both, .print, 0x0, 0x0, 0x0⟩  -- ch 15 R795
  | .ADC_LAST => ⟨0x2640, 0x2, 16, 2, .both, .print, 0x0, 0x0, 0x0⟩  -- ch 15 R793
  | .ADC_WININ => ⟨0x2660, 0x8, 4, 1, .both, .print, 0x8F, 0x0, 0x0⟩  -- ch 15 R796
  | .ADC_WINLO => ⟨0x2662, 0x8, 4, 2, .both, .print, 0xFFF, 0x0, 0x0⟩  -- ch 15 R796
  | .ADC_WINHI => ⟨0x2664, 0x8, 4, 2, .both, .print, 0xFFF, 0x0, 0x0⟩  -- ch 15 R796
  | .ADC_WINSTAT => ⟨0x2666, 0x8, 4, 1, .both, .print, 0x0, 0x2, 0x0⟩  -- ch 15 R796
  | .USB_CTL => ⟨0x3000, 0x0, 1, 1, (.block 5 0), .usb, 0x3, 0x0, 0x0⟩  -- ch 16 Registers
  | .USB_STATE => ⟨0x3001, 0x0, 1, 1, (.block 5 0), .usb, 0x0, 0x0, 0x0⟩  -- ch 16 Registers
  | .USB_STAT => ⟨0x3002, 0x0, 1, 1, (.block 5 0), .usb, 0x0, 0xBC, 0x0⟩  -- ch 16 Registers
  | .USB_ADDR => ⟨0x3004, 0x0, 1, 1, (.block 5 0), .usb, 0x0, 0x0, 0x0⟩  -- ch 16 R816
  | .USB_FRAME => ⟨0x3006, 0x0, 1, 2, (.block 5 0), .usb, 0x0, 0x0, 0x0⟩  -- ch 16 Registers
  | .USB_EP0CTL => ⟨0x3008, 0x0, 1, 1, (.block 5 0), .usb, 0x0, 0x38, 0x0⟩  -- ch 16 R819
  | .USB_EP0LEN => ⟨0x3009, 0x0, 1, 1, (.block 5 0), .usb, 0x7F, 0x0, 0x0⟩  -- ch 16 R819
  | .USB_SETUP => ⟨0x3010, 0x1, 8, 1, (.block 5 0), .usb, 0x0, 0x0, 0x0⟩  -- ch 16 R817
  | .USB_EP0BUF => ⟨0x3040, 0x1, 64, 1, (.block 5 0), .usb, 0xFF, 0x0, 0x0⟩  -- ch 16 R819
  | .USB_EPCFG => ⟨0x3090, 0x10, 3, 1, (.block 5 0), .usb, 0xF, 0x0, 0x0⟩  -- ch 16 R826
  | .USB_EPMPS => ⟨0x3091, 0x10, 3, 1, (.block 5 0), .usb, 0x7F, 0x0, 0x0⟩  -- ch 16 R811
  | .USB_EPSTAT => ⟨0x3092, 0x10, 3, 1, (.block 5 0), .usb, 0x0, 0x7, 0x0⟩  -- ch 16 Registers
  | .ETH_CTL => ⟨0x3200, 0x0, 1, 1, (.block 6 0), .eth, 0x7, 0x0, 0x0⟩  -- ch 16 Registers
  | .ETH_STATE => ⟨0x3201, 0x0, 1, 1, (.block 6 0), .eth, 0x0, 0x0, 0x0⟩  -- ch 16 Registers
  | .ETH_MACCFG => ⟨0x3202, 0x0, 1, 2, (.block 6 0), .eth, 0xFF, 0x0, 0x0⟩  -- ch 16 Registers
  | .ETH_FILT => ⟨0x3204, 0x0, 1, 1, (.block 6 0), .eth, 0xFF, 0x0, 0x0⟩  -- ch 16 R838
  | .ETH_MACAL => ⟨0x3208, 0x8, 4, 4, (.block 6 0), .eth, 0xFFFFFFFF, 0x0, 0x0⟩  -- ch 16 R838
  | .ETH_MACAH => ⟨0x320C, 0x8, 4, 2, (.block 6 0), .eth, 0xFFFF, 0x0, 0x0⟩  -- ch 16 R838
  | .ETH_HASHL => ⟨0x3228, 0x0, 1, 4, (.block 6 0), .eth, 0xFFFFFFFF, 0x0, 0x0⟩  -- ch 16 R838
  | .ETH_HASHH => ⟨0x322C, 0x0, 1, 4, (.block 6 0), .eth, 0xFFFFFFFF, 0x0, 0x0⟩  -- ch 16 R838
  | .ETH_RXPHI => ⟨0x3230, 0x0, 1, 2, (.block 6 0), .eth, 0xFFF, 0x0, 0x0⟩  -- ch 16 R847
  | .ETH_RXPLO => ⟨0x3232, 0x0, 1, 2, (.block 6 0), .eth, 0xFFF, 0x0, 0x0⟩  -- ch 16 R847
  | .ETH_PQUANTA => ⟨0x3234, 0x0, 1, 2, (.block 6 0), .eth, 0xFFFF, 0x0, 0x0⟩  -- ch 16 R847
  | .ETH_MDCMD => ⟨0x3240, 0x0, 1, 2, (.block 6 0), .eth, 0x7FF, 0x0, 0x0⟩  -- ch 16 R833
  | .ETH_MDDATA => ⟨0x3242, 0x0, 1, 2, (.block 6 0), .eth, 0xFFFF, 0x0, 0x0⟩  -- ch 16 R833
  | .ETH_MDPOLL => ⟨0x3244, 0x0, 1, 1, (.block 6 0), .eth, 0x3F, 0x0, 0x0⟩  -- ch 16 R834
  | .ETH_STAT => ⟨0x3248, 0x0, 1, 2, (.block 6 0), .eth, 0x0, 0xDF, 0x0⟩  -- ch 16 Registers
  | .ETH_RXFILL => ⟨0x324C, 0x0, 1, 2, (.block 6 0), .eth, 0x0, 0x0, 0x0⟩  -- ch 16 R840
  | .UART_CTL => ⟨0x3400, 0x80, 2, 1, (.block 0 1), .serial, 0x7F, 0x0, 0x0⟩  -- ch 16 Registers
  | .UART_STATE => ⟨0x3401, 0x80, 2, 1, (.block 0 1), .serial, 0x0, 0x0, 0x0⟩  -- ch 16 Registers
  | .UART_FMT => ⟨0x3402, 0x80, 2, 1, (.block 0 1), .serial, 0x1F, 0x0, 0x0⟩  -- ch 16 R848
  | .UART_DIV => ⟨0x3404, 0x80, 2, 2, (.block 0 1), .serial, 0xFFFF, 0x0, 0x0⟩  -- ch 16 R848
  | .UART_STAT => ⟨0x3406, 0x80, 2, 1, (.block 0 1), .serial, 0x0, 0x3F, 0x0⟩  -- ch 16 Registers
  | .UART_DATA => ⟨0x3408, 0x80, 2, 1, (.block 0 1), .serial, 0x0, 0x0, 0x0⟩  -- ch 16 R851
  | .UART_RXCNT => ⟨0x3409, 0x80, 2, 1, (.block 0 1), .serial, 0x0, 0x0, 0x0⟩  -- ch 16 Registers
  | .UART_TXCNT => ⟨0x340A, 0x80, 2, 1, (.block 0 1), .serial, 0x0, 0x0, 0x0⟩  -- ch 16 Registers
  | .UART_RXTH => ⟨0x340C, 0x80, 2, 1, (.block 0 1), .serial, 0x7F, 0x0, 0x0⟩  -- ch 16 R851
  | .UART_TXTH => ⟨0x340D, 0x80, 2, 1, (.block 0 1), .serial, 0x7F, 0x0, 0x0⟩  -- ch 16 R851
  | .UART_RTSHI => ⟨0x340E, 0x80, 2, 1, (.block 0 1), .serial, 0x7F, 0x0, 0x0⟩  -- ch 16 R854
  | .UART_RTSLO => ⟨0x340F, 0x80, 2, 1, (.block 0 1), .serial, 0x7F, 0x0, 0x0⟩  -- ch 16 R854
  | .UART_IDLECH => ⟨0x3410, 0x80, 2, 1, (.block 0 1), .serial, 0xFF, 0x0, 0x0⟩  -- ch 16 R852
  | .UART_LINES => ⟨0x3411, 0x80, 2, 1, (.block 0 1), .serial, 0x0, 0x0, 0x0⟩  -- ch 16 Registers
  | .KX_CTL => ⟨0x3500, 0x0, 1, 1, (.block 2 0), .serial, 0x1, 0x0, 0x0⟩  -- ch 17 R914
  | .KX_STATE => ⟨0x3501, 0x0, 1, 1, (.block 2 0), .serial, 0x0, 0x0, 0x0⟩  -- ch 17 Registers
  | .KX_CFG => ⟨0x3502, 0x0, 1, 1, (.block 2 0), .serial, 0xF, 0x0, 0x0⟩  -- ch 17 Registers
  | .KX_ADDR => ⟨0x3503, 0x0, 1, 1, (.block 2 0), .serial, 0xFF, 0x0, 0x0⟩  -- ch 17 R914
  | .KX_STAT => ⟨0x3504, 0x0, 1, 1, (.block 2 0), .serial, 0x0, 0xF2, 0x0⟩  -- ch 17 R900
  | .KX_RETRY => ⟨0x3505, 0x0, 1, 1, (.block 2 0), .serial, 0xF, 0x0, 0x0⟩  -- ch 17 R890
  | .KX_ACKDLY => ⟨0x3506, 0x0, 1, 1, (.block 2 0), .serial, 0x1F, 0x0, 0x0⟩  -- ch 17 R902
  | .KX_LONEWIN => ⟨0x3508, 0x0, 1, 2, (.block 2 0), .serial, 0xFFFF, 0x0, 0x0⟩  -- ch 17 R893
  | .KX_LONEBCN => ⟨0x350A, 0x0, 1, 2, (.block 2 0), .serial, 0xFFFF, 0x0, 0x0⟩  -- ch 17 R896
  | .KX_DUPWIN => ⟨0x350C, 0x0, 1, 2, (.block 2 0), .serial, 0xFFFF, 0x0, 0x0⟩  -- ch 17 R904
  | .KX_LASTNA => ⟨0x350E, 0x0, 1, 1, (.block 2 0), .serial, 0x0, 0x0, 0x0⟩  -- ch 17 R888
  | .KX_NACNT => ⟨0x350F, 0x0, 1, 1, (.block 2 0), .serial, 0x0, 0x0, 0x0⟩  -- ch 17 R893
  | .WP_CTL => ⟨0x3600, 0x0, 1, 1, (.block 3 0), .serial, 0x1, 0x0, 0x0⟩  -- ch 18 R949
  | .WP_CFG => ⟨0x3601, 0x0, 1, 1, (.block 3 0), .serial, 0x3, 0x0, 0x0⟩  -- ch 18 Registers
  | .WP_OP => ⟨0x3602, 0x0, 1, 1, (.block 3 0), .serial, 0x7, 0x0, 0x0⟩  -- ch 18 R949
  | .WP_WLEN => ⟨0x3603, 0x0, 1, 1, (.block 3 0), .serial, 0x1F, 0x0, 0x0⟩  -- ch 18 R950
  | .WP_RLEN => ⟨0x3604, 0x0, 1, 1, (.block 3 0), .serial, 0x1F, 0x0, 0x0⟩  -- ch 18 R950
  | .WP_STAT => ⟨0x3605, 0x0, 1, 1, (.block 3 0), .serial, 0x0, 0xC, 0x0⟩  -- ch 18 Registers
  | .WP_RESULT => ⟨0x3606, 0x0, 1, 1, (.block 3 0), .serial, 0x0, 0x0, 0x0⟩  -- ch 18 R950
  | .WP_IDCOUNT => ⟨0x3607, 0x0, 1, 1, (.block 3 0), .serial, 0x0, 0x0, 0x0⟩  -- ch 18 R952
  | .WP_IDFOUND => ⟨0x3608, 0x0, 1, 2, (.block 3 0), .serial, 0x0, 0x0, 0x0⟩  -- ch 18 R952
  | .WP_IDCRC => ⟨0x360A, 0x0, 1, 2, (.block 3 0), .serial, 0x0, 0x0, 0x0⟩  -- ch 18 R952
  | .WP_LASTDISC => ⟨0x360C, 0x0, 1, 1, (.block 3 0), .serial, 0x0, 0x0, 0x0⟩  -- ch 18 R952
  | .WP_TX => ⟨0x3610, 0x1, 16, 1, (.block 3 0), .serial, 0xFF, 0x0, 0x0⟩  -- ch 18 R950
  | .WP_RX => ⟨0x3620, 0x1, 16, 1, (.block 3 0), .serial, 0x0, 0x0, 0x0⟩  -- ch 18 R950
  | .WP_ID => ⟨0x3680, 0x1, 128, 1, (.block 3 0), .serial, 0x0, 0x0, 0x0⟩  -- ch 18 R952
  | .SPI_STAT => ⟨0x3800, 0x0, 1, 1, (.block 4 0), .serial, 0x0, 0x0, 0x0⟩  -- ch 19 Registers
  | .SPI_FAULT => ⟨0x3801, 0x0, 1, 1, (.block 4 0), .serial, 0x0, 0x7, 0x0⟩  -- ch 19 R988
  | .SPI_STRMAX => ⟨0x3802, 0x0, 1, 2, (.block 4 0), .serial, 0xFFFF, 0x0, 0x0⟩  -- ch 19 R986
  | .SPI_CSCFG => ⟨0x3808, 0x4, 4, 4, (.block 4 0), .serial, 0xFFFF0FFF, 0x0, 0x0⟩  -- ch 19 R974
  | .SPI_WINCFG => ⟨0x3820, 0x0, 1, 2, (.block 4 0), .serial, 0x1FFF, 0x0, 0x0⟩  -- ch 19 R991
  | .SPI_WINCMD => ⟨0x3822, 0x0, 1, 1, (.block 4 0), .serial, 0xFF, 0x0, 0x0⟩  -- ch 19 R991
  | .SPI_CACHE => ⟨0x3823, 0x0, 1, 1, (.block 4 0), .serial, 0x0, 0x0, 0x0⟩  -- ch 19 R998
  | .SPI_HITS => ⟨0x3824, 0x0, 1, 4, (.block 4 0), .serial, 0x0, 0x0, 0x0⟩  -- ch 19 R991
  | .SPI_MISSES => ⟨0x3828, 0x0, 1, 4, (.block 4 0), .serial, 0x0, 0x0, 0x0⟩  -- ch 19 R993
  | .SPI_LDCTL => ⟨0x3830, 0x0, 1, 1, .keeper, .serial, 0x10, 0xC, 0x0⟩  -- ch 19 R1002
  | .SPI_LDADDR => ⟨0x3834, 0x0, 1, 4, .keeper, .serial, 0xFFFFFF, 0x0, 0x0⟩  -- ch 19 R1003
  | .SPI_LDLEN => ⟨0x3838, 0x0, 1, 4, .keeper, .serial, 0x7FFFF, 0x0, 0x0⟩  -- ch 19 R1003
  | .SPI_LDIRW => ⟨0x383C, 0x0, 1, 2, .keeper, .serial, 0xFFFF, 0x0, 0x0⟩  -- ch 19 R1003
  | .SPI_LDCOUNT => ⟨0x3840, 0x0, 1, 4, .keeper, .serial, 0x0, 0x0, 0x0⟩  -- ch 19 R1003
  | .NVB_CMD => ⟨0x3A00, 0x40, 2, 1, .nvBlock, .serial, 0xF, 0x0, 0x0⟩  -- ch 20 Registers
  | .NVB_RES => ⟨0x3A01, 0x40, 2, 1, .nvBlock, .serial, 0x0, 0x80, 0x0⟩  -- ch 20 Registers
  | .NVB_ADDR => ⟨0x3A04, 0x40, 2, 4, .nvBlock, .serial, 0x1FFFF, 0x0, 0x0⟩  -- ch 20 Registers
  | .NVB_LEN => ⟨0x3A08, 0x40, 2, 2, .nvBlock, .serial, 0x1FF, 0x0, 0x0⟩  -- ch 20 Registers
  | .NVB_PAGEB => ⟨0x3A0A, 0x40, 2, 2, .nvBlock, .serial, 0x1FF, 0x0, 0x0⟩  -- ch 20 Registers
  | .NVB_TYPE => ⟨0x3A0C, 0x40, 2, 1, .nvBlock, .serial, 0xFF, 0x0, 0x0⟩  -- ch 20 Registers
  | .NVB_SEL => ⟨0x3A0D, 0x40, 2, 1, .nvBlock, .serial, 0x7, 0x0, 0x0⟩  -- ch 20 Registers
  | .NVB_IDX => ⟨0x3A0E, 0x40, 2, 1, .nvBlock, .serial, 0x1F, 0x0, 0x0⟩  -- ch 20 Registers
  | .NVB_VALUE => ⟨0x3A10, 0x40, 2, 4, .nvBlock, .serial, 0xFFFFFFFF, 0x0, 0x0⟩  -- ch 20 Registers
  | .NVB_SEQ => ⟨0x3A14, 0x40, 2, 4, .nvBlock, .serial, 0x0, 0x0, 0x0⟩  -- ch 20 Registers
  | .NVB_DONEPG => ⟨0x3A18, 0x40, 2, 2, .nvBlock, .serial, 0x0, 0x0, 0x0⟩  -- ch 20 Registers
  | .NVB_BUFIDX => ⟨0x3A1A, 0x40, 2, 1, .nvBlock, .serial, 0xFF, 0x0, 0x0⟩  -- ch 20 Registers
  | .NVB_BUFDATA => ⟨0x3A1B, 0x40, 2, 1, .nvBlock, .serial, 0x0, 0x0, 0x0⟩  -- ch 20 Registers
  | .NV_CTL => ⟨0x3A80, 0x0, 1, 1, .keeper, .serial, 0x1, 0x0, 0x0⟩  -- ch 20 R1060
  | .NV_STATE => ⟨0x3A81, 0x0, 1, 1, .both, .serial, 0x0, 0x0, 0x0⟩  -- ch 20 Registers
  | .NV_STAT => ⟨0x3A82, 0x0, 1, 1, .both, .serial, 0x0, 0x4, 0x0⟩  -- ch 20 Registers
  | .NV_WEARWARN => ⟨0x3A84, 0x0, 1, 4, .keeper, .serial, 0xFFFFF, 0x0, 0x0⟩  -- ch 20 R1039
  | .NV_PGIDX => ⟨0x3A88, 0x0, 1, 2, .both, .serial, 0x1FF, 0x0, 0x0⟩  -- ch 20 R1021
  | .NV_PGSTAT => ⟨0x3A8C, 0x0, 1, 4, .both, .serial, 0x0, 0x0, 0x0⟩  -- ch 20 R1021
  | .NV_RS => ⟨0x3A90, 0x4, 8, 4, .keeper, .serial, 0x0, 0x0, 0x0⟩  -- ch 20 R1049
  | .NV_MC => ⟨0x3AB0, 0x4, 4, 4, .keeper, .serial, 0x0, 0x0, 0x0⟩  -- ch 20 R1056
  | .NV_MCSTAT => ⟨0x3AC0, 0x0, 1, 1, .keeper, .serial, 0x0, 0x0, 0x0⟩  -- ch 20 R1056
  | .NV_RINGCFG => ⟨0x3AC8, 0x2, 8, 2, .nvRing, .serial, 0x3FFF, 0x0, 0x0⟩  -- ch 20 R1053
  | .NV_MSKIDX => ⟨0x3AE0, 0x0, 1, 2, .keeper, .serial, 0x1F0F, 0x0, 0x0⟩  -- ch 20 R1047
  | .NV_MSKTYPE => ⟨0x3AE2, 0x0, 1, 1, .keeper, .serial, 0x0, 0x0, 0x0⟩  -- ch 20 R1047
  | .NV_MSKDATA => ⟨0x3AE3, 0x0, 1, 1, .keeper, .serial, 0x0, 0x0, 0x0⟩  -- ch 20 R1047
  | .PIN_MUX => ⟨0x3C00, 0x4, 96, 1, .pin, .core, 0xF, 0x0, 0x0⟩  -- ch 02 R65
  | .PIN_PAD => ⟨0x3C01, 0x4, 96, 1, .pin, .core, 0x3F, 0x0, 0x0⟩  -- ch 02 R67
  | .PIN_STAT => ⟨0x3C02, 0x4, 96, 1, .pin, .core, 0x0, 0x4, 0x0⟩  -- ch 02 R94
  | .PIN_WORLD => ⟨0x3C03, 0x4, 96, 1, .keeper, .core, 0x1, 0x0, 0x2⟩  -- ch 02 R81
  | .RTC_SEC => ⟨0x3E00, 0x0, 1, 4, .both, .ao, 0x0, 0x0, 0x0⟩  -- ch 03 Registers
  | .RTC_SUB => ⟨0x3E04, 0x0, 1, 2, .both, .ao, 0x0, 0x0, 0x0⟩  -- ch 03 Registers
  | .RTC_SET => ⟨0x3E08, 0x0, 1, 4, .keeper, .ao, 0x0, 0x0, 0x0⟩  -- ch 03 Registers
  | .RTC_ALARM => ⟨0x3E0C, 0x0, 1, 4, .keeper, .ao, 0xFFFFFFFF, 0x0, 0x0⟩  -- ch 03 Registers
  | .RTC_CTL => ⟨0x3E10, 0x0, 1, 1, .keeper, .ao, 0x1, 0x0, 0x0⟩  -- ch 03 Registers
  | .RTC_STAT => ⟨0x3E11, 0x0, 1, 1, .keeper, .ao, 0x0, 0x3, 0x0⟩  -- ch 03 Registers
  | .RTC_TRIM => ⟨0x3E12, 0x0, 1, 1, .keeper, .ao, 0xFF, 0x0, 0x0⟩  -- ch 03 Registers
  | .RTC_WAKEEN => ⟨0x3E14, 0x0, 1, 1, .keeper, .ao, 0xF, 0x0, 0x0⟩  -- ch 03 Registers
  | .RTC_WAKEPOL => ⟨0x3E15, 0x0, 1, 1, .keeper, .ao, 0x3, 0x0, 0x0⟩  -- ch 03 Registers
  | .RTC_WAKESRC => ⟨0x3E16, 0x0, 1, 1, .keeper, .ao, 0x0, 0xF, 0x0⟩  -- ch 03 Registers
  | .RTC_FLAGS => ⟨0x3E17, 0x0, 1, 1, .keeper, .ao, 0x0, 0x0, 0x0⟩  -- ch 03 Registers
  | .RTC_WAKEVEC => ⟨0x3E18, 0x0, 1, 2, .keeper, .ao, 0xFFFF, 0x0, 0x0⟩  -- ch 03 Registers
  | .RTC_RRADDRK => ⟨0x3E1C, 0x0, 1, 2, .keeper, .ao, 0x3FFF, 0x0, 0x0⟩  -- ch 03 Registers
  | .RTC_RRDATAK => ⟨0x3E1E, 0x0, 1, 1, .keeper, .ao, 0x0, 0x0, 0x0⟩  -- ch 03 Registers
  | .RTC_RRADDRN => ⟨0x3E20, 0x0, 1, 2, .both, .ao, 0x1FFF, 0x0, 0x0⟩  -- ch 03 Registers
  | .RTC_RRDATAN => ⟨0x3E22, 0x0, 1, 1, .both, .ao, 0x0, 0x0, 0x0⟩  -- ch 03 Registers
  | .DBG_ID => ⟨0x3F00, 0x0, 1, 4, .both, .core, 0x0, 0x0, 0x0⟩  -- ch 21 Registers
  | .DBG_UID => ⟨0x3F04, 0x0, 1, 4, .both, .core, 0x0, 0x0, 0x0⟩  -- ch 21 Registers (fixed per die)
  | .DBG_USBID => ⟨0x3F08, 0x0, 1, 4, .both, .core, 0x0, 0x0, 0x0⟩  -- ch 21 Registers
  | .DBG_STAT => ⟨0x3F10, 0x0, 1, 1, .both, .core, 0x0, 0x8, 0x0⟩  -- ch 21 Registers
  | .DBG_HALT => ⟨0x3F12, 0x0, 1, 1, .keeper, .core, 0x0, 0x0, 0x0⟩  -- ch 21 R1093
  | .DBG_RESUME => ⟨0x3F13, 0x0, 1, 1, .keeper, .core, 0x0, 0x0, 0x0⟩  -- ch 21 R1096
  | .DBG_STEP => ⟨0x3F14, 0x0, 1, 1, .keeper, .core, 0x17, 0x0, 0x0⟩  -- ch 21 R1097
  | .DBG_HSTAT => ⟨0x3F15, 0x0, 1, 1, .both, .core, 0x0, 0x0, 0x0⟩  -- ch 21 Registers
  | .DBG_HCAUSE => ⟨0x3F18, 0x1, 8, 1, .both, .core, 0x0, 0x0, 0x0⟩  -- ch 21 Registers
  | .DBG_REGSEL => ⟨0x3F20, 0x0, 1, 1, .keeper, .core, 0xFF, 0x0, 0x0⟩  -- ch 21 R1098
  | .DBG_REGDATA => ⟨0x3F22, 0x0, 1, 2, .keeper, .core, 0x0, 0x0, 0x0⟩  -- ch 21 R1098
  | .DBG_BP => ⟨0x3F30, 0x4, 4, 4, .keeper, .core, 0x87FFFFFF, 0x0, 0x0⟩  -- ch 21 R1099
  | .DBG_WPA => ⟨0x3F40, 0x8, 2, 4, .keeper, .core, 0x8FFFFFFF, 0x0, 0x0⟩  -- ch 21 R1100
  | .DBG_WPM => ⟨0x3F44, 0x8, 2, 4, .keeper, .core, 0xFFFFFFFF, 0x0, 0x0⟩  -- ch 21 R1100
  | .DBG_GROUP => ⟨0x3F50, 0x0, 1, 1, .keeper, .core, 0xFF, 0x0, 0x0⟩  -- ch 21 R1099
  | .DBG_PCSAMP => ⟨0x3F58, 0x0, 1, 4, .both, .core, 0x0, 0x0, 0x0⟩  -- ch 21 R1107
  | .DBG_TMO => ⟨0x3F5C, 0x0, 1, 2, .keeper, .core, 0xFFFF, 0x0, 0x0⟩  -- ch 21 R1106
  | .DBG_ARM => ⟨0x3F60, 0x0, 1, 1, .keeper, .ao, 0x1, 0x0, 0x0⟩  -- ch 21 R1102

/-- All registers, in address order of their blocks. -/
def regsPart0 : List Rg :=
  [.THR_CTL, .THR_STAT, .THR_STARTPC, .THR_PC, .THR_EPC, .THR_WORLD, .THR_ICOUNT, .THR_TRAP, .ICU_SRC, 
   .ICU_SWORLD, .ICU_CTL, .ICU_VBASE, .ICU_CUR, .PMU_MODE, .PMU_CTL, .PMU_RSTCAUSE, .PMU_BOOTSTAT, .PMU_STBYSTAT, 
   .PMU_IMAP, .PMU_WDTCTL, .PMU_WDTLOAD, .PMU_WDTKICK, .PMU_WDTCNT, .CLK_STAT, .CLK_CTL, .CLK_SSA, .CLK_SSB, 
   .CLK_FAIL, .CLK_XSTALL, .CLK_TIME, .PMU_SLOTMAP, .PMU_SLOTSTAT, .PMU_DISHOLD, .PMU_DISAGREE, .PMU_DISF, 
   .TG_CTL, .TG_STAT, .TG_KRST, .TG_KVEC, .TG_BUDGET, .TG_IWM, .TG_NWM, .TG_DBGEN, .TG_VIOL, .TG_GRANT, 
   .TG_HOLIMIT, .TG_IRADDR, .TG_IRDATA, .TG_TREM, .TG_HO, .SEAL_PTIDX, .SEAL_PTDATA, .SEAL_STAT, .SEAL_STRICT, 
   .SEAL_REKEY, .SEAL_FAULT, .SEAL_FAGENT, .SEAL_LTIDX, .SEAL_LTDATA, .WIN_B0, .WIN_B1, .WIN_B2, .WIN_OWN, 
   .WIN_STAT]
def regsPart1 : List Rg :=
  [.HOP_AREQ, .HOP_ARES, .HOP_FREE, .HOP_FERR, .HOP_SPILL, .HOP_RSVIDX, .HOP_RSVDATA, .HOP_HELDDATA, .HOP_STAT, 
   .HOP_PCTL, .HOP_PSTAT, .HOP_PCOUNT, .HOP_PBASE, .HOP_PFREE, .HOP_PLOW, .HOP_BUFIDX, .HOP_BUFSTAT, .LED_STAT, 
   .LED_REBASE, .LED_SETTLEMAX, .LED_IMB, .LED_FAILED, .LED_UNSET, .LED_BAL, .LED_TIDX, .LED_TDATA, .LED_WOIDX, 
   .LED_WODATA, .LED_WOCNT, .EC_CTL, .EC_SEL, .EC_STAT, .EC_COUNT, .EC_LAST, .RING_CFG, .RING_CTL, .RING_STAT, 
   .RING_BASE, .RING_CQBASE, .RING_CQCFG, .RING_POST, .RING_TAIL, .RING_FETCH, .RING_RECL, .RING_HELD, 
   .RING_OUTST, .RING_CQHEAD, .RING_ERRIDX, .RING_NCOMPL, .MR_CTL, .MR_STATE, .MR_FAULT, .MR_STAT, .MR_DOTS, 
   .MR_GEOM, .MR_SHRATE, .MR_TLINE, .MR_TLMIN, .MR_REGAIN, .MR_SLOWPCT, .MR_GIVEUP, .MR_LATEACC, .MR_PGAP, 
   .MR_HGAIN]
def regsPart2 : List Rg :=
  [.MR_SPW, .MR_TREF, .MR_TCOEF, .MR_VREF, .MR_VSCALE, .MR_VMIN, .MR_VMAX, .MR_RDOT, .MR_TOKPOOL, .MR_MAXDOTS, 
   .MR_HCTRIP, .MR_HCBLANK, .MR_STBMAX, .MR_TSLOW, .MR_TSTOP, .MR_THYST, .MR_LIMLOCK, .MR_PWRDLY, .MR_REQLOW, 
   .MR_ROWAHEAD, .MR_TEMP, .MR_VHEAD, .MR_KT, .MR_KV, .MR_K, .MR_HOFF, .MR_DRAW, .MR_LINES, .MR_TTAB, .MR_ETAB, 
   .PP_FCTL, .PP_FSTATE, .PP_FFAULT, .PP_FSTAT, .PP_FCFG, .PP_FSAFE, .PP_IRUN, .PP_IHOLD, .PP_IMAX, .PP_CHOP, 
   .PP_HOLDT, .PP_ITAB, .PP_MOVE, .PP_TSTEP, .PP_TSTART, .PP_TSMIN, .PP_RAMPN, .PP_REGAIN, .PP_GIVEUP, 
   .PP_LATEACC, .PP_MOVESTAT, .PP_PEND, .PP_POS, .PP_YCFG, .PP_RIPTH, .PP_RIPN, .PP_RIPLEARN, .PP_BEMFTH, 
   .PP_BEMFN, .PP_RIPBASE, .PP_RIPLAST, .PP_SNSCTL, .PP_SNSPER, .PP_EMITSET]
def regsPart3 : List Rg :=
  [.PP_SNSBMIN, .PP_SNSCFG, .PP_SNSTHR, .PP_SNSN, .PP_SNSSTAT, .PP_SNSBASE, .PP_SNSS, .PP_INPOL, .PP_INDB, 
   .PP_BTNDB, .PP_CCTL, .PP_CSTATE, .PP_CFAULT, .PP_CSTAT, .PP_CUTTMO, .PP_CUTLEAVE, .PP_CUTDB, .PP_BRKT, 
   .PP_JOGT, .PP_DCTL, .PP_DSTATE, .PP_DPULSE, .PP_DCOOL, .PP_BELLON, .PP_BELLOFF, .PP_BELLCNT, .PP_BELLCTL, 
   .PP_LEDMODE, .PP_LEDON, .PP_LEDOFF, .PP_LEDCNT, .PP_LEDREP, .PP_LIMLOCK, .ADC_SEQCTL, .ADC_SEQLEN, .ADC_SEQPER, 
   .ADC_SEQ, .ADC_RES, .ADC_LAST, .ADC_WININ, .ADC_WINLO, .ADC_WINHI, .ADC_WINSTAT, .USB_CTL, .USB_STATE, 
   .USB_STAT, .USB_ADDR, .USB_FRAME, .USB_EP0CTL, .USB_EP0LEN, .USB_SETUP, .USB_EP0BUF, .USB_EPCFG, .USB_EPMPS, 
   .USB_EPSTAT, .ETH_CTL, .ETH_STATE, .ETH_MACCFG, .ETH_FILT, .ETH_MACAL, .ETH_MACAH, .ETH_HASHL, .ETH_HASHH, 
   .ETH_RXPHI]
def regsPart4 : List Rg :=
  [.ETH_RXPLO, .ETH_PQUANTA, .ETH_MDCMD, .ETH_MDDATA, .ETH_MDPOLL, .ETH_STAT, .ETH_RXFILL, .UART_CTL, .UART_STATE, 
   .UART_FMT, .UART_DIV, .UART_STAT, .UART_DATA, .UART_RXCNT, .UART_TXCNT, .UART_RXTH, .UART_TXTH, .UART_RTSHI, 
   .UART_RTSLO, .UART_IDLECH, .UART_LINES, .KX_CTL, .KX_STATE, .KX_CFG, .KX_ADDR, .KX_STAT, .KX_RETRY, .KX_ACKDLY, 
   .KX_LONEWIN, .KX_LONEBCN, .KX_DUPWIN, .KX_LASTNA, .KX_NACNT, .WP_CTL, .WP_CFG, .WP_OP, .WP_WLEN, .WP_RLEN, 
   .WP_STAT, .WP_RESULT, .WP_IDCOUNT, .WP_IDFOUND, .WP_IDCRC, .WP_LASTDISC, .WP_TX, .WP_RX, .WP_ID, .SPI_STAT, 
   .SPI_FAULT, .SPI_STRMAX, .SPI_CSCFG, .SPI_WINCFG, .SPI_WINCMD, .SPI_CACHE, .SPI_HITS, .SPI_MISSES, .SPI_LDCTL, 
   .SPI_LDADDR, .SPI_LDLEN, .SPI_LDIRW, .SPI_LDCOUNT, .NVB_CMD, .NVB_RES, .NVB_ADDR]
def regsPart5 : List Rg :=
  [.NVB_LEN, .NVB_PAGEB, .NVB_TYPE, .NVB_SEL, .NVB_IDX, .NVB_VALUE, .NVB_SEQ, .NVB_DONEPG, .NVB_BUFIDX, 
   .NVB_BUFDATA, .NV_CTL, .NV_STATE, .NV_STAT, .NV_WEARWARN, .NV_PGIDX, .NV_PGSTAT, .NV_RS, .NV_MC, .NV_MCSTAT, 
   .NV_RINGCFG, .NV_MSKIDX, .NV_MSKTYPE, .NV_MSKDATA, .PIN_MUX, .PIN_PAD, .PIN_STAT, .PIN_WORLD, .RTC_SEC, 
   .RTC_SUB, .RTC_SET, .RTC_ALARM, .RTC_CTL, .RTC_STAT, .RTC_TRIM, .RTC_WAKEEN, .RTC_WAKEPOL, .RTC_WAKESRC, 
   .RTC_FLAGS, .RTC_WAKEVEC, .RTC_RRADDRK, .RTC_RRDATAK, .RTC_RRADDRN, .RTC_RRDATAN, .DBG_ID, .DBG_UID, 
   .DBG_USBID, .DBG_STAT, .DBG_HALT, .DBG_RESUME, .DBG_STEP, .DBG_HSTAT, .DBG_HCAUSE, .DBG_REGSEL, .DBG_REGDATA, 
   .DBG_BP, .DBG_WPA, .DBG_WPM, .DBG_GROUP, .DBG_PCSAMP, .DBG_TMO, .DBG_ARM]
def regsAll : List Rg :=
  regsPart0 ++ regsPart1 ++ regsPart2 ++ regsPart3 ++ regsPart4 ++ regsPart5

/-- The safety pins (chapter 02, 'Pins from power-on to firmware control'): GP6-GP13, GP15-GP20, GP22, GP23. -/
def isSafetyPin (n : Nat) : Bool :=
  (6 ≤ n && n ≤ 13) || (15 ≤ n && n ≤ 20) || n == 22 || n == 23

/-- The value of instance `i` of a register after the reset of its block (R19). The bits that read a pin's level at the
reset's release are 0 here and are read live (R71). -/
def regReset (r : Rg) (i : Nat) : BitVec 32 :=
  match r with
  | .PMU_WDTLOAD => 0x3E8
  | .PMU_WDTCNT => 0x3E8
  | .CLK_CTL => 0x3
  | .CLK_SSA => 0x4
  | .CLK_SSB => 0x24
  | .PMU_SLOTMAP => 0xFAC688
  | .PMU_DISHOLD => 0x3E8
  | .TG_BUDGET => 0x2710
  | .TG_IWM => 0x40
  | .TG_NWM => 0x200
  | .TG_HOLIMIT => 0x2710
  | .WIN_OWN => 0xFFF
  | .HOP_AREQ => 0xF0000
  | .HOP_ARES => 0xF07FFFF
  | .HOP_PCOUNT => BitVec.ofNat 32 (([2048, 1024, 512, 128] : List Nat).getD i 0)
  | .HOP_PBASE => BitVec.ofNat 32 (([0xc0000, 0x100000, 0x180000, 0x300000] : List Nat).getD i 0)
  | .HOP_PLOW => BitVec.ofNat 32 (([256, 128, 64, 16] : List Nat).getD i 0)
  | .HOP_BUFSTAT => 0xF
  | .LED_SETTLEMAX => 0x64
  | .RING_CFG => 0x80
  | .RING_CQCFG => 0x4
  | .MR_STATE => 0x10
  | .MR_DOTS => 0x180
  | .MR_SHRATE => 0x20
  | .MR_TLINE => 0xEA60
  | .MR_TLMIN => 0x1770
  | .MR_REGAIN => 0xC
  | .MR_SLOWPCT => 0x32
  | .MR_GIVEUP => 0x4E20
  | .MR_PGAP => 0x18
  | .MR_HGAIN => 0x10
  | .MR_SPW => BitVec.ofNat 32 (([960, 480, 240, 120] : List Nat).getD i 0)
  | .MR_TREF => 0x19
  | .MR_TCOEF => 0x29
  | .MR_VREF => 0x5DC0
  | .MR_VMIN => 0x4E20
  | .MR_VMAX => 0x6D60
  | .MR_MAXDOTS => 0x40
  | .MR_HCTRIP => 0xFA
  | .MR_HCBLANK => 0xA
  | .MR_STBMAX => 0x7D0
  | .MR_TSLOW => 0x3C
  | .MR_TSTOP => 0x4B
  | .MR_THYST => 0x5
  | .MR_PWRDLY => 0x3E8
  | .MR_REQLOW => 0x10
  | .MR_ROWAHEAD => 0x2
  | .MR_KT => 0x1000
  | .MR_KV => 0x1000
  | .MR_K => 0x1000
  | .PP_FSTATE => 0x10
  | .PP_FCFG => 0x82
  | .PP_FSAFE => 0xF
  | .PP_IMAX => 0xFFF
  | .PP_CHOP => 0x28
  | .PP_HOLDT => 0x14
  | .PP_ITAB => BitVec.ofNat 32 (([0, 25, 50, 74, 98, 120, 142, 162, 180, 197, 212, 225, 236, 244, 250, 254, 255] : List Nat).getD i 0)
  | .PP_TSTEP => 0x7530
  | .PP_TSTART => 0x7530
  | .PP_TSMIN => 0xBB8
  | .PP_REGAIN => 0xC
  | .PP_GIVEUP => 0x4E20
  | .PP_YCFG => 0x3
  | .PP_RIPTH => 0x28
  | .PP_RIPN => 0x3
  | .PP_RIPLEARN => 0x8
  | .PP_BEMFTH => 0x28
  | .PP_BEMFN => 0x3
  | .PP_SNSPER => 0x1
  | .PP_EMITSET => 0x14
  | .PP_SNSBMIN => 0x190
  | .PP_SNSTHR => 0x80
  | .PP_SNSN => 0x4
  | .PP_INDB => 0xA
  | .PP_BTNDB => 0x14
  | .PP_CSTATE => 0x10
  | .PP_CUTTMO => 0x1F4
  | .PP_CUTLEAVE => 0x64
  | .PP_CUTDB => 0x2
  | .PP_BRKT => 0x14
  | .PP_JOGT => 0x14
  | .PP_DSTATE => 0x10
  | .ADC_WINHI => 0xFFF
  | .USB_STATE => 0x10
  | .USB_EPMPS => 0x40
  | .ETH_STATE => 0x10
  | .ETH_MACCFG => 0x83
  | .ETH_FILT => 0x2
  | .ETH_RXPHI => 0x800
  | .ETH_RXPLO => 0x400
  | .ETH_PQUANTA => 0xFFFF
  | .UART_STATE => 0x10
  | .UART_FMT => 0x1
  | .UART_DIV => 0x364
  | .UART_STAT => 0x40
  | .UART_RXTH => 0x1
  | .UART_RTSHI => 0x30
  | .UART_RTSLO => 0x10
  | .UART_IDLECH => 0x4
  | .KX_STATE => 0x10
  | .KX_CFG => 0x8
  | .KX_ADDR => 0xFF
  | .KX_RETRY => 0x8
  | .KX_ACKDLY => 0xA
  | .KX_LONEWIN => 0x3E8
  | .KX_LONEBCN => 0xFA
  | .KX_DUPWIN => 0x64
  | .KX_LASTNA => 0xFF
  | .WP_LASTDISC => 0xFF
  | .SPI_STRMAX => 0x3E8
  | .SPI_CSCFG => 0x5220003
  | .SPI_WINCFG => 0x1
  | .SPI_WINCMD => 0x3
  | .NV_CTL => 0x1
  | .NV_STATE => 0x11
  | .NV_WEARWARN => 0xF4240
  | .PIN_PAD => if isSafetyPin i then 2 else 1
  | .PIN_STAT => if isSafetyPin i then 2 else 0
  | .RTC_ALARM => 0xFFFFFFFF
  | .DBG_ID => 0x14810
  | .DBG_UID => Config.dieSerial
  | .DBG_USBID => 0x48103C4E
  | .DBG_TMO => 0x3E8
  | _ => 0

end Sys2Proof.Machine
end

