-- ==== Sys2Proof/Machine/State.lean ====
section
/-!
DEFINITION. The state of the device as plain data, the reasons a step can stop, and the state right after reset.

Registers of I/O space are held in ONE sparse map `io` under their lowest address (a register with an instance per requester
adds 2^20 times the requester); an unlisted address reads as the register's reset value (`regReset`). What the spec keeps
behind its registers (threads, memories, crossings, books, the units' engines) stands in the other fields.
-/
namespace Sys2Proof.Machine

/-- No meaning of this model stops with a fault: every command has an effect, and the type has no constructor. -/
inductive Fault where
  deriving DecidableEq, Repr

/-- Why a command has no meaning. -/
inductive Refusal where
  /-- Raised by an arm of `exec` whose command has no meaning yet; safe: the machine stops by name. -/
  | notModelled (mnemonic : String)
  deriving DecidableEq, Repr

/-- The thread states of R301. -/
inductive ThState where
  | stopped | running | parked | stopping | halted
  deriving DecidableEq, Repr

/-- What a parked thread waits for (R368, R369, R355, R361). -/
inductive Park where
  | none | wait | fence | limitWindow | limitIn
  | waitb (bit : Nat) (v : Bool)
  deriving DecidableEq, Repr

/-- One Nalti thread: the registers of R266, the status bits of R300 that belong to the thread, and what the thread's rules
keep hidden. `p` holds p0-p3 under 0-3 and lk under 4. Worlds are `false` for keeper and `true` for normal. -/
structure Thread where
  st : ThState
  park : Park
  g : SMap Byte
  p : SMap Word
  /-- Word address of the next instruction. -/
  pc : Word
  /-- Word address of the last issued instruction (THRn_PC). -/
  lastPc : Word
  epc : Word
  /-- The hidden register Return of R371. -/
  ret : Word
  c : Bool
  v : Bool
  ie : Bool
  inh : Bool
  /-- Current world (R426). -/
  world : Bool
  inToll : Bool
  /-- Where the thread continues after the delay slot that is to issue next (R364). -/
  target : Option Word
  /-- Source of the committed delivery whose handler has not issued (R541). -/
  delivery : Option Nat
  /-- Remaining ticks of the TOLL budget (R429). -/
  budget : Option Nat
  /-- Window accesses outstanding (R354), and those of them that were issued in keeper world (R434). -/
  outW : Nat
  outKW : Nat
  /-- INs from other islands outstanding (R361), and those of them that were issued in keeper world (R434). -/
  outX : Nat
  outKX : Nat
  /-- A stop has taken effect and is held until the TOLL ends (R311) or the delay slot has issued (R310). -/
  stopHeld : Bool
  /-- The budget has expired (R434) and the forced return waits for the accesses to land. -/
  forced : Bool
  icount : Quad
  /-- A debug halt waits for the next instruction boundary (R1093): the value DBG_HCAUSE will take. -/
  haltPend : Option Nat
  /-- The thread issues one instruction and halts again (R1097). -/
  stepping : Bool
  deriving DecidableEq, Repr

/-- The thread after a device reset (R302, R316). -/
def Thread.reset (n : Nat) : Thread :=
  { st := if n = 0 then .running else .stopped, park := .none, g := [], p := [],
    pc := if n = 0 then 0xC000 else 0, lastPc := if n = 0 then 0xC000 else 0, epc := 0, ret := 0,
    c := false, v := false, ie := false, inh := false, world := false, inToll := false, target := none,
    delivery := none, budget := none, outW := 0, outKW := 0, outX := 0, outKX := 0, stopHeld := false, forced := false, icount := 0,
    haltPend := none, stepping := false }

/-- Where the device stands between no supply and running (R130, R136, R144, R173, R182, R190). -/
inductive Phase where
  /-- Held in reset: no supply, RSTN low, or waiting for VDD33 (R136, R208). -/
  | held
  /-- Released; the near-RAM clear runs and T0 has not fetched (R144, R190). -/
  | clearing
  /-- T0 has fetched: SAFE or RUN, by PMU_MODE.MODE; DOZE is `Dev.doze`. -/
  | awake
  /-- STANDBY (R182). -/
  | standby
  deriving DecidableEq, Repr

/-- Modes, supplies, clocks and the AO island behind its registers (chapters 03 and 04). -/
structure Dev where
  phase : Phase
  doze : Bool
  /-- STANDBY entry is in progress: threads issue nothing and new transfers are refused (R46). -/
  stbyReq : Bool
  /-- The ROM overlay is in place (R273). -/
  overlay : Bool
  /-- PMU_IMAP.ROMOFF has armed the release (R168); T0 has executed a taken transfer since, whose delay slot is still to issue. -/
  romoffArmed : Bool
  romoffGo : Bool
  /-- Supplies above their release thresholds (R130). -/
  vdd33 : Bool
  vddao : Bool
  /-- RSTN held low by a recognised reset (R136). -/
  rstnLow : Bool
  /-- HFRC is running (R258). -/
  hfrc : Bool
  /-- LINK has moved to PLL C by SWITCH (R139, R142), and its clocks stopped and have not run again (R807). -/
  linkOn : Bool
  linkLost : Bool
  /-- The islands that must move to HFRC stand still until it runs (R258): PLL A's, PLL B's. -/
  stopA : Bool
  stopB : Bool
  /-- The islands of PLL A, of PLL B run from it; they wait for its lock to move (R142); it has lost lock and not locked again
  (R256). -/
  onA : Bool
  onB : Bool
  swA : Bool
  swB : Bool
  lostA : Bool
  lostB : Bool
  /-- WAKE0 and WAKE1 are at their active level (R188). -/
  wake0 : Bool
  wake1 : Bool
  /-- The wake that is in progress and its source's ICU number (R190, R550). -/
  waking : Bool
  wakeSrc : Nat
  /-- RTC_SET committed and not yet loaded (R197). -/
  rtcSet : Option Quad
  /-- PLL A and PLL B run the DEPTH and PHASE last applied (R222). -/
  spreadA : Byte
  spreadB : Byte
  /-- A slot map committed and not yet in force, and the slot-0 cycle at which it comes into force (R399, R422). -/
  slotPend : Option Quad
  slotAt : Nat
  /-- The strobe-kill path forces GP6-GP13 low (R68). -/
  kill : Bool
  /-- The saved state of the ICU in the AO retention registers (R549): EN, PRIO, TGT and WORLD registers. -/
  retIo : SMap Quad
  retPend : SMap Bool
  retRet : SMap Bool
  retRr : SMap Nat
  /-- The image header the ROM has read, or the monitor loaded (R159, R163, R1111). -/
  hdr : Option (List Byte)
  /-- KEYHASH as the ROM read it from the boot record, `none` before (R154, R155). -/
  keyhash : Option (List Byte)
  /-- The message in progress in the SHA-256 engine (R166). -/
  sha : List Byte
  /-- The ROM in SAFE: it has configured its pins (R70); PLL B and PLL C have locked and SWITCH has taken effect (R147); a reload after
  a wake is under way (R190); the bits of PMU_BOOTSTAT with which it may enter RUN (R167), 0 before every check has passed. -/
  romCfg : Bool
  portsUp : Bool
  reload : Bool
  romPass : Nat
  deriving DecidableEq, Repr

/-- What an instruction in the pipeline still does after its issue (R393): a general register, a pointer or lk that it writes; the C and V
it writes; IE set, by a RETI with INH cleared; its access to the destination bit `a` in the bank of the world of its issue, which
becomes `f0` where it is 0 and `f1` where it is 1 and whose old value goes to a general register for TSB (R349); the write of an OUT to
a CORE register by a requester in the world and with the grant of its issue; the read of an IN from a CORE register, for a general
register of the issuing thread. -/
inductive PipeOp where
  | greg (t r : Nat) (v : Byte)
  | preg (t r : Nat) (v : Word)
  | flags (t : Nat) (c v : Option Bool)
  | setIe (t : Nat) (endInh : Bool)
  | bit (t a : Nat) (world f0 f1 : Bool) (g : Option Nat)
  | outReg (req addr : Nat) (b : Byte) (world : Bool) (grant : Nat)
  | inReg (req addr r : Nat) (world : Bool) (grant : Nat)
  deriving DecidableEq, Repr

/-- An entry of the pipeline: the CORE cycle of the instruction's issue, the cycle at whose end (for an IN's read: in which) the effect
lands, and the effect. -/
structure PipeEntry where
  issue : Nat
  land : Nat
  op : PipeOp
  deriving DecidableEq, Repr

/-- A bit write that the bit array holds and other threads may not see yet (R396, R403): the bit's key, the CORE cycle of the write's
issue, the issuing thread, the value before. -/
structure BitLag where
  key : Nat
  issue : Nat
  thread : Nat
  old : Bool
  deriving DecidableEq, Repr

/-- Where the value of a split-phase access goes: its destination, the CORE cycle of its issue (R404), and whether it was issued in keeper
world (R434). -/
structure Landing where
  dst : Dst
  issue : Nat
  keeper : Bool
  deriving DecidableEq, Repr

/-- A transfer of a crossing (R232-R237): what one island sends another. -/
inductive Xfer where
  /-- A posted write of one byte of I/O space, with the requester, its world and its grant at the issue (R243, R455). -/
  | regWrite (req addr : Nat) (b : Byte) (world : Bool) (grant : Nat)
  /-- The request of a split-phase IN (R243). -/
  | regRead (req addr : Nat) (dst : Landing) (world : Bool) (grant : Nat)
  /-- The value of an IN on its way to its destination. -/
  | inReply (dst : Landing) (b : Byte)
  /-- A window load of `n` bytes at a far address as an owner, in a world; `closed` and `refused` as at the issue. -/
  | farLoad (req far n owner : Nat) (world closed refused : Bool) (dst : Landing)
  /-- A window store. -/
  | farStore (req far : Nat) (bytes : List Byte) (owner : Nat) (world closed refused : Bool)
  /-- The value of a window load on its way to its destination. -/
  | farReply (dst : Landing) (bytes : List Byte)
  /-- The report that a store has been accepted (R354, R515). -/
  | accepted (req : Nat) (keeper : Bool)
  /-- A source's rising edge (R525). -/
  | edge (src : Nat)
  /-- Occurrences of a counted event (R1127). -/
  | count (code n : Nat)
  /-- A booked movement: book, term it leaves, term it enters, amount (R643). -/
  | book (b src dst amt : Nat)
  /-- A refused access found outside CORE, for TG_VIOL: kind, agent, address field (R472). -/
  | violation (kind agent addr : Nat)
  /-- A change of a unit's AGREE bit (R1152). -/
  | agree (unit : Nat) (v : Bool)
  /-- An entry handed to a channel's unit (R644): channel, ring index, UFLAGS, UARG, indirect, fragments (address, length). -/
  | ringGive (ch idx uflags uarg : Nat) (frags : List (Nat × Nat))
  /-- The unit's acceptance of an entry (R644). -/
  | ringAccept (ch : Nat)
  /-- The unit's completion of an entry: channel, index, status, DONE, CFLAGS. -/
  | ringDone (ch idx status done cflags : Nat)
  /-- A HEAT imbalance cuts the head (R667). -/
  | heatImb
  /-- A channel asks its unit to abandon what it holds (R595). -/
  | ringAbort (ch : Nat)
  /-- A unit asks for at most 8 bytes of an entry it holds, from a far address (R585, R586). -/
  | unitRead (ch idx addr n : Nat)
  /-- The bytes on their way to the unit; `bad` where the access was refused or faulted. -/
  | unitData (ch idx : Nat) (bytes : List Byte) (bad : Bool)
  /-- At most 8 bytes of an entry on their way from the unit to a far address (R586). -/
  | unitWrite (ch idx addr : Nat) (bytes : List Byte)
  /-- A write for an entry was refused or faulted: the unit is to end the entry (R585). -/
  | unitDeny (ch idx : Nat)
  /-- A unit's read or write in FABRIC, with its owner and world as at its arrival (R566, R602). -/
  | unitLoad (ch idx addr n owner : Nat) (world : Bool)
  | unitStore (ch idx addr : Nat) (bytes : List Byte) (owner : Nat) (world : Bool)
  /-- A window load that goes to the SPI port: requester, flash byte, count, destination (R991). -/
  | spiLoad (req byte n : Nat) (dst : Landing)
  /-- A load that goes to the NV store (R31): requester, byte of the store, count, destination. -/
  | nvLoad (req byte n : Nat) (dst : Landing)
  /-- The answer of the SPI port or of the NV store to a load. -/
  | spiReply (req : Nat) (dst : Landing) (bytes : List Byte)
  deriving DecidableEq, Repr

/-- A ring entry as its unit holds it (R570-R572): index, UFLAGS, UARG, whether it was indirect, fragments (far address, bytes). -/
structure Entry where
  idx : Nat
  uflags : Nat
  uarg : Nat
  ind : Bool
  frags : List (Nat × Nat)
  deriving DecidableEq, Repr

/-- A completion not yet written: index, STATUS, CFLAGS, DONE (R573, R575). -/
structure Compl where
  idx : Nat
  status : Nat
  cflags : Nat
  done : Nat
  deriving DecidableEq, Repr

/-- What a channel keeps of an entry it has read (R570, R582): CTL, TAG, UARG, HANDLE. -/
structure EntryInfo where
  ctl : Nat
  tag : Nat
  uarg : Nat
  handle : Nat
  deriving DecidableEq, Repr

/-- What a ring channel keeps behind its registers (chapter 11). -/
structure Chan where
  /-- Indexes posted and not completed, oldest first (R579). -/
  out : List Nat
  /-- Indexes handed to the unit and not yet accepted or completed, in order (R644). -/
  given : List Nat
  /-- Completed by the unit or at fetch, not yet written (W of R649). -/
  done : List Compl
  /-- The entries that have been read, by index, until they complete. -/
  info : SMap (Option EntryInfo)
  /-- Bytes that the entry now with a receiving unit has had written, and whether one of its writes was refused or faulted (R585). -/
  moved : Nat
  bad : Bool
  /-- The unit has been asked to abandon (R595). -/
  aborting : Bool
  /-- The worlds of channel and unit are unequal (R459). -/
  mismatch : Bool
  deriving DecidableEq, Repr

/-- A channel after reset. -/
def Chan.reset : Chan :=
  { out := [], given := [], done := [], info := [], moved := 0, bad := false, aborting := false, mismatch := false }

/-- The bytes of an entry that a unit reads (R572, R586): the entry's fragments, how far ahead of what it has taken the unit asks, how many
bytes of the stream it has asked for, the bytes that have arrived and that it has not taken, how many it has taken, and whether an
access was refused, after which nothing more arrives (R585). -/
structure Mover where
  frags : List (Nat × Nat)
  ahead : Nat
  asked : Nat
  got : List Byte
  taken : Nat
  bad : Bool
  deriving DecidableEq, Repr

/-- A Hopper pool (chapter 12). -/
structure Pool where
  configured : Bool
  enabled : Bool
  /-- Indexes in the free list, head first (R610, R629). -/
  free : List Nat
  /-- Owner of each held buffer; 15 where it is free (R632). -/
  owner : SMap Nat
  deriving DecidableEq, Repr

/-- A pool after reset. -/
def Pool.reset : Pool := { configured := false, enabled := false, free := [], owner := [] }

/-- A write-off line (R662). -/
structure WoLine where
  book : Nat
  block : Nat
  amount : Nat
  deriving DecidableEq, Repr

/-- The Ledger (chapter 13). Terms are keyed by 8 * book + term index of R649. -/
structure Ledger where
  term : SMap Quad
  /-- Amounts in T on their way to a term (R647). -/
  toward : SMap Nat
  snap : SMap Quad
  /-- The CORE cycle of the latest update after the latest settle or the opening (R653, R657), by book. -/
  dirty : SMap (Option Nat)
  /-- A rebase waits for the next settle (R669, R677), by book. -/
  rebase : SMap Bool
  /-- The write-off log, newest first (R664). -/
  wo : List WoLine
  /-- One more than the CORE cycle in which LED_IMB was filled (R676). -/
  imbAt : Nat
  deriving DecidableEq, Repr

/-- An entry of FABRIC's list of far accesses, in order of arrival: an access that waits to be carried out (R496, R510), one that SERIAL is
answering (R31, R991), or an answer that waits for its requester's earlier ones (R410); and how many changes of owners, tags and STRICT
had been made when the access arrived (R452, R506, R509). -/
structure FarWait where
  x : Xfer
  epoch : Nat
  deriving DecidableEq, Repr

/-- What a change of owners, tags or STRICT replaced, for accesses that had arrived before it and still wait: the number of earlier changes,
the lines retagged, the page owners, tags, written bits and bytes of these lines, and the old SEAL_STRICT where that was the change. -/
structure FarOld where
  epoch : Nat
  lo : Nat
  n : Nat
  owner : SMap Nat
  tag : SMap Nat
  written : SMap Bool
  byte : SMap Byte
  strict : Option Quad
  deriving DecidableEq, Repr

/-- Far memory, its tags and its engine (chapters 08 and 09). -/
structure Far where
  /-- Plaintext of the stored bytes, by far address below 0x40_0000. -/
  byte : SMap Byte
  tag : SMap Nat
  written : SMap Bool
  /-- The page owner table (R451). -/
  owner : SMap Nat
  /-- The serial number of each owner's key, `none` where no key exists (R492, R494). -/
  key : SMap (Option Nat)
  /-- Accesses that wait for keys or for a REKEY (R496, R510), loads in SERIAL, and answers behind them. -/
  wait : List FarWait
  /-- Changes made while accesses waited, and what they replaced, oldest first. -/
  epoch : Nat
  olds : List FarOld
  /-- Stores in the store queue, and the stores that wait for a place in it, by requester and whether they were issued in keeper world
  (R515). -/
  stq : Nat
  stWait : List (Nat × Bool)
  /-- Seal keys made since the last AO POR (R495). -/
  keysMade : Nat
  /-- The TRNG has failed while keys were awaited, and not all exist yet (R497). -/
  trngBad : Bool
  /-- The owner whose REKEY is in progress (R510), and the lines its sweep has passed (R517). -/
  rekey : Option Nat
  swept : Nat
  deriving DecidableEq, Repr

/-- The interrupt controller behind its registers (chapter 10). -/
structure Icu where
  pend : SMap Bool
  ret : SMap Bool
  /-- Round-robin pointers, 7 at reset (R538). -/
  rr : SMap Nat
  /-- One more than the CORE cycle in which a source's latest edge was recognised (R555). -/
  edge : SMap Nat
  deriving DecidableEq, Repr

/-- An event counter behind its registers (chapter 22): the opening instant of a MAXLAT measurement (tick and CORE cycle), the
ticks of DURATION not yet credited as whole microseconds, the level last seen. -/
structure Counter where
  opened : Option (Nat × Nat)
  frac : Nat
  level : Bool
  deriving DecidableEq, Repr

/-- A counter after reset. -/
def Counter.reset : Counter := { opened := none, frac := 0, level := false }

/-- An entry Millrace holds (R686-R689): the ring entry, its line count, lines started, lines whose every sub-pulse has fired. -/
structure MrEntry where
  e : Entry
  lines : Nat
  started : Nat
  done : Nat
  deriving DecidableEq, Repr

/-- Where a line stands (R694, R695, R704): its sub-pulse waits for the latch, is latched (1 us), waits for its phase gap, fires, or
the line has ended. -/
inductive MrStage where
  | waiting | latching | gap | firing | ended
  deriving DecidableEq, Repr

/-- The line Millrace prints (R694): index of its entry, whether it is BLANK, its entry's CONT, its four patterns (R699), the
settings taken at its start (R701, R704, R735), its sub-pulse and the groups still to fire in it, the strobe groups now high,
whether the shift of the pattern that is to be latched next has completed, and when the line ended. -/
structure MrLine where
  idx : Nat
  blank : Bool
  cont : Bool
  pats : List (List Bool)
  width : List Nat
  draw : Nat
  maxDots : Nat
  gap : Nat
  stbMax : Nat
  hcTrip : Nat
  hcBlank : Nat
  sp : Nat
  stage : MrStage
  groups : List Nat
  strobes : List Nat
  shifted : Bool
  endAt : Nat
  deriving DecidableEq, Repr

/-- Millrace behind its registers (chapter 14). -/
structure Mr where
  /-- Entries passed by the channel and not yet checked (R688). -/
  inbox : List Entry
  /-- Channel the unit serves; entries held, in fetch order (R686). -/
  chan : Nat
  held : List MrEntry
  /-- Rows landed ahead of the line being printed (R691), oldest first; `none` for a row whose read was refused (R585). -/
  ahead : List (Option (List Byte))
  /-- The next line's patterns, whether its p0 has been shifted (R694 step 7), and whether they were computed while a schedule
  ran (R1257). -/
  next : Option (List (List Bool))
  nextShifted : Bool
  nextRan : Bool
  /-- HOFF with which the next line's patterns were computed (R702). -/
  nextHoff : Nat
  line : Option MrLine
  /-- Rows of lines n-1 and n-2 (R690), and what a hold keeps (R719). -/
  hist1 : List Byte
  hist2 : List Byte
  running : Bool
  /-- A hold of R719 is in force, and the line it holds keeps its history. -/
  hold : Bool
  keepHist : Bool
  /-- The latest line's start, period and planned period (R710-R712), and whether the next line is the schedule's first. -/
  aPrev : Nat
  pPrev : Nat
  qPrev : Nat
  /-- The latest AIN0/AIN1 pair and whether one completed since EN was set (R701, R703). -/
  code0 : Nat
  code1 : Nat
  pairOk : Bool
  /-- HD_PWRN has been low for MR_PWRDLY (R685). -/
  powered : Bool
  /-- Tokens of the current line (R650). -/
  avail : Nat
  drawn : Nat
  grant : Nat
  /-- Consecutive out-of-range AIN0 readings (R720). -/
  thermCnt : Nat
  /-- The level behind source 64 (R692). -/
  req : Bool
  /-- The time the strobes last rose (R721). -/
  strobeAt : Option Nat
  /-- The status the interrupted line's entry takes while the head drains (R726, R729). -/
  cut : Option Nat
  /-- SHRATE, MR_REQLOW and MR_ROWAHEAD as the latest line start found them (R735). -/
  rate : Nat
  reqLow : Nat
  rowAhead : Nat
  deriving DecidableEq, Repr

/-- Millrace after reset. -/
def Mr.reset : Mr :=
  { inbox := [], chan := 0, held := [], ahead := [], next := none, nextShifted := false, nextRan := false, nextHoff := 0, line := none, hist1 := [],
    hist2 := [], running := false, hold := false, keepHist := false, aPrev := 0, pPrev := 0, qPrev := 0, code0 := 0, code1 := 0,
    pairOk := false, powered := false, avail := 0, drawn := 0, grant := 0, thermCnt := 0, req := true,
    strobeAt := none, cut := none, rate := 32, reqLow := 16, rowAhead := 2 }

/-- Half-steps accepted from one source and not yet all started (R749-R753): direction (`true` forward), how many, how many have
started, the line schedule's A_n and Q_n, or a move's periods, ramp and flags; `book` marks what has been booked. -/
structure Seg where
  isMove : Bool
  dir : Bool
  count : Nat
  started : Nat
  a : Nat
  q : Nat
  tstep : Nat
  tstart : Nat
  rampn : Nat
  ramp : Bool
  cont : Bool
  irq : Bool
  /-- The move starts from standstill (R753). -/
  still : Bool
  deriving DecidableEq, Repr

/-- The half-step in progress (R746, R750): direction, microsteps per half-step and applied, ticks between microsteps, its start and
period, whether it is a move's last, with the move's IRQ and CONT flags. -/
structure HalfStep where
  dir : Bool
  res : Nat
  micro : Nat
  every : Nat
  at_ : Nat
  period : Nat
  moveLast : Bool
  irq : Bool
  cont : Bool
  deriving DecidableEq, Repr

/-- A winding (R747): setpoint, sign (`true` drives the first terminal), whether it is in its on-time and since when, the
consecutive conversions that reached PP_IMAX (R748), its on-time in the current ripple window in ticks. -/
structure Winding where
  setp : Nat
  plus : Bool
  on : Bool
  since : Nat
  overN : Nat
  onTicks : Nat
  deriving DecidableEq, Repr

/-- The feeder and its yank detector behind their registers (chapter 15), and the SAFE feed sequencer (R148-R150). -/
structure Feeder where
  /-- Electrical position, 0-63 (R745). -/
  phi : Nat
  segs : List Seg
  cur : Option HalfStep
  /-- Since when a CONT move's successor is late (R754); when the latest half-step ended, and whether it was cut short or the
  last of a move with CONT = 0. -/
  contDue : Option Nat
  lastEnd : Nat
  lastStop : Bool
  floating : Bool
  floatAt : Nat
  /-- The last position is held at IHOLD (R756). -/
  holding : Bool
  windA : Winding
  windB : Winding
  /-- The detector's run (R760-R762): a run begins with the next window, windows seen in learning, their sum of efforts,
  deviating windows, the period it learns at, when the window began and how long it is. -/
  newRun : Bool
  learnN : Nat
  learnSum : Nat
  devN : Nat
  runPeriod : Nat
  winAt : Nat
  winLen : Nat
  /-- Consecutive counting back-EMF samples (R763) and the codes of the sample in progress. -/
  bemfN : Nat
  bemf : SMap Nat
  /-- The time of the latest fault that floated the windings, and which of A and B were in their on-time then (R798). -/
  trip : Option (Nat × Bool × Bool)
  /-- The SAFE feed sequencer: running, holding, half-steps of this press. -/
  safeOn : Bool
  safeHold : Bool
  safeSteps : Nat
  deriving DecidableEq, Repr

/-- A winding that is off. -/
def Winding.reset : Winding := { setp := 0, plus := true, on := false, since := 0, overN := 0, onTicks := 0 }

/-- The feeder after reset. -/
def Feeder.reset : Feeder :=
  { phi := 0, segs := [], cur := none, contDue := none, lastEnd := 0, lastStop := true, floating := true, floatAt := 0,
    holding := false, windA := Winding.reset, windB := Winding.reset, newRun := true, learnN := 0, learnSum := 0, devN := 0,
    runPeriod := 0, winAt := 0, winLen := 0, bemfN := 0, bemf := [], trip := none, safeOn := false, safeHold := false,
    safeSteps := 0 }

/-- An optical sensor behind its registers (R767-R770). -/
structure Sensor where
  dark : Nat
  low : Nat
  high : Nat
  track : Nat
  cal : Bool
  deriving DecidableEq, Repr

/-- A sensor after reset. -/
def Sensor.reset : Sensor := { dark := 0, low := 0, high := 0, track := 0, cal := false }

/-- Where the cutter stands (R777-R779). -/
inductive CutPhase where
  | idle
  /-- The brake is released and the drive has not risen. -/
  | starting
  /-- The drive is high and home has not been debounced as left. -/
  | driving
  /-- Home has been left. -/
  | away
  /-- The drive has fallen and the brake is not yet asserted. -/
  | coasting
  | braking
  | jogging
  /-- A jog brakes. -/
  | jogBraking
  deriving DecidableEq, Repr

/-- A drawer output (R782-R784): the start and width in ms of the pulse that is high, the held width. -/
structure Drawer where
  high : Option (Nat × Nat)
  held : Option Nat
  deriving DecidableEq, Repr

/-- A drawer after reset. -/
def Drawer.reset : Drawer := { high := none, held := none }

/-- An LED generator's output, the flashes left in its group and the start of the group (R787). -/
structure LedGen where
  out : Bool
  flash : Nat
  groupAt : Nat
  deriving DecidableEq, Repr

/-- An LED generator after reset. -/
def LedGen.reset : LedGen := { out := false, flash := 0, groupAt := 0 }

/-- Who requests an ADC conversion (R793). -/
inductive AdcWho where
  | chop (w : Nat) | head (i : Nat) | bemf (i : Nat) | dark (k : Nat) | lit (k : Nat) | sequence (k : Nat)
  /-- A conversion of a pass of the firmware sequence that STOP ended (R795). -/
  | nobody
  deriving DecidableEq, Repr

/-- A request of the ADC: level, input, requester, the CORE cycle in which it was made (R793). -/
structure AdcReq where
  level : Nat
  input : Nat
  who : AdcWho
  made : Nat
  deriving DecidableEq, Repr

/-- The paper path and the ADC behind their registers (chapter 15). -/
structure Paper where
  feed : Feeder
  sens : SMap Sensor
  emit : Bool
  /-- Debounced logical levels (R772): cover open, cutter at home, drawer open, button pressed. -/
  cover : Bool
  home : Bool
  drawerOpen : Bool
  button : Bool
  cut : CutPhase
  cutDrv : Bool
  /-- The cutter's brake is asserted. -/
  brake : Bool
  drw : SMap Drawer
  bell : Bool
  bellLeft : Nat
  leds : SMap LedGen
  adcCur : Option AdcReq
  adcWait : List AdcReq
  /-- Conversions of the firmware pass that remain. -/
  seqLeft : Nat
  deriving DecidableEq, Repr

/-- The paper path after reset; the debounced levels are those R62 gives for functions selected on no pin. -/
def Paper.reset : Paper :=
  { feed := Feeder.reset, sens := [], emit := false, cover := true, home := false, drawerOpen := false, button := false,
    cut := .idle, cutDrv := false, brake := true, drw := [], bell := false, bellLeft := 0, leds := [], adcCur := none,
    adcWait := [], seqLeft := 0 }

/-- An entry held by a unit that holds one at a time (R563): its channel, the entry, the bytes moved, a unit-specific mark. -/
structure Slot where
  chan : Nat
  e : Entry
  moved : Nat
  mark : Nat
  deriving DecidableEq, Repr

/-- A line of the read-window cache: number of the 32-byte flash line and its bytes. -/
structure CacheLine where
  line : Nat
  bytes : List Byte
  deriving DecidableEq, Repr

/-- The USB device behind its registers (chapter 16): the address in force and the staged one (R816); the data toggles expected or sent
next, by 2 * endpoint, plus 1 for OUT; EP0 armed for IN, for OUT, and stalled (R819); the IN packet that waits for its handshake,
endpoint and length (R828); since when SUSP is 1 (R814); K is driven (R815); starvation episodes by UNIT number (R824); the
pull-up state kept over a hand-over (R466); a SETUP held for the new world (R859). -/
structure Usb where
  addr : Nat
  staged : Option Nat
  toggle : SMap Bool
  armIn : Bool
  armOut : Bool
  stall0 : Bool
  sent : Option (Nat × Nat)
  susAt : Nat
  waking : Bool
  starve : SMap Bool
  keepPull : Bool
  setupKept : Bool
  deriving DecidableEq, Repr

/-- The USB device after reset. -/
def Usb.reset : Usb :=
  { addr := 0, staged := none, toggle := [], armIn := false, armOut := false, stall0 := false, sent := none, susAt := 0,
    waking := false, starve := [], keepPull := false, setupKept := false }

/-- A frame in the receive FIFO (R835): its bytes with FCS, the status its checksums give (0, 0x80 or 0x81), its CFLAGS (R842). -/
structure RxFrame where
  bytes : List Byte
  status : Nat
  cflags : Nat
  deriving DecidableEq, Repr

/-- The Ethernet MAC behind its registers (chapter 16): frames in the receive FIFO, oldest first; the frame in the transmit FIFO as it
goes on the wire; it is being sent; its attempts so far; it waits out a backoff (R845); the quanta of the received pause (R846);
a pause frame has been sent and RXFILL has not fallen below RXPLO (R847); the MDIO operation in progress (R833); the part runs
from PLL C for want of its reference (R831). -/
structure Eth where
  fifo : List RxFrame
  tx : List Byte
  sending : Bool
  attempts : Nat
  backoff : Bool
  pause : Nat
  pauseSent : Bool
  mdio : Option Nat
  onPllc : Bool
  deriving DecidableEq, Repr

/-- The Ethernet MAC after reset. -/
def Eth.reset : Eth :=
  { fifo := [], tx := [], sending := false, attempts := 0, backoff := false, pause := 0, pauseSent := false, mdio := none,
    onPllc := false }

/-- An item of a UART's receive FIFO: a byte, good or stored with an error, or the place of a lost byte or of a break (R852). -/
inductive RxItem where
  | good (b : Byte)
  | bad (b : Byte)
  | lost
  | brk
  deriving DecidableEq, Repr

/-- A UART behind its registers (chapter 16): receive FIFO, transmit FIFO, the character in the shift register, RTS as driven, CTS and DSR
as seen (R62). -/
structure Uart where
  rx : List RxItem
  tx : List Byte
  shift : Option Byte
  rts : Bool
  cts : Bool
  dsr : Bool
  deriving DecidableEq, Repr

/-- A UART after reset; CTS asserted and DSR deasserted, as R62 gives for functions selected on no pin. -/
def Uart.reset : Uart := { rx := [], tx := [], shift := none, rts := false, cts := true, dsr := false }

/-- A transmit frame the Kolnex port holds (R907-R909): its ring index, destination, TYPE, PRIO, payload, the SEQ taken at its first attempt
(R892), attempts made since it last started with k = 0, whether any attempt collided, whether it was sent as a broadcast in LONE. -/
structure KxFrame where
  idx : Nat
  dst : Nat
  typ : Nat
  prio : Nat
  payload : List Byte
  seq : Option Nat
  tries : Nat
  collided : Bool
  loneSent : Bool
  deriving DecidableEq, Repr

/-- What the Kolnex port drives on the wire while KX_DE is high (R870): nothing, a DATA frame by its ring index, a BEACON, an ACK. -/
inductive KxWire where
  | quiet | data (idx : Nat) | beacon | ack
  deriving DecidableEq, Repr

/-- A received frame in a staging slot (R901): DST to the payload's end without SYNC and CRC, and the CFLAGS of R905. -/
structure KxStage where
  bytes : List Byte
  cflags : Nat
  deriving DecidableEq, Repr

/-- The Kolnex port behind its registers (chapter 17): entries passed by its channel and not yet taken, the channel, frames held in fetch
order, what it drives, the frame whose ACK window is open, whether the bus is free (R876), the slot drawn (R877), an ACK owed
(destination, SEQ; R902), the staging slots, the LONE list (destination, time), SEQ by destination, the last frame accepted from each
source (SEQ, time; R904), and a BEACON that is due (R896). -/
structure Kx where
  inbox : List Entry
  chan : Nat
  held : List KxFrame
  wire : KxWire
  ackWin : Option Nat
  free : Bool
  drawn : Option Nat
  ackOwed : Option (Nat × Nat)
  staging : List KxStage
  lone : List (Nat × Nat)
  seqOf : SMap Nat
  dup : SMap (Option (Nat × Nat))
  bcnDue : Bool
  deriving DecidableEq, Repr

/-- The Kolnex port after reset. -/
def Kx.reset : Kx :=
  { inbox := [], chan := 0, held := [], wire := .quiet, ackWin := none, free := false, drawn := none, ackOwed := none, staging := [],
    lone := [], seqOf := [], dup := [], bcnDue := false }

/-- The slot the Waypost controller is in (R929): a roll-call slot (fast or not, QUICK to follow), a write slot of QUICK, a write or read slot
of an XFER, a write slot of SURVEY, the three slots of a search triplet (R941). -/
inductive WpSlot where
  | roll (fast quick : Bool)
  | quick | write | read | survey | tripRead | tripWrite | tripConfirm
  deriving DecidableEq, Repr

/-- The Waypost controller behind its registers (chapter 18): the slot in progress, the operation's OP, an abort is pending, CHANGED was
set during the operation (R948), bits still to write, bits read so far, and the pass's variables of R952. -/
structure Wp where
  slot : Option WpSlot
  op : Nat
  abort : Bool
  changed : Bool
  bits : List Bool
  got : List Bool
  found : Nat
  last : Option Nat
  newlast : Option Nat
  prev : Nat
  cur : Nat
  i : Nat
  d : Bool
  deriving DecidableEq, Repr

/-- The Waypost controller after reset. -/
def Wp.reset : Wp :=
  { slot := none, op := 0, abort := false, changed := false, bits := [], got := [], found := 0, last := none, newlast := none,
    prev := 0, cur := 0, i := 0, d := false }

/-- A far load that SERIAL answers (R31, R991): requester, byte of the flash or of the NV store, bytes, destination. -/
structure WinLoad where
  req : Nat
  byte : Nat
  n : Nat
  dst : Landing
  deriving DecidableEq, Repr

/-- The SPI port behind its registers (chapter 19): the select and SEL of the transaction in progress or waiting for its continuing entry
(R981, R982), whether the held entry has begun and its bytes or cycles moved, loads captured and not yet looked up, loads that wait for
a line, lines that wait for a fill with whether they are counted, the line being filled and whether it is kept (R998), fills since a
queue entry last went (R997), and settings written for a select in use, by select, 4 for WINCFG (R1012). -/
structure Spi where
  tr : Option (Nat × Nat)
  begun : Bool
  inLoads : List WinLoad
  waiting : List WinLoad
  misses : List (Nat × Bool)
  fill : Option Nat
  keep : Bool
  inRow : Nat
  pendCfg : SMap (Option Quad)
  /-- The first bytes sent in the transaction in progress, as the lines carry them. -/
  sent : List Byte
  /-- The queue has faulted, and no write has yet left every fault bit 0 (R988). -/
  stopped : Bool
  deriving DecidableEq, Repr

/-- The SPI port after reset. -/
def Spi.reset : Spi :=
  { tr := none, begun := false, inLoads := [], waiting := [], misses := [], fill := none, keep := true, inRow := 0, pendCfg := [], sent := [], stopped := false }

/-- What one page write or hidden write of a command commits (R1033): a page with its new content, or BLANK; the protection setting; a
counter's value. -/
inductive NvJob where
  | page (p : Nat) (bytes : List Byte)
  | blank (p : Nat)
  | protect (v : Nat)
  | counter (n v : Nat)
  deriving DecidableEq, Repr

/-- The phases of a write (R1033). -/
inductive NvPhase where
  | load | erase | program | commit
  deriving DecidableEq, Repr

/-- The masks, their types and the ring descriptors as a command of the NV controller found them when it was started (R1063). -/
structure NvSet where
  mask : SMap Byte
  maskType : SMap Nat
  rings : List Quad
  deriving DecidableEq, Repr

/-- The NV controller and the hidden areas behind its registers (chapter 20): commands that wait, each by its block and the requester that
wrote GO; the CORE cycle of block 1's latest GO; what each block's command was started with; the command dispatched, and whether it has begun; the writes it has still to make with the phase of the first; whether its
PROGRAM has been repeated (R1036); pages committed; the entry MAINT is at and its status; whether it ends ABORTED (R1060); wear
counts, BLANK (1 from manufacture) and RETIRED of the pages; BP; the counters and their updates; the buffers under 256 * block + byte;
mask bytes under 32 * slot + byte and slot types; far loads of the mapping that wait for READY (R1022). -/
structure Nv where
  queue : List (Nat × Nat)
  goAt : Nat
  sets : SMap (Option NvSet)
  run : Option (Nat × Nat)
  begun : Bool
  jobs : List NvJob
  phase : NvPhase
  again : Bool
  donePg : Nat
  maintAt : Nat
  status : Nat
  abort : Bool
  wear : SMap Nat
  blank : SMap Bool
  retired : SMap Bool
  bp : Nat
  mc : SMap Nat
  mcUpd : SMap Nat
  buf : SMap Byte
  mask : SMap Byte
  maskType : SMap Nat
  loads : List WinLoad
  deriving DecidableEq, Repr

/-- The NV controller after reset, with the store as shipped (R1023). -/
def Nv.reset : Nv :=
  { queue := [], goAt := 0, sets := [], run := none, begun := false, jobs := [], phase := .load, again := false, donePg := 0, maintAt := 0, status := 0,
    abort := false, wear := [], blank := [], retired := [], bp := 0, mc := [], mcUpd := [], buf := [], mask := [], maskType := [], loads := [] }

/-- A command of bytes that the debug bus master carries out (R1088): for the monitor, and there for USB; in far space; a write; the
owner and world of its ACC; the next address; the bytes still to write; the count still to read; the bytes done; the access in
progress has been issued and has not completed. -/
structure DbgRun where
  mon : Bool
  usb : Bool
  far : Bool
  write : Bool
  owner : Nat
  world : Bool
  addr : Nat
  data : List Byte
  left : Nat
  got : List Byte
  deriving DecidableEq, Repr

/-- The Glogon link and run control behind their registers (chapter 21): the link is ACTIVE; wake symbols received in order (R1076); the data
symbols of the frame since its MARK; the request received and not yet executed; the debug bus master's command; PENDING has been
answered for it (R1083); the response to be driven; the latest response, as RESULT repeats it; the thread DBG_PCSAMP samples next;
accesses that timed out and whose completion is still to come, by crossing (R1106). -/
structure Dbg where
  active : Bool
  wake : Nat
  frame : Option (List Bool)
  req : Option (Nat × List Byte)
  run : Option DbgRun
  pended : Bool
  resp : Option (Nat × List Byte)
  last : Nat × List Byte
  pcNext : Nat
  stale : SMap Nat
  deriving DecidableEq, Repr

/-- The link before a session. -/
def Dbg.reset : Dbg :=
  { active := false, wake := 0, frame := none, req := none, run := none, pended := false, resp := none, last := (0, []), pcNext := 0,
    stale := [] }

/-- The resident monitor (R1108-R1114): the session is open; the response of each port, UART0 and USB; image bytes loaded. -/
structure Mon where
  open_ : Bool
  uart : Option (Nat × List Byte)
  usb : Option (Nat × List Byte)
  loaded : Nat
  deriving DecidableEq, Repr

/-- The monitor before a session. -/
def Mon.reset : Mon := { open_ := false, uart := none, usb := none, loaded := 0 }

/-- The whole state of the device. -/
structure State where
  /-- The commands that wait, first in, first out. -/
  pending : List Instr
  /-- Ticks of the time base since the reset, not wrapped (R225), and CORE cycles since then. -/
  time : Nat
  cycles : Nat
  /-- The model's own counter of free values drawn (DESIGN CHOICE). -/
  fresh : Nat
  /-- Stored values of the registers of I/O space. -/
  io : SMap Quad
  /-- A requester's captured value of a multi-byte register, under 2^20 * (requester + 1) + lowest address (R15). -/
  shadow : SMap (Option Quad)
  /-- A requester's staged byte, under 2^20 * (requester + 1) + byte address (R17). -/
  staged : SMap (Option Byte)
  dev : Dev
  thr : SMap Thread
  /-- What issued instructions still do, in the order of their landing (R393, R404). -/
  pipe : List PipeEntry
  /-- Bit writes of the last cycles, newest first (R396). -/
  lag : List BitLag
  /-- Near RAM (R278): private bank of thread t and world w from (2 t + w) * 0x2000, shared bank of world w from
  0x20000 + w * 0x2000. -/
  near : SMap Byte
  /-- Bits (R296): private user bits of thread t and world w from (2 t + w) * 0x100, shared bits and GPIO output values under
  0x10000 + the bit address. -/
  bits : SMap Bool
  iram : SMap Quad
  /-- Retention RAM (R185). -/
  retain : SMap Byte
  /-- What the board puts on the GP pads under 0-95, on WPN under 96 and on VBUS under 97, after the filter (R71, R73); `none` where it
  leaves the pad to its pull. -/
  pads : SMap (Option Bool)
  /-- The board overcomes the level a pin drives (R94). -/
  fight : SMap Bool
  icu : Icu
  xwait : SMap (List Xfer)
  xfly : SMap (List Xfer)
  /-- Slots of crossings whose transfer has been captured, by the CORE cycle at which the source sees the acknowledge low (R233). -/
  xback : SMap (List Nat)
  timers : SMap (Option Nat)
  /-- One more than the CORE cycle in which a timer was last started, by timer (R263); 0 where it has been withdrawn. -/
  armed : SMap Nat
  ctr : SMap Counter
  led : Ledger
  far : Far
  chan : SMap Chan
  pool : SMap Pool
  /-- RSV(o, p) under 4 * o + p (R622). -/
  resv : SMap Nat
  /-- A requester has committed a HOP_AREQ since the reset (R615). -/
  areq : SMap Bool
  mr : Mr
  pp : Paper
  /-- What units read of entries they hold, under 4096 * channel + index -/
  mover : SMap (Option Mover)
  /-- The entry each single-entry unit of R563 holds, by UNIT number -/
  slot : SMap (Option Slot)
  /-- Bytes of the NV store, 0xFF where never programmed (R316) -/
  nvByte : SMap Byte
  /-- Lines of the read-window cache, most recently used first (R992) -/
  cache : List CacheLine
  /-- The USB device (chapter 16) -/
  usb : Usb
  /-- The Ethernet MAC (chapter 16) -/
  eth : Eth
  /-- UART0 and UART1 (chapter 16) -/
  uart : SMap Uart
  /-- The Kolnex port (chapter 17) -/
  kx : Kx
  /-- The Waypost controller (chapter 18) -/
  wp : Wp
  /-- The SPI port (chapter 19) -/
  spi : Spi
  /-- The NV controller (chapter 20) -/
  nv : Nv
  /-- The Glogon link and run control (chapter 21) -/
  dbg : Dbg
  /-- The resident monitor (chapter 21) -/
  mon : Mon
  /-- The world the debug bus master names for its access (R1104). -/
  dbgWorld : Bool
  deriving DecidableEq, Repr

/-- The AO island and the mode machine after a reset has been released and the near-RAM clear has ended: SAFE, ROM overlay in
place, HFRC running (R139, R144, R273). -/
def Dev.reset : Dev :=
  { phase := .awake, doze := false, stbyReq := false, overlay := true, romoffArmed := false, romoffGo := false, vdd33 := true, vddao := true,
    rstnLow := false, hfrc := true, linkOn := false, linkLost := false, stopA := false, stopB := false,
    onA := false, onB := false, swA := false, swB := false, lostA := false, lostB := false, wake0 := false, wake1 := false,
    waking := false, wakeSrc := 0, rtcSet := none, spreadA := 0x04, spreadB := 0x24, slotPend := none, slotAt := 0, kill := false,
    retIo := [], retPend := [], retRet := [], retRr := [], hdr := none, keyhash := none, sha := [], romCfg := false,
    portsUp := false, reload := false, romPass := 0 }

/-- Far memory after a reset: all lines tagged 0 and unwritten, no key yet (R491, R494). -/
def Far.reset : Far :=
  { byte := [], tag := [], written := [], owner := [], key := [], wait := [], epoch := 0, olds := [], stq := 0, stWait := [],
    keysMade := 0, trngBad := false, rekey := none, swept := 0 }

/-- The Ledger after a reset: every term 0 (R652). -/
def Ledger.reset : Ledger := { term := [], toward := [], snap := [], dirty := [], rebase := [], wo := [], imbAt := 0 }

/-- The interrupt controller after a reset. -/
def Icu.reset : Icu := { pend := [], ret := [], rr := [], edge := [] }

/-- The device right after a power-on reset (R19, R302, R316): SAFE, T0 RUNNING at ROM word 0xC000, every memory at its reset
contents, no command waiting. PMU_RSTCAUSE shows POR, the cause of that reset (R138). -/
def State.reset : State :=
  { pending := [], time := 0, cycles := 0, fresh := 0, io := [(0x402, 1)], shadow := [], staged := [], dev := Dev.reset,
    thr := [], pipe := [], lag := [], near := [], bits := [], iram := [], retain := [], pads := [], fight := [], icu := Icu.reset, xwait := [], xfly := [], xback := [],
    timers := [], armed := [], ctr := [], led := Ledger.reset, far := Far.reset, chan := [], pool := [], resv := [], areq := [],
    mr := Mr.reset, pp := Paper.reset,
    mover := [],
    slot := [],
    nvByte := [],
    cache := [],
    usb := Usb.reset,
    eth := Eth.reset,
    uart := [],
    kx := Kx.reset,
    wp := Wp.reset,
    spi := Spi.reset,
    nv := Nv.reset,
    dbg := Dbg.reset,
    mon := Mon.reset,
    dbgWorld := false }

end Sys2Proof.Machine
end

