-- ==== Sys2Proof/Machine/Ops.lean ====
section
/-!
DEFINITION. The operations every meaning is built from: sparse maps, bit fields, registers, timers, counted events, crossings,
interrupt edges, booked movements and refused accesses.
-/
namespace Sys2Proof.Machine

/-! ## Sparse maps -/

/-- What a sparse map holds at `k`, `d k` where it lists nothing. -/
def mget {α : Type} (d : Nat → α) : SMap α → Nat → α
  | [], k => d k
  | e :: m, k => if e.1 = k then e.2 else mget d m k

/-- The map without key `k`, which reads as unlisted again. -/
def mdel {α : Type} : SMap α → Nat → SMap α
  | [], _ => []
  | e :: m, k => if e.1 = k then mdel m k else e :: mdel m k

/-- The map with an entry at the place of its key among rising keys. -/
def mins {α : Type} : SMap α → Nat → α → SMap α
  | [], k, v => [(k, v)]
  | e :: m, k, v => if k < e.1 then (k, v) :: e :: m else e :: mins m k v

/-- The map with `v` at `k`; the canonical form is kept: keys rising, no entry equal to what an unlisted key reads as. -/
def mset {α : Type} [DecidableEq α] (d : Nat → α) (m : SMap α) (k : Nat) (v : α) : SMap α :=
  if v = d k then mdel m k else mins (mdel m k) k v

/-- The map without the entries whose key is in `lo ≤ k < hi`: those keys read as unlisted again. -/
def merase {α : Type} (m : SMap α) (lo hi : Nat) : SMap α :=
  m.filter fun e => !(decide (lo ≤ e.1) && decide (e.1 < hi))

/-- The entries of a map whose key is in `lo ≤ k < hi`. -/
def mkeep {α : Type} (m : SMap α) (lo hi : Nat) : SMap α := m.filter fun e => decide (lo ≤ e.1) && decide (e.1 < hi)

/-- The map with its entries in `lo ≤ k < hi` replaced by those of another map, which lie there. -/
def mgraft {α : Type} (m part : SMap α) (lo hi : Nat) : SMap α := part.foldl (fun m e => mins m e.1 e.2) (merase m lo hi)

/-- The canonical form of a sparse map. -/
def mwf {α : Type} [DecidableEq α] (d : Nat → α) (m : SMap α) : Bool :=
  decide (m.Pairwise fun a b => a.1 < b.1) && m.all fun e => decide (e.2 ≠ d e.1)

/-! ## Bit fields -/

/-- Bits `hi` to `lo` of a register value as a number. -/
def fld (v : Quad) (hi lo : Nat) : Nat := v.toNat / 2 ^ lo % 2 ^ (hi + 1 - lo)

/-- The register value with bits `hi` to `lo` set to `x`. -/
def putFld (v : Quad) (hi lo x : Nat) : Quad :=
  (v &&& ~~~ BitVec.ofNat 32 ((2 ^ (hi + 1 - lo) - 1) * 2 ^ lo)) ||| BitVec.ofNat 32 (x % 2 ^ (hi + 1 - lo) * 2 ^ lo)

/-- Byte `i` of a register value, byte 0 the lowest (R14). -/
def byteOf (v : Quad) (i : Nat) : Byte := BitVec.ofNat 8 (v.toNat / 2 ^ (8 * i))

/-- A list of bytes read as one little-endian number (R14). -/
def leNat : List Byte → Nat
  | [] => 0
  | b :: bs => b.toNat + 256 * leNat bs

/-- The low `n` bytes of a number, little-endian (R14). -/
def leBytes : Nat → Nat → List Byte
  | 0, _ => []
  | n + 1, v => BitVec.ofNat 8 v :: leBytes n (v / 256)

/-- A signed reading of the low `w` bits of a number. -/
def signedOf (w v : Nat) : Int := if v % 2 ^ w < 2 ^ (w - 1) then ((v % 2 ^ w : Nat) : Int) else ((v % 2 ^ w : Nat) : Int) - 2 ^ w

/-- A Bool as 0 or 1. -/
def b01 (b : Bool) : Nat := if b then 1 else 0

/-- The value of a register field in which 0 acts as 1. -/
def atLeast1 (n : Nat) : Nat := if n = 0 then 1 else n

/-! ## Registers -/

/-- The lowest address of instance `i` of a register. -/
def regAddr (r : Rg) (i : Nat) : Nat := (regInfo r).base + (regInfo r).stride * i

/-- The register and instance whose lowest address is `a` plus a byte offset: register, instance, byte. -/
def findReg (a : Nat) : Option (Rg × Nat × Nat) :=
  let hit (r : Rg) : Bool :=
    let x := regInfo r
    if a < x.base then false
    else if x.stride = 0 then decide (a < x.base + x.bytes)
    else decide ((a - x.base) / x.stride < x.count) && decide ((a - x.base) % x.stride < x.bytes)
  match regsAll.find? hit with
  | none => none
  | some r =>
    let x := regInfo r
    if x.stride = 0 then some (r, 0, a - x.base) else some (r, (a - x.base) / x.stride, (a - x.base) % x.stride)

/-- What an unlisted register key reads as: the reset value of the register whose lowest address it is (R19); keys from 2^20 up
belong to registers with an instance per requester. -/
def ioDefault (k : Nat) : Quad :=
  match findReg (k % 2 ^ 20) with
  | some (r, i, 0) => regReset r i
  | _ => 0

/-- The stored value of instance `i` of a register. -/
def rd (s : State) (r : Rg) (i : Nat) : Quad := mget (fun _ => regReset r i) s.io (regAddr r i)

/-- The state with the stored value of a register set. -/
def wr (s : State) (r : Rg) (i : Nat) (v : Quad) : State :=
  { s with io := mset (fun _ => regReset r i) s.io (regAddr r i) v }

/-- A field of a register. -/
def rf (s : State) (r : Rg) (i hi lo : Nat) : Nat := fld (rd s r i) hi lo

/-- A register's value as a number. -/
def rn (s : State) (r : Rg) (i : Nat) : Nat := (rd s r i).toNat

/-- One bit of a register. -/
def rb (s : State) (r : Rg) (i b : Nat) : Bool := (rd s r i).getLsbD b

/-- The state with a field of a register set. -/
def wf (s : State) (r : Rg) (i hi lo x : Nat) : State := wr s r i (putFld (rd s r i) hi lo x)

/-- The state with one bit of a register set or cleared. -/
def wb (s : State) (r : Rg) (i b : Nat) (x : Bool) : State := wr s r i (putFld (rd s r i) b b (b01 x))

/-- The stored value of a register that has an instance per requester (R321, R615). -/
def rdReq (s : State) (r : Rg) (req : Nat) : Quad := mget (fun _ => regReset r 0) s.io (regAddr r 0 + 2 ^ 20 * (req + 1))

/-- The state with a requester's instance of a register set. -/
def wrReq (s : State) (r : Rg) (req : Nat) (v : Quad) : State :=
  { s with io := mset (fun _ => regReset r 0) s.io (regAddr r 0 + 2 ^ 20 * (req + 1)) v }

/-- Every register with an address in `lo ≤ a < hi` at its reset value again, with every shadow and staged byte of it
discarded (R19, R1246). -/
def resetRange (s : State) (lo hi : Nat) : State :=
  { s with
    io := s.io.filter fun e => !(decide (lo ≤ e.1 % 2 ^ 20) && decide (e.1 % 2 ^ 20 < hi))
    shadow := s.shadow.filter fun e => !(decide (lo ≤ e.1 % 2 ^ 20) && decide (e.1 % 2 ^ 20 < hi))
    staged := s.staged.filter fun e => !(decide (lo ≤ e.1 % 2 ^ 20) && decide (e.1 % 2 ^ 20 < hi)) }

/-- The generic effect of a commit on a stored value (R11, R17, R18): `m` marks the bits of the bytes staged. -/
def commitBits (r : Rg) (old v m : Quad) : Quad :=
  let x := regInfo r
  let a := (old &&& ~~~(x.rw &&& m)) ||| (v &&& x.rw &&& m)
  (a &&& ~~~(v &&& x.w1c &&& m)) ||| (v &&& x.w1s &&& m)

/-! ## Threads, worlds and requesters -/

/-- Thread `n`. -/
def thr (s : State) (n : Nat) : Thread := mget Thread.reset s.thr n

/-- The state with thread `n` replaced. -/
def setThr (s : State) (n : Nat) (t : Thread) : State := { s with thr := mset Thread.reset s.thr n t }

/-- A general register of a thread (R266). -/
def getG (t : Thread) (r : Nat) : Byte := mget (fun _ => 0) t.g r

/-- The thread with a general register written. -/
def setG (t : Thread) (r : Nat) (v : Byte) : Thread := { t with g := mset (fun _ => 0) t.g r v }

/-- A pointer (0-3) or lk (4) of a thread (R266). -/
def getP (t : Thread) (r : Nat) : Word := mget (fun _ => 0) t.p r

/-- The thread with a pointer or lk written. -/
def setP (t : Thread) (r : Nat) (v : Word) : Thread := { t with p := mset (fun _ => 0) t.p r v }

/-! ### The pipeline (R393-R405) -/

/-- An entry at its place: by landing cycle, then by issue, behind equals (R404). -/
def pipeIns (e : PipeEntry) : List PipeEntry → List PipeEntry
  | [] => [e]
  | x :: xs => if e.land < x.land ∨ (e.land = x.land ∧ e.issue < x.issue) then e :: x :: xs else x :: pipeIns e xs

/-- The instruction that issues in this cycle has the effect `op` at the end of cycle `k` of its own count (R393). -/
def later (s : State) (k : Nat) (op : PipeOp) : State := { s with pipe := pipeIns ⟨s.cycles, s.cycles + k, op⟩ s.pipe }

/-- Whether an entry writes a general register of a thread. -/
def PipeEntry.writesG (e : PipeEntry) (t r : Nat) : Bool := match e.op with | .greg t' r' _ => t' == t && r' == r | _ => false

/-- Whether an entry writes a pointer or lk of a thread. -/
def PipeEntry.writesP (e : PipeEntry) (t r : Nat) : Bool := match e.op with | .preg t' r' _ => t' == t && r' == r | _ => false

/-- A landing of an access issued in cycle `issue` overrides the entries that `hits` names, land in this cycle and were issued earlier
(R404, R424); later landings stay. -/
def overrides (s : State) (issue : Nat) (hits : PipeEntry → Bool) : List PipeEntry :=
  s.pipe.filter fun e => !(hits e && e.land == s.cycles && decide (e.issue < issue))

/-- A split-phase value lands in a general register in this cycle (R404, R411, R424). An entry that lands later, or in this cycle from a
later issue, is still in the pipeline and writes after it. -/
def landG (s : State) (t r issue : Nat) (v : Byte) : State :=
  { setThr s t (setG (thr s t) r v) with pipe := overrides s issue fun e => e.writesG t r }

/-- A split-phase value lands in a pointer or lk in this cycle. -/
def landP (s : State) (t r issue : Nat) (v : Word) : State :=
  { setThr s t (setP (thr s t) r v) with pipe := overrides s issue fun e => e.writesP t r }

/-- Whether an entry still writes something of a thread. -/
def PipeEntry.ofThread (e : PipeEntry) (t : Nat) : Bool :=
  match e.op with
  | .greg t' .. | .preg t' .. | .flags t' .. | .setIe t' .. | .bit t' .. => t' == t
  | .outReg req .. | .inReg req .. => req == t

/-! ### Bit writes not yet seen by every reader (R396, R403) -/

/-- The key of a bit that a thread reaches in a world: status bits by thread, private user bits by thread and world. -/
def bitKey (t a : Nat) (world : Bool) : Nat :=
  if a < 0x20 then 0x20000 + 0x20 * t + a
  else if a < 0x100 then (2 * t + b01 world) * 0x100 + a
  else 0x10000 + a

/-- The bit array takes a write of thread `t`, issued in cycle `issue`, of the bit with key `k`, which held `old`; writes that every thread
sees by now are forgotten. -/
def lagBit (s : State) (t k issue : Nat) (old : Bool) : State :=
  { s with lag := ⟨k, issue, t, old⟩ :: s.lag.filter fun e => decide (s.cycles < e.issue + 4) }

/-- What thread `t` sees in this cycle of the bit with key `k` and value `now`: another thread's write of the bit from its cycle 4 on
(R336, R396), and so the value before the oldest write it does not see yet. -/
def seenBit (s : State) (t k : Nat) (now : Bool) : Bool :=
  s.lag.foldl (fun v e => if e.key = k ∧ e.thread ≠ t ∧ s.cycles < e.issue + 4 then e.old else v) now

/-- The world of a requester: a thread's current world (R426, R471), or the world the debug bus master names (R1104). -/
def reqWorld (s : State) (req : Nat) : Bool := if req < 8 then (thr s req).world else s.dbgWorld

/-- TG_GRANTn of a requester; the debug bus master holds every owner 1-14 (R469, R626). -/
def reqGrant (s : State) (req : Nat) : Nat := if req < 8 then rn s .TG_GRANT req else 0x7FFE

/-- A bit of a number. -/
def nbit (n k : Nat) : Bool := decide (n / 2 ^ k % 2 = 1)

/-! ## Time -/

/-- Timers on the time base (R226, R228), by number. -/
def timerDue (s : State) (k : Nat) : Bool :=
  match mget (fun _ => (none : Option Nat)) s.timers k with
  | some d => decide (d ≤ s.time)
  | none => false

/-- Whether a timer runs. -/
def timerOn (s : State) (k : Nat) : Bool := (mget (fun _ => (none : Option Nat)) s.timers k).isSome

/-- The state with timer `k` started for `ticks` ticks of the time base. -/
def startTimer (s : State) (k ticks : Nat) : State :=
  { s with timers := mset (fun _ => none) s.timers k (some (s.time + ticks)), armed := mset (fun _ => 0) s.armed k (s.cycles + 1) }

/-- The state with timer `k` withdrawn. -/
def stopTimer (s : State) (k : Nat) : State :=
  { s with timers := mset (fun _ => none) s.timers k none, armed := mset (fun _ => 0) s.armed k 0 }

/-- Whether a timer has been started in the present CORE cycle (R263). -/
def justArmed (s : State) (k : Nat) : Bool := mget (fun _ => 0) s.armed k == s.cycles + 1

/-- Ticks of a number of microseconds (R225). -/
def usTicks (n : Nat) : Nat := 24 * n

/-- Ticks of a number of milliseconds. -/
def msTicks (n : Nat) : Nat := 24000 * n

/-- The next free value: an opaque constant applied to the counter, and the state with the counter advanced. -/
def freeVal (s : State) : Quad × State := (Config.free s.fresh, { s with fresh := s.fresh + 1 })

/-! ### The numbers of the timers -/

/-- TG_HOLIMIT of hand-over block `n` (R463). -/
def tmrHo (n : Nat) : Nat := n
/-- DISAGREE_HOLD of unit `u` (R1153). -/
def tmrDisagree (u : Nat) : Nat := 32 + u
/-- The 2 us of a pin's contention (R94) and the 64 us of the near-RAM clear (R144). -/
def tmrClear : Nat := 44
/-- LED_SETTLEMAX of book `b` (R657). -/
def tmrSettle (b : Nat) : Nat := 48 + b
/-- Millrace: power delay (R685), latch or phase gap (R684, R704), phase width (R704), MR_STBMAX (R722), idle ADC pair (R703). -/
def tmrHeadPwr : Nat := 80
def tmrPhase : Nat := 81
def tmrPulse : Nat := 82
def tmrStrobe : Nat := 83
def tmrHeadAdc : Nat := 84
/-- The shift of a pattern (R682, R683). -/
def tmrShift : Nat := 85
/-- The 500 ns of an ADC conversion (R793). -/
def tmrAdc : Nat := 86
/-- Feeder: SAFE feed step (R148), SAFE hold (R150), hold timeout (R756), ripple window (R760), back-EMF (R763), chop period
(R747), conversion of winding `w` (R747). -/
def tmrSafeStep : Nat := 90
def tmrSafeHold : Nat := 91
def tmrHold : Nat := 92
def tmrRipple : Nat := 93
def tmrBemf : Nat := 94
def tmrChop : Nat := 95
def tmrOnLimit : Nat := 96
def tmrConv (w : Nat) : Nat := 97 + w
/-- Sensors: period and emitter settling (R767). -/
def tmrSensor : Nat := 100
def tmrEmit : Nat := 101
/-- Cutter: drive rise, leaving, timeout, brake, brake end, jog (R777-R779). -/
def tmrCutRise : Nat := 110
def tmrCutLeave : Nat := 111
def tmrCutTmo : Nat := 112
def tmrCutBrake : Nat := 113
def tmrCutEnd : Nat := 114
def tmrJog : Nat := 115
/-- Drawers: pulse and cooldown of drawer `k` (R782, R783). -/
def tmrPulseDrw (k : Nat) : Nat := 120 + k
def tmrCool (k : Nat) : Nat := 122 + k
/-- Bell and LED generator `k` (R786, R787), firmware sequence (R795). -/
def tmrBell : Nat := 124
def tmrLed (k : Nat) : Nat := 125 + k
def tmrSeq : Nat := 130

/-- DBG_TMO (R1106). -/
def tmrDbg : Nat := 140

/-- The timer of the monitor's session (R1113). -/
def tmrMon : Nat := 141

/-! ## Crossings (chapter 04) -/

/-- The crossing from an island to CORE (R241). -/
def toCore (i : Island) : Nat :=
  match i with
  | .fabric => 1 | .print => 3 | .serial => 5 | .usb => 7 | .eth => 9 | .ao => 11 | .core => 20

/-- The crossing from CORE to an island (R241). -/
def fromCore (i : Island) : Nat :=
  match i with
  | .fabric => 0 | .print => 2 | .serial => 4 | .usb => 6 | .eth => 8 | .ao => 10 | .core => 20

/-- The crossing from an island to FABRIC (R241). -/
def toFabric (i : Island) : Nat :=
  match i with
  | .core => 0 | .print => 13 | .serial => 15 | .usb => 17 | .eth => 19 | .fabric => 20 | .ao => 20

/-- The crossing from FABRIC to an island (R241). -/
def fromFabric (i : Island) : Nat :=
  match i with
  | .core => 1 | .print => 12 | .serial => 14 | .usb => 16 | .eth => 18 | .fabric => 20 | .ao => 20

/-- The transfers that wait in their source unit for crossing `c` (R232). -/
def xwaitOf (s : State) (c : Nat) : List Xfer := mget (fun _ => []) s.xwait c

/-- The transfers in crossing `c`, oldest first (R237). -/
def xflyOf (s : State) (c : Nat) : List Xfer := mget (fun _ => []) s.xfly c

/-- The state with a transfer waiting for crossing `c` behind the earlier ones. -/
def send (s : State) (c : Nat) (x : Xfer) : State :=
  { s with xwait := mset (fun _ => []) s.xwait c (xwaitOf s c ++ [x]) }

/-! ## Counted events (chapter 22) -/

/-- Counter `n` behind its registers. -/
def ctr (s : State) (n : Nat) : Counter := mget (fun _ => Counter.reset) s.ctr n

/-- The state with counter `n` replaced. -/
def setCtr (s : State) (n : Nat) (c : Counter) : State := { s with ctr := mset (fun _ => Counter.reset) s.ctr n c }

/-- The MODE of a counter; 3 acts as 0 (chapter 22, Registers). -/
def ecMode (s : State) (n : Nat) : Nat := let m := rf s .EC_CTL n 2 1; if m = 3 then 0 else m

/-- An edge of a CORE source reaches the ICU: latched, or coalesced where the bit is already 1 (R525, R526), with its booking
(R649). Counter occurrences that an overflow raises do not count further. Reserved sources never pend (R530). -/
def srcReserved (src : Nat) : Bool :=
  src == 34 || src == 35 || src == 39 || src == 62 || src == 63 || src == 94 || src == 95 || decide (106 ≤ src)

/-- A MAXLAT measurement of source `src` opens on its latch edge where none is open (R1130). -/
def openMeasures (s : State) (src : Nat) : State :=
  (List.range 8).foldl (fun s n =>
    if rb s .EC_CTL n 0 && ecMode s n == 2 && rf s .EC_SEL n 7 0 == src && (ctr s n).opened.isNone then
      wb (setCtr s n { ctr s n with opened := some (s.time, s.cycles) }) .EC_STAT n 2 true
    else s) s

/-- The latch of a source's pending bit without its counting (R525): the bit sets and the edge is booked into PEND. -/
def latchBit (s : State) (src : Nat) : State :=
  send (openMeasures { s with icu := { s.icu with pend := mset (fun _ => false) s.icu.pend src true } } src) 0
    (.book 23 0 3 1)

/-- An edge of a source has arrived in this cycle (R555). -/
def markEdge (s : State) (src : Nat) : State :=
  { s with icu := { s.icu with edge := mset (fun _ => 0) s.icu.edge src (s.cycles + 1) } }

/-- Adds `k` to COUNT of counter `n` (R1133): a wrap sets OVF and, with OVFIE, raises source 24 + n, which latches. Answers whether that edge
met a set pending bit instead (R526). -/
def bumpCount (s : State) (n k : Nat) : State × Bool :=
  let v := rn s .EC_COUNT n + k
  let s1 := wr s .EC_COUNT n (BitVec.ofNat 32 v)
  if v < 2 ^ 32 then (s1, false)
  else
    let s2 := wb s1 .EC_STAT n 0 true
    if rb s2 .EC_CTL n 5 = false then (s2, false)
    else if mget (fun _ => false) s2.icu.pend (24 + n) then (markEdge s2 (24 + n), true)
    else (latchBit (markEdge s2 (24 + n)) (24 + n), false)

/-- `occur`, with a bound on the overflows that are coalesced in a chain: one of each counter, and one more. -/
def occurUpTo : Nat → State → Nat → Nat → State
  | 0, s, _, _ => s
  | fuel + 1, s, code, k =>
    if code = 0 then s
    else (List.range 8).foldl (fun s n =>
      if rb s .EC_CTL n 0 && ecMode s n == 0 && rf s .EC_SEL n 7 0 == code then
        (let x := bumpCount s n k
         if x.2 then occurUpTo fuel x.1 0x06 1 else x.1)
      else s) s

/-- `k` occurrences of the event with a catalogue code reach the counters (R1127, R1128, R1141). An overflow whose edge is coalesced is an
occurrence of INT_COALESCED in turn (R526). -/
def occur (s : State) (code k : Nat) : State := occurUpTo 9 s code k

/-- Adds `k` to COUNT of counter `n`, with what its overflow counts (R526, R1133). -/
def bump (s : State) (n k : Nat) : State :=
  let x := bumpCount s n k
  if x.2 then occur x.1 0x06 1 else x.1

/-- An island counts `k` occurrences of an event: at once in CORE, by a report through its crossing otherwise (R1127). -/
def countN (s : State) (i : Island) (code k : Nat) : State :=
  if i = .core then occur s code k else send s (toCore i) (.count code k)

/-- An island counts one occurrence of an event. -/
def count (s : State) (i : Island) (code : Nat) : State := countN s i code 1

/-- An edge reaches the ICU (R525, R526, R530): it latches the pending bit, or counts INT_COALESCED where the bit is 1. -/
def latchEdge (s : State) (src : Nat) : State :=
  if srcReserved src then s
  else
    if mget (fun _ => false) s.icu.pend src then occur (markEdge s src) 0x06 1 else latchBit (markEdge s src) src

/-- An island raises the edge of an ICU source: latched at once from CORE, sent through the crossing otherwise (R525). -/
def raise (s : State) (i : Island) (src : Nat) : State :=
  if i = .core then latchEdge s src else send s (toCore i) (.edge src)

/-- A refused access in CORE (R472): TG_VIOL is filled or OVR set, the event is counted and source 22 raised. -/
def violate (s : State) (kind agent addr : Nat) : State :=
  let v := rd s .TG_VIOL 0
  let s1 := if v.getLsbD 31 then wr s .TG_VIOL 0 (putFld v 30 30 1)
    else wr s .TG_VIOL 0 (BitVec.ofNat 32 (addr % 65536 + 65536 * agent + 1048576 * kind + 2147483648) |||
      (v &&& 0x40000000))
  latchEdge (occur s1 0x10 1) 22

/-- A refused access found in another island is reported to CORE. -/
def violateFrom (s : State) (i : Island) (kind agent addr : Nat) : State :=
  if i = .core then violate s kind agent addr else send s (toCore i) (.violation kind agent addr)

/-- The agent number of TG_VIOL and SEAL_FAGENT: a thread, or 9 for the debug bus master. -/
def agentOf (req : Nat) : Nat := if req < 8 then req else 9

/-- An access to an unoccupied address counts PRIVATE_HOLE (R20). -/
def hole (s : State) (i : Island) : State := count s i 0x01

/-- The tie rule (R249, R252, R263): the expiry of timer `k` takes its effects `f` where the timer runs and is due; where the awaited
arrival is recognised on that edge, or on the edge on which the timer starts, the timeout is withdrawn and TIE_ARRIVAL_WINS counted. -/
def expire (s : State) (i : Island) (k : Nat) (tie : Bool) (f : State → State) : State :=
  if timerDue s k || (tie && justArmed s k) then
    (if tie then count (stopTimer s k) i 0x08 else f (stopTimer s k))
  else s

/-! ## The Ledger (chapter 13) -/

/-- Whether a term of a book is its inflow term (R649). -/
def isInflow (term : Nat) : Bool := term == 0

/-- Whether a term is an outflow term: RETURNED and WO of a ring, RETIRE, EXEC and CANCEL, COMPLETED and WO, DELIVERED and
DISCARDED (R649). A pool has none. -/
def isOutflow (b term : Nat) : Bool :=
  if b ≤ 3 then false
  else if b ≤ 19 then term == 1 || term == 2
  else if b = 20 then term == 1
  else term == 1 || term == 2

/-- The term index of T in a book (R649). -/
def termT (b : Nat) : Nat := if b ≤ 3 then 3 else if b ≤ 19 then 6 else if b ≤ 22 then 4 else 6

/-- A term of a book. -/
def term (s : State) (b t : Nat) : Quad := mget (fun _ => 0) s.led.term (8 * b + t)

/-- The state with a term set. -/
def setTerm (s : State) (b t : Nat) (v : Quad) : State :=
  { s with led := { s.led with term := mset (fun _ => 0) s.led.term (8 * b + t) v } }

/-- The amount in T on its way to a term. -/
def toward (s : State) (b t : Nat) : Nat := mget (fun _ => 0) s.led.toward (8 * b + t)

/-- The state with the amount in T on its way to a term set. -/
def setToward (s : State) (b t n : Nat) : State :=
  { s with led := { s.led with toward := mset (fun _ => 0) s.led.toward (8 * b + t) n } }

/-- The right-hand side of a book's equation: every term but the inflow (R648). -/
def rhs (s : State) (b : Nat) : Quad :=
  (List.range (termT b)).foldl (fun a t => a + term s b (t + 1)) 0

/-- DIFF of LED_IMB: inflow minus right-hand side, signed, saturating at 32,767 in size. -/
def imbDiff (s : State) (b : Nat) : Nat :=
  let d := (term s b 0 - rhs s b).toInt
  let c := if d > 32767 then 32767 else if d < -32767 then -32767 else d
  (c % 65536).toNat

/-- LED_IMB records an imbalance of book `b` where VALID is 0, and sets OVR otherwise (R665). Of books that fail on one edge, which is one CORE
cycle, it records the lowest (R676). -/
def imbRecord (s : State) (b kind : Nat) : State :=
  let v := rd s .LED_IMB 0
  let here := BitVec.ofNat 32 (b + 32 * kind + 256 * (if kind = 1 then 0 else imbDiff s b) + 2147483648)
  if v.getLsbD 31 = false then
    wr { s with led := { s.led with imbAt := s.cycles + 1 } } .LED_IMB 0 (here ||| (v &&& 0x40000000))
  else if s.led.imbAt = s.cycles + 1 ∧ b < fld v 4 0 then wr s .LED_IMB 0 (here ||| 0x40000000)
  else wr s .LED_IMB 0 (putFld v 30 30 1)

/-- An imbalance of book `b` (R665, R667): kind 0 EQUATION, 1 STRUCTURE, 2 UNDERFLOW. A HEAT imbalance is sent to the head in PRINT (R667). -/
def imbalance (s : State) (b kind : Nat) : State :=
  let s1 := imbRecord s b kind
  let s2 := wb s1 .LED_FAILED 0 b true
  let s3 := wb (wb s2 .LED_STAT 0 0 true) .LED_STAT 0 1 true
  let snap := (List.range (termT b + 1)).foldl (fun m t => mset (fun _ => 0) m (8 * b + t) (term s3 b t)) s3.led.snap
  let s4 := { s3 with led := { s3.led with snap := snap } }
  let s5 := raise (count s4 .fabric 0x2E) .fabric 57
  if b = 20 then send s5 (fromFabric .print) .heatImb else s5

/-- The CORE cycle of a book's latest update, `none` where none has come since it settled or opened. -/
def lastUpdate (s : State) (b : Nat) : Option Nat := mget (fun _ => (none : Option Nat)) s.led.dirty b

/-- The state with a book's latest update set. -/
def setLastUpdate (s : State) (b : Nat) (x : Option Nat) : State :=
  { s with led := { s.led with dirty := mset (fun _ => none) s.led.dirty b x } }

/-- An update of a book has been captured: LED_BAL clears, its quiet interval begins again (R653), and the unsettled interval starts with the
first (R655, R657), as long as LED_SETTLEMAX then says: the spec does not say whether a later write changes an interval that runs
(DESIGN CHOICE, log 136). -/
def touchBook (s : State) (b : Nat) : State :=
  let s1 := setLastUpdate (wb s .LED_BAL 0 b false) b (some s.cycles)
  match lastUpdate s b with
  | some _ => s1
  | none => startTimer s1 (tmrSettle b) (msTicks (atLeast1 (rn s1 .LED_SETTLEMAX 0)))

/-- A book opens or closes with every term 0 (R652, R657): no interval runs. Whether its LED_BAL, LED_FAILED and LED_UNSET bits and a pending
rebase clear is not stated: the model keeps them (DESIGN CHOICE, log 137). -/
def clearBook (s : State) (b : Nat) : State :=
  let s1 := (List.range 7).foldl (fun s t => setToward (setTerm s b t 0) b t 0) s
  stopTimer (setLastUpdate s1 b none) (tmrSettle b)

/-- Takes an amount from a term of a book: an inflow term counts it in. -/
def debit (s : State) (b t n : Nat) : State :=
  if isInflow t then setTerm s b t (term s b t + BitVec.ofNat 32 n) else setTerm s b t (term s b t - BitVec.ofNat 32 n)

/-- Taking an amount from a position term takes it below zero, what is in T on its way to it counted (R647). -/
def underflows (s : State) (b t n : Nat) : Bool := !(isInflow t) && decide ((term s b t).toInt + toward s b t < n)

/-- An update that has been applied and took a position term below zero is an imbalance of kind UNDERFLOW at once (R647, R666). -/
def underflow (s : State) (b : Nat) (bad : Bool) : State := if bad && !(rb s .LED_FAILED 0 b) then imbalance s b 2 else s

/-- Adds an amount to a term of a book. -/
def credit (s : State) (b t n : Nat) : State := setTerm s b t (term s b t + BitVec.ofNat 32 n)

/-- An update that arises in FABRIC: both terms change on one edge (R642). -/
def book (s : State) (b src dst n : Nat) : State :=
  underflow (touchBook (credit (debit s b src n) b dst n) b) b (underflows s b src n)

/-- The first leg of a movement that crosses: the amount leaves its term and is counted in T (R643, R644, R246). -/
def bookIssue (s : State) (b src dst n : Nat) : State :=
  let s1 := credit (debit s b src n) b (termT b) n
  underflow (setToward s1 b dst (toward s1 b dst + n)) b (underflows s b src n)

/-- The second leg: the amount leaves T and is credited (R643). -/
def bookCapture (s : State) (b dst n : Nat) : State :=
  let s1 := setTerm s b (termT b) (term s b (termT b) - BitVec.ofNat 32 n)
  touchBook (credit (setToward s1 b dst (toward s1 b dst - n)) b dst n) b

/-- A unit outside FABRIC reports a booked movement through its crossing (R643). -/
def report (s : State) (i : Island) (b src dst n : Nat) : State :=
  if n = 0 then s else if i = .fabric then book s b src dst n else send s (toFabric i) (.book b src dst n)

/-! ## Units (chapter 23) -/

/-- The state register of unit `u` (R1145) and its instance. -/
def unitReg (u : Nat) : Rg × Nat :=
  match u with
  | 0 => (.MR_STATE, 0) | 1 => (.PP_FSTATE, 0) | 2 => (.PP_CSTATE, 0) | 3 => (.PP_DSTATE, 0) | 4 => (.PP_DSTATE, 1)
  | 5 => (.USB_STATE, 0) | 6 => (.ETH_STATE, 0) | 7 => (.UART_STATE, 0) | 8 => (.UART_STATE, 1) | 9 => (.KX_STATE, 0)
  | _ => (.NV_STATE, 0)

/-- The island of unit `u` (R1145). -/
def unitIsland (u : Nat) : Island :=
  if u ≤ 4 then .print else if u = 5 then .usb else if u = 6 then .eth else .serial

/-- MGMT_STATE of unit `u`: 0 DISABLED, 1 ENABLED, 2 HANDOVER (R1146). -/
def mgmt (s : State) (u : Nat) : Nat := rf s (unitReg u).1 (unitReg u).2 1 0

/-- DATA_STATE of unit `u`: 0 IDLE, 1 ACTIVE, 2 DRAINING, 3 FAULTED (R1146). -/
def dstate (s : State) (u : Nat) : Nat := rf s (unitReg u).1 (unitReg u).2 3 2

/-- AGREE for a state pair (R1147). -/
def agreeOf (m d : Nat) : Bool :=
  (m == 1 && (d == 0 || d == 1)) || (m == 0 && d == 0) || (m == 2 && d == 2)

/-- The source that a change of a unit's states raises: 67 for the head (R725), 88 for the Kolnex port (chapter 17). -/
def unitSource (u : Nat) : Option Nat := if u = 0 then some 67 else if u = 9 then some 88 else none

/-- The state with MGMT and DATA of a unit set; a change of AGREE is reported to CORE (R1152), a change of either state raises
the unit's source. -/
def setUnit (s : State) (u m d : Nat) : State :=
  let (r, i) := unitReg u
  if mgmt s u = m ∧ dstate s u = d then s
  else
    let old := rb s r i 4
    let s1 := wr s r i (BitVec.ofNat 32 (m + 4 * d + 16 * b01 (agreeOf m d)))
    let s2 := if old = agreeOf m d then s1 else send s1 (toCore (unitIsland u)) (.agree u (agreeOf m d))
    match unitSource u with
    | some src => raise s2 (unitIsland u) src
    | none => s2

/-- The state with DATA_STATE of a unit set. -/
def setData (s : State) (u d : Nat) : State := setUnit s u (mgmt s u) d

/-- The state with MGMT_STATE of a unit set. -/
def setMgmt (s : State) (u m : Nat) : State := setUnit s u m (dstate s u)

/-- Whether a unit accepts new work: ENABLED with IDLE or ACTIVE (R1147). -/
def unitRuns (s : State) (u : Nat) : Bool := mgmt s u == 1 && decide (dstate s u ≤ 1)

/-- The world of hand-over block `n`: `true` for normal (R461). -/
def blockWorld (s : State) (n : Nat) : Bool := rb s .TG_HO n 0

/-- The PHASE of hand-over block `n` (R463). -/
def hoPhase (s : State) (n : Nat) : Nat := rf s .TG_HO n 3 2

/-- The device is in RUN (PMU_MODE.MODE). -/
def inRun (s : State) : Bool := rf s .PMU_MODE 0 1 0 == 1

/-- Folds an operation over the numbers below `n`. -/
def forN (n : Nat) (s : State) (f : State → Nat → State) : State := (List.range n).foldl f s

end Sys2Proof.Machine
end

