-- ==== Sys2Proof/Machine/Guard.lean ====
section
/-!
DEFINITION. Who may act: worlds of sources and pins, the access rule of a register (R10, R464), locks that freeze K registers, and the
islands and modes in which a unit's own events can happen.
-/
namespace Sys2Proof.Machine

/-! ## Worlds -/

/-- The hand-over block a source is tied to (R530, R531). -/
def sourceBlock (src : Nat) : Option Nat :=
  if 24 ≤ src ∧ src ≤ 31 then some (23 + (src - 24))
  else if 40 ≤ src ∧ src ≤ 55 then some (7 + (src - 40))
  else if 80 ≤ src ∧ src ≤ 82 then some 0
  else if 83 ≤ src ∧ src ≤ 85 then some 1
  else if 86 ≤ src ∧ src ≤ 88 then some 2
  else if src = 89 then some 3
  else if src = 90 ∨ src = 91 then some 4
  else if 96 ≤ src ∧ src ≤ 101 then some 5
  else if 102 ≤ src ∧ src ≤ 105 then some 6
  else none

/-- The world of a source, `true` for normal (R531). -/
def sourceWorld (s : State) (src : Nat) : Bool :=
  match sourceBlock src with
  | some b => blockWorld s b
  | none => rb s .ICU_SWORLD (src / 8) (src % 8)

/-- The world of GP pin `n` (R80). -/
def pinWorld (s : State) (n : Nat) : Bool := rb s .PIN_WORLD n 0

/-- Code N (R10, R464): `normal` is the block's world, `handing` that a hand-over of it is in progress. -/
def codeN (normal handing world write : Bool) : Bool :=
  if world then normal && !(write && handing) else !write || !normal || handing

/-- Whether an access to instance `i` of a register from a world is permitted (R10). -/
def mayAccess (s : State) (r : Rg) (i : Nat) (world write : Bool) : Bool :=
  match (regInfo r).world with
  | .keeper => !world
  | .both => true
  | .pin => codeN (pinWorld s i) false world write
  | .source => codeN (sourceWorld s i) (match sourceBlock i with | some b => hoPhase s b != 0 | none => false) world write
  | .nvBlock => !world || decide (i = 1)
  | .nvRing => !world || decide (4 ≤ i)
  | .block b st => codeN (blockWorld s (b + st * i)) (hoPhase s (b + st * i) != 0) world write

/-! ## Locks, islands -/

/-- Whether a limit lock freezes a register: the K registers of Millrace (R734) and of the paper path and ADC (chapter 15,
Registers). The lock itself is frozen with them. -/
def limitLocked (s : State) (r : Rg) : Bool :=
  let x := regInfo r
  x.world == .keeper &&
  ((decide (0x2000 ≤ x.base ∧ x.base < 0x2400) && rb s .MR_LIMLOCK 0 0) ||
   (decide (0x2400 ≤ x.base ∧ x.base < 0x2800) && rb s .PP_LIMLOCK 0 0))

/-- The island of an instance of a register: the PIN registers of GP94 and GP95 lie in AO (R64), every other one where its header says. -/
def regIsland (r : Rg) (i : Nat) : Island :=
  match r with
  | .PIN_MUX | .PIN_PAD | .PIN_STAT | .PIN_WORLD => if 94 ≤ i then .ao else .core
  | _ => (regInfo r).island

/-! ## The debug bus master (R1104, R1105) -/

/-- The invasive enable of a scope (R474, R475). -/
def invasive (s : State) (keeper : Bool) : Bool := rb s .TG_DBGEN 0 (if keeper then 0 else 2)

/-- The non-invasive enable of a scope; the invasive one grants it (R474). -/
def observing (s : State) (keeper : Bool) : Bool := invasive s keeper || rb s .TG_DBGEN 0 (if keeper then 1 else 3)

/-- A register of run control and of the debug bus master (R1091). -/
def dbgRegister (r : Rg) : Bool := decide (0x3F00 ≤ (regInfo r).base)

/-- An instance of a register has world code K (R10; NV block 0 and rings 0-3, chapter 20). -/
def codeK (r : Rg) (i : Nat) : Bool :=
  match (regInfo r).world with
  | .keeper => true
  | .nvBlock => i == 0
  | .nvRing => decide (i < 4)
  | _ => false

/-- An access of the debug bus master passes the enables of its scope (R1104): keeper scope is a keeper world or a register of code K; a
DBG_ register is accessed in either world (R1091), so that there only the world counts (DEDUCED). A write of DBG_RESUME needs no enable
(R1119). -/
def dbgEnabled (s : State) (r : Rg) (i : Nat) (world write : Bool) : Bool :=
  let keeper := !world || (codeK r i && !(dbgRegister r))
  if write then invasive s keeper || r == .DBG_RESUME else observing s keeper

/-- Whether an access of a requester is permitted: R10 for a thread; for the debug bus master the enables, and R10 but at DBG_ registers. -/
def permitted (s : State) (req : Nat) (r : Rg) (i : Nat) (world write : Bool) : Bool :=
  if req < 8 then mayAccess s r i world write
  else dbgEnabled s r i world write && (dbgRegister r || mayAccess s r i world write)

/-- A refused access of the debug bus master (R1105): DENIEDF, DBG_DENIED, source 61. -/
def dbgDenied (s : State) : State := raise (count (wb s .DBG_STAT 0 3 true) .fabric 0xAC) .fabric 61

/-- A refused access at an address of an island is reported with KIND 0 (R470, R472, R1105). -/
def refuseAt (s : State) (i : Island) (req addr : Nat) : State :=
  let s1 := violateFrom s i 0 (agentOf req) addr
  if req < 8 then s1 else dbgDenied s1

/-- A refused register access is reported by the register's island, KIND 0 (R470, R472). -/
def refuseReg (s : State) (req : Nat) (r : Rg) (i : Nat) : State := refuseAt s (regIsland r i) req (regAddr r i)

/-- A read of the lowest byte of a register captures its value for the requester (R15). -/
def capture (s : State) (req : Nat) (r : Rg) (i : Nat) (v : Quad) : State :=
  { s with shadow := mset (fun _ => none) s.shadow (2 ^ 20 * (req + 1) + regAddr r i) (some v) }

/-! ## Running -/

/-- Whether an island has its clock: the islands of a PLL that must move to HFRC stand still until it runs (R258); LINK has a clock once
SWITCH has moved it, while PLL C is enabled and locked (R139, R143, R255, R807). -/
def islandRuns (s : State) (i : Island) : Bool :=
  match i with
  | .core | .fabric => !s.dev.stopA
  | .print | .serial => !s.dev.stopB
  | .usb | .eth => s.dev.linkOn && !s.dev.linkLost && rb s .CLK_STAT 0 3 && rb s .CLK_CTL 0 2
  | .ao => true

/-- A unit's own event takes its effect where the device is out of reset and awake and the unit's island has its clock. -/
def liveIn (s : State) (i : Island) (f : State → State) : Host.Outcome State Fault Refusal :=
  .next (if s.dev.phase = .awake ∧ islandRuns s i = true then f s else s)

/-- A write of a register by a requester, as the register's own row: the access rule, the limit lock, then the effect. -/
def writeReg (s : State) (req : Nat) (r : Rg) (i : Nat) (f : State → State) : Host.Outcome State Fault Refusal :=
  liveIn s (regIsland r i) fun s =>
    if permitted s req r i (reqWorld s req) true = false then refuseReg s req r i
    else if limitLocked s r then s
    else f s

/-- A read of a register by a requester, as the register's own row. -/
def readRegRow (s : State) (req : Nat) (r : Rg) (i : Nat) (f : State → Bool → State) :
    Host.Outcome State Fault Refusal :=
  liveIn s (regIsland r i) fun s =>
    if permitted s req r i (reqWorld s req) false = false then f (refuseReg s req r i) false else f s true

end Sys2Proof.Machine
end

