-- ==== Sys2Proof/Machine/Connect.lean ====
section
/-!
DEFINITION. Which pin carries which function (R56), the pads' levels as the board and the pulls give them, and what an input function
sees (R61, R62, R83-R85).
-/
namespace Sys2Proof.Machine

/-- The input functions of R56; the UARTs by number, FEV, ETH_RXD and WAKE by index. -/
inductive PinIn where
  | rxd (n : Nat) | cts (n : Nat) | dsr (n : Nat) | kxRx | wpLine | spiReady | cover | feedButton | cutHome | drawerSense
  | fev (k : Nat) | ethRxd (k : Nat) | ethCrsdv | ethRxer | ethMdio | ethRefclk | wake (k : Nat)
  deriving DecidableEq, Repr

/-- The pins on which an input function can be selected, with the FUNC that does, lowest-numbered first (R56). -/
def inputPins (f : PinIn) : List (Nat × Nat) :=
  match f with
  | .rxd 0 => [(48, 1)] | .cts 0 => [(50, 1)] | .dsr 0 => [(52, 1)]
  | .rxd _ => [(54, 1), (79, 2)] | .cts _ => [(56, 1), (81, 2)] | .dsr _ => [(58, 1), (83, 2)]
  | .kxRx => [(34, 1), (89, 2)]
  | .wpLine => [(32, 1)]
  | .spiReady => [(45, 1)]
  | .cutHome => [(21, 1)] | .drawerSense => [(24, 1)] | .cover => [(25, 1)] | .feedButton => [(26, 1)]
  | .fev k => [(59 + k, 1), (84 + k, 2)]
  | .ethRxd k => [(67 + k, 1)]
  | .ethCrsdv => [(69, 1)] | .ethRxer => [(70, 1)] | .ethMdio => [(72, 1)] | .ethRefclk => [(63, 1)]
  | .wake k => [(94 + k, 1)]

/-- The hand-over block whose function a FUNC selects on a pin (R56, R83). -/
def pinBlock (n func : Nat) : Option Nat :=
  if func = 1 then
    (if 47 ≤ n ∧ n ≤ 52 then some 0
     else if 53 ≤ n ∧ n ≤ 58 then some 1
     else if (33 ≤ n ∧ n ≤ 35) ∨ n = 46 then some 2
     else if n = 32 then some 3
     else if 36 ≤ n ∧ n ≤ 45 then some 4
     else if 63 ≤ n ∧ n ≤ 72 then some 6
     else none)
  else if func = 2 then
    (if 78 ≤ n ∧ n ≤ 83 then some 1 else if 88 ≤ n ∧ n ≤ 91 then some 2 else none)
  else none

/-- FUNC of a pin. -/
def pinFunc (s : State) (n : Nat) : Nat := rf s .PIN_MUX n 1 0

/-- The pin's world differs from that of the block whose function it selects (R84). -/
def pinMismatch (s : State) (n : Nat) : Bool :=
  match pinBlock n (pinFunc s n) with
  | some b => pinWorld s n != blockWorld s b
  | none => false

/-- The pin from which an input function is taken: of the pins that carry it, the lowest-numbered (R61); a pin whose world differs from the
block's carries nothing (R83). -/
def inputPin (s : State) (f : PinIn) : Option Nat :=
  ((inputPins f).find? fun p => pinFunc s p.1 == p.2 && !(pinMismatch s p.1)).map fun p => p.1

/-- An input function is carried by a pin; where it is not, its unit sees the level of R62. -/
def connected (s : State) (f : PinIn) : Bool := (inputPin s f).isSome

/-! ## Pads -/

/-- VDD33 is high enough for the pins it powers (R63, R92): above 0.8 V. Between the thresholds of R130 that is a free value. -/
def padsPowered (s : State) : Bool := s.dev.vdd33 || Config.padsUp s.fresh s.cycles

/-- A pin is high-impedance for want of its supply (R92): those of the SPI bank have VDDIO_S, GP94 and GP95 VDDAO (chapter 02). -/
def padDark (s : State) (n : Nat) : Bool :=
  !(padsPowered s) && decide (n < 94) && !(decide (36 ≤ n) && decide (n ≤ 45))

/-- The level of a pad that nothing drives: that of its pull (R63, R67); of one that floats, a free value. WPN (96) has a pull-down and VBUS
(97) is below its threshold. -/
def padPull (s : State) (n : Nat) : Bool :=
  if 96 ≤ n then false
  else if padDark s n then Config.floating n s.fresh s.cycles
  else match rf s .PIN_PAD n 1 0 with
    | 1 => true
    | 2 => false
    | _ => Config.floating n s.fresh s.cycles

/-- The level of a pad that the device does not drive: what the board puts on it, or its pull. -/
def padIn (s : State) (n : Nat) : Bool := (mget (fun _ => (none : Option Bool)) s.pads n).getD (padPull s n)

/-- The level of an input function, where a pin carries it. -/
def inputLine (s : State) (f : PinIn) : Option Bool := (inputPin s f).map (padIn s)

end Sys2Proof.Machine
end

