-- ==== Sys2Proof/Machine/Crypto.lean ====
section
/-!
DEFINITION. The standard functions the spec names: AES-128 (R493), the SHA-256 digest and ECDSA over P-256 (R161, R166). The spec gives them
by name only; their definitions are the published standards' (FIPS 197, FIPS 180-4, FIPS 186 with SEC 1 and its curve secp256r1): PRESUMED,
log 112.
-/
namespace Sys2Proof.Machine

/-! ## AES-128 -/

/-- Twice an element of GF(2^8), modulo x^8 + x^4 + x^3 + x + 1. -/
def xtime (b : Byte) : Byte := (b <<< 1) ^^^ (if b.getLsbD 7 then 0x1B else 0)

/-- The product of two elements of GF(2^8). -/
def gmul (a b : Byte) : Byte :=
  ((List.range 8).foldl (fun (p : Byte × Byte) i => (if b.getLsbD i then p.1 ^^^ p.2 else p.1, xtime p.2)) (0, a)).1

/-- The inverse in GF(2^8), 0 for 0: the 254th power. -/
def ginv (a : Byte) : Byte := ((List.range 7).foldl (fun (p : Byte × Byte) _ => let q := gmul p.2 p.2; (gmul p.1 q, q)) (1, a)).1

/-- The S-box. -/
def aesSub (a : Byte) : Byte :=
  let b := ginv a
  b ^^^ b.rotateLeft 1 ^^^ b.rotateLeft 2 ^^^ b.rotateLeft 3 ^^^ b.rotateLeft 4 ^^^ 0x63

/-- The next round key from the one before and its round constant. -/
def aesNextKey (k : List Byte) (rcon : Byte) : List Byte :=
  let g (i : Nat) : Byte := k.getD i 0
  let t : List Byte := [aesSub (g 13) ^^^ rcon, aesSub (g 14), aesSub (g 15), aesSub (g 12)]
  let w0 := (List.range 4).map fun i => g i ^^^ t.getD i 0
  let w1 := (List.range 4).map fun i => g (4 + i) ^^^ w0.getD i 0
  let w2 := (List.range 4).map fun i => g (8 + i) ^^^ w1.getD i 0
  let w3 := (List.range 4).map fun i => g (12 + i) ^^^ w2.getD i 0
  w0 ++ w1 ++ w2 ++ w3

/-- SubBytes and ShiftRows. -/
def aesShift (s : List Byte) : List Byte := (List.range 16).map fun i => aesSub (s.getD ((i + 4 * (i % 4)) % 16) 0)

/-- MixColumns. -/
def aesMix (s : List Byte) : List Byte :=
  (List.range 16).map fun i =>
    let c (k : Nat) : Byte := s.getD (i / 4 * 4 + (i + k) % 4) 0
    xtime (c 0) ^^^ (xtime (c 1) ^^^ c 1) ^^^ c 2 ^^^ c 3

/-- AddRoundKey. -/
def xorBytes (a b : List Byte) : List Byte := (a.zip b).map fun p => p.1 ^^^ p.2

/-- The rounds that are left, with the round keys of their constants; the last one has no MixColumns. -/
def aesRounds : List Byte → List Byte → List Byte → List Byte
  | [], _, s => s
  | [r], k, s => xorBytes (aesShift s) (aesNextKey k r)
  | r :: rs, k, s => let k1 := aesNextKey k r; aesRounds rs k1 (xorBytes (aesMix (aesShift s)) k1)

/-- AES-128 of a key and a block; byte i of the standard is bits 8i+7 to 8i. -/
def aes128 (key block : BitVec 128) : BitVec 128 :=
  let k := leBytes 16 key.toNat
  BitVec.ofNat 128 (leNat (aesRounds [0x01, 0x02, 0x04, 0x08, 0x10, 0x20, 0x40, 0x80, 0x1B, 0x36] k (xorBytes (leBytes 16 block.toNat) k)))

/-! ## SHA-256 -/

/-- A byte string read as a big-endian number. -/
def beNat (l : List Byte) : Nat := l.foldl (fun n b => 256 * n + b.toNat) 0

/-- The low `n` bytes of a number, big-endian. -/
def beBytes (n v : Nat) : List Byte := (leBytes n v).reverse

/-- The round constants. -/
def shaK : List Quad :=
  [0x428a2f98, 0x71374491, 0xb5c0fbcf, 0xe9b5dba5, 0x3956c25b, 0x59f111f1, 0x923f82a4, 0xab1c5ed5] ++
  [0xd807aa98, 0x12835b01, 0x243185be, 0x550c7dc3, 0x72be5d74, 0x80deb1fe, 0x9bdc06a7, 0xc19bf174] ++
  [0xe49b69c1, 0xefbe4786, 0x0fc19dc6, 0x240ca1cc, 0x2de92c6f, 0x4a7484aa, 0x5cb0a9dc, 0x76f988da] ++
  [0x983e5152, 0xa831c66d, 0xb00327c8, 0xbf597fc7, 0xc6e00bf3, 0xd5a79147, 0x06ca6351, 0x14292967] ++
  [0x27b70a85, 0x2e1b2138, 0x4d2c6dfc, 0x53380d13, 0x650a7354, 0x766a0abb, 0x81c2c92e, 0x92722c85] ++
  [0xa2bfe8a1, 0xa81a664b, 0xc24b8b70, 0xc76c51a3, 0xd192e819, 0xd6990624, 0xf40e3585, 0x106aa070] ++
  [0x19a4c116, 0x1e376c08, 0x2748774c, 0x34b0bcb5, 0x391c0cb3, 0x4ed8aa4a, 0x5b9cca4f, 0x682e6ff3] ++
  [0x748f82ee, 0x78a5636f, 0x84c87814, 0x8cc70208, 0x90befffa, 0xa4506ceb, 0xbef9a3f7, 0xc67178f2]

/-- The initial hash value. -/
def shaInit : List Quad := [0x6a09e667, 0xbb67ae85, 0x3c6ef372, 0xa54ff53a, 0x510e527f, 0x9b05688c, 0x1f83d9ab, 0x5be0cd19]

/-- The message padded to whole blocks of 64 bytes. -/
def shaPad (m : List Byte) : List Byte := m ++ [0x80] ++ List.replicate ((119 - m.length % 64) % 64) 0 ++ beBytes 8 (8 * m.length)

/-- The message schedule, grown by `n` words. -/
def shaSchedule : Nat → List Quad → List Quad
  | 0, w => w
  | n + 1, w =>
    let v := shaSchedule n w
    let g (k : Nat) : Quad := v.getD (v.length - k) 0
    let s0 := (g 15).rotateRight 7 ^^^ (g 15).rotateRight 18 ^^^ (g 15 >>> 3)
    let s1 := (g 2).rotateRight 17 ^^^ (g 2).rotateRight 19 ^^^ (g 2 >>> 10)
    v ++ [g 16 + s0 + g 7 + s1]

/-- One round, on the working variables a-h, with its constant and schedule word. -/
def shaRound (s : List Quad) (kw : Quad × Quad) : List Quad :=
  let v (i : Nat) : Quad := s.getD i 0
  let s1 := (v 4).rotateRight 6 ^^^ (v 4).rotateRight 11 ^^^ (v 4).rotateRight 25
  let ch := (v 4 &&& v 5) ^^^ (~~~(v 4) &&& v 6)
  let t1 := v 7 + s1 + ch + kw.1 + kw.2
  let s0 := (v 0).rotateRight 2 ^^^ (v 0).rotateRight 13 ^^^ (v 0).rotateRight 22
  let maj := (v 0 &&& v 1) ^^^ (v 0 &&& v 2) ^^^ (v 1 &&& v 2)
  [t1 + (s0 + maj), v 0, v 1, v 2, v 3 + t1, v 4, v 5, v 6]

/-- One block of 64 bytes into the hash value. -/
def shaBlock (h : List Quad) (b : List Byte) : List Quad :=
  let w := (List.range 16).map fun i => BitVec.ofNat 32 (beNat ((b.drop (4 * i)).take 4))
  (h.zip ((shaK.zip (shaSchedule 48 w)).foldl shaRound h)).map fun p => p.1 + p.2

/-- The blocks of a padded message, `n` of them. -/
def shaBlocks : Nat → List Byte → List Quad → List Quad
  | 0, _, h => h
  | n + 1, m, h => shaBlocks n (m.drop 64) (shaBlock h (m.take 64))

/-- The SHA-256 digest of a byte string: its 32 bytes in order. -/
def sha256 (m : List Byte) : List Byte :=
  let p := shaPad m
  (shaBlocks (p.length / 64) p shaInit).flatMap fun w => beBytes 4 w.toNat

/-! ## ECDSA over P-256 -/

/-- The field's prime, the group's order, the curve's b and its base point. -/
def ecP : Nat := 0xFFFFFFFF00000001000000000000000000000000FFFFFFFFFFFFFFFFFFFFFFFF
def ecN : Nat := 0xFFFFFFFF00000000FFFFFFFFFFFFFFFFBCE6FAADA7179E84F3B9CAC2FC632551
def ecB : Nat := 0x5AC635D8AA3A93E7B3EBBD55769886BC651D06B0CC53B0F63BCE3C3E27D2604B
def ecGx : Nat := 0x6B17D1F2E12C4247F8BCE6E563A440F277037D812DEB33A0F4A13945D898C296
def ecGy : Nat := 0x4FE342E2FE1A7F9B8EE7EB4A7C0F9E162BCE33576B315ECECBB6406837BF51F5

/-- A power modulo m, for exponents below 2^k. -/
def powMod (m a e : Nat) : Nat → Nat
  | 0 => 1 % m
  | k + 1 =>
    let h := powMod m a (e / 2) k
    if e % 2 = 1 then h * h % m * a % m else h * h % m

/-- The inverse modulo a prime below 2^256. -/
def invMod (m a : Nat) : Nat := powMod m (a % m) (m - 2) 256

/-- A point of the curve; `none` is the point at infinity. -/
abbrev EcPoint := Option (Nat × Nat)

/-- The third point of a line of a slope through (x1, y1) and a point of abscissa x2, reflected. -/
def ecChord (l x1 y1 x2 : Nat) : EcPoint :=
  let x3 := (l * l + 2 * ecP - x1 - x2) % ecP
  some (x3, (l * (x1 + ecP - x3) + ecP - y1) % ecP)

/-- The sum of two points. -/
def ecAdd (a b : EcPoint) : EcPoint :=
  match a, b with
  | none, q => q
  | p, none => p
  | some (x1, y1), some (x2, y2) =>
    if x1 = x2 then
      (if (y1 + y2) % ecP = 0 then none
       else ecChord ((3 * x1 * x1 + ecP - 3) * invMod ecP (2 * y1) % ecP) x1 y1 x2)
    else ecChord ((y2 + ecP - y1) * invMod ecP (x2 + ecP - x1) % ecP) x1 y1 x2

/-- A multiple of a point, for factors below 2^k. -/
def ecMul (p : EcPoint) (e : Nat) : Nat → EcPoint
  | 0 => none
  | k + 1 =>
    let h := ecMul p (e / 2) k
    let d := ecAdd h h
    if e % 2 = 1 then ecAdd d p else d

/-- A public key lies on the curve. -/
def ecOnCurve (x y : Nat) : Bool :=
  decide (x < ecP) && decide (y < ecP) && (y * y % ecP == (x * x * x + (ecP - 3) * x + ecB) % ecP)

/-- An ECDSA P-256 signature verifies (R161): public key X then Y, signature r then s, 32 bytes each, big-endian (R159); digest. -/
def ecdsaOk (pub sig digest : List Byte) : Bool :=
  let x := beNat (pub.take 32)
  let y := beNat (pub.drop 32)
  let r := beNat (sig.take 32)
  let s := beNat (sig.drop 32)
  let w := invMod ecN s
  ecOnCurve x y && decide (0 < r ∧ r < ecN) && decide (0 < s ∧ s < ecN) &&
  (match ecAdd (ecMul (some (ecGx, ecGy)) (beNat digest * w % ecN) 256) (ecMul (some (x, y)) (r * w % ecN) 256) with
   | some q => q.1 % ecN == r
   | none => false)

end Sys2Proof.Machine
end

