-- ==== Sys2Proof/Machine/Far.lean ====
section
/-!
DEFINITION. Far space (chapters 05, 08, 09, 24): the region map, the page and tag checks, sealing, the ROM tables, and the loads
and stores every agent makes there.
-/
namespace Sys2Proof.Machine

/-! ## ROM tables (R1189, R1190) -/

/-- The SHA-256 round constants (R1190; the values are those of the SHA-256 standard). -/
def shaConst0 : List Nat :=
  [0x428A2F98, 0x71374491, 0xB5C0FBCF, 0xE9B5DBA5, 0x3956C25B, 0x59F111F1, 0x923F82A4, 0xAB1C5ED5,
   0xD807AA98, 0x12835B01, 0x243185BE, 0x550C7DC3, 0x72BE5D74, 0x80DEB1FE, 0x9BDC06A7, 0xC19BF174]
def shaConst1 : List Nat :=
  [0xE49B69C1, 0xEFBE4786, 0x0FC19DC6, 0x240CA1CC, 0x2DE92C6F, 0x4A7484AA, 0x5CB0A9DC, 0x76F988DA,
   0x983E5152, 0xA831C66D, 0xB00327C8, 0xBF597FC7, 0xC6E00BF3, 0xD5A79147, 0x06CA6351, 0x14292967]
def shaConst2 : List Nat :=
  [0x27B70A85, 0x2E1B2138, 0x4D2C6DFC, 0x53380D13, 0x650A7354, 0x766A0ABB, 0x81C2C92E, 0x92722C85,
   0xA2BFE8A1, 0xA81A664B, 0xC24B8B70, 0xC76C51A3, 0xD192E819, 0xD6990624, 0xF40E3585, 0x106AA070]
def shaConst3 : List Nat :=
  [0x19A4C116, 0x1E376C08, 0x2748774C, 0x34B0BCB5, 0x391C0CB3, 0x4ED8AA4A, 0x5B9CCA4F, 0x682E6FF3,
   0x748F82EE, 0x78A5636F, 0x84C87814, 0x8CC70208, 0x90BEFFFA, 0xA4506CEB, 0xBEF9A3F7, 0xC67178F2]

/-- One step of a polynomial remainder: the next bit is the top bit of a `w`-bit register. -/
def crcStep (w poly v : Nat) : Nat :=
  if v / 2 ^ (w - 1) % 2 = 1 then Nat.xor (v * 2 % 2 ^ w) poly else v * 2 % 2 ^ w

/-- Eight steps of `crcStep`. -/
def crcByte (w poly v : Nat) : Nat :=
  crcStep w poly (crcStep w poly (crcStep w poly (crcStep w poly
    (crcStep w poly (crcStep w poly (crcStep w poly (crcStep w poly v)))))))

/-- Entry `i` of the CRC-16/CCITT table: the remainder of i * 2^16 by 0x1_1021. -/
def crc16Entry (i : Nat) : Nat := crcByte 16 0x1021 (i * 256)

/-- Entry `i` of the CRC-8 table: the remainder of i * 2^8 by 0x107. -/
def crc8Entry (i : Nat) : Nat := crcByte 8 0x07 i

/-- One step of the reflected CRC-32. -/
def crc32Step (v : Nat) : Nat := if v % 2 = 1 then Nat.xor (v / 2) 0xEDB88320 else v / 2

/-- Entry `i` of the CRC-32 table of IEEE 802.3 in reflected form. -/
def crc32Entry (i : Nat) : Nat :=
  crc32Step (crc32Step (crc32Step (crc32Step (crc32Step (crc32Step (crc32Step (crc32Step i)))))))

/-- The CRC-32 of IEEE 802.3 over bytes, before its final complement. -/
def crc32Raw (bs : List Byte) : Nat :=
  bs.foldl (fun c b => Nat.xor (crc32Entry (Nat.xor c b.toNat % 256)) (c / 256)) 0xFFFFFFFF

/-- The CRC-32 with its final complement. -/
def crc32Of (bs : List Byte) : Nat := 0xFFFFFFFF - crc32Raw bs

/-- The directory of the ROM tables: ID, far offset, length (R1189, R1190). -/
def romDirectory : List (Nat × Nat × Nat) :=
  [(1, 0x100, 4), (2, 0x200, 512), (3, 0x400, 256), (4, 0x500, 1024), (5, 0x900, 17), (6, 0x920, 256), (0, 0, 0)]

/-- The bytes of the directory. -/
def romDirBytes : List Byte :=
  romDirectory.flatMap fun e => leBytes 2 e.1 ++ leBytes 3 (if e.1 = 0 then 0 else e.2.1) ++ leBytes 3 e.2.2

/-- Byte `o` of the ROM tables, counted from far address 0x50_0000; 0x00 outside the directory and every table (R1191). -/
def romByte (o : Nat) : Byte :=
  if o < 0x38 then romDirBytes.getD o 0
  else if 0x100 ≤ o ∧ o < 0x104 then (if o = 0x100 then 1 else 0)
  else if 0x200 ≤ o ∧ o < 0x400 then BitVec.ofNat 8 (crc16Entry ((o - 0x200) / 2) / 256 ^ ((o - 0x200) % 2))
  else if 0x400 ≤ o ∧ o < 0x500 then BitVec.ofNat 8 (crc8Entry (o - 0x400))
  else if 0x500 ≤ o ∧ o < 0x900 then BitVec.ofNat 8 (crc32Entry ((o - 0x500) / 4) / 256 ^ ((o - 0x500) % 4))
  else if 0x900 ≤ o ∧ o < 0x911 then BitVec.ofNat 8 (regReset .PP_ITAB (o - 0x900)).toNat
  else if 0x920 ≤ o ∧ o < 0xA20 then
    BitVec.ofNat 8 ((shaConst0 ++ shaConst1 ++ shaConst2 ++ shaConst3).getD ((o - 0x920) / 4) 0 / 256 ^ ((o - 0x920) % 4))
  else 0

/-! ## Pages, tags and written bits -/

/-- Owner of a page of far SRAM (R451). -/
def pageOwner (s : State) (p : Nat) : Nat := mget (fun _ => 0) s.far.owner p

/-- Tag of a line (R488, R491). -/
def lineTag (s : State) (l : Nat) : Nat := mget (fun _ => 0) s.far.tag l

/-- Written bit of a line (R488, R491). -/
def lineW (s : State) (l : Nat) : Bool := mget (fun _ => false) s.far.written l

/-- The pages that `n` lines from `lo` lie in: the first, and one past the last. -/
def pagesOf (lo n : Nat) : Nat × Nat := (lo / 128, if n = 0 then lo / 128 else (lo + n - 1) / 128 + 1)

/-- What far memory holds about `n` lines from `lo`, as a record. -/
def recordOf (f : Far) (lo n : Nat) (strict : Option Quad) : FarOld :=
  ⟨f.epoch, lo, n, mkeep f.owner (pagesOf lo n).1 (pagesOf lo n).2, mkeep f.tag lo (lo + n), mkeep f.written lo (lo + n),
    mkeep f.byte (32 * lo) (32 * (lo + n)), strict⟩

/-- A change of owners, tags or STRICT is made while accesses wait that arrived before it: what it replaces is kept for them (R452, R506,
R509). -/
def keepOld (s : State) (lo n : Nat) (strict : Option Quad) : State :=
  if s.far.wait.isEmpty then s
  else { s with far := { s.far with epoch := s.far.epoch + 1, olds := s.far.olds ++ [recordOf s.far lo n strict] } }

/-- The state and a record of what a change replaced, each holding what the other held. -/
def swapOld (s : State) (o : FarOld) : State × FarOld :=
  let f := s.far
  let hi := o.lo + o.n
  let s1 := { s with far := { f with
    owner := mgraft f.owner o.owner (pagesOf o.lo o.n).1 (pagesOf o.lo o.n).2, tag := mgraft f.tag o.tag o.lo hi,
    written := mgraft f.written o.written o.lo hi, byte := mgraft f.byte o.byte (32 * o.lo) (32 * hi) } }
  let o1 := { recordOf f o.lo o.n o.strict with epoch := o.epoch }
  match o.strict with
  | some v => (wr s1 .SEAL_STRICT 0 v, { o1 with strict := some (rd s .SEAL_STRICT 0) })
  | none => (s1, o1)

/-- `swapOld` with each record in turn. -/
def swapOlds : List FarOld → State → State × List FarOld
  | [], s => (s, [])
  | o :: rest, s =>
    let x := swapOld s o
    let y := swapOlds rest x.1
    (y.1, x.2 :: y.2)

/-- An operation on far memory as it stands for an access that arrived in an epoch: the changes made since are taken back, newest first, and
made again, oldest first. -/
def inEpoch (s : State) (epoch : Nat) (f : State → State) : State :=
  let back := swapOlds (s.far.olds.filter fun o => decide (epoch ≤ o.epoch)).reverse s
  let again := swapOlds back.2.reverse (f back.1)
  { again.1 with far := { again.1.far with olds := (s.far.olds.filter fun o => decide (o.epoch < epoch)) ++ again.2 } }

/-- Lines `lo ≤ l < lo + n` tagged with an owner and their W cleared (R507). No stored byte changes: a line with W = 0 reads as zeros. -/
def retag (s : State) (lo n owner : Nat) : State :=
  let s1 := keepOld s lo n none
  { s1 with far := { s1.far with
    tag := (List.range n).foldl (fun m i => mset (fun _ => 0) m (lo + i) owner) s1.far.tag,
    written := merase s1.far.written lo (lo + n) } }

/-- The watermark NWM in pages, 2-512 (R447). -/
def nwm (s : State) : Nat := let v := rf s .TG_NWM 0 9 0; if v < 2 then 2 else if v > 512 then 512 else v

/-- The first normal instruction word (R444). -/
def iwmWord (s : State) : Nat := let v := rf s .TG_IWM 0 6 0; (if v > 64 then 64 else v) * 1024

/-! ## The seal (R493) -/

/-- The key with a serial number. -/
def keyOf (k : Option Nat) : BitVec 128 := match k with | some n => Config.sealKey n | none => 0

/-- The plaintext of block `j` of line `l` as a 128-bit value, byte 0 lowest. -/
def plainBlock (s : State) (l j : Nat) : BitVec 128 :=
  BitVec.ofNat 128 (leNat ((List.range 16).map fun i => mget (fun _ => (0 : Byte)) s.far.byte (32 * l + 16 * j + i)))

/-- The stored block Cj of a line: AES(Kt, Pj xor Tj) xor Tj with Tj = AES(Kt, X) (R493). -/
def sealedBlock (s : State) (l j : Nat) : BitVec 128 :=
  let k := keyOf (mget (fun _ => (none : Option Nat)) s.far.key (lineTag s l))
  let t := aes128 k (BitVec.ofNat 128 (l + 131072 * j))
  aes128 k (plainBlock s l j ^^^ t) ^^^ t

/-- The stored sealed byte at a far address. -/
def sealedByte (s : State) (a : Nat) : Byte :=
  BitVec.ofNat 8 ((sealedBlock s (a / 32) (a / 16 % 2)).toNat / 256 ^ (a % 16))

/-! ## Loads and stores -/

/-- The region of a far address (R289): 0 far SRAM, 1 NV mapping, 2 ROM tables, 3 read window, 4 hole. -/
def farRegion (a : Nat) : Nat :=
  if a < 0x400000 then 0
  else if a < 0x420000 then 1
  else if a < 0x500000 then 4
  else if a < 0x510000 then 2
  else if a < 0x800000 then 4
  else 3

/-- The page check of R469 for an access in a world as an owner: a normal-world access reaches pages of its own owner and pooled
pages only. -/
def pageRefuses (s : State) (world : Bool) (owner a : Nat) : Bool :=
  world && !(pageOwner s (a / 4096) == owner) && !(pageOwner s (a / 4096) == 15)

/-- A ring channel that is closed (R458). -/
def ringClosed (world : Bool) (owner : Nat) : Bool := owner == 15 || (world && owner == 0)

/-- An NV page is refused to a normal-world access below NWM (R448). -/
def nvRefuses (s : State) (world : Bool) (a : Nat) : Bool := world && decide ((a - 0x400000) / 256 < nwm s)

/-- The far addresses of an access of `n` bytes, wrapping modulo 2^24 (R283). -/
def farRange (a n : Nat) : List Nat := (List.range n).map fun i => (a + i) % 2 ^ 24

/-- A seal fault (R503, R504): SEAL_FAULT and SEAL_FAGENT are filled or OVR set, the event is counted and source 58 raised. -/
def sealFault (s : State) (agent ch owner line kind : Nat) : State :=
  let v := rd s .SEAL_FAULT 0
  let s1 := if v.getLsbD 31 then wr s .SEAL_FAULT 0 (putFld v 30 30 1)
    else
      wr (wr s .SEAL_FAULT 0 (BitVec.ofNat 32 (line + 131072 * owner + 2097152 * lineTag s line + 33554432 * kind +
        2147483648) ||| (v &&& 0x40000000)))
        .SEAL_FAGENT 0 (BitVec.ofNat 32 (agent + 16 * ch))
  raise (count s1 .fabric 0x1A) .fabric 58

/-- Whether an owner is strict (R503). -/
def isStrict (s : State) (owner : Nat) : Bool := rb s .SEAL_STRICT 0 owner

/-- Whether TRNG_FAIL leaves an owner without a key (R497). -/
def noKey (s : State) (owner : Nat) : Bool :=
  s.far.trngBad && (mget (fun _ => (none : Option Nat)) s.far.key owner).isNone

/-- What a load of one far SRAM byte that passed the page check returns (R498). -/
def sealLoadByte (s : State) (owner a : Nat) : Byte :=
  if noKey s owner then 0
  else if lineW s (a / 32) = false then 0
  else if lineTag s (a / 32) = owner then mget (fun _ => 0) s.far.byte a
  else sealedByte s a

/-- The KIND of seal fault that a load of a byte meets, `none` where R498 counts nothing (R504). -/
def loadKind (s : State) (owner a : Nat) : Option Nat :=
  if lineW s (a / 32) = false then some 0 else if lineTag s (a / 32) = owner then none else some 1

/-- Counts an event of FABRIC once where a condition holds. -/
def countIf (s : State) (c : Bool) (code : Nat) : State := if c then count s .fabric code else s

/-- The line of the read-window cache that holds flash line `l` (R992). -/
def cacheLine (s : State) (l : Nat) : Option CacheLine := s.cache.find? fun c => c.line == l

/-- A flash byte as a unit's own read of the window finds it: 0xFF while the window is off (R1000), the cached byte on a hit; on a
miss the byte comes from the flash, which the device does not know: a free value. -/
def flashByte (s : State) (a : Nat) : Byte :=
  if rb s .SPI_WINCFG 0 0 = false then 0xFF
  else match cacheLine s ((a - 0x800000) / 32) with
    | some c => c.bytes.getD (a % 32) 0
    | none => BitVec.ofNat 8 (Config.free (s.fresh + a % 32)).toNat

/-- A far load of `n` bytes in a world as an owner: kind is the KIND of a refusal (4 window, 8 ring, 9 debug), agent and channel go
into the records. Answers the bytes, whether it was refused, whether it raised a seal fault, and the state (R289, R448, R469,
R470, R498-R504). Each event is counted at most once (R499). -/
def farLoad (s : State) (kind agent ch owner : Nat) (world : Bool) (a n : Nat) : List Byte × Bool × Bool × State :=
  let r := farRange a n
  if kind = 8 ∧ ringClosed world owner then
    (r.map fun _ => 0, true, false, violateFrom s .fabric 8 agent (a / 256 % 65536))
  else
    let bad := r.filter fun x => (farRegion x == 0 && pageRefuses s world owner x) ||
      (farRegion x == 1 && nvRefuses s world x)
    let good := r.filter fun x => farRegion x == 0 && !(pageRefuses s world owner x)
    let bytes := r.map fun x =>
      match farRegion x with
      | 0 => if pageRefuses s world owner x then 0 else sealLoadByte s owner x
      | 1 => if nvRefuses s world x then 0 else mget (fun _ => 0xFF) s.nvByte (x - 0x400000)
      | 2 => romByte (x - 0x500000)
      | 3 => flashByte s x
      | _ => 0
    let s1 := countIf s (r.any fun x => farRegion x == 4) 0x04
    let win := r.any fun x => farRegion x == 3
    let s1 := if win && !(rb s1 .SPI_WINCFG 0 0) then count s1 .serial 0x94 else s1
    let s2 := if win then { s1 with fresh := s1.fresh + 32 } else s1
    let keyless := good.any fun _ => noKey s owner
    let hits := if keyless then [] else good.filter fun x => (loadKind s owner x).isSome
    let s3 := countIf (countIf (countIf s2 keyless 0x1B) (hits.any fun x => loadKind s owner x == some 0) 0x18)
      (hits.any fun x => loadKind s owner x == some 1) 0x19
    let strict := isStrict s owner && !hits.isEmpty
    let s4 := match hits.head? with
      | some x => if strict then sealFault s3 agent ch owner (x / 32) ((loadKind s owner x).getD 0) else s3
      | none => s3
    let s5 := match bad.head? with
      | some x =>
        if farRegion x = 1 ∧ kind = 4 then violateFrom s4 .fabric 6 agent ((x - 0x400000) / 256)
        else violateFrom s4 .fabric kind agent (x / 256 % 65536)
      | none => s4
    (bytes, !bad.isEmpty, strict, s5)

/-- The state with one far SRAM byte merged into its line, which is then written (R498): a line with W = 0 is a line of zeros
first. -/
def mergeByte (s : State) (a : Nat) (b : Byte) : State :=
  let l := a / 32
  let old := if lineW s l then s.far.byte else merase s.far.byte (32 * l) (32 * l + 32)
  { s with far := { s.far with
    byte := mset (fun _ => 0) old a b
    written := mset (fun _ => false) s.far.written (a / 32) true } }

/-- A far store of bytes at their addresses, as one access, in a world as an owner. Answers whether it was refused, whether it raised a seal
fault, and the state. -/
def farPut (s : State) (kind agent ch owner : Nat) (world : Bool) (a : Nat) (cells : List (Nat × Byte)) : Bool × Bool × State :=
  let r := cells.map fun e => e.1
  if kind = 8 ∧ ringClosed world owner then (true, false, violateFrom s .fabric 8 agent (a / 256 % 65536))
  else
    let bad := r.filter fun x => farRegion x == 0 && pageRefuses s world owner x
    let good := cells.filter fun e => farRegion e.1 == 0 && !(pageRefuses s world owner e.1)
    let keyless := !good.isEmpty && noKey s owner
    let miss := if keyless then [] else good.filter fun e => !(lineTag s (e.1 / 32) == owner)
    let hit := if keyless then [] else good.filter fun e => lineTag s (e.1 / 32) == owner
    let s1 := countIf s (r.any fun x => farRegion x == 1 || farRegion x == 2 || farRegion x == 3) 0x03
    let s2 := countIf s1 (r.any fun x => farRegion x == 4) 0x04
    let s3 := countIf (countIf s2 keyless 0x1B) (!miss.isEmpty) 0x19
    let strict := isStrict s owner && !miss.isEmpty
    let s4 := match miss.head? with
      | some e => if strict then sealFault s3 agent ch owner (e.1 / 32) 2 else s3
      | none => s3
    let s5 := hit.foldl (fun s e => mergeByte s e.1 e.2) s4
    let s6 := match bad.head? with
      | some x => violateFrom s5 .fabric kind agent (x / 256 % 65536)
      | none => s5
    (!bad.isEmpty, strict, s6)

/-- A far store of bytes at rising addresses. -/
def farStore (s : State) (kind agent ch owner : Nat) (world : Bool) (a : Nat) (bs : List Byte) : Bool × Bool × State :=
  farPut s kind agent ch owner world a ((farRange a bs.length).zip bs)

/-- An access to far SRAM waits (R496, R510): the keys are awaited and the TRNG has not failed, or a REKEY of its owner or of the tag of a
line it touches is in progress. -/
def farWaits (s : State) (owner a n : Nat) : Bool :=
  (farRange a n).any fun x => farRegion x == 0 &&
    ((!(rb s .SEAL_STAT 0 0) && !s.far.trngBad) ||
     (s.far.rekey.isSome && (s.far.rekey == some owner || s.far.rekey == some (lineTag s (x / 32)))))

end Sys2Proof.Machine
end

