-- ==== Sys2Proof/Machine/Rings.lean ====
section
/-!
DEFINITION. Descriptor rings and completions (chapter 11): the shared operations of the sixteen channels, the transfers between a
channel and its unit, and the meanings of the ring commands.
-/
namespace Sys2Proof.Machine

/-! ## Channels -/

/-- Channel `c` behind its registers. -/
def chanOf (s : State) (c : Nat) : Chan := mget (fun _ => Chan.reset) s.chan c

/-- The state with channel `c` replaced. -/
def setChan (s : State) (c : Nat) (x : Chan) : State := { s with chan := mset (fun _ => Chan.reset) s.chan c x }

/-- The owner of channel `c` (R457). -/
def chanOwner (s : State) (c : Nat) : Nat := rf s .TG_HO (7 + c) 11 8

/-- The world of channel `c` (R457). -/
def chanWorld (s : State) (c : Nat) : Bool := blockWorld s (7 + c)

/-- Entries in the ring of channel `c` (R567). -/
def ringSize (s : State) (c : Nat) : Nat := 2 ^ rf s .RING_CFG c 8 5

/-- The far address of entry `i` (R567). -/
def entryAddr (s : State) (c i : Nat) : Nat := rn s .RING_BASE c + 16 * i

/-- A load by channel `c` as its owner in its world (R566). -/
def chanLoad (s : State) (c a n : Nat) : List Byte × Bool × Bool × State :=
  farLoad s 8 8 c (chanOwner s c) (chanWorld s c) a n

/-- A store by channel `c` as its owner in its world (R566). -/
def chanStore (s : State) (c a : Nat) (bs : List Byte) : Bool × Bool × State :=
  farStore s 8 8 c (chanOwner s c) (chanWorld s c) a bs

/-- A far access of `n` bytes by channel `c` must wait for keys or for a REKEY (R496, R510); a closed channel's is refused (R458). -/
def chanWaits (s : State) (c a n : Nat) : Bool :=
  !(ringClosed (chanWorld s c) (chanOwner s c)) && farWaits s (chanOwner s c) a n

/-- The unit of the unit table that a UNIT number belongs to (R563, R1145); SOFT and the SPI queue have none. -/
def unitOfNumber (u : Nat) : Option Nat :=
  if u = 1 then some 0
  else if u = 2 ∨ u = 3 then some 6
  else if 4 ≤ u ∧ u ≤ 8 then some 5
  else if u = 9 ∨ u = 10 then some 7
  else if u = 11 ∨ u = 12 then some 8
  else if u = 13 ∨ u = 14 then some 9
  else none

/-- The island of a UNIT number (R563). -/
def islandOfNumber (u : Nat) : Island :=
  if u = 1 then .print
  else if u = 2 ∨ u = 3 then .eth
  else if 4 ≤ u ∧ u ≤ 8 then .usb
  else if u = 0 then .fabric
  else .serial

/-- The hand-over block whose world the unit of a UNIT number has (R459, R461); Millrace serves every world (R733) and SOFT has
no unit. -/
def blockOfNumber (u : Nat) : Option Nat :=
  if u = 2 ∨ u = 3 then some 6
  else if 4 ≤ u ∧ u ≤ 8 then some 5
  else if u = 9 ∨ u = 10 then some 0
  else if u = 11 ∨ u = 12 then some 1
  else if u = 13 ∨ u = 14 then some 2
  else if u = 15 then some 4
  else none

/-- How many entries the unit holds at once (R563). -/
def holdLimit (u : Nat) : Nat := if u = 1 ∨ u = 13 then 4 else 1

/-- The worlds of the channel and of its unit differ (R459). -/
def worldsDiffer (s : State) (c : Nat) : Bool :=
  match blockOfNumber (rf s .RING_CFG c 4 0) with
  | some b => blockWorld s b != chanWorld s c
  | none => false

/-- The worlds of an enabled channel and its unit are compared; RING_WORLD_MISMATCH is counted where they have become unequal (R459). -/
def worldsLook (s : State) (c : Nat) : State :=
  let now := rb s .RING_STAT c 0 && worldsDiffer s c
  let s1 := if now && !(chanOf s c).mismatch then count s .fabric 0x20 else s
  if (chanOf s c).mismatch = now then s1 else setChan s1 c { chanOf s1 c with mismatch := now }

/-- The enabled channel bound to a UNIT number (R563, R565). -/
def channelOf (s : State) (u : Nat) : Option Nat :=
  (List.range 16).find? fun c => rb s .RING_STAT c 0 && rf s .RING_CFG c 4 0 == u

/-- RECL and OUTST from the entries outstanding (R579). -/
def showOut (s : State) (c : Nat) : State :=
  let o := (chanOf s c).out
  wr (wr s .RING_RECL c (BitVec.ofNat 32 (o.headD (rn s .RING_TAIL c)))) .RING_OUTST c (BitVec.ofNat 32 o.length)

/-- ERR with a code (chapter 11, Registers). -/
def ringErr (s : State) (c code : Nat) : State :=
  wf (wb s .RING_STAT c 3 true) .RING_STAT c 6 4 code

/-- Records the index of an erring entry where ERRIDX is not valid (R596). -/
def errIdx (s : State) (c i : Nat) : State :=
  if rb s .RING_ERRIDX c 15 then s else wr s .RING_ERRIDX c (BitVec.ofNat 32 (i + 32768))

/-- A channel that is STOPPING becomes disabled once no entry is outstanding (R594, R604). -/
def endStop (s : State) (c : Nat) : State :=
  if rb s .RING_STAT c 1 && (chanOf s c).out.isEmpty then
    wb (wb s .RING_STAT c 1 false) .RING_STAT c 0 false
  else s

/-- Posted entries not yet fetched, in index order (R594). -/
def unfetched (s : State) (c : Nat) : List Nat :=
  let n := (rn s .RING_TAIL c + ringSize s c - rn s .RING_FETCH c) % ringSize s c
  let full := (chanOf s c).out.length
  let k := if n = 0 ∧ full = ringSize s c ∧ (chanOf s c).given.isEmpty ∧ (chanOf s c).done.isEmpty then ringSize s c else n
  (List.range k).map fun j => (rn s .RING_FETCH c + j) % ringSize s c

/-- STOP (R594): nothing more is fetched and every posted entry not yet fetched is completed with FLUSHED, in index order. Where that
empties the SPI queue, source 90 rises (R984). -/
def ringStop (s : State) (c : Nat) : State :=
  if rb s .RING_STAT c 0 = false ∨ rb s .RING_STAT c 1 = true then s
  else
    let l := unfetched s c
    let s1 := wb s .RING_STAT c 1 true
    let s2 := if l.isEmpty then s1 else book s1 (4 + c) 3 5 l.length
    let s3 := setChan s2 c { chanOf s2 c with
      done := (chanOf s2 c).done ++ l.map fun i => { idx := i, status := 4, cflags := 0, done := 0 } }
    let idle := rf s3 .RING_CFG c 4 0 == 15 && !l.isEmpty && (chanOf s3 c).given.isEmpty && s3.spi.tr.isNone
    endStop (wr (if idle then raise s3 .serial 90 else s3) .RING_FETCH c (rd s3 .RING_TAIL c)) c

/-- ABORT (R595): acts as STOP and asks the unit to abandon the entries it holds. -/
def ringAbort (s : State) (c : Nat) : State :=
  if rb s .RING_STAT c 0 = false then s
  else
    let s1 := ringStop s c
    let u := rf s1 .RING_CFG c 4 0
    if (chanOf s1 c).aborting then s1
    else
      let s2 := setChan s1 c { chanOf s1 c with aborting := true }
      if (chanOf s2 c).given.isEmpty ∨ u = 0 then s2 else send s2 (fromFabric (islandOfNumber u)) (.ringAbort c)

/-- The configuration checks of R564. -/
def ringCfgOk (s : State) (c : Nat) : Bool :=
  let cq := rb s .RING_CFG c 9
  decide (rf s .RING_CFG c 4 0 ≤ 15) && decide (4 ≤ rf s .RING_CFG c 8 5) && decide (rf s .RING_CFG c 8 5 ≤ 12) &&
  decide (rn s .RING_BASE c + 16 * ringSize s c ≤ 0x400000) &&
  (!cq || (decide (4 ≤ rf s .RING_CQCFG c 3 0) && decide (rf s .RING_CQCFG c 3 0 ≤ 12) &&
    decide (rn s .RING_CQBASE c + 8 * 2 ^ rf s .RING_CQCFG c 3 0 ≤ 0x400000))) &&
  (cq || decide (rf s .RING_CFG c 4 0 ≠ 0))

/-- ENABLE (R564, R565, R597, R652, R1252): the checks, then TAIL, FETCH, RECL, CQHEAD and HELD at 0 and the credit book open
with every term 0. -/
def ringEnable (s : State) (c : Nat) : State :=
  if rb s .RING_STAT c 0 = true ∨ hoPhase s (7 + c) ≠ 0 then s
  else if ringCfgOk s c = false then ringErr s c 1
  else if (rf s .RING_CFG c 4 0 ≠ 0) ∧ (channelOf s (rf s .RING_CFG c 4 0)).isSome then
    count (ringErr s c 2) .fabric 0x21
  else
    let s1 := [Rg.RING_TAIL, .RING_FETCH, .RING_RECL, .RING_CQHEAD, .RING_HELD, .RING_OUTST, .RING_NCOMPL].foldl
      (fun s r => wr s r c 0) (wb s .RING_STAT c 0 true)
    worldsLook (clearBook (setChan s1 c Chan.reset) (4 + c)) c

/-- The free space of R577: the ring's size less what lies between RECL and TAIL, a full ring counted as full. -/
def ringFree (s : State) (c : Nat) : Nat :=
  let used := (rn s .RING_TAIL c + ringSize s c - rn s .RING_RECL c) % ringSize s c
  if (chanOf s c).out.isEmpty then ringSize s c
  else if used = 0 then 0 else ringSize s c - used

/-- POST of a count (R577, R578). -/
def ringPost (s : State) (c n : Nat) : State :=
  if rb s .RING_STAT c 0 = false ∨ rb s .RING_STAT c 1 = true then count (ringErr s c 4) .fabric 0x22
  else if n = 0 ∨ n > 4096 ∨ n > ringFree s c then count (ringErr s c 3) .fabric 0x22
  else
    let t := rn s .RING_TAIL c
    let l := (List.range n).map fun j => (t + j) % ringSize s c
    let s1 := setChan s c { chanOf s c with out := (chanOf s c).out ++ l }
    let s2 := wr s1 .RING_TAIL c (BitVec.ofNat 32 ((t + n) % ringSize s c))
    showOut (book s2 (4 + c) 0 3 n) c

/-- The reset of RINGn_CTL's three bits in one write (R1252): ABORT or STOP wins over ENABLE, ABORT over STOP. -/
def ringCtl (s : State) (c : Nat) (v : Quad) : State :=
  if v.getLsbD 2 then ringAbort s c
  else if v.getLsbD 1 then ringStop s c
  else if v.getLsbD 0 then ringEnable s c
  else s

/-! ## Fetch -/

/-- A fragment of a fragment table (R571): address, length, well formed. -/
def readFrag (bs : List Byte) : Nat × Nat × Bool :=
  (leNat (bs.take 3), leNat ((bs.drop 4).take 2),
    (bs.getD 3 0 == 0) && (bs.getD 6 0 == 0) && (bs.getD 7 0 == 0) && decide (leNat ((bs.drop 4).take 2) ≠ 0))

/-- The fragments of a table of `n` fragments in its bytes, `none` where one breaks R571. -/
def readFrags : Nat → List Byte → Option (List (Nat × Nat))
  | 0, _ => some []
  | n + 1, bs =>
    let f := readFrag (bs.take 8)
    if f.2.2 then (readFrags n (bs.drop 8)).map fun l => (f.1, f.2.1) :: l else none

/-- What the channel keeps of an entry's 16 bytes. -/
def infoOf (bs : List Byte) : EntryInfo :=
  ⟨(bs.getD 0 0).toNat, leNat ((bs.drop 10).take 2), (bs.getD 7 0).toNat, leNat ((bs.drop 8).take 2)⟩

/-- An entry that has been read is kept until it completes (R582). -/
def keepInfo (s : State) (c i : Nat) (x : EntryInfo) : State :=
  setChan s c { chanOf s c with info := mset (fun _ => none) (chanOf s c).info i (some x) }

/-- An entry completed at fetch (R583): it moves from Q to W and its completion waits to be written. -/
def doneAtFetch (s : State) (c i status : Nat) : State :=
  let s1 := book s (4 + c) 3 5 1
  setChan s1 c { chanOf s1 c with done := (chanOf s1 c).done ++ [⟨i, status, 0, 0⟩] }

/-- An erring fetch: ERR, ERRIDX, the counted event, then STOP where STOPERR is 1 (R583, R596). -/
def badFetch (s : State) (c i status code ev : Nat) : State :=
  let s1 := count (errIdx (ringErr (doneAtFetch s c i status) c code) c i) .fabric ev
  if rb s1 .RING_CFG c 11 then ringStop s1 c else s1

/-- Whether the unit of channel `c` may be given an entry: it has room (R563, R581), it is not FAULTED and accepts work (R605,
R1147, R988), no completion is held back (R589), and neither is being handed over (R463, R1166). -/
def unitReady (s : State) (c : Nat) : Bool :=
  let u := rf s .RING_CFG c 4 0
  decide ((chanOf s c).given.length < holdLimit u) && !(rb s .RING_STAT c 2) && hoPhase s (7 + c) == 0 &&
  (match unitOfNumber u with | some k => unitRuns s k | none => true) && (u != 15 || !s.spi.stopped) &&
  (match blockOfNumber u with | some b => hoPhase s b == 0 | none => true)

/-- The well-formed entry is passed on: a SOFT channel completes it with OK at once (R592) and has its one place taken until the completion
is written (R563); any other hands it to its unit by a transfer, its credit leaving Q as the transfer issues (R644). -/
def passEntry (s : State) (c i uflags uarg : Nat) (ind : Bool) (frags : List (Nat × Nat)) : State :=
  let u := rf s .RING_CFG c 4 0
  let s1 := setChan s c { chanOf s c with given := (chanOf s c).given ++ [i], moved := 0, bad := false }
  if u = 0 then doneAtFetch s1 c i 0
  else send s1 (fromFabric (islandOfNumber u)) (.ringGive c i (uflags + 256 * b01 ind) uarg frags)

/-- A fetch of entry `i`, with FETCH already past it (R581-R585). A fragment table must lie in far SRAM (R568); for one that lies elsewhere the
spec gives no response: the model reads it there as R289 gives and goes on (DESIGN CHOICE, log 134). -/
def fetchEntry (s : State) (c i : Nat) : State :=
  let (bs, refused, fault, s0) := chanLoad s c (entryAddr s c i) 16
  let s1 := keepInfo s0 c i (infoOf bs)
  let ctl := (bs.getD 0 0).toNat
  let len := leNat ((bs.drop 2).take 2)
  let addr := leNat ((bs.drop 4).take 3)
  let tag := leNat ((bs.drop 10).take 2)
  let soft := rf s .RING_CFG c 4 0 == 0
  if refused ∨ fault then badFetch s1 c i 7 7 0x25
  else if ctl % 2 = 0 then badFetch s1 c i 5 5 0x23
  else if ctl / 8 ≠ 0 ∨ tag / 4096 ≠ 0 ∨ bs.getD 15 0 ≠ 0 then badFetch s1 c i 6 6 0x24
  else if soft then passEntry s1 c i (bs.getD 1 0).toNat (bs.getD 7 0).toNat false []
  else if nbit ctl 1 = false then
    (if len = 0 then
      badFetch s1 c i 6 6 0x24
     else passEntry s1 c i (bs.getD 1 0).toNat (bs.getD 7 0).toNat false [(addr, len)])
  else if len = 0 ∨ len > 64 ∨ addr % 8 ≠ 0 then badFetch s1 c i 6 6 0x24
  else
    let (tb, refused2, fault2, s2) := chanLoad s1 c addr (8 * len)
    if refused2 ∨ fault2 then badFetch s2 c i 7 7 0x25
    else
      match readFrags len tb with
      | none => badFetch s2 c i 6 6 0x24
      | some fr => passEntry s2 c i (bs.getD 1 0).toNat (bs.getD 7 0).toNat true fr

/-- A fetch of entry `i` must wait: its own line, or the fragment table that it names (R496, R510). -/
def fetchWaits (s : State) (c i : Nat) : Bool :=
  chanWaits s c (entryAddr s c i) 16 ||
  (let bs := (chanLoad s c (entryAddr s c i) 16).1
   rf s .RING_CFG c 4 0 != 0 && nbit (bs.getD 0 0).toNat 1 && chanWaits s c (leNat ((bs.drop 4).take 3)) (8 * min 64 (leNat ((bs.drop 2).take 2))))

/-- The channel fetches the next posted entry (R581, R605): nothing where none is posted, the unit has no room, the worlds differ (R459), or
an access has to wait. -/
def ringFetch (s : State) (c : Nat) : State :=
  let i := rn s .RING_FETCH c
  if rb s .RING_STAT c 0 = false ∨ rb s .RING_STAT c 1 = true ∨ unfetched s c = [] ∨ worldsDiffer s c = true ∨ unitReady s c = false ∨
    fetchWaits s c i = true then s
  else fetchEntry (wr s .RING_FETCH c (BitVec.ofNat 32 ((i + 1) % ringSize s c))) c i

/-! ## Completion -/

/-- Removes an index from the outstanding entries and counts the completion. -/
def retire (s : State) (c i : Nat) : State :=
  let x := chanOf s c
  let s1 := setChan s c { x with
    out := x.out.erase i, given := x.given.erase i, done := x.done.drop 1, info := mset (fun _ => none) x.info i none }
  showOut (wr s1 .RING_NCOMPL c (rd s1 .RING_NCOMPL c + 1)) c

/-- What a channel knows of an entry: as read at its fetch, or, where it was never fetched, as read now (R582). -/
def entryInfo (s : State) (c i : Nat) : EntryInfo × State :=
  match mget (fun _ => (none : Option EntryInfo)) (chanOf s c).info i with
  | some x => (x, s)
  | none =>
    let (bs, _, _, s1) := chanLoad s c (entryAddr s c i) 16
    (infoOf bs, s1)

/-- The completion of a SOFT channel's entry carries the entry's UARG and HANDLE (R573, R592). -/
def softCompl (s : State) (c : Nat) (x : EntryInfo) (k : Compl) : Compl :=
  if rf s .RING_CFG c 4 0 = 0 then { k with cflags := x.uarg, done := x.handle } else k

/-- The one line store that ends a ring entry: OWN cleared in CTL, DONE and STATUS written, the other bytes as they stand (R587); a SOFT
channel's DONE is 0 (R592). -/
def endEntry (s : State) (c : Nat) (x : EntryInfo) (k : Compl) : Bool × Bool × State :=
  let a := entryAddr s c k.idx
  let d := leBytes 2 (if rf s .RING_CFG c 4 0 = 0 then 0 else k.done)
  farPut s 8 8 c (chanOwner s c) (chanWorld s c) a
    [(a, BitVec.ofNat 8 (x.ctl / 2 * 2)), (a + 12, d.getD 0 0), (a + 13, d.getD 1 0), (a + 14, BitVec.ofNat 8 k.status)]

/-- The bytes of a completion-ring entry (R573). -/
def complBytes (tag : Nat) (k : Compl) : List Byte :=
  leBytes 2 (tag % 4096 + 32768) ++ [BitVec.ofNat 8 k.status, BitVec.ofNat 8 k.cflags] ++ leBytes 2 k.done ++
    leBytes 2 k.idx

/-- The far address of the completion slot at CQHEAD (R573). -/
def cqSlot (s : State) (c : Nat) : Nat := rn s .RING_CQBASE c + 8 * rn s .RING_CQHEAD c

/-- CQHEAD moves on, modulo the completion ring's size. -/
def cqAdvance (s : State) (c : Nat) : State :=
  wr s .RING_CQHEAD c (BitVec.ofNat 32 ((rn s .RING_CQHEAD c + 1) % 2 ^ rf s .RING_CQCFG c 3 0))

/-- The credit returns, the entry is retired, the edge rises where the entry's IRQ or IRQALL is 1, and a refused or faulted access is
recorded (R587, R588, R1253). -/
def finishCompl (s : State) (c : Nat) (k : Compl) (irq bad : Bool) : State :=
  let s1 := retire (book s (4 + c) 5 1 1) c k.idx
  let s2 := if bad then count (errIdx (ringErr s1 c 7) c k.idx) .fabric 0x25 else s1
  let s3 := if irq || rb s2 .RING_CFG c 10 then raise s2 .fabric (40 + c) else s2
  endStop (if bad && rb s3 .RING_CFG c 11 then ringStop s3 c else s3) c

/-- The channel writes the oldest waiting completion, in place or to the completion ring (R587-R589, R1253). A seal fault on the read of the
slot's CTAG ends the entry with ACCESS (R505). -/
def ringComplete (s : State) (c : Nat) : State :=
  match (chanOf s c).done with
  | [] => s
  | k0 :: _ =>
    let (x, s0) := entryInfo s c k0.idx
    let irq := nbit x.ctl 2
    if rb s .RING_CFG c 9 = false then
      let (r, f, s1) := endEntry s0 c x k0
      finishCompl s1 c k0 irq (r || f)
    else
      let slot := cqSlot s c
      let (ct, r0, f0, s1) := chanLoad s0 c slot 2
      if !r0 && nbit (leNat ct) 15 then
        (if rb s1 .RING_STAT c 2 then s1 else count (wb s1 .RING_STAT c 2 true) .fabric 0x26)
      else
        let k := softCompl s c x (if f0 then { k0 with status := 7 } else k0)
        let (r1, f1, s2) := chanStore s1 c slot (complBytes x.tag k)
        let (r2, f2, s3) := endEntry (cqAdvance (wb s2 .RING_STAT c 2 false) c) c x k
        finishCompl s3 c k irq (f0 || r1 || f1 || r2 || f2)

/-- A unit's completion of an entry is captured in FABRIC (R643): the credit is in W and its completion waits to be written; an entry one of
whose writes was refused ends with ACCESS and the bytes written before it (R585). An ACCESS is counted and recorded, and stops the
channel where STOPERR is 1 (R596). -/
def ringDoneCaptured (s : State) (c i status done cflags : Nat) : State :=
  if !((chanOf s c).given.contains i) then s else
  let x := chanOf s c
  let k : Compl := if x.bad then ⟨i, 7, cflags, x.moved % 65536⟩ else ⟨i, status, cflags, done⟩
  let s1 := setChan s c { x with given := x.given.erase i, done := x.done ++ [k], bad := false }
  let s2 := wr s1 .RING_HELD c (BitVec.ofNat 32 (rn s1 .RING_HELD c - 1))
  if k.status = 7 then
    let s3 := count (errIdx (ringErr s2 c 7) c i) .fabric 0x25
    if rb s3 .RING_CFG c 11 then ringStop s3 c else s3
  else s2

/-! ## A unit's side -/

/-- The entry a single-entry unit holds. -/
def slotOf (s : State) (u : Nat) : Option Slot := mget (fun _ => (none : Option Slot)) s.slot u

/-- The state with a unit's slot replaced. -/
def setSlot (s : State) (u : Nat) (x : Option Slot) : State := { s with slot := mset (fun _ => none) s.slot u x }

/-- The bytes an entry's fragments hold in all (R572). -/
def fragTotal (fr : List (Nat × Nat)) : Nat := (fr.map fun f => f.2).sum

/-- The far address of byte `o` of an entry's stream (R572). -/
def fragAddr : List (Nat × Nat) → Nat → Nat
  | [], _ => 0
  | f :: fr, o => if o < f.2 then f.1 + o else fragAddr fr (o - f.2)

/-- A run of `n` bytes from far address `a` in accesses of at most 8 bytes, none across a multiple of 8 (R586), with a bound on their
number. -/
def split8 : Nat → Nat → Nat → List (Nat × Nat)
  | 0, _, _ => []
  | fuel + 1, a, n =>
    if n = 0 then []
    else
      let k := min n (8 - a % 8)
      (a % 2 ^ 24, k) :: split8 fuel (a + k) (n - k)

/-- The accesses of `n` bytes from byte `o` of an entry's stream: address and length, within each fragment. -/
def fragPieces : List (Nat × Nat) → Nat → Nat → List (Nat × Nat)
  | [], _, _ => []
  | f :: fr, o, n =>
    if n = 0 then []
    else if f.2 ≤ o then fragPieces fr (o - f.2) n
    else
      let k := min n (f.2 - o)
      split8 k (f.1 + o) k ++ fragPieces fr 0 (n - k)

/-- What a unit reads of entry `i` of channel `c`. -/
def moverOf (s : State) (c i : Nat) : Option Mover := mget (fun _ => (none : Option Mover)) s.mover (4096 * c + i)

/-- The state with it replaced. -/
def setMover (s : State) (c i : Nat) (m : Option Mover) : State := { s with mover := mset (fun _ => none) s.mover (4096 * c + i) m }

/-- A unit asks for what it wants of an entry's stream and has not asked for: up to `ahead` bytes beyond those it has taken. Each access is a
transfer to FABRIC (R30, R586). -/
def moverAsk (s : State) (c i : Nat) : State :=
  match moverOf s c i with
  | none => s
  | some m =>
    let want := min (fragTotal m.frags) (m.taken + m.ahead)
    if m.bad || decide (want ≤ m.asked) then s
    else
      (fragPieces m.frags m.asked (want - m.asked)).foldl
        (fun s p => send s (toFabric (islandOfNumber (rf s .RING_CFG c 4 0))) (.unitRead c i p.1 p.2))
        (setMover s c i (some { m with asked := want }))

/-- A unit begins to read an entry's data. -/
def moverOpen (s : State) (c i : Nat) (frags : List (Nat × Nat)) (ahead : Nat) : State :=
  moverAsk (setMover s c i (some { frags := frags, ahead := ahead, asked := 0, got := [], taken := 0, bad := false })) c i

/-- Bytes reach the unit (R237): they count for an entry it still reads. -/
def moverData (s : State) (c i : Nat) (bs : List Byte) (bad : Bool) : State :=
  match moverOf s c i with
  | none => s
  | some m => setMover s c i (some (if bad || m.bad then { m with bad := true } else { m with got := m.got ++ bs }))

/-- Whether `n` bytes of an entry's stream have reached its unit, or none will any more because an access was refused. -/
def moverHas (s : State) (c i n : Nat) : Bool :=
  match moverOf s c i with
  | none => false
  | some m => decide (n ≤ m.got.length) || m.bad

/-- A refused access lies among the next `n` bytes of an entry's stream. -/
def moverShort (s : State) (c i n : Nat) : Bool :=
  match moverOf s c i with
  | none => n != 0
  | some m => m.bad && decide (m.got.length < n)

/-- The unit takes the next `n` bytes of an entry's stream: what has come of them, whether a refused access lies among them, and the state. -/
def moverTake (s : State) (c i n : Nat) : List Byte × Bool × State :=
  match moverOf s c i with
  | none => ([], n != 0, s)
  | some m =>
    let bs := m.got.take n
    (bs, decide (bs.length < n), setMover s c i (some { m with got := m.got.drop n, taken := m.taken + bs.length }))

/-- A unit writes bytes at byte `o` of the stream of an entry of channel `c`: each access is a transfer to FABRIC (R30, R586). -/
def unitSend (s : State) (c i : Nat) (fr : List (Nat × Nat)) (o : Nat) (bs : List Byte) : State :=
  ((fragPieces fr o bs.length).foldl (fun (r : List Byte × State) p =>
    (r.1.drop p.2, send r.2 (toFabric (islandOfNumber (rf r.2 .RING_CFG c 4 0))) (.unitWrite c i p.1 (r.1.take p.2)))) (bs, s)).2

/-- A unit completes an entry of channel `c` with a status (R575), behind the entry's data (R237); it reads no more of it. -/
def unitComplete (s : State) (i : Island) (c idx status done cflags : Nat) : State :=
  send (setMover s c idx none) (toFabric i) (.ringDone c idx status done cflags)

/-- A single-entry unit completes what it holds. -/
def slotComplete (s : State) (u status done cflags : Nat) : State :=
  match slotOf s u with
  | none => s
  | some x => unitComplete (setSlot s u none) (islandOfNumber u) x.chan x.e.idx status (done % 65536) cflags

/-! ## Hand-over of a channel (R598) -/

/-- A write-off line is recorded, with its book, block and amount (R662, R664). -/
def woLine (s1 : State) (b blk n : Nat) : State :=
  let full := decide (16 ≤ s1.led.wo.length)
  let s2 := { s1 with led := { s1.led with wo := (⟨b, blk, n⟩ :: s1.led.wo).take 16 } }
  let s3 := wb s2 .LED_STAT 0 2 true
  let s4 := if full then wb s3 .LED_STAT 0 3 true else s3
  count (wr s4 .LED_WOCNT 0 (BitVec.ofNat 32 ((rn s4 .LED_WOCNT 0 + 1) % 65536))) .fabric 0x30

/-- A channel's credits move to WO and the loss is recorded (R662, R663). -/
def writeOff (s : State) (b src blk n : Nat) : State := woLine (book s b src 2 n) b blk n

/-- One outstanding entry in the RESET step: its completion is written without an edge, or it is written off where the completion
ring is full or the write is refused. -/
def resetEntry (s : State) (c : Nat) (k0 : Compl) : State :=
  let (x, s0) := entryInfo s c k0.idx
  let cq := rb s .RING_CFG c 9
  let (ct, r0, f0, s1) := if cq then chanLoad s0 c (cqSlot s c) 2 else ([], false, false, s0)
  let drop (s : State) : State := retire (count (writeOff s (4 + c) 5 (7 + c) 1) .fabric 0x27) c k0.idx
  if cq && !r0 && nbit (leNat ct) 15 then drop s1
  else
    let k := softCompl s c x (if f0 then { k0 with status := 7 } else k0)
    let (r1, f1, s2) := if cq then chanStore s1 c (cqSlot s c) (complBytes x.tag k) else (false, false, s1)
    if r1 || f1 then drop s2
    else
      let (r2, f2, s3) := endEntry (if cq then cqAdvance s2 c else s2) c x k
      if r2 || f2 then drop s3 else retire (book s3 (4 + c) 5 1 1) c k.idx

/-- A transfer of a channel's dealings with its unit. -/
def ofRing (c : Nat) (x : Xfer) : Bool :=
  match x with
  | .ringGive ch .. | .ringAccept ch | .ringDone ch .. | .ringAbort ch | .unitRead ch .. | .unitData ch .. | .unitWrite ch ..
  | .unitDeny ch .. | .unitLoad ch .. | .unitStore ch .. => ch == c
  | .spiLoad req .. | .spiReply req .. | .nvLoad req .. => req == 16 + c
  | _ => false

/-- An entry of channel `c` that its unit has not been given. -/
def isGive (c : Nat) (x : Xfer) : Bool := match x with | .ringGive ch .. => ch == c | _ => false

/-- A transfer from the unit of channel `c` to the channel. -/
def fromUnit (c : Nat) (x : Xfer) : Bool :=
  match x with
  | .ringAccept ch | .ringDone ch .. | .unitRead ch .. | .unitWrite ch .. => ch == c
  | _ => false

/-- A map of transfers without those of a channel. -/
def purgeRing (c : Nat) (m : SMap (List Xfer)) : SMap (List Xfer) :=
  (m.map fun e => (e.1, e.2.filter fun x => !(ofRing c x))).filter fun e => !e.2.isEmpty

/-- What the channel and its unit have issued has been captured (R246, R643), what the unit has given up has reached the channel, and no
access of it waits: nothing more can happen to an entry. -/
def ringQuiet (s : State) (c : Nat) : Bool :=
  !(s.xfly.any fun e => e.2.any (ofRing c)) && !(s.xwait.any fun e => e.2.any (fromUnit c)) && !(s.far.wait.any fun e => ofRing c e.x)

/-- The RESET step of a channel (R598), once `ringQuiet`: every outstanding entry, in index order, with its own status and DONE where its unit
or the channel has completed it, with HANDOVER and no byte done where it had not reached its unit; then the channel is disabled and
its registers take their reset values. What has not issued from the channel ends with the step, its credit with the entry. -/
def ringReset (s : State) (c : Nat) : State :=
  let ch := chanOf s c
  let q := (unfetched s c).length + (s.xwait.map fun e => e.2.countP (isGive c)).sum
  let b := 4 + c
  let s1 := { s with
    xwait := purgeRing c s.xwait, mover := merase s.mover (4096 * c) (4096 * (c + 1)) }
  let s2 := if q = 0 then s1 else book s1 b 3 5 q
  let s3 := setTerm (setTerm s2 b 5 (term s2 b 5 + term s2 b 4)) b 4 0
  let compl := ch.out.map fun i =>
    match ch.done.find? fun k => k.idx == i with
    | some k => k
    | none => ⟨i, 3, 0, 0⟩
  let s4 := setChan s3 c { ch with done := compl, given := [] }
  let s5 := compl.foldl (fun s k => resetEntry s c k) s4
  resetRange (setChan s5 c Chan.reset) (0x1000 + 0x40 * c) (0x1000 + 0x40 * (c + 1))

/-! ## The rows -/

/-- RING_ENABLE (R564). -/
def execRingEnable (req : Nat) (ch : Fin 16) (s : State) : Host.Outcome State Fault Refusal :=
  writeReg s req .RING_CTL ch.val fun s => ringEnable s ch.val

/-- RING_STOP (R594). -/
def execRingStop (req : Nat) (ch : Fin 16) (s : State) : Host.Outcome State Fault Refusal :=
  writeReg s req .RING_CTL ch.val fun s => ringStop s ch.val

/-- RING_ABORT (R595). -/
def execRingAbort (req : Nat) (ch : Fin 16) (s : State) : Host.Outcome State Fault Refusal :=
  writeReg s req .RING_CTL ch.val fun s => ringAbort s ch.val

/-- RING_POST (R577): COUNT is the register's low 13 bits. -/
def execRingPost (req : Nat) (ch : Fin 16) (v : Word) (s : State) : Host.Outcome State Fault Refusal :=
  writeReg s req .RING_POST ch.val fun s => ringPost s ch.val (v.toNat % 8192)

/-- RING_FETCH (R581). -/
def execRingFetch (ch : Fin 16) (s : State) : Host.Outcome State Fault Refusal := liveIn s .fabric fun s => ringFetch s ch.val

/-- Writes the oldest waiting completion where its far accesses need not wait (R496, R510). -/
def ringCompleteDue (s : State) (c : Nat) : State :=
  match (chanOf s c).done with
  | [] => s
  | k :: _ =>
    if chanWaits s c (entryAddr s c k.idx) 16 || (rb s .RING_CFG c 9 && chanWaits s c (cqSlot s c) 8) then s else ringComplete s c

/-- RING_COMPLETION (R588): while a completion is held only the retry reads the slot again (R589). -/
def execRingCompletion (ch : Fin 16) (s : State) : Host.Outcome State Fault Refusal :=
  liveIn s .fabric fun s => if rb s .RING_STAT ch.val 2 then s else ringCompleteDue s ch.val

/-- RING_CQ_RETRY (R589). -/
def execRingCqRetry (ch : Fin 16) (s : State) : Host.Outcome State Fault Refusal :=
  liveIn s .fabric fun s => if rb s .RING_STAT ch.val 2 then ringCompleteDue s ch.val else s

end Sys2Proof.Machine
end

