-- ==== Sys2Proof/Machine/Sealing.lean ====
section
/-!
DEFINITION. Sealed far memory as a unit (chapter 09): accesses that arrive in FABRIC and wait or are served in order, the page
owner table, keys, REKEY and the line-tag port.
-/
namespace Sys2Proof.Machine

/-- The state with far memory's engine replaced. -/
def setFar (s : State) (f : Far) : State := { s with far := f }

/-- An IN of a thread is outstanding from now on (R361). -/
def inOut (s : State) (dst : Dst) : State :=
  match dst with
  | .greg t _ | .preg t _ =>
    setThr s t { thr s t with outX := (thr s t).outX + 1, outKX := (thr s t).outKX + b01 (!(thr s t).world) }
  | .debug => s

/-- Where the value of an access issued now goes. -/
def landing (s : State) (dst : Dst) : Landing :=
  ⟨dst, s.cycles, match dst with | .greg t _ | .preg t _ => !(thr s t).world | .debug => false⟩

/-- A register's own read row answers an IN of its requester: the IN is outstanding (R361) and its value goes back through the island's
crossing to CORE (R243). -/
def replyIn (s : State) (i : Island) (dst : Dst) (b : Byte) : State := send (inOut s dst) (toCore i) (.inReply (landing s dst) b)

/-- The requester of a far access, or of an answer; the unit of channel `ch` counts as 16 + ch. -/
def farReq (x : Xfer) : Option Nat :=
  match x with
  | .farLoad req .. | .farStore req .. | .spiLoad req .. | .nvLoad req .. | .spiReply req .. => some req
  | .unitLoad ch .. | .unitStore ch .. | .ringDone ch .. => some (16 + ch)
  | _ => none

/-- An entry of the list whose answer a later answer of the same requester must not overtake (R410). -/
def answersLater (req : Nat) (e : FarWait) : Bool :=
  farReq e.x == some req && (match e.x with | .farStore .. => req == 8 | _ => true)

/-- Bytes of an entry go to its unit through its crossing (R586). -/
def unitAnswer (s : State) (ch idx : Nat) (bs : List Byte) (bad : Bool) : State :=
  send s (fromFabric (islandOfNumber (rf s .RING_CFG ch 4 0))) (.unitData ch idx bs bad)

/-- The value of a load goes back through crossing 1 (R354) in the order of its requester's accesses (R410): it waits behind an earlier load
that is not answered and behind a store that is not accepted. -/
def farAnswer (s : State) (req : Nat) (dst : Landing) (bs : List Byte) : State :=
  if 16 ≤ req then unitAnswer s (req - 16) dst.issue bs false
  else if s.far.wait.any (answersLater req) || s.far.stWait.any (fun e => e.1 == req) then
    setFar s { s.far with wait := s.far.wait ++ [⟨.spiReply req dst bs, s.far.epoch⟩] }
  else send s (toCore .fabric) (.farReply dst bs)

/-- The store queue takes a store, or the store waits for an entry of it (R515). -/
def farAccept (s : State) (req : Nat) (keeper : Bool) : State :=
  if s.far.stq < 8 then send (setFar s { s.far with stq := s.far.stq + 1 }) (toCore .fabric) (.accepted req keeper)
  else setFar s { s.far with stWait := s.far.stWait ++ [(req, keeper)] }

/-- The KIND of a refused far access: 4 for a thread's window, 9 for the debug bus master (R469). -/
def farKind (req : Nat) : Nat := if req = 8 then 9 else 4

/-- The status with which a far access of the debug bus master ends: 5 DENIED, 6 SEALFAULT, 0 OK (R1090, R505). -/
def dbgStatus (refused fault : Bool) : Byte := if refused then 5 else if fault then 6 else 0

/-- What a refused or faulted access of the debug bus master sets (R1105). -/
def dbgOutcome (s : State) (refused fault : Bool) : State := if refused || fault then dbgDenied s else s

/-- A load goes on to SERIAL, whose answer it awaits (R31, R991). -/
def farForward (s : State) (x : Xfer) : State :=
  send (setFar s { s.far with wait := s.far.wait ++ [⟨x, s.far.epoch⟩] }) (fromFabric .serial) x

/-- A unit's read is carried out with the owner and world of its arrival (R566, R602): SERIAL answers for the NV mapping and the read window
(R31); a refused, faulted or hole access is answered as such (R569, R585). -/
def unitLoadNow (s : State) (ch idx a n owner : Nat) (world : Bool) : State :=
  if farRegion a = 3 ∧ ringClosed world owner = false then
    farForward s (.spiLoad (16 + ch) (a - 0x800000) n ⟨.debug, idx, false⟩)
  else if farRegion a = 1 ∧ ringClosed world owner = false ∧ nvRefuses s world a = false then
    farForward s (.nvLoad (16 + ch) (a - 0x400000) n ⟨.debug, idx, false⟩)
  else
    let (bs, r, f, s1) := farLoad s 8 8 ch owner world a n
    unitAnswer s1 ch idx bs (r || f || farRegion a == 4)

/-- A unit's write is carried out with the owner and world of its arrival: a refused or faulted one, or one outside far SRAM, is not made and
ends the entry (R569, R585); the entry's later writes have no effect. -/
def unitStoreNow (s : State) (ch idx a : Nat) (bs : List Byte) (owner : Nat) (world : Bool) : State :=
  let x := chanOf s ch
  if x.bad || !(x.given.contains idx) then s
  else
    let (r, f, s1) := farStore s 8 8 ch owner world a bs
    if r || f || farRegion a != 0 then
      send (setChan s1 ch { chanOf s1 ch with bad := true }) (fromFabric (islandOfNumber (rf s .RING_CFG ch 4 0))) (.unitDeny ch idx)
    else setChan s1 ch { chanOf s1 ch with moved := (chanOf s1 ch).moved + bs.length }

/-- A far load is carried out: zeros where its window was closed or refused at its issue (R285, R288), a request to SERIAL for the read window
(R991) and, where it is not refused, for the NV mapping (R31), the far-space map's answer elsewhere (R289). -/
def farLoadNow (s : State) (req far n owner : Nat) (world closed refused : Bool) (dst : Landing) : State :=
  if closed ∨ refused then farAnswer s req dst (List.replicate n 0)
  else if farRegion far = 3 then farForward s (.spiLoad req (far - 0x800000) n dst)
  else if farRegion far = 1 ∧ nvRefuses s world far = false then
    farForward s (.nvLoad req (far - 0x400000) n dst)
  else
    let (bs, r, f, s1) := farLoad s (farKind req) (agentOf req) 0 owner world far n
    if req = 8 then farAnswer (dbgOutcome s1 r f) req dst (bs ++ [dbgStatus r f]) else farAnswer s1 req dst bs

/-- A far store is carried out (R285, R288, R289); its acceptance has its own report. The debug bus master is told how it ended (R1089). -/
def farStoreNow (s : State) (req far : Nat) (bs : List Byte) (owner : Nat) (world closed refused : Bool) : State :=
  if closed ∨ refused then s
  else
    let (r, f, s1) := farStore s (farKind req) (agentOf req) 0 owner world far bs
    if req = 8 then farAnswer (dbgOutcome s1 r f) req (landing s1 .debug) [dbgStatus r f] else s1

/-- Whether an access must wait on its own account (R496, R510), or for SERIAL. -/
def farHeld (s : State) (x : Xfer) : Bool :=
  match x with
  | .farLoad _ far n owner _ closed refused _ => !closed && !refused && farWaits s owner far n
  | .farStore _ far bs owner _ closed refused => !closed && !refused && farWaits s owner far bs.length
  | .unitLoad _ _ a n owner world => !(ringClosed world owner) && farWaits s owner a n
  | .unitStore _ _ a bs owner world => !(ringClosed world owner) && farWaits s owner a bs.length
  | .spiLoad .. | .nvLoad .. => true
  | _ => false

/-- A channel's unit accesses and completions keep their order (R586): one waits behind those that wait. -/
def behindOwn (s : State) (x : Xfer) : Bool :=
  match x with
  | .unitLoad .. | .unitStore .. | .ringDone .. => s.far.wait.any fun e => farReq e.x == farReq x
  | _ => false

/-- An access is carried out now, or an answer given. -/
def farServe (s : State) (x : Xfer) : State :=
  match x with
  | .farLoad req far n owner world closed refused dst => farLoadNow s req far n owner world closed refused dst
  | .farStore req far bs owner world closed refused => farStoreNow s req far bs owner world closed refused
  | .spiReply req dst bs => farAnswer s req dst bs
  | .unitLoad ch idx a n owner world => unitLoadNow s ch idx a n owner world
  | .unitStore ch idx a bs owner world => unitStoreNow s ch idx a bs owner world
  | .ringDone ch idx status done cflags => ringDoneCaptured s ch idx status done cflags
  | _ => s

/-- An access that arrived in an epoch is carried out now, or stays in the list. -/
def farTry (s : State) (e : FarWait) : State :=
  if farHeld s e.x || behindOwn s e.x then setFar s { s.far with wait := s.far.wait ++ [e] } else inEpoch s e.epoch fun s => farServe s e.x

/-- The list is looked at in order of arrival; what a change replaced is forgotten once no access waits. -/
def farPump (s : State) : State :=
  let s1 := s.far.wait.foldl farTry (setFar s { s.far with wait := [] })
  if s1.far.wait.isEmpty then setFar s1 { s1.far with olds := [] } else s1

/-- A far access arrives in FABRIC: a store is offered to the store queue (R515), then the access is carried out or waits (R516). -/
def farArrive (s : State) (x : Xfer) : State :=
  let s1 := match x with
    | .farStore req _ _ _ world .. => farAccept s req (!world)
    | _ => s
  farTry s1 ⟨x, s1.far.epoch⟩

/-- A unit's access arrives in FABRIC: it has the owner and the world of its channel at that moment (R602). -/
def unitArrive (s : State) (x : Xfer) : State :=
  match x with
  | .unitRead ch idx a n => farArrive s (.unitLoad ch idx a n (chanOwner s ch) (chanWorld s ch))
  | .unitWrite ch idx a bs => farArrive s (.unitStore ch idx a bs (chanOwner s ch) (chanWorld s ch))
  | _ => farArrive s x

/-- SERIAL's answer arrives in FABRIC: it goes on to its requester in the place of the request. -/
def farSpiReply (s : State) (req : Nat) (dst : Landing) (bs : List Byte) : State :=
  let place := fun (e : FarWait) => match e.x with | .spiLoad r _ _ d | .nvLoad r _ _ d => r == req && d == dst | _ => false
  let answer := fun (e : FarWait) => if place e then { e with x := .spiReply req dst bs } else e
  farPump (setFar s { s.far with wait := (s.far.wait.takeWhile fun e => !(place e)) ++
    (match s.far.wait.dropWhile fun e => !(place e) with | [] => [] | e :: rest => answer e :: rest) })

/-- Stores that wait to be carried out and were accepted keep their entries of the store queue (R515). -/
def storesHeld (s : State) : Nat :=
  let held := fun r => (s.far.wait.filter fun e => match e.x with | .farStore req .. => req == r | _ => false).length
  let waiting := fun r => (s.far.stWait.filter fun e => e.1 == r).length
  ((List.range 9).map fun r => held r - waiting r).sum

/-- An entry of the store queue frees; the oldest store that waits for one enters it and its acceptance is reported (R515); answers behind it
go on. -/
def storeFree (s : State) : State :=
  if s.far.stq = 0 ∨ s.far.stq ≤ storesHeld s then s
  else match s.far.stWait with
    | [] => setFar s { s.far with stq := s.far.stq - 1 }
    | (req, keeper) :: rest => farPump (send (setFar s { s.far with stWait := rest }) (toCore .fabric) (.accepted req keeper))

/-! ## The page owner table -/

/-- A thread's access of SEAL_PTDATA moves PAGE on, wrapping from 1023 to 0; the debug bus master's read does not (R1248). -/
def ptNext (s : State) : State := wf s .SEAL_PTIDX 0 9 0 (rf s .SEAL_PTIDX 0 9 0 + 1)

/-- A write of a page's owner: the table entry, the lines' tags and written bits, and PAGE (R452, R453, R507). -/
def ptWrite (s : State) (owner : Nat) : State :=
  let p := rf s .SEAL_PTIDX 0 9 0
  let s1 := retag s (128 * p) 128 owner
  ptNext (setFar s1 { s1.far with owner := mset (fun _ => 0) s1.far.owner p owner })

/-- A read of SEAL_PTDATA. -/
def ptRead (s : State) (req : Nat) : Byte × State :=
  (BitVec.ofNat 8 (pageOwner s (rf s .SEAL_PTIDX 0 9 0)), if req = 8 then s else ptNext s)

/-! ## Keys -/

/-- A fresh key for an owner (R495). -/
def newKey (s : State) (o : Nat) : State :=
  setFar s { s.far with key := mset (fun _ => none) s.far.key o (some s.far.keysMade), keysMade := s.far.keysMade + 1 }

/-- All 15 keys exist (R496); accesses that wait for them go on. -/
def keysReady (s : State) : State :=
  if rb s .SEAL_STAT 0 0 then s
  else
    let s1 := forN 15 s newKey
    farPump (wb (setFar s1 { s1.far with trngBad := false }) .SEAL_STAT 0 0 true)

/-- The TRNG has failed its health tests for 1 ms while keys are awaited (R497). Where it fails during a REKEY with KEYSRDY set, the spec does not
say whether the owner's accesses complete as SEAL_NOKEY or go on waiting under R510: the model keeps them waiting (DESIGN CHOICE, log 133). -/
def trngFail (s : State) : State :=
  if rb s .SEAL_STAT 0 0 ∧ s.far.rekey = none then s
  else
    let s1 := if rb s .SEAL_STAT 0 0 then s else setFar s { s.far with trngBad := true }
    farPump (raise (count (wb s1 .SEAL_STAT 0 1 true) .fabric 0x1C) .fabric 59)

/-- A REKEY request for an owner (R510, R511). -/
def rekeyGo (s : State) (o : Nat) : State :=
  if s.far.rekey.isSome ∨ o = 15 then wb s .SEAL_REKEY 0 6 true
  else wb (wb (setFar s { s.far with rekey := some o }) .SEAL_REKEY 0 5 true) .SEAL_STAT 0 2 true

/-- A REKEY of an owner is over for far memory as it stands, or as it stood before a change: the lines tagged with the owner have W = 0. -/
def sweepTags (tag : SMap Nat) (o : Nat) (written : SMap Bool) : SMap Bool :=
  written.filter fun e => !(mget (fun _ => 0) tag e.1 == o)

/-- The sweep ends: every line tagged with the owner has W = 0, its key is new, and accesses that wait go on (R494, R510). -/
def rekeyDone (s : State) : State :=
  match s.far.rekey with
  | none => s
  | some o =>
    let s1 := setFar s { s.far with
      written := sweepTags s.far.tag o s.far.written,
      olds := s.far.olds.map fun x => { x with written := sweepTags x.tag o x.written },
      rekey := none, swept := 0 }
    farPump (wb (wb (newKey s1 o) .SEAL_REKEY 0 5 false) .SEAL_STAT 0 2 false)

/-- The sweep passes lines of the tag array (R510, R517). -/
def sweepMove (s : State) (lines : Nat) : State :=
  if s.far.rekey.isSome then setFar s { s.far with swept := min 131072 (s.far.swept + lines) } else s

/-! ## The line-tag port -/

/-- A REKEY's sweep has passed a line of its owner, whose W is 0 from then on. -/
def lineSwept (s : State) (l : Nat) : Bool := s.far.rekey == some (lineTag s l) && decide (l < s.far.swept)

/-- What SEAL_LTDATA reads (R517): it does not wait for a sweep. -/
def ltData (s : State) : Byte :=
  let l := rf s .SEAL_LTIDX 0 16 0
  BitVec.ofNat 8 (lineTag s l + 16 * b01 (lineW s l && !(lineSwept s l)))

/-- A thread's read of SEAL_LTDATA moves LINE on; the debug bus master's does not (R517, R1248). -/
def ltNext (s : State) (req : Nat) : State :=
  if req = 8 then s else wf s .SEAL_LTIDX 0 16 0 (rf s .SEAL_LTIDX 0 16 0 + 1)

/-! ## The rows -/

/-- SEAL_STRICT commits: accesses that arrived before keep the old value (R506). -/
def strictWrite (s : State) (v : Quad) : State := wr (keepOld s 0 0 (some (rd s .SEAL_STRICT 0))) .SEAL_STRICT 0 v

/-- STORE_ACCEPT (R515). -/
def execStoreAccept (s : State) : Host.Outcome State Fault Refusal := liveIn s .fabric storeFree

/-- PAGE_OWNER_WRITE (R507). -/
def execPageOwnerWrite (req : Nat) (v : Byte) (s : State) : Host.Outcome State Fault Refusal :=
  writeReg s req .SEAL_PTDATA 0 fun s => ptWrite s (v.toNat % 16)

/-- PAGE_TABLE_READ (R1248). -/
def execPageTableRead (req : Nat) (dst : Dst) (s : State) : Host.Outcome State Fault Refusal :=
  readRegRow s req .SEAL_PTDATA 0 fun s ok =>
    if ok then replyIn (ptRead s req).2 .fabric dst (ptRead s req).1 else replyIn s .fabric dst 0

/-- KEYS_READY (R496): also while the near-RAM clear runs. -/
def execKeysReady (s : State) : Host.Outcome State Fault Refusal :=
  .next (if s.dev.phase = .awake ∨ s.dev.phase = .clearing then keysReady s else s)

/-- TRNG_FAIL (R497). -/
def execTrngFail (s : State) : Host.Outcome State Fault Refusal :=
  .next (if s.dev.phase = .awake ∨ s.dev.phase = .clearing then trngFail s else s)

/-- REKEY_REQUEST (R510): a write of SEAL_REKEY with GO and an owner. -/
def execRekeyRequest (req : Nat) (owner : BitVec 4) (s : State) : Host.Outcome State Fault Refusal :=
  writeReg s req .SEAL_REKEY 0 fun s => rekeyGo (wf s .SEAL_REKEY 0 3 0 owner.toNat) owner.toNat

/-- REKEY_DONE (R510). -/
def execRekeyDone (s : State) : Host.Outcome State Fault Refusal := liveIn s .fabric rekeyDone

/-- LINE_TAG_READ (R517). -/
def execLineTagRead (req : Nat) (dst : Dst) (s : State) : Host.Outcome State Fault Refusal :=
  readRegRow s req .SEAL_LTDATA 0 fun s ok =>
    if ok then replyIn (ltNext s req) .fabric dst (ltData s) else replyIn s .fabric dst 0

end Sys2Proof.Machine
end

