-- ==== Sys2Proof/Machine/Usb.lean ====
section
/-!
DEFINITION. The USB device (chapter 16): what the link units share, attach, reset and suspend, EP0, the ring endpoints, and the meanings
of the USB commands.
-/
namespace Sys2Proof.Machine

/-! ## What the links share -/

/-- A unit's DATA_STATE follows its activity while it is IDLE or ACTIVE. -/
def follow (s : State) (u : Nat) (active : Bool) : State := if dstate s u ≤ 1 then setData s u (b01 active) else s

/-- The entry a single-entry unit holds completes with ABANDONED and the bytes moved so far (R806). -/
def abandon (s : State) (u : Nat) : State :=
  match slotOf s u with
  | some x => slotComplete s u 2 x.moved 0
  | none => s

/-- A held entry of a unit number completes with a status, with the bytes moved. -/
def endSlot (s : State) (u status : Nat) : State :=
  match slotOf s u with
  | some x => slotComplete s u status x.moved 0
  | none => s

/-! ## USB: attach, reset, suspend (R812-R815) -/

/-- The state with the USB device replaced. -/
def setUsb (s : State) (u : Usb) : State := { s with usb := u }

/-- The DP pull-up is on (R812), or kept on over a hand-over (R466). -/
def usbPull (s : State) : Bool :=
  ((rb s .USB_CTL 0 0 && rb s .USB_CTL 0 1) || s.usb.keepPull) && rb s .USB_STAT 0 0

/-- The timer of the bus's idle time (R226, R814). -/
def tmrIdle : Nat := 138

/-- The bus is not idle: its idle time starts again; on the edge on which it would end the packet or line event wins (R249, R253). -/
def usbHeard (s : State) : State :=
  if usbPull s && !(rb s .USB_STAT 0 1) then startTimer (if timerDue s tmrIdle then count s .usb 0x08 else s) tmrIdle (msTicks 3) else s

/-- DATA_STATE follows the pull-up and SUSP (R805); the idle time runs from the moment the pull-up is on. -/
def usbShow (s : State) : State :=
  let s1 := follow s 5 (rb s .USB_CTL 0 0 && usbPull s && !(rb s .USB_STAT 0 1))
  if usbPull s1 = false then stopTimer s1 tmrIdle else if timerOn s1 tmrIdle then s1 else usbHeard s1

/-- The device answers the bus: attached, not suspended, not faulted. -/
def usbHears (s : State) : Bool := usbPull s && !(rb s .USB_STAT 0 1) && dstate s 5 != 3

/-- ARMED of USB_EP0CTL follows EP0. -/
def usbArm (s : State) (i o : Bool) : State :=
  wb (setUsb s { s.usb with armIn := i, armOut := o }) .USB_EP0CTL 0 6 (i || o)

/-- A flag of USB_EP0CTL sets; its change from 0 to 1 raises source 96 (R820). -/
def ep0Flag (s : State) (bit : Nat) : State :=
  if rb s .USB_EP0CTL 0 bit then s else raise (wb s .USB_EP0CTL 0 bit true) .usb 96

/-- The UNIT numbers of the USB endpoints. -/
def usbUnits : List Nat := [4, 5, 6, 7, 8]

/-- SUSP clears on any bus activity (R814). -/
def usbResume (s : State) : State :=
  if rb s .USB_STAT 0 1 then usbShow (raise (wb (wb s .USB_STAT 0 1 false) .USB_STAT 0 4 true) .usb 100) else s

/-- What a bus reset does (R813). -/
def usbBusReset (s : State) : State :=
  let s1 := setUsb s { s.usb with addr := 0, staged := none, toggle := [], sent := none }
  let s2 := wr s1 .USB_ADDR 0 0
  let s3 := forN 3 s2 fun s k => wf s .USB_EPCFG k 3 0 0
  let s4 := usbUnits.foldl (fun s u => endSlot s u 0x85) (usbArm s3 false false)
  raise (count (wb s4 .USB_STAT 0 2 true) .usb 0x58) .usb 100

/-- USB_CTL.EN cleared (R806, R1148). -/
def usbDisable (s : State) : State :=
  if rb s .USB_CTL 0 0 = false then s
  else
    let s1 := wb s .USB_CTL 0 0 false
    if dstate s1 5 = 3 then setMgmt s1 5 0
    else
      let act := dstate s1 5 == 1
      let s2 := if act then setUnit s1 5 0 2 else setMgmt s1 5 0
      let s3 := usbUnits.foldl abandon (setUsb s2 { s2.usb with sent := none })
      if act then setData s3 5 0 else s3

/-- USB_CTL written, but for a clear of EN: EN set, CONNECT, and the kept pull-up ends. -/
def usbCtl (s : State) (v : Quad) : State :=
  let s0 := if rb s .USB_CTL 0 0 && !(v.getLsbD 0) then usbDisable s else s
  let s1 := setUsb (wf s0 .USB_CTL 0 1 0 (fld v 1 0)) { s0.usb with keepPull := false }
  usbShow (if v.getLsbD 0 && mgmt s1 5 == 0 then setMgmt s1 5 1 else s1)

/-- RWAKE (R815): K for 5 ms, where SUSP has been 1 for 5 ms. -/
def usbRwake (s : State) : State :=
  if rb s .USB_STAT 0 1 ∧ s.usb.susAt + msTicks 5 ≤ s.time then
    startTimer (setUsb s { s.usb with waking := true }) 132 (msTicks 5)
  else s

/-! ## Endpoints -/

/-- The UNIT number of an endpoint's direction (R810). -/
def epUnit (ep : Nat) (out : Bool) : Option Nat :=
  match ep, out with
  | 1, true => some 4 | 1, false => some 5 | 2, false => some 6 | 3, true => some 7 | 3, false => some 8
  | _, _ => none

/-- The packet size of a UNIT number (R810, R811). -/
def usbMps (s : State) (u : Nat) : Nat := if u = 6 then min (max (rf s .USB_EPMPS 1 6 0) 8) 64 else 64

/-- A data toggle, by 2 * endpoint, plus 1 for OUT. -/
def togOf (s : State) (k : Nat) : Bool := mget (fun _ => false) s.usb.toggle k

/-- The state with a data toggle set. -/
def setTog (s : State) (k : Nat) (b : Bool) : State :=
  setUsb s { s.usb with toggle := mset (fun _ => false) s.usb.toggle k b }

/-- An entry of a USB endpoint breaks R821 or R822. -/
def usbBadForm (s : State) (u : Nat) (e : Entry) : Bool :=
  if u = 4 ∨ u = 7 then e.ind || decide (fragTotal e.frags < usbMps s u) || decide (2 ≤ e.uflags)
  else decide (4 ≤ e.uflags)

/-- A token finds no entry held (R824): where the channel has none posted, or counts as empty because its world differs (R459, R482), NAKIN or NAKOUT sets, and the first of an episode counts and
raises the endpoint's source. -/
def usbStarve (s : State) (ep u : Nat) (out : Bool) : State :=
  let posted := match channelOf s u with
    | some c => !(unfetched s c).isEmpty && !(worldsDiffer s c)
    | none => false
  if posted then s
  else
    let s1 := wb s .USB_EPSTAT (ep - 1) (b01 out) true
    if mget (fun _ => false) s1.usb.starve u then s1
    else
      raise (count (setUsb s1 { s1.usb with starve := mset (fun _ => false) s1.usb.starve u true }) .usb 0x5B) .usb (96 + ep)

/-- The bytes of EP0's IN packet: USB_EP0LEN, 65-127 acting as 64. -/
def ep0Len (s : State) : Nat := min (rf s .USB_EP0LEN 0 6 0) 64

/-- An IN token of endpoint 1-3 (R821, R824, R825): NAK while the unit is handed over (R461, R466) or the packet's bytes are on their way. -/
def usbIn (s : State) (ep u : Nat) : State :=
  if rb s .USB_EPCFG (ep - 1) 0 = false ∨ mgmt s 5 ≠ 1 then s
  else if rb s .USB_EPCFG (ep - 1) 2 then wb s .USB_EPSTAT (ep - 1) 2 true
  else
    match slotOf s u with
    | none => usbStarve s ep u false
    | some x =>
      let n := if nbit x.e.uflags 1 ∨ x.mark = 1 then 0 else min (usbMps s u) (fragTotal x.e.frags - x.moved)
      if n ≠ 0 ∧ moverHas s x.chan x.e.idx n = false then s
      else if n ≠ 0 ∧ moverShort s x.chan x.e.idx n = true then endSlot s u 7
      else setUsb s { s.usb with sent := some (ep, n) }

/-- The host acknowledges a packet of an IN entry: it advances, and completes after its last packet. -/
def usbAcked (s : State) (u n : Nat) : State :=
  match slotOf s u with
  | none => s
  | some x =>
    let len := fragTotal x.e.frags
    let moved := x.moved + n
    let s := moverAsk (moverTake s x.chan x.e.idx n).2.2 x.chan x.e.idx
    if nbit x.e.uflags 1 then slotComplete s u 0 0 0
    else if moved < len then setSlot s u (some { x with moved := moved })
    else if nbit x.e.uflags 0 && decide (len % usbMps s u = 0) && decide (x.mark = 0) then
      setSlot s u (some { x with moved := moved, mark := 1 })
    else slotComplete s u 0 len 0

/-- An OUT packet reaches a held entry (R822). -/
def usbStore (s : State) (ep u : Nat) (data : List Byte) : State :=
  match slotOf s u with
  | none => usbStarve s ep u true
  | some x =>
    let s1 := unitSend s x.chan x.e.idx x.e.frags x.moved data
    let n := data.length
    let s2 := setSlot (setTog s1 (2 * ep + 1) (!(togOf s1 (2 * ep + 1)))) u (some { x with moved := x.moved + n })
    let free := fragTotal x.e.frags - (x.moved + n)
    if data.length < usbMps s u ∨ free < usbMps s u ∨ nbit x.e.uflags 0 then endSlot s2 u 0
    else s2

/-- An OUT packet of endpoint 1-3 (R822-R827). -/
def usbOut (s : State) (ep u : Nat) (toggle : Bool) (data : List Byte) (crcOk : Bool) : State :=
  if rb s .USB_EPCFG (ep - 1) 1 = false then s
  else if crcOk = false then count s .usb 0x5C
  else if usbMps s u < data.length then count s .usb 0x5D
  else if mgmt s 5 ≠ 1 then s
  else if rb s .USB_EPCFG (ep - 1) 3 then wb s .USB_EPSTAT (ep - 1) 2 true
  else if toggle ≠ togOf s (2 * ep + 1) then count s .usb 0x5E
  else usbStore s ep u data

/-- EP0's OUT packet (R818, R819). -/
def ep0Out (s : State) (toggle : Bool) (data : List Byte) (crcOk : Bool) : State :=
  if crcOk = false then count s .usb 0x5C
  else if 64 < data.length then count s .usb 0x5D
  else if s.usb.stall0 ∨ rb s .USB_EP0CTL 0 3 ∨ mgmt s 5 ≠ 1 ∨ s.usb.armOut = false then s
  else if toggle ≠ togOf s 1 then count s .usb 0x5E
  else
    let s1 := ((List.range data.length).zip data).foldl
      (fun s e => wr s .USB_EP0BUF e.1 (BitVec.ofNat 32 e.2.toNat)) (setTog s 1 (!toggle))
    ep0Flag (usbArm (wr s1 .USB_EP0LEN 0 (BitVec.ofNat 32 data.length)) s1.usb.armIn false) 5

/-- A SETUP packet (R817). -/
def usbSetup (s : State) (data : BitVec 64) : State :=
  let again := s.usb.armIn || s.usb.armOut || rb s .USB_EP0CTL 0 3
  let s1 := if again then count s .usb 0x5A else s
  let s2 := forN 8 s1 fun s k => wr s .USB_SETUP k (BitVec.ofNat 32 (data.toNat / 256 ^ k % 256))
  let s3 := usbArm (setTog (setTog (setUsb s2 { s2.usb with stall0 := false, sent := none }) 0 true) 1 true) false false
  if mgmt s3 5 = 2 then setUsb s3 { s3.usb with setupKept := true } else ep0Flag s3 3

/-- The handshake of the IN packet sent (R819, R821, R816). -/
def usbHandshake (s : State) : State :=
  match s.usb.sent with
  | none => s
  | some (ep, n) =>
    let s1 := setTog (setUsb s { s.usb with sent := none }) (2 * ep) (!(togOf s (2 * ep)))
    if ep = 0 then
      let s2 := ep0Flag (usbArm s1 false s1.usb.armOut) 4
      (match s2.usb.staged with
       | some a =>
         if n = 0 then wr (setUsb s2 { s2.usb with addr := a, staged := none }) .USB_ADDR 0 (BitVec.ofNat 32 a) else s2
       | none => s2)
    else
      match epUnit ep false with
      | some u => usbAcked s1 u n
      | none => s1

/-- USB_EP0CTL's W1S bits (R819): ARMIN and ARMOUT are ignored while SETUPF is 1. -/
def usbArmIn (s : State) : State := if rb s .USB_EP0CTL 0 3 then s else usbArm s true s.usb.armOut

/-- ARMOUT. -/
def usbArmOut (s : State) : State := if rb s .USB_EP0CTL 0 3 then s else usbArm s s.usb.armIn true

/-- STALL of EP0. -/
def usbStall0 (s : State) : State := setUsb s { s.usb with stall0 := true }

/-- A write of USB_ADDR (R816). -/
def usbAddr (s : State) (v : Byte) : State :=
  wb (setUsb s { s.usb with staged := some (v.toNat % 128) }) .USB_ADDR 0 7 true

/-- TOGRST (R826). -/
def usbTogRst (s : State) (ep : Nat) : State := setTog (setTog s (2 * ep) false) (2 * ep + 1) false

/-- USB takes an entry from its channel: BADFORM where it breaks the rules, held otherwise; of a ZLEN entry nothing is read (R821). -/
def usbTake (s : State) (u ch : Nat) (e : Entry) : State :=
  let s1 := setUsb s { s.usb with starve := mset (fun _ => false) s.usb.starve u false }
  if usbBadForm s1 u e then unitComplete s1 .usb ch e.idx 0x84 0 0
  else
    let s2 := setSlot s1 u (some ⟨ch, e, 0, 0⟩)
    if u = 4 ∨ u = 7 ∨ nbit e.uflags 1 then s2 else moverOpen s2 ch e.idx e.frags (usbMps s2 u)

/-! ## Faults of the LINK units (R807) -/

/-- NOCLK of USB: entries complete ABANDONED, the unit faults, source 100. -/
def usbNoClk (s : State) : State :=
  raise (setData (wb (usbUnits.foldl abandon (setUsb s { s.usb with sent := none })) .USB_STAT 0 7 true) 5 3) .usb 100

/-- A write of 1 to USB_STAT.NOCLK. -/
def usbClkClear (s : State) : State :=
  let s1 := wb s .USB_STAT 0 7 false
  if dstate s1 5 = 3 then usbShow (setData s1 5 0) else s1

/-! ## Meanings -/

/-- USB_DISABLE (R806). -/
def execUsbDisable (req : Nat) (s : State) : Host.Outcome State Fault Refusal := writeReg s req .USB_CTL 0 usbDisable

/-- VBUS passes its threshold (R73, R812): the level stands in every mode, and USB acts on it where it runs. -/
def vbusChange (s0 : State) (level : Bool) : State :=
  let s := { s0 with pads := mset (fun _ => none) s0.pads 97 (some level) }
  if s.dev.phase ≠ .awake then s
  else if islandRuns s .usb = false then wb s .USB_STAT 0 0 level
  else if rb s .USB_STAT 0 0 = level then s
  else
    let s1 := raise (wb (wb s .USB_STAT 0 0 level) .USB_STAT 0 5 true) .usb 101
    usbShow (if level then s1 else usbBusReset s1)

/-- VBUS_CHANGE (R812). -/
def execVbusChange (level : Bool) (s : State) : Host.Outcome State Fault Refusal := .next (vbusChange s level)

/-- USB_BUS_RESET (R813). -/
def execUsbBusReset (s : State) : Host.Outcome State Fault Refusal :=
  liveIn s .usb fun s => if usbPull s then usbHeard (usbShow (usbBusReset (usbResume s))) else s

/-- USB_SUSPEND (R814): the bus has been idle for 3 ms, on the time base. -/
def execUsbSuspend (s : State) : Host.Outcome State Fault Refusal :=
  liveIn s .usb fun s =>
    if usbPull s ∧ rb s .USB_STAT 0 1 = false ∧ timerDue s tmrIdle = true then
      let s1 := setUsb (wb (wb (stopTimer s tmrIdle) .USB_STAT 0 1 true) .USB_STAT 0 3 true) { s.usb with susAt := s.time, sent := none }
      usbShow (raise (count s1 .usb 0x59) .usb 100)
    else s

/-- USB_RESUME (R814): the bus is not idle. -/
def execUsbResume (s : State) : Host.Outcome State Fault Refusal := liveIn s .usb fun s => usbHeard (usbResume s)

/-- USB_REMOTE_WAKE (R815). -/
def execUsbRemoteWake (req : Nat) (s : State) : Host.Outcome State Fault Refusal := writeReg s req .USB_CTL 0 usbRwake

/-- USB_REMOTE_WAKE_END (R815). -/
def execUsbRemoteWakeEnd (s : State) : Host.Outcome State Fault Refusal :=
  liveIn s .usb fun s => if timerDue s 132 then stopTimer (setUsb s { s.usb with waking := false }) 132 else s

/-- USB_ADDR_WRITE (R816). -/
def execUsbAddrWrite (req : Nat) (v : Byte) (s : State) : Host.Outcome State Fault Refusal :=
  writeReg s req .USB_ADDR 0 fun s => usbAddr s v

/-- USB_SETUP (R817, R859): `data` is the 8 bytes, byte 0 lowest; the device answers its own address. -/
def execUsbSetup (addr : BitVec 7) (data : BitVec 64) (s : State) : Host.Outcome State Fault Refusal :=
  liveIn s .usb fun s => if usbHears s then usbHeard (if addr.toNat = s.usb.addr then usbSetup s data else s) else s

/-- USB_IN_TOKEN (R818, R819, R821, R824, R825). -/
def execUsbInToken (addr : BitVec 7) (ep : Fin 4) (s : State) : Host.Outcome State Fault Refusal :=
  liveIn s .usb fun s =>
    if usbHears s = false then s
    else if addr.toNat ≠ s.usb.addr then usbHeard s
    else usbHeard (match epUnit ep false with
      | some u => usbIn s ep u
      | none =>
        if s.usb.stall0 ∨ rb s .USB_EP0CTL 0 3 ∨ mgmt s 5 ≠ 1 ∨ s.usb.armIn = false then s
        else setUsb s { s.usb with sent := some (0, ep0Len s) })

/-- USB_OUT_DATA (R819, R822-R827). -/
def execUsbOutData (addr : BitVec 7) (ep : Fin 4) (toggle : Bool) (data : List Byte) (crcOk : Bool) (s : State) :
    Host.Outcome State Fault Refusal :=
  liveIn s .usb fun s =>
    if usbHears s = false then s
    else if addr.toNat ≠ s.usb.addr then usbHeard s
    else usbHeard (match epUnit ep true with
      | some u => usbOut s ep u toggle data crcOk
      | none => if ep.val = 0 then ep0Out s toggle data crcOk else s)

/-- USB_HANDSHAKE (R821). -/
def execUsbHandshake (s : State) : Host.Outcome State Fault Refusal := liveIn s .usb fun s => usbHeard (usbHandshake s)

/-- USB_HANDSHAKE_TIMEOUT (R828): the packet is sent again at the next IN; the handshake wins on the expiry edge. -/
def execUsbHandshakeTimeout (tie : Bool) (s : State) : Host.Outcome State Fault Refusal :=
  liveIn s .usb fun s =>
    if s.usb.sent.isNone then s
    else if tie then count s .usb 0x08
    else setUsb s { s.usb with sent := none }

/-- USB_EP0_ARMIN (R819). -/
def execUsbEp0Armin (req : Nat) (s : State) : Host.Outcome State Fault Refusal := writeReg s req .USB_EP0CTL 0 usbArmIn

/-- USB_EP0_ARMOUT (R819). -/
def execUsbEp0Armout (req : Nat) (s : State) : Host.Outcome State Fault Refusal := writeReg s req .USB_EP0CTL 0 usbArmOut

/-- USB_EP0_STALL (R819). -/
def execUsbEp0Stall (req : Nat) (s : State) : Host.Outcome State Fault Refusal := writeReg s req .USB_EP0CTL 0 usbStall0

/-- USB_TOGGLE_RESET (R826): `ep` 0-2 names EP1-EP3. -/
def execUsbToggleReset (req : Nat) (ep : Fin 3) (s : State) : Host.Outcome State Fault Refusal :=
  writeReg s req .USB_EPCFG ep fun s => usbTogRst s (ep + 1)

end Sys2Proof.Machine
end

