-- ==== Sys2Proof/Machine/Spi.lean ====
section
/-!
DEFINITION. The serial flash port (chapter 19): the queue, READY, faults, the read window with its cache, the image-load path, and the meanings
of their commands. The bytes a flash drives come with the command that ends the transfer; a select's own setup, hold and gap cycles are
timing.
-/
namespace Sys2Proof.Machine

/-- The state with the SPI port replaced. -/
def setSpi (s : State) (p : Spi) : State := { s with spi := p }

/-- The timers of a READY wait (R986) and of a CHAIN wait (R982). -/
def tmrReady : Nat := 136
def tmrChain : Nat := 137

/-- SPI_STRETCH_MAX in ticks. -/
def strMax (s : State) : Nat := usTicks (atLeast1 (rn s .SPI_STRMAX 0))

/-- RDYEN of a select (R985). -/
def rdyEn (s : State) (cs : Nat) : Bool := rb s .SPI_CSCFG cs 10

/-- WINCFG.CS. -/
def winCs (s : State) : Nat := rf s .SPI_WINCFG 0 2 1

/-- A wait for READY begins before the next word, where the select asks for it (R985, R987). -/
def spiWait (s : State) (cs : Nat) : State := if rdyEn s cs then startTimer s tmrReady (strMax s) else s

/-- The port has an entry, or a transaction waits for its next (R984). -/
def spiBusy (s : State) : Bool := (slotOf s 15).isSome || s.spi.tr.isSome

/-- Entries posted to the queue and not yet fetched. -/
def spiPosted (s : State) : Bool := match channelOf s 15 with | some c => !(unfetched s c).isEmpty | none => false

/-- QBUSY and FILL follow the port; source 90 rises each time the queue becomes idle (R984). -/
def spiShow (s : State) : State :=
  let busy := spiBusy s
  let was := rb s .SPI_STAT 0 0
  let s1 := wb (wb s .SPI_STAT 0 0 busy) .SPI_STAT 0 1 s.spi.fill.isSome
  if was && !busy && !(spiPosted s1) then raise s1 .serial 90 else s1

/-- Settings written for a select in use take effect once no transaction, fill or load uses it (R1012). -/
def spiApply (s : State) : State :=
  if s.spi.fill.isSome ∨ s.spi.tr.isSome then s
  else
    let s1 := s.spi.pendCfg.foldl (fun s e => match e.2 with
      | some v => if e.1 < 4 then wr s .SPI_CSCFG e.1 v else wr s .SPI_WINCFG 0 ((v &&& ~~~9) ||| (rd s .SPI_WINCFG 0 &&& 9))
      | none => s) s
    setSpi s1 { s1.spi with pendCfg := [] }

/-! ## The queue -/

/-- Bytes of a word of an entry (R976, R978). -/
def wordSize (e : Entry) : Nat := e.uarg / 4 % 4 + 1

/-- An entry's select, SEL, and its flags. -/
def entryCs (e : Entry) : Nat := e.uflags / 16 % 4
def entrySel (e : Entry) : Nat := e.uarg % 4
def entryCont (e : Entry) : Bool := nbit e.uflags 3
def entryDummy (e : Entry) : Bool := nbit e.uflags 6
def entryRecv (e : Entry) : Bool := nbit e.uflags 2 && !entryDummy e

/-- The bytes, or the SCK cycles of a DUMMY entry, an entry moves (R978). -/
def entryLen (e : Entry) : Nat := if entryDummy e && e.ind then e.frags.length else fragTotal e.frags

/-- An entry breaks R979, given the transaction it continues. -/
def spiBadForm (e : Entry) (tr : Option (Nat × Nat)) : Bool :=
  (e.uflags % 4 == 3) || nbit e.uflags 7 || (entrySel e == 3) || decide (16 ≤ e.uarg) ||
  decide (entryLen e % wordSize e ≠ 0) ||
  (!(entryDummy e) && !(entryRecv e) && e.frags.any fun f => decide (0x800000 ≤ f.1 + f.2 - 1)) ||
  (match tr with | some t => !(t == (entryCs e, entrySel e)) | none => false) ||
  (entrySel e == 1 && entryCont e)

/-- A waiting fill whose turn it is (R996, R997). -/
def fillReady (s : State) : Bool :=
  !s.spi.misses.isEmpty && s.spi.fill.isNone && !(rb s .SPI_STAT 0 2) && s.spi.tr.isNone && !(rb s .SPI_WINCFG 0 3) &&
  hoPhase s 4 == 0 && !(rb s .SPI_CACHE 0 1) && !s.dev.stbyReq &&
  !(decide (4 ≤ s.spi.inRow) && (slotOf s 15).isSome)

/-- The port takes the held entry (R978, R979, R989, R997), but in a hand-over (R463): BROKEN in a broken transaction, BADFORM, or it begins on its select. -/
def spiStart (s : State) : State :=
  match slotOf s 15 with
  | none => s
  | some x =>
    if s.spi.begun ∨ rb s .SPI_STAT 0 2 ∨ s.spi.fill.isSome ∨ fillReady s ∨ hoPhase s 4 ≠ 0 then s
    else if rb s .SPI_STAT 0 3 then
      slotComplete (count (wb s .SPI_STAT 0 3 (entryCont x.e)) .serial 0x92) 15 0x81 0 0
    else if spiBadForm x.e s.spi.tr then slotComplete s 15 0x84 0 0
    else
      let s1 := setSpi (stopTimer s tmrChain) { s.spi with
        tr := some (entryCs x.e, entrySel x.e), begun := true, inRow := 0, sent := if s.spi.tr.isSome then s.spi.sent else [] }
      spiWait s1 (entryCs x.e)

/-- The entry in progress is given up: its select is released. -/
def spiDrop (s : State) (status : Nat) : State :=
  let s1 := endSlot (stopTimer s tmrReady) 15 status
  setSpi s1 { s1.spi with begun := false, tr := none }

/-- The next `n` bytes of a sending entry have reached the port (R586); a receiving or DUMMY entry needs none. -/
def spiReach (s : State) (x : Slot) (n : Nat) : Bool :=
  entryDummy x.e || entryRecv x.e || decide (n = 0) || moverHas s x.chan x.e.idx n

/-- Bytes between memory and the lines, in words of `w` bytes: a word's highest byte is the first on the lines and the last in memory (R976). -/
def wordOrder (w : Nat) : Nat → List Byte → List Byte
  | 0, _ => []
  | n + 1, bs => (bs.take w).reverse ++ wordOrder w n (bs.drop w)

/-- Moves `n` more bytes of the entry in progress, the received ones from `data`, in the order of the lines (R976, R980); a refused access
ends it. -/
def spiMove (s : State) (x : Slot) (n : Nat) (data : List Byte) : State :=
  if entryDummy x.e then setSlot s 15 (some { x with moved := x.moved + n })
  else if entryRecv x.e then
    let got := wordOrder (wordSize x.e) n ((data ++ List.replicate n 0).take n)
    setSlot (unitSend s x.chan x.e.idx x.e.frags x.moved got) 15 (some { x with moved := x.moved + n })
  else
    let (bs, bad, s1) := moverTake s x.chan x.e.idx n
    let s2 := setSlot s1 15 (some { x with moved := x.moved + bs.length })
    if bad then spiApply (spiDrop s2 7) else moverAsk (setSpi s2 { s2.spi with sent := (s2.spi.sent ++ wordOrder (wordSize x.e) bs.length bs).take 8 }) x.chan x.e.idx

/-- The entry in progress has passed its last SCK edge (R980-R982). -/
def spiFinish (s : State) : State :=
  match slotOf s 15 with
  | none => s
  | some x =>
    if s.spi.begun = false ∨ x.moved < entryLen x.e then s
    else
      let s1 := stopTimer (slotComplete s 15 0 x.moved 0) tmrReady
      if entryCont x.e then startTimer (setSpi s1 { s1.spi with begun := false }) tmrChain (strMax s1)
      else setSpi s1 { s1.spi with begun := false, tr := none }

/-- SPI_ENTRY_DONE: what the entry has still to move is moved where no word waits for READY, and it ends; not before the bytes it sends have
reached the port. -/
def spiEntryDone (s : State) (data : List Byte) : State :=
  match slotOf s 15 with
  | none => s
  | some x =>
    if s.spi.begun = false ∨ spiReach s x (entryLen x.e - x.moved) = false then s
    else spiFinish (if rdyEn s (entryCs x.e) then s else spiMove s x (entryLen x.e - x.moved) data)

/-- READY read high (R985): the next word of the entry in progress, or of the fill or load, starts. -/
def spiReady (s : State) (data : List Byte) : State :=
  if timerOn s tmrReady = false then s
  else if rb s .SPI_STAT 0 2 ∨ s.spi.fill.isSome then startTimer s tmrReady (strMax s)
  else
    match slotOf s 15 with
    | none => s
    | some x =>
      let n := if entryDummy x.e then entryLen x.e else min (wordSize x.e) (entryLen x.e - x.moved)
      if spiReach s x n = false then s else
      let s1 := spiMove s x n data
      match slotOf s1 15 with
      | some y => if y.moved < entryLen y.e then startTimer s1 tmrReady (strMax s1) else stopTimer s1 tmrReady
      | none => stopTimer s1 tmrReady

/-- A queue fault (R988, R989): bit, event; the select is released, source 91 rises. -/
def spiFault (s : State) (bit code : Nat) (more : Bool) : State :=
  let s1 := setSpi s { s.spi with tr := none, begun := false, stopped := true }
  raise (count (wb (wb s1 .SPI_FAULT 0 bit true) .SPI_STAT 0 3 more) .serial code) .serial 91

/-! ## The read window -/

/-- The answer of a window load goes back through FABRIC (R991). -/
def winReply (s : State) (l : WinLoad) (bs : List Byte) : State := send s (toFabric .serial) (.spiReply l.req l.dst bs)

/-- A cache line becomes the most recently used. -/
def cacheTouch (s : State) (c : CacheLine) : State := { s with cache := c :: s.cache.filter fun d => !(d.line == c.line) }

/-- A line enters the cache in place of the least recently used way of its set (R992). -/
def cacheFill (s : State) (c : CacheLine) : State :=
  let others := s.cache.filter fun d => !(d.line == c.line)
  let set := others.filter fun d => d.line % 128 == c.line % 128
  let keep := set.take 3
  { s with cache := c :: others.filter fun d => !(d.line % 128 == c.line % 128) || keep.contains d }

/-- The bytes of a load from a line's bytes. -/
def lineBytes (l : WinLoad) (bs : List Byte) : List Byte := (List.range l.n).map fun i => bs.getD ((l.byte + i) % 32) 0

/-- A captured load is looked up (R991, R994, R999, R1000): 0xFF with the window off, the cache, or a place among the misses. -/
def spiLookup (s : State) : State :=
  match s.spi.inLoads with
  | [] => s
  | l :: rest =>
    let s1 := setSpi s { s.spi with inLoads := rest }
    if rb s1 .SPI_WINCFG 0 0 = false then
      winReply (count s1 .serial 0x94) l (List.replicate l.n 0xFF)
    else
      match cacheLine s1 (l.byte / 32) with
      | some c => winReply (cacheTouch (wr s1 .SPI_HITS 0 (rd s1 .SPI_HITS 0 + 1)) c) l (lineBytes l c.bytes)
      | none =>
        let p := s1.spi
        let known := p.fill == some (l.byte / 32) || p.misses.any fun m => m.1 == l.byte / 32
        setSpi s1 { p with waiting := p.waiting ++ [l], misses := if known then p.misses else p.misses ++ [(l.byte / 32, false)] }

/-- A waiting fill starts (R993, R996, R997): counted once per fill. -/
def spiFillStart (s : State) : State :=
  match s.spi.misses with
  | [] => s
  | m :: rest =>
    if fillReady s = false ∨ s.spi.begun = true then s
    else
      let row := if (slotOf s 15).isSome then s.spi.inRow + 1 else 0
      let s1 := setSpi s { s.spi with misses := rest, fill := some m.1, keep := true, inRow := row }
      let s2 := if m.2 then s1 else count (wr s1 .SPI_MISSES 0 (rd s1 .SPI_MISSES 0 + 1)) .serial 0x95
      spiWait s2 (winCs s2)

/-- The loads that wait on a line are answered. -/
def answerLine (s : State) (line : Nat) (bs : List Byte) : State :=
  let mine := s.spi.waiting.filter fun l => l.byte / 32 == line
  mine.foldl (fun s l => winReply s l (lineBytes l bs))
    (setSpi s { s.spi with waiting := s.spi.waiting.filter fun l => !(l.byte / 32 == line) })

/-- A fill has ended (R993, R994, R998, R1014): the line is cached where it is kept, and its loads are answered. While STANDBY entry is
in progress no fill ends (R1009). -/
def spiFillDone (s : State) (data : List Byte) : State :=
  match s.spi.fill with
  | none => s
  | some line =>
    let bs := (data ++ List.replicate 32 0).take 32
    let s1 := stopTimer (setSpi s { s.spi with fill := none }) tmrReady
    answerLine (if s.spi.keep then cacheFill s1 ⟨line, bs⟩ else s1) line bs

/-- INV (R998). -/
def spiInvalidate (s : State) : State := wb (setSpi { s with cache := [] } { s.spi with keep := false }) .SPI_CACHE 0 1 true

/-- STANDBY entry abandons a fill, which starts again if the entry aborts (R1009). -/
def spiStandby (s : State) : State :=
  match s.spi.fill with
  | some l => spiShow (setSpi (stopTimer s tmrReady) { s.spi with fill := none, misses := (l, true) :: s.spi.misses })
  | none => s

/-! ## The image-load path -/

/-- Writes 32-bit words to IRAM from word `a` upwards. -/
def iramWrite (s : State) (a : Nat) : List Byte → State
  | b0 :: b1 :: b2 :: b3 :: rest =>
    iramWrite { s with iram := mset (fun _ => 0) s.iram (a % 65536) (BitVec.ofNat 32 (leNat [b0, b1, b2, b3])) } (a + 1) rest
  | _ => s

/-- GO of the load path (R1002, R1011). -/
def spiLoadGo (s : State) : State :=
  let n := rf s .SPI_LDLEN 0 18 0
  if rf s .PMU_MODE 0 1 0 ≠ 0 then count s .serial 0x96
  else if rb s .SPI_LDCTL 0 1 then s
  else if n % 4 ≠ 0 ∨ n < 4 ∨ n > 262144 ∨ rn s .SPI_LDIRW 0 + n / 4 > 65536 then
    wb (wb s .SPI_LDCTL 0 3 true) .SPI_LDCTL 0 2 true
  else spiWait (wb (wb (wr s .SPI_LDCOUNT 0 0) .SPI_LDCTL 0 1 true) .SPI_STAT 0 2 true) (winCs s)

/-- A load ends (R1003, R1006): whole words of `data` are in IRAM, and hashed with HASH = 1, after which the SHA-256 engine is done (source 60
of R530; the spec does not say when it is, DESIGN CHOICE, log 131). -/
def spiLoadEnd (s : State) (data : List Byte) (err : Bool) : State :=
  if rb s .SPI_LDCTL 0 1 = false then s
  else
    let bs := data.take (min (data.length / 4 * 4) (rf s .SPI_LDLEN 0 18 0))
    let s1 := iramWrite s (rn s .SPI_LDIRW 0) bs
    let s2 := if rb s1 .SPI_LDCTL 0 4 then { s1 with dev := { s1.dev with sha := s1.dev.sha ++ bs } } else s1
    let s2 := if rb s1 .SPI_LDCTL 0 4 then raise s2 .fabric 60 else s2
    let s3 := wb (wb (wr s2 .SPI_LDCOUNT 0 (BitVec.ofNat 32 bs.length)) .SPI_LDCTL 0 1 false) .SPI_STAT 0 2 false
    stopTimer (wb (if err then wb s3 .SPI_LDCTL 0 3 true else s3) .SPI_LDCTL 0 2 true) tmrReady

/-! ## Timeouts, registers, hand-over -/

/-- A READY wait has lasted SPI_STRETCH_MAX (R986, R988, R1001, R1006): of the load, the fill or the queue, whichever waits. -/
def spiStretch (s : State) (data : List Byte) : State :=
  if rb s .SPI_STAT 0 2 then spiLoadEnd s data true
  else
    match s.spi.fill with
    | some line =>
      let s1 := setSpi s { s.spi with fill := none }
      answerLine (raise (count (wb s1 .SPI_FAULT 0 2 true) .serial 0x93) .serial 91) line (List.replicate 32 0xFF)
    | none =>
      match slotOf s 15 with
      | some x => slotComplete (spiFault s 0 0x90 (entryCont x.e)) 15 0x80 x.moved 0
      | none => s

/-- SPI_CSkCFG or SPI_WINCFG written (R1012): at once, or once what uses the select has ended. HOLD and EN act at once. -/
def spiCfgWrite (s : State) (k : Nat) (v : Quad) : State :=
  let fillUses := s.spi.fill.isSome && (k == 4 || k == winCs s)
  let queueUses := match s.spi.tr with | some t => t.1 == k | none => false
  let s1 := if k = 4 then wr s .SPI_WINCFG 0 ((v &&& 9) ||| (rd s .SPI_WINCFG 0 &&& ~~~9)) else s
  if fillUses || queueUses then setSpi s1 { s1.spi with pendCfg := mset (fun _ => none) s1.spi.pendCfg k (some v) }
  else if k < 4 then wr s1 .SPI_CSCFG k v else wr s1 .SPI_WINCFG 0 v

/-- SPI_FAULT written: the queue fetches again once every fault bit is 0 (R988). -/
def spiFaultWrite (s : State) (v : Quad) : State :=
  let s1 := wr s .SPI_FAULT 0 (rd s .SPI_FAULT 0 &&& ~~~v)
  if rf s1 .SPI_FAULT 0 2 0 = 0 then setSpi s1 { s1.spi with stopped := false } else s1

/-- SPI_LDCTL written: GO, the flags, HASH. -/
def spiLdWrite (s : State) (v : Quad) : State :=
  let s1 := wb (wr s .SPI_LDCTL 0 (rd s .SPI_LDCTL 0 &&& ~~~(v &&& 0xC))) .SPI_LDCTL 0 4 (v.getLsbD 4)
  if v.getLsbD 0 then spiLoadGo s1 else s1

/-- The port takes an entry from its channel: it is held until its phase begins, and the bytes a sending one moves are asked for. -/
def spiTake (s : State) (ch : Nat) (e : Entry) : State :=
  let s1 := setSlot s 15 (some ⟨ch, e, 0, 0⟩)
  spiShow (if entryDummy e || entryRecv e || spiBadForm e none then s1 else moverOpen s1 ch e.idx e.frags (fragTotal e.frags))

/-- RESET of a hand-over (R1007, R1008): a fill that TG_HOLIMIT cuts off waits again (R463); the entry in progress returns with HANDOVER, the rest of its transaction will be BROKEN, the
cache is empty; waiting misses stay. -/
def spiHandover (s : State) : State :=
  let more := (s.spi.tr.isSome && !s.spi.begun) || (s.spi.begun && (match slotOf s 15 with | some x => entryCont x.e | none => false))
  let s1 := endSlot (stopTimer (stopTimer s tmrReady) tmrChain) 15 3
  let ld := rd s1 .SPI_LDCTL 0
  let cut := match s1.spi.fill with | some l => (l, true) :: s1.spi.misses | none => s1.spi.misses
  let s2 := resetRange (setSpi { s1 with cache := [] }
    { s1.spi with tr := none, begun := false, inRow := 0, pendCfg := [], sent := [], fill := none, misses := cut, stopped := false }) 0x3800 0x3880
  wb (wb (wr s2 .SPI_LDCTL 0 ld) .SPI_STAT 0 2 (ld.getLsbD 1)) .SPI_STAT 0 3 more

/-! ## Meanings -/

/-- SPI_ENTRY_START (R978). -/
def execSpiEntryStart (s : State) : Host.Outcome State Fault Refusal := liveIn s .serial fun s => spiShow (spiStart s)

/-- SPI_READY_HIGH (R985); `data` is what a receiving word takes in. -/
def execSpiReadyHigh (data : List Byte) (s : State) : Host.Outcome State Fault Refusal :=
  liveIn s .serial fun s => spiShow (spiReady s data)

/-- SPI_STRETCH_TIMEOUT (R986, R253); `data` is what a load had taken in. With READY on the expiry edge the word starts and the transfer
goes on: `data` is then what that word takes in. A port whose SPI_READY no pin carries sees it ready (R62). -/
def execSpiStretchTimeout (tie : Bool) (data : List Byte) (s : State) : Host.Outcome State Fault Refusal :=
  liveIn s .serial fun s =>
    if tie && (timerDue s tmrReady || justArmed s tmrReady) then spiShow (spiReady (count s .serial 0x08) data)
    else if connected s .spiReady then expire s .serial tmrReady false fun s => spiShow (spiApply (spiStretch s data))
    else s

/-- SPI_CHAIN_TIMEOUT (R982, R1013). -/
def execSpiChainTimeout (tie : Bool) (s : State) : Host.Outcome State Fault Refusal :=
  liveIn s .serial fun s => expire s .serial tmrChain tie fun s => spiShow (spiApply (spiFault s 1 0x91 true))

/-- SPI_FAULT_CLEAR (R988). -/
def execSpiFaultClear (req : Nat) (v : Byte) (s : State) : Host.Outcome State Fault Refusal :=
  writeReg s req .SPI_FAULT 0 fun s => spiFaultWrite s (BitVec.ofNat 32 v.toNat)

/-- SPI_WINDOW_LOAD (R991). -/
def execSpiWindowLoad (s : State) : Host.Outcome State Fault Refusal := liveIn s .serial spiLookup

/-- SPI_FILL_START (R996). -/
def execSpiFillStart (s : State) : Host.Outcome State Fault Refusal := liveIn s .serial fun s => spiShow (spiFillStart s)

/-- SPI_FILL_DONE (R993): the 32 bytes the flash drove. -/
def execSpiFillDone (data : List Byte) (s : State) : Host.Outcome State Fault Refusal :=
  liveIn s .serial fun s => spiShow (spiApply (spiFillDone s data))

/-- SPI_CACHE_INVALIDATE (R998). -/
def execSpiCacheInvalidate (req : Nat) (s : State) : Host.Outcome State Fault Refusal := writeReg s req .SPI_CACHE 0 spiInvalidate

/-- SPI_INVALIDATE_DONE (R998). -/
def execSpiInvalidateDone (s : State) : Host.Outcome State Fault Refusal :=
  liveIn s .serial fun s => wb s .SPI_CACHE 0 1 false

/-- SPI_LOAD_GO (R1002). -/
def execSpiLoadGo (req : Nat) (s : State) : Host.Outcome State Fault Refusal := writeReg s req .SPI_LDCTL 0 spiLoadGo

end Sys2Proof.Machine
end

