-- ==== Sys2Proof/Machine/Ethernet.lean ====
section
/-!
DEFINITION. The Ethernet MAC (chapter 16): receive filter and checks, checksums, transmit, pause, MDIO, and the meanings of its
commands and of the restart of the LINK clocks.
-/
namespace Sys2Proof.Machine

/-- The state with the MAC replaced. -/
def setEth (s : State) (e : Eth) : State := { s with eth := e }

/-- DATA_STATE follows EN, RXEN and TXEN (R805). -/
def ethShow (s : State) : State := follow s 6 (rb s .ETH_CTL 0 0 && (rb s .ETH_CTL 0 1 || rb s .ETH_CTL 0 2))

/-! ## Frames -/

/-- A 16-bit field of a frame in network order. -/
def be16 (bs : List Byte) (o : Nat) : Nat := (bs.getD o 0).toNat * 256 + (bs.getD (o + 1) 0).toNat

/-- The frame's last four bytes are its FCS. -/
def fcsOk (bs : List Byte) : Bool := decide (4 ≤ bs.length) && leBytes 4 (crc32Of (bs.take (bs.length - 4))) == bs.drop (bs.length - 4)

/-- The frame carries one 0x8100 tag. -/
def tagged (bs : List Byte) : Bool := be16 bs 12 == 0x8100

/-- Where the type field stands, after one VLAN tag or directly. -/
def typeAt (bs : List Byte) : Nat := if tagged bs then 16 else 12

/-- The ones' complement sum of 16-bit words of a byte string, an odd last byte padded with zero. -/
def sum16 : List Byte → Nat
  | [] => 0
  | [a] => a.toNat * 256
  | a :: b :: bs => a.toNat * 256 + b.toNat + sum16 bs

/-- A sum folded to 16 bits. -/
def fold16 (n : Nat) : Nat := if n = 0 then 0 else (n - 1) % 65535 + 1

/-- The Internet checksum of a byte string: the complement of its folded sum. -/
def inetSum (n : Nat) : Nat := 65535 - fold16 n

/-- What the MAC finds in a frame (R841, R842): where the IPv4 header starts, its length, its end, protocol, fragmented. -/
structure IpInfo where
  at_ : Nat
  hlen : Nat
  total : Nat
  proto : Nat
  frag : Bool
  deriving DecidableEq, Repr

/-- The IPv4 header of an Ethernet II frame of type 0x0800. -/
def ipInfo (bs : List Byte) : Option IpInfo :=
  let t := typeAt bs
  let o := t + 2
  if be16 bs t ≠ 0x0800 then none
  else
    let h := (bs.getD o 0).toNat % 16 * 4
    some ⟨o, h, be16 bs (o + 2), (bs.getD (o + 9) 0).toNat, decide (be16 bs (o + 6) % 16384 ≠ 0)⟩

/-- The IPv4 header checksum is right. -/
def ipOk (bs : List Byte) (i : IpInfo) : Bool :=
  decide (20 ≤ i.hlen) && decide (i.at_ + i.hlen ≤ bs.length) && decide (fold16 (sum16 ((bs.drop i.at_).take i.hlen)) = 65535)

/-- The bytes of the segment that the IPv4 header carries. -/
def l4Bytes (bs : List Byte) (i : IpInfo) : List Byte := (bs.drop (i.at_ + i.hlen)).take (i.total - i.hlen)

/-- The sum over the pseudo-header and the segment. -/
def l4Sum (bs : List Byte) (i : IpInfo) : Nat :=
  sum16 ((bs.drop (i.at_ + 12)).take 8) + i.proto + (i.total - i.hlen) + sum16 (l4Bytes bs i)

/-- The TCP or UDP checksum is right; a UDP checksum of 0 passes. -/
def l4Ok (bs : List Byte) (i : IpInfo) : Bool :=
  if i.proto = 17 ∧ be16 (l4Bytes bs i) 6 = 0 then true else decide (fold16 (l4Sum bs i) = 65535)

/-- The TCP or UDP checksum of the frame is checked. -/
def l4Checked (i : IpInfo) : Bool := !i.frag && (i.proto == 6 || i.proto == 17)

/-! ## Receive (R835-R842) -/

/-- Bytes of the FIFO that a frame takes (R835). -/
def fifoBytes (n : Nat) : Nat := (n + 7) / 8 * 8 + 8

/-- Bytes in use of the receive FIFO. -/
def rxFill (s : State) : Nat := (s.eth.fifo.map fun f => fifoBytes f.bytes.length).sum

/-- ETH_RXFILL follows the FIFO. -/
def fillShow (s : State) : State := wr s .ETH_RXFILL 0 (BitVec.ofNat 32 (rxFill s))

/-- Exact-match address `k` as bytes on the wire. -/
def macAddr (s : State) (k : Nat) : List Byte := leBytes 4 (rn s .ETH_MACAL k) ++ leBytes 2 (rn s .ETH_MACAH k)

/-- The hash bit of a destination (R837). -/
def hashBit (s : State) (dst : List Byte) : Bool :=
  let i := crc32Of dst / 2 ^ 26
  if i < 32 then rb s .ETH_HASHL 0 i else rb s .ETH_HASHH 0 (i - 32)

/-- The destination is a group address. -/
def isGroup (bs : List Byte) : Bool := (bs.getD 0 0).getLsbD 0

/-- The destination is the broadcast address. -/
def isBroadcast (bs : List Byte) : Bool := bs.take 6 == List.replicate 6 0xFF

/-- Accepted by the hash filter alone of R837. -/
def hashAccepts (s : State) (bs : List Byte) : Bool :=
  hashBit s (bs.take 6) && (if isGroup bs then rb s .ETH_FILT 0 2 else rb s .ETH_FILT 0 3)

/-- Accepted by an exact match. -/
def exactAccepts (s : State) (bs : List Byte) : Bool :=
  (List.range 4).any fun k => rb s .ETH_FILT 0 (4 + k) && macAddr s k == bs.take 6

/-- R837. -/
def accepts (s : State) (bs : List Byte) : Bool :=
  rb s .ETH_FILT 0 0 || (isBroadcast bs && rb s .ETH_FILT 0 1) || exactAccepts s bs || hashAccepts s bs

/-- A drop of R836 with its event. -/
def rxDrop (s : State) (code : Nat) : State :=
  raise (wb (if code = 0 then s else count s .eth code) .ETH_STAT 0 1 true) .eth 105

/-- CFLAGS of a frame (R842). -/
def rxCflags (s : State) (bs : List Byte) : Nat :=
  let ip := if rb s .ETH_MACCFG 0 7 then ipInfo bs else none
  let ipPart := match ip with
    | none => 0
    | some i => 1 + (if l4Checked i then (if i.proto = 6 then 2 else 4) else 0) + 16 * b01 i.frag
  ipPart + 8 * b01 (tagged bs) + 32 * b01 (isGroup bs) + 64 * b01 (isBroadcast bs) +
    128 * b01 (hashAccepts s bs && !(exactAccepts s bs) && !(isBroadcast bs && rb s .ETH_FILT 0 1))

/-- The status a frame's checksums give (R841): 0, IPHDR or L4CSUM. -/
def csumStatus (s : State) (bs : List Byte) : Nat :=
  if rb s .ETH_MACCFG 0 7 = false then 0
  else
    match ipInfo bs with
    | none => 0
    | some i => if ipOk bs i = false then 0x80 else if l4Checked i && !(l4Ok bs i) then 0x81 else 0

/-- A pause frame received (R846): its quanta is loaded, PAUSED shows it. -/
def pauseTaken (s : State) (quanta : Nat) : State :=
  wb (count (setEth s { s.eth with pause := quanta }) .eth 0x6A) .ETH_STAT 0 5 (decide (quanta ≠ 0))

/-- A frame that passed the filter is stored, or dropped where the FIFO cannot hold it (R836, R861). -/
def rxStore (s : State) (bs : List Byte) (status cflags : Nat) : State :=
  if 4096 < rxFill s + fifoBytes bs.length then raise (wb (count s .eth 0x64) .ETH_STAT 0 0 true) .eth 102
  else fillShow (setEth s { s.eth with fifo := s.eth.fifo ++ [⟨bs, status, cflags⟩] })

/-- A received frame, with its FCS (R836-R842, R846). The first case of R836's table that holds is the one counted. -/
def frameIn (s : State) (bs : List Byte) (rxer : Bool) : State :=
  let n := bs.length
  if rb s .ETH_CTL 0 0 = false ∨ rb s .ETH_CTL 0 1 = false ∨ unitRuns s 6 = false then s
  else if fcsOk bs = false then rxDrop s 0x60
  else if n < 64 then rxDrop s 0x61
  else if (if tagged bs then 1522 else 1518) < n then rxDrop s 0x62
  else if rxer then rxDrop s 0x63
  else if accepts s bs = false then rxDrop s 0
  else
    let mac := rb s .ETH_MACCFG 0 2 && be16 bs 12 == 0x8808 && be16 bs 14 == 1
    let s1 := if mac && rb s .ETH_MACCFG 0 1 then pauseTaken s (be16 bs 16) else s
    if mac && !(rb s1 .ETH_MACCFG 0 4) then s1
    else
      let body := bs.take (n - 4)
      let st := csumStatus s1 body
      let s2 := if st = 0 then s1 else count (wb s1 .ETH_STAT 0 7 true) .eth 0x65
      if st ≠ 0 ∧ rb s2 .ETH_MACCFG 0 6 then rxDrop s2 0 else rxStore s2 bs st (rxCflags s2 body)

/-- The frame at the head of the FIFO is written to the held entry (R839, R840). -/
def rxDeliver (s : State) : State :=
  match s.eth.fifo, slotOf s 2 with
  | f :: rest, some x =>
    if unitRuns s 6 = false then s
    else
      let body := f.bytes.take (f.bytes.length - 4)
      let len := fragTotal x.e.frags
      let s1 := unitSend s x.chan x.e.idx x.e.frags 0 (body.take len)
      let n := body.length
      let s2 := fillShow (setEth s1 { s1.eth with fifo := rest })
      if len < body.length then slotComplete s2 2 1 len f.cflags
      else slotComplete s2 2 f.status n f.cflags
  | _, _ => s

/-! ## Transmit (R843-R845) -/

/-- A 16-bit field written in network order. -/
def putBe16 (bs : List Byte) (o v : Nat) : List Byte :=
  bs.take o ++ [BitVec.ofNat 8 (v / 256), BitVec.ofNat 8 v] ++ bs.drop (o + 2)

/-- The IPv4 header checksum is inserted; `none` where it cannot be. -/
def putIpSum (bs : List Byte) : Option (List Byte) :=
  match ipInfo bs with
  | none => none
  | some i =>
    if i.hlen < 20 ∨ bs.length < i.at_ + i.hlen then none
    else
      let z := putBe16 bs (i.at_ + 10) 0
      some (putBe16 z (i.at_ + 10) (inetSum (sum16 ((z.drop i.at_).take i.hlen))))

/-- The TCP or UDP checksum is inserted; `none` where it cannot be. -/
def putL4Sum (bs : List Byte) : Option (List Byte) :=
  match ipInfo bs with
  | none => none
  | some i =>
    let o := i.at_ + i.hlen + (if i.proto = 6 then 16 else 6)
    if l4Checked i = false ∨ i.hlen < 20 ∨ bs.length < i.at_ + i.total ∨ i.at_ + i.total < o + 2 then none
    else
      let z := putBe16 bs o 0
      let c := inetSum (l4Sum z i)
      some (putBe16 z o (if i.proto = 17 ∧ c = 0 then 65535 else c))

/-- The frame as it goes on the wire: insertions, padding to 60 bytes, FCS; and how many insertions could not be made (R844). -/
def wireFrame (uflags : Nat) (bs : List Byte) : List Byte × Nat :=
  let a := if nbit uflags 0 then putIpSum bs else some bs
  let b := a.getD bs
  let c := if nbit uflags 1 then putL4Sum b else some b
  let d := c.getD b
  let p := d ++ List.replicate (60 - d.length) 0
  (p ++ leBytes 4 (crc32Of p), b01 (a.isNone || c.isNone))

/-- The MAC takes an entry: receive entries must be plain, transmit entries carry one frame of a permitted length, whose bytes it asks for. -/
def ethTake (s : State) (u ch : Nat) (e : Entry) : State :=
  if u = 2 then
    (if e.ind ∨ e.uflags ≠ 0 then unitComplete s .eth ch e.idx 0x84 0 0 else setSlot s 2 (some ⟨ch, e, 0, 0⟩))
  else
    let n := fragTotal e.frags
    if n < 14 ∨ 1518 < n ∨ 4 ≤ e.uflags then unitComplete s .eth ch e.idx 0x84 0 0
    else
      let s1 := setEth s { s.eth with tx := [], sending := false, attempts := 0, backoff := false }
      moverOpen (setSlot s1 3 (some ⟨ch, e, 0, 0⟩)) ch e.idx e.frags n

/-- The frame's bytes have reached the MAC: they are loaded with what is inserted into them (R843, R844). -/
def ethLoaded (s : State) : State :=
  match slotOf s 3 with
  | none => s
  | some x =>
    let n := fragTotal x.e.frags
    if !s.eth.tx.isEmpty || !(moverHas s x.chan x.e.idx n) then s
    else
      let (bs, bad, s1) := moverTake s x.chan x.e.idx n
      if bad then slotComplete s1 3 7 bs.length 0
      else if 1514 < n ∧ tagged bs = false then slotComplete s1 3 0x84 0 0
      else
        let w := wireFrame x.e.uflags bs
        let s2 := if w.2 = 0 then s1 else count s1 .eth 0x66
        setEth s2 { s2.eth with tx := w.1 }

/-- A held frame starts where TXEN is 1, nothing is being sent and no pause holds it back (R843, R846, R865). -/
def txStart (s : State) : State :=
  if rb s .ETH_CTL 0 2 ∧ unitRuns s 6 ∧ (slotOf s 3).isSome ∧ s.eth.tx ≠ [] ∧ s.eth.sending = false ∧ s.eth.backoff = false ∧ s.eth.pause = 0 then
    setEth s { s.eth with sending := true }
  else s

/-- The frame being sent has been dealt with; a MAC that drains becomes IDLE. -/
def txOver (s : State) : State :=
  let s1 := setEth s { s.eth with sending := false, attempts := 0, backoff := false, tx := [] }
  if mgmt s1 6 = 0 ∧ dstate s1 6 = 2 then setData s1 6 0 else s1

/-- The frame's last bit has been sent (R845). -/
def txDone (s : State) : State :=
  if s.eth.sending = false then s
  else
    match slotOf s 3 with
    | some x => txOver (slotComplete s 3 0 (fragTotal x.e.frags) 0)
    | none => txOver s

/-- A collision in half duplex (R845). -/
def collision (s : State) (late : Bool) : State :=
  if s.eth.sending = false ∨ rb s .ETH_MACCFG 0 1 then s
  else
    let s1 := count (setEth s { s.eth with attempts := s.eth.attempts + 1 }) .eth 0x67
    let fail (s : State) (status code : Nat) : State :=
      txOver (slotComplete (raise (wb (count s .eth code) .ETH_STAT 0 2 true) .eth 103) 3 status 0 0)
    if late then fail s1 0x82 0x68
    else if 16 ≤ s1.eth.attempts then fail s1 0x83 0x69
    else setEth s1 { s1.eth with sending := false, backoff := true }

/-! ## Pause frames sent (R847) -/

/-- A pause frame goes out between frames: the full quanta while RXFILL is above RXPHI, a quanta of 0 once it has fallen below RXPLO. -/
def pauseSend (s : State) : State :=
  if rb s .ETH_MACCFG 0 3 = false ∨ rb s .ETH_MACCFG 0 1 = false ∨ unitRuns s 6 = false ∨ rb s .ETH_CTL 0 0 = false ∨ s.eth.sending = true then s
  else if rn s .ETH_RXPHI 0 < rxFill s then count (setEth s { s.eth with pauseSent := true }) .eth 0x6B
  else if s.eth.pauseSent ∧ rxFill s < rn s .ETH_RXPLO 0 then
    count (setEth s { s.eth with pauseSent := false }) .eth 0x6B
  else s

/-! ## MDIO (R833, R834) -/

/-- ETH_MDCMD.GO. -/
def mdioGo (s : State) : State :=
  if s.eth.mdio.isSome then s
  else wb (setEth s { s.eth with mdio := some (rf s .ETH_MDCMD 0 10 0) }) .ETH_MDCMD 0 12 true

/-- An MDIO operation ends; a read returns `data`. -/
def mdioDone (s : State) (data : Nat) : State :=
  match s.eth.mdio with
  | none => s
  | some op =>
    let s1 := wb (setEth s { s.eth with mdio := none }) .ETH_MDCMD 0 12 false
    let s2 := if nbit op 10 then s1 else wr s1 .ETH_MDDATA 0 (BitVec.ofNat 32 data)
    raise (wb s2 .ETH_STAT 0 3 true) .eth 104

/-- A poll of the PHY's register 1: LINK takes bit 2. -/
def mdioPoll (s : State) (data : Nat) : State :=
  if rb s .ETH_MDPOLL 0 0 = false ∨ (timerOn s 131 = true ∧ timerDue s 131 = false) then s
  else
    let s1 := startTimer s 131 (msTicks 16)
    if rb s1 .ETH_MDPOLL 0 6 = nbit data 2 then s1
    else raise (wb (wb s1 .ETH_MDPOLL 0 6 (nbit data 2)) .ETH_STAT 0 4 true) .eth 104

/-! ## Enable, disable, faults -/

/-- Both held entries complete with ABANDONED. -/
def ethAbandon (s : State) : State := abandon (abandon s 2) 3

/-- ETH_CTL.EN cleared (R806, R1148): a frame being transmitted is finished. -/
def ethDisable (s : State) : State :=
  if rb s .ETH_CTL 0 0 = false then s
  else
    let s1 := wb s .ETH_CTL 0 0 false
    if dstate s1 6 = 3 then setMgmt s1 6 0
    else
      let act := dstate s1 6 == 1
      let s2 := if act then setUnit s1 6 0 2 else setMgmt s1 6 0
      let s3 := abandon s2 2
      if s3.eth.sending then s3
      else
        let s4 := txOver (abandon s3 3)
        if act then setData s4 6 0 else s4

/-- ETH_CTL written (R805, R806). -/
def ethCtl (s : State) (v : Quad) : State :=
  let s0 := if rb s .ETH_CTL 0 0 && !(v.getLsbD 0) then ethDisable s else s
  let s1 := wf s0 .ETH_CTL 0 2 0 (fld v 2 0)
  ethShow (if v.getLsbD 0 && mgmt s1 6 == 0 then setMgmt s1 6 1 else s1)

/-- ETH_MACCFG written: SPEED, FDX and REFOUT are kept while EN is 1 (R832). -/
def ethMacCfg (s : State) (v : Quad) : State :=
  let keep : Quad := if rb s .ETH_CTL 0 0 then 0x23 else 0
  wr s .ETH_MACCFG 0 ((v &&& ~~~keep &&& 0xFF) ||| (rd s .ETH_MACCFG 0 &&& keep))

/-- NOCLK of Ethernet (R807): entries complete ABANDONED, the unit faults, source 105. -/
def ethNoClk (s : State) : State :=
  let s1 := ethAbandon (setEth s { s.eth with sending := false, backoff := false, attempts := 0, tx := [] })
  raise (setData (wb s1 .ETH_STAT 0 6 true) 6 3) .eth 105

/-- A write of 1 to ETH_STAT.NOCLK (R831). -/
def ethClkClear (s : State) : State :=
  let s1 := setEth (wb s .ETH_STAT 0 6 false) { s.eth with onPllc := false }
  if dstate s1 6 = 3 then ethShow (setData s1 6 0) else s1

/-! ## Meanings -/

/-- LINK_CLOCK_RESTORE (R807): the LINK clocks run again after a loss. -/
def execLinkClockRestore (s : State) : Host.Outcome State Fault Refusal :=
  liveIn s .ao fun s =>
    let s1 := { s with dev := { s.dev with linkLost := false } }
    if s.dev.linkLost && islandRuns s1 .usb then ethNoClk (usbNoClk s1) else s

/-- LINK_NOCLK_CLEAR (R807): of Ethernet or of USB. -/
def execLinkNoclkClear (req : Nat) (eth : Bool) (s : State) : Host.Outcome State Fault Refusal :=
  if eth then writeReg s req .ETH_STAT 0 ethClkClear else writeReg s req .USB_STAT 0 usbClkClear

/-- ETH_DISABLE (R806). -/
def execEthDisable (req : Nat) (s : State) : Host.Outcome State Fault Refusal := writeReg s req .ETH_CTL 0 ethDisable

/-- ETH_FRAME_RECEIVED (R836): `frame` is the frame with its FCS, `rxer` that RXER was asserted during it. -/
def execEthFrameReceived (frame : List Byte) (rxer : Bool) (s : State) : Host.Outcome State Fault Refusal :=
  liveIn s .eth fun s =>
    if connected s .ethCrsdv && connected s (.ethRxd 0) && connected s (.ethRxd 1) then
      frameIn s frame (rxer && connected s .ethRxer)
    else s

/-- ETH_RX_DELIVER (R840). -/
def execEthRxDeliver (s : State) : Host.Outcome State Fault Refusal := liveIn s .eth rxDeliver

/-- ETH_TX_START (R843). -/
def execEthTxStart (s : State) : Host.Outcome State Fault Refusal := liveIn s .eth txStart

/-- ETH_TX_DONE (R845). -/
def execEthTxDone (s : State) : Host.Outcome State Fault Refusal := liveIn s .eth txDone

/-- ETH_COLLISION (R845): `late` says that 512 bit-times had passed. -/
def execEthCollision (late : Bool) (s : State) : Host.Outcome State Fault Refusal :=
  liveIn s .eth fun s => if connected s .ethCrsdv then collision s late else s

/-- ETH_BACKOFF_END (R845). -/
def execEthBackoffEnd (s : State) : Host.Outcome State Fault Refusal :=
  liveIn s .eth fun s => if s.eth.backoff then txStart (setEth s { s.eth with backoff := false }) else s

/-- ETH_PAUSE_END (R846): a pause frame that arrives on the edge wins (R253). -/
def execEthPauseEnd (tie : Bool) (s : State) : Host.Outcome State Fault Refusal :=
  liveIn s .eth fun s =>
    if s.eth.pause = 0 then s
    else if tie then count s .eth 0x08
    else wb (setEth s { s.eth with pause := 0 }) .ETH_STAT 0 5 false

/-- ETH_PAUSE_SEND (R847). -/
def execEthPauseSend (s : State) : Host.Outcome State Fault Refusal := liveIn s .eth pauseSend

/-- ETH_REFCLK_LOSS (R831). -/
def execEthRefclkLoss (s : State) : Host.Outcome State Fault Refusal :=
  liveIn s .eth fun s =>
    if rb s .ETH_MACCFG 0 5 ∨ s.eth.onPllc then s
    else ethNoClk (count (setEth s { s.eth with onPllc := true }) .eth 0x6C)

/-- MDIO_GO (R833). -/
def execMdioGo (req : Nat) (s : State) : Host.Outcome State Fault Refusal := writeReg s req .ETH_MDCMD 0 mdioGo

/-- MDIO_DONE (R833): `data` is what the PHY drove. -/
def execMdioDone (data : BitVec 16) (s : State) : Host.Outcome State Fault Refusal :=
  liveIn s .eth fun s => mdioDone s data.toNat

/-- MDIO_POLL (R834). -/
def execMdioPoll (data : BitVec 16) (s : State) : Host.Outcome State Fault Refusal :=
  liveIn s .eth fun s => mdioPoll s data.toNat

end Sys2Proof.Machine
end

