-- ==== Sys2Proof/Machine/UartPort.lean ====
section
/-!
DEFINITION. The UARTs (chapter 16): FIFOs, ring entries, line errors, flow control, and the meanings of their commands.
-/
namespace Sys2Proof.Machine

/-- UART `n` behind its registers. -/
def uartOf (s : State) (n : Nat) : Uart := mget (fun _ => Uart.reset) s.uart n

/-- The state with UART `n` replaced. -/
def setUart (s : State) (n : Nat) (u : Uart) : State := { s with uart := mset (fun _ => Uart.reset) s.uart n u }

/-- Bytes in a receive FIFO. -/
def rxCount (u : Uart) : Nat := u.rx.countP fun i => match i with | .good _ => true | .bad _ => true | _ => false

/-- RTS as driven (R854). -/
def rtsNext (s : State) (n : Nat) (u : Uart) : Bool :=
  if rb s .UART_CTL n 4 = false then rb s .UART_CTL n 6
  else if rf s .UART_RTSHI n 6 0 ≤ rxCount u then false
  else if rxCount u ≤ rf s .UART_RTSLO n 6 0 then true
  else u.rts

/-- The FIFO counts, RTS and TXIDLE follow the FIFOs; a change of TXIDLE from 0 to 1 raises source 81 (R853). -/
def uartShow (s : State) (n : Nat) : State :=
  let u := uartOf s n
  let s1 := setUart s n { u with rts := rtsNext s n u }
  let s2 := wr (wr s1 .UART_RXCNT n (BitVec.ofNat 32 (rxCount u))) .UART_TXCNT n (BitVec.ofNat 32 u.tx.length)
  let idle := u.tx.isEmpty && u.shift.isNone
  let s3 := wb s2 .UART_STAT n 6 idle
  if idle && !(rb s2 .UART_STAT n 6) then raise s3 .serial (81 + 3 * n) else s3

/-- A flag of UARTn_STAT sets; its change from 0 to 1 raises source 82 and counts its event (R856). -/
def uartFlag (s : State) (n bit code : Nat) : State :=
  if rb s .UART_STAT n bit then s
  else raise (if code = 0 then wb s .UART_STAT n bit true else count (wb s .UART_STAT n bit true) .serial (code + 4 * n)) .serial (82 + 3 * n)

/-- The oldest item of the receive FIFO goes to the held receive entry (R852). -/
def uartDrain1 (s : State) (n : Nat) : State :=
  let u := uartOf s n
  match u.rx, slotOf s (9 + 2 * n) with
  | i :: rest, some x =>
    let s1 := setUart s n { u with rx := rest }
    let store (s : State) (b : Byte) (bad : Bool) : State :=
      let s2 := setSlot (unitSend s x.chan x.e.idx x.e.frags x.moved [b]) (9 + 2 * n) (some { x with moved := x.moved + 1 })
      if bad then endSlot s2 (9 + 2 * n) 0x87
      else if fragTotal x.e.frags ≤ x.moved + 1 then endSlot s2 (9 + 2 * n) 0
      else s2
    match i with
    | .good b => store s1 b false
    | .bad b => store s1 b true
    | .lost => endSlot s1 (9 + 2 * n) 0x88
    | .brk => endSlot s1 (9 + 2 * n) 0x86
  | _, _ => s

/-- With RING = 1, received items go to the held entry until it completes. -/
def uartDrain (s : State) (n : Nat) : State :=
  if rb s .UART_CTL n 1 = false ∨ unitRuns s (7 + n) = false then s
  else (uartOf s n).rx.foldl (fun s _ => uartDrain1 s n) s

/-- With RING = 1, bytes of the held transmit entry that have reached the UART enter the transmit FIFO; the entry completes with its last
byte, or with ACCESS at a refused one (R852, R585). -/
def uartFill (s : State) (n : Nat) : State :=
  match slotOf s (10 + 2 * n) with
  | none => s
  | some x =>
    if rb s .UART_CTL n 1 = false ∨ unitRuns s (7 + n) = false then s
    else
      let (bs, _, s1) := moverTake s x.chan x.e.idx (16 - (uartOf s n).tx.length)
      let s2 := setUart s1 n { uartOf s1 n with tx := (uartOf s1 n).tx ++ bs }
      let s3 := moverAsk (setSlot s2 (10 + 2 * n) (some { x with moved := x.moved + bs.length })) x.chan x.e.idx
      if fragTotal x.e.frags ≤ x.moved + bs.length then endSlot s3 (10 + 2 * n) 0
      else if moverShort s3 x.chan x.e.idx 1 then endSlot s3 (10 + 2 * n) 7
      else s3

/-- UART0 stands still in SAFE without PLL B (R147, R209, R265): the ROM runs it from that clock only. -/
def uartStill (s : State) (n : Nat) : Bool := n == 0 && !(inRun s) && !s.dev.onB

/-- The next character starts where the transmitter is free, CTS allows it and no break is held (R853-R855). The transmit count
falling to TXTH raises source 81 with RING = 0 (R851). -/
def uartGo (s : State) (n : Nat) : State :=
  let s0 := uartFill s n
  let u := uartOf s0 n
  match u.tx, u.shift with
  | b :: rest, none =>
    if unitRuns s0 (7 + n) = false ∨ rb s0 .UART_CTL n 0 = false ∨ rb s0 .UART_CTL n 2 ∨ (rb s0 .UART_CTL n 5 ∧ u.cts = false) ∨
        uartStill s0 n = true then
      uartShow s0 n
    else
      let s1 := setUart s0 n { u with tx := rest, shift := some b }
      let s2 := if rb s1 .UART_CTL n 1 = false ∧ rest.length = rf s1 .UART_TXTH n 6 0 then raise s1 .serial (81 + 3 * n) else s1
      uartShow (uartFill s2 n) n
  | _, _ => uartShow s0 n

/-- An item enters the receive side (R851, R852, R856): lost where the FIFO is full. -/
def uartIn (s : State) (n : Nat) (i : RxItem) : State :=
  let u := uartOf s n
  if 64 ≤ rxCount u then
    let s1 := uartFlag s n 0 0x70
    let mark := rb s1 .UART_CTL n 1 && !((uartOf s1 n).rx.getLast? == some .lost)
    uartShow (if mark then setUart s1 n { uartOf s1 n with rx := (uartOf s1 n).rx ++ [.lost] } else s1) n
  else
    let s1 := setUart s n { u with rx := u.rx ++ [i] }
    let s2 := if rb s1 .UART_CTL n 1 = false ∧ rxCount (uartOf s1 n) = rf s1 .UART_RXTH n 6 0 then
      raise s1 .serial (80 + 3 * n) else s1
    uartShow (uartDrain s2 n) n

/-- A received character (R848, R850, R852, R856), where a pin carries RXD (R62): of 7 bits with DATA8 = 0, and checked for parity only where
UARTn_FMT gives it one. -/
def uartChar (s : State) (n : Nat) (b : Byte) (framing parity : Bool) : State :=
  if unitRuns s (7 + n) = false ∨ rb s .UART_CTL n 0 = false ∨ connected s (.rxd n) = false ∨ uartStill s n = true then s
  else
    let s1 := if framing then uartFlag s n 1 0x71 else s
    let odd := parity && (rf s1 .UART_FMT n 2 1 == 1 || rf s1 .UART_FMT n 2 1 == 2)
    let s2 := if odd then uartFlag s1 n 2 0x72 else s1
    let c := if rb s2 .UART_FMT n 0 then b else b &&& 0x7F
    uartIn s2 n (if framing || odd then .bad c else .good c)

/-- A break (R855, R864). -/
def uartBreak (s : State) (n : Nat) : State :=
  if unitRuns s (7 + n) = false ∨ rb s .UART_CTL n 0 = false ∨ connected s (.rxd n) = false ∨ uartStill s n = true then s
  else
    let s1 := uartFlag (wb s .UART_STAT n 7 true) n 3 0x73
    if rb s1 .UART_CTL n 1 then
      uartShow (uartDrain (setUart s1 n { uartOf s1 n with rx := (uartOf s1 n).rx ++ [.brk] }) n) n
    else s1

/-- CTS and DSR as the pins give them (R61, R62, R84, R854), asserted at a high pin (DEDUCED, log 126): a change sets its flag, and CTS may let
the next character start. -/
def uartLook (s : State) (n : Nat) : State :=
  let u := uartOf s n
  let cts := (inputLine s (.cts n)).getD true
  let dsr := (inputLine s (.dsr n)).getD false
  if u.cts = cts ∧ u.dsr = dsr then s
  else
    let s1 := setUart s n { u with cts := cts, dsr := dsr }
    let s2 := if u.dsr = dsr then s1 else uartFlag s1 n 4 0
    uartGo (if u.cts = cts then s2 else uartFlag s2 n 5 0) n

/-- UARTn_LINES: CTS, DSR and the level of RXD. -/
def uartLines (s : State) (n : Nat) : Nat :=
  b01 (uartOf s n).cts + 2 * b01 (uartOf s n).dsr + 4 * b01 ((inputLine s (.rxd n)).getD true)

/-- The board puts a level on the pin that carries an input function, if one does. -/
def inputSet (s : State) (f : PinIn) (level : Bool) : State :=
  match inputPin s f with
  | some p => { s with pads := mset (fun _ => none) s.pads p (some level) }
  | none => s

/-- The oldest received byte is removed (R851): its value, 0x00 where there is none or RING is 1. -/
def uartPop (s : State) (n : Nat) : Byte × State :=
  if rb s .UART_CTL n 1 then (0, s)
  else
    let u := uartOf s n
    match u.rx.find? (fun i => match i with | .good _ => true | .bad _ => true | _ => false) with
    | some (.good b) => (b, uartShow (setUart s n { u with rx := u.rx.erase (.good b) }) n)
    | some (.bad b) => (b, uartShow (setUart s n { u with rx := u.rx.erase (.bad b) }) n)
    | _ => (0, s)

/-- A byte is added to the transmit FIFO (R851). -/
def uartPush (s : State) (n : Nat) (v : Byte) : State :=
  let u := uartOf s n
  if rb s .UART_CTL n 1 ∨ 16 ≤ u.tx.length then s
  else uartGo (setUart s n { u with tx := u.tx ++ [v] }) n

/-- UARTn_CTL.EN cleared (R806, R1148): the character in the shift register is finished, the FIFOs empty, entries are abandoned. -/
def uartDisable (s : State) (n : Nat) : State :=
  if rb s .UART_CTL n 0 = false then s
  else
    let s1 := setUnit (wb s .UART_CTL n 0 false) (7 + n) 0 (if dstate s (7 + n) = 1 then 2 else dstate s (7 + n))
    let s2 := abandon (abandon (setUart s1 n { uartOf s1 n with rx := [], tx := [] }) (9 + 2 * n)) (10 + 2 * n)
    let s3 := if (uartOf s2 n).shift.isNone ∧ dstate s2 (7 + n) = 2 then setData s2 (7 + n) 0 else s2
    uartShow s3 n

/-- UARTn_CTL written: EN, and what the other bits start. -/
def uartCtl (s : State) (n : Nat) (v : Quad) : State :=
  let s0 := if rb s .UART_CTL n 0 && !(v.getLsbD 0) then uartDisable s n else s
  let s1 := wf s0 .UART_CTL n 6 0 (fld v 6 0)
  let s2 := if v.getLsbD 0 && mgmt s1 (7 + n) == 0 then setMgmt s1 (7 + n) 1 else s1
  uartGo (uartDrain (follow s2 (7 + n) (rb s2 .UART_CTL n 0)) n) n

/-- A UART takes an entry from its channel: BADFORM where it breaks R852, held otherwise and served. -/
def uartTake (s : State) (u ch : Nat) (e : Entry) : State :=
  let n := (u - 9) / 2
  let receive := u % 2 == 1
  if e.uflags ≠ 0 ∨ (receive ∧ e.ind) then unitComplete s .serial ch e.idx 0x84 0 0
  else
    let s1 := setSlot s u (some ⟨ch, e, 0, 0⟩)
    if receive then uartShow (uartDrain s1 n) n else uartGo (moverOpen s1 ch e.idx e.frags 16) n

/-! ## Meanings -/

/-- UART_DISABLE (R806). -/
def execUartDisable (req : Nat) (n : Fin 2) (s : State) : Host.Outcome State Fault Refusal :=
  writeReg s req .UART_CTL n fun s => uartDisable s n

/-- UART_CHAR_RECEIVED (R850). -/
def execUartCharReceived (n : Fin 2) (b : Byte) (framing parity : Bool) (s : State) : Host.Outcome State Fault Refusal :=
  liveIn s .serial fun s => uartChar s n b framing parity

/-- UART_BREAK (R855). -/
def execUartBreak (n : Fin 2) (s : State) : Host.Outcome State Fault Refusal := liveIn s .serial fun s => uartBreak s n

/-- UART_BREAK_END (R855). -/
def execUartBreakEnd (n : Fin 2) (s : State) : Host.Outcome State Fault Refusal :=
  liveIn s .serial fun s => wb s .UART_STAT n 7 false

/-- UART_IDLE_TIMEOUT (R852): counted in character times, which the sender keeps; a start bit on the edge wins. -/
def execUartIdleTimeout (n : Fin 2) (tie : Bool) (s : State) : Host.Outcome State Fault Refusal :=
  liveIn s .serial fun s =>
    match slotOf s (9 + 2 * n) with
    | some x => if x.moved = 0 then s else if tie then count s .serial 0x08 else endSlot s (9 + 2 * n) 0
    | none => s

/-- UART_TX_CHAR_DONE (R853). -/
def execUartTxCharDone (n : Fin 2) (s : State) : Host.Outcome State Fault Refusal :=
  liveIn s .serial fun s =>
    if (uartOf s n).shift.isNone then s
    else
      let s1 := setUart s n { uartOf s n with shift := none }
      uartGo (if mgmt s1 (7 + n) = 0 ∧ dstate s1 (7 + n) = 2 then setData s1 (7 + n) 0 else s1) n

/-- UART_LINE_CHANGE (R854): CTS and DSR asserted or not, on the pins that carry them. -/
def execUartLineChange (n : Fin 2) (cts dsr : Bool) (s : State) : Host.Outcome State Fault Refusal :=
  liveIn s .serial fun s => uartLook (inputSet (inputSet s (.cts n) cts) (.dsr n) dsr) n

/-- UART_DATA_READ (R851). -/
def execUartDataRead (req : Nat) (n : Fin 2) (dst : Dst) (s : State) : Host.Outcome State Fault Refusal :=
  readRegRow s req .UART_DATA n fun s ok =>
    if ok then replyIn (uartPop s n).2 .serial dst (uartPop s n).1 else replyIn s .serial dst 0

/-- UART_DATA_WRITE (R851). -/
def execUartDataWrite (req : Nat) (n : Fin 2) (v : Byte) (s : State) : Host.Outcome State Fault Refusal :=
  writeReg s req .UART_DATA n fun s => uartPush s n v

end Sys2Proof.Machine
end

