-- ==== Sys2Proof/Machine/Clocks.lean ====
section
/-!
DEFINITION. Clocks (chapters 03 and 04): the crystal, the PLLs, SWITCH, the spread, HFRC and their failures.
-/
namespace Sys2Proof.Machine

/-- The state with the AO island and the mode machine replaced. -/
def setDev (s : State) (d : Dev) : State := { s with dev := d }

/-- The device is out of reset (R144, R190): the clear runs or T0 has fetched. -/
def outOfReset (s : State) : Bool := s.dev.phase == .awake || s.dev.phase == .clearing

/-- A meaning that needs the device out of reset. -/
def whenOut (s : State) (f : State → State) : Host.Outcome State Fault Refusal :=
  .next (if outOfReset s then f s else s)

/-- ONPLL follows the islands: SWITCH has taken effect where both PLLs feed theirs (R142). -/
def showOnPll (s : State) : State := wb s .CLK_STAT 0 4 (s.dev.onA && s.dev.onB)

/-- In SAFE the ROM enables UART0 and the USB device once PLL B and PLL C have locked and SWITCH has taken effect (R147), not in a SAFE-hold for
want of the crystal (R209); the SPI port has no enable of its own. -/
def portsLook (s : State) : State :=
  if s.dev.portsUp ∨ inRun s ∨ s.dev.phase ≠ .awake ∨ rf s .PMU_BOOTSTAT 0 3 0 = 1 ∨ s.dev.onB = false ∨ s.dev.linkOn = false ∨
      rb s .CLK_STAT 0 3 = false then s
  else usbCtl (uartCtl (setDev s { s.dev with portsUp := true }) 0 1) 3

/-- SWITCH (R142, R256, R262): each island moves to its PLL where that is locked, waits for the lock where it has never been lost, and
stays where it has been lost and not come again. LINK moves with PLL C (R143, R807). -/
def switchOp (s : State) : State :=
  let d := s.dev
  let la := rb s .CLK_STAT 0 1
  let lb := rb s .CLK_STAT 0 2
  let lc := rb s .CLK_STAT 0 3
  let s1 := wb s .CLK_CTL 0 4 true
  let s2 := if rb s .CLK_STAT 0 4 then s1
    else showOnPll (setDev s1 { d with onA := d.onA || la, onB := d.onB || lb, swA := d.swA || (!la && !d.lostA && !d.onA),
                                       swB := d.swB || (!lb && !d.lostB && !d.onB) })
  portsLook (setDev s2 { s2.dev with linkOn := d.linkOn || lc || !d.linkLost })

/-- A PLL locks (R141, R142): its LOCK bit sets, and islands that a SWITCH has left waiting move. -/
def pllLocks (s : State) (pll : Nat) : State :=
  if rb s .CLK_CTL 0 pll = false ∨ rb s .CLK_STAT 0 0 = false ∨ rb s .CLK_STAT 0 (1 + pll) = true then s
  else
    let s1 := wb s .CLK_STAT 0 (1 + pll) true
    let d := s1.dev
    portsLook (
      if pll = 0 then showOnPll (setDev s1 { d with lostA := false, onA := d.onA || d.swA, swA := false })
      else if pll = 1 then showOnPll (setDev s1 { d with lostB := false, onB := d.onB || d.swB, swB := false })
      else s1)

/-- The islands of a PLL must run from HFRC; where HFRC is off it restarts, HFRC_OFF clears and they stand still until it runs (R258). -/
def toHfrc (s : State) (pllB : Bool) : State :=
  let s1 := wb s .CLK_CTL 0 5 false
  if s.dev.hfrc then s1
  else if pllB then setDev s1 { s1.dev with stopB := true } else setDev s1 { s1.dev with stopA := true }

/-- PLL A or PLL B loses lock (R254): LOCK clears; where its islands run from it they move to HFRC, ONPLL clears, CLK_FAIL records it, the event is
counted and source 32 raised. -/
def pllLoses (s : State) (pllB : Bool) : State :=
  let k := if pllB then 1 else 0
  let on := if pllB then s.dev.onB else s.dev.onA
  if rb s .CLK_STAT 0 (1 + k) = false then s
  else
    let s1 := wb s .CLK_STAT 0 (1 + k) false
    let s2 := if pllB then setDev s1 { s1.dev with lostB := true, onB := false, swB := false }
      else setDev s1 { s1.dev with lostA := true, onA := false, swA := false }
    if on then raise (count (wb (toHfrc (showOnPll s2) pllB) .CLK_FAIL 0 (1 + k) true) .core 0x09) .core 32 else s2

/-- PLL C loses lock (R255): both LINK clocks stop. Where LINK had never run from it, a SWITCH written before the relock is enough for LINK to
move once PLL C locks; R256 speaks of islands that return to their PLL, so the model asks for a SWITCH after the relock only where LINK
had moved (DESIGN CHOICE, log 129). -/
def pllCLoses (s : State) : State :=
  if rb s .CLK_STAT 0 3 = false then s
  else
    let s1 := wb (wb s .CLK_STAT 0 3 false) .CLK_FAIL 0 3 true
    setDev s1 { s1.dev with linkLost := s1.dev.linkLost || s1.dev.linkOn, linkOn := false }

/-- The crystal fails (R257): every PLL then loses lock. -/
def xtalFails (s : State) : State :=
  if rb s .CLK_STAT 0 0 = false then s
  else
    let s1 := raise (count (wb (wb s .CLK_STAT 0 0 false) .CLK_FAIL 0 0 true) .core 0x0A) .core 32
    pllCLoses (pllLoses (pllLoses s1 false) true)

/-- The DEPTH and PHASE a PLL applies: DEPTH 9-15 acts as 8 (R220). -/
def spreadOf (v : Quad) : Byte := BitVec.ofNat 8 (min (fld v 3 0) 8 + 16 * fld v 5 4)

/-- A new DEPTH or PHASE takes effect (R222). -/
def spreadApply (s : State) (pllB : Bool) : State :=
  if pllB then setDev s { s.dev with spreadB := spreadOf (rd s .CLK_SSB 0) }
  else setDev s { s.dev with spreadA := spreadOf (rd s .CLK_SSA 0) }

/-- CLK_CTL written: HFRC_OFF is honoured only while ONPLL is 1, and SWITCH acts (R142, chapter 03 Registers). -/
def clkCtl (s : State) (v : Quad) : State :=
  let off := v.getLsbD 5 && rb s .CLK_STAT 0 4
  let s1 := wb (wr s .CLK_CTL 0 ((rd s .CLK_CTL 0 &&& ~~~7) ||| (v &&& 7))) .CLK_CTL 0 5 off
  let s2 := setDev s1 { s1.dev with hfrc := !off }
  if v.getLsbD 4 then switchOp s2 else s2

/-- HFRC runs again (R258). -/
def hfrcUp (s : State) : State :=
  if s.dev.stopA ∨ s.dev.stopB then setDev s { s.dev with hfrc := true, stopA := false, stopB := false } else s

/-! ## The rows -/

/-- XTAL_STABLE (R141, R230). -/
def execXtalStable (s : State) : Host.Outcome State Fault Refusal := whenOut s fun s => wb s .CLK_STAT 0 0 true

/-- PLL_LOCK (R141). -/
def execPllLock (pll : Fin 3) (s : State) : Host.Outcome State Fault Refusal := whenOut s fun s => pllLocks s pll.val

/-- SWITCH (R142). -/
def execSwitch (req : Nat) (s : State) : Host.Outcome State Fault Refusal := writeReg s req .CLK_CTL 0 switchOp

/-- SPREAD_CHANGE_APPLY (R222). -/
def execSpreadChangeApply (pllB : Bool) (s : State) : Host.Outcome State Fault Refusal :=
  whenOut s fun s => spreadApply s pllB

/-- PLL_UNLOCK (R254). -/
def execPllUnlock (pllB : Bool) (s : State) : Host.Outcome State Fault Refusal := whenOut s fun s => pllLoses s pllB

/-- PLL_C_UNLOCK (R255). -/
def execPllCUnlock (s : State) : Host.Outcome State Fault Refusal := whenOut s pllCLoses

/-- XTAL_FAIL (R257). -/
def execXtalFail (s : State) : Host.Outcome State Fault Refusal := whenOut s xtalFails

/-- HFRC_RUNS (R258). -/
def execHfrcRuns (s : State) : Host.Outcome State Fault Refusal := whenOut s hfrcUp

end Sys2Proof.Machine
end

