-- ==== Sys2Proof/Machine/Hopper.lean ====
section
/-!
DEFINITION. The Hopper buffer pools (chapter 12): carving, allocation, reservations, freeing and the buffer status port.
-/
namespace Sys2Proof.Machine

/-- Pool `p`. -/
def poolOf (s : State) (p : Nat) : Pool := mget (fun _ => Pool.reset) s.pool p

/-- The state with pool `p` replaced. -/
def setPool (s : State) (p : Nat) (x : Pool) : State := { s with pool := mset (fun _ => Pool.reset) s.pool p x }

/-- The buffer size of pool `p` (R608). -/
def bufSize (p : Nat) : Nat := 128 * 4 ^ p

/-- COUNT of pool `p`. -/
def poolCount (s : State) (p : Nat) : Nat := rn s .HOP_PCOUNT p

/-- BASE of pool `p` as a far address. -/
def poolBase (s : State) (p : Nat) : Nat := rn s .HOP_PBASE p

/-- The owner of a buffer, 15 where it is free (R632). -/
def bufOwner (s : State) (p i : Nat) : Nat := mget (fun _ => 15) (poolOf s p).owner i

/-- Buffers of pool `p` that owner `o` holds (R622). -/
def heldBy (s : State) (o p : Nat) : Nat := ((poolOf s p).owner.filter fun e => e.2 == o).length

/-- RSV(o, p) (R622). -/
def rsv (s : State) (o p : Nat) : Nat := mget (fun _ => 0) s.resv (4 * o + p)

/-- The unused reservation u(o, p) (R622). -/
def unused (s : State) (o p : Nat) : Nat := rsv s o p - heldBy s o p

/-- owed(p) (R622). -/
def owed (s : State) (p : Nat) : Nat := ((List.range 15).map fun o => unused s o p).sum

/-- The reservations of pool `p` in all. -/
def rsvSum (s : State) (p : Nat) : Nat := ((List.range 15).map fun o => rsv s o p).sum

/-- FREE and LOW of pool `p` as its registers show them (R631, R1254). -/
def showPool (s : State) (p : Nat) : State :=
  let x := poolOf s p
  let n := if x.enabled then x.free.length else 0
  wb (wr s .HOP_PFREE p (BitVec.ofNat 32 n)) .HOP_PSTAT p 0 (x.enabled && decide (n ≤ rn s .HOP_PLOW p))

/-! ## Carving -/

/-- A refusal of an ENABLE or DISABLE (R609, R612). -/
def cfgRej (s : State) (code : Nat) : State := wf (wb s .HOP_STAT 0 0 true) .HOP_STAT 0 3 1 code

/-- The regions of two pools overlap (R609). -/
def overlaps (s : State) (p q : Nat) : Bool :=
  decide (poolBase s p < poolBase s q + poolCount s q * bufSize q) &&
  decide (poolBase s q < poolBase s p + poolCount s p * bufSize p)

/-- The first check of R609 that fails, in the order of its table, 0 where none does: which code is shown when several fail is not stated
(DESIGN CHOICE, log 135). -/
def poolCheck (s : State) (p : Nat) : Nat :=
  let n := poolCount s p
  let len := n * bufSize p
  if n = 0 ∨ n > 8191 ∨ len % 4096 ≠ 0 then 1
  else if poolBase s p % (if p = 3 then 8192 else 4096) ≠ 0 then 2
  else if poolBase s p + len > 0x400000 then 3
  else if (List.range 4).any (fun q => q != p && (poolOf s q).configured && overlaps s p q) then 4
  else if (List.range (len / 4096)).any (fun k => pageOwner s (poolBase s p / 4096 + k) != 15) then 5
  else if rsvSum s p > n then 6
  else 0

/-- ENABLE (R609, R1254): ignored where the pool is configured. -/
def poolEnable (s : State) (p : Nat) : State :=
  if (poolOf s p).configured then s
  else
    let c := poolCheck s p
    if c ≠ 0 then cfgRej s c else setPool s p { Pool.reset with configured := true }

/-- The free list is placed, ENABLED sets and the pool's book opens with COUNT buffers free (R610). -/
def poolPlaced (s : State) (p : Nat) : State :=
  if (poolOf s p).configured ∧ (poolOf s p).enabled = false then
    let n := poolCount s p
    let s1 := setPool s p { poolOf s p with enabled := true, free := List.range n, owner := [] }
    let s2 := setTerm (setTerm (clearBook s1 p) p 0 (BitVec.ofNat 32 n)) p 1 (BitVec.ofNat 32 n)
    showPool (wb s2 .HOP_PCTL p 2 true) p
  else s

/-- DISABLE (R612): ignored where the pool is not configured, refused while a buffer is held or the list is being placed. -/
def poolDisable (s : State) (p : Nat) : State :=
  let x := poolOf s p
  if x.configured = false then s
  else if x.enabled = false ∨ x.owner ≠ [] then cfgRej s 7
  else showPool (wb (clearBook (setPool s p Pool.reset) p) .HOP_PCTL p 2 false) p

/-- A write of HOP_PpCTL: DISABLE wins over ENABLE (R612). -/
def poolCtl (s : State) (p : Nat) (v : Quad) : State :=
  if v.getLsbD 1 then poolDisable s p else if v.getLsbD 0 then poolEnable s p else s

/-! ## Reservations -/

/-- A write of HOP_RSVDATA (R624, R1255). -/
def rsvWrite (s : State) (n : Nat) : State :=
  let p := rf s .HOP_RSVIDX 0 1 0
  let o := rf s .HOP_RSVIDX 0 5 2
  if o = 15 then s
  else if (poolOf s p).configured ∧ rsvSum s p - rsv s o p + n > poolCount s p then wb s .HOP_STAT 0 4 true
  else { s with resv := mset (fun _ => 0) s.resv (4 * o + p) n }

/-- What HOP_RSVDATA and HOP_HELDDATA read (R622, R1255). -/
def rsvRead (s : State) : Quad :=
  if rf s .HOP_RSVIDX 0 5 2 = 15 then 0 else BitVec.ofNat 32 (rsv s (rf s .HOP_RSVIDX 0 5 2) (rf s .HOP_RSVIDX 0 1 0))
def heldRead (s : State) : Quad :=
  if rf s .HOP_RSVIDX 0 5 2 = 15 then 0 else BitVec.ofNat 32 (heldBy s (rf s .HOP_RSVIDX 0 5 2) (rf s .HOP_RSVIDX 0 1 0))

/-! ## Allocating -/

/-- Whether owner `o` may take a buffer of pool `p` (R623). -/
def mayTake (s : State) (o p : Nat) : Bool :=
  let n := (poolOf s p).free.length
  decide (1 ≤ n) && (decide (1 ≤ unused s o p) || decide (owed s p + 1 ≤ n))

/-- A tried pool refuses (R623, R631): the status, and the state with its event counted. -/
def poolRefuses (s : State) (p : Nat) : Nat × State :=
  if (poolOf s p).free = [] then (2, raise (count (wb s .HOP_PSTAT p 2 true) .fabric 0x2D) .fabric 56)
  else (3, count s .fabric 0x28)

/-- The buffer at the head of pool `p`'s free list goes to owner `o` (R618, R631): its handle and the state. -/
def takeBuffer (s : State) (o p : Nat) : Nat × State :=
  let x := poolOf s p
  let i := x.free.headD 0
  let s1 := setPool s p { x with free := x.free.drop 1, owner := mset (fun _ => 15) x.owner i o }
  let s2 := book (retag s1 ((poolBase s p + i * bufSize p) / 32) (bufSize p / 32) o) p 1 2 1
  let low := x.free.length == rn s .HOP_PLOW p + 1
  let s3 := if low then raise (count (wb s2 .HOP_PSTAT p 1 true) .fabric 0x2C) .fabric 56 else s2
  (16384 * p + i, showPool s3 p)

/-- The larger enabled pools are tried in turn (R617 step 5). -/
def spill (s : State) (o : Nat) : List Nat → Option Nat × State
  | [] => (none, s)
  | p :: ps =>
    if mayTake s o p then let (h, s1) := takeBuffer s o p; (some h, count s1 .fabric 0x29)
    else spill (poolRefuses s p).2 o ps

/-- The value of HOP_ARES. -/
def aresVal (handle status owner : Nat) : Quad := BitVec.ofNat 32 (handle + 65536 * status + 16777216 * owner)

/-- The allocation that a read of HOP_ARES performs for a requester with the world and grant of its issue (R615, R617, R635): the
value captured and the state. -/
def hopAlloc (s : State) (req : Nat) (world : Bool) (grant : Nat) : Quad × State :=
  if req = 8 ∨ mget (fun _ => false) s.areq req = false then (aresVal 0xFFFF 7 15, s)
  else
    let v := rdReq s .HOP_AREQ req
    let size := fld v 13 0
    let o := fld v 19 16
    let fits := (List.range 4).filter fun p => (poolOf s p).enabled && decide (size ≤ bufSize p)
    if size = 0 ∨ size > 8192 then (aresVal 0xFFFF 5 o, s)
    else if o = 15 ∨ (world = true ∧ (o = 0 ∨ nbit grant o = false)) then (aresVal 0xFFFF 4 o, s)
    else match fits with
      | [] => (aresVal 0xFFFF 6 o, s)
      | p :: ps =>
        if mayTake s o p then let (h, s1) := takeBuffer s o p; (aresVal h 0 o, s1)
        else
          let (st, s1) := poolRefuses s p
          if rb s1 .HOP_SPILL 0 o then
            match spill s1 o ps with
            | (some h, s2) => (aresVal h 1 o, s2)
            | (none, s2) => (aresVal 0xFFFF st o, s2)
          else (aresVal 0xFFFF st o, s1)

/-- A thread's read of HOP_ARES: the allocation, with its value captured for the requester (R615). -/
def aresRead (s : State) (req : Nat) (world : Bool) (grant : Nat) : Byte × State :=
  let (v, s1) := hopAlloc s req world grant
  (byteOf v 0, capture s1 req .HOP_ARES 0 v)

/-! ## Freeing -/

/-- A refused free (R626, R627). -/
def freeRefused (s : State) (req h : Nat) (world : Bool) (code ev : Nat) : State :=
  let v := rd s .HOP_FERR 0
  let s1 := if v.getLsbD 31 then wr s .HOP_FERR 0 (putFld v 30 30 1)
    else wr s .HOP_FERR 0 (BitVec.ofNat 32 (h + 65536 * (if req = 8 then 0 else req) + 524288 * b01 world + 1048576 * code +
      4194304 * b01 (req == 8) + 2147483648) ||| (v &&& 0x40000000))
  count s1 .fabric ev

/-- A free by a requester with the world and grant of its issue (R626-R628). -/
def hopFree (s : State) (req h : Nat) (world : Bool) (grant : Nat) : State :=
  let p := h / 16384 % 4
  let i := h % 8192
  let x := poolOf s p
  if nbit h 13 ∨ x.enabled = false ∨ poolCount s p ≤ i then freeRefused s req h world 1 0x2A
  else if bufOwner s p i = 15 then freeRefused s req h world 2 0x2B
  else if world = true ∧ nbit grant (bufOwner s p i) = false then freeRefused s req h world 3 0x2A
  else
    let s1 := setPool s p { x with free := x.free ++ [i], owner := mset (fun _ => 15) x.owner i 15 }
    showPool (book (retag s1 ((poolBase s p + i * bufSize p) / 32) (bufSize p / 32) 15) p 2 1 1) p

/-! ## The buffer status port (R632) -/

/-- Whether HOP_BUFIDX names a buffer. -/
def bufNamed (s : State) : Bool :=
  let h := rn s .HOP_BUFIDX 0
  !(nbit h 13) && (poolOf s (h / 16384 % 4)).enabled && decide (h % 8192 < poolCount s (h / 16384 % 4))

/-- What HOP_BUFSTAT reads. -/
def bufStat (s : State) : Byte :=
  let h := rn s .HOP_BUFIDX 0
  if bufNamed s then
    let o := bufOwner s (h / 16384 % 4) (h % 8192)
    BitVec.ofNat 8 (o + 16 * b01 (o != 15))
  else 15

/-- A thread's read moves the index on, wrapping from COUNT - 1 to 0 within the pool. -/
def bufStatNext (s : State) (req : Nat) : State :=
  let h := rn s .HOP_BUFIDX 0
  if req = 8 ∨ bufNamed s = false then s
  else wf s .HOP_BUFIDX 0 12 0 (if h % 8192 + 1 = poolCount s (h / 16384 % 4) then 0 else h % 8192 + 1)

/-! ## The rows -/

/-- POOL_ENABLE (R609). -/
def execPoolEnable (req : Nat) (p : Fin 4) (s : State) : Host.Outcome State Fault Refusal :=
  writeReg s req .HOP_PCTL p.val fun s => poolEnable s p.val

/-- POOL_PLACEMENT_DONE (R610). -/
def execPoolPlacementDone (p : Fin 4) (s : State) : Host.Outcome State Fault Refusal :=
  liveIn s .fabric fun s => poolPlaced s p.val

/-- POOL_DISABLE (R612). -/
def execPoolDisable (req : Nat) (p : Fin 4) (s : State) : Host.Outcome State Fault Refusal :=
  writeReg s req .HOP_PCTL p.val fun s => poolDisable s p.val

/-- ALLOCATE (R617). -/
def execAllocate (req : Nat) (dst : Dst) (s : State) : Host.Outcome State Fault Refusal :=
  liveIn s .fabric fun s =>
    replyIn (aresRead s req (reqWorld s req) (reqGrant s req)).2 .fabric dst
      (aresRead s req (reqWorld s req) (reqGrant s req)).1

/-- FREE (R626). -/
def execFree (req : Nat) (h : Word) (s : State) : Host.Outcome State Fault Refusal :=
  liveIn s .fabric fun s => hopFree s req h.toNat (reqWorld s req) (reqGrant s req)

/-- RESERVATION_WRITE (R624). -/
def execReservationWrite (req : Nat) (v : Word) (s : State) : Host.Outcome State Fault Refusal :=
  writeReg s req .HOP_RSVDATA 0 fun s => rsvWrite s (v.toNat % 8192)

/-- BUFFER_STATUS_READ (R632). -/
def execBufferStatusRead (req : Nat) (dst : Dst) (s : State) : Host.Outcome State Fault Refusal :=
  readRegRow s req .HOP_BUFSTAT 0 fun s ok =>
    if ok then replyIn (bufStatNext s req) .fabric dst (bufStat s) else replyIn s .fabric dst 0

end Sys2Proof.Machine
end

