-- ==== Sys2Proof/Machine/Kolnex.lean ====
section
/-!
DEFINITION. The Kolnex kitchen bus port (chapter 17): contention, collisions, the ACK window, LONE, BUSFAULT, receiving, and the meanings of its
commands. Bit-time events (the bus becoming free, a slot, the windows) are the sender's to assert; intervals in ms run on the time base.
-/
namespace Sys2Proof.Machine

/-- The state with the Kolnex port replaced. -/
def setKx (s : State) (k : Kx) : State := { s with kx := k }

/-- The timer of the next LONE beacon (R896). -/
def tmrBeacon : Nat := 134

/-- CRC-16/CCITT of R873: initial value 0xFFFF, most significant bit first. -/
def kxCrc (bs : List Byte) : Nat := bs.foldl (fun v b => crcByte 16 0x1021 (Nat.xor v (b.toNat * 256))) 0xFFFF

/-- The CRC of a received frame passes: its last two bytes, high byte first, are that of the others (R872, R873). -/
def kxCrcOk (bs : List Byte) : Bool :=
  decide (2 ≤ bs.length) &&
    (kxCrc (bs.take (bs.length - 2)) ==
      256 * (bs.getD (bs.length - 2) 0).toNat + (bs.getD (bs.length - 1) 0).toNat)

/-- KX_ADDR. -/
def kxAddr (s : State) : Nat := rn s .KX_ADDR 0

/-- The port is in LONE. -/
def kxLone (s : State) : Bool := rb s .KX_STAT 0 0

/-- The wire is still and nothing is owed (R915, R916). -/
def kxQuiet (s : State) : Bool := s.kx.wire == .quiet && s.kx.ackWin.isNone && s.kx.ackOwed.isNone

/-- A held frame's payload has been read (R908). -/
def kxRead (s : State) (f : KxFrame) : Bool := (moverOf s s.kx.chan f.idx).isNone

/-- The frame the port offers next (R881, R896): of those whose payload has been read (R908), the highest PRIO, among equals the first
fetched; in LONE broadcasts only. -/
def kxOffer (s : State) : Option KxFrame :=
  (s.kx.held.filter fun f => kxRead s f && (!(kxLone s) || f.dst == 0xFF)).foldl
    (fun o f => match o with
      | none => some f
      | some g => if g.prio < f.prio then some f else some g) none

/-- Something may be sent: the port runs and a BEACON is due or a frame is offered (R881, R899). -/
def kxWants (s : State) : Bool := unitRuns s 9 && (s.kx.bcnDue || (kxOffer s).isSome)

/-- With the bus free and something to send, a slot is drawn (R877, R878): r is a free value below 2^min(k + 2, 5). -/
def kxDraw (s : State) : State :=
  if s.kx.free && kxWants s && s.kx.drawn.isNone then
    let (v, s1) := freeVal s
    let slot := if s1.kx.bcnDue then v.toNat % 4
      else match kxOffer s1 with
        | some f => 4 * (3 - f.prio) + v.toNat % 2 ^ min (f.tries + 2) 5
        | none => v.toNat % 4
    setKx s1 { s1.kx with drawn := some slot }
  else s

/-- KX_NACNT and DATA_STATE follow the port (R913); a disable ends once the wire is quiet (R915). -/
def kxShow (s : State) : State :=
  let s1 := wr s .KX_NACNT 0 (BitVec.ofNat 32 s.kx.lone.length)
  let s2 := if dstate s1 9 = 2 ∧ mgmt s1 9 ≠ 2 ∧ kxQuiet s1 then setData s1 9 0 else s1
  kxDraw (follow s2 9 (mgmt s2 9 == 1 && (!s2.kx.held.isEmpty || s2.kx.wire == .ack)))

/-- The bus is not free: a start bit has been seen or the port sends. -/
def kxBusy (s : State) : State := setKx s { s.kx with free := false, drawn := none }

/-- CFLAGS of a transmit completion (R909). -/
def kxCflags (f : KxFrame) : Nat := (f.tries - 1) % 16 + 16 * b01 f.collided + 32 * b01 f.loneSent

/-- The held frame with an index. -/
def kxFind (s : State) (idx : Nat) : Option KxFrame := s.kx.held.find? fun f => f.idx == idx

/-- The held frame with an index replaced. -/
def kxPut (s : State) (g : KxFrame) : State :=
  setKx s { s.kx with held := s.kx.held.map fun f => if f.idx == g.idx then g else f }

/-- A held frame completes (R890, R911): it leaves HELD for COMPLETED and its completion is passed back. -/
def kxComplete (s : State) (f : KxFrame) (status done : Nat) : State :=
  let s1 := setKx s { s.kx with held := s.kx.held.filter fun g => !(g.idx == f.idx) }
  unitComplete (report s1 .serial 22 3 1 1) .serial s1.kx.chan f.idx status done (kxCflags f)

/-- Every held frame starts again with k = 0 (R897, R900). -/
def kxRestart (s : State) : State := setKx s { s.kx with held := s.kx.held.map fun f => { f with tries := 0 }, drawn := none }

/-- The LONE list empties, and the port leaves LONE (R894, R885, R897): a BEACON due on this edge is not sent. -/
def kxHeard (s : State) : State :=
  let s1 := setKx s { s.kx with lone := [] }
  if kxLone s1 then
    let s2 := wb (wb s1 .KX_STAT 0 0 false) .KX_STAT 0 6 true
    kxRestart (stopTimer (setKx (raise (count s2 .serial 0x80) .serial 88) { s2.kx with bcnDue := false }) tmrBeacon)
  else s1

/-- The LONE list without the entries older than KX_LONEWIN (R893). -/
def kxAge (s : State) : List (Nat × Nat) :=
  s.kx.lone.filter fun e => decide (s.time ≤ e.2 + msTicks (atLeast1 (rn s .KX_LONEWIN 0)))

/-- A NOACK completion enters the LONE list (R893), which holds three; the third distinct destination enters LONE where LONEEN is 1
(R895). -/
def kxNoack (s : State) (dst : Nat) : State :=
  if mgmt s 9 ≠ 1 then s
  else
    let l := (((kxAge s).filter fun e => !(e.1 == dst)) ++ [(dst, s.time)])
    let s1 := setKx s { s.kx with lone := l.drop (l.length - 3) }
    if l.length = 3 ∧ rb s1 .KX_CFG 0 3 ∧ kxLone s1 = false then
      let s2 := wb (wb s1 .KX_STAT 0 0 true) .KX_STAT 0 5 true
      startTimer (raise (count s2 .serial 0x7F) .serial 88) tmrBeacon (msTicks (atLeast1 (rn s2 .KX_LONEBCN 0)))
    else s1

/-- A further attempt is permitted (R889, R923), never while the port drains (R915). -/
def kxAgain (s : State) (f : KxFrame) : Bool := decide (f.tries < 1 + rf s .KX_RETRY 0 3 0) && mgmt s 9 == 1

/-- An attempt ends without a valid ACK (R888, R890, R893): a retry, or NOACK with source 87. -/
def kxAckFail (s : State) (idx : Nat) : State :=
  let s1 := setKx s { s.kx with ackWin := none }
  match kxFind s1 idx with
  | none => s1
  | some f =>
    if kxAgain s1 f then count s1 .serial 0x7A
    else
      let s2 := raise (count (kxComplete s1 f 9 0) .serial 0x7B) .serial 87
      kxNoack (wr s2 .KX_LASTNA 0 (BitVec.ofNat 32 f.dst)) f.dst

/-- BUSFAULT (R898, R1150): the frame in progress completes with it, the port is FAULTED, sources 87 and 88 rise. -/
def kxFault (s : State) (cause : Nat) : State :=
  let cur := match s.kx.wire, s.kx.ackWin with
    | .data i, _ => some i
    | _, w => w
  let s1 := wf (wb (count s .serial 0x7C) .KX_STAT 0 1 true) .KX_STAT 0 3 2 cause
  let s2 := setKx s1 { s1.kx with wire := .quiet, ackWin := none, ackOwed := none, free := false, drawn := none }
  let s3 := match cur.bind (kxFind s2) with
    | some f => kxComplete s2 f 0x0A 0
    | none => s2
  setData (raise s3 .serial 87) 9 3

/-- A read-back mismatch after SYNC (R884, R885, R890). -/
def kxCollide (s : State) : State :=
  let w := s.kx.wire
  let s1 := kxBusy (setKx (count s .serial 0x78) { s.kx with wire := .quiet })
  let s2 := match w with
    | .data i =>
      match kxFind s1 i with
      | some f =>
        let g := { f with collided := true }
        if kxAgain s1 g then kxPut s1 g else raise (count (kxComplete (kxPut s1 g) g 0x0A 0) .serial 0x79) .serial 87
      | none => s1
    | _ => s1
  kxHeard s2

/-! ## Receiving -/

/-- A start bit before the ACK window opened, or a frame that is no valid ACK within it, fails the attempt (R888). -/
def kxSpoil (s : State) (early : Bool) : State :=
  match s.kx.ackWin with
  | some i => kxAckFail (count s .serial (if early then 0x7D else 0x7E)) i
  | none => s

/-- The receiver is on (R870) and a pin carries KX_RX; with none the line reads idle (R62). -/
def kxHearing (s : State) : Bool := connected s .kxRx && (rb s .KX_CTL 0 0 || s.kx.ackWin.isSome)

/-- A DATA frame of a source is the last one accepted from it, within KX_DUPWIN (R904). -/
def kxIsDup (s : State) (src seq : Nat) : Bool :=
  match mget (fun _ => (none : Option (Nat × Nat))) s.kx.dup src with
  | some (q, t) => q == seq && decide (s.time ≤ t + msTicks (atLeast1 (rn s .KX_DUPWIN 0)))
  | none => false

/-- A unicast frame to the port's address is to be acknowledged (R902); a FAULTED port sends nothing (R899). -/
def kxOwe (s : State) (src seq : Nat) : State :=
  if dstate s 9 = 3 then s else setKx s { s.kx with ackOwed := some (src, seq) }

/-- A DATA frame that passed R875 is stored, acknowledged or lost (R901-R904). -/
def kxStore (s : State) (bs : List Byte) : State :=
  let dst := (bs.getD 0 0).toNat
  let src := (bs.getD 1 0).toNat
  let seq := (bs.getD 2 0).toNat % 16
  let mine := dst == kxAddr s
  let bc := dst == 0xFF
  let body := bs.take (bs.length - 2)
  if rb s .KX_CTL 0 0 = false ∨ (mine = false ∧ bc = false ∧ rb s .KX_CFG 0 2 = false) then s
  else if 2 ≤ s.kx.staging.length then
    raise (count (wb s .KX_STAT 0 7 true) .serial 0x85) .serial 86
  else if mine then
    (if kxIsDup s src seq then kxOwe (count s .serial 0x86) src seq
     else kxOwe (setKx s { s.kx with
       staging := s.kx.staging ++ [⟨body, 0⟩], dup := mset (fun _ => none) s.kx.dup src (some (seq, s.time)) }) src seq)
  else setKx s { s.kx with staging := s.kx.staging ++ [⟨body, if bc then 1 else 2⟩] }

/-- A DATA frame has arrived: DST to the CRC (R868, R875, R901). -/
def kxData (s : State) (bs : List Byte) (malformed early : Bool) : State :=
  if kxHearing s = false then s
  else
    let s0 := kxSpoil (kxBusy s) early
    if malformed then s0
    else if kxCrcOk bs = false then count s0 .serial 0x82
    else
      let s1 := kxHeard s0
      if (bs.getD 3 0).toNat > 64 ∨ bs.length ≠ 6 + (bs.getD 3 0).toNat then count s1 .serial 0x83
      else kxStore s1 bs

/-- An ACK frame has arrived: DST to the CRC (R875, R887, R888, R919). -/
def kxAck (s : State) (bs : List Byte) (early : Bool) : State :=
  if kxHearing s = false then s
  else
    let s0 := kxBusy s
    let ok := kxCrcOk bs
    let good := ok && bs.getD 3 0 == 0 && bs.length == 6
    let s1 := if ok = false then count s0 .serial 0x82 else if good then s0 else count s0 .serial 0x83
    match s1.kx.ackWin.bind (kxFind s1) with
    | none => if ok then kxHeard s1 else s1
    | some f =>
      let valid := !early && good && (bs.getD 0 0).toNat == kxAddr s1 && (bs.getD 1 0).toNat == f.dst &&
        (bs.getD 2 0).toNat == 0xE0 + f.seq.getD 0
      let s2 := if valid then kxComplete (setKx s1 { s1.kx with ackWin := none }) f 0 f.payload.length
        else kxSpoil s1 early
      if ok then kxHeard s2 else s2

/-- A BEACON of another node has arrived: DST to the CRC (R874, R875, R894). -/
def kxBeacon (s : State) (bs : List Byte) (early : Bool) : State :=
  if kxHearing s = false then s
  else
    let s0 := kxSpoil (kxBusy s) early
    if kxCrcOk bs then kxHeard s0 else count s0 .serial 0x82

/-- A staged frame is written to the held receive entry, and its slot frees (R901, R905). -/
def kxDeliver (s : State) : State :=
  match s.kx.staging, slotOf s 14 with
  | f :: rest, some x =>
    let s1 := unitSend s x.chan x.e.idx x.e.frags 0 f.bytes
    slotComplete (setKx s1 { s1.kx with staging := rest }) 14 0 f.bytes.length f.cflags
  | _, _ => s

/-! ## Transmit entries, enable, disable, hand-over -/

/-- Whether a transmit entry keeps R907. -/
def kxWellFormed (s : State) (e : Entry) : Bool :=
  let n := if nbit e.uflags 6 then 0 else fragTotal e.frags
  !(nbit e.uflags 7) && decide (e.uflags % 16 ≤ 0xD) && !(e.uarg == kxAddr s) &&
  (nbit e.uflags 6 || (decide (1 ≤ n) && decide (n ≤ 64)))

/-- The payload of a held frame has reached the port: it is held with the frame (R908); a refused access ends the entry with ACCESS (R585). -/
def kxLoaded (s : State) (idx : Nat) : State :=
  match kxFind s idx, moverOf s s.kx.chan idx with
  | some f, some m =>
    if moverHas s s.kx.chan idx (fragTotal m.frags) then
      let (bs, bad, s1) := moverTake s s.kx.chan idx (fragTotal m.frags)
      if bad then kxComplete s1 f 7 bs.length else kxPut (setMover s1 s1.kx.chan idx none) { f with payload := bs }
    else s
  | _, _ => s

/-- The port takes the oldest entry passed to it and begins to read its payload (R907, R908, R911). -/
def kxAccept (s : State) : State :=
  match s.kx.inbox with
  | [] => s
  | e :: rest =>
    let s1 := send (setKx s { s.kx with inbox := rest }) (toFabric .serial) (.ringAccept s.kx.chan)
    if unitRuns s1 9 = false then unitComplete s1 .serial s1.kx.chan e.idx (if mgmt s1 9 = 2 then 3 else 2) 0 0
    else if kxWellFormed s1 e = false then unitComplete s1 .serial s1.kx.chan e.idx 0x84 0 0
    else
      let f : KxFrame := ⟨e.idx, e.uarg, e.uflags % 16, e.uflags / 16 % 4, [], none, 0, false, false⟩
      let s2 := setKx (report s1 .serial 22 0 3 1) { s1.kx with held := s1.kx.held ++ [f] }
      if nbit e.uflags 6 then s2 else moverOpen s2 s2.kx.chan e.idx e.frags (fragTotal e.frags)

/-- The port takes a receive entry: BADFORM where it breaks R905. -/
def kxTakeRx (s : State) (ch : Nat) (e : Entry) : State :=
  if unitRuns s 9 = false then unitComplete s .serial ch e.idx 2 0 0
  else if e.ind ∨ e.uflags ≠ 0 ∨ fragTotal e.frags < 68 then unitComplete s .serial ch e.idx 0x84 0 0
  else setSlot s 14 (some ⟨ch, e, 0, 0⟩)

/-- EN set (R914, R1149): refused while KX_ADDR is 0xFF; SEQ starts at 0 (R892). -/
def kxEnable (s : State) : State :=
  if rb s .KX_CTL 0 0 then s
  else if kxAddr s = 0xFF then wb s .KX_STAT 0 4 true
  else setMgmt (setKx (wb s .KX_CTL 0 0 true) { s.kx with seqOf := [], dup := [], free := false, drawn := none }) 9 1

/-- EN cleared (R915, R921): the frame on the wire finishes with its ACK window, every other held frame and the receive entry complete
with ABANDONED. -/
def kxDisable (s : State) : State :=
  if rb s .KX_CTL 0 0 = false then s
  else
    let s1 := wb s .KX_CTL 0 0 false
    let s2 := if dstate s1 9 = 1 then setUnit s1 9 0 2 else setMgmt s1 9 0
    let keep := match s2.kx.wire, s2.kx.ackWin with
      | .data i, _ => some i
      | _, w => w
    let s3 := (s2.kx.held.filter fun f => !(some f.idx == keep)).foldl (fun s f => kxComplete s f 2 0) s2
    let s4 := wb s3 .KX_STAT 0 0 false
    abandon (stopTimer (setKx s4 { s4.kx with staging := [], lone := [], seqOf := [], dup := [], bcnDue := false, drawn := none })
      tmrBeacon) 14

/-- KX_CTL written. -/
def kxCtl (s : State) (v : Quad) : State := kxShow (if v.getLsbD 0 then kxEnable s else kxDisable s)

/-- BUSFAULT cleared by a write of 1 (R900): only with the line idle for 24 bit-times. -/
def kxClear (s : State) (v : Quad) : State :=
  if v.getLsbD 1 && rb s .KX_STAT 0 1 && s.kx.free then
    kxRestart (setData (wb s .KX_STAT 0 1 false) 9 0)
  else s

/-- KX_STAT written: BUSFAULT by R900, the other flags cleared. -/
def kxStatWrite (s : State) (v : Quad) : State :=
  kxShow (kxClear (wr s .KX_STAT 0 (rd s .KX_STAT 0 &&& ~~~(v &&& 0xF0))) v)

/-- The port sends what it offers at its slot (R877, R879, R881, R892): DE rises, an attempt begins; a start bit recognised by then
makes it defer. -/
def kxSlot (s : State) (startBit : Bool) : State :=
  if s.kx.drawn.isNone ∨ kxWants s = false then s
  else
    let s1 := kxBusy s
    if startBit && connected s .kxRx then s1
    else if s1.kx.bcnDue then setKx s1 { s1.kx with wire := .beacon, bcnDue := false }
    else
      match kxOffer s1 with
      | none => s1
      | some f =>
        let q := mget (fun _ => 0) s1.kx.seqOf f.dst
        let g := { f with seq := some (f.seq.getD q), tries := f.tries + 1, loneSent := f.loneSent || (kxLone s1 && f.dst == 0xFF) }
        let s2 := kxPut s1 g
        let m := if f.seq.isSome then s2.kx.seqOf else mset (fun _ => 0) s2.kx.seqOf f.dst ((q + 1) % 16)
        setKx s2 { s2.kx with wire := .data f.idx, seqOf := m }

/-- The last stop bit of what the port sends ends (R886, R891, R896): DE falls. -/
def kxSent (s : State) : State :=
  let s1 := setKx s { s.kx with wire := .quiet }
  match s.kx.wire with
  | .quiet => s
  | .ack => s1
  | .beacon => count s1 .serial 0x81
  | .data i =>
    match kxFind s1 i with
    | none => s1
    | some f => if f.dst = 0xFF then kxComplete s1 f 0 f.payload.length else setKx s1 { s1.kx with ackWin := some i }

/-- RESET of a hand-over (R599, R916): each held frame returns through its channel with HANDOVER, or is written off where the
channel is disabled or lies in the other world; the write-off is a movement that its unit reports (R643). -/
def kxHandover (s : State) : State :=
  let open_ := rb s .RING_STAT s.kx.chan 0 && chanWorld s s.kx.chan == blockWorld s 2
  let s1 := s.kx.held.foldl (fun s f =>
    if open_ then kxComplete s f 3 0 else setMover (report s .serial 22 3 2 1) s.kx.chan f.idx none) s
  let s2 := s1.kx.inbox.foldl (fun s e =>
    unitComplete (send s (toFabric .serial) (.ringAccept s.kx.chan)) .serial s.kx.chan e.idx 3 0 0) s1
  setKx (stopTimer (endSlot s2 14 3) tmrBeacon) Kx.reset

/-! ## Meanings -/

/-- KOLNEX_ENABLE (R914). -/
def execKolnexEnable (req : Nat) (s : State) : Host.Outcome State Fault Refusal := writeReg s req .KX_CTL 0 fun s => kxCtl s 1

/-- KOLNEX_DISABLE (R915). -/
def execKolnexDisable (req : Nat) (s : State) : Host.Outcome State Fault Refusal := writeReg s req .KX_CTL 0 fun s => kxCtl s 0

/-- KOLNEX_TX_ACCEPT (R908). -/
def execKolnexTxAccept (s : State) : Host.Outcome State Fault Refusal := liveIn s .serial fun s => kxShow (kxAccept s)

/-- KOLNEX_BUS_FREE (R876). -/
def execKolnexBusFree (s : State) : Host.Outcome State Fault Refusal :=
  liveIn s .serial fun s =>
    if s.kx.wire == .quiet && s.kx.ackWin.isNone then kxShow (setKx s { s.kx with free := true, drawn := none }) else s

/-- KOLNEX_SLOT_START (R877, R879). -/
def execKolnexSlotStart (startBit : Bool) (s : State) : Host.Outcome State Fault Refusal :=
  liveIn s .serial fun s => kxShow (kxSlot s startBit)

/-- KOLNEX_READBACK_MISMATCH (R882-R884). -/
def execKolnexReadbackMismatch (inSync : Bool) (s : State) : Host.Outcome State Fault Refusal :=
  liveIn s .serial fun s =>
    if s.kx.wire == .quiet then s else kxShow (if inSync then kxFault s 1 else kxCollide s)

/-- KOLNEX_STUCK (R898). -/
def execKolnexStuck (s : State) : Host.Outcome State Fault Refusal :=
  liveIn s .serial fun s => if rb s .KX_CTL 0 0 = false ∨ dstate s 9 = 3 ∨ connected s .kxRx = false then s else kxShow (kxFault s 2)

/-- KOLNEX_FRAME_SENT (R886, R891). -/
def execKolnexFrameSent (s : State) : Host.Outcome State Fault Refusal := liveIn s .serial fun s => kxShow (kxSent s)

/-- KOLNEX_ACK_RECEIVED (R887). -/
def execKolnexAckReceived (bytes : List Byte) (early : Bool) (s : State) : Host.Outcome State Fault Refusal :=
  liveIn s .serial fun s => kxShow (kxAck s bytes early)

/-- KOLNEX_ACK_TIMEOUT (R888, R895): a start bit on the edge on which the window ends (R918), or on which it opened (R263), wins; a frame heard on the edge empties the LONE list first. -/
def execKolnexAckTimeout (tie heard : Bool) (s : State) : Host.Outcome State Fault Refusal :=
  liveIn s .serial fun s =>
    match s.kx.ackWin with
    | none => s
    | some i =>
      if connected s .kxRx = false then kxShow (kxAckFail s i)
      else if tie then count s .serial 0x08
      else kxShow (kxAckFail (if heard then kxHeard s else s) i)

/-- KOLNEX_DATA_RECEIVED (R901). -/
def execKolnexDataReceived (bytes : List Byte) (malformed early : Bool) (s : State) : Host.Outcome State Fault Refusal :=
  liveIn s .serial fun s => kxShow (kxData s bytes malformed early)

/-- KOLNEX_BEACON_RECEIVED (R894). -/
def execKolnexBeaconReceived (bytes : List Byte) (early : Bool) (s : State) : Host.Outcome State Fault Refusal :=
  liveIn s .serial fun s => kxShow (kxBeacon s bytes early)

/-- KOLNEX_RX_GAP (R869). -/
def execKolnexRxGap (s : State) : Host.Outcome State Fault Refusal :=
  liveIn s .serial fun s =>
    if kxHearing s then kxShow (kxSpoil (count (kxBusy s) .serial 0x84) false) else s

/-- KOLNEX_ACK_SEND (R902): DE rises for the ACK owed. -/
def execKolnexAckSend (s : State) : Host.Outcome State Fault Refusal :=
  liveIn s .serial fun s =>
    if s.kx.ackOwed.isSome && s.kx.wire == .quiet then
      kxShow (kxBusy (setKx s { s.kx with ackOwed := none, wire := .ack }))
    else s

/-- KOLNEX_RX_DELIVER (R905). -/
def execKolnexRxDeliver (s : State) : Host.Outcome State Fault Refusal := liveIn s .serial fun s => kxShow (kxDeliver s)

/-- KOLNEX_LONE_AGE (R893): entries older than KX_LONEWIN leave the list. -/
def execKolnexLoneAge (s : State) : Host.Outcome State Fault Refusal :=
  liveIn s .serial fun s =>
    kxShow (setKx s { s.kx with lone := kxAge s })

/-- KOLNEX_BEACON_DUE (R896): the next one falls due a period later. -/
def execKolnexBeaconDue (s : State) : Host.Outcome State Fault Refusal :=
  liveIn s .serial fun s =>
    if timerDue s tmrBeacon && kxLone s then
      kxShow (startTimer (setKx s { s.kx with bcnDue := true, drawn := none }) tmrBeacon (msTicks (atLeast1 (rn s .KX_LONEBCN 0))))
    else s

/-- KOLNEX_FAULT_CLEAR (R900). -/
def execKolnexFaultClear (req : Nat) (v : Byte) (s : State) : Host.Outcome State Fault Refusal :=
  writeReg s req .KX_STAT 0 fun s => kxStatWrite s (BitVec.ofNat 32 v.toNat)

end Sys2Proof.Machine
end

