-- ==== Sys2Proof/Machine/Head.lean ====
section
/-!
DEFINITION. The ADC's requests (R793) and the head's shared operations (chapter 14): supply, tokens, cutting work short, faults and
the patterns of a line.
-/
namespace Sys2Proof.Machine

/-! ## ADC requests (R793) -/

/-- Whether request `b`, made no earlier than request `a`, goes before it: the more urgent level first; within a level the earliest, and of
requests made on the same edge that of the lower input. -/
def adcBetter (a b : AdcReq) : Bool := decide (b.level < a.level) || (b.level == a.level && b.made == a.made && decide (b.input < a.input))

/-- The request that starts next: the most urgent level's earliest. -/
def adcPick : List AdcReq → Option AdcReq
  | [] => none
  | r :: rs => match adcPick rs with
    | none => some r
    | some x => some (if adcBetter r x then x else r)

/-- The next waiting conversion starts where none is in progress, and takes 500 ns (a conversion is never interrupted). -/
def adcStart (s : State) : State :=
  match s.pp.adcCur, adcPick s.pp.adcWait with
  | none, some r => startTimer { s with pp := { s.pp with adcCur := some r, adcWait := s.pp.adcWait.erase r } } tmrAdc 12
  | _, _ => s

/-- A conversion is requested. -/
def adcRequest (s : State) (level input : Nat) (who : AdcWho) : State :=
  adcStart { s with pp := { s.pp with adcWait := s.pp.adcWait ++ [⟨level, input, who, s.cycles⟩] } }

/-- Millrace requests an AIN0/AIN1 pair (R694, R703). -/
def headPair (s : State) : State := adcRequest (adcRequest s 1 0 (.head 0)) 1 1 (.head 1)

/-! ## Rows and patterns -/

/-- Bytes of a dot row (R681). -/
def rowBytes (s : State) : Nat := rn s .MR_DOTS 0 / 8

/-- Dot `d` of a row: bit 7 of byte j is dot 8j (R681). -/
def dotOn (row : List Byte) (d : Nat) : Bool := (row.getD (d / 8) 0).getLsbD (7 - d % 8)

/-- On-dots among d - 2, d - 1, d + 1, d + 2 of a row; dots outside it are off (R697). -/
def near4 (row : List Byte) (d n : Nat) : Nat :=
  (([d + 1, d + 2].filter fun x => decide (x < n)) ++ ((if d ≥ 1 then [d - 1] else []) ++ (if d ≥ 2 then [d - 2] else []))).countP
    fun x => dotOn row x

/-- A level clamped to 0-15 (R698). -/
def clampLevel (x : Int) : Nat := if x < 0 then 0 else if x > 15 then 15 else x.toNat

/-- The level of dot `d` (R697, R698): rows of lines n, n-1, n-2, density offset and HOFF. -/
def dotLevel (s : State) (row h1 h2 : List Byte) (dens : Int) (hoff d : Nat) : Nat :=
  if dotOn row d = false then 0
  else
    let n := rn s .MR_DOTS 0
    let h := 2 * b01 (dotOn h1 d) + b01 (dotOn h2 d)
    let nn := near4 row d n + near4 h1 d n + near4 h2 d n
    let l0 := rf s .MR_ETAB (64 * b01 (rb s .MR_CTL 0 1) + 16 * h + nn) 3 0
    let l1 := clampLevel (l0 + dens)
    if h ≥ 2 then clampLevel (l1 - hoff) else l1

/-- The four patterns of a line (R699): SP0 takes level bit 3, SP3 level bit 0. -/
def linePatterns (s : State) (row h1 h2 : List Byte) (dens : Int) (hoff : Nat) : List (List Bool) :=
  let levels := (List.range (rn s .MR_DOTS 0)).map fun d => dotLevel s row h1 h2 dens hoff d
  [3, 2, 1, 0].map fun b => levels.map fun l => nbit l b

/-- The line is being printed. -/
def lineLive (l : MrLine) : Bool := l.stage != .ended

/-- Lanes in use (R680). -/
def headLanes (s : State) : Nat := rf s .MR_GEOM 0 1 0 + 1

/-- Dots of a lane, LD (R679). -/
def laneDots (s : State) : Nat := rn s .MR_DOTS 0 / headLanes s

/-- The bits of lane `k` in a pattern, in the order in which they shift (R680, R682). -/
def laneBits (s : State) (pat : List Bool) (k : Nat) : List Bool :=
  let l := (pat.drop (k * laneDots s)).take (laneDots s)
  if rb s .MR_GEOM 0 5 then l else l.reverse

/-- SHRATE as the register gives it (chapter 14, Registers). -/
def shRate (s : State) : Nat := min (max (rf s .MR_SHRATE 0 6 0) 1) 64

/-- The settings taken at the latest line start hold (R735): a schedule runs or a line is being printed. -/
def settingsHeld (s : State) : Bool := s.mr.running || (match s.mr.line with | some l => lineLive l | none => false)

/-- A pattern's shift starts: LD bits at SHRATE x 0.25 MHz (R682, R683). Before a schedule SHRATE is the register's; then it is the one of the
latest line start (R735). -/
def shiftStart (s : State) : State :=
  let r := if settingsHeld s then s.mr.rate else shRate s
  startTimer { s with mr := { s.mr with rate := r } } tmrShift ((96 * laneDots s + r - 1) / r)

/-- Strobe groups in use (R680). -/
def headGroups (s : State) : Nat := rf s .MR_GEOM 0 4 2 + 1

/-- Dots of a group (R679). -/
def groupDots (s : State) : Nat := rn s .MR_DOTS 0 / headGroups s

/-- Dots to fire in a group of a pattern. -/
def groupCount (s : State) (pat : List Bool) (g : Nat) : Nat :=
  ((pat.drop (g * groupDots s)).take (groupDots s)).countP id

/-- Whether no dot of a pattern is set (R693). -/
def patEmpty (pat : List Bool) : Bool := pat.all fun b => !b

/-- The first sub-pulse from `k` on whose pattern has a dot set. -/
def nextSub (pats : List (List Bool)) (k : Nat) : Option Nat :=
  (List.range 4).find? fun j => decide (k ≤ j) && !(patEmpty (pats.getD j []))

/-! ## Supply -/

/-- HD_PWRN follows R685: low while MR_CTL.EN is 1 and DATA_STATE is not FAULTED; when it falls the power delay starts. -/
def headPower (s : State) : State :=
  let want := rb s .MR_CTL 0 0 && dstate s 0 != 3
  if want = rb s .MR_STAT 0 7 then s
  else
    let s1 := { wb s .MR_STAT 0 7 want with mr := { s.mr with powered := false } }
    if want then startTimer s1 tmrHeadPwr (usTicks (rn s1 .MR_PWRDLY 0)) else stopTimer s1 tmrHeadPwr

/-! ## Tokens (R650, R704, R708) -/

/-- Tokens drawn go back to AVAIL, which then holds the line's grant again: between phases none is drawn. -/
def returnTokens (s : State) : State :=
  { report s .print 20 3 2 s.mr.drawn with
    mr := { s.mr with avail := (if s.mr.drawn = 0 then s.mr.avail else s.mr.grant), drawn := 0 } }

/-- What remains in AVAIL is retired. -/
def retireTokens (s : State) : State :=
  { report s .print 20 2 1 s.mr.avail with mr := { s.mr with avail := 0, grant := 0 } }

/-! ## The line request (R692) -/

/-- Lines held and not yet started. -/
def linesWaiting (s : State) : Nat := (s.mr.held.map fun e => e.lines - e.started).sum

/-- The level behind source 64, with MR_REQLOW as the settings of R735 hold. -/
def reqLevel (s : State) : Bool :=
  decide (linesWaiting s < (if settingsHeld s then s.mr.reqLow else rn s .MR_REQLOW 0)) && decide (s.mr.held.length < 4)

/-- Source 64 rises with the level. -/
def mrReq (s : State) : State :=
  let l := reqLevel s
  let s1 := { s with mr := { s.mr with req := l } }
  if l && !s.mr.req then raise s1 .print 64 else s1

/-! ## Cutting work short (R726, R727, R729) -/

/-- Every held entry completes: that of the interrupted line with `status`, every other with `rest`, each with its DONE; tokens
return and AVAIL is retired; no schedule runs. -/
def headDrop (s : State) (status rest : Nat) : State :=
  let cur := match s.mr.line with
    | some l => if lineLive l then some l.idx else none
    | none => none
  let s1 := retireTokens (returnTokens s)
  let s2 := s1.mr.held.foldl (fun s e =>
    unitComplete s .print s.mr.chan e.e.idx (if cur = some e.e.idx then status else rest) e.done 0) s1
  let s3 := stopTimer (stopTimer (stopTimer (stopTimer { s2 with mr := { s2.mr with
    held := [], ahead := [], next := none, nextShifted := false, line := none, running := false, hold := false,
    keepHist := false, hist1 := [], hist2 := [], cut := none } } tmrPhase) tmrPulse) tmrStrobe) tmrShift
  mrReq (if rb s3 .MR_CTL 0 0 then startTimer s3 tmrHeadAdc (msTicks 1) else s3)

/-- The end of a drain (R726): the entries complete and DATA_STATE becomes IDLE. -/
def headCutEnd (s : State) (status : Nat) : State := headPower (setData (headDrop s status (if status = 3 then 3 else 2)) 0 0)

/-- Work is cut at the next sub-pulse boundary (R726): DRAINING while a phase is in progress, at once otherwise. A cut that comes
while another drains changes nothing more. -/
def headCut (s : State) (status : Nat) : State :=
  if 2 ≤ dstate s 0 then s
  else
    let busy : Bool := match s.mr.line with
      | some l => l.stage == .firing
      | none => false
    if busy then setData { s with mr := { s.mr with cut := some status } } 0 2
    else if s.mr.held.isEmpty && dstate s 0 == 0 then headPower s
    else headCutEnd (if dstate s 0 = 1 then setData s 0 2 else s) status

/-- Entries are given up between lines while a schedule runs (R741): they complete, and the schedule, with no line to come, ends at its last
line's period. -/
def headDropWaiting (s : State) (status : Nat) : State :=
  let s1 := s.mr.held.foldl (fun s e => unitComplete s .print s.mr.chan e.e.idx status e.done 0) s
  mrReq (stopTimer { s1 with mr := { s1.mr with
    held := [], ahead := [], next := none, nextShifted := false, line := s1.mr.line.map fun l => { l with cont := false } } } tmrShift)

/-- The channel abandons the entries Millrace holds (R595, R599, R726, R741). -/
def headAbandon (s : State) (status : Nat) : State :=
  let between : Bool := match s.mr.line with | some l => !lineLive l | none => false
  if between && s.mr.running && dstate s 0 == 1 then headDropWaiting s status else headCut s status

/-- The feeder stops being able to step (R729): during a line Millrace cuts as for a disable, with FEEDSTOP. -/
def headFeedStop (s : State) : State :=
  match s.mr.line with
  | some l => if lineLive l then headCut s 0x85 else s
  | none => s

/-- A fault of the head (R723, R727, R1150): the strobes are low, entries complete, the fault bit sets, FAULTED with HD_PWRN high,
source 65 raised. `bit` is the bit of MR_FAULT, `status` that of the interrupted line's entry, and of every entry still held
while the head drains. -/
def headFault (s : State) (bit status : Nat) (kill : Bool) : State :=
  let s1 := headDrop { s with dev := { s.dev with kill := s.dev.kill || kill } } status
    (if dstate s 0 = 2 then status else 2)
  raise (headPower (setData (wb s1 .MR_FAULT 0 bit true) 0 3)) .print 65

/-- The strobe-kill path (R721-R723): STROBE_KILL is counted and KILL or STBMAX latched. -/
def headKill (s : State) (bit status : Nat) : State := headFault (count s .print 0x3F) bit status true

end Sys2Proof.Machine
end

