-- ==== Sys2Proof/Machine/Feeder.lean ====
section
/-!
DEFINITION. The feeder (chapter 15): accepting, driving and cancelling half-steps, chopping, the yank detector, its faults, and
the meanings of its commands.
-/
namespace Sys2Proof.Machine

/-! ## State of the feeder -/

/-- The state with the feeder replaced. -/
def setFd (s : State) (f : Feeder) : State := { s with pp := { s.pp with feed := f } }

/-- Half-steps accepted and not executed (R757). -/
def feedPend (s : State) : Nat := (s.pp.feed.segs.map fun g => g.count - g.started).sum

/-- Moves queued: those with half-steps left, and one whose last half-step runs. -/
def feedMoves (s : State) : Nat :=
  s.pp.feed.segs.countP (fun g => g.isMove) + (match s.pp.feed.cur with | some h => b01 h.moveLast | none => 0)

/-- Microsteps per half-step (R746). -/
def feedRes (s : State) : Nat := 2 ^ rf s .PP_FCFG 0 5 4

/-- The detector is in the learning windows of a run (PP_FSTAT.LEARN). -/
def feedLearns (s : State) : Bool :=
  rb s .PP_YCFG 0 0 && !s.pp.feed.floating &&
    (s.pp.feed.newRun || decide (s.pp.feed.learnN < min (max (rn s .PP_RIPLEARN 0) 4) 64))

/-- PP_PEND, PP_MOVESTAT and PP_FSTAT.LEARN follow the feeder, and DATA_STATE is ACTIVE while half-steps are pending or executing
and IDLE otherwise (R788). -/
def feedShow (s : State) : State :=
  let s1 := wr s .PP_PEND 0 (BitVec.ofNat 32 (feedPend s % 2 ^ 20))
  let s2 := wb (wf s1 .PP_MOVESTAT 0 2 0 (feedMoves s)) .PP_FSTAT 0 5 (feedLearns s)
  if dstate s2 1 ≤ 1 then setData s2 1 (b01 (s2.pp.feed.cur.isSome || decide (feedPend s2 ≠ 0))) else s2

/-- A line may step the paper: the feeder is ENABLED and not FAULTED (R729). -/
def feedOk (s : State) : Bool := mgmt s 1 == 1 && dstate s 1 != 3

/-! ## Chopping (R746, R747) -/

/-- Magnitudes of windings A and B at the electrical position, from ITAB. -/
def feedMag (s : State) (w : Nat) : Nat :=
  let u := s.pp.feed.phi % 32
  let a := if u ≤ 16 then 16 - u else u - 16
  rn s .PP_ITAB (if w = 0 then a else 16 - a)

/-- The sign of a winding at the electrical position, `true` for the first terminal. -/
def feedSign (s : State) (w : Nat) : Bool :=
  let p := s.pp.feed.phi
  if w = 0 then decide (p < 16 ∨ 48 < p) else decide (p < 32)

/-- The current amplitude: IRUN while stepping, IHOLD while holding. -/
def feedAmp (s : State) : Nat :=
  if s.pp.feed.cur.isSome || decide (feedPend s ≠ 0) then rn s .PP_IRUN 0 else rn s .PP_IHOLD 0

/-- The setpoint of a winding. -/
def feedSetp (s : State) (w : Nat) : Nat :=
  let p := s.pp.feed.phi
  let zero := if w = 0 then decide (p = 16 ∨ p = 48) else decide (p = 0 ∨ p = 32)
  if zero then 0 else feedAmp s * feedMag s w / 255

/-- Winding `w`. -/
def windOf (s : State) (w : Nat) : Winding := if w = 0 then s.pp.feed.windA else s.pp.feed.windB

/-- The state with winding `w` replaced. -/
def setWind (s : State) (w : Nat) (x : Winding) : State :=
  if w = 0 then setFd s { s.pp.feed with windA := x } else setFd s { s.pp.feed with windB := x }

/-- The winding's outputs go low (R747 step 4); its on-time is counted for the detector. -/
def windOff (s : State) (w : Nat) : State :=
  let x := windOf s w
  if x.on then stopTimer (setWind s w { x with on := false, onTicks := x.onTicks + (s.time - x.since) }) (tmrConv w) else s

/-- The winding starts a chop period: its terminal is driven where the setpoint is not 0. -/
def windOn (s : State) (w : Nat) : State :=
  let sp := feedSetp s w
  let x := windOf s w
  if sp = 0 then setWind s w { x with setp := 0 }
  else startTimer (setWind s w { x with setp := sp, plus := feedSign s w, on := true, since := s.time }) (tmrConv w) (usTicks 2)

/-- PP_CHOP in microseconds. -/
def chopUs (s : State) : Nat := min (max (rf s .PP_CHOP 0 6 0) 20) 100

/-- The windings' outputs of a new chop period (R747). -/
def chopWind (s : State) : State :=
  startTimer (windOn (windOn (windOff (windOff s 0) 1) 0) 1) tmrChop (usTicks (chopUs s))

/-- Both windings float: no chopping, no hold; the detector's window is dropped and back-EMF sampling begins (R747, R763). -/
def feedFloat (s : State) : State :=
  let s1 := stopTimer (stopTimer (windOff (windOff s 0) 1) tmrChop) tmrHold
  if s1.pp.feed.floating then s1
  else
    startTimer (setFd s1 { s1.pp.feed with
      floating := true, floatAt := s1.time, holding := false, newRun := true, bemfN := 0,
      windA := { s1.pp.feed.windA with onTicks := 0 }, windB := { s1.pp.feed.windB with onTicks := 0 } }) tmrBemf (usTicks 250)

/-- A chop period starts (R747). A feeder that holds with IHOLD = 0 floats at once (R756), which a changed IHOLD brings about here. -/
def chopStart (s : State) : State :=
  if s.pp.feed.holding && rn s .PP_IHOLD 0 == 0 then feedFloat s else chopWind s

/-! ## Holding, cancelling and faults -/

/-- With nothing pending or executing, the feeder holds at IHOLD for PP_HOLDT, or floats at once where IHOLD is 0 (R756). -/
def feedHold (s : State) : State :=
  let f := s.pp.feed
  if f.floating || f.holding || f.cur.isSome || decide (feedPend s ≠ 0) then s
  else if rn s .PP_IHOLD 0 = 0 then feedFloat s
  else
    startTimer (setFd s { f with
      holding := true, newRun := true, winAt := s.time, winLen := msTicks 1,
      windA := { f.windA with onTicks := 0, since := s.time }, windB := { f.windB with onTicks := 0, since := s.time } })
      tmrHold (msTicks (rn s .PP_HOLDT 0))

/-- A move ends: PP_MOVESTAT.LAST, and source 72 where its IRQ is 1 (R755). -/
def moveEnds (s : State) (irq cancelled : Bool) : State :=
  let s1 := wb s .PP_MOVESTAT 0 4 cancelled
  if irq then raise s1 .print 72 else s1

/-- A cancellation (R758, R759): every pending half-step moves to CANCEL in one update, the half-step in progress stops at its
microstep, and every move ends CANCELLED. -/
def feedCancel (s : State) : State :=
  let f := s.pp.feed
  let moves := (f.segs.filter fun g => g.isMove).map fun g => g.irq
  let moves := match f.cur with
    | some h => if h.moveLast then h.irq :: moves else moves
    | none => moves
  let s1 := report s .print 21 3 2 (feedPend s)
  let s2 := setFd s1 { f with
    segs := [], cur := none, contDue := none, lastEnd := (if f.cur.isSome then s.time else f.lastEnd),
    lastStop := f.cur.isSome || f.lastStop }
  feedShow (moves.foldl (fun s irq => moveEnds s irq true) s2)

/-- A feeder fault (R748, R765, R774, R781, R788, R798): the bit sets, and where the feeder is not FAULTED already, pending
half-steps are cancelled, both windings float, and the head stops its line (R729). -/
def feedFault (s : State) (bit : Nat) : State :=
  let s1 := wb s .PP_FFAULT 0 bit true
  if dstate s1 1 = 3 then s1
  else
    let f := s1.pp.feed
    headFeedStop (setData (feedShow (feedFloat (feedCancel (setFd s1 { f with trip := some (s1.time, f.windA.on, f.windB.on) })))) 1 3)

/-- The cutter's interlock (R781). -/
def feedLocked (s : State) : Bool := dstate s 2 == 1 && rb s .PP_FSAFE 0 2

/-- The feeder accepts half-steps (R749, R757), or cancels them at once where the interlock forbids them (R781). -/
def feedAccept (s : State) (g : Seg) : State :=
  if g.count = 0 then s
  else
    let s1 := feedShow (setFd (report s .print 21 0 3 g.count) { s.pp.feed with segs := s.pp.feed.segs ++ [g] })
    if feedLocked s1 then feedFault (count s1 .print 0x4C) 4 else s1

/-- The line schedule's half-steps of a line (R749, R751). -/
def feedLine (s : State) (a q : Nat) : State :=
  feedAccept s { isMove := false, dir := !(rb s .PP_FCFG 0 6), count := rf s .PP_FCFG 0 3 0, started := 0, a := a, q := q,
                 tstep := 0, tstart := 0, rampn := 0, ramp := false, cont := false, irq := false, still := false }

/-- A commit of PP_MOVE (R752). -/
def feedMove (s : State) (v : Quad) : State :=
  let n := fld v 15 0
  if n = 0 ∨ 4 ≤ feedMoves s ∨ feedOk s = false then wb s .PP_FSTAT 0 4 true
  else
    feedAccept s { isMove := true, dir := !(v.getLsbD 16), count := n, started := 0, a := 0, q := 0,
                   tstep := rf s .PP_TSTEP 0 19 0, tstart := rf s .PP_TSTART 0 19 0, rampn := rn s .PP_RAMPN 0,
                   ramp := v.getLsbD 19, cont := v.getLsbD 17, irq := v.getLsbD 18, still := false }

/-! ## The yank detector (R760-R766) -/

/-- A yank (R765): ROLL_YANK, PP_FFAULT.YANK and source 68; the feeder faults where YANKSTOP is 1. -/
def feedYank (s : State) : State :=
  let s1 := raise (wb (count s .print 0x48) .PP_FFAULT 0 0 true) .print 68
  if rb s1 .PP_FSAFE 0 3 then feedFault s1 0 else s1

/-- The on-time of both windings in the window that ends now. -/
def windowOn (s : State) : Nat :=
  let part (x : Winding) : Nat := x.onTicks + (if x.on then s.time - x.since else 0)
  part s.pp.feed.windA + part s.pp.feed.windB

/-- A window's effort (R760): both on-times over twice the length, in 1/256. -/
def effort (on len : Nat) : Nat := on * 256 / (2 * len)

/-- The baseline after a window that does not deviate (R762): (E - B) / 16 rounded towards zero. -/
def newBase (b e : Nat) : Nat := if b ≤ e then b + (e - b) / 16 else b - (b - e) / 16

/-- A window's effort is learnt or compared (R761, R762). -/
def judge (s : State) (e : Nat) : State :=
  let f := s.pp.feed
  if rb s .PP_YCFG 0 0 = false then setFd s { f with learnN := 0, learnSum := 0, devN := 0, newRun := true }
  else
    let n := if f.newRun then 0 else f.learnN
    let sum := if f.newRun then 0 else f.learnSum
    let goal := min (max (rn s .PP_RIPLEARN 0) 4) 64
    if n < goal then
      let s1 := setFd s { f with newRun := false, learnN := n + 1, learnSum := sum + e, devN := 0 }
      if n + 1 = goal then wr s1 .PP_RIPBASE 0 (BitVec.ofNat 32 ((sum + e) / goal)) else s1
    else
      let b := rn s .PP_RIPBASE 0
      let dist := if b ≤ e then e - b else b - e
      if max (b * rn s .PP_RIPTH 0 / 256) 4 ≤ dist then
        (if min (max (rn s .PP_RIPN 0) 1) 15 ≤ f.devN + 1 then feedYank (setFd s { f with devN := 0 })
         else setFd s { f with devN := f.devN + 1 })
      else wr (setFd s { f with devN := 0 }) .PP_RIPBASE 0 (BitVec.ofNat 32 (newBase b e))

/-- The window in progress ends, where its length has passed (R760). -/
def windowEnd (s : State) : State :=
  let f := s.pp.feed
  let len := s.time - f.winAt
  if f.floating ∨ (f.cur.isNone ∧ f.holding = false) ∨ len = 0 ∨ len < f.winLen then s
  else
    let e := effort (windowOn s) len
    let s1 := setFd s { f with
      winAt := s.time,
      windA := { f.windA with onTicks := 0, since := s.time }, windB := { f.windB with onTicks := 0, since := s.time } }
    feedShow (judge (wr s1 .PP_RIPLAST 0 (BitVec.ofNat 32 (e % 256))) e)

/-- The detector as a half-step of a period starts: a run begins at the first half-step after standstill or floating, and where the
period differs by more than 1/8 from the run's (R761). -/
def windowStep (f : Feeder) (now period : Nat) : Feeder :=
  let goesOn := !f.floating && decide (f.lastEnd = now) && !f.lastStop && decide (0 < f.runPeriod)
  let far := decide (f.runPeriod < 8 * (if f.runPeriod ≤ period then period - f.runPeriod else f.runPeriod - period))
  let fresh := !goesOn || far
  let clearW (x : Winding) : Winding := { x with onTicks := 0, since := now }
  { f with
    newRun := fresh || (f.newRun && !f.holding), runPeriod := (if fresh then period else f.runPeriod),
    winLen := min period (msTicks 1),
    winAt := (if fresh || decide (period ≤ msTicks 1) then now else f.winAt),
    windA := (if fresh then clearW f.windA else f.windA), windB := (if fresh then clearW f.windB else f.windB) }

/-! ## Half-steps (R750-R755) -/

/-- Half-step `j`'s ramped period of a move (R753): up from standstill, down to a stop. -/
def rampPeriod (g : Seg) (j : Nat) : Nat :=
  let back := g.count - 1 - j
  let up := g.still && decide (j < g.rampn)
  let down := !g.cont && decide (back < g.rampn)
  if !g.ramp || !(up || down) then g.tstep
  else
    let i := if up && down then min j back else if up then j else back
    ((g.tstart : Int) - ((g.tstart : Int) - g.tstep) * i / g.rampn).toNat

/-- A half-step starts: its first microstep is applied, it is booked EXEC, counted in PP_POS, and chopping begins where the windings
floated. -/
def stepStart (s : State) (h : HalfStep) : State :=
  let f := s.pp.feed
  let d := 8 / h.res
  let s1 := setFd s { windowStep f s.time h.period with
    cur := some h, holding := false, contDue := none, floating := false,
    phi := (if h.dir then f.phi + d else f.phi + 64 - d) % 64 }
  let s2 := wr s1 .PP_POS 0 (if h.dir then rd s1 .PP_POS 0 + 1 else rd s1 .PP_POS 0 - 1)
  let s3 := feedShow (stopTimer (report s2 .print 21 3 1 1) tmrHold)
  if f.floating then
    chopStart (setFd (stopTimer s3 tmrBemf) { s3.pp.feed with
      windA := { s3.pp.feed.windA with overN := 0 }, windB := { s3.pp.feed.windB with overN := 0 } })
  else s3

/-- The queue with one more half-step of its first source started. -/
def takeStep (f : Feeder) (g : Seg) (rest : List Seg) : Feeder :=
  { f with segs := if g.started + 1 = g.count then rest else { g with started := g.started + 1 } :: rest }

/-- A line-schedule half-step starts where it is due, counting FEED_LATE where it waited behind earlier ones (R751). -/
def lineStepDue (s : State) (g : Seg) (rest : List Seg) : State :=
  let due (k : Nat) : Nat := g.a + k * g.q / g.count
  let k := g.started
  if s.time < due k then s
  else
    let s1 := if due k < s.pp.feed.lastEnd then count s .print 0x49 else s
    stepStart (setFd s1 (takeStep s1.pp.feed g rest))
      { dir := g.dir, res := feedRes s1, micro := 1, every := g.q / (g.count * feedRes s1), at_ := s1.time,
        period := due (k + 1) - due k, moveLast := false, irq := false, cont := false }

/-- A move's half-step starts (R753, R754): the ramp, the lateness of a CONT move's successor, and the regained period. -/
def moveStepDue (s : State) (g : Seg) (rest : List Seg) : State :=
  let f := s.pp.feed
  let still := if g.started = 0 then f.contDue.isNone && (f.lastStop || decide (f.lastEnd < s.time)) else g.still
  let acc0 := if g.started = 0 && still then 0 else rn s .PP_LATEACC 0
  let acc1 := match f.contDue with
    | some t => acc0 + (s.time - t)
    | none => acc0
  let rebase := decide (usTicks (rn s .PP_GIVEUP 0) < acc1)
  let s1 := if rebase then wb (count s .print 0x4A) .PP_FSTAT 0 3 true else s
  let acc := if rebase then 0 else acc1
  let g := { g with still := still }
  let p := rampPeriod g g.started
  let cut := min acc (p * min (rf s1 .PP_REGAIN 0 5 0) 50 / 100)
  let q := max (p - cut) (min p (rf s1 .PP_TSMIN 0 19 0))
  let s2 := wr s1 .PP_LATEACC 0 (BitVec.ofNat 32 ((acc - (p - q)) % 2 ^ 24))
  let last := decide (g.started + 1 = g.count)
  stepStart (setFd s2 (takeStep s2.pp.feed g rest))
    { dir := g.dir, res := feedRes s2, micro := 1, every := q / feedRes s2, at_ := s2.time, period := q,
      moveLast := last, irq := last && g.irq, cont := last && g.cont }

/-- The next half-step starts where none executes; a window that ends on the same edge is judged first (R766). -/
def halfStepDue (s : State) : State :=
  let s0 := windowEnd s
  let f := s0.pp.feed
  match f.cur, f.segs with
  | none, g :: rest => if dstate s0 1 = 3 then s0 else if g.isMove then moveStepDue s0 g rest else lineStepDue s0 g rest
  | _, _ => s0

/-- The next microstep of a half-step is applied, or the half-step ends (R746, R750, R754-R756). -/
def microStep (s : State) : State :=
  let f := s.pp.feed
  match f.cur with
  | none => s
  | some h =>
    if h.micro < h.res then
      (if s.time < h.at_ + h.micro * h.every then s
       else
        let d := 8 / h.res
        setFd s { f with
          cur := some { h with micro := h.micro + 1 }, phi := (if h.dir then f.phi + d else f.phi + 64 - d) % 64 })
    else if s.time < h.at_ + h.period then s
    else
      let s0 := windowEnd s
      if dstate s0 1 = 3 then s0
      else
        let f := s0.pp.feed
        let late := h.moveLast && h.cont && !(f.segs.any fun g => g.isMove)
        let s1 := setFd s0 { f with
          cur := none, lastEnd := s.time, lastStop := h.moveLast && !h.cont,
          contDue := (if late then some s.time else f.contDue) }
        let s2 := if h.moveLast then moveEnds s1 h.irq false else s1
        feedHold (feedShow s2)

/-! ## Current conversions (R747, R748) -/

/-- Winding `w` was in its on-time when a fault on this edge floated it (R798). -/
def onAtTrip (s : State) (w : Nat) : Bool :=
  match s.pp.feed.trip with
  | some (t, a, b) => t == s.time && (if w = 0 then a else b)
  | none => false

/-- A current conversion of winding `w` has ended with a code (R747 step 3, R748). A window that ends on the edge of an overcurrent is judged
too, and an overcurrent on the edge of another fault still counts (R798). -/
def windCode (s : State) (w code : Nat) : State :=
  let x := windOf s w
  if x.on = false && !(onAtTrip s w) then s
  else
    let over2 := if rn s .PP_IMAX 0 ≤ code then x.overN + 1 else 0
    if 2 ≤ over2 then
      (let s1 := windowEnd (setWind s w { x with overN := 0 })
       feedFault (count s1 .print 0x4B) 3)
    else
      let s1 := setWind s w { x with overN := over2 }
      if x.setp ≤ code then windOff s1 w else s1

/-- The end of a back-EMF sample (R763). -/
def bemfCode (s : State) (i code : Nat) : State :=
  let f := s.pp.feed
  let s1 := setFd s { f with bemf := mset (fun _ => 0) f.bemf i code }
  if i ≠ 7 ∨ f.floating = false ∨ s.time < f.floatAt + msTicks 2 then s1
  else
    let g := s1.pp.feed
    let c (k : Nat) : Nat := mget (fun _ => 0) g.bemf k
    let dist (a b : Nat) : Nat := if a ≤ b then b - a else a - b
    let th := rn s1 .PP_BEMFTH 0
    if rb s1 .PP_YCFG 0 1 && (decide (th ≤ dist (c 4) (c 5)) || decide (th ≤ dist (c 6) (c 7))) then
      (if atLeast1 (rn s1 .PP_BEMFN 0) ≤ g.bemfN + 1 then feedYank (setFd s1 { g with bemfN := 0 })
       else setFd s1 { g with bemfN := g.bemfN + 1 })
    else setFd s1 { g with bemfN := 0 }

/-! ## Enable, disable and fault bits -/

/-- The feeder's part of R774: it faults with COVER while the cover is open and COVSTOP is 1. -/
def feedCover (s : State) : State := if s.pp.cover && rb s .PP_FSAFE 0 0 then feedFault s 1 else s

/-- The code of a refused enable, 0 where none (R792). -/
def feedCfgCode (s : State) : Nat :=
  if rn s .PP_IRUN 0 = 0 ∨ rn s .PP_IMAX 0 ≤ rn s .PP_IRUN 0 then 1
  else if rn s .PP_IRUN 0 < rn s .PP_IHOLD 0 then 2
  else if rf s .PP_FCFG 0 3 0 = 0 ∨ 8 < rf s .PP_FCFG 0 3 0 then 3
  else 0

/-- PP_FCTL.EN written 1 (R792, R1149). -/
def feedEnable (s : State) : State :=
  if rb s .PP_FCTL 0 0 then s
  else if feedCfgCode s ≠ 0 then wf (wb s .PP_FSTAT 0 0 true) .PP_FSTAT 0 2 1 (feedCfgCode s)
  else feedCover (setMgmt (wb s .PP_FCTL 0 0 true) 1 1)

/-- PP_FCTL.EN cleared (R790, R1148). -/
def feedDisable (s : State) : State :=
  if rb s .PP_FCTL 0 0 = false then s
  else
    let s1 := wb s .PP_FCTL 0 0 false
    if dstate s1 1 = 3 then setMgmt s1 1 0
    else if dstate s1 1 = 0 then headFeedStop (setMgmt s1 1 0)
    else headFeedStop (setData (feedHold (feedCancel (setUnit s1 1 0 2))) 1 0)

/-- PP_FCTL.CANCEL (R759). -/
def feedCtlCancel (s : State) : State := feedHold (feedCancel s)

/-- Whether the paper-end sensor reads ABSENT. -/
def paperAbsent (s : State) : Bool :=
  (List.range 4).any fun k => rf s .PP_SNSCFG k 1 0 == 1 && rb s .PP_SNSSTAT k 0

/-- A write of 1 to bits of PP_FFAULT (R791). -/
def feedClear (s : State) (v : Byte) : State :=
  let keep := 2 * b01 s.pp.cover + 4 * b01 (paperAbsent s)
  let m := BitVec.ofNat 32 v.toNat &&& ~~~(BitVec.ofNat 32 keep)
  let s1 := wr s .PP_FFAULT 0 (rd s .PP_FFAULT 0 &&& ~~~m)
  if dstate s1 1 = 3 ∧ rf s1 .PP_FFAULT 0 4 0 = 0 then setData s1 1 0 else s1

/-! ## Meanings -/

/-- FEEDER_ENABLE (R792). -/
def execFeederEnable (req : Nat) (s : State) : Host.Outcome State Fault Refusal := writeReg s req .PP_FCTL 0 feedEnable

/-- FEEDER_DISABLE (R790). -/
def execFeederDisable (req : Nat) (s : State) : Host.Outcome State Fault Refusal := writeReg s req .PP_FCTL 0 feedDisable

/-- FEED_CANCEL (R759). -/
def execFeedCancel (req : Nat) (s : State) : Host.Outcome State Fault Refusal := writeReg s req .PP_FCTL 0 feedCtlCancel

/-- FEED_MOVE (R752). -/
def execFeedMove (req : Nat) (v : Quad) (s : State) : Host.Outcome State Fault Refusal :=
  writeReg s req .PP_MOVE 0 fun s => feedMove s v

/-- HALF_STEP_DUE (R751). -/
def execHalfStepDue (s : State) : Host.Outcome State Fault Refusal := liveIn s .print halfStepDue

/-- FEED_MICROSTEP (R746). -/
def execFeedMicrostep (s : State) : Host.Outcome State Fault Refusal := liveIn s .print microStep

/-- CHOP_PERIOD_START (R747). -/
def execChopPeriodStart (s : State) : Host.Outcome State Fault Refusal :=
  liveIn s .print fun s => if timerDue s tmrChop then chopStart s else s

/-- CHOP_ONTIME_LIMIT (R747 step 3): PP_CHOP less 4 us after the period's start, which is 4 us before the next. -/
def execChopOntimeLimit (w : Fin 2) (s : State) : Host.Outcome State Fault Refusal :=
  liveIn s .print fun s =>
    match mget (fun _ => (none : Option Nat)) s.timers tmrChop with
    | some d => if d ≤ s.time + usTicks 4 then windOff s w else s
    | none => s

/-- WINDING_CURRENT_CONVERSION (R747 step 2): a winding in its on-time requests a level-0 conversion every 2 us. -/
def execWindingCurrentConversion (w : Fin 2) (s : State) : Host.Outcome State Fault Refusal :=
  liveIn s .print fun s =>
    if (windOf s w).on ∧ timerDue s (tmrConv w) then
      adcRequest (startTimer s (tmrConv w) (usTicks 2)) 0 (2 + w) (.chop w)
    else s

/-- HOLD_TIMEOUT (R756). -/
def execHoldTimeout (s : State) : Host.Outcome State Fault Refusal :=
  liveIn s .print fun s =>
    if timerDue s tmrHold ∧ s.pp.feed.holding then
      (let s1 := stopTimer s tmrHold
       if rb s1 .PP_FCFG 0 7 then feedShow (feedFloat s1) else s1)
    else s

/-- RIPPLE_WINDOW_END (R760). -/
def execRippleWindowEnd (s : State) : Host.Outcome State Fault Refusal := liveIn s .print windowEnd

/-- BEMF_SAMPLE (R763): the four conversions of a sample are requested while both windings float. -/
def execBemfSample (s : State) : Host.Outcome State Fault Refusal :=
  liveIn s .print fun s =>
    if s.pp.feed.floating ∧ (timerDue s tmrBemf ∨ timerOn s tmrBemf = false) then
      [4, 5, 6, 7].foldl (fun s i => adcRequest s 2 i (.bemf i)) (startTimer s tmrBemf (usTicks 250))
    else s

/-- FEEDER_FAULT_CLEAR (R791). -/
def execFeederFaultClear (req : Nat) (v : Byte) (s : State) : Host.Outcome State Fault Refusal :=
  writeReg s req .PP_FFAULT 0 fun s => feedClear s v

end Sys2Proof.Machine
end

