-- ==== Sys2Proof/Machine/Millrace.lean ====
section
/-!
DEFINITION. Millrace, the thermal line engine (chapter 14): entries and rows, the line schedule, corrections, phases and tokens,
limits, and the meanings of its commands.
-/
namespace Sys2Proof.Machine

/-- The state with Millrace replaced. -/
def setMr (s : State) (m : Mr) : State := { s with mr := m }

/-! ## Arithmetic of R701 -/

/-- A quotient rounded to the nearest, half up. -/
def roundDiv (a : Int) (b : Nat) : Int := (2 * a + b) / (2 * b)

/-- A factor clamped to 1,024-8,191. -/
def clampK (x : Int) : Nat := if x < 1024 then 1024 else if 8191 < x then 8191 else x.toNat

/-- V in mV from the latest AIN1 code. -/
def headVolts (s : State) : Nat := (roundDiv (s.mr.code1 * rn s .MR_VSCALE 0 : Nat) 4096).toNat

/-- T in 0.25 degrees C: TTAB interpolated at the latest AIN0 code. -/
def headTemp (s : State) : Int :=
  let c := s.mr.code0
  let a := signedOf 16 (rn s .MR_TTAB (c / 256))
  let b := signedOf 16 (rn s .MR_TTAB (c / 256 + 1))
  a + roundDiv ((b - a) * (c % 256 : Nat)) 256

/-- Kt. -/
def headKt (s : State) (t : Int) : Nat :=
  clampK (roundDiv (4 * 4096 - (rn s .MR_TCOEF 0 : Int) * (t - 4 * signedOf 8 (rn s .MR_TREF 0))) 4)

/-- Kv; at V = 0 the upper clamp. -/
def headKv (s : State) (v : Nat) : Nat :=
  if v = 0 then 8191 else clampK (roundDiv (4096 * rn s .MR_VREF 0 * rn s .MR_VREF 0 : Nat) (v * v))

/-- K. -/
def headK (kt kv : Nat) : Nat := clampK (roundDiv (kt * kv : Nat) 4096)

/-- Wk in ticks. -/
def headWidth (s : State) (k j : Nat) : Nat := (roundDiv (rn s .MR_SPW j * 24 * k : Nat) 40960).toNat

/-- The thermal hysteresis in 0.25 degrees C. -/
def headHyst (s : State) : Int := 4 * (min (max (rf s .MR_THYST 0 4 0) 1) 20 : Nat)

/-- HOFF (R702): HGAIN x (P - Q) / P, rounded to the nearest, half up, capped at 15; 0 where no schedule runs. -/
def headHoff (s : State) : Nat :=
  let m := s.mr
  if m.running then min 15 (roundDiv (min (rf s .MR_HGAIN 0 6 0) 64 * (m.pPrev - m.qPrev) : Nat) m.pPrev).toNat else 0

/-- The nominal period P of R710. -/
def headPeriod (s : State) : Nat :=
  let p := max (max (rf s .MR_TLINE 0 19 0) (rf s .MR_TLMIN 0 19 0)) 1
  if rb s .MR_STAT 0 4 then max 1 (roundDiv (p * (100 + min (rn s .MR_SLOWPCT 0) 200) : Nat) 100).toNat else p

/-- The planned period Q of R711. -/
def headPlan (s : State) (p late : Nat) : Nat :=
  let r := p * min (rf s .MR_REGAIN 0 5 0) 50 / 100
  max (min (rf s .MR_TLMIN 0 19 0) p) (p - min late r)

/-! ## Entries and rows (R686-R691) -/

/-- The line count of an entry, `none` where it breaks R686 or R687. -/
def entryLines (s : State) (e : Entry) : Option Nat :=
  let nb := rowBytes s
  if nbit e.uflags 3 || decide (8 ≤ e.uflags) || decide (16 ≤ e.uarg) then none
  else if nbit e.uflags 1 then
    (match e.ind, e.frags with
     | false, [(0, n)] => some n
     | _, _ => none)
  else if e.ind then (if e.frags.all (fun f => f.2 == nb) then some e.frags.length else none)
  else
    let n := fragTotal e.frags
    if n = 0 ∨ n % nb ≠ 0 then none else some (n / nb)

/-- Whether an entry is of BLANK lines. -/
def isBlank (e : MrEntry) : Bool := nbit e.e.uflags 1

/-- The lines to come, across the held entries in fetch order: position of the entry, line in it, BLANK; at most four of each entry
are listed (R691 looks no further). -/
def toCome (s : State) : List (Nat × Nat × Bool) :=
  ((List.range s.mr.held.length).map fun i =>
    match s.mr.held[i]? with
    | some e => (List.range (min (e.lines - e.started) 4)).map fun j => (i, e.started + j, isBlank e)
    | none => []).flatten

/-- MR_ROWAHEAD as the register gives it. -/
def rowAheadNow (s : State) : Nat := min (max (rf s .MR_ROWAHEAD 0 2 0) 1) 4

/-- The rows read ahead (R691), with MR_ROWAHEAD as the settings of R735 hold. -/
def rowAhead (s : State) : Nat := if settingsHeld s then s.mr.rowAhead else rowAheadNow s

/-- The line no longer needs the shift register or the pattern store: there is none, it has ended, or its last pattern is latched
and fires (R694 step 7). -/
def lineFree (s : State) : Bool :=
  match s.mr.line with
  | none => true
  | some l => !lineLive l || ((l.stage == .firing || l.stage == .gap) && (nextSub l.pats (l.sp + 1)).isNone)

/-- Line n has ended (R709). -/
def lineOver (s : State) : Bool :=
  match s.mr.line with
  | none => true
  | some l => !lineLive l

/-- Millrace works on its entries: MR_CTL.EN is 1 and DATA_STATE is IDLE or ACTIVE. -/
def headRuns (s : State) : Bool := unitRuns s 0

/-- The history that the next line sees (R697, R719, R1257): none before a schedule's first line, none before a NOHIST entry. -/
def nextHist (s : State) (e : MrEntry) : List Byte × List Byte :=
  if (s.mr.running || s.mr.keepHist) && !(nbit e.e.uflags 2 && e.started == 0) then (s.mr.hist1, s.mr.hist2) else ([], [])

/-- The next line's patterns are computed and the shift of its p0 starts, where its row has landed (R694 step 7). An entry whose next
row was refused ends with ACCESS once its lines before that row have printed (R585). Where p0 is empty and a later pattern is not, R693 gives p0
no shift and R694 speaks only of p0: the model shifts and latches the first pattern that is not empty in p0's place (DESIGN CHOICE, log 139). -/
def prepareOnce (s : State) : State :=
  let m := s.mr
  if headRuns s = false ∨ m.next.isSome ∨ lineFree s = false then s
  else
    match toCome s, m.ahead with
    | [], _ => s
    | (_, _, true) :: _, _ => setMr s { m with next := some [[], [], [], []], nextShifted := true, nextRan := m.running, nextHoff := headHoff s }
    | (_, _, false) :: _, [] => s
    | (i, _, false) :: _, some row :: _ =>
      (match m.held[i]? with
       | none => s
       | some e =>
         let h := nextHist s e
         let pats := linePatterns s row h.1 h.2 (signedOf 4 (e.e.uarg % 16)) (headHoff s)
         let s1 := setMr s { m with next := some pats, nextShifted := pats.all patEmpty, nextRan := m.running, nextHoff := headHoff s }
         if pats.all patEmpty then s1 else shiftStart s1)
    | (i, _, false) :: _, none :: rest =>
      (match m.held[i]? with
       | none => s
       | some e =>
         if lineOver s && e.done == e.started then
           mrReq (unitComplete (setMr s { m with held := m.held.eraseIdx i, ahead := rest }) .print m.chan e.e.idx 7 e.done 0)
         else s)

/-- The next row within MR_ROWAHEAD that has not landed (R691): its entry and its number there; none behind a row whose read was refused. -/
def nextRow (s : State) : Option (MrEntry × Nat) :=
  let m := s.mr
  let rows := ((toCome s).take (rowAhead s)).filter fun x => !x.2.2
  if headRuns s = false ∨ m.ahead.any (fun r => r.isNone) then none
  else (rows[m.ahead.length]?).bind fun x => (m.held[x.1]?).map fun e => (e, x.2.1)

/-- Millrace asks for the next row within MR_ROWAHEAD (R691). -/
def rowAsk (s : State) : State :=
  match nextRow s with
  | none => s
  | some (e, _) =>
    if (moverOf s s.mr.chan e.e.idx).isNone then moverOpen s s.mr.chan e.e.idx e.e.frags (rowBytes s) else moverAsk s s.mr.chan e.e.idx

/-- The next line is prepared, past the entries that end with ACCESS, and the next row asked for. -/
def prepareNext (s : State) : State := rowAsk ((List.range 5).foldl (fun s _ => prepareOnce s) s)

/-- The next line is computed again where it was computed while a schedule ran that has ended (R1257). -/
def redoNext (s : State) : State :=
  if s.mr.nextRan then prepareNext (setMr s { s.mr with next := none, nextShifted := false, nextRan := false }) else s

/-- The next line is ready (R709). -/
def lineReady (s : State) : Bool := lineOver s && s.mr.next.isSome && s.mr.nextShifted

/-- Millrace checks the entry its channel passed (R688); one that arrives when no work is accepted completes ABANDONED. -/
def mrAccept (s : State) : State :=
  match s.mr.inbox with
  | [] => s
  | e :: rest =>
    let s1 := send (setMr s { s.mr with inbox := rest }) (toFabric .print) (.ringAccept s.mr.chan)
    if headRuns s1 = false then unitComplete s1 .print s1.mr.chan e.idx 2 0 0
    else
      match entryLines s1 e with
      | none => unitComplete s1 .print s1.mr.chan e.idx 0x84 0 0
      | some n => prepareNext (mrReq (setMr s1 { s1.mr with held := s1.mr.held ++ [⟨e, n, 0, 0⟩] }))

/-- The next row within MR_ROWAHEAD lands (R691) where its bytes have reached Millrace. -/
def rowLanded (s : State) : State :=
  match nextRow s with
  | none => s
  | some (e, _) =>
    if moverHas s s.mr.chan e.e.idx (rowBytes s) then
      let (bs, bad, s1) := moverTake s s.mr.chan e.e.idx (rowBytes s)
      prepareNext (setMr s1 { s1.mr with ahead := s1.mr.ahead ++ [if bad then none else some bs] })
    else s

/-! ## The end of a line and of a schedule -/

/-- A hold is in force (R719): HOT or VHOLD is set, or a ready line waits. -/
def holdOn (s : State) : Bool := s.mr.hold || rb s .MR_STAT 0 5 || rb s .MR_STAT 0 6

/-- The head is IDLE where no schedule runs, no hold is in force and no line prints (R724). -/
def headIdle (s : State) : State :=
  if s.mr.running || holdOn s || !lineOver s || dstate s 0 != 1 then s else setData s 0 0

/-- Line n ends (R694 step 6): AVAIL is retired, the line counts in DONE, and an entry whose lines have all printed completes OK. -/
def lineEnd (s : State) : State :=
  match s.mr.line with
  | none => s
  | some l =>
    let s1 := retireTokens s
    let s2 := setMr s1 { s1.mr with
      line := some { l with stage := .ended, strobes := [], endAt := s1.time },
      held := s1.mr.held.map fun e => if e.e.idx = l.idx then { e with done := e.done + 1 } else e }
    let s3 := if l.blank then s2 else wr s2 .MR_LINES 0 (rd s2 .MR_LINES 0 + 1)
    let full := s3.mr.held.filter fun e => e.e.idx == l.idx && e.done == e.lines
    let s4 := full.foldl (fun s e => unitComplete s .print s.mr.chan e.e.idx 0 e.done 0)
      (setMr s3 { s3.mr with held := s3.mr.held.filter fun e => !(e.e.idx == l.idx && e.done == e.lines) })
    prepareNext (headIdle (mrReq s4))

/-- A schedule stops: idle ADC pairs start again (R703), and a line computed while it ran is computed afresh. -/
def scheduleStop (s : State) : State :=
  redoNext (mrReq (startTimer (setMr s { s.mr with running := false }) tmrHeadAdc (msTicks 1)))

/-- SCHEDULE_END's effect (R714). -/
def scheduleEnd (s : State) : State :=
  let m := s.mr
  let cont : Bool := match m.line with
    | some l => l.cont
    | none => false
  if m.running ∧ m.aPrev + m.qPrev ≤ s.time ∧ lineReady s = false ∧ cont = false then
    headIdle (scheduleStop s)
  else s

/-! ## Limits and holds (R716-R719) -/

/-- Readings clear HOT and VHOLD (R717, R718). -/
def headClears (s : State) : State :=
  let t := headTemp s
  let v := headVolts s
  let s1 := if rb s .MR_STAT 0 5 && decide (t ≤ 4 * signedOf 8 (rn s .MR_TSTOP 0) - headHyst s)
    then wb s .MR_STAT 0 5 false else s
  headIdle <| if rb s1 .MR_STAT 0 6 && decide (rn s1 .MR_VMIN 0 ≤ v) && decide (v ≤ rn s1 .MR_VMAX 0)
    then wb s1 .MR_STAT 0 6 false else s1

/-- A hold begins (R719): no line starts; the held line will start a new schedule and keeps its history where a schedule ran. -/
def headHold (s : State) : State :=
  if s.mr.hold then s
  else
    let ran := s.mr.running
    let s1 := setData (setMr s { s.mr with hold := true, keepHist := ran }) 0 1
    if ran then scheduleStop s1 else s1

/-- SLOW and HOT at a line start (R716, R717): set, counted on entry, source 65 raised. -/
def headLimits (s : State) (t : Int) : State :=
  let slow := 4 * signedOf 8 (rn s .MR_TSLOW 0)
  let s1 :=
    if rb s .MR_STAT 0 4 = false ∧ slow ≤ t then raise (count (wb s .MR_STAT 0 4 true) .print 0x3C) .print 65
    else if rb s .MR_STAT 0 4 = true ∧ t ≤ slow - headHyst s then raise (wb s .MR_STAT 0 4 false) .print 65
    else s
  if rb s1 .MR_STAT 0 5 = false ∧ 4 * signedOf 8 (rn s1 .MR_TSTOP 0) ≤ t then
    raise (count (wb s1 .MR_STAT 0 5 true) .print 0x3D) .print 65
  else s1

/-! ## A line's start (R694 step 1, R701-R715) -/

/-- LATE_ACC at the start of a line (R712, R713): 0 for a schedule's first line; given up beyond MR_GIVEUP. -/
def lateAcc (s : State) : State :=
  let m := s.mr
  let l := if m.running then rn s .MR_LATEACC 0 + (s.time - m.aPrev) - m.pPrev else 0
  if usTicks (rn s .MR_GIVEUP 0) < l then raise (count (wr s .MR_LATEACC 0 0) .print 0x3A) .print 66
  else wr s .MR_LATEACC 0 (BitVec.ofNat 32 (l % 2 ^ 24))

/-- LINE_LATE and LINE_OVERRUN (R709). -/
def countLate (s : State) : State :=
  let m := s.mr
  let target := m.aPrev + m.qPrev
  if m.running = false ∨ s.time ≤ target then s
  else
    let s1 := count s .print 0x38
    match m.line with
    | some l => if target < l.endAt then count s1 .print 0x39 else s1
    | none => s1

/-- The draw per dot D of R704: ceil(V / RDOT); with RDOT 0 the spec gives no value and it is a free one. -/
def drawOf (s : State) (v : Nat) : Nat × State :=
  let r := rn s .MR_RDOT 0
  if r = 0 then ((freeVal s).1.toNat % 256, (freeVal s).2) else ((v + r - 1) / r, s)

/-- The read-only values of a line's start: temperature, voltage and factors (R701, R702, R704). -/
def showStart (s : State) (t : Int) (v hoff draw : Nat) : State :=
  let kt := headKt s t
  let kv := headKv s v
  let put (s : State) (r : Rg) (x : Nat) : State := wr s r 0 (BitVec.ofNat 32 x)
  put (put (put (put (put (put (put s .MR_TEMP (t % 65536).toNat) .MR_VHEAD (v % 65536)) .MR_KT kt) .MR_KV kv)
    .MR_K (headK kt kv)) .MR_HOFF hoff) .MR_DRAW (draw % 256)

/-- The line record of the line that starts, with the settings it takes (R735). -/
def newLine (s : State) (e : MrEntry) (pats : List (List Bool)) (k draw : Nat) : MrLine :=
  { idx := e.e.idx, blank := isBlank e, cont := nbit e.e.uflags 0, pats := pats,
    width := [0, 1, 2, 3].map fun j => headWidth s k j, draw := draw, maxDots := rf s .MR_MAXDOTS 0 10 0,
    gap := max 12 (rn s .MR_PGAP 0), stbMax := usTicks (atLeast1 (rn s .MR_STBMAX 0)),
    hcTrip := 4 * max 13 (rn s .MR_HCTRIP 0), hcBlank := min (rf s .MR_HCBLANK 0 5 0) 50,
    sp := (nextSub pats 0).getD 0, stage := .waiting, groups := [], strobes := [], shifted := true, endAt := s.time }

/-- The line enters Millrace's own state: its entry has one more line started, its row enters the history, the schedule runs. -/
def enterLine (s : State) (i : Nat) (e : MrEntry) (l : MrLine) (p q : Nat) : State :=
  let m := s.mr
  let row := if l.blank then [] else ((m.ahead.head?.getD none).getD [])
  let keep := (m.running || m.keepHist) && !(nbit e.e.uflags 2 && e.started == 0)
  setMr s { m with
    held := m.held.modify i fun e => { e with started := e.started + 1 }
    ahead := if l.blank then m.ahead else m.ahead.drop 1
    next := none, nextShifted := false, nextRan := false, line := some l
    hist1 := row, hist2 := (if keep then m.hist1 else []), running := true, hold := false, keepHist := false, rate := shRate s, reqLow := rn s .MR_REQLOW 0, rowAhead := rowAheadNow s
    aPrev := s.time, pPrev := p, qPrev := q }

/-- A line starts (R694 step 1). A BLANK line is counted in DONE, and completes its entry, at its start: the spec gives its advance and end no
moment (R689; DESIGN CHOICE, log 138). -/
def startLine (s : State) (i : Nat) (e : MrEntry) (pats : List (List Bool)) : State :=
  let t := headTemp s
  let v := headVolts s
  let hoff := s.mr.nextHoff
  let s1 := headLimits (lateAcc (countLate s)) t
  let p := headPeriod s1
  let q := headPlan s1 p (rn s1 .MR_LATEACC 0)
  let (draw, s2) := drawOf s1 v
  let s3 := showStart s2 t v hoff draw
  let l := newLine s3 e pats (rn s3 .MR_K 0) draw
  let s4 := mrReq (setData (enterLine (stopTimer s3 tmrHeadAdc) i e l p q) 0 1)
  let s5 := headPair s4
  let s6 := if l.blank then s5
    else report (setMr s5 { s5.mr with avail := rn s5 .MR_TOKPOOL 0, grant := rn s5 .MR_TOKPOOL 0 }) .print 20 0 2
      (rn s5 .MR_TOKPOOL 0)
  let s7 := feedLine s6 s.time q
  rowAsk (if s7.mr.line = some l ∧ dstate s7 0 = 1 ∧ (l.blank ∨ pats.all patEmpty) then lineEnd s7 else s7)

/-- LINE_START's effect: the ready line starts at its target or later, or is held (R709, R718, R719, R729). -/
def lineStart (s : State) : State :=
  let m := s.mr
  if headRuns s = false ∨ lineReady s = false ∨ m.powered = false then s
  else if m.running ∧ s.time < m.aPrev + m.qPrev then s
  else if m.running = false ∧ m.pairOk = false then s
  else if feedOk s = false then headHold s
  else
    let s1 := headClears s
    let v := headVolts s1
    let out := decide (v < rn s1 .MR_VMIN 0 ∨ rn s1 .MR_VMAX 0 < v)
    let s2 := if out && !(rb s1 .MR_STAT 0 6)
      then raise (count (wb s1 .MR_STAT 0 6 true) .print 0x3E) .print 65 else s1
    let s2 := wr (wr s2 .MR_TEMP 0 (BitVec.ofNat 32 (headTemp s2 % 65536).toNat)) .MR_VHEAD 0 (BitVec.ofNat 32 (v % 65536))
    if rb s2 .MR_STAT 0 5 || rb s2 .MR_STAT 0 6 then headHold s2
    else
      match toCome s2, s2.mr.next with
      | (i, _, _) :: _, some pats =>
        (match s2.mr.held[i]? with
         | some e => startLine s2 i e pats
         | none => s2)
      | _, _ => s2

/-! ## Firing (R695, R704) -/

/-- The state with the line replaced. -/
def setLine (s : State) (l : MrLine) : State := setMr s { s.mr with line := some l }

/-- A pattern's shift completes (R682, R683): the line's own next pattern, or the next line's p0. -/
def shiftDone (s : State) : State :=
  if timerDue s tmrShift = false then s
  else
    let s := stopTimer s tmrShift
    let nxt := if s.mr.next.isSome && !s.mr.nextShifted then setMr s { s.mr with nextShifted := true } else s
    match s.mr.line with
    | none => nxt
    | some l => if lineLive l && !l.shifted then setLine s { l with shifted := true } else nxt

/-- The pattern is latched for 1 us (R684, R695). -/
def latch (s : State) : State :=
  match s.mr.line with
  | none => s
  | some l =>
    if l.stage = .waiting ∧ l.shifted = true ∧ dstate s 0 = 1 then
      startTimer (setLine s { l with stage := .latching }) tmrPhase 24
    else s

/-- The groups that share a phase (R704 steps 1-3): the first group with dots, then later ones while dots and draw fit. -/
def packGroups (dotsOf : Nat → Nat) (draw avail maxDots : Nat) : List Nat → Nat → List Nat
  | [], _ => []
  | g :: gs, n =>
    if n = 0 then g :: packGroups dotsOf draw avail maxDots gs (dotsOf g)
    else if (n + dotsOf g) * draw ≤ avail ∧ n + dotsOf g ≤ maxDots then
      g :: packGroups dotsOf draw avail maxDots gs (n + dotsOf g)
    else []

/-- A phase starts (R704): its groups are packed, its tokens drawn, and its strobes rise for Wk. Before a sub-pulse's first phase its
groups with dots are listed, HEAT_SPLIT is counted where one is deferred (R706), and the shift of the pattern after it
starts. -/
def phaseStart (s : State) : State :=
  match s.mr.line with
  | none => s
  | some l =>
    if (l.stage ≠ .latching ∧ l.stage ≠ .gap) ∨ timerDue s tmrPhase = false ∨ dstate s 0 ≠ 1 then s
    else
      let first := l.stage == .latching
      let dotsOf (g : Nat) : Nat := groupCount s (l.pats.getD l.sp []) g
      let groups := if first then (List.range (headGroups s)).filter fun g => decide (dotsOf g ≠ 0) else l.groups
      let phase := packGroups dotsOf l.draw s.mr.avail l.maxDots groups 0
      let rest := groups.drop phase.length
      let need := (phase.map dotsOf).sum * l.draw
      let s1 := if first && !rest.isEmpty then count s .print 0x3B else s
      let s2 := report s1 .print 20 2 3 need
      let s3 := setMr s2 { s2.mr with
        avail := s2.mr.avail - need, drawn := need, strobeAt := some s2.time
        line := some { l with stage := .firing, groups := rest, strobes := phase,
                              shifted := if first then (nextSub l.pats (l.sp + 1)).isNone else l.shifted } }
      let s4 := if first && (nextSub l.pats (l.sp + 1)).isSome then shiftStart s3 else s3
      prepareNext (startTimer (startTimer (stopTimer s4 tmrPhase) tmrPulse (l.width.getD l.sp 0)) tmrStrobe l.stbMax)

/-- The phase's width has passed (R704 steps 4 and 5): strobes fall, tokens return, and the next phase, the next sub-pulse, the
line's end or the end of a drain follows. -/
def phaseEnd (s : State) : State :=
  match s.mr.line with
  | none => s
  | some l =>
    if l.stage ≠ .firing ∨ timerDue s tmrPulse = false then s
    else
      let s1 := returnTokens (stopTimer (stopTimer s tmrPulse) tmrStrobe)
      match s1.mr.cut with
      | some st =>
        let ended := l.groups.isEmpty && (nextSub l.pats (l.sp + 1)).isNone
        let s2 := if ended then wr (setMr s1 { s1.mr with
          held := s1.mr.held.map fun e => if e.e.idx = l.idx then { e with done := e.done + 1 } else e }) .MR_LINES 0 (rd s1 .MR_LINES 0 + 1)
          else s1
        headCutEnd s2 st
      | none =>
        if l.groups ≠ [] then startTimer (setLine s1 { l with stage := .gap, strobes := [] }) tmrPhase l.gap
        else
          match nextSub l.pats (l.sp + 1) with
          | some k => setLine s1 { l with stage := .waiting, strobes := [], sp := k }
          | none => lineEnd (setLine s1 { l with strobes := [] })

/-! ## Trips and faults (R720-R728) -/

/-- Dots and HCS: the head-current comparator trips where HCS exceeds HCTRIP x 4 mV outside the blanking of MR_HCBLANK x 20 ns after
a strobe rises (R721); a latched kill changes nothing more. -/
def currentTrip (s : State) (mv : Nat) : State :=
  let lim := match s.mr.line with
    | some l => if lineLive l then l.hcTrip else 4 * max 13 (rn s .MR_HCTRIP 0)
    | none => 4 * max 13 (rn s .MR_HCTRIP 0)
  let blank := match s.mr.line with
    | some l => if lineLive l then l.hcBlank else min (rf s .MR_HCBLANK 0 5 0) 50
    | none => min (rf s .MR_HCBLANK 0 5 0) 50
  let blanked : Bool := match s.mr.strobeAt with
    | some t => decide ((s.time - t) * 125 < 60 * blank)
    | none => false
  if mv ≤ lim ∨ blanked ∨ rb s .MR_FAULT 0 0 then s else headKill s 0 0x80

/-- A strobe high longer than MR_STBMAX (R722). -/
def strobeLong (s : State) : State :=
  match s.mr.line with
  | some l =>
    if l.stage = .firing ∧ l.stbMax < l.width.getD l.sp 0 ∧ timerDue s tmrStrobe ∧ rb s .MR_FAULT 0 1 = false then
      headKill (count s .print 0x40) 1 0x81
    else s
  | none => s

/-- An AIN0 or AIN1 conversion for Millrace has ended (R701, R703, R720): out-of-range AIN0 readings fault on the second, and a
complete pair clears HOT and VHOLD. -/
def headCode (s : State) (i code : Nat) : State :=
  if rb s .MR_CTL 0 0 = false then s
  else if i = 0 then
    let bad := decide (code < 16 ∨ 4079 < code)
    let n := if bad then s.mr.thermCnt + 1 else 0
    let s1 := setMr s { s.mr with code0 := code, thermCnt := n }
    if 2 ≤ n ∧ rb s1 .MR_FAULT 0 2 = false then headFault (count s1 .print 0x41) 2 0x82 false else s1
  else headClears (setMr s { s.mr with code1 := code, pairOk := true })

/-- A write of 1 to bits of MR_FAULT (R723, R728). -/
def headClear (s : State) (v : Byte) : State :=
  let m := BitVec.ofNat 32 v.toNat &&& 7
  let s1 := wr s .MR_FAULT 0 (rd s .MR_FAULT 0 &&& ~~~m)
  let s2 := { s1 with dev := { s1.dev with kill := rb s1 .MR_FAULT 0 0 || rb s1 .MR_FAULT 0 1 || rb s1 .MR_FAULT 0 3 } }
  if dstate s2 0 = 3 ∧ rf s2 .MR_FAULT 0 3 0 = 0 then prepareNext (headPower (setData s2 0 0)) else s2

/-! ## Enable and disable (R726, R731) -/

/-- The code of a refused enable, 0 where none (R731). -/
def headCfgCode (s : State) : Nat :=
  let dots := rf s .MR_DOTS 0 10 0
  let lanes := rf s .MR_GEOM 0 1 0 + 1
  let groups := headGroups s
  let rdot := rn s .MR_RDOT 0
  if dots < 384 ∨ 1024 < dots ∨ dots % 8 ≠ 0 then 1
  else if dots % lanes ≠ 0 ∨ dots % groups ≠ 0 ∨ dots / lanes % 8 ≠ 0 ∨ dots / groups % 8 ≠ 0 then 2
  else if rf s .MR_MAXDOTS 0 10 0 < dots / groups then 3
  else if rdot = 0 ∨ rn s .MR_TOKPOOL 0 = 0 ∨ rn s .MR_TOKPOOL 0 < (rn s .MR_VMAX 0 + rdot - 1) / rdot * (dots / groups) then 4
  else if rn s .MR_VSCALE 0 = 0 ∨ rn s .MR_VMAX 0 ≤ rn s .MR_VMIN 0 then 5
  else if (List.range 17).all (fun i => rd s .MR_TTAB i == rd s .MR_TTAB 0) then 6
  else if signedOf 8 (rn s .MR_TSTOP 0) ≤ signedOf 8 (rn s .MR_TSLOW 0) then 7
  else 0

/-- MR_CTL.EN written 1 (R731, R685, R703). -/
def headEnable (s : State) : State :=
  if rb s .MR_CTL 0 0 then s
  else if headCfgCode s ≠ 0 then wf (wb s .MR_STAT 0 0 true) .MR_STAT 0 3 1 (headCfgCode s)
  else
    let s1 := setMgmt (setMr (wb s .MR_CTL 0 0 true) { s.mr with pairOk := false, thermCnt := 0 }) 0 1
    prepareNext (headPair (startTimer (headPower s1) tmrHeadAdc (msTicks 1)))

/-- MR_CTL.EN cleared (R726, R1148). -/
def headDisable (s : State) : State :=
  if rb s .MR_CTL 0 0 = false then s
  else
    let s1 := stopTimer (headPower (headCut (setMgmt (wb s .MR_CTL 0 0 false) 0 0) 2)) tmrHeadAdc
    s1

/-! ## Meanings -/

/-- MILLRACE_ENABLE (R731). -/
def execMillraceEnable (req : Nat) (s : State) : Host.Outcome State Fault Refusal := writeReg s req .MR_CTL 0 headEnable

/-- MILLRACE_DISABLE (R726). -/
def execMillraceDisable (req : Nat) (s : State) : Host.Outcome State Fault Refusal := writeReg s req .MR_CTL 0 headDisable

/-- MILLRACE_ENTRY_ACCEPT (R688). -/
def execMillraceEntryAccept (s : State) : Host.Outcome State Fault Refusal := liveIn s .print mrAccept

/-- MILLRACE_ROW_LANDED (R691, R709). -/
def execMillraceRowLanded (s : State) : Host.Outcome State Fault Refusal := liveIn s .print rowLanded

/-- MILLRACE_SHIFT_DONE (R682). -/
def execMillraceShiftDone (s : State) : Host.Outcome State Fault Refusal := liveIn s .print shiftDone

/-- LINE_START (R709). -/
def execLineStart (s : State) : Host.Outcome State Fault Refusal := liveIn s .print lineStart

/-- SCHEDULE_END (R714). -/
def execScheduleEnd (s : State) : Host.Outcome State Fault Refusal := liveIn s .print scheduleEnd

/-- MILLRACE_LATCH (R695). -/
def execMillraceLatch (s : State) : Host.Outcome State Fault Refusal := liveIn s .print latch

/-- MILLRACE_PHASE_START (R704). -/
def execMillracePhaseStart (s : State) : Host.Outcome State Fault Refusal := liveIn s .print phaseStart

/-- MILLRACE_PHASE_END (R704). -/
def execMillracePhaseEnd (s : State) : Host.Outcome State Fault Refusal := liveIn s .print phaseEnd

/-- HEAD_POWER_DELAY_END (R685). -/
def execHeadPowerDelayEnd (s : State) : Host.Outcome State Fault Refusal :=
  liveIn s .print fun s =>
    if timerDue s tmrHeadPwr ∧ rb s .MR_STAT 0 7 then stopTimer (setMr s { s.mr with powered := true }) tmrHeadPwr else s

/-- MILLRACE_IDLE_ADC_REQUEST (R703). -/
def execMillraceIdleAdcRequest (s : State) : Host.Outcome State Fault Refusal :=
  liveIn s .print fun s =>
    if rb s .MR_CTL 0 0 ∧ s.mr.running = false ∧ timerDue s tmrHeadAdc then
      headPair (startTimer s tmrHeadAdc (msTicks 1))
    else s

/-- HEAD_CURRENT_TRIP (R721): `mv` is the HCS voltage. -/
def execHeadCurrentTrip (mv : Nat) (s : State) : Host.Outcome State Fault Refusal :=
  liveIn s .print fun s => currentTrip s mv

/-- STROBE_OVERTIME (R722). -/
def execStrobeOvertime (s : State) : Host.Outcome State Fault Refusal := liveIn s .print strobeLong

/-- MILLRACE_FAULT_CLEAR (R728). -/
def execMillraceFaultClear (req : Nat) (v : Byte) (s : State) : Host.Outcome State Fault Refusal :=
  writeReg s req .MR_FAULT 0 fun s => headClear s v

/-- MILLRACE_LIMIT_LOCK (R734). -/
def execMillraceLimitLock (req : Nat) (s : State) : Host.Outcome State Fault Refusal :=
  writeReg s req .MR_LIMLOCK 0 fun s => wb s .MR_LIMLOCK 0 0 true

end Sys2Proof.Machine
end

