-- ==== Sys2Proof/Machine/PaperPath.lean ====
section
/-!
DEFINITION. The paper path beside the feeder (chapter 15): sensors, debounced inputs, cutter, drawers, bell, LEDs, the ADC's
conversions and firmware sequence, and the meanings of their commands.
-/
namespace Sys2Proof.Machine

/-- The state with the paper path replaced. -/
def setPp (s : State) (p : Paper) : State := { s with pp := p }

/-! ## Optical sensors (R767-R771) -/

/-- Sensor `k` behind its registers. -/
def sensorOf (s : State) (k : Nat) : Sensor := mget (fun _ => Sensor.reset) s.pp.sens k

/-- The state with a sensor replaced. -/
def setSensor (s : State) (k : Nat) (x : Sensor) : State :=
  setPp s { s.pp with sens := mset (fun _ => Sensor.reset) s.pp.sens k x }

/-- Sensors with a function, in input order. -/
def sensorsOn (s : State) : List Nat := (List.range 4).filter fun k => rf s .PP_SNSCFG k 1 0 != 0

/-- Source 69 where the sensor's IRQ bit is 1 (R771). -/
def sensorIrq (s : State) (k : Nat) : State := if rb s .PP_SNSCFG k 3 then raise s .print 69 else s

/-- DIRTY sets and SENSOR_DIRTY is counted, once until it is cleared (R770, R801). -/
def sensorDirty (s : State) (k : Nat) : State :=
  if rb s .PP_SNSSTAT k 1 then s else sensorIrq (count (wb s .PP_SNSSTAT k 1 true) .print 0x4E) k

/-- The emitter goes low and its settling ends. -/
def emitterOff (s : State) : State := setPp s { s.pp with emit := false }

/-- The emitter goes high and settles for PP_EMITSET. -/
def emitterOn (s : State) : State := startTimer (setPp s { s.pp with emit := true }) tmrEmit (usTicks (rn s .PP_EMITSET 0))

/-- A conversion for which `p` holds waits or runs. -/
def adcWaits (s : State) (p : AdcWho → Bool) : Bool :=
  (s.pp.adcWait.any fun r => p r.who) || (match s.pp.adcCur with | some r => p r.who | none => false)

/-- A dark conversion of the sensors. -/
def isDark (w : AdcWho) : Bool := match w with | .dark _ => true | _ => false

/-- A lit conversion of the sensors. -/
def isLit (w : AdcWho) : Bool := match w with | .lit _ => true | _ => false

/-- The dark value of a sensor is known; the emitter rises after the last one (R767). -/
def sensorDark (s : State) (k code : Nat) : State :=
  let s1 := setSensor s k { sensorOf s k with dark := code }
  if adcWaits s1 isDark then s1 else emitterOn s1

/-- CAL takes B from the sample, not below PP_SNSBMIN (R769, R801). -/
def sensorCal (s : State) (k v : Nat) : State :=
  if (sensorOf s k).cal = false then s
  else
    let s1 := wr (setSensor s k { sensorOf s k with cal := false }) .PP_SNSBASE k
      (BitVec.ofNat 32 (max v (rf s .PP_SNSBMIN 0 11 0)))
    if v < rf s .PP_SNSBMIN 0 11 0 then sensorDirty s1 k else s1

/-- The state test of R768: N consecutive samples below TH, or at or above the return level. A change raises source 69, and paper end
with STOP faults the feeder (R771). -/
def sensorTest (s : State) (k v : Nat) : State :=
  let x := sensorOf s k
  let b := rf s .PP_SNSBASE k 11 0
  let low := if v < b * rn s .PP_SNSTHR k / 256 then x.low + 1 else 0
  let high := if b * (rn s .PP_SNSTHR k + 32) / 256 ≤ v then x.high + 1 else 0
  let n := atLeast1 (rn s .PP_SNSN k)
  let absent := rb s .PP_SNSSTAT k 0
  let s1 := setSensor s k { x with low := low, high := high }
  if absent = false ∧ n ≤ low then
    (let s2 := sensorIrq (wb s1 .PP_SNSSTAT k 0 true) k
     if rf s2 .PP_SNSCFG k 1 0 = 1 ∧ rb s2 .PP_SNSCFG k 2 then feedFault s2 2 else s2)
  else if absent = true ∧ n ≤ high then sensorIrq (wb s1 .PP_SNSSTAT k 0 false) k
  else s1

/-- The baseline follows grease (R770): one code towards S once every 64 samples with |S - B| at most B / 4 while PRESENT or CLEAR. -/
def sensorTrack (s : State) (k v : Nat) : State :=
  let x := sensorOf s k
  let b := rf s .PP_SNSBASE k 11 0
  let dist := if v ≤ b then b - v else v - b
  if rb s .PP_SNSSTAT k 0 ∨ b < 4 * dist then setSensor s k { x with track := 0 }
  else if x.track + 1 < 64 then setSensor s k { x with track := x.track + 1 }
  else
    let s1 := setSensor s k { x with track := 0 }
    if v < b then
      (if b ≤ rf s1 .PP_SNSBMIN 0 11 0 then
        sensorDirty (wr s1 .PP_SNSBASE k (BitVec.ofNat 32 (rf s1 .PP_SNSBMIN 0 11 0))) k
       else wr s1 .PP_SNSBASE k (BitVec.ofNat 32 (b - 1)))
    else if b < v then wr s1 .PP_SNSBASE k (BitVec.ofNat 32 (b + 1))
    else s1

/-- The lit value of a sensor is known: S, calibration, state and tracking; the emitter falls after the last one (R767). -/
def sensorLit (s : State) (k code : Nat) : State :=
  let v := code - (sensorOf s k).dark
  let s1 := wr s .PP_SNSS k (BitVec.ofNat 32 v)
  let s2 := if rf s1 .PP_SNSCFG k 1 0 = 0 then s1 else sensorTrack (sensorTest (sensorCal s1 k v) k v) k v
  if adcWaits s2 isLit then s2 else emitterOff s2

/-! ## The cutter (R776-R781) -/

/-- A cutter phase. -/
def setCut (s : State) (c : CutPhase) (drv brake : Bool) : State :=
  setPp s { s.pp with cut := c, cutDrv := drv, brake := brake }

/-- PP_CSTAT.LAST. -/
def cutLast (s : State) (n : Nat) : State := wf s .PP_CSTAT 0 2 0 n

/-- Every cutter timer withdrawn. -/
def cutTimersOff (s : State) : State :=
  [tmrCutRise, tmrCutLeave, tmrCutTmo, tmrCutBrake, tmrCutEnd, tmrJog].foldl stopTimer s

/-- A cutter fault (R778, R780): the drive falls, the brake follows 50 us later, the bit, LAST and source 74. -/
def cutFault (s : State) (bit last : Nat) : State :=
  let moving := s.pp.cut != .idle
  let s1 := wb (cutLast s last) .PP_CFAULT 0 bit true
  let s2 := if moving then startTimer (setCut (cutTimersOff s1) .coasting false s1.pp.brake) tmrCutBrake (usTicks 50) else s1
  raise (setData s2 2 3) .print 74

/-- CUT's check (R776): 0 where the cycle starts, else the LAST code of the refusal. -/
def cutRefusal (s : State) : Nat :=
  if mgmt s 2 ≠ 1 ∨ dstate s 2 ≠ 0 then 1
  else if s.pp.home = false then 2
  else if s.pp.cover && rb s .PP_FSAFE 0 1 then 3
  else if dstate s 1 == 1 && rb s .PP_FSAFE 0 2 then 4
  else 0

/-- A write of CUT (R776, R777). -/
def cutGo (s : State) : State :=
  if cutRefusal s ≠ 0 then raise (cutLast s (cutRefusal s)) .print 73
  else
    let s1 := setCut (setData s 2 1) .starting false false
    startTimer (startTimer (startTimer s1 tmrCutRise (usTicks 50)) tmrCutTmo (msTicks (atLeast1 (rn s1 .PP_CUTTMO 0))))
      tmrCutLeave (msTicks (atLeast1 (rn s1 .PP_CUTLEAVE 0)))

/-- A write of JOG (R779). -/
def jogGo (s : State) : State :=
  if mgmt s 2 ≠ 1 ∨ dstate s 2 ≠ 0 then s
  else startTimer (setCut (setData s 2 1) .jogging true false) tmrJog (msTicks (atLeast1 (rn s .PP_JOGT 0)))

/-- A debounced change of the home switch (R777): left, or reached again, which ends the drive. -/
def cutHome (s : State) (atHome : Bool) : State :=
  if atHome = false ∧ (s.pp.cut = .starting ∨ s.pp.cut = .driving) then
    stopTimer (setCut s .away s.pp.cutDrv false) tmrCutLeave
  else if atHome = true ∧ s.pp.cut = .away then
    startTimer (raise (cutLast (setCut (cutTimersOff s) .coasting false false) 0) .print 73) tmrCutBrake (usTicks 50)
  else s

/-- The cutter's part of R774 and R799. -/
def cutCover (s : State) : State :=
  if s.pp.cover && rb s .PP_FSAFE 0 1 && dstate s 2 != 3 then cutFault s 2 3 else s

/-- PP_CCTL.EN written 1 (R1149). -/
def cutEnable (s : State) : State := if rb s .PP_CCTL 0 0 then s else setMgmt (wb s .PP_CCTL 0 0 true) 2 1

/-- PP_CCTL.EN cleared (R790, R1148). -/
def cutDisable (s : State) : State :=
  if rb s .PP_CCTL 0 0 = false then s
  else
    let s1 := wb s .PP_CCTL 0 0 false
    if dstate s1 2 ≠ 1 then setMgmt s1 2 0
    else
      startTimer (cutLast (setCut (cutTimersOff (setUnit s1 2 0 2)) .braking false true) 7) tmrCutEnd
        (msTicks (atLeast1 (rn s1 .PP_BRKT 0)))

/-- A write of 1 to bits of PP_CFAULT (R791). -/
def cutClear (s : State) (v : Byte) : State :=
  let m := BitVec.ofNat 32 v.toNat &&& ~~~(BitVec.ofNat 32 (4 * b01 s.pp.cover))
  let s1 := wr s .PP_CFAULT 0 (rd s .PP_CFAULT 0 &&& ~~~m)
  if dstate s1 2 = 3 ∧ rf s1 .PP_CFAULT 0 2 0 = 0 then setData s1 2 0 else s1

/-! ## Debounced inputs (R772-R775) -/

/-- A logical level of an input that has held for its debounce time is taken: the level, its source, COVER_OPEN, and what the cover
and the home switch cause. -/
def inputTaken (s : State) (i : InputName) (active : Bool) : State :=
  match i with
  | .cover =>
    if s.pp.cover = active then s
    else
      let s1 := raise (setPp s { s.pp with cover := active }) .print 70
      if active then cutCover (feedCover (count s1 .print 0x4D)) else s1
  | .feedButton => if s.pp.button = active then s
    else raise (setPp s { s.pp with button := active, feed := { s.pp.feed with safeSteps := 0 } }) .print 71
  | .drawerSense =>
    if s.pp.drawerOpen = active then s else raise (setPp s { s.pp with drawerOpen := active }) .print 77
  | .cutHome => if s.pp.home = active then s else cutHome (setPp s { s.pp with home := active }) active

/-- The PP_INPOL bit and the GP pin of an input (R56, R772). -/
def inputBit (i : InputName) : Nat × Nat :=
  match i with | .cover => (0, 25) | .cutHome => (1, 21) | .drawerSense => (2, 24) | .feedButton => (3, 26)

/-- The logical level of an input. -/
def inputLevel (s : State) (i : InputName) : Bool :=
  match i with | .cover => s.pp.cover | .cutHome => s.pp.home | .drawerSense => s.pp.drawerOpen | .feedButton => s.pp.button

/-- The four inputs. -/
def allInputs : List InputName := [.cover, .cutHome, .drawerSense, .feedButton]

/-- The input function of an input. -/
def inputFn (i : InputName) : PinIn :=
  match i with | .cover => .cover | .cutHome => .cutHome | .drawerSense => .drawerSense | .feedButton => .feedButton

/-- The logical state of an input before its debounce: that of its pin by PP_INPOL, where 0 means active at a low pin, or what R62 gives
where no pin carries it. -/
def inputSeen (s : State) (i : InputName) : Bool :=
  match inputLine s (inputFn i) with
  | some l => l == rb s .PP_INPOL 0 (inputBit i).1
  | none => i == .cover

/-- The timers of the four debounces (R226, R772), and the debounce time of an input in ms. -/
def tmrDeb (i : InputName) : Nat := 144 + (inputBit i).1
def debMs (s : State) (i : InputName) : Nat :=
  match i with
  | .cover | .drawerSense => rn s .PP_INDB 0
  | .feedButton => rn s .PP_BTNDB 0
  | .cutHome => atLeast1 (rn s .PP_CUTDB 0)

/-- The inputs are looked at: one whose state is not the debounced one has its time running, any other has not (R772). -/
def debLook (s : State) : State :=
  allInputs.foldl (fun s i =>
    if inputSeen s i = inputLevel s i then stopTimer s (tmrDeb i)
    else if timerOn s (tmrDeb i) then s
    else startTimer s (tmrDeb i) (msTicks (debMs s i))) s

/-- A write of PP_INPOL that turns an input's sense turns its logical level where a pin carries it. -/
def inputPolarity (s : State) (v : Quad) : State :=
  let old := rd s .PP_INPOL 0
  debLook (allInputs.foldl (fun s i =>
    if old.getLsbD (inputBit i).1 != v.getLsbD (inputBit i).1 && connected s (inputFn i) then inputTaken s i (!(inputLevel s i)) else s)
    (wr s .PP_INPOL 0 (v &&& 0xF)))

/-! ## Drawers (R782-R785) -/

/-- Drawer `k` behind its registers. -/
def drawerOf (s : State) (k : Nat) : Drawer := mget (fun _ => Drawer.reset) s.pp.drw k

/-- The state with a drawer replaced; DATA_STATE is ACTIVE while a pulse is high or held. -/
def setDrawer (s : State) (k : Nat) (x : Drawer) : State :=
  setData (setPp s { s.pp with drw := mset (fun _ => Drawer.reset) s.pp.drw k x }) (3 + k)
    (b01 (x.high.isSome || x.held.isSome))

/-- A pulse of `w` ms rises. -/
def drawerFire (s : State) (k w : Nat) : State :=
  startTimer (setDrawer s k { high := some (s.time, w), held := none }) (tmrPulseDrw k) (msTicks w)

/-- A write of a width to PP_DPULSEk (R782-R784, R803). -/
def drawerPulse (s : State) (k : Nat) (v : Byte) : State :=
  if mgmt s (3 + k) ≠ 1 then s
  else
    let w := max 10 v.toNat
    let x := drawerOf s k
    if x.high.isNone && !(timerOn s (tmrCool k)) then drawerFire s k w
    else count (setDrawer s k { x with held := some w }) .print 0x51

/-- The end of a pulse that was high for `t` ticks: the cooldown is four times that, and the done source rises (R783, R785). -/
def drawerEnds (s : State) (k t : Nat) : State :=
  let s1 := startTimer (stopTimer s (tmrPulseDrw k)) (tmrCool k) (4 * t)
  raise (setDrawer s1 k { drawerOf s1 k with high := none }) .print (75 + k)

/-- PP_DCTL.ENk written 1. -/
def drawerEnable (s : State) (k : Nat) : State := if rb s .PP_DCTL 0 k then s else setMgmt (wb s .PP_DCTL 0 k true) (3 + k) 1

/-- PP_DCTL.ENk cleared (R790, R1148): a high pulse ends at once, a held one is discarded. -/
def drawerDisable (s : State) (k : Nat) : State :=
  if rb s .PP_DCTL 0 k = false then s
  else
    let s1 := wb s .PP_DCTL 0 k false
    let x := drawerOf s1 k
    let s2 := setPp s1 { s1.pp with drw := mset (fun _ => Drawer.reset) s1.pp.drw k { x with held := none } }
    let s3 := setUnit s2 (3 + k) 0 0
    match x.high with
    | some (at_, _) => drawerEnds s3 k (s3.time - at_)
    | none => s3

/-! ## Bell and LEDs (R786, R787) -/

/-- BELL high for an on interval. -/
def bellOn (s : State) : State :=
  startTimer (setPp s { s.pp with bell := true }) tmrBell (msTicks (atLeast1 (rn s .PP_BELLON 0)))

/-- PP_BELLCTL.GO. -/
def bellGo (s : State) : State :=
  bellOn (wb (setPp s { s.pp with bellLeft := atLeast1 (rn s .PP_BELLCNT 0) }) .PP_BELLCTL 0 2 true)

/-- PP_BELLCTL.STOP. -/
def bellStop (s : State) : State :=
  stopTimer (wb (setPp s { s.pp with bell := false, bellLeft := 0 }) .PP_BELLCTL 0 2 false) tmrBell

/-- A bell interval ends. -/
def bellTick (s : State) : State :=
  if timerDue s tmrBell = false then s
  else if s.pp.bell then
    startTimer (setPp s { s.pp with bell := false }) tmrBell (msTicks (atLeast1 (rn s .PP_BELLOFF 0)))
  else if s.pp.bellLeft ≤ 1 then bellStop s
  else bellOn (setPp s { s.pp with bellLeft := s.pp.bellLeft - 1 })

/-- The LED generator `k`. -/
def ledOf (s : State) (k : Nat) : LedGen := mget (fun _ => LedGen.reset) s.pp.leds k

/-- The state with an LED generator replaced. -/
def setLed (s : State) (k : Nat) (x : LedGen) : State :=
  setPp s { s.pp with leds := mset (fun _ => LedGen.reset) s.pp.leds k x }

/-- Ticks of a number of 10 ms steps. -/
def ledTicks (n : Nat) : Nat := msTicks (10 * n)

/-- A generator's pattern starts: a group of flashes begins with an on interval; a group of none waits. -/
def ledStart (s : State) (k : Nat) : State :=
  match rn s .PP_LEDMODE k with
  | 1 => stopTimer (setLed s k ⟨true, 0, s.time⟩) (tmrLed k)
  | 2 => startTimer (setLed s k ⟨true, 0, s.time⟩) (tmrLed k) (ledTicks (rn s .PP_LEDON k))
  | 3 =>
    if rn s .PP_LEDCNT k = 0 then
      startTimer (setLed s k ⟨false, 0, s.time⟩) (tmrLed k) (msTicks (100 * rn s .PP_LEDREP k))
    else startTimer (setLed s k ⟨true, rn s .PP_LEDCNT k, s.time⟩) (tmrLed k) (ledTicks (rn s .PP_LEDON k))
  | _ => stopTimer (setLed s k ⟨false, 0, s.time⟩) (tmrLed k)

/-- An on, off or repeat interval of a generator ends. -/
def ledTick (s : State) (k : Nat) : State :=
  if timerDue s (tmrLed k) = false then s
  else
    let x := ledOf s k
    if x.out then startTimer (setLed s k { x with out := false }) (tmrLed k) (ledTicks (rn s .PP_LEDOFF k))
    else if rn s .PP_LEDMODE k = 3 then
      (if 1 < x.flash then
        startTimer (setLed s k { x with out := true, flash := x.flash - 1 }) (tmrLed k) (ledTicks (rn s .PP_LEDON k))
       else if x.flash = 1 ∧ s.time < x.groupAt + msTicks (100 * rn s .PP_LEDREP k) then
        startTimer (setLed s k { x with flash := 0 }) (tmrLed k) (x.groupAt + msTicks (100 * rn s .PP_LEDREP k) - s.time)
       else ledStart s k)
    else ledStart s k

/-- The registers of an LED generator in the order of their addresses: MODE, ON, OFF, CNT, REP. -/
def ledReg (field : Nat) : Rg :=
  match field with
  | 0 => .PP_LEDMODE | 1 => .PP_LEDON | 2 => .PP_LEDOFF | 3 => .PP_LEDCNT | _ => .PP_LEDREP

/-- A write of a mode or timing register restarts the pattern. -/
def ledWrite (s : State) (k field : Nat) (v : Byte) : State :=
  ledStart (wr s (ledReg field) k (BitVec.ofNat 32 v.toNat)) k

/-! ## The ADC (R793-R796) -/

/-- Each window comparator that watches the input compares the result (R796). -/
def adcWindows (s : State) (input code : Nat) : State :=
  forN 4 s fun s k =>
    if rb s .ADC_WININ k 7 && rf s .ADC_WININ k 3 0 == input then
      let out := decide (code < rf s .ADC_WINLO k 11 0) || decide (rf s .ADC_WINHI k 11 0 < code)
      if out && !(rb s .ADC_WINSTAT k 0) then
        raise (count (wr s .ADC_WINSTAT k 3) .print 0x53) .print 79
      else wb s .ADC_WINSTAT k 0 out
    else s

/-- Conversions of the firmware pass. -/
def seqLen (s : State) : Nat := rf s .ADC_SEQLEN 0 3 0 + 1

/-- A pass of the firmware sequence starts, or is skipped where the previous one is unfinished (R795). -/
def seqPass (s : State) : State :=
  if s.pp.seqLeft ≠ 0 then count (wb s .ADC_SEQCTL 0 3 true) .print 0x52
  else adcRequest (setPp s { s.pp with seqLeft := seqLen s }) 3 (rf s .ADC_SEQ 0 3 0) (.sequence 0)

/-- ADC_SEQCTL.GO. -/
def seqGo (s : State) : State :=
  let s1 := wb (seqPass s) .ADC_SEQCTL 0 2 true
  if rn s1 .ADC_SEQPER 0 = 0 then stopTimer s1 tmrSeq else startTimer s1 tmrSeq (usTicks (rn s1 .ADC_SEQPER 0))

/-- A request of the firmware sequence. -/
def ofSeq (r : AdcReq) : Bool := match r.who with | .sequence _ => true | _ => false

/-- ADC_SEQCTL.STOP: no further conversion of the sequence is requested, and the one in progress is of no pass. -/
def seqStop (s : State) : State :=
  stopTimer (wb (setPp s { s.pp with
    seqLeft := 0, adcWait := s.pp.adcWait.filter fun r => !(ofSeq r),
    adcCur := s.pp.adcCur.map fun r => if ofSeq r then { r with who := .nobody } else r }) .ADC_SEQCTL 0 2 false) tmrSeq

/-- A conversion of the firmware sequence has ended: its result, then the next one or the end of the pass (source 78). -/
def seqCode (s : State) (k code : Nat) : State :=
  if s.pp.seqLeft = 0 then s
  else
    let s1 := wr s .ADC_RES k (BitVec.ofNat 32 code)
    let left := s1.pp.seqLeft - 1
    let s2 := setPp s1 { s1.pp with seqLeft := left }
    if left ≠ 0 then adcRequest s2 3 (rf s2 .ADC_SEQ (k + 1) 3 0) (.sequence (k + 1))
    else
      let s3 := raise s2 .print 78
      if timerOn s3 tmrSeq then s3 else wb s3 .ADC_SEQCTL 0 2 false

/-- A conversion ends, once its 500 ns have passed (R793, R796): ADC_LASTi, the window comparators, its requester, and the next request. -/
def adcDone (s : State) (code : Nat) : State :=
  match s.pp.adcCur, timerDue s tmrAdc with
  | none, _ | _, false => s
  | some r, true =>
    let s1 := wr (setPp (stopTimer s tmrAdc) { s.pp with adcCur := none }) .ADC_LAST r.input (BitVec.ofNat 32 code)
    let s2 := adcWindows s1 r.input code
    let s3 := match r.who with
      | .chop w => windCode s2 w code
      | .head i => headCode s2 i code
      | .bemf i => bemfCode s2 i code
      | .dark k => sensorDark s2 k code
      | .lit k => sensorLit s2 k code
      | .sequence k => seqCode s2 k code
      | .nobody => s2
    adcStart s3

/-! ## Meanings -/

/-- SENSOR_PERIOD (R767 step 1). -/
def execSensorPeriod (s : State) : Host.Outcome State Fault Refusal :=
  liveIn s .print fun s =>
    if timerOn s tmrSensor = true ∧ timerDue s tmrSensor = false then s
    else
      let s1 := startTimer s tmrSensor (msTicks (atLeast1 (rn s .PP_SNSPER 0)))
      if (sensorsOn s1).isEmpty then emitterOn s1
      else (sensorsOn s1).foldl (fun s k => adcRequest s 2 (8 + k) (.dark k)) s1

/-- SENSOR_EMIT_SETTLE (R767 steps 3 and 4). -/
def execSensorEmitSettle (s : State) : Host.Outcome State Fault Refusal :=
  liveIn s .print fun s =>
    if s.pp.emit ∧ timerDue s tmrEmit then
      (let s1 := stopTimer s tmrEmit
       if (sensorsOn s1).isEmpty then emitterOff s1
       else (sensorsOn s1).foldl (fun s k => adcRequest s 2 (8 + k) (.lit k)) s1)
    else s

/-- SENSOR_CALIBRATE (R769). -/
def execSensorCalibrate (req : Nat) (k : Fin 4) (s : State) : Host.Outcome State Fault Refusal :=
  writeReg s req .PP_SNSCTL 0 fun s => setSensor s k { sensorOf s k with cal := true }

/-- INPUT_DEBOUNCED (R772): the input's new state has held for its debounce time and is taken; `level` is the level of its pin, where one
carries it. -/
def execInputDebounced (i : InputName) (level : Bool) (s : State) : Host.Outcome State Fault Refusal :=
  liveIn s .print fun s =>
    if timerDue s (tmrDeb i) && (level == (inputLine s (inputFn i)).getD level) then
      inputTaken (stopTimer s (tmrDeb i)) i (inputSeen s i)
    else s

/-- CUT (R776). -/
def execCut (req : Nat) (s : State) : Host.Outcome State Fault Refusal := writeReg s req .PP_CCTL 0 cutGo

/-- CUTTER_DRIVE_RISE (R777 step 2). -/
def execCutterDriveRise (s : State) : Host.Outcome State Fault Refusal :=
  liveIn s .print fun s =>
    if timerDue s tmrCutRise ∧ (s.pp.cut = .starting ∨ s.pp.cut = .away) then
      setCut (stopTimer s tmrCutRise) (if s.pp.cut = .starting then .driving else .away) true false
    else s

/-- CUT_LEAVE_TIMEOUT (R777 step 3, R804). -/
def execCutLeaveTimeout (tie : Bool) (s : State) : Host.Outcome State Fault Refusal :=
  liveIn s .print fun s => expire s .print tmrCutLeave tie fun s => cutFault (count s .print 0x50) 1 6

/-- CUTTER_BRAKE (R777 step 5, R778). -/
def execCutterBrake (s : State) : Host.Outcome State Fault Refusal :=
  liveIn s .print fun s =>
    if timerDue s tmrCutBrake ∧ s.pp.cut = .coasting then
      (let s1 := stopTimer s tmrCutBrake
       if dstate s1 2 = 3 then setCut s1 .idle false true
       else startTimer (setCut s1 .braking false true) tmrCutEnd (msTicks (atLeast1 (rn s1 .PP_BRKT 0))))
    else s

/-- CUTTER_BRAKE_END (R777 step 6, R779, R790). -/
def execCutterBrakeEnd (s : State) : Host.Outcome State Fault Refusal :=
  liveIn s .print fun s =>
    if timerDue s tmrCutEnd ∧ (s.pp.cut = .braking ∨ s.pp.cut = .jogBraking) then
      (let s1 := setData (setCut (stopTimer s tmrCutEnd) .idle false true) 2 0
       if s.pp.cut = .jogBraking then raise (cutLast s1 0) .print 73 else s1)
    else s

/-- CUT_TIMEOUT (R778, R253). -/
def execCutTimeout (tie : Bool) (s : State) : Host.Outcome State Fault Refusal :=
  liveIn s .print fun s => expire s .print tmrCutTmo tie fun s => cutFault (count s .print 0x4F) 0 5

/-- JOG (R779). -/
def execJog (req : Nat) (s : State) : Host.Outcome State Fault Refusal := writeReg s req .PP_CCTL 0 jogGo

/-- JOG_END (R779). -/
def execJogEnd (s : State) : Host.Outcome State Fault Refusal :=
  liveIn s .print fun s =>
    if timerDue s tmrJog ∧ s.pp.cut = .jogging then
      startTimer (setCut (stopTimer s tmrJog) .jogBraking false true) tmrCutEnd (msTicks (atLeast1 (rn s .PP_BRKT 0)))
    else s

/-- CUTTER_DISABLE (R790). -/
def execCutterDisable (req : Nat) (s : State) : Host.Outcome State Fault Refusal := writeReg s req .PP_CCTL 0 cutDisable

/-- CUTTER_FAULT_CLEAR (R791). -/
def execCutterFaultClear (req : Nat) (v : Byte) (s : State) : Host.Outcome State Fault Refusal :=
  writeReg s req .PP_CFAULT 0 fun s => cutClear s v

/-- DRAWER_PULSE (R782). -/
def execDrawerPulse (req : Nat) (k : Fin 2) (v : Byte) (s : State) : Host.Outcome State Fault Refusal :=
  writeReg s req .PP_DPULSE k fun s => drawerPulse s k v

/-- DRAWER_PULSE_END (R785). -/
def execDrawerPulseEnd (k : Fin 2) (s : State) : Host.Outcome State Fault Refusal :=
  liveIn s .print fun s =>
    if timerDue s (tmrPulseDrw k) then
      (match (drawerOf s k).high with
       | some (_, w) => drawerEnds s k (msTicks w)
       | none => s)
    else s

/-- DRAWER_COOLDOWN_END (R784). -/
def execDrawerCooldownEnd (k : Fin 2) (s : State) : Host.Outcome State Fault Refusal :=
  liveIn s .print fun s =>
    if timerDue s (tmrCool k) then
      (let s1 := stopTimer s (tmrCool k)
       match (drawerOf s1 k).held with
       | some w => drawerFire s1 k w
       | none => s1)
    else s

/-- DRAWER_DISABLE (R790). -/
def execDrawerDisable (req : Nat) (k : Fin 2) (s : State) : Host.Outcome State Fault Refusal :=
  writeReg s req .PP_DCTL 0 fun s => drawerDisable s k

/-- BELL_GO (R786). -/
def execBellGo (req : Nat) (s : State) : Host.Outcome State Fault Refusal := writeReg s req .PP_BELLCTL 0 bellGo

/-- BELL_STOP (R786). -/
def execBellStop (req : Nat) (s : State) : Host.Outcome State Fault Refusal := writeReg s req .PP_BELLCTL 0 bellStop

/-- BELL_TIMER (R786). -/
def execBellTimer (s : State) : Host.Outcome State Fault Refusal := liveIn s .print bellTick

/-- LED_MODE_WRITE (R787). -/
def execLedModeWrite (req : Nat) (k : Fin 3) (field : Fin 5) (v : Byte) (s : State) : Host.Outcome State Fault Refusal :=
  writeReg s req (ledReg field) k fun s => ledWrite s k field v

/-- LED_PATTERN_TICK (R787). -/
def execLedPatternTick (k : Fin 3) (s : State) : Host.Outcome State Fault Refusal := liveIn s .print fun s => ledTick s k

/-- PP_LIMIT_LOCK (chapter 15, Registers). -/
def execPpLimitLock (req : Nat) (s : State) : Host.Outcome State Fault Refusal :=
  writeReg s req .PP_LIMLOCK 0 fun s => wb s .PP_LIMLOCK 0 0 true

/-- ADC_CONVERSION_DONE (R793). -/
def execAdcConversionDone (code : BitVec 12) (s : State) : Host.Outcome State Fault Refusal :=
  liveIn s .print fun s => adcDone s code.toNat

/-- ADC_SEQ_GO (R795). -/
def execAdcSeqGo (req : Nat) (s : State) : Host.Outcome State Fault Refusal := writeReg s req .ADC_SEQCTL 0 seqGo

/-- ADC_SEQ_STOP (R795). -/
def execAdcSeqStop (req : Nat) (s : State) : Host.Outcome State Fault Refusal := writeReg s req .ADC_SEQCTL 0 seqStop

/-- ADC_SEQ_PERIOD (R795). -/
def execAdcSeqPeriod (s : State) : Host.Outcome State Fault Refusal :=
  liveIn s .print fun s =>
    if timerDue s tmrSeq then seqPass (startTimer s tmrSeq (usTicks (rn s .ADC_SEQPER 0))) else s

end Sys2Proof.Machine
end

