-- ==== Sys2Proof/Machine/LedgerRows.lean ====
section
/-!
DEFINITION. The Ledger as a unit (chapter 13): settling and checking, the unsettled interval, rebase, and its read ports. The booking
operations themselves are in Ops.
-/
namespace Sys2Proof.Machine

/-- The state with the Ledger replaced. -/
def setLedger (s : State) (l : Ledger) : State := { s with led := l }

/-- A book's equation holds (R648). -/
def equationOk (s : State) (b : Nat) : Bool := term s b 0 == rhs s b

/-- A book's structural check (R654); Q of a ring is compared modulo the ring size, as the rule gives TAIL - FETCH. -/
def structureOk (s : State) (b : Nat) : Bool :=
  if b ≤ 3 then
    (term s b 1).toNat == (poolOf s b).free.length && (term s b 2).toNat == (poolOf s b).owner.length
  else if b ≤ 19 then
    let c := b - 4
    (term s b 3).toNat % ringSize s c == (rn s .RING_TAIL c + ringSize s c - rn s .RING_FETCH c) % ringSize s c &&
    (term s b 4).toNat == rn s .RING_HELD c && (term s b 0 - term s b 1 - term s b 2).toNat == rn s .RING_OUTST c
  else if b = 20 then decide ((term s b 2).toNat + (term s b 3).toNat ≤ s.mr.grant)
  else if b = 21 then (term s b 3).toNat == feedPend s
  else if b = 22 then (term s b 3).toNat == s.kx.held.length
  else (term s b 3).toNat == s.icu.pend.length && (term s b 4).toNat == s.icu.ret.length && decide ((term s b 5).toNat ≤ 8)

/-- A transfer that will update a book waits in its source unit (R232). -/
def reportWaits (s : State) (b : Nat) : Bool :=
  s.xwait.any fun e => e.2.any fun x =>
    match x with
    | .book b' .. => b' == b
    | .ringGive c .. | .ringAccept c | .ringDone c .. => 4 + c == b
    | _ => false

/-- A book is suspended between RESET and FLIP of its block's hand-over (R659). -/
def suspended (s : State) (b : Nat) : Bool :=
  if 4 ≤ b ∧ b ≤ 19 then hoPhase s (7 + (b - 4)) == 2 else b == 22 && hoPhase s 2 == 2

/-- A rebase: the inflow term takes the value with which the equation holds, and the book is checked again (R669). -/
def rebaseNow (s : State) (b : Nat) : State :=
  let s1 := wb (setTerm s b 0 (rhs s b)) .LED_FAILED 0 b false
  setLedger s1 { s1.led with rebase := mset (fun _ => false) s1.led.rebase b false }

/-- The snapshot of a passing check (R655). -/
def snapBook (s : State) (b : Nat) : State :=
  setLedger s { s.led with
    snap := (List.range (termT b + 1)).foldl (fun m t => mset (fun _ => 0) m (8 * b + t) (term s b t)) s.led.snap }

/-- The check of one book (R654-R656, R666). -/
def checkBook (s : State) (b : Nat) : State :=
  if rb s .LED_FAILED 0 b then s
  else if equationOk s b = false then imbalance s b 0
  else if structureOk s b = false then imbalance s b 1
  else wb (snapBook s b) .LED_BAL 0 b true

/-- A book has settled: its interval ends and its LED_UNSET bit clears (R657). -/
def settled (s : State) (b : Nat) : State :=
  stopTimer (wb (setLastUpdate s b none) .LED_UNSET 0 b false) (tmrSettle b)

/-- The quiet interval of a book ends: an update has come since the latest settle and none in the last 64 FABRIC cycles, which are CORE
cycles, and nothing is in T (R653) or about to be. -/
def quietEnds (s : State) (b : Nat) : Bool :=
  (match lastUpdate s b with | some k => decide (k + 64 ≤ s.cycles) | none => false) &&
  decide (term s b (termT b) = 0) && !(reportWaits s b) && !(suspended s b)

/-- A book settles (R653): a rebase that waits is made (R677), and the book is checked. -/
def settleBook (s : State) (b : Nat) : State :=
  if quietEnds s b = false then s
  else
    let s1 := if mget (fun _ => false) s.led.rebase b then rebaseNow s b else s
    settled (checkBook s1 b) b

/-- A write of GO in LED_REBASE (R669, R677). -/
def rebaseGo (s : State) (b : Nat) : State :=
  if 24 ≤ b ∨ rb s .LED_FAILED 0 b = false then s
  else if term s b (termT b) = 0 ∧ lastUpdate s b = none then rebaseNow s b
  else setLedger s { s.led with rebase := mset (fun _ => false) s.led.rebase b true }

/-- What LED_TDATA reads: a term of the snapshot, 0 beyond the book's terms (R655). -/
def tdata (s : State) : Quad :=
  let b := rf s .LED_TIDX 0 4 0
  let t := rf s .LED_TIDX 0 10 8
  if 24 ≤ b ∨ termT b < t then 0 else mget (fun _ => 0) s.led.snap (8 * b + t)

/-- A thread's read of LED_TDATA moves TERM on (R671, R678). -/
def tdataNext (s : State) (req : Nat) : State := if req = 8 then s else wf s .LED_TIDX 0 10 8 (rf s .LED_TIDX 0 10 8 + 1)

/-- What LED_WODATA reads. -/
def wodata (s : State) : Quad :=
  match s.led.wo[rf s .LED_WOIDX 0 3 0]? with
  | some l => BitVec.ofNat 32 (l.book + 32 * l.block + 2048 * (l.amount % 8192) + 2147483648)
  | none => 0

/-- A thread's read of LED_WODATA moves SLOT on (R671, R678). -/
def wodataNext (s : State) (req : Nat) : State := if req = 8 then s else wf s .LED_WOIDX 0 3 0 (rf s .LED_WOIDX 0 3 0 + 1)

/-! ## The rows -/

/-- BOOK_SETTLE (R653): an update captured on the edge on which the quiet interval would end withdraws it, and the interval begins again
(R672). -/
def execBookSettle (b : Fin 24) (tie : Bool) (s : State) : Host.Outcome State Fault Refusal :=
  liveIn s .fabric fun s =>
    if tie then (if quietEnds s b.val then count (setLastUpdate s b.val (some s.cycles)) .fabric 0x08 else s) else settleBook s b.val

/-- BOOK_UNSETTLED (R657). -/
def execBookUnsettled (b : Fin 24) (tie : Bool) (s : State) : Host.Outcome State Fault Refusal :=
  liveIn s .fabric fun s => expire s .fabric (tmrSettle b.val) tie fun s => count (wb s .LED_UNSET 0 b.val true) .fabric 0x2F

/-- REBASE (R669): a write of LED_REBASE with GO and a book. -/
def execRebase (req : Nat) (b : BitVec 5) (s : State) : Host.Outcome State Fault Refusal :=
  writeReg s req .LED_REBASE 0 fun s => rebaseGo (wf s .LED_REBASE 0 4 0 b.toNat) b.toNat

/-- TERM_READ (R671). -/
def execTermRead (req : Nat) (dst : Dst) (s : State) : Host.Outcome State Fault Refusal :=
  readRegRow s req .LED_TDATA 0 fun s ok =>
    if ok then replyIn (tdataNext (capture s req .LED_TDATA 0 (tdata s)) req) .fabric dst (byteOf (tdata s) 0)
    else replyIn s .fabric dst 0

/-- WRITEOFF_LOG_READ (R671). -/
def execWriteoffLogRead (req : Nat) (dst : Dst) (s : State) : Host.Outcome State Fault Refusal :=
  readRegRow s req .LED_WODATA 0 fun s ok =>
    if ok then replyIn (wodataNext (capture s req .LED_WODATA 0 (wodata s)) req) .fabric dst (byteOf (wodata s) 0)
    else replyIn s .fabric dst 0

end Sys2Proof.Machine
end

