-- ==== Sys2Proof/Machine/Nv.lean ====
section
/-!
DEFINITION. The NV store (chapter 20): records, checks, page writes in phases, twins, rings, counters, protection, and the meanings of the
NV commands.
-/
namespace Sys2Proof.Machine

/-- The state with the NV controller replaced. -/
def setNv (s : State) (v : Nv) : State := { s with nv := v }

/-! ## Pages and records -/

/-- A page is BLANK (R1023). -/
def nvBlank (s : State) (p : Nat) : Bool := mget (fun _ => true) s.nv.blank p

/-- A page is RETIRED. -/
def nvRetired (s : State) (p : Nat) : Bool := mget (fun _ => false) s.nv.retired p

/-- A page's wear count. -/
def nvWear (s : State) (p : Nat) : Nat := mget (fun _ => 0) s.nv.wear p

/-- The level of WPN. -/
def wpn (s : State) : Bool := padIn s 96

/-- The first page of a protected region, 512 for none (R1041). -/
def bpFrom (bp : Nat) : Nat := if bp = 0 then 512 else if bp = 1 then 384 else if bp = 2 then 256 else 0

/-- A page is protected now (R1041, R1042). -/
def nvProtected (s : State) (p : Nat) : Bool := decide (bpFrom s.nv.bp ≤ p) && !(wpn s)

/-- The content of a page (R1020, R1023). -/
def nvPage (s : State) (p : Nat) : List Byte := (List.range 256).map fun o => mget (fun _ => 0xFF) s.nvByte (256 * p + o)

/-- The state with a page's content replaced. -/
def nvPut (s : State) (p : Nat) (bs : List Byte) : State :=
  { s with nvByte := (List.range 256).foldl (fun m o => mset (fun _ => 0xFF) m (256 * p + o) (bs.getD o 0xFF)) s.nvByte }

/-- The fields of a record's page (R1044). -/
def recType (bs : List Byte) : Nat := (bs.getD 0 0).toNat
def recLen (bs : List Byte) : Nat := (bs.getD 1 0).toNat
def recSeq (bs : List Byte) : Nat := leNat ((bs.drop 2).take 4)
def recPayload (bs : List Byte) : List Byte := (bs.drop 8).take (recLen bs)

/-- A page holds a valid record, of a type where one is asked for (R1045). -/
def recValid (s : State) (p : Nat) (ty : Option Nat) : Bool :=
  let bs := nvPage s p
  !(nvBlank s p) && decide (1 ≤ recLen bs) && decide (recLen bs ≤ 244) &&
  decide (leNat ((bs.drop (8 + recLen bs)).take 4) = crc32Of (bs.take (8 + recLen bs))) &&
  (match ty with | some t => recType bs == t | none => true)

/-- The page of a record (R1044). -/
def recBytes (ty seq : Nat) (payload : List Byte) : List Byte :=
  let h := [BitVec.ofNat 8 ty, BitVec.ofNat 8 payload.length] ++ leBytes 4 seq ++ [0, 0] ++ payload
  let b := h ++ leBytes 4 (crc32Of h)
  b ++ List.replicate (256 - b.length) 0xFF

/-! ## Blocks -/

/-- Buffer byte `i` of block `w`. -/
def nvBuf (s : State) (w i : Nat) : Byte := mget (fun _ => 0) s.nv.buf (256 * w + i)

/-- The first `n` bytes of block `w`'s buffer. -/
def nvBufTake (s : State) (w n : Nat) : List Byte := (List.range n).map (nvBuf s w)

/-- The state with bytes put into block `w`'s buffer from byte 0. -/
def nvBufPut (s : State) (w : Nat) (bs : List Byte) : State :=
  setNv s { s.nv with buf := (List.range bs.length).foldl (fun m i => mset (fun _ => 0) m (256 * w + i) (bs.getD i 0)) s.nv.buf }

/-- BUSY of a block. -/
def nvBusy (s : State) (w : Nat) : Bool := rb s .NVB_RES w 6

/-- DATA_STATE follows the commands (R1059); a disable has drained once none is left. -/
def nvShow (s : State) : State :=
  let work := s.nv.run.isSome || !s.nv.queue.isEmpty
  let s1 := if dstate s 10 = 2 ∧ work = false then setData s 10 0 else s
  follow s1 10 (mgmt s1 10 == 1 && work)

/-- A command of block `w` ends (R1030): STATUS, BUSY, DONEF, source 92. -/
def nvResult (s : State) (w status : Nat) : State :=
  let s1 := setNv s { s.nv with sets := mset (fun _ => none) s.nv.sets w none }
  raise (wb (wb (wf s1 .NVB_RES w 3 0 status) .NVB_RES w 6 false) .NVB_RES w 7 true) .serial 92

/-- The command in progress ends. -/
def nvEnd (s : State) (status : Nat) : State :=
  match s.nv.run with
  | none => s
  | some (w, _) =>
    let s1 := setNv s { s.nv with run := none, begun := false, jobs := [], phase := .load, again := false, abort := false }
    nvShow (nvResult s1 w status)

/-- The masks and ring descriptors in force. -/
def nvSetNow (s : State) : NvSet := ⟨s.nv.mask, s.nv.maskType, (List.range 8).map (rd s .NV_RINGCFG)⟩

/-- The masks and ring descriptors that the command in progress was started with (R1063). -/
def nvSet (s : State) : NvSet :=
  match s.nv.run with
  | some (w, _) => (mget (fun _ => (none : Option NvSet)) s.nv.sets w).getD (nvSetNow s)
  | none => nvSetNow s

/-- GO of a block (R1028): ignored while BUSY is 1; the command waits its turn, block 0 before block 1 on one edge (R1029; the model takes
the writes of one CORE cycle as those of one edge, DESIGN CHOICE, log 141). -/
def nvGo (s : State) (w req : Nat) : State :=
  if nvBusy s w then s
  else
    let first := w == 0 && s.nv.goAt == s.cycles
    let queue := if first then (0, req) :: s.nv.queue else s.nv.queue ++ [(w, req)]
    nvShow (setNv (wb s .NVB_RES w 6 true) { s.nv with
      queue := queue, goAt := if w = 1 then s.cycles else s.nv.goAt
      sets := mset (fun _ => none) s.nv.sets w (some (nvSetNow s)) })

/-- The next waiting command is dispatched where none is in progress and the store is ready (R1022, R1029). -/
def nvDispatch (s : State) : State :=
  match s.nv.queue with
  | [] => s
  | c :: rest =>
    if s.nv.run.isSome ∨ rb s .NV_STAT 0 0 = false then s
    else setNv s { s.nv with
      queue := rest, run := some c, begun := false, jobs := [], phase := .load, again := false, donePg := 0, maintAt := 0
      status := 0, abort := false }

/-- The phase a write begins with (R1033): a hidden write has no LOAD. -/
def jobPhase (j : NvJob) : NvPhase := match j with | .page _ _ => .load | .blank _ => .load | _ => .erase

/-- The command's writes begin, or it ends where there are none. -/
def nvBegin (s : State) (jobs : List NvJob) : State :=
  match jobs with
  | [] => nvEnd s 0
  | j :: _ => setNv s { s.nv with begun := true, jobs := jobs, phase := jobPhase j }

/-! ## Checks (R1032) -/

/-- What a command would do: the checks of R1032 in their order, and its effect after them. -/
structure NvPlan where
  args : Bool
  range : Bool
  reads : List Nat
  writes : List Nat
  denied : Bool
  allowRetired : Bool
  deriving DecidableEq, Repr

/-- The checks of R1032: the status of the first that fails, with the pages concerned. -/
def nvCheck (s : State) (w : Nat) (p : NvPlan) : Option Nat :=
  if mgmt s 10 ≠ 1 ∨ dstate s 10 = 3 then some 15
  else if p.args = false then some 1
  else if p.range = false then some 2
  else if w = 1 ∧ (p.denied ∨ (p.reads ++ p.writes).any fun x => decide (x < nwm s)) then some 3
  else if p.writes.any (nvProtected s) then some 4
  else if p.allowRetired = false ∧ p.writes.any (nvRetired s) then some 5
  else none

/-- A check has failed: the events of R449 and R1042, and the command ends with nothing changed. -/
def nvRefuse (s : State) (p : NvPlan) (status : Nat) : State :=
  let s1 := if status = 3 then
      violateFrom s .serial 6 (agentOf ((s.nv.run.map fun r => r.2).getD 8))
        (((p.reads ++ p.writes).filter fun x => decide (x < nwm s)).headD 0)
    else if status = 4 then count s .serial 0x9E else s
  nvEnd s1 status

/-- Runs the command of code `c` that has been dispatched and has not begun: its checks, then its effect. -/
def nvCommand (s : State) (codes : List Nat) (plan : State → Nat → NvPlan) (run : State → Nat → State) : State :=
  match s.nv.run with
  | none => s
  | some (w, _) =>
    if s.nv.begun ∨ codes.contains (rf s .NVB_CMD w 3 0) = false then s
    else
      match nvCheck s w (plan s w) with
      | some st => nvRefuse s (plan s w) st
      | none => run s w

/-- Pages A and B, TYPE, LEN of a block. -/
def nvA (s : State) (w : Nat) : Nat := rf s .NVB_ADDR w 16 0 / 256
def nvB (s : State) (w : Nat) : Nat := rf s .NVB_PAGEB w 8 0
def nvTy (s : State) (w : Nat) : Nat := rn s .NVB_TYPE w
def nvLen (s : State) (w : Nat) : Nat := rf s .NVB_LEN w 8 0

/-- Pages `a`, `a + 1`, …, `n` of them. -/
def pagesFrom (a n : Nat) : List Nat := (List.range n).map fun i => a + i

/-- TYPE is one a record may have. -/
def tyOk (t : Nat) : Bool := t != 0 && t != 0xFF

/-! ## WRITE and ERASE -/

/-- The pages a WRITE touches. -/
def writePages (s : State) (w : Nat) : List Nat :=
  let a := rf s .NVB_ADDR w 16 0
  pagesFrom (a / 256) ((a + nvLen s w - 1) / 256 + 1 - a / 256)

/-- The new content of a page under a WRITE of `bs` at NV byte `a` (R1033, LOAD). -/
def mergePage (s : State) (p a : Nat) (bs : List Byte) : List Byte :=
  (List.range 256).map fun o =>
    let x := 256 * p + o
    if a ≤ x ∧ x < a + bs.length then bs.getD (x - a) 0 else mget (fun _ => 0xFF) s.nvByte x

/-- WRITE (R1031). -/
def nvWrite (s : State) : State :=
  nvCommand s [1]
    (fun s w => ⟨decide (1 ≤ nvLen s w ∧ nvLen s w ≤ 256), decide (rf s .NVB_ADDR w 16 0 + nvLen s w ≤ 0x20000), [],
      writePages s w, false, false⟩)
    (fun s w => nvBegin s ((writePages s w).map fun p =>
      .page p (mergePage s p (rf s .NVB_ADDR w 16 0) (nvBufTake s w (nvLen s w)))))

/-- ERASE (R1031). -/
def nvErase (s : State) : State :=
  nvCommand s [2]
    (fun s w => ⟨decide (1 ≤ nvLen s w ∧ nvLen s w ≤ 256), decide (nvA s w + nvLen s w ≤ 512), [],
      pagesFrom (nvA s w) (nvLen s w), false, false⟩)
    (fun s w => nvBegin s ((pagesFrom (nvA s w) (nvLen s w)).map .blank))

/-! ## Twin records (R1046-R1050) -/

/-- Whether payload byte `i` of a record of a type is compared (R1047). -/
def nvUsed (s : State) (ty i : Nat) : Bool :=
  if ty = 1 then decide (i ≤ 32)
  else
    match (List.range 16).find? fun k => k != 0 && mget (fun _ => 0) (nvSet s).maskType k == ty with
    | some k => (mget (fun _ => (0 : Byte)) (nvSet s).mask (32 * k + i / 8)).getLsbD (i % 8)
    | none => true

/-- Two valid copies agree in every compared byte (R1047). -/
def twinAgree (s : State) (ty : Nat) (a b : List Byte) : Bool :=
  recLen a == recLen b && (List.range (recLen a)).all fun i => !(nvUsed s ty i) || a.getD (8 + i) 0 == b.getD (8 + i) 0

/-- What a TWINRD of a pair finds (R1048): the page returned, TWIN, the page to mark. -/
inductive TwinRead where
  | got (page twin : Nat) (mark : Option Nat)
  | blank
  | bad
  deriving DecidableEq, Repr

/-- R1048 for pages `a` and `b` and a type. -/
def twinRead (s : State) (a b ty : Nat) : TwinRead :=
  let va := recValid s a (some ty)
  let vb := recValid s b (some ty)
  let pa := nvPage s a
  let pb := nvPage s b
  if va && vb then
    (if pa == pb then .got a 0 none
     else if twinAgree s ty pa pb then .got a 1 (some b)
     else if recSeq pa < recSeq pb then .got b 2 (some a) else .got a 2 (some b))
  else if va then .got a 3 (some b)
  else if vb then .got b 3 (some a)
  else if nvBlank s a && nvBlank s b then .blank
  else .bad

/-- The list entry that marks a page for re-sync (R1049). -/
def markWord (page partner ty : Nat) : Quad := BitVec.ofNat 32 (page + 512 * partner + 262144 * ty + 2147483648)

/-- A mark enters the list, unless it is there; a full list drops it (R1049). -/
def nvMark (s : State) (page partner ty : Nat) : State :=
  if (List.range 8).any fun k => rd s .NV_RS k == markWord page partner ty then s
  else
    match (List.range 8).find? fun k => !(rb s .NV_RS k 31) with
    | some k => wr s .NV_RS k (markWord page partner ty)
    | none => wb s .NV_STAT 0 2 true

/-- A record is returned in a block: its payload, LEN and SEQ. -/
def nvReturn (s : State) (w p : Nat) : State :=
  let bs := nvPage s p
  wr (wr (nvBufPut s w (recPayload bs)) .NVB_LEN w (BitVec.ofNat 32 (recLen bs))) .NVB_SEQ w (BitVec.ofNat 32 (recSeq bs))

/-- What a finding of R1048 counts. -/
def twinCount (s : State) (twin : Nat) : State :=
  if twin = 1 then count s .serial 0x98
  else if twin = 2 then raise (count s .serial 0x99) .serial 93
  else if twin = 3 then count s .serial 0x9A
  else s

/-- TWINRD (R1048). -/
def nvTwinRd (s : State) : State :=
  nvCommand s [4]
    (fun s w => ⟨tyOk (nvTy s w) && nvA s w != nvB s w, true, [nvA s w, nvB s w], [], false, false⟩)
    (fun s w =>
      let a := nvA s w
      let b := nvB s w
      match twinRead s a b (nvTy s w) with
      | .got p twin m =>
        let s1 := twinCount (wf (nvReturn s w p) .NVB_RES w 5 4 twin) twin
        nvEnd (match m with | some x => nvMark s1 x (if x = a then b else a) (nvTy s w) | none => s1) 0
      | .blank => nvEnd s 9
      | .bad => nvEnd (raise s .serial 93) 10)

/-- TWINWR (R1046, R1071). -/
def nvTwinWr (s : State) : State :=
  nvCommand s [3]
    (fun s w => ⟨tyOk (nvTy s w) && nvA s w != nvB s w && decide (1 ≤ nvLen s w) && decide (nvLen s w ≤ 244), true, [],
      [nvA s w, nvB s w], false, false⟩)
    (fun s w =>
      let q (p : Nat) : Nat := if recValid s p (some (nvTy s w)) then recSeq (nvPage s p) else 0
      let seq := 1 + max (q (nvA s w)) (q (nvB s w))
      if seq > 0xFFFFFFFF then nvEnd s 6
      else
        let bs := recBytes (nvTy s w) seq (nvBufTake s w (nvLen s w))
        nvBegin (wr s .NVB_SEQ w (BitVec.ofNat 32 seq)) [.page (nvA s w) bs, .page (nvB s w) bs])

/-- MAINT goes on with its entries from `maintAt` (R1050): it stops at the first that needs a write. An entry's partner is read as copy A: the
page marked was then the one R1048 marks in a tie. The reading has every effect of R1048; where it marks the partner instead, the entry is
cleared and the partner marked (log 141). -/
def nvMaintNext : Nat → State → State
  | 0, s => nvEnd s s.nv.status
  | n + 1, s =>
    let k := s.nv.maintAt
    if 8 ≤ k then nvEnd s s.nv.status
    else
      let v := rd s .NV_RS k
      let s1 := setNv s { s.nv with maintAt := k + 1 }
      if v.getLsbD 31 = false then nvMaintNext n s1
      else
        let page := fld v 8 0
        let other := fld v 17 9
        match twinRead s1 other page (fld v 25 18) with
        | .got win twin m =>
          if m = some page then
            let s2 := twinCount s1 twin
            let st := if nvProtected s2 page then 4 else if nvRetired s2 page then 5 else 0
            if st ≠ 0 then
              nvMaintNext n (setNv (if st = 4 then count s2 .serial 0x9E else s2)
                { s2.nv with status := if s2.nv.status = 0 then st else s2.nv.status })
            else nvBegin s2 [.page page (nvPage s2 win)]
          else
            let s2 := wr (twinCount s1 twin) .NV_RS k 0
            nvMaintNext n (match m with | some x => nvMark s2 x page (fld v 25 18) | none => s2)
        | .blank => nvMaintNext n (wr s1 .NV_RS k 0)
        | .bad => nvMaintNext n (raise (wr s1 .NV_RS k 0) .serial 93)

/-- MAINT (R1050). -/
def nvMaint (s : State) : State :=
  nvCommand s [10] (fun _ _ => ⟨true, true, [], [], true, false⟩) (fun s _ => nvMaintNext 9 s)

/-! ## Wear rings (R1051-R1055) -/

/-- The first page and the slots of a ring. -/
def ringF (s : State) (k : Nat) : Nat := fld ((nvSet s).rings.getD k 0) 8 0
def ringS (s : State) (k : Nat) : Nat := fld ((nvSet s).rings.getD k 0) 13 9 + 1

/-- A ring descriptor is valid (R1051). -/
def ringOk (s : State) (k : Nat) : Bool := decide (2 ≤ ringS s k) && decide (ringF s k + ringS s k ≤ 512)

/-- Inserts a record into a list kept highest SEQ first. -/
def ringInsert (r : Nat × Nat) : List (Nat × Nat) → List (Nat × Nat)
  | [] => [r]
  | x :: l => if x.1 < r.1 then r :: x :: l else x :: ringInsert r l

/-- The slots with valid records, newest first, as (SEQ, slot) (R1052, R1054). -/
def ringRecords (s : State) (k : Nat) : List (Nat × Nat) :=
  let l := (List.range (ringS s k)).filterMap fun i =>
    if recValid s (ringF s k + i) none then some (recSeq (nvPage s (ringF s k + i)), i) else none
  l.foldl (fun acc r => ringInsert r acc) []

/-- The slot the next record goes into: the first not RETIRED after the newest, cyclically, or from slot F (R1053). -/
def ringTarget (s : State) (k : Nat) : Option Nat :=
  let from_ := match (ringRecords s k).head? with | some r => r.2 + 1 | none => 0
  ((List.range (ringS s k)).map fun j => (from_ + j) % ringS s k).find? fun i => !(nvRetired s (ringF s k + i))

/-- RINGAPP (R1053). -/
def nvRingApp (s : State) : State :=
  nvCommand s [5]
    (fun s w =>
      let k := rf s .NVB_SEL w 2 0
      ⟨tyOk (nvTy s w) && decide (1 ≤ nvLen s w) && decide (nvLen s w ≤ 244) && ringOk s k, true,
        pagesFrom (ringF s k) (ringS s k), (match ringTarget s k with | some i => [ringF s k + i] | none => []), false, true⟩)
    (fun s w =>
      let k := rf s .NVB_SEL w 2 0
      let newest := match (ringRecords s k).head? with | some r => r.1 | none => 0
      match ringTarget s k with
      | none => nvEnd s 12
      | some i =>
        if newest = 0xFFFFFFFF then nvEnd s 6
        else
          let p := ringF s k + i
          nvBegin (wr (wr s .NVB_SEQ w (BitVec.ofNat 32 (newest + 1))) .NVB_PAGEB w (BitVec.ofNat 32 p))
            [.page p (recBytes (nvTy s w) (newest + 1) (nvBufTake s w (nvLen s w)))])

/-- RINGRD (R1054, R1069). -/
def nvRingRd (s : State) : State :=
  nvCommand s [6]
    (fun s w =>
      let k := rf s .NVB_SEL w 2 0
      ⟨ringOk s k, true, pagesFrom (ringF s k) (ringS s k), [], false, false⟩)
    (fun s w =>
      let k := rf s .NVB_SEL w 2 0
      match (ringRecords s k)[rf s .NVB_IDX w 4 0]? with
      | none => nvEnd s 11
      | some r =>
        let p := ringF s k + r.2
        let s1 := nvReturn s w p
        nvEnd (wr (wr s1 .NVB_TYPE w (BitVec.ofNat 32 (recType (nvPage s p)))) .NVB_PAGEB w (BitVec.ofNat 32 p)) 0)

/-! ## Counters and protection -/

/-- A monotonic counter's committed value, and its updates. -/
def mcOf (s : State) (n : Nat) : Nat := mget (fun _ => 0) s.nv.mc n
def mcUpdates (s : State) (n : Nat) : Nat := mget (fun _ => 0) s.nv.mcUpd n

/-- A counter moves to a value, or ends EXHAUSTED or WORN (R1057, R1058). -/
def nvMcGo (s : State) (w : Nat) (v : Nat → Nat) : State :=
  let n := rf s .NVB_SEL w 2 0
  if mcOf s n = 0xFFFFFFFF then nvEnd (count s .serial 0xA0) 6
  else if 32000000 ≤ mcUpdates s n then nvEnd s 7
  else if v (mcOf s n) ≤ mcOf s n then nvEnd s 8
  else nvBegin s [.counter n (v (mcOf s n))]

/-- MCINC (R1056, R1057). -/
def nvMcInc (s : State) : State :=
  nvCommand s [7] (fun s w => ⟨decide (rf s .NVB_SEL w 2 0 ≤ 3), true, [], [], true, false⟩)
    (fun s w => nvMcGo s w fun v => v + 1)

/-- MCRAISE (R1057). -/
def nvMcRaise (s : State) : State :=
  nvCommand s [8] (fun s w => ⟨decide (rf s .NVB_SEL w 2 0 ≤ 3), true, [], [], true, false⟩)
    (fun s w => nvMcGo s w fun _ => rn s .NVB_VALUE w)

/-- PROTECT (R1043). -/
def nvProtect (s : State) : State :=
  nvCommand s [9]
    (fun s w =>
      let new := rf s .NVB_VALUE w 1 0
      let keeper (bp : Nat) : Bool := decide (bpFrom bp < nwm s)
      ⟨true, true, [], [], keeper s.nv.bp || keeper new, false⟩)
    (fun s w =>
      let new := rf s .NVB_VALUE w 1 0
      if new < s.nv.bp ∧ wpn s = false then nvEnd s 4 else nvBegin s [.protect new])

/-- CMD 0 and 11-15 (R1031). -/
def nvBad (s : State) : State :=
  nvCommand s [0, 11, 12, 13, 14, 15] (fun _ _ => ⟨false, true, [], [], false, false⟩) (fun s _ => s)

/-! ## Phases (R1033-R1039) -/

/-- The wear of a page rises by 1 with a commit (R1038, R1039, R1066). -/
def nvWearUp (s : State) (p : Nat) : State :=
  let n := nvWear s p + 1
  let s1 := setNv s { s.nv with wear := mset (fun _ => 0) s.nv.wear p n }
  let retire := decide (n = 1048575)
  let high := decide (n = rf s .NV_WEARWARN 0 19 0)
  let s2 := if retire then count (setNv s1 { s1.nv with retired := mset (fun _ => false) s1.nv.retired p true }) .serial 0x9B else s1
  let s3 := if high then count s2 .serial 0x9C else s2
  if retire || high then raise s3 .serial 93 else s3

/-- The commit of a write (R1020, R1033, R1056). -/
def nvCommit (s : State) (j : NvJob) : State :=
  match j with
  | .page p bs =>
    let s1 := nvPut s p bs
    nvWearUp (setNv s1 { s1.nv with blank := mset (fun _ => true) s1.nv.blank p false, donePg := s1.nv.donePg + 1 }) p
  | .blank p =>
    let s1 := { s with nvByte := merase s.nvByte (256 * p) (256 * p + 256) }
    nvWearUp (setNv s1 { s1.nv with blank := mset (fun _ => true) s1.nv.blank p true, donePg := s1.nv.donePg + 1 }) p
  | .protect v => wf (setNv s { s.nv with bp := v }) .NV_STAT 0 5 4 v
  | .counter n v =>
    let u := mcUpdates s n + 1
    let s1 := setNv s { s.nv with mc := mset (fun _ => 0) s.nv.mc n v, mcUpd := mset (fun _ => 0) s.nv.mcUpd n u }
    let s2 := wb (wr s1 .NV_MC n (BitVec.ofNat 32 v)) .NV_MCSTAT 0 n (decide (v = 0xFFFFFFFF))
    if 32000000 ≤ u then wb s2 .NV_MCSTAT 0 (4 + n) true else s2

/-- The results of the command at its end: DONEPG, VALUE. -/
def nvFinish (s : State) (status : Nat) : State :=
  match s.nv.run with
  | none => s
  | some (w, _) =>
    let cmd := rf s .NVB_CMD w 3 0
    let s1 := if cmd = 7 ∨ cmd = 8 ∨ cmd = 9 then s else wr s .NVB_DONEPG w (BitVec.ofNat 32 s.nv.donePg)
    let s2 := if cmd = 7 ∨ cmd = 8 then wr s1 .NVB_VALUE w (BitVec.ofNat 32 (mcOf s1 (rf s1 .NVB_SEL w 2 0))) else s1
    nvEnd s2 status

/-- The write in progress has committed: the next one, the next entry of MAINT, or the end (R1037, R1060). -/
def nvNextJob (s : State) : State :=
  let rest := s.nv.jobs.drop 1
  let s0 := setNv s { s.nv with jobs := rest, again := false }
  match s.nv.run with
  | none => s0
  | some (w, _) =>
    let maint := rf s .NVB_CMD w 3 0 == 10
    let s1 := if maint then wr s0 .NV_RS (s0.nv.maintAt - 1) 0 else s0
    if s1.nv.abort then nvFinish s1 14
    else
      match rest with
      | j :: _ => setNv s1 { s1.nv with phase := jobPhase j }
      | [] => if maint then nvMaintNext 9 (wr s1 .NVB_DONEPG w (BitVec.ofNat 32 s1.nv.donePg)) else nvFinish s1 0

/-- A phase of the write in progress is complete (R1033, R1036): `verified` is what the PROGRAM phase finds. -/
def nvPhaseDone (s : State) (verified : Bool) : State :=
  match s.nv.jobs with
  | [] => s
  | j :: _ =>
    match s.nv.phase with
    | .load => setNv s { s.nv with phase := .erase }
    | .erase => setNv s { s.nv with phase := .program }
    | .program =>
      if verified then setNv s { s.nv with phase := .commit }
      else if s.nv.again = false then setNv s { s.nv with phase := .erase, again := true }
      else
        let s1 := match j with
          | .page p _ => setNv s { s.nv with retired := mset (fun _ => false) s.nv.retired p true }
          | .blank p => setNv s { s.nv with retired := mset (fun _ => false) s.nv.retired p true }
          | _ => s
        nvFinish (raise (count s1 .serial 0x9D) .serial 93) 13
    | .commit => nvNextJob (nvCommit s j)

/-! ## Loads of the mapping, ready, disable, reset -/

/-- A load of the mapping is answered (R31, R289). -/
def nvAnswer (s : State) (l : WinLoad) : State :=
  send s (toFabric .serial) (.spiReply l.req l.dst ((List.range l.n).map fun i => mget (fun _ => (0xFF : Byte)) s.nvByte (l.byte + i)))

/-- A load of the mapping arrives in SERIAL: it waits for READY (R1022). -/
def nvLoadTake (s : State) (l : WinLoad) : State :=
  if rb s .NV_STAT 0 0 then nvAnswer s l else setNv s { s.nv with loads := s.nv.loads ++ [l] }

/-- The store has been read after a reset (R1022, R1061): pages whose headers are both lost, and whether a counter store or the
protection setting is. -/
def nvReady (s : State) (lost : List Nat) (bad : Bool) : State :=
  if rb s .NV_STAT 0 0 then s
  else
    let s1 := lost.foldl (fun s p =>
      if p < 512 then
        count (setNv { s with nvByte := merase s.nvByte (256 * p) (256 * p + 256) } { s.nv with
          blank := mset (fun _ => true) s.nv.blank p true, retired := mset (fun _ => false) s.nv.retired p true }) .serial 0x9F
      else s) s
    let s2 := wf (wb s1 .NV_STAT 0 0 true) .NV_STAT 0 5 4 s1.nv.bp
    let s3 := forN 4 s2 fun s n =>
      wb (wb (wr s .NV_MC n (BitVec.ofNat 32 (mcOf s n))) .NV_MCSTAT 0 n (decide (mcOf s n = 0xFFFFFFFF)))
        .NV_MCSTAT 0 (4 + n) (decide (32000000 ≤ mcUpdates s n))
    let s4 := if bad then setData (raise (wb s3 .NV_STAT 0 1 true) .serial 93) 10 3 else s3
    s4.nv.loads.foldl nvAnswer (setNv s4 { s4.nv with loads := [] })

/-- NV_CTL.EN cleared (R1060): waiting commands end ABORTED, the write in progress runs through its COMMIT. -/
def nvDisable (s : State) : State :=
  if rb s .NV_CTL 0 0 = false then s
  else
    let s1 := wb s .NV_CTL 0 0 false
    let s2 := if dstate s1 10 = 1 then setUnit s1 10 0 2 else setMgmt s1 10 0
    let s3 := s2.nv.queue.foldl (fun s c => nvResult s c.1 14) (setNv s2 { s2.nv with queue := [] })
    nvShow (if s3.nv.begun then setNv s3 { s3.nv with abort := true } else nvEnd s3 14)

/-- NV_CTL written. -/
def nvCtl (s : State) (v : Quad) : State :=
  if v.getLsbD 0 then (if rb s .NV_CTL 0 0 then s else nvShow (setMgmt (wb s .NV_CTL 0 0 true) 10 1)) else nvDisable s

/-- A reset stops the controller (R1034): a write interrupted in its COMMIT has committed or not, which is a free value; the store and
its hidden areas stay. -/
def nvPowerLoss (s : State) : State :=
  let s1 := match s.nv.jobs, s.nv.phase with
    | j :: _, .commit =>
      let (v, s0) := freeVal s
      if v.getLsbD 0 then nvCommit s0 j else s0
    | _, _ => s
  setNv s1 { Nv.reset with
    wear := s1.nv.wear, blank := s1.nv.blank, retired := s1.nv.retired, bp := s1.nv.bp, mc := s1.nv.mc, mcUpd := s1.nv.mcUpd }

/-! ## Buffer, page status, masks -/

/-- The value of NV_PGSTAT for the page NV_PGIDX names. -/
def pgStat (s : State) : Quad :=
  let p := rf s .NV_PGIDX 0 8 0
  BitVec.ofNat 32 (nvWear s p + 2 ^ 20 * b01 (nvBlank s p) + 2 ^ 21 * b01 (nvRetired s p) + 2 ^ 22 * b01 (nvProtected s p) +
    2 ^ 23 * b01 (decide (p < nwm s)))

/-- A thread's read of NV_PGSTAT increments PGIDX, the debug bus master's does not (R1248). -/
def pgNext (s : State) (req : Nat) : State :=
  if req = 8 then s else wf s .NV_PGIDX 0 8 0 (rf s .NV_PGIDX 0 8 0 + 1)

/-- BUFIDX of a block moves on. -/
def bufNext (s : State) (w : Nat) : State := wr s .NVB_BUFIDX w (BitVec.ofNat 32 ((rn s .NVB_BUFIDX w + 1) % 256))

/-- A buffer byte is written (R1028, R1031): nothing while the block is BUSY. -/
def bufWrite (s : State) (w : Nat) (b : Byte) : State :=
  if nvBusy s w then s
  else bufNext (setNv s { s.nv with buf := mset (fun _ => 0) s.nv.buf (256 * w + rn s .NVB_BUFIDX w) b }) w

/-- A buffer byte is read. -/
def bufRead (s : State) (req w : Nat) : Byte × State := (nvBuf s w (rn s .NVB_BUFIDX w), if req = 8 then s else bufNext s w)

/-- SLOT and BYTE of NV_MSKIDX. -/
def mskSlot (s : State) : Nat := rf s .NV_MSKIDX 0 3 0
def mskByte (s : State) : Nat := rf s .NV_MSKIDX 0 12 8

/-- BYTE of NV_MSKIDX moves on, wrapping from 30 to 0. -/
def mskNext (s : State) : State := wf s .NV_MSKIDX 0 12 8 (if 30 ≤ mskByte s then 0 else mskByte s + 1)

/-- A mask byte is written; slot 0 is fixed (R1047). -/
def mskWrite (s : State) (b : Byte) : State :=
  let s1 := if mskSlot s = 0 ∨ 30 < mskByte s then s
    else setNv s { s.nv with mask := mset (fun _ => 0) s.nv.mask (32 * mskSlot s + mskByte s) b }
  mskNext s1

/-- A mask byte as it reads; slot 0 shows the fixed mask of R154. -/
def mskRead (s : State) (req : Nat) : Byte × State :=
  let b : Byte := if mskSlot s = 0 then (if mskByte s < 4 then 0xFF else if mskByte s = 4 then 1 else 0)
    else if 30 < mskByte s then 0 else mget (fun _ => 0) s.nv.mask (32 * mskSlot s + mskByte s)
  (b, if req = 8 then s else mskNext s)

/-- NV_MSKTYPE of the slot NV_MSKIDX names. -/
def mskType (s : State) : Nat := if mskSlot s = 0 then 1 else mget (fun _ => 0) s.nv.maskType (mskSlot s)

/-- NV_MSKTYPE written: 0x01 and 0xFF are ignored, and slot 0 is fixed. -/
def mskTypeWrite (s : State) (v : Nat) : State :=
  if v = 1 ∨ v = 0xFF ∨ mskSlot s = 0 then s
  else setNv s { s.nv with maskType := mset (fun _ => 0) s.nv.maskType (mskSlot s) v }

/-! ## Meanings -/

/-- NV_READY (R1022). -/
def execNvReady (lost : List Nat) (bad : Bool) (s : State) : Host.Outcome State Fault Refusal :=
  liveIn s .serial fun s => nvReady s lost bad

/-- NV_COMMAND_DISPATCH (R1029). -/
def execNvCommandDispatch (s : State) : Host.Outcome State Fault Refusal := liveIn s .serial nvDispatch

/-- NV_WRITE (R1031). -/
def execNvWrite (s : State) : Host.Outcome State Fault Refusal := liveIn s .serial nvWrite

/-- NV_ERASE (R1031). -/
def execNvErase (s : State) : Host.Outcome State Fault Refusal := liveIn s .serial nvErase

/-- NV_TWINWR (R1046). -/
def execNvTwinwr (s : State) : Host.Outcome State Fault Refusal := liveIn s .serial nvTwinWr

/-- NV_RINGAPP (R1053). -/
def execNvRingapp (s : State) : Host.Outcome State Fault Refusal := liveIn s .serial nvRingApp

/-- NV_RINGRD (R1054). -/
def execNvRingrd (s : State) : Host.Outcome State Fault Refusal := liveIn s .serial nvRingRd

/-- NV_MCINC (R1056). -/
def execNvMcinc (s : State) : Host.Outcome State Fault Refusal := liveIn s .serial nvMcInc

/-- NV_MCRAISE (R1057). -/
def execNvMcraise (s : State) : Host.Outcome State Fault Refusal := liveIn s .serial nvMcRaise

/-- NV_PROTECT (R1043). -/
def execNvProtect (s : State) : Host.Outcome State Fault Refusal := liveIn s .serial nvProtect

/-- NV_MAINT (R1050). -/
def execNvMaint (s : State) : Host.Outcome State Fault Refusal := liveIn s .serial nvMaint

/-- NV_BAD_COMMAND (R1031). -/
def execNvBadCommand (s : State) : Host.Outcome State Fault Refusal := liveIn s .serial nvBad

/-- NV_PHASE_DONE (R1033). -/
def execNvPhaseDone (verified : Bool) (s : State) : Host.Outcome State Fault Refusal :=
  liveIn s .serial fun s => nvPhaseDone s verified

/-- NV_DISABLE (R1060). -/
def execNvDisable (req : Nat) (s : State) : Host.Outcome State Fault Refusal := writeReg s req .NV_CTL 0 nvDisable

/-- NV_BUFFER_ACCESS (R1028). -/
def execNvBufferAccess (req : Nat) (w : Fin 2) (wr : Option Byte) (dst : Dst) (s : State) : Host.Outcome State Fault Refusal :=
  match wr with
  | some b => writeReg s req .NVB_BUFDATA w fun s => bufWrite s w b
  | none => readRegRow s req .NVB_BUFDATA w fun s ok =>
    if ok then replyIn (bufRead s req w).2 .serial dst (bufRead s req w).1 else replyIn s .serial dst 0

/-- NV_PAGE_STATUS_READ (R1021): the read of the lowest byte captures all four. -/
def execNvPageStatusRead (req : Nat) (dst : Dst) (s : State) : Host.Outcome State Fault Refusal :=
  readRegRow s req .NV_PGSTAT 0 fun s ok =>
    if ok then replyIn (pgNext (capture s req .NV_PGSTAT 0 (pgStat s)) req) .serial dst (byteOf (pgStat s) 0)
    else replyIn s .serial dst 0

/-- NV_MASK_ACCESS (R1047). -/
def execNvMaskAccess (req : Nat) (wr : Option Byte) (dst : Dst) (s : State) : Host.Outcome State Fault Refusal :=
  match wr with
  | some b => writeReg s req .NV_MSKDATA 0 fun s => mskWrite s b
  | none => readRegRow s req .NV_MSKDATA 0 fun s ok =>
    if ok then replyIn (mskRead s req).2 .serial dst (mskRead s req).1 else replyIn s .serial dst 0

end Sys2Proof.Machine
end

