-- ==== Sys2Proof/Machine/Waypost.lean ====
section
/-!
DEFINITION. The Waypost accessory bus (chapter 18): slots, the three operations, the search pass, disturbances, and the meanings of its
commands. The levels an accessory puts on the line come with the command that ends a slot.
-/
namespace Sys2Proof.Machine

/-- The state with the Waypost controller replaced. -/
def setWp (s : State) (w : Wp) : State := { s with wp := w }

/-- The timer of the slot in progress (R226, R929). -/
def tmrSlot : Nat := 135

/-- A byte's bits, most significant first (R930). -/
def bitsOf (n : Nat) : List Bool := [nbit n 7, nbit n 6, nbit n 5, nbit n 4, nbit n 3, nbit n 2, nbit n 1, nbit n 0]

/-- A number from its bits, most significant first. -/
def ofBits (l : List Bool) : Nat := l.foldl (fun n b => 2 * n + b01 b) 0

/-- The length of a slot in microseconds (R929). -/
def slotUs (s : State) (k : WpSlot) : Nat :=
  match k with
  | .roll true _ => 96
  | .roll false _ => 800
  | .quick => 80
  | _ => if rb s .WP_STAT 0 4 then 12 else 80

/-- A slot begins. -/
def wpBegin (s : State) (k : WpSlot) : State := startTimer (setWp s { s.wp with slot := some k }) tmrSlot (usTicks (slotUs s k))

/-- The operation in progress ends with a status (R945, R948). -/
def wpEnd (s : State) (status : Nat) : State :=
  let s1 := stopTimer (setWp s { s.wp with slot := none, abort := false, changed := false }) tmrSlot
  let s2 := wb (wb (wf s1 .WP_RESULT 0 2 0 status) .WP_STAT 0 0 false) .WP_STAT 0 3 true
  raise (if s.wp.changed then wb s2 .WP_STAT 0 4 false else s2) .serial 89

/-- A pass ends VANISHED (R952, R958). -/
def wpVanish (s : State) : State := wpEnd (count s .serial 0x8A) 2

/-- The first roll-call of an operation (R947). -/
def wpRoll (s : State) : State :=
  let speed := rb s .WP_CFG 0 0
  let fast := rb s .WP_STAT 0 4
  if speed && !fast then wpBegin s (.roll false true)
  else if !speed then wpBegin (wb s .WP_STAT 0 4 false) (.roll false false)
  else wpBegin s (.roll true false)

/-- A later roll-call, at the speed of the bus (R947). -/
def wpRollAgain (s : State) : State := wpBegin s (.roll (rb s .WP_STAT 0 4) false)

/-- Bytes to read in an XFER (R950). -/
def wpReadLen (s : State) : Nat := min (rf s .WP_RLEN 0 4 0) 16

/-- The reading part of an XFER. -/
def wpXferRead (s : State) : State :=
  if wpReadLen s = 0 then wpEnd s 0 else wpBegin (setWp s { s.wp with got := [] }) .read

/-- The writing part of an XFER. -/
def wpXferWrite (s : State) : State :=
  let l := (List.range (min (rf s .WP_WLEN 0 4 0) 16)).flatMap fun k => bitsOf (rn s .WP_TX k)
  if l.isEmpty then wpXferRead s else wpBegin (setWp s { s.wp with bits := l }) .write

/-- GO (R946, R949-R952): ignored while BUSY is 1 or EN is 0, and in a hand-over (R461, R463). -/
def wpGo (s : State) : State :=
  if rb s .WP_STAT 0 0 ∨ rb s .WP_CTL 0 0 = false ∨ hoPhase s 3 ≠ 0 then s
  else
    let op := let o := rf s .WP_OP 0 1 0; if o = 3 then 0 else o
    let s1 := wb (setWp s { Wp.reset with op := op }) .WP_STAT 0 0 true
    if op = 1 then (if rb s1 .WP_OP 0 2 then wpXferWrite s1 else wpRoll s1)
    else if op = 2 then
      wpRoll (wr (wr (wr (wr s1 .WP_IDFOUND 0 0) .WP_IDCRC 0 0) .WP_IDCOUNT 0 0) .WP_RESULT 0 0)
    else wpRoll s1

/-- A roll-call slot has ended (R932, R949, R950, R952). -/
def wpRolled (s : State) (present : Bool) : State :=
  let s1 := wb s .WP_STAT 0 1 present
  if s1.wp.op = 0 then wpEnd s1 (if present then 0 else 1)
  else if s1.wp.op = 1 then (if present then wpXferWrite s1 else wpEnd s1 1)
  else if present then
    wpBegin (setWp s1 { s1.wp with bits := bitsOf 0x96, newlast := none, i := 63, cur := 0 }) .survey
  else if s1.wp.found = 0 then wpEnd s1 1
  else wpVanish s1

/-- A read slot of an XFER has ended with samples a/b (R931, R950). -/
def wpReadSlot (s : State) (a b : Bool) : State :=
  if a && b then wpEnd s 6
  else if !a && !b then wpEnd s 7
  else
    let g := s.wp.got ++ [a]
    let s1 := setWp s { s.wp with got := g }
    let s2 := if g.length % 8 = 0 then
      wr s1 .WP_RX (g.length / 8 - 1) (BitVec.ofNat 32 (ofBits (g.drop (g.length - 8)))) else s1
    if g.length = 8 * wpReadLen s2 then wpEnd s2 0 else wpBegin s2 .read

/-- The read slot of a search triplet has ended (R952). -/
def wpTripRead (s : State) (a b : Bool) : State :=
  let w := s.wp
  if a && b then wpVanish s
  else if a != b then wpBegin (setWp s { w with d := a }) .tripWrite
  else
    let d : Bool := match w.last with
      | none => false
      | some l => if w.i > l then nbit w.prev w.i else w.i == l
    wpBegin (setWp s { w with d := d, newlast := if d then w.newlast else some w.i }) .tripWrite

/-- The CRC-8 of R944 over bytes 1 to 7 of an ID. -/
def wpCrc (id : Nat) : Nat := (List.range 7).foldl (fun v k => crcByte 8 0x07 (Nat.xor v (id / 256 ^ (k + 1) % 256))) 0

/-- A search has found an ID (R952, R953, R965). -/
def wpFound (s : State) : State :=
  let w := s.wp
  let k := w.found
  let s1 := forN 8 s fun s j => wr s .WP_ID (8 * k + j) (BitVec.ofNat 32 (w.cur / 256 ^ j % 256))
  let s2 := wb s1 .WP_IDFOUND 0 k true
  let s3 := if wpCrc w.cur = w.cur % 256 then wb s2 .WP_IDCRC 0 k true
    else count (wb s2 .WP_RESULT 0 4 true) .serial 0x8B
  let s4 := wr (wr s3 .WP_IDCOUNT 0 (BitVec.ofNat 32 (k + 1))) .WP_LASTDISC 0 (BitVec.ofNat 32 (w.newlast.getD 0xFF))
  let s5 := setWp s4 { w with found := k + 1, prev := w.cur, last := w.newlast }
  if w.newlast.isNone then wpEnd s5 0
  else if k + 1 = 16 then wpEnd s5 3
  else wpRollAgain s5

/-- The confirm slot of a search triplet has ended (R952). -/
def wpConfirm (s : State) (a : Bool) : State :=
  if a then wpVanish s
  else if s.wp.i = 0 then wpFound s
  else wpBegin (setWp s { s.wp with i := s.wp.i - 1 }) .tripRead

/-- One bit of a written byte has gone: the next write slot, or what follows. -/
def wpWrote (s : State) (k : WpSlot) (next : State → State) : State :=
  let s1 := setWp s { s.wp with bits := s.wp.bits.drop 1 }
  if s1.wp.bits.isEmpty then next s1 else wpBegin s1 k

/-- The slot in progress has ended, with the line levels at its two samples, or at the presence sample in `a` (R929-R933, R960). -/
def wpSlotEnd (s : State) (a b : Bool) : State :=
  match s.wp.slot with
  | none => s
  | some k =>
    if s.wp.abort then wpEnd s 5
    else
      match k with
      | .roll false true => wpBegin (setWp (wb s .WP_STAT 0 1 (!a)) { s.wp with bits := bitsOf 0xC3 }) .quick
      | .roll true true => wpRolled s (!a)
      | .roll fast false => wpRolled (if fast then wb s .WP_STAT 0 4 true else s) (!a)
      | .quick => wpWrote s .quick fun s => wpBegin s (.roll true false)
      | .write => wpWrote s .write wpXferRead
      | .read => wpReadSlot s a b
      | .survey => wpWrote s .survey fun s => wpBegin s .tripRead
      | .tripRead => wpTripRead s a b
      | .tripWrite => wpBegin (setWp s { s.wp with cur := s.wp.cur + b01 s.wp.d * 2 ^ s.wp.i }) .tripConfirm
      | .tripConfirm => wpConfirm s a

/-- A disturbance (R934, R948, R956, R957). -/
def wpDisturb (s : State) : State :=
  if s.wp.slot.isSome then
    count (wb (wb (setWp s { s.wp with changed := true }) .WP_RESULT 0 3 true) .WP_STAT 0 2 true) .serial 0x88
  else if rb s .WP_CTL 0 0 then
    let s1 := count (wb (wb s .WP_STAT 0 2 true) .WP_STAT 0 4 false) .serial 0x89
    if rb s1 .WP_CFG 0 1 then raise s1 .serial 89 else s1
  else s

/-- The line low for 800 us after the controller released it (R935). -/
def wpShort (s : State) : State :=
  if s.wp.slot.isSome then wpEnd (count s .serial 0x8C) 4
  else if rb s .WP_CTL 0 0 then count (wb (wb s .WP_STAT 0 2 true) .WP_STAT 0 4 false) .serial 0x8C
  else s

/-- ABORT (R960). -/
def wpAbort (s : State) : State := if s.wp.slot.isSome then setWp s { s.wp with abort := true } else s

/-- A clear of EN (R961). -/
def wpDisable (s : State) : State := wb (wpAbort s) .WP_CTL 0 0 false

/-- WP_CTL written: EN, then ABORT, or GO. -/
def wpCtl (s : State) (v : Quad) : State :=
  let s1 := if v.getLsbD 0 then wb s .WP_CTL 0 0 true else wpDisable s
  if v.getLsbD 2 then wpAbort s1 else if v.getLsbD 1 then wpGo s1 else s1

/-- GO where WP_OP selects one of some operations. -/
def wpGoOp (s : State) (ops : List Nat) : State := if ops.contains (rf s .WP_OP 0 1 0) then wpGo s else s

/-! ## Meanings -/

/-- WAYPOST_RESET (R949). -/
def execWaypostReset (req : Nat) (s : State) : Host.Outcome State Fault Refusal := writeReg s req .WP_CTL 0 fun s => wpGoOp s [0, 3]

/-- WAYPOST_XFER (R950). -/
def execWaypostXfer (req : Nat) (s : State) : Host.Outcome State Fault Refusal := writeReg s req .WP_CTL 0 fun s => wpGoOp s [1]

/-- WAYPOST_PASS (R952). -/
def execWaypostPass (req : Nat) (s : State) : Host.Outcome State Fault Refusal := writeReg s req .WP_CTL 0 fun s => wpGoOp s [2]

/-- A sample whose level was recognised on its edge: the level counts for the slot, and the tie is counted (R253, R933). -/
def wpTie (s : State) (x : WpSample) : State := if x.edge && connected s .wpLine then count s .serial 0x08 else s

/-- Whether a slot has a first and a second sample: a roll-call its presence sample, a read or confirm slot both halves, a write slot none
(R929). -/
def wpSampled : WpSlot → Bool × Bool
  | .roll _ _ => (true, false)
  | .read | .tripRead | .tripConfirm => (true, true)
  | .quick | .write | .survey | .tripWrite => (false, false)

/-- WAYPOST_SLOT_END (R929): the slot's time has passed; `a` and `b` are its samples, of level 1 where no pin carries the line (R62). -/
def execWaypostSlotEnd (a b : WpSample) (s : State) : Host.Outcome State Fault Refusal :=
  liveIn s .serial fun s =>
    if timerDue s tmrSlot then
      let on := connected s .wpLine
      let has := match s.wp.slot with | some k => wpSampled k | none => (false, false)
      let s1 := if has.1 then wpTie s a else s
      wpSlotEnd (if has.2 then wpTie s1 b else s1) (a.level || !on) (b.level || !on)
    else s

/-- WAYPOST_DISTURBANCE (R934). -/
def execWaypostDisturbance (s : State) : Host.Outcome State Fault Refusal :=
  liveIn s .serial fun s => if connected s .wpLine then wpDisturb s else s

/-- WAYPOST_SHORT (R935): the row says that the 800 us have passed since the release. -/
def execWaypostShort (s : State) : Host.Outcome State Fault Refusal :=
  liveIn s .serial fun s => if connected s .wpLine then wpShort s else s

/-- WAYPOST_ABORT (R960). -/
def execWaypostAbort (req : Nat) (s : State) : Host.Outcome State Fault Refusal := writeReg s req .WP_CTL 0 wpAbort

/-- WAYPOST_DISABLE (R961). -/
def execWaypostDisable (req : Nat) (s : State) : Host.Outcome State Fault Refusal := writeReg s req .WP_CTL 0 wpDisable

end Sys2Proof.Machine
end

