-- ==== Sys2Proof/Machine/Pads.lean ====
section
/-!
DEFINITION. The pads (chapter 02): which output function a pin carries (R56, R60), the level that function gives at its pin (R59 and the
units' own rules), what the pin drives, and the level its level bit shows (R71). Where the spec gives a line's bits no moment, their
level is a free value (`Config.lineBit`).
-/
namespace Sys2Proof.Machine

/-- The output functions of R56, by index where there are several; the UARTs by number, the phases in the order A1, A2, B1, B2. -/
inductive PinOut where
  | hdClk | hdLat | hdDat (k : Nat) | stb (g : Nat) | hdPwrn | phase (k : Nat) | cutDrv | cutBrk | drw (k : Nat) | snsEmit | bell
  | led (k : Nat) | wpLine | kxTx | kxDe | kxRen | spiSck | spiCs (k : Nat) | spiIo (k : Nat)
  | txd (n : Nat) | rts (n : Nat) | dtr (n : Nat) | ethRefclk | ethTxen | ethTxd (k : Nat) | ethMdc | ethMdio
  deriving DecidableEq, Repr

/-- The output function that F1 selects on a pin (R56). -/
def pinOut1 (n : Nat) : Option PinOut :=
  if n = 0 then some .hdClk else if n = 1 then some .hdLat
  else if n ≤ 5 then some (.hdDat (n - 2))
  else if n ≤ 13 then some (.stb (n - 6))
  else if n = 14 then some .hdPwrn
  else if n ≤ 18 then some (.phase (n - 15))
  else if n = 19 then some .cutDrv else if n = 20 then some .cutBrk
  else if n = 22 ∨ n = 23 then some (.drw (n - 22))
  else if n = 27 then some .snsEmit else if n = 28 then some .bell
  else if 29 ≤ n ∧ n ≤ 31 then some (.led (n - 29))
  else if n = 32 then some .wpLine else if n = 33 then some .kxTx else if n = 35 then some .kxDe
  else if n = 36 then some .spiSck else if n = 37 then some (.spiCs 0)
  else if 38 ≤ n ∧ n ≤ 41 then some (.spiIo (n - 38))
  else if 42 ≤ n ∧ n ≤ 44 then some (.spiCs (n - 41))
  else if n = 46 then some .kxRen
  else if n = 47 then some (.txd 0) else if n = 49 then some (.rts 0) else if n = 51 then some (.dtr 0)
  else if n = 53 then some (.txd 1) else if n = 55 then some (.rts 1) else if n = 57 then some (.dtr 1)
  else if n = 63 then some .ethRefclk else if n = 64 then some .ethTxen
  else if n = 65 ∨ n = 66 then some (.ethTxd (n - 65))
  else if n = 71 then some .ethMdc else if n = 72 then some .ethMdio
  else none

/-- The output function that F2 selects on a pin (R56). -/
def pinOut2 (n : Nat) : Option PinOut :=
  if n = 78 then some (.txd 1) else if n = 80 then some (.rts 1) else if n = 82 then some (.dtr 1)
  else if n = 88 then some .kxTx else if n = 90 then some .kxDe else if n = 91 then some .kxRen
  else none

/-- The output function a pin carries; none while its world differs from the block's (R57, R84). -/
def pinOut (s : State) (n : Nat) : Option PinOut :=
  if pinMismatch s n then none
  else if pinFunc s n = 1 then pinOut1 n else if pinFunc s n = 2 then pinOut2 n else none

/-! ## Levels of the output functions -/

/-- A level the spec does not give at this moment. -/
def lineBit (s : State) (n : Nat) : Bool := Config.lineBit n s.fresh s.cycles

/-- A line of which the spec does not say at this moment whether it is driven. -/
def lineOpen (s : State) (n : Nat) : Option Bool := if lineBit s (n + 96) then some (lineBit s n) else none

/-- The pattern that shifts into the head: the line's next one, or the next line's p0 (R694). -/
def shiftPattern (s : State) : Option (List Bool) :=
  let nxt := if s.mr.next.isSome && !s.mr.nextShifted then (s.mr.next.bind fun ps => (nextSub ps 0).map fun k => ps.getD k []) else none
  match s.mr.line with
  | none => nxt
  | some l =>
    if lineLive l && !l.shifted then
      (if l.stage = .firing ∨ l.stage = .gap then (nextSub l.pats (l.sp + 1)).map fun k => l.pats.getD k [] else some (l.pats.getD l.sp []))
    else nxt

/-- HD_DATk (R680, R682): low above the lanes in use; the lane's bits in their order while a pattern shifts, each for one period of the mean
HD_CLK (DESIGN CHOICE, log 122: R683 fixes only the mean); between shifts the spec gives no level. -/
def hdDatLevel (s : State) (k : Nat) : Bool :=
  if headLanes s ≤ k then false
  else match shiftPattern s, mget (fun _ => (none : Option Nat)) s.timers tmrShift with
    | some p, some due =>
      let bits := laneBits s p k
      let left := (due - s.time) * s.mr.rate / 96
      bits.getD (bits.length - 1 - left) false
    | _, _ => lineBit s (2 + k)

/-- HD_LAT: high for the first 0.5 us of the latch step (R684). -/
def headLatch (s : State) : Bool :=
  match s.mr.line with
  | some l => l.stage == .latching &&
      (match mget (fun _ => (none : Option Nat)) s.timers tmrPhase with | some t => decide (s.time + 12 < t) | none => false)
  | none => false

/-- Ticks since the falling edge that opened the Waypost slot in progress. -/
def slotAge (s : State) (k : WpSlot) : Nat :=
  s.time + usTicks (slotUs s k) - (mget (fun _ => (none : Option Nat)) s.timers tmrSlot).getD s.time

/-- The Waypost controller holds the line low (R929): a roll-call's low, the mark of a data slot, and the half of a written bit. -/
def wpLow (s : State) : Bool :=
  match s.wp.slot with
  | none => false
  | some k =>
    let t := slotAge s k
    let within (lo hi : Nat) : Bool := decide (lo ≤ t) && decide (t < hi)
    let fast := slotUs s k == 12
    let held (b : Bool) : Bool :=
      if fast then (if b then within 156 228 else within 48 120)
      else if b then within (usTicks 42) (usTicks 66) else within (usTicks 10) (usTicks 34)
    match k with
    | .roll f _ => within 0 (if f then usTicks 48 else usTicks 400)
    | .quick | .write | .survey => within 0 (if fast then 12 else usTicks 4) || held (s.wp.bits.headD false)
    | .tripWrite => within 0 (if fast then 12 else usTicks 4) || held s.wp.d
    | .read | .tripRead | .tripConfirm => within 0 (if fast then 12 else usTicks 4)

/-- SCK's level at rest for a select: its polarity (R973). -/
def sckRest (s : State) (cs : Nat) : Bool := rb s .SPI_CSCFG cs 9

/-- A word of the transfer in progress waits for READY (R985). -/
def spiPauses (s : State) : Bool := timerOn s tmrReady

/-- SPI_SCK (R973, R982): at rest while no transfer is in progress or it waits; with no select in use and selects that rest at different
levels the spec does not say which it is. -/
def spiSckLevel (s : State) : Bool :=
  if s.spi.fill.isSome ∨ rb s .SPI_STAT 0 2 then (if spiPauses s then sckRest s (winCs s) else lineBit s 36)
  else match s.spi.tr with
    | some t => if s.spi.begun && !(spiPauses s) then lineBit s 36 else sckRest s t.1
    | none => if (List.range 4).all fun k => sckRest s k == sckRest s 0 then sckRest s 0 else lineBit s 36

/-- A select, active low (R974, R981, R982): of a fill or load, of a transaction with SEL ENTRY; with PERWORD it moves around each word. -/
def spiCsLevel (s : State) (k : Nat) : Bool :=
  if s.spi.fill.isSome ∨ rb s .SPI_STAT 0 2 then !(winCs s == k)
  else match s.spi.tr with
    | some (cs, sel) =>
      if cs != k || sel == 2 then true
      else if sel == 0 then false
      else if s.spi.begun then lineBit s (36 + k) else true
    | none => true

/-- Whether a width (0 single, 1 dual, 2 and 3 quad) uses a data line (R976). -/
def widthUses (w k : Nat) : Bool := decide (k < 2) || decide (2 ≤ w)

/-- A data line of the port (R976, R977, R983): in an entry's send phase the lines that carry it are driven, in a receive or dummy phase the
lines of its width are released from the first SCK edge on; IO2 and IO3 are high in single and dual transfers. -/
def spiIoLine (s : State) (k : Nat) : Option Bool :=
  if s.spi.fill.isSome ∨ rb s .SPI_STAT 0 2 then
    (if 2 ≤ k ∧ rf s .SPI_WINCFG 0 5 4 < 2 ∧ rf s .SPI_WINCFG 0 7 6 < 2 then some true else lineOpen s (38 + k))
  else match slotOf s 15 with
    | some x =>
      let w := x.e.uflags % 4
      if s.spi.begun = false then lineOpen s (38 + k)
      else if widthUses w k = false then some true
      else if entryDummy x.e || entryRecv x.e then
        (if x.moved = 0 ∧ spiPauses s then lineOpen s (38 + k) else none)
      else if w = 0 ∧ k = 1 then none
      else some (lineBit s (38 + k))
    | none => lineOpen s (38 + k)

/-- UARTn_TXD: idle high, low while a break is sent (R850, R855); a character's bits are the line's. -/
def txdLevel (s : State) (n : Nat) : Bool :=
  if (uartOf s n).shift.isSome then lineBit s (47 + 6 * n) else !(rb s .UART_CTL n 2)

/-- What an output function does at its pin: `none` where it drives nothing (R58, R59; GP63 takes the reference with REFOUT = 0, R830; the
strobes, lanes and phases by R680, R69). -/
def outLine (s : State) (o : PinOut) : Option Bool :=
  match o with
  | .hdClk => some ((shiftPattern s).isSome && timerOn s tmrShift && lineBit s 0)
  | .hdLat => some (headLatch s)
  | .hdDat k => some (hdDatLevel s k)
  | .stb g => some (match s.mr.line with | some l => l.strobes.contains g | none => false)
  | .hdPwrn => some (!(rb s .MR_STAT 0 7))
  | .phase k =>
    let w := if k < 2 then s.pp.feed.windA else s.pp.feed.windB
    some (w.on && (w.plus == (k % 2 == 0)))
  | .cutDrv => some s.pp.cutDrv
  | .cutBrk => some (!s.pp.brake)
  | .drw k => some (drawerOf s k).high.isSome
  | .snsEmit => some s.pp.emit
  | .bell => some s.pp.bell
  | .led k => some (ledOf s k).out
  | .wpLine => if wpLow s then some false else none
  | .kxTx => some (if s.kx.wire == .quiet then true else lineBit s 33)
  | .kxDe => some (s.kx.wire != .quiet)
  | .kxRen => some (!(rb s .KX_CTL 0 0))
  | .spiSck => some (spiSckLevel s)
  | .spiCs k => some (spiCsLevel s k)
  | .spiIo k => spiIoLine s k
  | .txd n => some (txdLevel s n)
  | .rts n => some (uartOf s n).rts
  | .dtr n => some (rb s .UART_CTL n 3)
  | .ethRefclk => if rb s .ETH_MACCFG 0 5 then some (lineBit s 63) else none
  | .ethTxen => some s.eth.sending
  | .ethTxd k => some (lineBit s (65 + k))
  | .ethMdc => some (lineBit s 71)
  | .ethMdio => if s.eth.mdio.isSome then lineOpen s 72 else none

/-! ## Pads -/

/-- What a pin drives (R57, R60, R63, R65, R66, R68, R72, R84, R92, R128): `none` where it is an input, an open-drain output that has released
its line, or without supply. A clamped pin, and a strobe pin that the kill holds, are low. -/
def pinLevelOut (s : State) (n : Nat) : Option Bool :=
  if padDark s n then none
  else if rb s .PIN_STAT n 1 then some false
  else if s.dev.kill && decide (6 ≤ n) && decide (n ≤ 13) then some false
  else
    let v :=
      if pinFunc s n = 0 then
        (if !(isSafetyPin n) && rb s .PIN_MUX n 2 then some (mget (fun _ => false) s.bits (0x10000 + 0x880 + n)) else none)
      else (pinOut s n).bind (outLine s)
    if rb s .PIN_MUX n 3 && v == some true then none else v

/-- Whether a pin drives a level (R94). -/
def pinDrives (s : State) (n : Nat) : Bool := (pinLevelOut s n).isSome

/-- The level of a pad after its filter (R71, R73): what the pin drives, but where the board overcomes it (R94); else what the board or the
pull puts there. -/
def padLevel (s : State) (n : Nat) : Bool :=
  match (if n < 96 then pinLevelOut s n else none) with
  | some d => if mget (fun _ => false) s.fight n then padIn s n else d
  | none => padIn s n

end Sys2Proof.Machine
end

