-- ==== Sys2Proof/Machine/Bits.lean ====
section
/-!
DEFINITION. Bit space (R296-R300) as a thread sees it: what each bit reads, what a write of it does, and which accesses are refused.
-/
namespace Sys2Proof.Machine

/-! ## Unit flags (0x980-0xFFF) -/

/-- DBG_HSTAT: bit n says that Tn is HALTED. -/
def hstat (s : State) : Nat :=
  (List.range 8).foldl (fun a n => a + (if (thr s n).st = .halted then 2 ^ n else 0)) 0

/-- A 0/1 choice by the world: the flag of a hand-over block (R858) as `some block`, or one that both worlds read (R732, R797,
R1062, R1115); `none` where no unit assigns the bit (R298). -/
def unitFlag (s : State) (a : Nat) : Option (Option Nat × Bool) :=
  match a with
  | 0x980 => some (none, dstate s 0 == 1)
  | 0x981 => some (none, rn s .MR_LATEACC 0 != 0)
  | 0x982 => some (none, rb s .MR_STAT 0 4)
  | 0x983 => some (none, rb s .MR_STAT 0 5)
  | 0x984 => some (none, rb s .MR_STAT 0 6)
  | 0x985 => some (none, dstate s 0 == 3)
  | 0x986 => some (none, s.mr.req)
  | 0x987 => some (none, rb s .MR_STATE 0 4)
  | 0x990 => some (none, dstate s 1 == 1)
  | 0x991 => some (none, rb s .PP_FFAULT 0 0)
  | 0x992 => some (none, s.pp.cover)
  | 0x993 => some (none, s.pp.button)
  | 0x994 => some (none, rb s .PP_SNSSTAT 0 0)
  | 0x995 => some (none, rb s .PP_SNSSTAT 1 0)
  | 0x996 => some (none, rb s .PP_SNSSTAT 2 0)
  | 0x997 => some (none, rb s .PP_SNSSTAT 3 0)
  | 0x998 => some (none, dstate s 2 == 1)
  | 0x999 => some (none, s.pp.home)
  | 0x99A => some (none, dstate s 3 == 1)
  | 0x99B => some (none, dstate s 4 == 1)
  | 0x99C => some (none, s.pp.drawerOpen)
  | 0x99D => some (none, s.pp.feed.floating)
  | 0x9A0 => some (none, rb s .ADC_SEQCTL 0 2)
  | 0x9A1 => some (none, rb s .ADC_WINSTAT 0 0)
  | 0x9A2 => some (none, rb s .ADC_WINSTAT 1 0)
  | 0x9A3 => some (none, rb s .ADC_WINSTAT 2 0)
  | 0x9A4 => some (none, rb s .ADC_WINSTAT 3 0)
  | 0x9B0 => some (some 5, usbPull s)
  | 0x9B1 => some (some 5, rb s .USB_STAT 0 1)
  | 0x9B4 => some (some 6, rb s .ETH_MDPOLL 0 6)
  | 0x9B5 => some (some 6, rb s .ETH_STAT 0 5)
  | 0x9B8 => some (some 0, (uartOf s 0).cts)
  | 0x9B9 => some (some 0, (uartOf s 0).dsr)
  | 0x9BA => some (some 0, rb s .UART_STAT 0 7)
  | 0x9BB => some (some 0, rb s .UART_STAT 0 6)
  | 0x9BC => some (some 1, (uartOf s 1).cts)
  | 0x9BD => some (some 1, (uartOf s 1).dsr)
  | 0x9BE => some (some 1, rb s .UART_STAT 1 7)
  | 0x9BF => some (some 1, rb s .UART_STAT 1 6)
  | 0x9C0 => some (some 2, rb s .KX_STAT 0 0)
  | 0x9C1 => some (some 2, !s.kx.free)
  | 0x9C2 => some (some 2, dstate s 9 == 3)
  | 0x9C3 => some (some 2, s.kx.wire != .quiet)
  | 0x9D0 => some (some 3, rb s .WP_STAT 0 0)
  | 0x9D1 => some (some 3, rb s .WP_STAT 0 2)
  | 0x9D2 => some (some 3, rb s .WP_STAT 0 4)
  | 0x9E0 => some (some 4, rb s .SPI_STAT 0 0)
  | 0x9E1 => some (some 4, rb s .SPI_STAT 0 1)
  | 0x9E2 => some (some 4, rb s .SPI_WINCFG 0 3)
  | 0x9E3 => some (some 4, rb s .SPI_LDCTL 0 1)
  | 0x9F0 => some (none, s.nv.run.isSome || !s.nv.queue.isEmpty)
  | 0x9F1 => some (none, rb s .NV_STAT 0 0)
  | 0x9F2 => some (none, dstate s 10 == 3)
  | 0xA00 => some (none, s.dbg.active)
  | 0xA01 => some (none, hstat s != 0)
  | _ => none

/-! ## Access -/

/-- The KIND with which an access to a bit from a world is refused (R74, R297, R529), `none` where it is permitted. Reserved
sources' bits are accessed without any event (R530). -/
def bitRefusal (s : State) (world : Bool) (a : Nat) : Option Nat :=
  if 0x700 ≤ a ∧ a ≤ 0x7FF then (if world then some 1 else none)
  else if 0x800 ≤ a ∧ a ≤ 0x85F then (if pinWorld s (a - 0x800) = world then none else some 2)
  else if 0x880 ≤ a ∧ a ≤ 0x8DF then (if pinWorld s (a - 0x880) = world then none else some 2)
  else if 0x900 ≤ a ∧ a ≤ 0x97F then
    (if world && !(srcReserved (a - 0x900)) && !(sourceWorld s (a - 0x900)) then some 1 else none)
  else none

/-- Whether a bit is assigned to nothing (R298). -/
def bitHole (s : State) (a : Nat) : Bool := decide (0x980 ≤ a) && (unitFlag s a).isNone

/-- The value that the bit array holds for a bit that a thread reaches in a world. -/
def bitIn (s : State) (t a : Nat) (world : Bool) : Bool :=
  let th := thr s t
  if a < 0x20 then
    (match a with
     | 0 => th.c | 1 => th.v | 2 => th.outW == 0 | 3 => th.outX == 0 | 4 => th.ie | 5 => th.world | 6 => th.inToll
     | 7 => rb s .TG_STAT 0 0 | 8 => th.inh | _ => false)
  else if a < 0x800 then mget (fun _ => false) s.bits (bitKey t a world)
  else if a < 0x860 then padLevel s (a - 0x800)
  else if a < 0x880 then false
  else if a < 0x8E0 then mget (fun _ => false) s.bits (bitKey t a world)
  else if a = 0x8E0 then padLevel s 96
  else if a = 0x8E1 then padLevel s 97
  else if a < 0x900 then false
  else if a < 0x980 then mget (fun _ => false) s.icu.pend (a - 0x900)
  else match unitFlag s a with
    | some (none, v) => v
    | some (some b, v) => v && (!world || blockWorld s b)
    | none => false

/-- The value of a bit for a thread in its current world. -/
def bitVal (s : State) (t : Nat) (a : Nat) : Bool := bitIn s t a (thr s t).world

/-- The events of one access to a bit: a refusal (R472) or a hole (R298). -/
def bitEvents (s : State) (t : Nat) (a : Nat) : State :=
  match bitRefusal s (thr s t).world a with
  | some k => violate s k t a
  | none => if bitHole s a then hole s .core else s

/-- What a source read of a bit by a thread gives in this cycle (R396), 0 where refused. -/
def bitSeen (s : State) (t a : Nat) : Bool :=
  seenBit s t (bitKey t a (thr s t).world) (bitVal s t a) && (bitRefusal s (thr s t).world a).isNone

/-- A source read of a bit by a thread: the value, and the state with the access's events. -/
def bitRead (s : State) (t : Nat) (a : Nat) : Bool × State := (bitSeen s t a, bitEvents s t a)

/-- Closes an open MAXLAT measurement of a source without an update (R1131). -/
def dropMeasures (s : State) (src : Nat) : State :=
  forN 8 s fun s n =>
    if ecMode s n == 2 && rf s .EC_SEL n 7 0 == src && (ctr s n).opened.isSome then
      wb (setCtr s n { ctr s n with opened := none }) .EC_STAT n 2 false
    else s

/-- A pending bit that is 1 is cleared and its edge booked as discarded (R528), but where an edge has been recognised in this cycle: that
edge wins (R555). -/
def discardEdge (s : State) (src : Nat) : State :=
  if mget (fun _ => false) s.icu.pend src && mget (fun _ => 0) s.icu.edge src != s.cycles + 1 then
    send (dropMeasures { s with icu := { s.icu with pend := mset (fun _ => false) s.icu.pend src false } } src) 0 (.book 23 3 2 1)
  else s

/-- A permitted write of a bit (R296, R300, R528) in a world: read-only bits and holes ignore it. -/
def bitSet (s : State) (t a : Nat) (world v : Bool) : State :=
  let th := thr s t
  if a < 0x20 then
    (match a with
     | 0 => setThr s t { th with c := v }
     | 1 => setThr s t { th with v := v }
     | 4 => setThr s t { th with ie := v }
     | _ => s)
  else if a < 0x800 ∨ (0x880 ≤ a ∧ a < 0x8E0) then { s with bits := mset (fun _ => false) s.bits (bitKey t a world) v }
  else if 0x900 ≤ a ∧ a < 0x980 then
    (if srcReserved (a - 0x900) then s else if v then latchEdge s (a - 0x900) else discardEdge s (a - 0x900))
  else s

/-- The bit array takes the access of an instruction issued in cycle `issue` to its destination bit, in one go (R349, R396): the bit
becomes `f1` where it is 1 and `f0` where it is 0, and a TSB has its old value. -/
def bitLand (s : State) (issue t a : Nat) (world f0 f1 : Bool) (g : Option Nat) : State :=
  let old := bitIn s t a world
  let s1 := lagBit (bitSet s t a world (if old then f1 else f0)) t (bitKey t a world) issue old
  match g with
  | some r => setThr s1 t (setG (thr s1 t) r (if old then 1 else 0))
  | none => s1

/-- The access of an instruction that issues now to its destination bit: the access's events, then the bit array in cycle 2 (R393); a
refused access has the events only, and a TSB reads 0 (R351). -/
def bitAccess (s : State) (t a : Nat) (f : Bool → Bool) (g : Option Nat) : State :=
  let s1 := bitEvents s t a
  if (bitRefusal s (thr s t).world a).isSome then
    match g with
    | some r => later s1 2 (.greg t r 0)
    | none => s1
  else later s1 2 (.bit t a (thr s t).world (f false) (f true) g)

/-! ## DOZE -/

/-- What would unpark a thread holds (R180): a committed delivery, or the bit a WAITB thread awaits. -/
def wouldUnpark (s : State) (t : Nat) : Bool :=
  let th := thr s t
  th.delivery.isSome || (th.st == .parked && (match th.park with | .waitb b v => bitSeen s t b == v | _ => false))

/-- The device leaves DOZE. -/
def leaveDoze (s : State) : State := if s.dev.doze then { s with dev := { s.dev with doze := false } } else s

/-- The device leaves DOZE on any event that would unpark a thread (R180). -/
def dozeExit (s : State) : State := if (List.range 8).any (wouldUnpark s) then leaveDoze s else s

end Sys2Proof.Machine
end

