-- ==== Sys2Proof/Machine/Pins.lean ====
section
/-!
DEFINITION. Pins (chapter 02): functions, worlds, clamps, pad levels, and the meanings of the pin commands.
-/
namespace Sys2Proof.Machine

/-- WMIS follows the worlds; its rise is counted (R84). -/
def wmisUpdate (s : State) (n : Nat) : State :=
  let m := pinMismatch s n
  let was := rb s .PIN_STAT n 3
  let s1 := wb s .PIN_STAT n 3 m
  if m && !was then count s1 (regIsland .PIN_STAT n) 0x0D else s1

/-- WMIS of every pin whose function a block carries, after the block's world has changed. -/
def wmisAll (s : State) : State := forN 96 s fun s n => if (pinBlock n (pinFunc s n)).isSome then wmisUpdate s n else s

/-! ## Inputs -/

/-- WAKEk is at its active level; inactive while GP(94 + k) does not carry it (R62, R188). -/
def wakeLevel (s : State) (k : Nat) : Bool := inputLine s (.wake k) == some (rb s .RTC_WAKEPOL 0 k)

/-- The wake pins as the AO island sees them; a pin that becomes active raises source 37 or 38 (R530). -/
def wakeUpdate (s : State) : State :=
  let w0 := wakeLevel s 0
  let w1 := wakeLevel s 1
  let s1 := { s with dev := { s.dev with wake0 := w0, wake1 := w1 } }
  if s.dev.phase != .awake then s1
  else
    let s2 := if w0 && !s.dev.wake0 then raise s1 .ao 37 else s1
    if w1 && !s.dev.wake1 then raise s2 .ao 38 else s2

/-- Number of a pad in `State.pads`. -/
def padNo (p : Pad) : Nat := match p with | .gp n => n.val | .wpn => 96 | .vbus => 97

/-- FEVk rises between two states (R56, R61, R62): its source. -/
def fevEdges (before s : State) : State :=
  forN 4 s fun s k =>
    if (inputLine s (.fev k)).getD false && !((inputLine before (.fev k)).getD false) then latchEdge s (16 + k) else s

/-- What units take from pins is looked at anew after a change of a pad, a pin's function or a world: the wake pins, and while the device is
awake CTS and DSR, FEV0-FEV3, and the debounced inputs. -/
def pinsLook (before s : State) : State :=
  if s.dev.phase != .awake then wakeUpdate s
  else dozeExit (wakeUpdate (debLook (fevEdges before (uartLook (uartLook s 0) 1))))

/-- A pad's level passes its filter (R71, R73): the board's level, which overcomes the pin's own where it is the opposite (R94). -/
def padChange (s : State) (n : Nat) (level : Bool) : State :=
  pinsLook s { s with
    pads := mset (fun _ => none) s.pads n (some level)
    fight := mset (fun _ => false) s.fight n (decide (n < 96) && pinLevelOut s n == some (!level)) }

/-! ## Registers -/

/-- PIN_MUXn commits (R65, R75, R84): the first write releases a safety pin's clamp. -/
def pinMuxWrite (s : State) (n : Nat) (v : Quad) : State :=
  pinsLook s (wmisUpdate (wb (wr s .PIN_MUX n (v &&& 0xF)) .PIN_STAT n 1 false) n)

/-- PIN_PADn commits: another pull may give another level. -/
def pinPadWrite (s : State) (n : Nat) (v m : Quad) : State := pinsLook s (wr s .PIN_PAD n (commitBits .PIN_PAD (rd s .PIN_PAD n) v m))

/-- PIN_WORLDn commits (R81, R82, R1247): an honoured write of WORLD returns PIN_MUXn and PIN_PADn to their reset values and clears
MISMATCH; LOCK freezes WORLD from the next write on. -/
def pinWorldWrite (s : State) (n : Nat) (v : Quad) : State :=
  let s1 := if rb s .PIN_WORLD n 1 then s
    else
      let s2 := wr (wr (wb s .PIN_WORLD n 0 (v.getLsbD 0)) .PIN_MUX n (regReset .PIN_MUX n)) .PIN_PAD n (regReset .PIN_PAD n)
      pinsLook s (wmisUpdate (wb s2 .PIN_STAT n 2 false) n)
  if v.getLsbD 1 then wb s1 .PIN_WORLD n 1 true else s1

/-! ## Commands -/

/-- PIN_MUX_WRITE (R65). -/
def execPinMuxWrite (req : Nat) (n : Fin 96) (v : Byte) (s : State) : Host.Outcome State Fault Refusal :=
  writeReg s req .PIN_MUX n fun s => pinMuxWrite s n (v.zeroExtend 32)

/-- PIN_WORLD_WRITE (R81). -/
def execPinWorldWrite (req : Nat) (n : Fin 96) (v : Byte) (s : State) : Host.Outcome State Fault Refusal :=
  writeReg s req .PIN_WORLD n fun s => pinWorldWrite s n (v.zeroExtend 32)

/-- PIN_WORLD_LOCK (R82): LOCK written as 1 with WORLD as it is. -/
def execPinWorldLock (req : Nat) (n : Fin 96) (s : State) : Host.Outcome State Fault Refusal :=
  writeReg s req .PIN_WORLD n fun s => pinWorldWrite s n ((rd s .PIN_WORLD n &&& 1) ||| 2)

/-- PIN_INPUT_CHANGE (R71). The pads stand outside the reset: their levels are taken in every phase. -/
def execPinInputChange (p : Pad) (level : Bool) (s : State) : Host.Outcome State Fault Refusal :=
  .next (match p with | .vbus => pinsLook s (vbusChange s level) | _ => padChange s (padNo p) level)

/-- PIN_CONTENTION (R94): a pin that drives has sensed the opposite level for longer than 2 us. -/
def execPinContention (n : Fin 96) (s : State) : Host.Outcome State Fault Refusal :=
  liveIn s (regIsland .PIN_STAT n) fun s =>
    if pinDrives s n then count (wb s .PIN_STAT n 2 true) (regIsland .PIN_STAT n) 0x0C else s

end Sys2Proof.Machine
end

