-- ==== Sys2Proof/Machine/Modes.lean ====
section
/-!
DEFINITION. Resets, the modes, STANDBY and the wake, the RTC, the watchdog, retention RAM and the SAFE feed sequencer (chapter 03).
-/
namespace Sys2Proof.Machine

/-! ## Resets -/

/-- The AO registers that a reset keeps (R132, R133, R1102): the RTC, PMU_RSTCAUSE and DBG_ARM; the watchdog's in STANDBY only; those of GP94
and GP95 in STANDBY and over a wake. -/
def aoKeeps (wdt pins : Bool) (k : Nat) : Bool :=
  let a := k % 2 ^ 20
  let pin (r : Rg) : Bool := a == regAddr r 94 || a == regAddr r 95
  decide (0x3E00 ≤ a ∧ a < 0x3E40) || a == regAddr .DBG_ARM 0 || a == regAddr .PMU_RSTCAUSE 0 ||
  (wdt && decide (0x408 ≤ a ∧ a < 0x410)) || (pins && (pin .PIN_MUX || pin .PIN_PAD || pin .PIN_STAT || pin .PIN_WORLD))

/-- What a reset other than AO POR does to the debug link (R1078, R1258): the session goes on; a command the debug bus master is carrying out
ends with TIMEOUT and the count or the bytes done. -/
def dbgOver (d : Dbg) : Dbg :=
  match d.run with
  | some r =>
    if r.mon then { Dbg.reset with active := d.active, wake := d.wake, frame := d.frame, req := d.req, resp := d.resp, last := d.last }
    else
      let a := (7, if r.write then [BitVec.ofNat 8 r.got.length] else r.got)
      { Dbg.reset with active := d.active, wake := d.wake, frame := d.frame, req := d.req,
                       resp := (if d.pended then d.resp else some a), last := a }
  | none => { d with pended := false, pcNext := 0, stale := [] }

/-- Every island but AO at its reset state (R131, R132, R316): what the AO island (with what requesters have captured or staged of its registers, R16, R17), the board at the pads, the NV store and the link keep
is kept; with `pins` the output bits of GP94 and GP95 (R91), the IRAM where `iram` says so. -/
def islandsReset (s : State) (wdt pins iram : Bool) : State :=
  let s1 := nvPowerLoss s
  let d := s1.dev
  { State.reset with
    pending := s1.pending
    fresh := s1.fresh
    io := s1.io.filter fun e => aoKeeps wdt pins e.1
    shadow := s1.shadow.filter fun e => aoKeeps wdt pins e.1
    staged := s1.staged.filter fun e => aoKeeps wdt pins e.1
    bits := if pins then s1.bits.filter fun e => decide (0x10000 + 0x8DE ≤ e.1 ∧ e.1 ≤ 0x10000 + 0x8DF) else []
    dev := { Dev.reset with vdd33 := d.vdd33, vddao := d.vddao, rstnLow := d.rstnLow, wake0 := d.wake0, wake1 := d.wake1,
                            waking := d.waking, wakeSrc := d.wakeSrc, rtcSet := d.rtcSet, retIo := d.retIo, retPend := d.retPend,
                            retRet := d.retRet, retRr := d.retRr }
    iram := if iram then s1.iram else []
    retain := s1.retain
    pads := s1.pads
    fight := s1.fight
    nvByte := s1.nvByte
    nv := s1.nv
    far := { Far.reset with keysMade := s1.far.keysMade }
    dbg := dbgOver s1.dbg }

/-- The session bit follows the link over a reset (R1078). -/
def showSession (s : State) : State := wb s .DBG_STAT 0 0 s.dbg.active

/-- The device leaves reset where its supplies are there and RSTN is high (R136, R144, R190, R1203): the near-RAM clear starts. -/
def leaveReset (s : State) : State :=
  if s.dev.vdd33 && s.dev.vddao && !s.dev.rstnLow then
    startTimer (setDev s { s.dev with phase := .clearing }) tmrClear (usTicks 64)
  else setDev s { s.dev with phase := .held }

/-- PMU_RSTCAUSE shows the cause of the latest reset only (R138). -/
def setCause (s : State) (bit : Nat) : State := wr s .PMU_RSTCAUSE 0 (BitVec.ofNat 32 (2 ^ bit))

/-- A reset other than AO POR and the wake (R132): IRAM_VALID clears (R193). Causes: 0 POR, 1 BOR, 2 RSTN, 3 WDT. -/
def resetBy (s : State) (cause : Nat) : State :=
  let s1 := islandsReset (setDev s { s.dev with waking := false }) false false false
  wakeUpdate (leaveReset (showSession (wb (setCause s1 cause) .RTC_FLAGS 0 0 false)))

/-- AO POR (R131): everything but the NV store and the pads; the session ends (R1077). -/
def aoPor (s : State) : State :=
  let s1 := islandsReset s false false false
  let s2 := { s1 with io := [], shadow := [], staged := [], retain := [], dbg := Dbg.reset,
                      dev := { Dev.reset with phase := .held, vdd33 := s.dev.vdd33, vddao := false } }
  wakeUpdate (setCause s2 5)

/-! ## STANDBY (R182-R195) -/

/-- Registers of the ICU that the AO retention registers keep (R549): ICU_SRC, ICU_SWORLD, ICU_VBASE. -/
def icuKept (k : Nat) : Bool := decide (0x200 ≤ k ∧ k < 0x310) || decide (0x320 ≤ k ∧ k < 0x340)

/-- The ICU state is saved to the AO retention registers (R549). -/
def icuSave (s : State) : State :=
  setDev s { s.dev with retIo := s.io.filter fun e => icuKept e.1, retPend := s.icu.pend, retRet := s.icu.ret, retRr := s.icu.rr }

/-- A map without the keys of sources tied to a hand-over block (R550). -/
def dropTied {α : Type} (m : SMap α) : SMap α := m.filter fun e => (sourceBlock e.1).isNone

/-- The ICU state is restored after a wake, and the interrupt-edge book counts each bit left set as one latched edge (R550, R551). -/
def icuRestore (s : State) : State :=
  let d := s.dev
  let pend := mset (fun _ => false) (dropTied d.retPend) d.wakeSrc true
  let ret := dropTied d.retRet
  let s1 := { s with
    io := d.retIo.foldl (fun m e => mset ioDefault m e.1 e.2) s.io
    icu := { pend := pend, ret := ret, rr := d.retRr, edge := [] } }
  let n (k : Nat) : Quad := BitVec.ofNat 32 k
  setTerm (setTerm (setTerm s1 23 0 (n (pend.length + ret.length))) 23 3 (n pend.length)) 23 4 (n ret.length)

/-- PMU_MODE.STBY (R176, R182 step 1): ignored in SAFE; the SPI port abandons its fill (R1009). -/
def stbyRequest (s : State) : State :=
  if inRun s = false ∨ s.dev.stbyReq then s
  else
    let s1 := wr (setDev s { s.dev with stbyReq := true, doze := false }) .PMU_STBYSTAT 0 0
    if islandRuns s1 .serial then spiShow (spiStandby s1) else s1

/-- Entry aborts: every thread resumes, and waiting transfers issue again (R183). -/
def stbyAbort (s : State) (why : Nat) : State := setDev (wr s .PMU_STBYSTAT 0 (BitVec.ofNat 32 why)) { s.dev with stbyReq := false }

/-- The check of every book at step 3 (R660): a book with a report that waits unissued in its unit has its structure left aside
(R1162). -/
def closeBooks (s : State) : State :=
  forN 24 s fun s b =>
    if reportWaits s b then (if rb s .LED_FAILED 0 b || equationOk s b then s else imbalance s b 0) else checkBook s b

/-- A wake source is enabled and active (R188): a wake pin at its RTC_WAKEPOL level, the alarm, VBUS above its threshold. -/
def wakeOn (s : State) (src : Nat) : Bool :=
  rb s .RTC_WAKEEN 0 src &&
  (match src with | 0 => wakeLevel s 0 | 1 => wakeLevel s 1 | 2 => rb s .RTC_STAT 0 0 | _ => padLevel s 97)

/-- Step 4: an enabled wake source is active (R182). -/
def wakePending (s : State) : Bool := (List.range 4).any (wakeOn s)

/-- Steps 5-7: the ICU is saved, IRAM_VALID follows IRAM_RET, keys and islands are lost (R182, R185, R186). -/
def stbyEnter (s : State) : State :=
  let ret := rb s .PMU_CTL 0 1
  let s1 := islandsReset (icuSave s) true true ret
  wakeUpdate (showSession (setDev (wb s1 .RTC_FLAGS 0 0 ret) { s1.dev with phase := .standby }))

/-- Every crossing is empty: steps 3 to 7 of STANDBY entry (R45, R182). -/
def stbyDrained (s : State) : State :=
  if s.dev.stbyReq = false ∨ s.xfly ≠ [] then s
  else if (List.range 31).any (fun n => hoPhase s n != 0) ∨ rf s .TG_KRST 0 2 1 ≠ 0 then stbyAbort s 3
  else
    let s1 := closeBooks s
    if rd s1 .LED_FAILED 0 ≠ rd s .LED_FAILED 0 then stbyAbort s1 1
    else if wakePending s1 then stbyAbort s1 2
    else stbyEnter s1

/-- An enabled source that is active wakes the device (R190): RTC_WAKESRC records it; the islands leave reset once VDD33 is there (R195). -/
def wakeBy (s : State) (src : Nat) : State :=
  if s.dev.phase ≠ .standby ∨ wakeOn s src = false then s
  else
    let s1 := wb s .RTC_WAKESRC 0 src true
    let s2 := setDev s1 { s1.dev with waking := true, wakeSrc := ([37, 38, 36, 101] : List Nat).getD src 0 }
    wakeUpdate (leaveReset (showSession (setCause (islandsReset s2 false true (rb s2 .RTC_FLAGS 0 0)) 4)))

/-- The near-RAM clear ends (R144, R190): after a wake the ICU is restored, and the ROM is to reload the image where IRAM is not valid; T0 fetches
ROM word 0xC000. -/
def clearDone (s : State) : State :=
  if s.dev.phase = .clearing ∧ timerDue s tmrClear = true then
    let s1 := setDev (stopTimer s tmrClear) { s.dev with phase := .awake }
    if s1.dev.waking then setDev (icuRestore s1) { s1.dev with waking := false, reload := !(rb s1 .RTC_FLAGS 0 0) } else s1
  else s

/-- VDD33 falls through 2.75 V (R130, R193, R195): a reset with cause BOR; in STANDBY only IRAM_VALID is lost. -/
def brownOut (s : State) : State :=
  let s1 := setDev s { s.dev with vdd33 := false }
  if s.dev.vdd33 = false ∨ s.dev.vddao = false then s1
  else if s.dev.phase = .standby then wb { s1 with iram := [] } .RTC_FLAGS 0 0 false
  else resetBy s1 1

/-- VDD33 rises through 2.85 V (R130, R144, R195): a wake that waits for it goes on; a device in STANDBY stays there; a held device takes the cause POR unless a brown-out
has reset it. -/
def porRelease (s : State) : State :=
  let s1 := setDev s { s.dev with vdd33 := true }
  if s.dev.vdd33 ∨ s.dev.phase ≠ .held then s1
  else if s.dev.waking ∨ rb s .PMU_RSTCAUSE 0 1 then leaveReset s1
  else leaveReset (if s.dev.vddao then setCause s1 0 else s1)

/-- RSTN is recognised as a reset (R135, R136). -/
def rstnDown (s : State) : State :=
  if s.dbg.active ∨ s.dev.vddao = false then s else resetBy (setDev s { s.dev with rstnLow := true }) 2

/-- RSTN rises after a recognised reset (R136). -/
def rstnUp (s : State) : State :=
  if s.dev.rstnLow then leaveReset (setDev s { s.dev with rstnLow := false }) else s

/-! ## DOZE (R177, R178) -/

/-- Whether a thread lets the device enter DOZE. -/
def mayDoze (t : Thread) : Bool :=
  (t.st == .stopped || (t.st == .parked && (match t.park with | .wait | .waitb .. => true | _ => false))) &&
  t.outW == 0 && t.outX == 0 && t.haltPend.isNone

/-- The conditions of R177 have held for 16 cycles. -/
def dozeEntry (s : State) : State :=
  if inRun s && rb s .PMU_CTL 0 0 && !s.dev.stbyReq && !(List.range 8).any (wouldUnpark s) &&
     (List.range 8).all fun n => mayDoze (thr s n) then setDev s { s.dev with doze := true }
  else s

/-! ## The RTC (R196-R200) -/

/-- The RTC's count of 32.768 kHz cycles. -/
def rtcCount (s : State) : Nat := rn s .RTC_SEC 0 * 32768 + rn s .RTC_SUB 0

/-- The state with the RTC's count set. -/
def setRtc (s : State) (n : Nat) : State :=
  wr (wr s .RTC_SEC 0 (BitVec.ofNat 32 (n / 32768))) .RTC_SUB 0 (BitVec.ofNat 32 (n % 32768))

/-- A committed RTC_SET loads (R197). -/
def rtcLoad (s : State) : State :=
  match s.dev.rtcSet with
  | some v => setDev (wr (wr s .RTC_SEC 0 v) .RTC_SUB 0 0) { s.dev with rtcSet := none }
  | none => s

/-- An edge the RTC counts (R196, R197, R200): the crystal is seen running where the RTC is on it. -/
def rtcEdge (s : State) : State :=
  let s1 := if rb s .RTC_STAT 0 2 ∨ s.dev.phase ≠ .awake then s else wb s .CLK_STAT 0 5 true
  if s1.dev.rtcSet.isSome then rtcLoad s1 else setRtc s1 ((rtcCount s1 + 1) % 2 ^ 47)

/-- The trim (R198). -/
def rtcTrim (s : State) : State :=
  setRtc s (((rtcCount s : Int) + signedOf 8 (rn s .RTC_TRIM 0)) % 2 ^ 47).toNat

/-- The alarm matches (R199). -/
def rtcAlarm (s : State) : State :=
  if rd s .RTC_SEC 0 = rd s .RTC_ALARM 0 ∧ rd s .RTC_SUB 0 = 0 then
    let s1 := wb s .RTC_STAT 0 0 true
    if rb s1 .RTC_CTL 0 0 && s1.dev.phase == .awake then raise s1 .ao 36 else s1
  else s

/-- The RTC crystal fails, or has run again for 1 s (R200). -/
def rtcFail (s : State) : State :=
  wb (wb (wb s .RTC_STAT 0 1 true) .RTC_STAT 0 2 true) .CLK_STAT 0 5 false
def rtcBack (s : State) : State :=
  if rb s .RTC_STAT 0 2 then
    let s1 := wb s .RTC_STAT 0 2 false
    if s1.dev.phase = .awake then wb s1 .CLK_STAT 0 5 true else s1
  else s

/-! ## Retention RAM (R206) -/

/-- The byte of retention RAM that a port's ADDR names. -/
def rrAddr (s : State) (normal : Bool) : Nat := if normal then 0x2000 + rn s .RTC_RRADDRN 0 else rn s .RTC_RRADDRK 0

/-- ADDR of a port moves on. -/
def rrNext (s : State) (normal : Bool) : State :=
  if normal then wf s .RTC_RRADDRN 0 12 0 (rn s .RTC_RRADDRN 0 + 1) else wf s .RTC_RRADDRK 0 13 0 (rn s .RTC_RRADDRK 0 + 1)

/-- A read through a port; the debug bus master's leaves ADDR (R1248). -/
def rrRead (s : State) (req : Nat) (normal : Bool) : Byte × State :=
  (mget (fun _ => 0) s.retain (rrAddr s normal), if req = 8 then s else rrNext s normal)

/-- A write through a port; the ROM record is protected against the K port once RUN has been entered (R206). -/
def rrWrite (s : State) (normal : Bool) (b : Byte) : State :=
  let a := rrAddr s normal
  rrNext (if !normal && inRun s && decide (0x1FC0 ≤ a ∧ a < 0x2000) then s
    else { s with retain := mset (fun _ => 0) s.retain a b }) normal

/-- The data register of a port. -/
def rrReg (normal : Bool) : Rg := if normal then .RTC_RRDATAN else .RTC_RRDATAK

/-! ## The watchdog (R201-R205, R211) -/

/-- PMU_WDTLOAD as it acts. -/
def wdtLoad (s : State) : Quad := BitVec.ofNat 32 (atLeast1 (rn s .PMU_WDTLOAD 0))

/-- EN written 1: the write that sets it loads the count (R201, R203). -/
def wdtOn (s : State) : State :=
  if rb s .PMU_WDTCTL 0 0 then s else wr (wb s .PMU_WDTCTL 0 0 true) .PMU_WDTCNT 0 (wdtLoad s)

/-- A kick (R202). -/
def wdtKick (s : State) (v : Byte) : State := if v = 0xA5 then wr s .PMU_WDTCNT 0 (wdtLoad s) else s

/-- The watchdog holds its count (R205, R1095): in STANDBY and reset, and while a keeper-home thread is HALTED. -/
def wdtHeld (s : State) : Bool :=
  s.dev.phase != .awake || (List.range 8).any fun n => (thr s n).st == .halted && !(rb s .THR_WORLD n 0)

/-- A millisecond of the watchdog's oscillator ends (R201). -/
def wdtTick (s : State) : State :=
  if rb s .PMU_WDTCTL 0 0 && !wdtHeld s then wr s .PMU_WDTCNT 0 (BitVec.ofNat 32 (rn s .PMU_WDTCNT 0 - 1)) else s

/-- The count has reached zero (R204); a kick on the same edge wins (R211). -/
def wdtExpiry (s : State) (tie : Bool) : State :=
  if rb s .PMU_WDTCTL 0 0 && !wdtHeld s && rn s .PMU_WDTCNT 0 == 0 then
    (if tie then count (wdtKick s 0xA5) .ao 0x08 else resetBy s 3)
  else s

/-! ## The SAFE feed sequencer (R148-R151) -/

/-- A winding driven with a sign, or off. -/
def safeWind (x : Option Bool) : Winding :=
  match x with
  | none => Winding.reset
  | some p => { Winding.reset with on := true, plus := p }

/-- Row `r` (0-7) of the table of R149: winding A, winding B; `true` drives the first terminal. -/
def safeRow (r : Nat) : Option Bool × Option Bool :=
  match r with
  | 0 => (some true, none) | 1 => (some true, some true) | 2 => (none, some true) | 3 => (some false, some true)
  | 4 => (some false, none) | 5 => (some false, some false) | 6 => (none, some false) | _ => (some true, some false)

/-- The conditions under which the sequencer steps (R148): the ROM holds it enabled, the cover is closed, the button pressed, and fewer than
4,800 half-steps have been made in this press. -/
def safeWanted (s : State) : Bool :=
  !(inRun s) && rb s .PP_FCTL 0 1 && !s.pp.cover && s.pp.button && decide (s.pp.feed.safeSteps < 4800)

/-- The sequencer starts (R148): its first half-step is due at once. -/
def safeStart (s : State) : State :=
  if s.pp.feed.safeOn ∨ safeWanted s = false then s
  else startTimer (stopTimer (setFd s { s.pp.feed with safeOn := true, safeHold := false }) tmrSafeHold) tmrSafeStep 0

/-- The next row is driven, 30,000 ticks after the one before (R148), and booked as commanded and executed (R151). -/
def safeStep (s : State) : State :=
  if s.pp.feed.safeOn && timerDue s tmrSafeStep && safeWanted s then
    let r := safeRow (s.pp.feed.safeSteps % 8)
    startTimer (report (setFd s { s.pp.feed with
      safeSteps := s.pp.feed.safeSteps + 1, floating := false, windA := safeWind r.1, windB := safeWind r.2 }) .print 21 0 1 1)
      tmrSafeStep 30000
  else s

/-- What is left of the half-step in progress, in ticks. -/
def safeLeft (s : State) : Nat := (mget (fun _ => (none : Option Nat)) s.timers tmrSafeStep).getD 0 - s.time

/-- The sequencer stops (R150): the half-step ends, then the windings hold for 20 ms. -/
def safeStop (s : State) : State :=
  if s.pp.feed.safeOn && !(safeWanted s) then
    stopTimer (startTimer (setFd s { s.pp.feed with safeOn := false, safeHold := true }) tmrSafeHold (safeLeft s + msTicks 20)) tmrSafeStep
  else s

/-- The hold ends and both windings are off (R150). -/
def safeHoldEnd (s : State) : State :=
  if s.pp.feed.safeHold && timerDue s tmrSafeHold then
    setFd (stopTimer s tmrSafeHold) { s.pp.feed with
      safeHold := false, floating := true, windA := Winding.reset, windB := Winding.reset }
  else s

/-! ## The rows -/

/-- AO_POR (R131). -/
def execAoPor (s : State) : Host.Outcome State Fault Refusal := .next (aoPor s)

/-- AO_POR_RELEASE (R1203). -/
def execAoPorRelease (s : State) : Host.Outcome State Fault Refusal :=
  .next (if s.dev.vddao then s else leaveReset (setDev s { s.dev with vddao := true }))

/-- POR_RELEASE (R144). -/
def execPorRelease (s : State) : Host.Outcome State Fault Refusal := .next (porRelease s)

/-- BROWN_OUT (R132). -/
def execBrownOut (s : State) : Host.Outcome State Fault Refusal := .next (brownOut s)

/-- RSTN_RESET (R135). -/
def execRstnReset (s : State) : Host.Outcome State Fault Refusal := .next (rstnDown s)

/-- RSTN_RELEASE (R136). -/
def execRstnRelease (s : State) : Host.Outcome State Fault Refusal := .next (rstnUp s)

/-- NEAR_RAM_CLEAR_DONE (R144). -/
def execNearRamClearDone (s : State) : Host.Outcome State Fault Refusal := .next (clearDone s)

/-- SAFE_FEED_START (R148). -/
def execSafeFeedStart (s : State) : Host.Outcome State Fault Refusal := liveIn s .print safeStart

/-- SAFE_FEED_STEP (R149). -/
def execSafeFeedStep (s : State) : Host.Outcome State Fault Refusal := liveIn s .print safeStep

/-- SAFE_FEED_STOP (R150). -/
def execSafeFeedStop (s : State) : Host.Outcome State Fault Refusal := liveIn s .print safeStop

/-- SAFE_FEED_HOLD_END (R150). -/
def execSafeFeedHoldEnd (s : State) : Host.Outcome State Fault Refusal := liveIn s .print safeHoldEnd

/-- ROMOFF_ARM (R168). -/
def execRomoffArm (req : Nat) (s : State) : Host.Outcome State Fault Refusal :=
  writeReg s req .PMU_IMAP 0 fun s => setDev (wb s .PMU_IMAP 0 0 true) { s.dev with romoffArmed := true }

/-- DOZE_ENTRY (R177). -/
def execDozeEntry (s : State) : Host.Outcome State Fault Refusal := liveIn s .core dozeEntry

/-- STANDBY_REQUEST (R182). -/
def execStandbyRequest (req : Nat) (s : State) : Host.Outcome State Fault Refusal := writeReg s req .PMU_MODE 0 stbyRequest

/-- STANDBY_CROSSINGS_DRAINED (R45). -/
def execStandbyCrossingsDrained (s : State) : Host.Outcome State Fault Refusal := liveIn s .core stbyDrained

/-- WAKE_SOURCE (R190): in the bit order of RTC_WAKEEN. -/
def execWakeSource (src : Fin 4) (s : State) : Host.Outcome State Fault Refusal := .next (wakeBy s src.val)

/-- The AO island has its supply (R130): what its own oscillators do takes place in every mode. -/
def aoLives (s : State) (f : State → State) : Host.Outcome State Fault Refusal := .next (if s.dev.vddao then f s else s)

/-- RTC_SET_LOAD (R197). -/
def execRtcSetLoad (s : State) : Host.Outcome State Fault Refusal := aoLives s rtcLoad

/-- RTC_TRIM_APPLY (R198). -/
def execRtcTrimApply (s : State) : Host.Outcome State Fault Refusal := aoLives s rtcTrim

/-- RTC_ALARM_MATCH (R199). -/
def execRtcAlarmMatch (s : State) : Host.Outcome State Fault Refusal := aoLives s rtcAlarm

/-- RTC_XTAL_FAIL (R200). -/
def execRtcXtalFail (s : State) : Host.Outcome State Fault Refusal := aoLives s rtcFail

/-- RTC_XTAL_RESTORE (R200). -/
def execRtcXtalRestore (s : State) : Host.Outcome State Fault Refusal := aoLives s rtcBack

/-- RETENTION_DATA_ACCESS (R206). -/
def execRetentionDataAccess (req : Nat) (normalPort : Bool) (wr : Option Byte) (dst : Dst) (s : State) :
    Host.Outcome State Fault Refusal :=
  match wr with
  | some b => writeReg s req (rrReg normalPort) 0 fun s => rrWrite s normalPort b
  | none => readRegRow s req (rrReg normalPort) 0 fun s ok =>
    if ok then replyIn (rrRead s req normalPort).2 .ao dst (rrRead s req normalPort).1 else replyIn s .ao dst 0

/-- WDT_ENABLE (R201). -/
def execWdtEnable (req : Nat) (s : State) : Host.Outcome State Fault Refusal := writeReg s req .PMU_WDTCTL 0 wdtOn

/-- WDT_KICK (R202). -/
def execWdtKick (req : Nat) (v : Byte) (s : State) : Host.Outcome State Fault Refusal :=
  writeReg s req .PMU_WDTKICK 0 fun s => wdtKick s v

/-- WDT_EXPIRY (R204). -/
def execWdtExpiry (tie : Bool) (s : State) : Host.Outcome State Fault Refusal := .next (wdtExpiry s tie)

end Sys2Proof.Machine
end

