-- ==== Sys2Proof/Machine/Icu.lean ====
section
/-!
DEFINITION. The interrupt controller (chapter 10) and the slot map (chapter 07): who is receptive, the commit, handler entry, the return
of a delivery, and the registers that set a source up.
-/
namespace Sys2Proof.Machine

/-- The state with the interrupt controller replaced. -/
def setIcu (s : State) (i : Icu) : State := { s with icu := i }

/-! ## The slot map (R397-R402) -/

/-- The thread that a slot map gives slot `k`. -/
def slotThread (m : Quad) (k : Nat) : Nat := fld m (3 * k + 2) (3 * k)

/-- Whether a thread has a slot in a map. -/
def inMap (m : Quad) (t : Nat) : Bool := (List.range 8).any fun k => slotThread m k == t

/-- Whether a thread owns a slot (R401). -/
def ownsSlot (s : State) (t : Nat) : Bool := inMap (rd s .PMU_SLOTMAP 0) t

/-- A map is committed: one without T0 is refused (R400), any other waits for the next slot-0 cycle (R399, R422): an OUT's write lands at
the end of its cycle 3. -/
def slotWrite (s : State) (v : Quad) : State :=
  if inMap v 0 then
    wb (setDev s { s.dev with slotPend := some (v &&& 0xFFFFFF), slotAt := (s.cycles / 8 + 1) * 8 }) .PMU_SLOTSTAT 0 0 true
  else occur (wb s .PMU_SLOTSTAT 0 1 true) 0x15 1

/-! ## Deliveries -/

/-- Whether a delivery of a source would be received by a thread (R534), apart from its slot and state: IE, INH, no committed delivery, world,
TOLL, no stop or forced return in force (R313, R434), no step (R1097). -/
def wouldReceive (s : State) (t src : Nat) : Bool :=
  let th := thr s t
  th.ie && !th.inh && th.delivery.isNone && th.world == sourceWorld s src && !(sourceWorld s src && th.inToll) &&
  !th.stopHeld && !th.forced && (!th.stepping || rb s .DBG_STEP 0 4)

/-- A thread is receptive to a source (R534). -/
def receptive (s : State) (t src : Nat) : Bool :=
  ((thr s t).st == .running || (thr s t).st == .parked) && ownsSlot s t && wouldReceive s t src

/-- The first thread of a source's TGT, cyclically from RR + 1, that is receptive (R538); `x` is the source's register as the ICU sees it. -/
def pickTarget (s : State) (x : Quad) (src : Nat) : Option Nat :=
  let rr := mget (fun _ => 7) s.icu.rr src
  ((List.range 8).map fun i => (rr + 1 + i) % 8).find? fun t => x.getLsbD (8 + t) && receptive s t src

/-- A source's pending and RET bits. -/
def pendBit (s : State) (src : Nat) : Bool := mget (fun _ => false) s.icu.pend src
def retBit (s : State) (src : Nat) : Bool := mget (fun _ => false) s.icu.ret src

/-- A delivery of a source is committed to some thread and its handler has not issued: a source holds one at a time (R545). -/
def inDelivery (s : State) (src : Nat) : Bool := (List.range 8).any fun t => (thr s t).delivery == some src

/-- One source is considered in a cycle's arbitration: where it is deliverable it commits, RET first (R536-R539), and the edge's movement is
booked. `x` is ICU_SRCn as the ICU sees it (R535). -/
def commitSource (s : State) (x : Quad) (src : Nat) : State :=
  if !(srcReserved src) && x.getLsbD 0 && (pendBit s src || retBit s src) && !(inDelivery s src) then
    match pickTarget s x src with
    | none => s
    | some t =>
      let r := retBit s src
      let s1 := setIcu s (if r
        then { s.icu with ret := mset (fun _ => false) s.icu.ret src false, rr := mset (fun _ => 7) s.icu.rr src t }
        else { s.icu with pend := mset (fun _ => false) s.icu.pend src false, rr := mset (fun _ => 7) s.icu.rr src t })
      send (setThr s1 t { thr s1 t with delivery := some src }) 0 (.book 23 (if r then 4 else 3) 5 1)
  else s

/-- The sources in order of PRIO, highest first, then of number (R537), by their registers in `view`. -/
def sourceOrder (view : State) : List Nat :=
  [3, 2, 1, 0].flatMap fun p => (List.range 128).filter fun src => rf view .ICU_SRC src 2 1 == p

/-- The commits of one cycle (R537) with EN, PRIO and TGT as `view` holds them; a delivery ends DOZE (R180). -/
def icuCommitBy (view s : State) : State :=
  dozeExit ((sourceOrder view).foldl (fun s src => commitSource s (rd view .ICU_SRC src) src) s)

/-- A committed delivery whose handler has not issued returns (R544): RET, INT_RETURNED, one edge in the book. -/
def returnDelivery (s : State) (t : Nat) : State :=
  match (thr s t).delivery with
  | none => s
  | some src =>
    let s1 := setThr s t { thr s t with delivery := none }
    send (occur (setIcu s1 { s1.icu with ret := mset (fun _ => false) s1.icu.ret src true }) 0x07 1) 0 (.book 23 5 4 1)

/-- A latency in the UNIT of a counter (R1125, R1130). -/
def latencyOf (s : State) (n : Nat) (o : Nat × Nat) : Nat :=
  match rf s .EC_CTL n 4 3 with
  | 0 => s.cycles - o.2
  | 1 => s.time - o.1
  | _ => (s.time - o.1) / 24

/-- A MAXLAT measurement of one counter closes (R1130, R1132). -/
def closeMeasure (s : State) (n src : Nat) : State :=
  match (ctr s n).opened with
  | some o =>
    if rb s .EC_CTL n 0 && ecMode s n == 2 && rf s .EC_SEL n 7 0 == src then
      let l := latencyOf s n o
      let v := min l 0xFFFFFFFF
      let s1 := wr (wb (setCtr s n { ctr s n with opened := none }) .EC_STAT n 2 false) .EC_LAST n (BitVec.ofNat 32 v)
      let s2 := if rn s1 .EC_COUNT n < v then wr s1 .EC_COUNT n (BitVec.ofNat 32 v) else s1
      if 0xFFFFFFFF < l then wb s2 .EC_STAT n 0 true else s2
    else s
  | none => s

/-- Measurements of a source close at the first issue of its handler. -/
def closeMeasures (s : State) (src : Nat) : State := forN 8 s fun s n => closeMeasure s n src

/-- EPC at handler entry (R366, R370): the parking instruction for WAITB and FENCE, otherwise where the thread continues. -/
def entryEpc (th : Thread) : Word :=
  match th.st, th.park with
  | .parked, .waitb _ _ => th.lastPc
  | .parked, .fence => th.lastPc
  | _, _ => th.pc

/-- The vector of a source for a thread (R533). -/
def vectorOf (s : State) (t src : Nat) : Word := BitVec.ofNat 16 (rn s .ICU_VBASE (2 * t + b01 (thr s t).world) + 2 * src)

/-- Whether threads may issue at all: awake, clocked, neither in DOZE nor in STANDBY entry (R179, R182). -/
def coreIssues (s : State) : Bool := s.dev.phase == .awake && islandRuns s .core && !s.dev.doze && !s.dev.stbyReq

/-- Whether a committed delivery's handler can issue (R541): not between a control transfer and its delay slot (R366). -/
def canEnter (s : State) (t : Nat) : Bool :=
  let th := thr s t
  th.delivery.isSome && coreIssues s && ownsSlot s t && (th.st == .running || th.st == .parked) && th.target.isNone && !th.forced

/-- A committed delivery's handler issues (R541, R1251). -/
def handlerEntry (s : State) (t : Nat) : State :=
  let th := thr s t
  match th.delivery with
  | none => s
  | some src =>
    let s1 := setThr s t { th with
      st := .running, park := .none, epc := entryEpc th, inh := true, delivery := none, pc := vectorOf s t src }
    let s2 := wr s1 .ICU_CUR t (BitVec.ofNat 32 (src + 128))
    closeMeasures (send s2 0 (.book 23 5 1 1)) src

/-- The committed map comes into force (R399); a thread that loses its slots returns its delivery (R421). -/
def slotApply (s : State) : State :=
  match s.dev.slotPend with
  | none => s
  | some m =>
    let s1 := wb (wr (setDev s { s.dev with slotPend := none }) .PMU_SLOTMAP 0 m) .PMU_SLOTSTAT 0 0 false
    forN 8 s1 fun s t => if ownsSlot s t then s else returnDelivery s t

/-! ## Registers -/

/-- Bits of ICU_SWORLDk that can be written: sources neither reserved nor tied to a block (chapter 10, Registers). -/
def sworldMask (k : Nat) : Quad :=
  BitVec.ofNat 32 ((List.range 8).foldl (fun a j =>
    a + (if srcReserved (8 * k + j) || (sourceBlock (8 * k + j)).isSome then 0 else 2 ^ j)) 0)

/-- ICU_SWORLDk commits; SWLOCK freezes it. -/
def sworldWrite (s : State) (k : Nat) (v : Quad) : State :=
  if rb s .ICU_CTL 0 0 then s else wr s .ICU_SWORLD k (v &&& sworldMask k)

/-- What ICU_SRCn reads: WORLD and RET are live; a reserved source reads 0. -/
def srcRead (s : State) (n : Nat) : Quad :=
  if srcReserved n then 0
  else rd s .ICU_SRC n ||| BitVec.ofNat 32 (8 * b01 (sourceWorld s n) + 16 * b01 (retBit s n))

/-- ICU_SRCn commits. -/
def srcWrite (s : State) (n : Nat) (v m : Quad) : State :=
  if srcReserved n then s else wr s .ICU_SRC n (commitBits .ICU_SRC (rd s .ICU_SRC n) v m)

/-! ## The rows -/

/-- SLOTMAP_WRITE (R400). -/
def execSlotmapWrite (req : Nat) (v : Quad) (s : State) : Host.Outcome State Fault Refusal :=
  writeReg s req .PMU_SLOTMAP 0 fun s => slotWrite s v

/-- ICU_SWLOCK (R550). -/
def execIcuSwlock (req : Nat) (s : State) : Host.Outcome State Fault Refusal :=
  writeReg s req .ICU_CTL 0 fun s => wb s .ICU_CTL 0 0 true

end Sys2Proof.Machine
end

