-- ==== Sys2Proof/Machine/Threads.lean ====
section
/-!
DEFINITION. Threads from start to stop (chapter 05), traps and the forced return (chapters 06 and 08), and run control (chapter 21).
-/
namespace Sys2Proof.Machine

/-! ## Scopes (R475) -/

/-- A thread lies in keeper scope (R475). -/
def keeperScope (th : Thread) : Bool := !th.world || th.inToll

/-- A run-control action on a thread is permitted now (R1092). -/
def haltPermitted (s : State) (t : Nat) : Bool := invasive s (keeperScope (thr s t))

/-- A thread's home world (R426). -/
def homeWorld (s : State) (t : Nat) : Bool := rb s .THR_WORLD t 0

/-- A halt of a thread can never be permitted (R1092): its scopes' enables are clear, and none sets before a reset (R476). -/
def haltNever (s : State) (t : Nat) : Bool := !(invasive s true) && !(homeWorld s t && invasive s false)

/-! ## Halting (R1093, R1094) -/

/-- A thread where it will issue again: a thread parked in WAIT, WAITB or FENCE at its parking instruction (R1094), which as a delay slot
keeps the address its transfer continues at. -/
def unpark (th : Thread) : Thread :=
  match th.st, th.park with
  | .parked, .limitWindow | .parked, .limitIn | .parked, .none => { th with park := .none }
  | .parked, _ => { th with park := .none, pc := th.lastPc, target := if th.pc = th.lastPc + 1 then none else some th.pc }
  | _, _ => { th with park := .none }

/-- The thread takes the state HALTED with a cause for DBG_HCAUSE; a committed delivery returns (R1093). It leaves its park (R1094), and the
device DOZE with it (R180). -/
def haltNow (s : State) (t cause : Nat) : State :=
  let s1 := leaveDoze (returnDelivery s t)
  wr (setThr s1 t { unpark (thr s1 t) with st := .halted, haltPend := none, stepping := false }) .DBG_HCAUSE t
    (BitVec.ofNat 32 cause)

/-- An instruction boundary: no delay slot is to issue, no forced return is under way. -/
def atBoundary (th : Thread) : Bool := (th.st == .running || th.st == .parked) && th.target.isNone && !th.forced

/-- A pending halt takes effect at a boundary where it is permitted (R1092, R1093). -/
def settleHalt (s : State) (t : Nat) : State :=
  match (thr s t).haltPend with
  | some c => if atBoundary (thr s t) && haltPermitted s t then haltNow s t c else s
  | none => s

/-- A halt of a thread is asked for (R1092): a halted thread stays, a halt that can never be permitted is counted. -/
def haltRequest (s : State) (t cause : Nat) : State :=
  if (thr s t).st = .halted then s
  else if haltNever s t then occur s 0xAB 1
  else settleHalt (setThr s t { thr s t with haltPend := some cause }) t

/-- Enables have been cleared: pending halts that can never be permitted any more are counted and dropped (R1092). -/
def dropHalts (s : State) : State :=
  forN 8 s fun s t =>
    if (thr s t).haltPend.isSome && haltNever s t then occur (setThr s t { thr s t with haltPend := none }) 0xAB 1 else s

/-- The ROM overlay is released after the delay slot of the transfer that follows ROMOFF (R168); DBG_ARM halts T0 there (R1102). -/
def overlayOff (s : State) (t : Nat) (slot : Bool) : State :=
  if t = 0 ∧ slot = true ∧ s.dev.romoffGo = true then
    let s1 := setDev s { s.dev with overlay := false, romoffArmed := false, romoffGo := false }
    if rb s1 .DBG_ARM 0 0 && invasive s1 true then setThr s1 0 { thr s1 0 with haltPend := some 6 } else s1
  else s

/-! ## Stopping (R309-R315) -/

/-- No access of the thread is outstanding. -/
def allLanded (th : Thread) : Bool := th.outW == 0 && th.outX == 0

/-- The stop takes effect: the thread is STOPPING until its accesses have landed (R312), STOPPED at once where none is outstanding (R326). -/
def stopNow (s : State) (t : Nat) : State :=
  let s1 := returnDelivery s t
  setThr s1 t { thr s1 t with
    st := if allLanded (thr s1 t) then .stopped else .stopping,
    park := .none, target := none, stopHeld := false, stepping := false }

/-- STOP of a thread (R309, R314, R326, R1118): held for a delay slot (R310) and inside a TOLL (R311). A delivery returns at once (R313).
For a normal thread HALTED inside a TOLL the two rules differ: R311 holds the stop, R1118 takes a HALTED thread to STOPPING; the model holds
it, and the thread stays HALTED (DESIGN CHOICE, log 132). -/
def stopThread (s : State) (t : Nat) : State :=
  match (thr s t).st with
  | .stopped | .stopping => s
  | _ =>
    let s1 := returnDelivery s t
    if (thr s t).inToll || ((thr s t).target.isSome && (thr s t).st != .halted) then
      setThr s1 t { thr s1 t with stopHeld := true }
    else stopNow s1 t

/-- A held stop takes effect once the thread is in its home world again and no delay slot is to issue (R310, R311). -/
def settleStop (s : State) (t : Nat) : State :=
  let th := thr s t
  if th.stopHeld && !th.inToll && th.target.isNone && !th.forced then stopNow s t else s

/-- A STOPPING thread with nothing outstanding becomes STOPPED (R312). -/
def threadStopped (s : State) (t : Nat) : State :=
  let th := thr s t
  if th.st = .stopping ∧ allLanded th = true then setThr s t { th with st := .stopped } else s

/-- START of a thread (R303, R305-R307). -/
def startThread (s : State) (t : Nat) : State :=
  let th := thr s t
  if th.st ≠ .stopped ∨ (t ≠ 0 ∧ inRun s = false) then s
  else
    settleHalt (setThr (leaveDoze s) t { th with
      st := .running, park := .none, g := [], p := [], epc := 0, c := false, v := false, ie := false, inh := false,
      world := homeWorld s t, inToll := false, pc := BitVec.ofNat 16 (rn s .THR_STARTPC t), target := none, delivery := none,
      budget := none, stopHeld := false, forced := false, stepping := false }) t

/-- THRn_CTL commits: STOP goes before START (R325). -/
def ctlWrite (s : State) (t : Nat) (v : Quad) : State :=
  if v.getLsbD 1 then stopThread s t else if v.getLsbD 0 then startThread s t else s

/-- THRn_WORLD commits (R308, R1247): ignored while the thread is not STOPPED; T0's WORLD is fixed. -/
def worldWrite (s : State) (t : Nat) (v : Quad) : State :=
  if (thr s t).st ≠ .stopped then s
  else
    let s1 := if t = 0 ∨ rb s .THR_WORLD t 1 = true then s else wb s .THR_WORLD t 0 (v.getLsbD 0)
    if v.getLsbD 1 then wb s1 .THR_WORLD t 1 true else s1

/-! ## Forced return, keeper hang (R434-R438) -/

/-- A thread is forced back: it issues nothing more, its delivery returns (R434 step 1, R437). It leaves its park, and the device DOZE with
it (R180). -/
def forceBack (s : State) (t : Nat) : State :=
  let s1 := leaveDoze (returnDelivery s t)
  setThr s1 t { thr s1 t with
    st := if (thr s1 t).st = .halted then .halted else .running, park := .none, target := none, forced := true }

/-- A keeper reset begins (R441 step 1). -/
def krstBegin (s : State) : State := if rf s .TG_KRST 0 2 1 ≠ 0 then s else wf s .TG_KRST 0 2 1 1

/-- Quiescing of a keeper reset (R441 step 2): threads inside a TOLL are forced back, keeper-home threads are stopped. -/
def krstQuiesce (s : State) : State :=
  forN 8 s fun s t =>
    let s1 := if (thr s t).inToll && !(thr s t).forced then forceBack s t else s
    if homeWorld s1 t then s1 else stopThread s1 t

/-- A keeper reset is requested (R440, R441). -/
def krstRequest (s : State) : State :=
  if rf s .TG_KRST 0 2 1 ≠ 0 then s else krstQuiesce (krstBegin s)

/-- A thread's TOLL ends by expiry or trap (R377, R434, R436): HUNG, HTHR and HTRAP, the event and its edge, the forced return; KRAUTO
starts a keeper reset where HUNG sets (R440). -/
def keeperHung (s : State) (t : Nat) (trap : Bool) : State :=
  let was := rb s .TG_STAT 0 0
  let s1 := if was then s else wr s .TG_STAT 0 (BitVec.ofNat 32 (1 + 2 * t + 16 * b01 trap))
  let s2 := forceBack (latchEdge (occur s1 0x11 1) 20) t
  if !was && rb s2 .TG_CTL 0 0 then krstRequest s2 else s2

/-- Step 2 of R434 is over: nothing that the thread issued is in the pipeline, and no access that it issued in keeper world is outstanding.
An access issued before the TOLL may still be (R388). -/
def forcedLanded (s : State) (t : Nat) : Bool :=
  (thr s t).outKW == 0 && (thr s t).outKX == 0 && !(s.pipe.any fun e => e.ofThread t)

/-- Steps 2 and 3 of R434: everything has landed, the registers clear, and the thread continues in normal world. -/
def forcedReturn (s : State) (t : Nat) : State :=
  let th := thr s t
  if th.forced && forcedLanded s t then
    let s1 := setThr s t { th with
      g := mset (fun _ => 0) [] 1 0xFF, p := [], c := false, v := false, world := true, inToll := false, pc := th.ret,
      target := none, budget := none, forced := false,
      haltPend := if th.stepping then some 2 else th.haltPend, stepping := false }
    settleHalt (settleStop s1 t) t
  else s

/-! ## Traps (R373-R379) -/

/-- A trap of a thread at its latest issued instruction: the record (R375), the event and its edge (R378), then the stop (R376) or the
forced return (R377). -/
def trapThread (s : State) (t cause code : Nat) : State :=
  let th := thr s t
  let old := rd s .THR_TRAP t
  let ovr := old.getLsbD 31 || old.getLsbD 30
  let s1 := wr s .THR_TRAP t (BitVec.ofNat 32 (th.lastPc.toNat + 65536 * (code % 256) + 16777216 * cause +
    134217728 * b01 th.world + 1073741824 * b01 ovr + 2147483648))
  let s2 := latchEdge (occur s1 0x05 1) t
  if th.inToll then keeperHung s2 t true else stopNow s2 t

/-! ## Parking (R355, R361, R368, R369, R413) -/

/-- A parked thread's condition holds. -/
def parkOver (s : State) (t : Nat) : Bool :=
  let th := thr s t
  match th.park with
  | .fence => allLanded th
  | .limitWindow => decide (th.outW < 4)
  | .limitIn => decide (th.outX < 4)
  | .waitb b v => bitSeen s t b == v
  | .wait | .none => false

/-- A parked thread is released; in DOZE a WAITB thread's bit ends it (R180). -/
def parkRelease (s : State) (t : Nat) : State :=
  if (thr s t).st = .parked ∧ parkOver s t = true then
    let s1 := leaveDoze s
    setThr s1 t { thr s1 t with st := .running, park := .none }
  else s

/-! ## Run control (R1091-R1102) -/

/-- Each thread named by a bit mask. -/
def eachThread (s : State) (mask : Nat) (f : State → Nat → State) : State := forN 8 s fun s t => if nbit mask t then f s t else s

/-- DBG_RESUME (R1096, R1119). -/
def resumeThread (s : State) (t : Nat) : State :=
  if (thr s t).st = .halted then setThr (leaveDoze s) t { thr s t with st := .running } else s

/-- DBG_STEP with GO (R1097). -/
def stepThread (s : State) (t : Nat) : State :=
  if (thr s t).st = .halted ∧ haltPermitted s t = true then setThr (leaveDoze s) t { thr s t with st := .running, stepping := true } else s

/-- DBG_STEP commits. -/
def stepWrite (s : State) (v : Quad) : State :=
  let s1 := wr s .DBG_STEP 0 (v &&& 0x17)
  if v.getLsbD 3 then stepThread s1 (fld v 2 0) else s1

/-- Status bits 0x000-0x008 of a thread as one number (DBG_REGSEL 23). -/
def statusBits (s : State) (t : Nat) : Nat :=
  (List.range 9).foldl (fun a i => a + 2 ^ i * b01 (bitVal s t i)) 0

/-- The register DBG_REGSEL names (R1098). -/
def dbgReg (s : State) (t r : Nat) : Nat :=
  let th := thr s t
  if r < 16 then (getG th r).toNat
  else if r < 21 then (getP th (r - 16)).toNat
  else if r = 21 then th.pc.toNat
  else if r = 22 then th.epc.toNat
  else if r = 23 then statusBits s t
  else 0

/-- A write of that register; of the status bits C, V and IE are writable (R300). -/
def dbgRegSet (s : State) (t r : Nat) (v : Quad) : State :=
  let th := thr s t
  let w := BitVec.ofNat 16 v.toNat
  if r < 16 then setThr s t (setG th r (BitVec.ofNat 8 v.toNat))
  else if r < 21 then setThr s t (setP th (r - 16) w)
  else if r = 21 then setThr s t { th with pc := w }
  else if r = 22 then setThr s t { th with epc := w }
  else if r = 23 then setThr s t { th with c := v.getLsbD 0, v := v.getLsbD 1, ie := v.getLsbD 4 }
  else s

/-- DBG_REGSEL names a HALTED thread. -/
def selHalted (s : State) : Bool := (thr s (rf s .DBG_REGSEL 0 2 0)).st == .halted

/-- A read of DBG_REGDATA: 0 and DBG_DENIED where it is not permitted (R1098). -/
def regdataRead (s : State) : Quad × State :=
  let t := rf s .DBG_REGSEL 0 2 0
  if selHalted s && observing s (keeperScope (thr s t)) then (BitVec.ofNat 32 (dbgReg s t (rf s .DBG_REGSEL 0 7 3)), s)
  else (0, occur s 0xAC 1)

/-- A write of DBG_REGDATA (R1098). -/
def regdataWrite (s : State) (v : Quad) : State :=
  let t := rf s .DBG_REGSEL 0 2 0
  if selHalted s && invasive s (keeperScope (thr s t)) then dbgRegSet s t (rf s .DBG_REGSEL 0 7 3) v else occur s 0xAC 1

/-- A thread issues in its slots: it has a slot and no park, and a held stop leaves only a TOLL or a delay slot (R310, R311). -/
def issues (s : State) (t : Nat) : Bool :=
  let th := thr s t
  coreIssues s && ownsSlot s t && th.st == .running && !th.forced && (!th.stopHeld || th.inToll || th.target.isSome)

/-- A thread can issue its next instruction: a committed delivery lets only a delay slot issue before the handler (R366). -/
def canIssue (s : State) (t : Nat) : Bool := issues s t && ((thr s t).delivery.isNone || (thr s t).target.isSome)

/-- Whether a breakpoint's WMATCH accepts a world. -/
def worldMatches (m : Nat) (world : Bool) : Bool := m == 0 || (m == 1 && !world) || (m == 2 && world) || m == 3

/-- Breakpoint `k` matches thread `t`, which is about to issue (R1099, R1101). -/
def breakMatch (s : State) (t k : Nat) : State :=
  let b := rd s .DBG_BP k
  let th := thr s t
  if canIssue s t && b.getLsbD 31 && b.getLsbD (16 + t) && fld b 15 0 == th.pc.toNat && worldMatches (fld b 25 24) th.world then
    if haltPermitted s t then
      let s1 := settleHalt (setThr s t { th with haltPend := some (3 + 16 * k + 64 * b01 th.target.isSome) }) t
      if b.getLsbD 26 then eachThread s1 (rn s1 .DBG_GROUP 0) fun s n => if n = t then s else haltRequest s n 5 else s1
    else occur s 0xAB 1
  else s

/-- Watchpoint `k` matches an access of thread `t` (R1100, R1101). -/
def watchMatch (s : State) (t k space : Nat) (addr : BitVec 24) (write : Bool) : State :=
  let a := rd s .DBG_WPA k
  let m := rd s .DBG_WPM k
  let th := thr s t
  if (th.st == .running || th.st == .parked) && a.getLsbD 31 && m.getLsbD (24 + t) && fld a 25 24 == space &&
     a.getLsbD (if write then 27 else 26) && fld ((a ^^^ addr.zeroExtend 32) &&& m) 23 0 == 0 then
    if haltPermitted s t then settleHalt (setThr s t { th with haltPend := some (4 + 16 * k) }) t else occur s 0xAB 1
  else s

/-- A run-control register is written by the debug bus master only, under R1104; other writes are ignored and raise nothing (R1091). -/
def dbgWrite (s : State) (req : Nat) (r : Rg) (f : State → State) : Host.Outcome State Fault Refusal :=
  if req < 8 then .next s else writeReg s req r 0 f

/-- What a session's end does (R1077): breakpoints and watchpoints off, halted threads resumed, SESSION clear; pending halts fall with
them. -/
def sessionEnd (s : State) : State :=
  let s1 := forN 4 s fun s k => wb s .DBG_BP k 31 false
  let s2 := forN 2 s1 fun s k => wb s .DBG_WPA k 31 false
  let s3 := forN 8 s2 fun s t => resumeThread (setThr s t { thr s t with haltPend := none, stepping := false }) t
  wb { s3 with dbg := { Dbg.reset with
    run := s.dbg.run.filter fun r => r.mon, stale := s.dbg.stale, pcNext := s.dbg.pcNext } } .DBG_STAT 0 0 false

/-! ## PC samples (R1107) -/

/-- The thread of the next sample: the next in cyclic order whose scope may be observed. -/
def sampleThread (s : State) : Option Nat :=
  ((List.range 8).map fun i => (s.dbg.pcNext + i) % 8).find? fun t => observing s (keeperScope (thr s t))

/-- A read of DBG_PCSAMP: 0 where no thread may be sampled. -/
def pcSample (s : State) : Quad × State :=
  match sampleThread s with
  | none => (0, s)
  | some t =>
    (BitVec.ofNat 32 ((thr s t).lastPc.toNat + 65536 * t + 524288 * b01 (thr s t).world + 2147483648),
     { s with dbg := { s.dbg with pcNext := (t + 1) % 8 } })

/-! ## Windows and the IRAM port -/

/-- The owner nibbles of a window set after a commit by a normal thread: a nibble takes 15 or a granted owner, otherwise it stays (R286,
R287); answers the value and whether one was refused. -/
def winNibbles (old v m : Quad) (grant : Nat) : Quad × Bool :=
  (List.range 3).foldl (fun (r : Quad × Bool) k =>
    let n := fld v (4 * k + 3) (4 * k)
    if m.getLsbD (4 * k) = false then r
    else if n = 15 ∨ nbit (grant &&& 0x7FFE) n = true then (putFld r.1 (4 * k + 3) (4 * k) n, r.2)
    else (r.1, true)) (old, false)

/-- SEAL_WINns_OWN commits for set `i` = 2 n + w (R286, R287); `m` marks the bytes staged. -/
def winOwnWrite (s : State) (req i : Nat) (world : Bool) (grant : Nat) (v m : Quad) : State :=
  if world then
    let r := winNibbles (rd s .WIN_OWN i) v m grant
    let s1 := wr s .WIN_OWN i r.1
    if r.2 then violate (wb s1 .WIN_STAT i 0 true) 3 (agentOf req) (regAddr .WIN_OWN i) else s1
  else wr s .WIN_OWN i (commitBits .WIN_OWN (rd s .WIN_OWN i) v m)

/-- A requester's IRAM port moves on (R319-R321). -/
def irNext (s : State) (req : Nat) : State :=
  wrReq s .TG_IRADDR req (BitVec.ofNat 32 (((rdReq s .TG_IRADDR req).toNat + 1) % 65536))

/-- The IRAM word at an address (R272, R316). -/
def iramAt (s : State) (a : Nat) : Quad := mget (fun _ => 0) s.iram a

/-- A read of byte 0 of TG_IRDATA (R319). -/
def irFetch (s : State) (req : Nat) (world : Bool) : Quad × State :=
  let a := (rdReq s .TG_IRADDR req).toNat
  if world && decide (a < iwmWord s) then (0, violate (irNext s req) 5 (agentOf req) a) else (iramAt s a, irNext s req)

/-- A commit of TG_IRDATA (R275, R320). In DOZE, with IRAM's clock gated (R179), the spec does not say what an access of the debug bus master
does: the model carries it out (DESIGN CHOICE, log 115). -/
def irCommit (s : State) (req : Nat) (world : Bool) (v : Quad) : State :=
  let a := (rdReq s .TG_IRADDR req).toNat
  if world then violate (irNext s req) 5 (agentOf req) a
  else irNext { s with iram := mset (fun _ => 0) s.iram a v } req

/-! ## Values landing (R411) -/

/-- The value of a read row lands in a register of a thread, or with the debug bus master: that is `Debug`'s. -/
def landIn (s : State) (dst : Dst) (b : Byte) : State :=
  match dst with
  | .greg t r => setThr s t (setG (thr s t) r b)
  | .preg t p => setThr s t (setP (thr s t) p (b.zeroExtend 16))
  | .debug => s

/-- The value of a split-phase access lands in the register named at its issue (R404, R411); bytes in rising order (R281). -/
def landAt (s : State) (l : Landing) (bs : List Byte) : State :=
  match l.dst with
  | .greg t r => landG s t r l.issue (bs.getD 0 0)
  | .preg t p => landP s t p l.issue (BitVec.ofNat 16 (leNat bs))
  | .debug => s

/-! ## The rows -/

/-- THREAD_START (R303). -/
def execThreadStart (req : Nat) (n : Fin 8) (s : State) : Host.Outcome State Fault Refusal :=
  writeReg s req .THR_CTL n fun s => startThread s n.val

/-- THREAD_STOP (R309): a thread may write STOP of its own block through the alias in either world (R294). -/
def execThreadStop (req : Nat) (n : Fin 8) (s : State) : Host.Outcome State Fault Refusal :=
  if req = n.val then liveIn s .core fun s => stopThread s n.val else writeReg s req .THR_CTL n fun s => stopThread s n.val

/-- THREAD_STOPPED (R312). -/
def execThreadStopped (n : Fin 8) (s : State) : Host.Outcome State Fault Refusal := liveIn s .core fun s => threadStopped s n.val

/-- THREAD_WORLD_WRITE (R308). -/
def execThreadWorldWrite (req : Nat) (n : Fin 8) (v : Byte) (s : State) : Host.Outcome State Fault Refusal :=
  writeReg s req .THR_WORLD n fun s => worldWrite s n.val (v.zeroExtend 32)

/-- THREAD_WORLD_LOCK (R308): LOCK written as 1 with WORLD as it is. -/
def execThreadWorldLock (req : Nat) (n : Fin 8) (s : State) : Host.Outcome State Fault Refusal :=
  writeReg s req .THR_WORLD n fun s => worldWrite s n.val ((rd s .THR_WORLD n &&& 1) ||| 2)

/-- WINDOW_OWNER_WRITE (R287): a normal-world thread reaches its own normal set through the alias (R295). -/
def execWindowOwnerWrite (req : Nat) (n : Fin 8) (normal : Bool) (v : Word) (s : State) : Host.Outcome State Fault Refusal :=
  let i := 2 * n.val + b01 normal
  let f := fun s => winOwnWrite s req i (reqWorld s req) (reqGrant s req) (v.zeroExtend 32) 0xFFFF
  if req = n.val ∧ normal = true ∧ reqWorld s req = true then liveIn s .core f else writeReg s req .WIN_OWN i f

/-- IRAM_PORT_READ (R319): the lowest byte, whose read captures the word. -/
def execIramPortRead (req : Nat) (dst : Dst) (s : State) : Host.Outcome State Fault Refusal :=
  readRegRow s req .TG_IRDATA 0 fun s ok =>
    if ok then
      let (v, s1) := irFetch s req (reqWorld s req)
      landIn (capture s1 req .TG_IRDATA 0 v) dst (byteOf v 0)
    else landIn s dst 0

/-- IRAM_PORT_WRITE (R275). -/
def execIramPortWrite (req : Nat) (v : Quad) (s : State) : Host.Outcome State Fault Refusal :=
  writeReg s req .TG_IRDATA 0 fun s => irCommit s req (reqWorld s req) v

/-- PARK_RELEASE (R413). -/
def execParkRelease (t : Fin 8) (s : State) : Host.Outcome State Fault Refusal := liveIn s .core fun s => parkRelease s t.val

/-- DEBUG_HALT (R1093). -/
def execDebugHalt (req : Nat) (v : Byte) (s : State) : Host.Outcome State Fault Refusal :=
  dbgWrite s req .DBG_HALT fun s => eachThread s v.toNat fun s t => haltRequest s t 1

/-- DEBUG_RESUME (R1096). -/
def execDebugResume (req : Nat) (v : Byte) (s : State) : Host.Outcome State Fault Refusal :=
  dbgWrite s req .DBG_RESUME fun s => eachThread s v.toNat resumeThread

/-- DEBUG_STEP (R1097). -/
def execDebugStep (req : Nat) (v : Byte) (s : State) : Host.Outcome State Fault Refusal :=
  dbgWrite s req .DBG_STEP fun s => stepWrite s (v.zeroExtend 32)

/-- DEBUG_REGISTER_ACCESS (R1098): a read of the lowest byte, or a commit. -/
def execDebugRegisterAccess (req : Nat) (w : Option Word) (dst : Dst) (s : State) : Host.Outcome State Fault Refusal :=
  match w with
  | some v => dbgWrite s req .DBG_REGDATA fun s => regdataWrite s (v.zeroExtend 32)
  | none => readRegRow s req .DBG_REGDATA 0 fun s ok =>
    if ok = false then landIn s dst 0
    else
      let (v, s1) := regdataRead s
      landIn (capture s1 req .DBG_REGDATA 0 v) dst (byteOf v 0)

/-- BREAKPOINT_MATCH (R1099). -/
def execBreakpointMatch (t : Fin 8) (k : Fin 4) (s : State) : Host.Outcome State Fault Refusal :=
  liveIn s .core fun s => breakMatch s t.val k.val

/-- WATCHPOINT_MATCH (R1100): the access itself is the instruction's. -/
def execWatchpointMatch (t : Fin 8) (k : Fin 2) (space : Fin 3) (addr : BitVec 24) (write : Bool) (s : State) :
    Host.Outcome State Fault Refusal := liveIn s .core fun s => watchMatch s t.val k.val space.val addr write

/-- PC_SAMPLE_READ (R1107): the lowest byte. -/
def execPcSampleRead (req : Nat) (dst : Dst) (s : State) : Host.Outcome State Fault Refusal :=
  readRegRow s req .DBG_PCSAMP 0 fun s ok =>
    if ok then
      let (v, s1) := pcSample s
      landIn (capture s1 req .DBG_PCSAMP 0 v) dst (byteOf v 0)
    else landIn s dst 0

end Sys2Proof.Machine
end

