-- ==== Sys2Proof/Machine/Boot.lean ====
section
/-!
DEFINITION. What the boot ROM does in SAFE at the steps the table names (R152-R170, R190): its pins and LED, the checks of the boot record, the
image header and the image, SAFE-hold, and entering RUN. The ROM's own instructions are not given, so each check is made in the step that
brings its data.
-/
namespace Sys2Proof.Machine

/-- The ROM is loading: SAFE, and not in SAFE-hold (R163). -/
def booting (s : State) : Bool := s.dev.phase == .awake && !(inRun s) && !(rb s .PMU_MODE 0 2)

/-- The device has woken from STANDBY (R138, R190). -/
def woken (s : State) : Bool := rb s .PMU_RSTCAUSE 0 4

/-- A fast wake: IRAM was retained (R190 step 5). -/
def fastWake (s : State) : Bool := woken s && rb s .RTC_FLAGS 0 0

/-! ## LED_STAT and the pins (R70, R152) -/

/-- What the ROM shows on GP29 in SAFE: a blink at 4 Hz, a number of flashes, or steady light. -/
inductive StatPattern where
  | blink | flashes (n : Nat) | steady
  deriving DecidableEq, Repr

/-- The pattern of LED_STAT; `none` in RUN, where firmware owns the pin (R153). -/
def statPattern (s : State) : Option StatPattern :=
  if inRun s then none
  else if s.mon.open_ then some .steady
  else if rb s .PMU_MODE 0 2 = false then some .blink
  else match rf s .PMU_BOOTSTAT 0 3 0 with
    | 4 => some (.flashes 1)
    | 5 | 6 | 7 => some (.flashes 3)
    | _ => some (.flashes 2)

/-- LED generator 0 with its five registers (R787). -/
def ledSet (s : State) (mode on off cnt rep : Nat) : State :=
  let n (k : Nat) : Quad := BitVec.ofNat 32 k
  ledStart (wr (wr (wr (wr (wr s .PP_LEDMODE 0 (n mode)) .PP_LEDON 0 (n on)) .PP_LEDOFF 0 (n off)) .PP_LEDCNT 0 (n cnt)) .PP_LEDREP 0 (n rep)) 0

/-- The ROM drives LED generator 0 with the pattern of R152: 4 Hz in the generator's 10 ms steps (120 ms on, 130 ms off), flashes of 150 ms
every 2 s, or steady light. -/
def statShow (s : State) : State :=
  if s.dev.romCfg = false then s
  else match statPattern s with
    | none => s
    | some .blink => ledSet s 2 12 13 0 0
    | some (.flashes k) => ledSet s 3 15 15 k 20
    | some .steady => ledSet s 1 0 0 0 0

/-- The pins the ROM configures (R70). -/
def romPins : List Nat := [15, 16, 17, 18, 25, 26, 29, 36, 37, 38, 39, 40, 41, 47, 48]

/-- The ROM configures its pins, with a 1000 ns filter on the cover and the button, enables the SAFE feed sequencer (R148) and PLL C (R147), and
shows its state (R70, R152): 150 us after the release, where the worked case of chapter 03 has it. Not in RUN, and not on a fast wake. -/
def romConfig (s : State) : State :=
  if s.dev.romCfg ∨ inRun s ∨ fastWake s = true ∨ s.dev.phase ≠ .awake ∨ s.time < usTicks 150 then s
  else
    let s1 := romPins.foldl (fun s n => pinMuxWrite s n 1) s
    let s2 := wf (wf s1 .PIN_PAD 25 5 4 3) .PIN_PAD 26 5 4 3
    statShow (setDev (wb (wb s2 .PP_FCTL 0 1 true) .CLK_CTL 0 2 true) { s2.dev with romCfg := true })

/-! ## The checks (R163) -/

/-- SAFE-hold with a cause (R163, R170). -/
def safeHoldBy (s : State) (cause : Nat) : State :=
  statShow (wf (wb (setDev s { s.dev with reload := false }) .PMU_MODE 0 2 true) .PMU_BOOTSTAT 0 3 0 cause)

/-- Check 1 (R163): no crystal 5 ms after the release. A reload after a wake waits for the PLLs (R190). -/
def bootClock (s : State) : State :=
  if booting s && s.time == msTicks 5 && !(rb s .CLK_STAT 0 0) && !s.dev.reload && !(fastWake s) then safeHoldBy s 1 else s

/-- What the ROM does as time passes: its pins, then check 1. -/
def romClock (s : State) : State := bootClock (romConfig s)

/-- Check 2 (R154-R157, R473) by the status of the boot record's TWINRD: what it gives KEYHASH and the debug enables. A read that ends
otherwise than OK or BLANK is NVFAULT. -/
def bootRecord (status : Nat) (s : State) : State :=
  let key := nvBufTake s 0 32
  if status = 9 then safeHoldBy (wr s .TG_DBGEN 0 15) 4
  else if status ≠ 0 then safeHoldBy (wr s .TG_DBGEN 0 0) 5
  else
    let s1 := setDev s { s.dev with keyhash := some key }
    if key.all fun b => b == 0xFF then safeHoldBy (wr s1 .TG_DBGEN 0 15) 4
    else wr s1 .TG_DBGEN 0 (BitVec.ofNat 32 ((nvBuf s 0 32).toNat % 16))

/-- A TWINRD of the boot record runs in block 0 while the ROM has not read it (R154, R155); check 1 has passed. -/
def readsBoot (s : State) : Bool :=
  booting s && rb s .CLK_STAT 0 0 && !s.dev.reload && s.dev.keyhash.isNone &&
  (match s.nv.run with | some (w, _) => w == 0 | none => false) && nvTy s 0 == 1 && nvA s 0 == 0 && nvB s 0 == 1

/-- TWINRD with the ROM's check of the boot record. -/
def twinRdBoot (s : State) : State :=
  let s1 := nvTwinRd s
  if readsBoot s && s.nv.run != s1.nv.run then bootRecord (rf s1 .NVB_RES 0 3 0) s1 else s1

/-- READMODE, LENGTH and ENTRY of a header (R159). -/
def hdrMode (h : List Byte) : Nat := (h.getD 6 0).toNat
def hdrLen (h : List Byte) : Nat := leNat ((h.drop 8).take 4)
def hdrEntry (h : List Byte) : Nat := leNat ((h.drop 12).take 2)

/-- Check 3 (R163). -/
def magicOk (h : List Byte) : Bool := h.take 4 == [0x54, 0x42, 0x34, 0x38]

/-- Check 4 (R163). -/
def fieldsOk (h : List Byte) : Bool :=
  leNat ((h.drop 4).take 2) == 1 && decide (hdrMode h ≤ 2) && decide (4 ≤ hdrLen h) && decide (hdrLen h ≤ 262144) &&
  hdrLen h % 4 == 0 && decide (hdrEntry h < hdrLen h / 4)

/-- Check 5 (R161, R163). -/
def keyOk (s : State) (h : List Byte) : Bool := s.dev.keyhash == some (sha256 ((h.drop 64).take 64))

/-- Check 6 (R161, R163). -/
def sigOk (s : State) (h : List Byte) : Bool := ecdsaOk ((h.drop 64).take 64) ((h.drop 128).take 64) (sha256 s.dev.sha)

/-- Checks 5 and 6: 0, or the cause. -/
def imageCheck (s : State) (h : List Byte) : Nat := if keyOk s h = false then 6 else if sigOk s h then 0 else 7

/-- A reload that the stored digest cannot accept is given up, and the full sequence of R163 runs (R190 step 5'). -/
def reloadOver (s : State) : State := setDev s { s.dev with reload := false, hdr := none, sha := [] }

/-- An image is about to be loaded: IRAM is zero, so that the words at and above LENGTH / 4 are (R162, DEDUCED, log 131), and the hashed message
begins with header bytes 0x00-0x7F (R161). -/
def loadBegin (s : State) (h : List Byte) : State := { setDev s { s.dev with hdr := some h, sha := h.take 128 } with iram := [] }

/-- The header has been read: checks 3, 4 and 5. -/
def bootHeader (s : State) (h : List Byte) : State :=
  let bad := if magicOk h = false then 2 else if fieldsOk h = false then 3 else if !s.dev.reload && !(keyOk s h) then 6 else 0
  if bad = 0 then loadBegin s h else if s.dev.reload then reloadOver s else safeHoldBy s bad

/-- The SPI entry in progress is the ROM's read of the header (R159, R164): a single-width receive on SPI_CS0 at 12.5 MHz, of at least its 192
bytes, after the read command 0x03 and the flash address 0; in a full sequence the boot record has been read (R163). -/
def readsHeader (s : State) : Bool :=
  booting s && s.dev.portsUp && s.dev.hdr.isNone && (s.dev.reload || s.dev.keyhash.isSome) && s.spi.begun &&
  s.spi.sent == [0x03, 0, 0, 0] && rf s .SPI_CSCFG 0 7 0 == 3 &&
  (match slotOf s 15 with
   | some x => entryRecv x.e && entryCs x.e == 0 && x.e.uflags % 4 == 0 && wordSize x.e == 1 && x.moved == 0 && decide (192 ≤ entryLen x.e)
   | none => false)

/-- The load in progress is the ROM's load of the image (R160, R164, R166): LENGTH bytes from flash byte 0x100 to IRAM word 0, hashed, on
SPI_CS0 with the command, width, dummy clocks and divisor that READMODE selects. -/
def readsImage (s : State) (h : List Byte) : Bool :=
  let m := hdrMode h
  booting s && s.dev.portsUp && rb s .SPI_LDCTL 0 1 && rb s .SPI_LDCTL 0 4 &&
  rf s .SPI_LDADDR 0 23 0 == 0x100 && rf s .SPI_LDLEN 0 18 0 == hdrLen h && rn s .SPI_LDIRW 0 == 0 &&
  winCs s == 0 && rf s .SPI_WINCFG 0 5 4 == 0 && rf s .SPI_WINCFG 0 7 6 == m &&
  rn s .SPI_WINCMD 0 == (if m = 0 then 0x03 else if m = 1 then 0x3B else 0x6B) &&
  rf s .SPI_WINCFG 0 12 8 == (if m = 0 then 0 else 8) && rf s .SPI_CSCFG 0 7 0 == (if m = 0 then 3 else 0)

/-- The digest the ROM record of retention RAM holds (R167). The spec does not place it in the record, nor order its bytes: the model puts
it at the record's first byte, the digest's bytes in the order SHA-256 gives them (DESIGN CHOICE, log 130). -/
def storedDigest (s : State) : List Byte := (List.range 32).map fun i => mget (fun _ => (0 : Byte)) s.retain (0x1FC0 + i)

/-- The digest of the message in the engine. -/
def digestNow (s : State) : List Byte := sha256 s.dev.sha

/-- A reload after a wake is accepted by the stored digest (R190 step 5'). -/
def digestAccepts (s : State) : Bool := s.dev.reload && digestNow s == storedDigest s

/-- The image has been read and hashed: a reload by its digest, else check 6 (check 5 was made with the header); then the clock must be there
(R265). Which cause SAFE-hold takes where check 6 fails and the crystal is gone too is not stated: the model takes the check's (DESIGN
CHOICE, log 130). -/
def bootImage (s : State) (h : List Byte) : State :=
  if s.dev.reload && !(digestAccepts s) then reloadOver s
  else if !s.dev.reload && !(sigOk s h) then safeHoldBy s 7
  else if rb s .CLK_STAT 0 0 = false then safeHoldBy s 1
  else setDev s { s.dev with romPass := if s.dev.reload then 0x40 else 0x10 }

/-! ## Entering RUN -/

/-- The digest is stored in the ROM record (R167 step 1), in the byte order of `storedDigest` (DESIGN CHOICE, log 130). -/
def storeDigest (s : State) : State :=
  { s with retain := (List.range 32).foldl (fun m i => mset (fun _ => 0) m (0x1FC0 + i)
      ((digestNow s).getD i 0)) s.retain }

/-- The monitor ends: both ports pass to firmware (R1108). -/
def monEnd (s : State) : State := wb (stopTimer { s with mon := Mon.reset } tmrMon) .DBG_STAT 0 1 false

/-- RUN with a PMU_BOOTSTAT that says how it was entered. -/
def runAs (s : State) (how : Nat) : State :=
  monEnd (safeStop (wf (wr s .PMU_BOOTSTAT 0 (BitVec.ofNat 32 how)) .PMU_MODE 0 2 0 1))

/-- RUN is entered by the ROM (R167 steps 2-4, R190 step 5): RUN, ROMOFF, and T0 at a word of IRAM in keeper world; the jump releases the
overlay (R168, R1102). -/
def romRun (s : State) (how entry : Nat) : State :=
  let s1 := runAs s how
  let s2 := wb (setDev s1 { s1.dev with romoffGo := true }) .PMU_IMAP 0 0 true
  let t := thr s2 0
  let s3 := setThr s2 0 { t with
    st := if t.st = .halted then .halted else .running, park := .none, pc := BitVec.ofNat 16 entry, target := none, world := false }
  settleHalt (overlayOff s3 0 true) 0

/-- RUN is entered (R150, R153, R167, R190): after a fast wake at RTC_WAKEVEC, else with the digest stored and at the header's ENTRY. -/
def enterRun (s : State) : State :=
  if fastWake s then romRun s 0x20 (rn s .RTC_WAKEVEC 0)
  else romRun (storeDigest s) s.dev.romPass (hdrEntry (s.dev.hdr.getD []))

/-- The instruction that writes is fetched from ROM (R174, R272): by a thread, at a word of the overlay. -/
def fromRom (s : State) (req : Nat) : Bool := decide (req < 8) && s.dev.overlay && decide (0xC000 ≤ (thr s req).lastPc.toNat)

/-- The ROM may enter RUN: every check has passed (R163, R167), or it wakes with its IRAM (R190); not out of SAFE-hold (R170). -/
def romMayRun (s : State) : Bool := !(rb s .PMU_MODE 0 2) && (fastWake s || s.dev.romPass != 0)

/-- PMU_MODE.RUN: honoured only from ROM (R174), which writes it once its checks have passed (R167, R173). -/
def runWrite (s : State) (req : Nat) : State := if inRun s || !(fromRom s req) || !(romMayRun s) then s else enterRun s

/-! ## The rows -/

/-- NV_TWINRD (R1048). -/
def execNvTwinrd (s : State) : Host.Outcome State Fault Refusal := liveIn s .serial twinRdBoot

/-- SPI_ENTRY_DONE (R980); `data` is what a receive without READY has taken in; the ROM's read of the header brings checks 3 to 5. -/
def execSpiEntryDone (data : List Byte) (s : State) : Host.Outcome State Fault Refusal :=
  liveIn s .serial fun s =>
    let s1 := spiShow (spiApply (spiEntryDone s data))
    if readsHeader s && decide (192 ≤ data.length) then bootHeader s1 data else s1

/-- SPI_LOAD_DONE (R1003): the bytes the flash drove; fewer than SPI_LDLEN where a READY wait ended the load (R1006). The ROM's load of the
image brings check 6. -/
def execSpiLoadDone (data : List Byte) (s : State) : Host.Outcome State Fault Refusal :=
  liveIn s .serial fun s =>
    let short := decide (data.length < rf s .SPI_LDLEN 0 18 0)
    let s1 := spiShow (spiLoadEnd s data short)
    match s.dev.hdr with
    | some h => if readsImage s h && !short then bootImage s1 h else s1
    | none => s1

/-- ENTER_RUN (R174). -/
def execEnterRun (req : Nat) (s : State) : Host.Outcome State Fault Refusal :=
  writeReg s req .PMU_MODE 0 fun s => runWrite s req

end Sys2Proof.Machine
end

