-- ==== Sys2Proof/Machine/Counters.lean ====
section
/-!
DEFINITION. The event counters (chapter 22) and the disagreement timers (chapter 23).
-/
namespace Sys2Proof.Machine

/-! ## The catalogue (R1139, R1140) -/

/-- Ranges of event codes, first and last; `true` marks a row of scope K. -/
def eventCodes : List (Nat × Nat × Bool) :=
  [(0x00, 0x0D, false), (0x10, 0x15, true), (0x18, 0x19, false), (0x1A, 0x1C, true), (0x20, 0x31, false), (0x38, 0x41, false),
   (0x48, 0x53, false), (0x58, 0x5E, false), (0x60, 0x6C, false), (0x70, 0x86, false), (0x88, 0x8C, false), (0x90, 0x96, false),
   (0x98, 0x9F, false), (0xA0, 0xA0, true), (0xA8, 0xAD, true)]

/-- An event code is listed; one marked K only where `keys` permits it. -/
def eventListed (keys : Bool) (c : Nat) : Bool := eventCodes.any fun e => decide (e.1 ≤ c ∧ c ≤ e.2.1) && (keys || !e.2.2)

/-- A level code is listed (R1140). -/
def levelListed (c : Nat) : Bool := decide (0xC0 ≤ c ∧ c ≤ 0xDF)

/-- Counter `n` belongs to normal world (R1137). -/
def ctrNormal (s : State) (n : Nat) : Bool := blockWorld s (23 + n)

/-- A SEL value is valid for a counter's MODE and world (R1124, R1126, R1138, R1143). -/
def selOk (s : State) (n c : Nat) : Bool :=
  match ecMode s n with
  | 0 => eventListed (!(ctrNormal s n)) c || levelListed c
  | 1 => levelListed c
  | _ => decide (c < 0x80) && (!(ctrNormal s n) || sourceWorld s c)

/-- The level a level code names (R1140). -/
def levelOf (s : State) (c : Nat) : Bool :=
  let flag (a : Nat) : Bool := match unitFlag s a with | some f => f.2 | none => false
  if c < 0xC0 then false
  else if c < 0xC8 then (thr s (c - 0xC0)).st == .parked
  else if c < 0xD0 then (thr s (c - 0xC8)).inToll
  else match c with
    | 0xD0 => flag 0x980 | 0xD1 => flag 0x981 | 0xD2 => flag 0x982 | 0xD3 => flag 0x983 | 0xD4 => flag 0x984
    | 0xD5 => flag 0x990 | 0xD6 => flag 0x998 | 0xD7 => flag 0x9C0 | 0xD8 => flag 0x9C1 | 0xD9 => flag 0x9E1
    | 0xDA => flag 0x9F0 | 0xDB => flag 0x9B1 | 0xDC => flag 0x9B5 | 0xDD => flag 0xA01 | 0xDE => s.dev.doze
    | 0xDF => rb s .TG_STAT 0 0
    | _ => false

/-! ## Registers -/

/-- An open measurement closes without an update (R1131, R1135, R1144). -/
def ecDrop (s : State) (n : Nat) : State := wb (setCtr s n { ctr s n with opened := none }) .EC_STAT n 2 false

/-- CLR (R1135). -/
def ecClear (s : State) (n : Nat) : State := wr (wr (ecDrop s n) .EC_COUNT n 0) .EC_LAST n 0

/-- ECn_CTL commits (R1126, R1128, R1135, R1142): MODE and UNIT stay while EN is 1; EN rising takes the level as it is; a counter that stops
leaves no measurement open. -/
def ecCtl (s : State) (n : Nat) (v : Quad) : State :=
  let was := rb s .EC_CTL n 0
  let kept := if was then rd s .EC_CTL n &&& 0x1E else v &&& 0x1E
  let s1 := wr s .EC_CTL n (kept ||| (v &&& 0x21))
  let s2 := if v.getLsbD 0 = was then s1
    else if was then ecDrop s1 n
    else setCtr s1 n { ctr s1 n with frac := 0, level := levelOf s1 (rf s1 .EC_SEL n 7 0) }
  if v.getLsbD 6 then ecClear s2 n else s2

/-- ECn_SEL commits (R1126). -/
def ecSel (s : State) (n : Nat) (v : Quad) : State :=
  if rb s .EC_CTL n 0 then s
  else if selOk s n (fld v 7 0) then wr s .EC_SEL n (v &&& 0xFF)
  else wb s .EC_STAT n 1 true

/-- ECn_COUNT commits (R1134). -/
def ecCount (s : State) (n : Nat) (v : Quad) : State := wr s .EC_COUNT n v

/-- QUIESCE stops the counter (R1137, R1144). -/
def ecStop (s : State) (n : Nat) : State := ecDrop (wb s .EC_CTL n 0 false) n

/-! ## Levels (R1124, R1125) -/

/-- Whether a counter that runs watches a level code, in EVENTS or in DURATION. -/
def levelsWatched (s : State) : Bool :=
  (List.range 8).any fun n => rb s .EC_CTL n 0 && levelListed (rf s .EC_SEL n 7 0) && decide (ecMode s n ≤ 1)

/-- A counter on a level sees it on a CORE edge (R1125): in EVENTS each 0→1 change counts, in DURATION by cycles each edge with level 1. -/
def edgeLevel (s : State) (n : Nat) : State :=
  let c := rf s .EC_SEL n 7 0
  if rb s .EC_CTL n 0 && levelListed c then
    let l := levelOf s c
    match ecMode s n with
    | 0 =>
      let s1 := setCtr s n { ctr s n with level := l }
      if l && !(ctr s n).level then bump s1 n 1 else s1
    | 1 => if l && rf s .EC_CTL n 4 3 == 0 then bump s n 1 else s
    | _ => s
  else s

/-- Every counter sees its level on a CORE edge, before what that edge writes (R1128, R1142). -/
def edgeLevels (s : State) : State := if levelsWatched s then forN 8 s edgeLevel else s

/-- What one tick of the time base credits in a UNIT of the time base, with the ticks left over: a tick, whole microseconds. -/
def ecCredit (unit frac : Nat) : Nat × Nat := if unit = 1 then (1, 0) else if frac + 1 < 24 then (0, frac + 1) else (1, 0)

/-- A counter in DURATION by ticks or microseconds after one tick of the time base. -/
def tickLevel (s : State) (n : Nat) : State :=
  let c := rf s .EC_SEL n 7 0
  let unit := rf s .EC_CTL n 4 3
  if rb s .EC_CTL n 0 && ecMode s n == 1 && unit != 0 && levelOf s c then
    let r := ecCredit unit (ctr s n).frac
    let s1 := setCtr s n { ctr s n with frac := r.2 }
    if r.1 = 0 then s1 else bump s1 n r.1
  else s

/-- Every counter after one tick. -/
def tickLevels (s : State) : State := forN 8 s tickLevel

/-! ## Disagreement (R1152-R1155) -/

/-- A report of a unit's AGREE is captured. -/
def agreeReport (s : State) (u : Nat) (agree : Bool) : State :=
  if agree then stopTimer (wb s .PMU_DISAGREE 0 u false) (tmrDisagree u)
  else if rb s .PMU_DISAGREE 0 u then s
  else startTimer (wb s .PMU_DISAGREE 0 u true) (tmrDisagree u) (usTicks (atLeast1 (rn s .PMU_DISHOLD 0)))

/-- An episode has lasted DISAGREE_HOLD (R1153). -/
def disagreeHeld (s : State) (u : Nat) : State := latchEdge (occur (wb s .PMU_DISF 0 u true) 0x31 1) 33

/-! ## The rows -/

/-- COUNTER_SEL_WRITE (R1126). -/
def execCounterSelWrite (req : Nat) (n : Fin 8) (v : Byte) (s : State) : Host.Outcome State Fault Refusal :=
  writeReg s req .EC_SEL n fun s => ecSel s n.val (v.zeroExtend 32)

/-- COUNTER_COUNT_WRITE (R1134). -/
def execCounterCountWrite (req : Nat) (n : Fin 8) (v : Quad) (s : State) : Host.Outcome State Fault Refusal :=
  writeReg s req .EC_COUNT n fun s => ecCount s n.val v

/-- COUNTER_CLEAR (R1135): CLR written as 1 with the other fields as they are. -/
def execCounterClear (req : Nat) (n : Fin 8) (s : State) : Host.Outcome State Fault Refusal :=
  writeReg s req .EC_CTL n fun s => ecCtl s n.val (rd s .EC_CTL n ||| 0x40)

/-- DISAGREE_HOLD_EXPIRY (R1153, R1154): where the report of AGREE = 1 is captured on the expiry edge the episode raises nothing. -/
def execDisagreeHoldExpiry (u : Fin 11) (tie : Bool) (s : State) : Host.Outcome State Fault Refusal :=
  liveIn s .core fun s => expire s .core (tmrDisagree u) tie fun s => disagreeHeld s u.val

end Sys2Proof.Machine
end

