-- ==== Sys2Proof/Machine/Worlds.lean ====
section
/-!
DEFINITION. The Tollgate (chapter 08): TOLL budgets, the keeper reset, the locks, and the hand-over of blocks between worlds.
-/
namespace Sys2Proof.Machine

/-! ## TOLL budgets (R429, R430, R434) -/

/-- One tick of every budget that runs: inside a TOLL, in every state but HALTED. -/
def budgetTick (s : State) : State :=
  forN 8 s fun s t =>
    let th := thr s t
    match th.budget with
    | some (b + 1) => if th.inToll && th.st != .halted && !th.forced then setThr s t { th with budget := some b } else s
    | _ => s

/-- TG_TREMn: whole microseconds that remain, rounded up. -/
def tremOf (s : State) (t : Nat) : Nat := if (thr s t).inToll then ((thr s t).budget.getD 0 + 23) / 24 else 0

/-- A thread's budget expires (R434); an RTOLL that issues on the same edge wins (R253, R477). -/
def budgetExpiry (s : State) (t : Nat) (tie : Bool) : State :=
  let th := thr s t
  if th.inToll && !th.forced && th.budget == some 0 then
    if tie then occur (setThr s t { th with budget := none }) 0x08 1 else keeperHung s t false
  else s

/-! ## Keeper reset (R441) -/

/-- Quiescing has ended: no thread is inside a TOLL and every keeper-home thread is STOPPED. -/
def krstQuiet (s : State) : Bool :=
  (List.range 8).all fun t => !(thr s t).inToll && !(thr s t).forced && (homeWorld s t || (thr s t).st == .stopped)

/-- Steps 3 to 5. -/
def krstRestart (s : State) : State :=
  if rf s .TG_KRST 0 2 1 = 1 ∧ krstQuiet s = true then
    let s1 := wr (startThread s 0) .TG_STAT 0 0
    latchEdge (occur (wb (wf s1 .TG_KRST 0 2 1 0) .TG_KRST 0 3 true) 0x12 1) 21
  else s

/-! ## Locked registers (R431, R450, R1247) -/

/-- TG_KVEC and TG_BUDGET are frozen while VLOCK is 1. -/
def vlocked (s : State) : Bool := rb s .TG_CTL 0 1

/-- TG_IWM commits: value, then lock. -/
def iwmWrite (s : State) (v : Quad) : State :=
  if rb s .TG_IWM 0 7 then s else wr s .TG_IWM 0 (commitBits .TG_IWM (rd s .TG_IWM 0) v 0xFF)

/-- TG_NWM commits; `m` marks the bits of the bytes staged. -/
def nwmWrite (s : State) (v m : Quad) : State :=
  if rb s .TG_NWM 0 15 then s else wr s .TG_NWM 0 (commitBits .TG_NWM (rd s .TG_NWM 0) v m)

/-! ## What units give up -/

/-- Entries a unit has been given and has not taken return with a status and DONE 0. -/
def refuseInbox (s : State) (i : Island) (c status : Nat) (es : List Entry) : State :=
  es.foldl (fun s e => unitComplete (send s (toFabric i) (.ringAccept c)) i c e.idx status 0 0) s

/-- The Kolnex frames the port holds return, but for the one on the wire or awaiting its ACK where `force` is not set. -/
def kxCut (s : State) (status : Nat) (force : Bool) : State :=
  let keep := if force then none else match s.kx.wire, s.kx.ackWin with
    | .data i, _ => some i
    | _, w => w
  let s1 := (s.kx.held.filter fun f => !(some f.idx == keep)).foldl (fun s f => kxComplete s f status 0) s
  let s2 := setKx (refuseInbox s1 .serial s1.kx.chan status s1.kx.inbox) { s1.kx with inbox := [] }
  if force then (match s2.kx.wire with
    | .data _ => setKx s2 { s2.kx with wire := .quiet, ackWin := none }
    | _ => setKx s2 { s2.kx with ackWin := none })
  else s2

/-- The SPI port gives its entry up: the select is released. -/
def spiCut (s : State) (status : Nat) : State :=
  let s1 := endSlot (stopTimer (stopTimer s tmrReady) tmrChain) 15 status
  spiShow (spiApply (setSpi s1 { s1.spi with tr := none, begun := false, inRow := 0 }))

/-- The unit with UNIT number `u` gives up the entries of its channel with a status by its own rules (R595); `force` also cuts what is on a
wire (R463 step 2). -/
def unitCut (s : State) (u status : Nat) (force : Bool) : State :=
  match u with
  | 0 => s
  | 1 => headAbandon (setMr (refuseInbox s .print s.mr.chan status s.mr.inbox) { s.mr with inbox := [] }) status
  | 3 => if s.eth.sending && !force then s else txOver (endSlot s 3 status)
  | 13 => kxShow (kxCut s status force)
  | 15 => spiCut s status
  | _ =>
    let s1 := match s.usb.sent with
      | some (ep, _) => if epUnit ep false = some u then setUsb s { s.usb with sent := none } else s
      | none => s
    endSlot s1 u status

/-! ## Hand-over: work in progress (R461, R463) -/

/-- The unit of a hand-over block that is a unit (R1145). -/
def blockUnit (n : Nat) : Option Nat :=
  match n with | 0 => some 7 | 1 => some 8 | 2 => some 9 | 5 => some 5 | 6 => some 6 | _ => none

/-- The unit of a channel processes an entry of it. -/
def ringWork (s : State) (c : Nat) : Bool :=
  let u := rf s .RING_CFG c 4 0
  if !(rb s .RING_STAT c 0) then false
  else match u with
    | 1 => !s.mr.held.isEmpty || !s.mr.inbox.isEmpty
    | 3 => s.eth.sending || s.eth.backoff
    | 10 => (slotOf s 10).isSome
    | 12 => (slotOf s 12).isSome
    | 13 => (match s.kx.wire with | .data _ => true | _ => false) || s.kx.ackWin.isSome
    | 15 => s.spi.begun
    | 5 | 6 | 8 => (match s.usb.sent with | some (ep, _) => epUnit ep false == some u | none => false)
    | _ => false

/-- A block has work in progress (R461). -/
def hoBusy (s : State) (n : Nat) : Bool :=
  match n with
  | 0 => (uartOf s 0).shift.isSome
  | 1 => (uartOf s 1).shift.isSome
  | 2 => dstate s 9 != 3 && !(kxQuiet s)
  | 3 => s.wp.slot.isSome
  | 4 => s.spi.begun || s.spi.fill.isSome
  | 5 => dstate s 5 != 3 && s.usb.sent.isSome
  | 6 => dstate s 6 != 3 && s.eth.sending
  | _ => decide (7 ≤ n ∧ n ≤ 22) && ringWork s (n - 7)

/-- Work that must end before QUIESCE does. The SPI port ends with its current word, which its entry may go beyond (R1007). -/
def hoUnfinished (s : State) (n : Nat) : Bool := if n = 4 then s.spi.fill.isSome else hoBusy s n

/-- The unit of an enabled channel gives up what it holds of it. -/
def ringCut (s : State) (c status : Nat) : State :=
  if rb s .RING_STAT c 0 then unitCut s (rf s .RING_CFG c 4 0) status true else s

/-! ## Hand-over: RESET -/

/-- A source's RET bit is cleared and its edge booked as discarded. -/
def discardRet (s : State) (src : Nat) : State :=
  if retBit s src then
    send (dropMeasures (setIcu s { s.icu with ret := mset (fun _ => false) s.icu.ret src false }) src) 0 (.book 23 4 2 1)
  else s

/-- The pending and RET bits of a block's sources clear (R463 step 3). -/
def discardBlock (s : State) (n : Nat) : State :=
  forN 128 s fun s src => if sourceBlock src = some n then discardRet (discardEdge s src) src else s

/-- A block's registers take their reset values; the unit's state register stands till step 5. -/
def resetBlock (s : State) (n lo hi : Nat) : State :=
  match blockUnit n with
  | some u =>
    let s1 := setUnit s u 2 2
    let v := rd s1 (unitReg u).1 (unitReg u).2
    wr (resetRange s1 lo hi) (unitReg u).1 (unitReg u).2 v
  | none => resetRange s lo hi

/-- RESET of a UART; its input lines stand. -/
def uartReset (s : State) (n : Nat) : State :=
  let s1 := endSlot (endSlot s (9 + 2 * n) 3) (10 + 2 * n) 3
  resetBlock (setUart s1 n { Uart.reset with cts := (uartOf s n).cts, dsr := (uartOf s n).dsr }) n (0x3400 + 0x80 * n) (0x3480 + 0x80 * n)

/-- RESET of USB (R466, R859): the address, the pull-up and the setup bytes stay; an address that was staged is dropped with PEND. -/
def usbReset (s : State) : State :=
  let s1 := usbUnits.foldl (fun s u => endSlot s u 3) s
  let s2 := setUsb s1 { Usb.reset with addr := s.usb.addr, keepPull := s.usb.keepPull || (rb s .USB_CTL 0 0 && rb s .USB_CTL 0 1),
                                       setupKept := s.usb.setupKept }
  let s3 := wb (wr (resetBlock s2 5 0x3000 0x3100) .USB_ADDR 0 (BitVec.ofNat 32 s.usb.addr)) .USB_STAT 0 0 (rb s .USB_STAT 0 0)
  forN 8 s3 fun s' k => wr s' .USB_SETUP k (rd s .USB_SETUP k)

/-- RESET of Ethernet (R466): MDIO and REFOUT stay; NOCLK clears with the part's run from PLL C (R485, R831). -/
def ethReset (s : State) : State :=
  let s1 := endSlot (endSlot s 2 3) 3 3
  let s2 := setEth s1 { Eth.reset with mdio := s.eth.mdio }
  let s3 := wb (resetBlock s2 6 0x3200 0x3280) .ETH_MACCFG 0 5 (rb s .ETH_MACCFG 0 5)
  [Rg.ETH_MDCMD, .ETH_MDDATA, .ETH_MDPOLL].foldl (fun s' r => wr s' r 0 (rd s r 0)) s3

/-- The unit side of step 3 for a block. -/
def hoUnitReset (s : State) (n : Nat) : State :=
  match n with
  | 0 => uartReset s 0
  | 1 => uartReset s 1
  | 2 => resetBlock (kxHandover s) 2 0x3500 0x3600
  | 3 => resetRange (stopTimer (setWp s Wp.reset) tmrSlot) 0x3600 0x3800
  | 4 => spiHandover s
  | 5 => usbReset s
  | 6 => ethReset s
  | _ =>
    if n ≤ 22 then
      let s1 := ringCut s (n - 7) 3
      if ringQuiet s1 (n - 7) then ringReset s1 (n - 7) else s1
    else resetRange (setCtr s (n - 23) Counter.reset) (0xA00 + 0x20 * (n - 23)) (0xA20 + 0x20 * (n - 23))

/-- Step 3 of R463: PHASE becomes RESET. -/
def hoReset (s : State) (n : Nat) : State :=
  hoUnitReset (discardBlock (wf (stopTimer s (tmrHo n)) .TG_HO n 3 2 2) n) n

/-! ## Hand-over: the protocol -/

/-- What a block does at the request: it takes no new work; a Waypost operation ends with its slot, a counter stops. -/
def hoQuiesce (s : State) (n : Nat) : State :=
  let s1 := match blockUnit n with
    | some u => setUnit s u 2 (if dstate s u = 3 then 3 else 2)
    | none => s
  if n = 3 then wpAbort s1 else if 23 ≤ n then ecStop s1 (n - 23) else s1

/-- Steps 1 and 2 of R463, R1250. -/
def hoStart (s : State) (n : Nat) : State :=
  let s1 := hoQuiesce (wf s .TG_HO n 3 2 1) n
  if hoBusy s1 n then startTimer s1 (tmrHo n) (usTicks (atLeast1 (rn s1 .TG_HOLIMIT 0))) else hoReset s1 n

/-- REQ of a block (R462). -/
def hoRequest (s : State) (n : Nat) : State := if hoPhase s n = 0 ∧ rb s .TG_HO n 6 = false then hoStart s n else occur s 0x13 1

/-- TG_HOn commits (R462, R468, R1247): DONE, FORCED, OWNER, LOCK, then REQ judged as things stood before. -/
def hoWrite (s : State) (n : Nat) (v m : Quad) : State :=
  let x := v &&& m
  let owner := decide (7 ≤ n ∧ n ≤ 22) && !(rb s .TG_HO n 6) && !(x.getLsbD 6) &&
    (!(blockWorld s n) || hoPhase s n == 1 || hoPhase s n == 2)
  let old := rd s .TG_HO n
  let s1 := wr s .TG_HO n (commitBits .TG_HO old v (if owner then m else m &&& 0xFF))
  if x.getLsbD 1 then (if hoPhase s n = 0 ∧ rb s .TG_HO n 6 = false then hoStart s1 n else occur s1 0x13 1) else s1

/-- The work in progress is finished: TG_HOLIMIT is withdrawn and RESET follows. -/
def hoDone (s : State) (n : Nat) : State := if hoPhase s n = 1 ∧ hoUnfinished s n = false then hoReset s n else s

/-- TG_HOLIMIT cuts the work off at its next safe point (R463 step 2, R1167): a head that fires ends its sub-pulse first. -/
def hoForce (s : State) (n : Nat) : State :=
  let s1 := wb s .TG_HO n 5 true
  let s2 := if 7 ≤ n ∧ n ≤ 22 then ringCut s1 (n - 7) 3 else s1
  if 7 ≤ n ∧ n ≤ 22 ∧ hoBusy s2 n = true then s2 else hoReset s2 n

/-- Step 3 of a ring channel has ended (R598): its RESET has run, now that nothing of it is under way. -/
def hoSettle (s : State) (n : Nat) : State := if 7 ≤ n ∧ n ≤ 22 then ringReset s (n - 7) else s

/-- The write-offs of the Kolnex port have been booked (R643, R467). -/
def kxWrittenOff (s : State) : Bool :=
  !((s.xwait ++ s.xfly).any fun e => e.2.any fun x => match x with | .book 22 _ 2 _ => true | _ => false)

/-- What a block's RESET has left under way has arrived: a channel's dealings with its unit (R598), the port's write-offs (R467). -/
def hoQuiet (s : State) (n : Nat) : Bool :=
  if n = 2 then kxWrittenOff s else !(decide (7 ≤ n) && decide (n ≤ 22)) || ringQuiet s (n - 7)

/-- Steps 4 and 5 of R463: not before everything that RESET left under way has arrived. The flip may make the worlds of
channels and units unequal (R459). -/
def hoFlip (s0 : State) (n : Nat) : State :=
  if hoPhase s0 n ≠ 2 ∨ hoQuiet s0 n = false then s0
  else
    let s := hoSettle s0 n
    let w := !(blockWorld s n)
    let s1 := wb (wb (wf s .TG_HO n 3 2 0) .TG_HO n 0 w) .TG_HO n 4 true
    let s2 := if 7 ≤ n ∧ n ≤ 22 ∧ w = true ∧ rf s1 .TG_HO n 11 8 = 0 then wf s1 .TG_HO n 11 8 15 else s1
    let s3 := match blockUnit n with
      | some u => setUnit s2 u 0 0
      | none => s2
    let s4 := if n = 5 ∧ s3.usb.setupKept = true then ep0Flag (setUsb s3 { s3.usb with setupKept := false }) 3 else s3
    latchEdge (occur (forN 16 (wmisAll s4) worldsLook) 0x14 1) 23

/-! ## The rows -/

/-- TOLL_BUDGET_EXPIRY (R434). -/
def execTollBudgetExpiry (t : Fin 8) (tie : Bool) (s : State) : Host.Outcome State Fault Refusal :=
  liveIn s .core fun s => budgetExpiry s t.val tie

/-- KEEPER_RESET_REQUEST (R440). -/
def execKeeperResetRequest (req : Nat) (s : State) : Host.Outcome State Fault Refusal := writeReg s req .TG_KRST 0 krstRequest

/-- KEEPER_RESET_RESTART (R441). -/
def execKeeperResetRestart (s : State) : Host.Outcome State Fault Refusal := liveIn s .core krstRestart

/-- TOLL_VECTOR_LOCK (chapter 08, Registers). -/
def execTollVectorLock (req : Nat) (s : State) : Host.Outcome State Fault Refusal :=
  writeReg s req .TG_CTL 0 fun s => wb s .TG_CTL 0 1 true

/-- WATERMARK_LOCK (R450). -/
def execWatermarkLock (req : Nat) (nv : Bool) (s : State) : Host.Outcome State Fault Refusal :=
  if nv then writeReg s req .TG_NWM 0 fun s => wb s .TG_NWM 0 15 true
  else writeReg s req .TG_IWM 0 fun s => wb s .TG_IWM 0 7 true

/-- HANDOVER_REQUEST (R462). -/
def execHandoverRequest (req : Nat) (n : Fin 31) (s : State) : Host.Outcome State Fault Refusal :=
  writeReg s req .TG_HO n fun s => hoRequest s n.val

/-- HANDOVER_QUIESCE_DONE (R463). -/
def execHandoverQuiesceDone (n : Fin 31) (s : State) : Host.Outcome State Fault Refusal := liveIn s .core fun s => hoDone s n.val

/-- HANDOVER_FORCED (R463): where the work ends on the expiry edge it wins (R249). -/
def execHandoverForced (n : Fin 31) (tie : Bool) (s : State) : Host.Outcome State Fault Refusal :=
  liveIn s .core fun s => if hoPhase s n.val = 1 then expire s .core (tmrHo n.val) tie fun s => hoForce s n.val else s

/-- HANDOVER_FLIP (R463). -/
def execHandoverFlip (n : Fin 31) (s : State) : Host.Outcome State Fault Refusal := liveIn s .core fun s => hoFlip s n.val

/-- HANDOVER_LOCK (R468). -/
def execHandoverLock (req : Nat) (n : Fin 31) (s : State) : Host.Outcome State Fault Refusal :=
  writeReg s req .TG_HO n fun s => wb s .TG_HO n 6 true

end Sys2Proof.Machine
end

