-- ==== Sys2Proof/Machine/Access.lean ====
section
/-!
DEFINITION. Byte accesses of I/O space (chapters 00, 05, 24): the own-thread alias, holes, shadows and staging (R14-R20, R1246), what each
register reads, and what a commit of each register does. A commit calls the same operation as the register's own command.
-/
namespace Sys2Proof.Machine

/-- Who makes an access: requester, world and grant as at its issue (R243, R455, R471). -/
structure Who where
  req : Nat
  world : Bool
  grant : Nat
  deriving DecidableEq, Repr

/-- A requester as it stands now. -/
def whoNow (s : State) (req : Nat) : Who := ⟨req, reqWorld s req, reqGrant s req⟩

/-! ## Addresses -/

/-- The island in which an address lies (R1178, R1179, R29): CORE where no other island has it. -/
def addrIsland (a : Nat) : Island :=
  let within (lo hi : Nat) : Bool := decide (lo ≤ a) && decide (a < hi)
  if within 0x600 0x700 || within 0x800 0xA00 || within 0x1000 0x1400 then .fabric
  else if within 0x2000 0x2700 then .print
  else if within 0x3000 0x3200 then .usb
  else if within 0x3200 0x3400 then .eth
  else if within 0x3400 0x3700 || within 0x3800 0x3900 || within 0x3A00 0x3B00 then .serial
  else if a == 0x402 || within 0x408 0x410 || within 0x3D78 0x3D80 || within 0x3E00 0x3F00 || a == 0x3F60 then .ao
  else .core

/-- What an address reaches (R293-R295): the absolute address, and whether reads and writes are permitted in either world. A thread's alias
is unoccupied for the debug bus master. -/
def aliasOf (w : Who) (a : Nat) : Option (Nat × Bool × Bool) :=
  if a < 0x20 then (if w.req < 8 then some (0x100 + 0x20 * w.req + a, true, false) else none)
  else if 0x40 ≤ a ∧ a < 0x50 then
    (if w.req < 8 then some (0x700 + 0x10 * (2 * w.req + b01 w.world) + (a - 0x40), true, true) else none)
  else if a < 0x100 then none
  else some (a, false, false)

/-- The island an access of a requester goes to. -/
def accessIsland (w : Who) (a : Nat) : Island :=
  match aliasOf w a with
  | some x => addrIsland x.1
  | none => .core

/-! ## Values -/

/-- THRn_STAT.STATE (R301). -/
def thStateNo (x : ThState) : Nat := match x with | .stopped => 0 | .running => 1 | .parked => 2 | .stopping => 3 | .halted => 4

/-- Threads whose halt pends, as DBG_HALT reads. -/
def haltsPending (s : State) : Nat := ((List.range 8).map fun n => if (thr s n).haltPend.isSome then 2 ^ n else 0).sum

/-- The value of a register that is not simply stored, with what its read does: the lowest byte's read where the register has more (R15,
R319, R617, R851, R1107, R1248). -/
def regNow (s : State) (w : Who) (r : Rg) (i : Nat) : Quad × State :=
  let n (k : Nat) : Quad := BitVec.ofNat 32 k
  match r with
  | .THR_CTL => (0, s)
  | .THR_STAT => (n (thStateNo (thr s i).st + 8 * b01 (thr s i).inToll + 16 * b01 (thr s i).world), s)
  | .THR_PC => ((thr s i).lastPc.zeroExtend 32, s)
  | .THR_EPC => ((thr s i).epc.zeroExtend 32, s)
  | .THR_ICOUNT => ((thr s i).icount, s)
  | .ICU_SRC => (srcRead s i, s)
  | .CLK_TIME => (n s.time, s)
  | .PIN_STAT => (putFld (rd s .PIN_STAT i) 0 0 (b01 (padLevel s i)), s)
  | .UART_LINES => (n (uartLines s i), s)
  | .TG_TREM => (n (tremOf s i), s)
  | .TG_IRADDR => (rdReq s .TG_IRADDR w.req, s)
  | .TG_IRDATA => irFetch s w.req w.world
  | .WIN_STAT => (putFld (rd s .WIN_STAT i) 3 1 (thr s (i / 2)).outW, s)
  | .SEAL_PTDATA => let (b, s1) := ptRead s w.req; (b.zeroExtend 32, s1)
  | .SEAL_LTDATA => ((ltData s).zeroExtend 32, ltNext s w.req)
  | .HOP_AREQ => (rdReq s .HOP_AREQ w.req, s)
  | .HOP_ARES => hopAlloc s w.req w.world w.grant
  | .HOP_RSVDATA => (rsvRead s, s)
  | .HOP_HELDDATA => (heldRead s, s)
  | .HOP_BUFSTAT => ((bufStat s).zeroExtend 32, bufStatNext s w.req)
  | .LED_TDATA => (tdata s, tdataNext s w.req)
  | .LED_WODATA => (wodata s, wodataNext s w.req)
  | .PP_DCOOL =>
    (n (match mget (fun _ => (none : Option Nat)) s.timers (tmrCool i) with
        | some d => (d - s.time + 23999) / 24000 | none => 0), s)
  | .UART_DATA => let (b, s1) := uartPop s i; (b.zeroExtend 32, if w.req = 8 then s else s1)
  | .NVB_BUFDATA => let (b, s1) := bufRead s w.req i; (b.zeroExtend 32, s1)
  | .NV_PGSTAT => (pgStat s, pgNext s w.req)
  | .NV_MSKTYPE => (n (mskType s), s)
  | .NV_MSKDATA => let (b, s1) := mskRead s w.req; (b.zeroExtend 32, s1)
  | .NV_STAT => (putFld (putFld (rd s .NV_STAT 0) 3 3 (b01 (wpn s))) 5 4 s.nv.bp, s)
  | .RTC_RRDATAK => let (b, s1) := rrRead s w.req false; (b.zeroExtend 32, s1)
  | .RTC_RRDATAN => let (b, s1) := rrRead s w.req true; (b.zeroExtend 32, s1)
  | .DBG_STAT => (putFld (rd s .DBG_STAT 0) 2 2 (b01 (hstat s != 0)), s)
  | .DBG_HALT => (n (haltsPending s), s)
  | .DBG_HSTAT => (n (hstat s), s)
  | .DBG_REGDATA => regdataRead s
  | .DBG_PCSAMP => pcSample s
  | _ => (rd s r i, s)

/-- A higher byte without a shadow (R16): the live value, with no effect. The result register of the Hopper holds NOREQ until its lowest byte
is read. -/
def regLive (s : State) (w : Who) (r : Rg) (i : Nat) : Quad :=
  if r = .HOP_ARES then rd s r i else (regNow s w r i).1

/-! ## Commits -/

/-- What is frozen: the commit has no effect. -/
def frozen (s : State) (r : Rg) (i : Nat) : Bool :=
  limitLocked s r ||
  match r with
  | .TG_KVEC | .TG_BUDGET => vlocked s
  | .RING_CFG | .RING_BASE | .RING_CQBASE | .RING_CQCFG => rb s .RING_STAT i 0
  | .HOP_PCOUNT | .HOP_PBASE => (poolOf s i).configured
  | .MR_DOTS | .MR_GEOM => !(mgmt s 0 == 0 && dstate s 0 == 0)
  | .UART_FMT | .UART_DIV => rb s .UART_CTL i 0
  | .KX_CFG | .KX_ADDR => rb s .KX_CTL 0 0
  | .WP_CFG | .WP_OP | .WP_WLEN | .WP_RLEN | .WP_TX => rb s .WP_STAT 0 0
  | .NVB_CMD | .NVB_ADDR | .NVB_LEN | .NVB_PAGEB | .NVB_TYPE | .NVB_SEL | .NVB_IDX | .NVB_VALUE | .NVB_BUFIDX | .NVB_BUFDATA =>
    nvBusy s i
  | _ => false

/-- The generic commit (R11). -/
def commitPlain (s : State) (r : Rg) (i : Nat) (v m : Quad) : State := wr s r i (commitBits r (rd s r i) v m)

/-- The registers of CORE whose commit does more: `x` holds the bytes staged, `mv` the value with the bytes not staged as they were. -/
def commitCore (s : State) (w : Who) (r : Rg) (i : Nat) (v m x mv : Quad) : State :=
  match r with
  | .THR_CTL => ctlWrite s i x
  | .THR_WORLD => worldWrite s i x
  | .ICU_SRC => srcWrite s i v m
  | .ICU_SWORLD => sworldWrite s i x
  | .PMU_MODE =>
    let s1 := if x.getLsbD 4 then runWrite s w.req else s
    if x.getLsbD 3 && inRun s then stbyRequest s1 else s1
  | .PMU_IMAP => if x.getLsbD 0 then setDev (wb s .PMU_IMAP 0 0 true) { s.dev with romoffArmed := true } else s
  | .CLK_CTL => clkCtl s x
  | .PMU_SLOTMAP => slotWrite s mv
  | .TG_KRST =>
    let s1 := commitPlain s r i v m
    if x.getLsbD 0 then krstRequest s1 else s1
  | .TG_IWM => iwmWrite s x
  | .TG_NWM => nwmWrite s v m
  | .TG_DBGEN => dropHalts (commitPlain s r i v m)
  | .TG_IRADDR => wrReq s .TG_IRADDR w.req (commitBits .TG_IRADDR (rdReq s .TG_IRADDR w.req) v m)
  | .TG_IRDATA => irCommit s w.req w.world ((iramAt s (rdReq s .TG_IRADDR w.req).toNat &&& ~~~m) ||| x)
  | .TG_HO => hoWrite s i v m
  | .WIN_OWN => winOwnWrite s w.req i w.world w.grant v m
  | .EC_CTL => ecCtl s i x
  | .EC_SEL => ecSel s i x
  | .EC_COUNT => ecCount s i mv
  | .PIN_MUX => pinMuxWrite s i x
  | .PIN_PAD => pinPadWrite s i v m
  | .PIN_WORLD => pinWorldWrite s i x
  | .DBG_HALT => eachThread s x.toNat fun s t => haltRequest s t 1
  | .DBG_RESUME => eachThread s x.toNat resumeThread
  | .DBG_STEP => stepWrite s x
  | .DBG_REGDATA =>
    regdataWrite s ((BitVec.ofNat 32 (dbgReg s (rf s .DBG_REGSEL 0 2 0) (rf s .DBG_REGSEL 0 7 3)) &&& ~~~m) ||| x)
  | _ => commitPlain s r i v m

/-- The registers of FABRIC. -/
def commitFabric (s : State) (w : Who) (r : Rg) (i : Nat) (v m x mv : Quad) : State :=
  match r with
  | .SEAL_PTDATA => ptWrite s (x.toNat % 16)
  | .SEAL_STRICT => strictWrite s (mv &&& 0x7FFF)
  | .SEAL_REKEY =>
    let s1 := commitPlain s r i v m
    if x.getLsbD 4 then rekeyGo s1 (fld x 3 0) else s1
  | .HOP_AREQ =>
    let s1 := wrReq s .HOP_AREQ w.req (commitBits .HOP_AREQ (rdReq s .HOP_AREQ w.req) v m)
    { s1 with areq := mset (fun _ => false) s1.areq w.req true }
  | .HOP_FREE => hopFree s w.req (x.toNat % 65536) w.world w.grant
  | .HOP_RSVDATA => rsvWrite s (fld ((rsvRead s &&& ~~~m) ||| x) 12 0)
  | .HOP_PCTL => poolCtl s i x
  | .HOP_PLOW => showPool (commitPlain s r i v m) i
  | .LED_REBASE =>
    let s1 := commitPlain s r i v m
    if x.getLsbD 7 then rebaseGo s1 (fld x 4 0) else s1
  | .RING_CTL => ringCtl s i x
  | .RING_POST => ringPost s i (fld x 12 0)
  | _ => commitPlain s r i v m

/-- Each of the bits below `n` that is 1 takes its operation. -/
def eachBit (s : State) (n : Nat) (x : Quad) (f : State → Nat → State) : State := forN n s fun s k => if x.getLsbD k then f s k else s

/-- The registers of PRINT (chapters 14 and 15). -/
def commitPrint (s : State) (_w : Who) (r : Rg) (i : Nat) (v m x _mv : Quad) : State :=
  let b : Byte := BitVec.ofNat 8 x.toNat
  match r with
  | .MR_CTL =>
    let s1 := wb s .MR_CTL 0 1 (x.getLsbD 1)
    if x.getLsbD 0 then headEnable s1 else headDisable s1
  | .MR_FAULT => headClear s b
  | .MR_REQLOW => mrReq (commitPlain s r i v m)
  | .PP_FCTL =>
    let s1 := wb s .PP_FCTL 0 1 (x.getLsbD 1 && !(inRun s))
    let s2 := if x.getLsbD 0 then feedEnable s1 else feedDisable s1
    if x.getLsbD 2 then feedCtlCancel s2 else s2
  | .PP_FFAULT => feedClear s b
  | .PP_FSAFE => cutCover (feedCover (commitPlain s r i v m))
  | .PP_MOVE => feedMove s x
  | .PP_SNSCTL => eachBit s 4 x fun s k => setSensor s k { sensorOf s k with cal := true }
  | .PP_INPOL => inputPolarity s x
  | .PP_CCTL =>
    let s1 := if x.getLsbD 0 then cutEnable s else cutDisable s
    let s2 := if x.getLsbD 1 then cutGo s1 else s1
    if x.getLsbD 2 then jogGo s2 else s2
  | .PP_CFAULT => cutClear s b
  | .PP_DCTL => forN 2 s fun s k => if x.getLsbD k then drawerEnable s k else drawerDisable s k
  | .PP_DPULSE => drawerPulse s i b
  | .PP_BELLCTL => if x.getLsbD 1 then bellStop s else if x.getLsbD 0 then bellGo s else s
  | .PP_LEDMODE => ledWrite s i 0 b
  | .PP_LEDON => ledWrite s i 1 b
  | .PP_LEDOFF => ledWrite s i 2 b
  | .PP_LEDCNT => ledWrite s i 3 b
  | .PP_LEDREP => ledWrite s i 4 b
  | .ADC_SEQCTL =>
    let s1 := commitPlain s r i v m
    if x.getLsbD 1 then seqStop s1 else if x.getLsbD 0 then seqGo s1 else s1
  | _ => commitPlain s r i v m

/-- The registers of LINK (chapter 16). ARMIN and ARMOUT are judged by SETUPF as it stands before the write. -/
def commitLink (s : State) (_w : Who) (r : Rg) (i : Nat) (v m x mv : Quad) : State :=
  match r with
  | .USB_CTL =>
    let s1 := usbCtl s x
    if x.getLsbD 2 then usbRwake s1 else s1
  | .USB_STAT =>
    let s1 := if x.getLsbD 7 && rb s .USB_STAT 0 7 then usbClkClear s else s
    commitPlain s1 r i v m
  | .USB_ADDR => usbAddr s (BitVec.ofNat 8 x.toNat)
  | .USB_EP0CTL =>
    let s1 := if x.getLsbD 0 then usbArmIn s else s
    let s2 := if x.getLsbD 1 then usbArmOut s1 else s1
    let s3 := if x.getLsbD 2 then usbStall0 s2 else s2
    commitPlain s3 r i v m
  | .USB_EPCFG =>
    let s1 := wr s .USB_EPCFG i (x &&& (if i = 1 then 0x5 else 0xF))
    if x.getLsbD 4 then usbTogRst s1 (i + 1) else s1
  | .ETH_CTL => ethCtl s x
  | .ETH_MACCFG => ethMacCfg s mv
  | .ETH_MDCMD =>
    let s1 := commitPlain s r i v m
    if x.getLsbD 11 then mdioGo s1 else s1
  | .ETH_STAT =>
    let s1 := if x.getLsbD 6 && rb s .ETH_STAT 0 6 then ethClkClear s else s
    commitPlain s1 r i v m
  | _ => commitPlain s r i v m

/-- The registers of SERIAL (chapters 16 to 20). -/
def commitSerial (s : State) (w : Who) (r : Rg) (i : Nat) (v m x mv : Quad) : State :=
  let b : Byte := BitVec.ofNat 8 x.toNat
  match r with
  | .UART_CTL => uartCtl s i x
  | .UART_DATA => uartPush s i b
  | .UART_RTSHI | .UART_RTSLO => uartShow (commitPlain s r i v m) i
  | .KX_CTL => kxCtl s x
  | .KX_STAT => kxStatWrite s x
  | .WP_CTL => wpCtl s x
  | .SPI_CSCFG => spiCfgWrite s i (mv &&& 0xFFFF0FFF)
  | .SPI_WINCFG => spiShow (spiCfgWrite s 4 (mv &&& 0x1FFF))
  | .SPI_FAULT => spiFaultWrite s x
  | .SPI_CACHE => if x.getLsbD 0 then spiInvalidate s else s
  | .SPI_LDCTL => spiLdWrite s x
  | .NVB_CMD =>
    let s1 := commitPlain s r i v m
    if x.getLsbD 4 then nvGo s1 i w.req else s1
  | .NVB_BUFDATA => bufWrite s i b
  | .NV_CTL => nvCtl s x
  | .NV_MSKTYPE => mskTypeWrite s (x.toNat % 256)
  | .NV_MSKDATA => mskWrite s b
  | _ => commitPlain s r i v m

/-- The registers of AO (chapters 02, 03 and 21). -/
def commitAo (s : State) (_w : Who) (r : Rg) (i : Nat) (v m x _mv : Quad) : State :=
  let b : Byte := BitVec.ofNat 8 x.toNat
  match r with
  | .PMU_WDTCTL => if x.getLsbD 0 then wdtOn s else s
  | .PMU_WDTKICK => wdtKick s b
  | .PIN_MUX => pinMuxWrite s i x
  | .PIN_PAD => pinPadWrite s i v m
  | .PIN_WORLD => pinWorldWrite s i x
  | .RTC_SET => setDev s { s.dev with rtcSet := some x }
  | .RTC_WAKEPOL => wakeUpdate (commitPlain s r i v m)
  | .RTC_RRDATAK => rrWrite s false b
  | .RTC_RRDATAN => rrWrite s true b
  | _ => commitPlain s r i v m

/-- The commit of a register (R17, R18): `v` holds the bytes staged, 0 elsewhere, and `m` marks their bits. -/
def commitReg (s : State) (w : Who) (r : Rg) (i : Nat) (v m : Quad) : State :=
  if frozen s r i then s
  else
    let x := v &&& m
    let mv := (rd s r i &&& ~~~m) ||| x
    match regIsland r i with
    | .core => commitCore s w r i v m x mv
    | .fabric => commitFabric s w r i v m x mv
    | .print => commitPrint s w r i v m x mv
    | .usb | .eth => commitLink s w r i v m x mv
    | .serial => commitSerial s w r i v m x mv
    | .ao => commitAo s w r i v m x mv

/-! ## Bytes -/

/-- The key of a requester's shadow or staged byte at an address. -/
def reqKey (req a : Nat) : Nat := 2 ^ 20 * (req + 1) + a

/-- A permitted read of byte `k` of a register (R15, R16). -/
def readAt (s : State) (w : Who) (r : Rg) (i k : Nat) : Byte × State :=
  if k = 0 then
    let (v, s1) := regNow s w r i
    (byteOf v 0, if (regInfo r).bytes = 1 then s1 else capture s1 w.req r i v)
  else
    match mget (fun _ => (none : Option Quad)) s.shadow (reqKey w.req (regAddr r i)) with
    | some v => (byteOf v k, s)
    | none => (byteOf (regLive s w r i) k, s)

/-- The byte a requester has staged for byte `k` of a register since its last commit. -/
def stagedAt (s : State) (w : Who) (r : Rg) (i k : Nat) : Option Byte :=
  mget (fun _ => (none : Option Byte)) s.staged (reqKey w.req (regAddr r i + k))

/-- A byte is staged, or its stage emptied. -/
def stage (s : State) (w : Who) (r : Rg) (i k : Nat) (b : Option Byte) : State :=
  { s with staged := mset (fun _ => none) s.staged (reqKey w.req (regAddr r i + k)) b }

/-- The lower bytes of a commit: value and mask of what is staged, for the bytes below `n`. -/
def stagedBits (s : State) (w : Who) (r : Rg) (i : Nat) : Nat → Nat × Nat
  | 0 => (0, 0)
  | n + 1 =>
    let p := stagedBits s w r i n
    match stagedAt s w r i n with
    | some b => (p.1 + b.toNat * 256 ^ n, p.2 + 255 * 256 ^ n)
    | none => p

/-- A permitted write of byte `k` of a register (R17, R18). -/
def writeAt (s : State) (w : Who) (r : Rg) (i k : Nat) (b : Byte) : State :=
  let top := (regInfo r).bytes - 1
  if k < top then stage s w r i k (some b)
  else
    let p := stagedBits s w r i top
    let s1 := forN top s fun s j => stage s w r i j none
    commitReg s1 w r i (BitVec.ofNat 32 (p.1 + b.toNat * 256 ^ top)) (BitVec.ofNat 32 (p.2 + 255 * 256 ^ top))

/-- The run-control fields that only the debug bus master writes (R1091). -/
def runControl (r : Rg) : Bool :=
  match r with
  | .DBG_HALT | .DBG_RESUME | .DBG_STEP | .DBG_REGDATA | .DBG_BP | .DBG_WPA | .DBG_WPM | .DBG_GROUP | .DBG_ARM => true
  | _ => false

/-- A read of one byte of I/O space (R10, R15, R16, R20, R293-R295). -/
def readByte (s : State) (w : Who) (a : Nat) : Byte × State :=
  match aliasOf w a with
  | none => (0, hole s .core)
  | some (x, free, _) =>
    match findReg x with
    | none => (0, hole s (addrIsland x))
    | some (r, i, k) =>
      if !free && !(permitted s w.req r i w.world false) then (0, refuseAt s (regIsland r i) w.req x)
      else readAt s w r i k

/-- A write of one byte of I/O space (R10, R17, R18, R20, R293-R295, R1091). -/
def writeByte (s : State) (w : Who) (a : Nat) (b : Byte) : State :=
  match aliasOf w a with
  | none => hole s .core
  | some (x, _, free) =>
    if a = 0 then (if b.getLsbD 1 then stopThread s w.req else s)
    else match findReg x with
      | none => hole s (addrIsland x)
      | some (r, i, k) =>
        if runControl r && decide (w.req < 8) then s
        else if !free && !(permitted s w.req r i w.world true) then refuseAt s (regIsland r i) w.req x
        else writeAt s w r i k b

/-! ## The row -/

/-- REGISTER_WRITE (R17): one byte, taken in the island the address lies in. -/
def execRegisterWrite (req addr : Nat) (v : Byte) (s : State) : Host.Outcome State Fault Refusal :=
  liveIn s (accessIsland (whoNow s req) addr) fun s => writeByte s (whoNow s req) addr v

end Sys2Proof.Machine
end

