-- ==== Sys2Proof/Machine/Flags.lean ====
section
/-!
DEFINITION. The results of arithmetic and shifts with the C and V they write (R342, R343): exact arithmetic on numbers, narrowed once.
-/
namespace Sys2Proof.Machine

/-- ADD and ADC: result, carry out of bit 7, signed overflow. -/
def addFlags (a b : Byte) (c : Bool) : Byte × Bool × Bool :=
  let n := a.toNat + b.toNat + b01 c
  let z := a.toInt + b.toInt + b01 c
  (BitVec.ofNat 8 n, decide (256 ≤ n), decide (z < -128 ∨ 127 < z))

/-- SUB and SBC: result, borrow, signed overflow. -/
def subFlags (a b : Byte) (c : Bool) : Byte × Bool × Bool :=
  let z := a.toInt - b.toInt - b01 c
  (BitVec.ofNat 8 (a.toNat + 512 - b.toNat - b01 c), decide (a.toNat < b.toNat + b01 c), decide (z < -128 ∨ 127 < z))

/-- A shift or rotate by `k`, 0-7: the result, and the new C where `k` is not 0. -/
def shlC (a : Byte) (k : Nat) : Byte × Bool := (a <<< k, a.getLsbD (8 - k))
def shrC (a : Byte) (k : Nat) : Byte × Bool := (a >>> k, a.getLsbD (k - 1))
def sarC (a : Byte) (k : Nat) : Byte × Bool := (a.sshiftRight k, a.getLsbD (k - 1))
def rolC (a : Byte) (k : Nat) : Byte × Bool := (a.rotateLeft k, (a.rotateLeft k).getLsbD 0)
def rorC (a : Byte) (k : Nat) : Byte × Bool := (a.rotateRight k, (a.rotateRight k).getLsbD 7)

/-- The 16-bit product of MUL, unsigned or signed (R342, R1249). -/
def mulWord (a b : Byte) (sgn : Bool) : Word :=
  if sgn then BitVec.ofInt 16 (a.toInt * b.toInt) else BitVec.ofNat 16 (a.toNat * b.toNat)

/-- 1 or 0 in a register (R347, R348). -/
def flagByte (b : Bool) : Byte := if b then 1 else 0

end Sys2Proof.Machine
end

