-- ==== Sys2Proof/Machine/Operands.lean ====
section
/-!
DEFINITION. Operand forms of the Nalti instructions (chapters 05 and 06): the second operand, shift counts, the address modes of format M,
near RAM and windows.
-/
namespace Sys2Proof.Machine

/-- b: gb or imm8 (R342). -/
def opVal (th : Thread) (b : Operand) : Byte := match b with | .reg gb => getG th gb | .imm v => v

/-- The count of a shift or rotate (R343). -/
def opCount (th : Thread) (b : Operand) : Nat := (opVal th b).toNat % 8

/-- The address of format M (R334). -/
def memAddr (th : Thread) (m : MemOp) : Word :=
  match m with
  | .off pb o => getP th pb + o.signExtend 16
  | .post pb _ => getP th pb
  | .idx pb gx => getP th pb + (getG th gx).zeroExtend 16
  | .abs a => a

/-! ## Near RAM (R277-R281) -/

/-- The key of a near RAM byte for a thread in its current world; data addresses below 0x4000. -/
def nearKey (t : Nat) (world : Bool) (a : Nat) : Nat :=
  if a < 0x2000 then (2 * t + b01 world) * 0x2000 + a else 0x20000 + b01 world * 0x2000 + (a - 0x2000)

/-- A byte of near RAM. -/
def nearRead (s : State) (k : Nat) : Byte := mget (fun _ => 0) s.near k

/-- The state with a byte of near RAM written. -/
def nearWrite (s : State) (k : Nat) (b : Byte) : State := { s with near := mset (fun _ => 0) s.near k b }

/-- The state with two bytes of near RAM written, the low byte at the lower address (R281). -/
def nearWrite2 (s : State) (k : Nat) (v : Word) : State :=
  nearWrite (nearWrite s k (BitVec.ofNat 8 v.toNat)) (k + 1) (BitVec.ofNat 8 (v.toNat / 256))

/-- Two bytes of near RAM as a 16-bit value. -/
def nearRead2 (s : State) (k : Nat) : Word := (nearRead s (k + 1)).zeroExtend 16 <<< 8 ||| (nearRead s k).zeroExtend 16

/-- The even address of a 16-bit transfer (R281). -/
def evenAddr (a : Word) : Nat := a.toNat / 2 * 2

/-! ## Windows (R283-R288) -/

/-- An access of a thread through its window at a data address from 0x4000 up: far address, owner, closed, refused. -/
structure WinRef where
  far : Nat
  owner : Nat
  closed : Bool
  refused : Bool
  deriving DecidableEq, Repr

/-- What a data address reaches through the window set of the thread's current world (R283-R288). -/
def winRef (s : State) (t a : Nat) : WinRef :=
  let w := (thr s t).world
  let i := 2 * t + b01 w
  let k := a / 0x4000 - 1
  let base := rf s (match k with | 0 => .WIN_B0 | 1 => .WIN_B1 | _ => .WIN_B2) i 11 0
  let owner := rf s .WIN_OWN i (4 * k + 3) (4 * k)
  { far := (base * 4096 + a % 0x4000) % 2 ^ 24, owner := owner, closed := owner == 15,
    refused := owner != 15 && w && !(nbit (rn s .TG_GRANT t) owner) }

/-- The events of an access's issue (R285, R288). -/
def winEvents (s : State) (t : Nat) (x : WinRef) : State :=
  if x.closed then occur s 0x02 1 else if x.refused then violate s 4 t (x.far / 256) else s

/-- One more window access of a thread is outstanding (R354). -/
def winOut (s : State) (t : Nat) : State :=
  setThr s t { thr s t with outW := (thr s t).outW + 1, outKW := (thr s t).outKW + b01 (!(thr s t).world) }

/-- A window load of `n` bytes issues (R282, R354). -/
def winLoad (s : State) (t a n : Nat) (dst : Dst) : State :=
  let x := winRef s t a
  send (winOut (winEvents s t x) t) 0 (.farLoad t x.far n x.owner (thr s t).world x.closed x.refused (landing s dst))

/-- A window store issues. -/
def winStore (s : State) (t a : Nat) (bs : List Byte) : State :=
  let x := winRef s t a
  send (winOut (winEvents s t x) t) 0 (.farStore t x.far bs x.owner (thr s t).world x.closed x.refused)

end Sys2Proof.Machine
end

