-- ==== Sys2Proof/Machine/Pipeline.lean ====
section
/-!
DEFINITION. The CORE cycles (chapter 07): what the pipeline does at the end of each cycle, the ICU's view of its registers, the slot in which
a thread issues next, and the commands whose moment is a cycle: ICU commits, handler entries, the slot map's change, the forced return.
-/
namespace Sys2Proof.Machine

/-! ## Cycles -/

/-- An entry of the pipeline takes effect (R393): `e.issue` is its instruction's issue cycle. An IN's value, read in cycle 4, is written
to its register at the end of cycle 5. -/
def landEntry (s : State) (e : PipeEntry) : State :=
  match e.op with
  | .greg t r v => setThr s t (setG (thr s t) r v)
  | .preg t r v => setThr s t (setP (thr s t) r v)
  | .flags t c v => setThr s t { thr s t with c := c.getD (thr s t).c, v := v.getD (thr s t).v }
  | .setIe t endInh => setThr s t { thr s t with ie := true, inh := (thr s t).inh && !endInh }
  | .bit t a world f0 f1 g => bitLand s e.issue t a world f0 f1 g
  | .outReg req addr b world grant => writeByte s ⟨req, world, grant⟩ addr b
  | .inReg req addr r world grant =>
    let x := readByte s ⟨req, world, grant⟩ addr
    { x.2 with pipe := pipeIns ⟨e.issue, e.land + 1, .greg req r x.1⟩ x.2.pipe }

/-- What lands in the present cycle takes effect, in the order of the landings (R404). -/
def landDue (s : State) : State :=
  (s.pipe.filter fun e => decide (e.land ≤ s.cycles)).foldl landEntry
    { s with pipe := s.pipe.filter fun e => decide (s.cycles < e.land) }

/-- A committed slot map comes into force at its slot-0 cycle (R399). -/
def slotDue (s : State) : State := if s.dev.slotPend.isSome && decide (s.dev.slotAt ≤ s.cycles) then slotApply s else s

/-- One CORE cycle ends and the next begins: on the edge between them the counters see their levels (R1125). -/
def cycleStep (s : State) : State :=
  let s1 := landDue (edgeLevels s)
  slotDue { s1 with cycles := s1.cycles + 1 }

/-- `n` CORE cycles pass. -/
def cyclesPass : Nat → State → State
  | 0, s => s
  | n + 1, s => cyclesPass n (cycleStep s)

/-- The thread that the cycle's slot belongs to (R397). -/
def slotOwner (s : State) : Nat := slotThread (rd s .PMU_SLOTMAP 0) (s.cycles % 8)

/-- The state at the next slot of thread `t` in which `ready` holds, within `n` cycles, and the state in the cycle before it, in which the
slot's word is fetched (R393): the cycles before it have passed (R394, R395). -/
def nextSlot (ready : State → Nat → Bool) (t : Nat) : Nat → State → Option (State × State)
  | 0, _ => none
  | n + 1, s =>
    let s1 := cycleStep s
    if slotOwner s1 = t ∧ ready s1 t = true then some (s, s1) else nextSlot ready t n s1

/-- Cycles within which everything in the pipeline has landed, a committed slot map is in force and every slot has come once more. -/
def slotHorizon : Nat := 24

/-! ## The ICU's view (R535) -/

/-- Whether an OUT writes an ICU_SRC register (0x0200-0x02FF). -/
def icuOut (e : PipeEntry) : Bool := match e.op with | .outReg _ a .. => decide (0x200 ≤ a) && decide (a < 0x300) | _ => false

/-- The state whose ICU_SRC registers are as the ICU sees them: an OUT to one is seen from cycle 3 on, before the register's own write at
the end of cycle 3. -/
def icuView (s : State) : State := (s.pipe.filter fun e => icuOut e && decide (e.land ≤ s.cycles)).foldl landEntry s

/-- The commits of the present cycle (R537). -/
def icuCommit (s : State) : State := icuCommitBy (icuView s) s

/-! ## The rows -/

/-- ICU_COMMIT (R537). -/
def execIcuCommit (s : State) : Host.Outcome State Fault Refusal := liveIn s .core icuCommit

/-- SLOTMAP_APPLY (R399): the cycles up to the committed map's slot-0 cycle pass. -/
def execSlotmapApply (s : State) : Host.Outcome State Fault Refusal :=
  liveIn s .core fun s => if s.dev.slotPend.isSome then cyclesPass (s.dev.slotAt - s.cycles) s else s

/-- HANDLER_ENTRY (R541): in the thread's next slot. The handler's first instruction issues in the very cycle of its entry, so that cycle is
left to that instruction's own command. -/
def execHandlerEntry (t : Fin 8) (s : State) : Host.Outcome State Fault Refusal :=
  .next (match nextSlot canEnter t slotHorizon s with
    | some (_, s1) => { handlerEntry s1 t with cycles := s1.cycles - 1 }
    | none => s)

/-- FORCED_RETURN (R434): what the thread issued before has its stage times first. -/
def execForcedReturn (t : Fin 8) (s : State) : Host.Outcome State Fault Refusal :=
  liveIn s .core fun s => forcedReturn (if (thr s t).forced && s.pipe.any fun e => e.ofThread t then cyclesPass 6 s else s) t.val

end Sys2Proof.Machine
end

