-- ==== Sys2Proof/Machine/Nalti.lean ====
section
/-!
DEFINITION. The Nalti instructions (chapter 06): issue with its fetch check, traps and parks, and the meaning of each instruction. A command
names the instruction that its thread's next issue executes: it issues in the thread's next slot, and its results land in the cycles that
chapter 07 gives its distance class (R336, R393, R403).
-/
namespace Sys2Proof.Machine

/-! ## Issue -/

/-- Instructions that are forbidden in a delay slot (R365). -/
def notInSlot (i : Instr) : Bool :=
  match i with
  | .bz .. | .bnz .. | .jb .. | .jnb .. | .jmp .. | .call .. | .ret .. | .brx .. | .toll .. | .rtoll .. | .reti .. | .wait .. | .waitb .. => true
  | _ => false

/-- The major opcode of an instruction (R335). -/
def majorOf (i : Instr) : Nat := match encFields i with | some x => x.1 | none => 0

/-- A normal-world fetch of a keeper word, or of a word under the ROM overlay (R445, R446), by the watermark in force in the cycle of the
fetch (R484), `fe`. -/
def fetchRefused (fe s : State) (t : Nat) : Bool :=
  let a := (thr s t).pc.toNat
  (thr s t).world && (decide (a < iwmWord fe) || (s.dev.overlay && decide (0xC000 ≤ a)))

/-- The thread's next word issues: THRn_PC and THRn_ICOUNT, and where the thread continues (R268, R364, R379). -/
def issueBegin (s : State) (t : Nat) : State :=
  let th := thr s t
  setThr s t { th with
    lastPc := th.pc, icount := th.icount + 1, pc := th.target.getD (th.pc + 1), target := none }

/-- A step ends at the next instruction boundary (R1097). -/
def stepEnd (s : State) (t : Nat) : State :=
  let th := thr s t
  if th.stepping && th.target.isNone then setThr s t { th with stepping := false, haltPend := some 2 } else s

/-- What follows an issue: the overlay, a held stop (R310), a step's end, a pending halt. -/
def issueEnd (s : State) (t : Nat) (slot : Bool) : State := settleHalt (stepEnd (settleStop (overlayOff s t slot) t) t) t

/-- The park of a thread whose outstanding accesses have reached the limit (R355, R361); `none` where the access may issue. -/
def accessLimit (s : State) (i : Instr) : Option Park :=
  let th := thr s i.thread
  let win (m : MemOp) : Option Park :=
    if 0x4000 ≤ (memAddr th m).toNat ∧ 4 ≤ th.outW then some .limitWindow else none
  let io (m : MemOp) : Option Park :=
    if accessIsland (whoNow s i.thread) (memAddr th m).toNat ≠ .core ∧ 4 ≤ th.outX then some .limitIn else none
  match i with
  | .ld _ _ m | .st _ _ m | .ldp _ _ m | .stp _ _ m => win m
  | .inp _ _ m => io m
  | _ => none

/-- The thread parks. -/
def park (s : State) (t : Nat) (p : Park) : State := setThr s t { thr s t with st := .parked, park := p }

/-- A thread that may issue executes its next word, fetched in the cycle of `fe`, as instruction `i` with effect `op` (R331, R365, R445,
R355). -/
def issueNow (fe s : State) (i : Instr) (op : State → State) : State :=
  let t := i.thread.val
  let slot := (thr s t).target.isSome
  if fetchRefused fe s t then issueEnd (trapThread (violate (issueBegin s t) 7 t (thr s t).pc.toNat) t 0 0) t slot
  else if !i.legal then issueEnd (trapThread (issueBegin s t) t 1 (majorOf i)) t slot
  else if slot && notInSlot i then issueEnd (trapThread (issueBegin s t) t 2 (majorOf i)) t slot
  else match accessLimit s i with
    | some p => issueEnd (park s t p) t false
    | none => issueEnd (op (issueBegin s t)) t slot

/-- The states in which thread `t` fetches and issues its next instruction, in its next slot; `none` where it cannot issue. -/
def issueSlot (s : State) (t : Nat) : Option (State × State) := nextSlot canIssue t slotHorizon s

/-- The command of an instruction: nothing where its thread cannot issue. -/
def issue (s : State) (i : Instr) (op : State → State) : Host.Outcome State Fault Refusal :=
  .next (match issueSlot s i.thread with | some (fe, s1) => issueNow fe s1 i op | none => s)

/-! ## Shared effects -/

/-- A general register of a thread is written by an ALU-class instruction (R393). -/
def putG (s : State) (t r : Nat) (v : Byte) : State := later s 2 (.greg t r v)

/-- A pointer or lk of a thread is written (R393). -/
def putP (s : State) (t r : Nat) (v : Word) : State := later s 3 (.preg t r v)

/-- C and V of a thread are written as bits are (R351, R393): `none` leaves one as it is. -/
def putCV (s : State) (t : Nat) (c v : Option Bool) : State := later s 2 (.flags t c v)

/-- A register operation without flags. -/
def alu (s : State) (t : Nat) (gd ga : Fin 16) (b : Operand) (f : Byte → Byte → Byte) : State :=
  putG s t gd (f (getG (thr s t) ga) (opVal (thr s t) b))

/-- A register operation that writes C and V (R342). -/
def aluCV (s : State) (t : Nat) (gd ga : Fin 16) (b : Operand) (f : Byte → Byte → Byte × Bool × Bool) : State :=
  let r := f (getG (thr s t) ga) (opVal (thr s t) b)
  putCV (putG s t gd r.1) t (some r.2.1) (some r.2.2)

/-- A shift or rotate; a count of 0 leaves C (R342, R343). -/
def aluShift (s : State) (t : Nat) (gd ga : Fin 16) (b : Operand) (f : Byte → Nat → Byte × Bool) : State :=
  let th := thr s t
  let k := opCount th b
  let r := f (getG th ga) k
  putCV (putG s t gd r.1) t (if k = 0 then none else some r.2) none

/-- A bit instruction whose destination becomes `f` of its old value and of `s`, the source bit or its complement (R348-R350): the source
is read at the issue. -/
def bitOp (s : State) (t bd bs : Nat) (neg : Bool) (f : Bool → Bool → Bool) : State :=
  let (v, s1) := bitRead s t bs
  bitAccess s1 t bd (fun old => f old (v != neg)) none

/-- A bit instruction that writes a value whatever the bit held. -/
def bitPut (s : State) (t bd : Nat) (v : Bool) : State := bitAccess s t bd (fun _ => v) none

/-- The word address of the instruction that issues: A of chapter 06. -/
def here (s : State) (t : Nat) : Word := (thr s t).lastPc

/-- A control transfer: its delay slot at A + 1 issues next, then the target or A + 2 (R364); a transfer that T0 takes arms the release of
the ROM overlay (R168). -/
def transfer (s : State) (t : Nat) (taken : Bool) (target : Word) : State :=
  let s1 := setThr s t { thr s t with target := some (if taken then target else here s t + 2) }
  if t = 0 ∧ taken = true ∧ s.dev.romoffArmed = true then setDev s1 { s1.dev with romoffGo := true } else s1

/-- lk takes A + 2 (R363, R367). -/
def linkTo (s : State) (t : Nat) : State := putP s t 4 (here s t + 2)

/-- The MODE 1 update of a pointer (R334, R353). -/
def modeUpdate (s : State) (t : Nat) (m : MemOp) : State :=
  match m with
  | .post pb o => putP s t pb (getP (thr s t) pb + o.signExtend 16)
  | _ => s

/-! ## Loads, stores and I/O -/

/-- LD (R352): near RAM's byte is in the register from cycle 4 on. -/
def loadByte (s : State) (t r : Nat) (dst : Dst) (m : MemOp) : State :=
  let th := thr s t
  let a := (memAddr th m).toNat
  let s1 := modeUpdate s t m
  if a < 0x4000 then later s1 3 (.greg t r (nearRead s (nearKey t th.world a))) else winLoad s1 t a 1 dst

/-- ST. -/
def storeByte (s : State) (t r : Nat) (m : MemOp) : State :=
  let th := thr s t
  let a := (memAddr th m).toNat
  let s1 := modeUpdate s t m
  if a < 0x4000 then nearWrite s1 (nearKey t th.world a) (getG th r) else winStore s1 t a [getG th r]

/-- LDP (R281, R352, R353, R356): the loaded value holds over the MODE 1 update. -/
def loadWord (s : State) (t r : Nat) (dst : Dst) (m : MemOp) : State :=
  let th := thr s t
  let a := evenAddr (memAddr th m)
  let s1 := modeUpdate s t m
  if a < 0x4000 then putP s1 t r (nearRead2 s (nearKey t th.world a)) else winLoad s1 t a 2 dst

/-- STP. -/
def storeWord (s : State) (t r : Nat) (m : MemOp) : State :=
  let th := thr s t
  let a := evenAddr (memAddr th m)
  let v := getP th r
  let s1 := modeUpdate s t m
  if a < 0x4000 then nearWrite2 s1 (nearKey t th.world a) v else winStore s1 t a (leBytes 2 v.toNat)

/-- IN (R243, R359-R362): a CORE register is read in cycle 4, another island's through its crossing. -/
def inByte (s : State) (t r : Nat) (dst : Dst) (m : MemOp) : State :=
  let th := thr s t
  let a := (memAddr th m).toNat
  let s1 := modeUpdate s t m
  let w := whoNow s1 t
  let isl := accessIsland w a
  if isl = .core then later s1 4 (.inReg t a r w.world w.grant)
  else send (inOut s1 dst) (fromCore isl) (.regRead t a (landing s1 dst) w.world w.grant)

/-- OUT (R243, R359-R362): a CORE register is written at the end of cycle 3. -/
def outByte (s : State) (t r : Nat) (m : MemOp) : State :=
  let th := thr s t
  let a := (memAddr th m).toNat
  let s1 := modeUpdate s t m
  let w := whoNow s1 t
  let isl := accessIsland w a
  if isl = .core then later s1 3 (.outReg t a (getG th r) w.world w.grant)
  else send s1 (fromCore isl) (.regWrite t a (getG th r) w.world w.grant)

/-! ## System instructions -/

/-- TOLL returns at once while the keeper hangs or its reset is in progress (R438, R441). -/
def tollShut (s : State) : Bool := rb s .TG_STAT 0 0 || decide (rf s .TG_KRST 0 2 1 ≠ 0)

/-- TOLL (R371, R429, R438, R441). -/
def tollOp (s : State) (t n : Nat) : State :=
  let th := thr s t
  if th.world = false then trapThread s t 3 n
  else if tollShut s then putG s t 1 0xFF
  else
    putG (setThr s t { th with
      ret := th.pc, inToll := true, world := false, budget := some (usTicks (atLeast1 (rn s .TG_BUDGET 0))),
      pc := BitVec.ofNat 16 (rn s .TG_KVEC 0) }) t 0 (BitVec.ofNat 8 n)

/-- RTOLL (R371). -/
def rtollOp (s : State) (t : Nat) : State :=
  let th := thr s t
  if th.inToll then setThr s t { th with budget := none, world := true, inToll := false, pc := th.ret } else trapThread s t 4 6

/-- RETI (R368): IE and INH are written as bits are, and seen by the ICU from cycle 3 on (R535). -/
def retiOp (s : State) (t : Nat) : State :=
  let th := thr s t
  if th.inh then later (setThr s t { th with pc := th.epc }) 2 (.setIe t true) else trapThread s t 5 7

/-- FENCE (R368). -/
def fenceOp (s : State) (t : Nat) : State :=
  let th := thr s t
  if allLanded th then s else park s t .fence

/-- WAIT (R368, R387, R559): IE is set as a bit is written; with a delivery committed, or committed in the very cycle of the issue because IE was
already 1, the thread does not park and its handler is next. -/
def waitOp (s : State) (t : Nat) : State :=
  let s1 := later (if (thr s t).ie then icuCommit s else s) 2 (.setIe t false)
  if (thr s1 t).delivery.isSome then s1 else park s1 t .wait

/-- WAITB (R368): the bit is read once at the issue. -/
def waitbOp (s : State) (t b : Nat) (v : Bool) : State :=
  let (x, s1) := bitRead s t b
  if x = v then s1 else park s1 t (.waitb b v)

/-! ## The instructions -/

/-- TRAP (R368, R373). -/
def execTrap (t : Fin 8) (n : BitVec 8) (s : State) : Host.Outcome State Fault Refusal :=
  issue s (.trap t n) fun s => trapThread s t 0 n.toNat

/-- NOP (R368). -/
def execNop (t : Fin 8) (s : State) : Host.Outcome State Fault Refusal :=
  issue s (.nop t) fun s => s

/-- FENCE (R368). -/
def execFence (t : Fin 8) (s : State) : Host.Outcome State Fault Refusal :=
  issue s (.fence t) fun s => fenceOp s t

/-- WAIT (R368): it may be the thread's next instruction although a delivery is committed (R559). -/
def execWait (t : Fin 8) (s : State) : Host.Outcome State Fault Refusal :=
  .next (match nextSlot issues t slotHorizon s with
    | some (fe, s1) => issueNow fe s1 (.wait t) fun s => waitOp s t
    | none => s)

/-- WAITB (R368, R369). -/
def execWaitb (t : Fin 8) (bit : BitVec 12) (v : Bool) (s : State) : Host.Outcome State Fault Refusal :=
  issue s (.waitb t bit v) fun s => waitbOp s t bit.toNat v

/-- TOLL (R371). -/
def execToll (t : Fin 8) (n : BitVec 8) (s : State) : Host.Outcome State Fault Refusal :=
  issue s (.toll t n) fun s => tollOp s t n.toNat

/-- RTOLL (R371). -/
def execRtoll (t : Fin 8) (s : State) : Host.Outcome State Fault Refusal :=
  issue s (.rtoll t) fun s => rtollOp s t

/-- RETI (R368). -/
def execReti (t : Fin 8) (s : State) : Host.Outcome State Fault Refusal :=
  issue s (.reti t) fun s => retiOp s t

/-- MOV (R342). -/
def execMov (t : Fin 8) (gd ga : Fin 16) (s : State) : Host.Outcome State Fault Refusal :=
  issue s (.mov t gd ga) fun s => putG s t gd (getG (thr s t) ga)

/-- MOVI (R342). -/
def execMovi (t : Fin 8) (gd : Fin 16) (v : Byte) (s : State) : Host.Outcome State Fault Refusal :=
  issue s (.movi t gd v) fun s => putG s t gd v

/-- ADD (R342). -/
def execAdd (t : Fin 8) (gd ga : Fin 16) (b : Operand) (s : State) : Host.Outcome State Fault Refusal :=
  issue s (.add t gd ga b) fun s => aluCV s t gd ga b fun x y => addFlags x y false

/-- ADC (R342). -/
def execAdc (t : Fin 8) (gd ga : Fin 16) (b : Operand) (s : State) : Host.Outcome State Fault Refusal :=
  issue s (.adc t gd ga b) fun s => aluCV s t gd ga b fun x y => addFlags x y (thr s t).c

/-- SUB (R342). -/
def execSub (t : Fin 8) (gd ga : Fin 16) (b : Operand) (s : State) : Host.Outcome State Fault Refusal :=
  issue s (.sub t gd ga b) fun s => aluCV s t gd ga b fun x y => subFlags x y false

/-- SBC (R342). -/
def execSbc (t : Fin 8) (gd ga : Fin 16) (b : Operand) (s : State) : Host.Outcome State Fault Refusal :=
  issue s (.sbc t gd ga b) fun s => aluCV s t gd ga b fun x y => subFlags x y (thr s t).c

/-- AND (R342). -/
def execAndR (t : Fin 8) (gd ga : Fin 16) (b : Operand) (s : State) : Host.Outcome State Fault Refusal :=
  issue s (.andR t gd ga b) fun s => alu s t gd ga b fun x y => x &&& y

/-- OR (R342). -/
def execOrR (t : Fin 8) (gd ga : Fin 16) (b : Operand) (s : State) : Host.Outcome State Fault Refusal :=
  issue s (.orR t gd ga b) fun s => alu s t gd ga b fun x y => x ||| y

/-- XOR (R342). -/
def execXorR (t : Fin 8) (gd ga : Fin 16) (b : Operand) (s : State) : Host.Outcome State Fault Refusal :=
  issue s (.xorR t gd ga b) fun s => alu s t gd ga b fun x y => x ^^^ y

/-- NOT (R342). -/
def execNotR (t : Fin 8) (gd ga : Fin 16) (s : State) : Host.Outcome State Fault Refusal :=
  issue s (.notR t gd ga) fun s => putG s t gd (~~~(getG (thr s t) ga))

/-- SHL (R342, R343). -/
def execShl (t : Fin 8) (gd ga : Fin 16) (b : Operand) (s : State) : Host.Outcome State Fault Refusal :=
  issue s (.shl t gd ga b) fun s => aluShift s t gd ga b shlC

/-- SHR (R342, R343). -/
def execShr (t : Fin 8) (gd ga : Fin 16) (b : Operand) (s : State) : Host.Outcome State Fault Refusal :=
  issue s (.shr t gd ga b) fun s => aluShift s t gd ga b shrC

/-- SAR (R342, R343). -/
def execSar (t : Fin 8) (gd ga : Fin 16) (b : Operand) (s : State) : Host.Outcome State Fault Refusal :=
  issue s (.sar t gd ga b) fun s => aluShift s t gd ga b sarC

/-- ROL (R342, R343). -/
def execRol (t : Fin 8) (gd ga : Fin 16) (b : Operand) (s : State) : Host.Outcome State Fault Refusal :=
  issue s (.rol t gd ga b) fun s => aluShift s t gd ga b rolC

/-- ROR (R342, R343). -/
def execRor (t : Fin 8) (gd ga : Fin 16) (b : Operand) (s : State) : Host.Outcome State Fault Refusal :=
  issue s (.ror t gd ga b) fun s => aluShift s t gd ga b rorC

/-- MUL (R342, R345, R1249). -/
def execMul (t : Fin 8) (gd ga : Fin 16) (b : Operand) (sgn : Bool) (s : State) : Host.Outcome State Fault Refusal :=
  issue s (.mul t gd ga b sgn) fun s =>
    let p := mulWord (getG (thr s t) ga) (opVal (thr s t) b) sgn
    putG (putG s t gd (BitVec.ofNat 8 p.toNat)) t (gd.val + 1) (BitVec.ofNat 8 (p.toNat / 256))

/-- SEQ (R347). -/
def execSeq (t : Fin 8) (gd ga : Fin 16) (b : Operand) (s : State) : Host.Outcome State Fault Refusal :=
  issue s (.seq t gd ga b) fun s => alu s t gd ga b fun x y => flagByte (x == y)

/-- SNE (R347). -/
def execSne (t : Fin 8) (gd ga : Fin 16) (b : Operand) (s : State) : Host.Outcome State Fault Refusal :=
  issue s (.sne t gd ga b) fun s => alu s t gd ga b fun x y => flagByte (x != y)

/-- SLT (R347, R1249). -/
def execSlt (t : Fin 8) (gd ga : Fin 16) (b : Operand) (s : State) : Host.Outcome State Fault Refusal :=
  issue s (.slt t gd ga b) fun s => alu s t gd ga b fun x y => flagByte (BitVec.slt x y)

/-- SLTU (R347). -/
def execSltu (t : Fin 8) (gd ga : Fin 16) (b : Operand) (s : State) : Host.Outcome State Fault Refusal :=
  issue s (.sltu t gd ga b) fun s => alu s t gd ga b fun x y => flagByte (BitVec.ult x y)

/-- SGEU (R347). -/
def execSgeu (t : Fin 8) (gd ga : Fin 16) (b : Operand) (s : State) : Host.Outcome State Fault Refusal :=
  issue s (.sgeu t gd ga b) fun s => alu s t gd ga b fun x y => flagByte (!(BitVec.ult x y))

/-- SETB (R348). -/
def execSetb (t : Fin 8) (bd : BitVec 12) (s : State) : Host.Outcome State Fault Refusal :=
  issue s (.setb t bd) fun s => bitPut s t bd.toNat true

/-- CLRB (R348). -/
def execClrb (t : Fin 8) (bd : BitVec 12) (s : State) : Host.Outcome State Fault Refusal :=
  issue s (.clrb t bd) fun s => bitPut s t bd.toNat false

/-- CPLB (R348, R349). -/
def execCplb (t : Fin 8) (bd : BitVec 12) (s : State) : Host.Outcome State Fault Refusal :=
  issue s (.cplb t bd) fun s => bitAccess s t bd.toNat (fun x => !x) none

/-- MOVB (R348). -/
def execMovb (t : Fin 8) (bd bs : BitVec 12) (neg : Bool) (s : State) : Host.Outcome State Fault Refusal :=
  issue s (.movb t bd bs neg) fun s =>
    let (v, s1) := bitRead s t bs.toNat
    bitPut s1 t bd.toNat (v != neg)

/-- ANDB (R348, R349). -/
def execAndb (t : Fin 8) (bd bs : BitVec 12) (neg : Bool) (s : State) : Host.Outcome State Fault Refusal :=
  issue s (.andb t bd bs neg) fun s => bitOp s t bd.toNat bs.toNat neg fun x y => x && y

/-- ORB (R348, R349). -/
def execOrb (t : Fin 8) (bd bs : BitVec 12) (neg : Bool) (s : State) : Host.Outcome State Fault Refusal :=
  issue s (.orb t bd bs neg) fun s => bitOp s t bd.toNat bs.toNat neg fun x y => x || y

/-- XORB (R348, R349). -/
def execXorb (t : Fin 8) (bd bs : BitVec 12) (neg : Bool) (s : State) : Host.Outcome State Fault Refusal :=
  issue s (.xorb t bd bs neg) fun s => bitOp s t bd.toNat bs.toNat neg fun x y => x != y

/-- LDB (R348). -/
def execLdb (t : Fin 8) (gd : Fin 16) (bit : BitVec 12) (s : State) : Host.Outcome State Fault Refusal :=
  issue s (.ldb t gd bit) fun s =>
    let (v, s1) := bitRead s t bit.toNat
    putG s1 t gd (flagByte v)

/-- STB (R348). -/
def execStb (t : Fin 8) (bit : BitVec 12) (ga : Fin 16) (s : State) : Host.Outcome State Fault Refusal :=
  issue s (.stb t bit ga) fun s => bitPut s t bit.toNat (getG (thr s t) ga != 0)

/-- TSB (R348, R349). -/
def execTsb (t : Fin 8) (gd : Fin 16) (bit : BitVec 12) (s : State) : Host.Outcome State Fault Refusal :=
  issue s (.tsb t gd bit) fun s => bitAccess s t bit.toNat (fun _ => true) (some gd.val)

/-- LD (R352). -/
def execLd (t : Fin 8) (r : Fin 16) (m : MemOp) (s : State) : Host.Outcome State Fault Refusal :=
  issue s (.ld t r m) fun s => loadByte s t r (.greg t r) m

/-- ST (R352). -/
def execSt (t : Fin 8) (r : Fin 16) (m : MemOp) (s : State) : Host.Outcome State Fault Refusal :=
  issue s (.st t r m) fun s => storeByte s t r m

/-- LDP (R352). -/
def execLdp (t : Fin 8) (r : Fin 5) (m : MemOp) (s : State) : Host.Outcome State Fault Refusal :=
  issue s (.ldp t r m) fun s => loadWord s t r (.preg t r) m

/-- STP (R352). -/
def execStp (t : Fin 8) (r : Fin 5) (m : MemOp) (s : State) : Host.Outcome State Fault Refusal :=
  issue s (.stp t r m) fun s => storeWord s t r m

/-- PSET (R357). -/
def execPset (t : Fin 8) (r : Fin 5) (v : Word) (s : State) : Host.Outcome State Fault Refusal :=
  issue s (.pset t r v) fun s => putP s t r v

/-- PADD (R357). -/
def execPadd (t : Fin 8) (p : Fin 4) (v : BitVec 10) (s : State) : Host.Outcome State Fault Refusal :=
  issue s (.padd t p v) fun s => putP s t p (getP (thr s t) p + v.signExtend 16)

/-- PADDG (R357). -/
def execPaddg (t : Fin 8) (p : Fin 4) (ga : Fin 16) (wide sgn : Bool) (s : State) : Host.Outcome State Fault Refusal :=
  issue s (.paddg t p ga wide sgn) fun s =>
    let th := thr s t
    let lo := getG th ga
    let d : Word := if wide then BitVec.ofNat 16 (256 * (getG th (ga.val + 1)).toNat + lo.toNat)
      else if sgn then lo.signExtend 16 else lo.zeroExtend 16
    putP s t p (getP th p + d)

/-- IN (R359). -/
def execInp (t : Fin 8) (r : Fin 16) (m : MemOp) (s : State) : Host.Outcome State Fault Refusal :=
  issue s (.inp t r m) fun s => inByte s t r (.greg t r) m

/-- OUT (R359). -/
def execOut (t : Fin 8) (r : Fin 16) (m : MemOp) (s : State) : Host.Outcome State Fault Refusal :=
  issue s (.out t r m) fun s => outByte s t r m

/-- BZ (R363). -/
def execBz (t : Fin 8) (ga : Fin 16) (off : Word) (s : State) : Host.Outcome State Fault Refusal :=
  issue s (.bz t ga off) fun s => transfer s t (getG (thr s t) ga == 0) (here s t + off)

/-- BNZ (R363). -/
def execBnz (t : Fin 8) (ga : Fin 16) (off : Word) (s : State) : Host.Outcome State Fault Refusal :=
  issue s (.bnz t ga off) fun s => transfer s t (getG (thr s t) ga != 0) (here s t + off)

/-- JB (R363). -/
def execJb (t : Fin 8) (bit : BitVec 12) (off : BitVec 14) (s : State) : Host.Outcome State Fault Refusal :=
  issue s (.jb t bit off) fun s =>
    let (v, s1) := bitRead s t bit.toNat
    transfer s1 t v (here s1 t + off.signExtend 16)

/-- JNB (R363). -/
def execJnb (t : Fin 8) (bit : BitVec 12) (off : BitVec 14) (s : State) : Host.Outcome State Fault Refusal :=
  issue s (.jnb t bit off) fun s =>
    let (v, s1) := bitRead s t bit.toNat
    transfer s1 t (!v) (here s1 t + off.signExtend 16)

/-- JMP (R363). -/
def execJmp (t : Fin 8) (target : Word) (s : State) : Host.Outcome State Fault Refusal :=
  issue s (.jmp t target) fun s => transfer s t true target

/-- CALL (R363). -/
def execCall (t : Fin 8) (target : Word) (s : State) : Host.Outcome State Fault Refusal :=
  issue s (.call t target) fun s => transfer (linkTo s t) t true target

/-- RET (R363). -/
def execRet (t : Fin 8) (s : State) : Host.Outcome State Fault Refusal :=
  issue s (.ret t) fun s => transfer s t true (getP (thr s t) 4)

/-- BRX (R363). -/
def execBrx (t : Fin 8) (x : BrxForm) (link : Bool) (s : State) : Host.Outcome State Fault Refusal :=
  issue s (.brx t x link) fun s =>
    let th := thr s t
    let tgt : Word := match x with | .index ga base => base + (getG th ga).zeroExtend 16 | .pointer ps => getP th ps
    transfer (if link then linkTo s t else s) t true tgt

/-- ILLEGAL_INSTRUCTION (R331): the thread's next word is one that no instruction encodes; its trap has cause ILLEGAL. A word that an
instruction encodes is that instruction's command, and nothing here. -/
def execIllegalInstruction (t : Fin 8) (w : Quad) (s : State) : Host.Outcome State Fault Refusal :=
  .next (if (decodeWord t w).isSome then s
    else match issueSlot s t with
      | none => s
      | some (fe, s1) =>
        let slot := (thr s1 t).target.isSome
        if fetchRefused fe s1 t then issueEnd (trapThread (violate (issueBegin s1 t) 7 t (thr s1 t).pc.toNat) t 0 0) t slot
        else issueEnd (trapThread (issueBegin s1 t) t 1 (w.toNat / 2 ^ 26)) t slot)

end Sys2Proof.Machine
end

