-- ==== Sys2Proof/Machine/Debug.lean ====
section
/-!
DEFINITION. The Glogon link on RSTN, the debug bus master and the resident monitor (chapter 21).
-/
namespace Sys2Proof.Machine

/-- The state with the debug link replaced. -/
def setDbg (s : State) (d : Dbg) : State := { s with dbg := d }

/-- The state with the monitor replaced. -/
def setMon (s : State) (m : Mon) : State := { s with mon := m }

/-- Counts an event of the front end; the counters stand in CORE, which is there only while the device is awake. -/
def dbgCount (s : State) (code : Nat) : State := if s.dev.phase = .awake then count s .ao code else s

/-! ## Answers (R1080, R1082, R1083) -/

/-- A request of the link is answered: the response is to be driven, or, where PENDING has gone out for it, kept for RESULT. -/
def linkAnswer (s : State) (status : Nat) (bs : List Byte) : State :=
  let a := (status, bs)
  setDbg s { s.dbg with resp := (if s.dbg.pended then s.dbg.resp else some a), last := a, pended := false }

/-- PENDING (R1083, R1085): RESULT does not repeat it. -/
def linkPending (s : State) : State := setDbg s { s.dbg with resp := some (1, []) }

/-- A request of the monitor is answered at its port. -/
def monAnswer (s : State) (usb : Bool) (status : Nat) (bs : List Byte) : State :=
  setMon s (if usb then { s.mon with usb := some (status, bs) } else { s.mon with uart := some (status, bs) })

/-! ## The debug bus master (R1103-R1106) -/

/-- The debug bus master as a requester. -/
def dbgWho (world : Bool) : Who := ⟨8, world, 0x7FFE⟩

/-- The crossing whose captures complete an access of the debug bus master: to the island of an I/O address, FABRIC → CORE for far space. -/
def dbgCross (r : DbgRun) : Nat := if r.far then 1 else fromCore (accessIsland (dbgWho r.world) r.addr)

/-- Nothing of the command is left to do. -/
def dbgAllDone (r : DbgRun) : Bool := if r.write then r.data.isEmpty else r.left == 0

/-- The payload of a command's answer (R1086, R1089): the bytes read; nothing for a write that ends with OK, else its count. -/
def dbgPayload (r : DbgRun) (status : Nat) : List Byte :=
  if r.write = false then r.got else if status = 0 then [] else [BitVec.ofNat 8 r.got.length]

/-- The debug bus master's command ends with a status. -/
def dbgFinish (s : State) (status : Nat) : State :=
  match s.dbg.run with
  | none => s
  | some r =>
    let s1 := stopTimer (setDbg s { s.dbg with run := none }) tmrDbg
    if r.mon then monAnswer s1 r.usb status (dbgPayload r status) else linkAnswer s1 status (dbgPayload r status)

/-- An access has completed: the command goes on behind it, or ends where it failed (R1089). -/
def dbgAdvance (s : State) (status : Nat) (b : Byte) : State :=
  match s.dbg.run with
  | none => s
  | some r =>
    let s1 := stopTimer s tmrDbg
    if status ≠ 0 then dbgFinish s1 status
    else setDbg s1 { s1.dbg with run := some { r with
      addr := (r.addr + 1) % (if r.far then 2 ^ 24 else 2 ^ 16), data := r.data.drop 1, left := r.left - 1, got := r.got ++ [b] } }

/-- An I/O access of the debug bus master is refused by R1104. -/
def dbgRefused (s : State) (w : Who) (a : Nat) (write : Bool) : Bool :=
  match aliasOf w a with
  | none => false
  | some (x, _, _) =>
    match findReg x with
    | none => false
    | some (r, i, _) => !(permitted s 8 r i w.world write)

/-- An access of DBG_REGDATA that R1098 refuses: the read of its lowest byte, or its commit. -/
def regdataRefused (s : State) (a : Nat) (write : Bool) : Bool :=
  let t := thr s (rf s .DBG_REGSEL 0 2 0)
  a == regAddr .DBG_REGDATA 0 + b01 write &&
  !(selHalted s && (if write then invasive s (keeperScope t) else observing s (keeperScope t)))

/-- DENIEDF and source 61 where R1098 refuses an access, whose DBG_DENIED it counts itself (R1105). -/
def regdataDenied (s : State) : State := raise (wb s .DBG_STAT 0 3 true) .fabric 61

/-- One I/O access of the debug bus master, carried out: status, byte read, state. -/
def dbgAccess (s : State) (world : Bool) (a : Nat) (write : Option Byte) : Nat × Byte × State :=
  let w := dbgWho world
  let no := dbgRefused s w a write.isSome
  let no2 := !no && regdataRefused s a write.isSome
  let r : Byte × State := match write with
    | some b => (0, writeByte s w a b)
    | none => readByte s w a
  (if no || no2 then 5 else 0, r.1, if no2 then regdataDenied r.2 else r.2)

/-- A far access of the debug bus master passes the enables and the grant (R475, R1104); owner 15 is never permitted (R469, R522). -/
def dbgFarOk (s : State) (r : DbgRun) : Bool :=
  let keeper := !r.world || r.owner == 0
  (if r.write then invasive s keeper else observing s keeper) && !(r.world && r.owner == 0) && r.owner != 15

/-- The next access of the command goes out, or is refused at its issue. -/
def dbgIssue (s : State) (r : DbgRun) : State :=
  let b := r.data.headD 0
  let s1 := startTimer s tmrDbg (usTicks (atLeast1 (rn s .DBG_TMO 0)))
  if r.far then
    if dbgFarOk s r = false then dbgFinish (dbgDenied (violateFrom s1 .fabric 9 9 (r.addr / 256))) 5
    else farArrive s1 (if r.write then .farStore 8 r.addr [b] r.owner r.world false false
      else .farLoad 8 r.addr 1 r.owner r.world false false (landing s1 .debug))
  else send s1 (dbgCross r) (if r.write then .regWrite 8 r.addr b r.world 0x7FFE else .regRead 8 r.addr (landing s1 .debug) r.world 0x7FFE)

/-- The command goes on: accesses of CORE complete at once, any other is waited for. -/
def dbgGo : Nat → State → State
  | 0, s => s
  | n + 1, s =>
    match s.dbg.run with
    | none => s
    | some r =>
      if dbgAllDone r then dbgFinish s 0
      else if !r.far && accessIsland (dbgWho r.world) r.addr == .core then
        let x := dbgAccess s r.world r.addr (if r.write then some (r.data.headD 0) else none)
        dbgGo n (dbgAdvance x.2.2 x.1 x.2.1)
      else dbgIssue s r

/-- Accesses of the longest command, and its end. -/
def dbgFuel : Nat := 1026

/-- Completions still to come through a crossing for accesses that have been given up. -/
def staleOf (s : State) (c : Nat) : Nat := mget (fun _ => 0) s.dbg.stale c

/-- An access of the debug bus master completes through crossing `c`: one that was given up has no more effect here. -/
def dbgCaptured (s : State) (c status : Nat) (b : Byte) : State :=
  if 0 < staleOf s c then setDbg s { s.dbg with stale := mset (fun _ => 0) s.dbg.stale c (staleOf s c - 1) }
  else dbgGo dbgFuel (dbgAdvance s status b)

/-- The access in progress is given up: its completion will be passed over. -/
def dbgForsake (s : State) : State :=
  match s.dbg.run with
  | none => s
  | some r => setDbg s { s.dbg with stale := mset (fun _ => 0) s.dbg.stale (dbgCross r) (staleOf s (dbgCross r) + 1) }

/-- An access has not completed DBG_TMO after its issue (R1105, R1106). -/
def dbgTimeout (s : State) : State := if s.dbg.run.isSome then dbgFinish (dbgDenied (dbgForsake s)) 7 else s

/-- A command starts (R1088): the debug bus master takes the world its ACC names. -/
def dbgStart (s : State) (r : DbgRun) : State := dbgGo dbgFuel { setDbg s { s.dbg with run := some r } with dbgWorld := r.world }

/-- The command of a payload (R1086, R1111): ACC, address, then a count or the bytes; the monitor's count has two bytes. `none` where a
field is out of range. -/
def dbgParse (mon usb far write : Bool) (p : List Byte) : Option DbgRun :=
  let n := if far then 3 else 2
  let acc := (p.getD 0 0).toNat
  let tail := p.drop (1 + n)
  let most := if mon then 1024 else 32
  let k := if write then tail.length else leNat tail
  if p.length < 1 + n ∨ 32 ≤ acc ∨ k = 0 ∨ most < k ∨ (!write ∧ tail.length ≠ 1 + b01 mon) then none
  else some { mon := mon, usb := usb, far := far, write := write, owner := acc % 16, world := nbit acc 4,
              addr := leNat ((p.drop 1).take n), data := if write then tail else [], left := if write then 0 else k, got := [] }

/-! ## Symbols on RSTN (R1072-R1076) -/

/-- What a low on RSTN is taken for. -/
inductive Low where
  | filtered | sym (b : Bool) | mark | error | reset | ends
  deriving DecidableEq, Repr

/-- One of three, by a free value: a low in a gap is classed as the gap's row or as a row beside it (R1072). -/
def pickLow (k : Nat) (gap below above : Low) : Low := if k % 3 = 0 then gap else if k % 3 = 1 then below else above

/-- The class of a low by its width in ns (R1072); `k` decides what the table leaves open. -/
def lowClass (active : Bool) (w k : Nat) : Low :=
  let maybe : Low := if active ∨ k / 3 % 2 = 0 then .error else .reset
  if w < 200 then .filtered
  else if w < 500 then pickLow k .error .filtered (.sym false)
  else if w ≤ 1500 then .sym false
  else if w < 2500 then pickLow k .error (.sym false) (.sym true)
  else if w ≤ 3500 then .sym true
  else if w < 6000 then pickLow k .error (.sym true) .mark
  else if w ≤ 8000 then .mark
  else if w < 40000 then pickLow k .error .mark maybe
  else if w < 50000 then maybe
  else if w < 500000 then (if active then .error else .reset)
  else if active then .ends else .reset

/-- The wake pattern (R1076). -/
def wakePattern : List Bool :=
  [true, true, false, true, false, false, true, false, true, true, true, false, false, true, false, true]

/-- A symbol while the link is inactive (R1076): the next of the pattern, or the search starts again. `late`: the 1 ms limit has passed
before this low, which is then the first of a new search. -/
def wakeSymbol (s : State) (b late : Bool) : State :=
  let n := if late then 0 else s.dbg.wake
  if wakePattern[n]? ≠ some b then setDbg s { s.dbg with wake := 0 }
  else if n < 15 then setDbg s { s.dbg with wake := n + 1 }
  else wb (setDbg s { s.dbg with active := true, wake := 0 }) .DBG_STAT 0 0 true

/-! ## Frames (R1080, R1081) -/

/-- The CRC-8 of R944 over bytes. -/
def crc8 (bs : List Byte) : Nat := bs.foldl (fun v b => crcByte 8 0x07 (Nat.xor v b.toNat)) 0

/-- Eight symbols as a byte, least significant first. -/
def bitsByte (l : List Bool) : Byte := BitVec.ofNat 8 (l.foldr (fun b a => b01 b + 2 * a) 0)

/-- The bytes of a frame's symbols. -/
def frameBytes (l : List Bool) : List Byte := (List.range (l.length / 8)).map fun i => bitsByte ((l.drop (8 * i)).take 8)

/-- The debug bus master carries out a command of the link. -/
def linkRuns (s : State) : Bool := s.dbg.run.any fun r => !r.mon

/-- A frame has ended with its CRC: answered with CRC where that fails (R1081), with PENDING where a command is still pending (R1085), with
BADARG where LEN is out of range; otherwise it is the request to execute. -/
def frameDone (s : State) (bs : List Byte) : State :=
  let n := bs.length - 1
  if crc8 (bs.take n) ≠ (bs.getD n 0).toNat then
    dbgCount (setDbg s { s.dbg with resp := some (4, []), last := (4, []) }) 0xA9
  else if s.dbg.req.isSome || linkRuns s then linkPending s
  else if 40 < (bs.getD 1 0).toNat then linkAnswer s 3 []
  else setDbg s { s.dbg with req := some ((bs.getD 0 0).toNat, (bs.take n).drop 2), pended := false }

/-- A data symbol of an active link: discarded outside a frame (R1120); the last symbol of a frame ends it. -/
def dataSymbol (s : State) (b : Bool) : State :=
  match s.dbg.frame with
  | none => s
  | some l =>
    let l1 := l ++ [b]
    let bs := frameBytes l1
    if 16 ≤ l1.length ∧ l1.length = 8 * (3 + (bs.getD 1 0).toNat) then frameDone (setDbg s { s.dbg with frame := none }) bs
    else setDbg s { s.dbg with frame := some l1 }

/-- An error, or a high of more than 100 us, discards the frame and is counted (R1081). -/
def frameError (s : State) : State :=
  if s.dbg.frame.isSome then dbgCount (setDbg s { s.dbg with frame := none }) 0xA8 else s

/-- A session ends (R1077); a command in progress falls with it. -/
def endSession (s : State) : State :=
  match s.dbg.run with
  | some r => if r.mon then sessionEnd s else sessionEnd (stopTimer (dbgForsake s) tmrDbg)
  | none => sessionEnd s

/-- A low on RSTN has ended (R1072). -/
def glogonLow (s : State) (w : Nat) (late : Bool) : State :=
  let (v, s1) := freeVal s
  match lowClass s.dbg.active w v.toNat with
  | .filtered => s1
  | .reset => rstnUp (if s1.dev.rstnLow then s1 else rstnDown s1)
  | .ends => endSession s1
  | .sym b => if s.dbg.active then dataSymbol s1 b else wakeSymbol s1 b late
  | .mark => if s.dbg.active then setDbg s1 { s1.dbg with frame := some [] } else setDbg s1 { s1.dbg with wake := 0 }
  | .error => if s.dbg.active then frameError s1 else setDbg s1 { s1.dbg with wake := 0 }

/-! ## Link commands (R1086) -/

/-- The request is taken. -/
def dropReq (s : State) : State := setDbg s { s.dbg with req := none }

/-- The request in hand is executed where it is of a CMD that `is` names: ASLEEP in STANDBY but for STATUS, RESET and END (R1079). It waits while
the device is held in reset, and a bus command while the debug bus master is busy. -/
def linkRow (s : State) (is : Nat → Bool) (bus awake : Bool) (f : State → List Byte → State) : State :=
  match s.dbg.req with
  | none => s
  | some (cmd, p) =>
    if is cmd = false ∨ (bus ∧ s.dbg.run.isSome) then s
    else if s.dev.phase = .awake then f (dropReq s) p
    else if s.dev.phase = .standby then (if awake then linkAnswer (dropReq s) 8 [] else f (dropReq s) p)
    else s

/-- A command without a payload: BADARG where it has one. -/
def noPayload (f : State → State) (s : State) (p : List Byte) : State := if p.isEmpty then f s else linkAnswer s 3 []

/-- What STATUS returns (R1086). -/
def statusBytes (s : State) : List Byte :=
  leBytes 4 (rn s .DBG_ID 0) ++ [BitVec.ofNat 8 (if s.dev.phase = .standby then 0xFF else rf s .PMU_MODE 0 1 0),
    byteOf (rd s .PMU_BOOTSTAT 0) 0, byteOf (rd s .PMU_RSTCAUSE 0) 0, byteOf (rd s .TG_DBGEN 0) 0, BitVec.ofNat 8 (hstat s)]

/-- A bus command of the link. -/
def linkBus (far write : Bool) (s : State) (p : List Byte) : State :=
  match dbgParse false false far write p with
  | some r => dbgStart s r
  | none => linkAnswer s 3 []

/-- A CMD that the link does not know. -/
def badCmd (c : Nat) : Bool := !(([0x01, 0x02, 0x10, 0x11, 0x12, 0x13, 0x3E, 0x3F] : List Nat).contains c)

/-! ## The monitor (R1108-R1114) -/

/-- A session of the monitor opens (R1113) with its LED pattern (R152). -/
def monOpen (s : State) : State := statShow (wb (setMon s { s.mon with open_ := true }) .DBG_STAT 0 1 true)

/-- The session closes. -/
def monClose (s : State) : State := statShow (wb (stopTimer (setMon s { s.mon with open_ := false }) tmrMon) .DBG_STAT 0 1 false)

/-- A valid request has come: the 10 s of an open session start again (R226, R1113); on the edge on which they would end it wins (R249). -/
def monHeard (s : State) : State :=
  if s.mon.open_ then startTimer (if timerDue s tmrMon then count s .core 0x08 else s) tmrMon (msTicks 10000) else s

/-- A request of the monitor: in SAFE only, once the ROM has enabled the ports (R147, R209), on UART0 while PLL B feeds it (R265), one at a time (R1122), on UART0 with its CRC (R1109), BUSY before SAFE-hold but for STATUS (R1108). -/
def monitorRow (s : State) (usb : Bool) (cmd : Nat) (p : List Byte) (crc : Word) (f : State → State) : Host.Outcome State Fault Refusal :=
  liveIn s (if usb then .usb else .serial) fun s =>
    if inRun s ∨ s.dbg.run.isSome ∨ s.dev.portsUp = false ∨ (usb = false ∧ s.dev.onB = false) then s
    else if !usb && crc.toNat != kxCrc ([BitVec.ofNat 8 cmd] ++ leBytes 2 p.length ++ p) then monAnswer s usb 4 []
    else if 1024 < p.length then monAnswer s usb 3 []
    else if cmd = 1 then f (monHeard s)
    else if rb s .PMU_MODE 0 2 = false then monAnswer s usb 0x0B []
    else f (monHeard (monOpen s))

/-- A bus command of the monitor; on USB the response reads PENDING until it is ready (R1110). -/
def monBus (usb far write : Bool) (p : List Byte) (s : State) : State :=
  match dbgParse true usb far write p with
  | some r => dbgStart (if usb then monAnswer s true 1 [] else setMon s { s.mon with uart := none }) r
  | none => monAnswer s usb 3 []

/-- BADIMAGE with a cause. -/
def badImage (s : State) (usb : Bool) (cause : Nat) : State := monAnswer s usb 9 [BitVec.ofNat 8 cause]

/-- A reset as RSTN that keeps the answer (R1087, R1111). -/
def monReset (s : State) (usb : Bool) : State := monAnswer (resetBy s 2) usb 0 []

/-- PROVISION (R154, R1111): both pages of the boot record. -/
def provision (s : State) (usb : Bool) (p : List Byte) : State :=
  let q (k : Nat) : Nat := if recValid s k (some 1) then recSeq (nvPage s k) else 0
  let seq := 1 + max (q 0) (q 1)
  if rf s .PMU_BOOTSTAT 0 3 0 ≠ 4 then monAnswer s usb 0x0A []
  else if p.length ≠ 33 then monAnswer s usb 3 []
  else if rb s .NV_STAT 0 0 = false ∨ s.nv.run.isSome ∨ unitRuns s 10 = false ∨ nvProtected s 0 ∨ seq > 0xFFFFFFFF then monAnswer s usb 0x0B []
  else monReset (nvCommit (nvCommit s (.page 0 (recBytes 1 seq p))) (.page 1 (recBytes 1 seq p))) usb

/-- LOADHDR (R1111): check 4; the message starts with header bytes 0x00-0x7F. -/
def loadHdr (s : State) (usb : Bool) (p : List Byte) : State :=
  if p.length ≠ 256 then monAnswer s usb 3 []
  else
    let s1 := setMon s { s.mon with loaded := 0 }
    if fieldsOk p then monAnswer (loadBegin s1 p) usb 0 []
    else badImage (setDev s1 { s1.dev with hdr := none, sha := [] }) usb 3

/-- One byte of the image into IRAM (R160). -/
def imageByte (s : State) (o : Nat) (b : Byte) : State :=
  { s with iram := mset (fun _ => 0) s.iram (o / 4) (putFld (iramAt s (o / 4)) (8 * (o % 4) + 7) (8 * (o % 4)) b.toNat) }

/-- Bytes of the image from an offset on. -/
def imageBytes (s : State) (o : Nat) (bs : List Byte) : State := forN bs.length s fun s i => imageByte s (o + i) (bs.getD i 0)

/-- LOADDATA (R1111): BUSY where no header has been loaded. -/
def loadData (s : State) (usb : Bool) (p : List Byte) : State :=
  let d := p.drop 4
  match s.dev.hdr with
  | none => monAnswer s usb 0x0B []
  | some h =>
    if d.length < 4 ∨ 1016 < d.length ∨ leNat (p.take 4) ≠ s.mon.loaded ∨ hdrLen h < s.mon.loaded + d.length then monAnswer s usb 3 []
    else
      let s1 := imageBytes s s.mon.loaded d
      let s2 := if hdrLen h = s.mon.loaded + d.length then raise s1 .fabric 60 else s1
      monAnswer (setMon (setDev s2 { s2.dev with sha := s2.dev.sha ++ d }) { s2.mon with loaded := s2.mon.loaded + d.length }) usb 0 []

/-- LOADGO (R1111, R1114). -/
def loadGo (s : State) (usb : Bool) (p : List Byte) : State :=
  match s.dev.hdr with
  | none => badImage s usb (rf s .PMU_BOOTSTAT 0 3 0)
  | some h =>
    if !p.isEmpty then monAnswer s usb 3 []
    else if s.mon.loaded ≠ hdrLen h then badImage s usb (rf s .PMU_BOOTSTAT 0 3 0)
    else
      let c := imageCheck s h
      if c = 0 then monAnswer (romRun (storeDigest s) 0x10 (hdrEntry h)) usb 0 [] else badImage s usb c

/-- A command of the monitor without a payload. -/
def monPlain (usb : Bool) (p : List Byte) (f : State → State) (s : State) : State := if p.isEmpty then f s else monAnswer s usb 3 []

/-! ## The rows -/

/-- GLOGON_LOW (R1072): the width in ns; the front end works wherever VDDAO is there. -/
def execGlogonLow (width : Nat) (late : Bool) (s : State) : Host.Outcome State Fault Refusal := aoLives s fun s => glogonLow s width late

/-- GLOGON_SESSION_TIMEOUT (R1077): no valid request for 1 s. -/
def execGlogonSessionTimeout (s : State) : Host.Outcome State Fault Refusal :=
  aoLives s fun s => if s.dbg.active then endSession s else s

/-- GLOGON_FRAME_TIMEOUT (R1081). -/
def execGlogonFrameTimeout (s : State) : Host.Outcome State Fault Refusal := aoLives s frameError

/-- GLOGON_STATUS (R1086). -/
def execGlogonStatus (s : State) : Host.Outcome State Fault Refusal :=
  .next (linkRow s (· == 0x01) false false (noPayload fun s => linkAnswer s 0 (statusBytes s)))

/-- GLOGON_RESET (R1079, R1087). -/
def execGlogonReset (s : State) : Host.Outcome State Fault Refusal :=
  .next (linkRow s (· == 0x02) false false (noPayload fun s => resetBy (linkAnswer s 0 []) 2))

/-- GLOGON_RDIO (R1088). -/
def execGlogonRdio (s : State) : Host.Outcome State Fault Refusal := .next (linkRow s (· == 0x10) true true (linkBus false false))

/-- GLOGON_WRIO (R1088). -/
def execGlogonWrio (s : State) : Host.Outcome State Fault Refusal := .next (linkRow s (· == 0x11) true true (linkBus false true))

/-- GLOGON_RDFAR (R1088). -/
def execGlogonRdfar (s : State) : Host.Outcome State Fault Refusal := .next (linkRow s (· == 0x12) true true (linkBus true false))

/-- GLOGON_WRFAR (R1088). -/
def execGlogonWrfar (s : State) : Host.Outcome State Fault Refusal := .next (linkRow s (· == 0x13) true true (linkBus true true))

/-- GLOGON_END (R1077): the answer is still driven. -/
def execGlogonEnd (s : State) : Host.Outcome State Fault Refusal :=
  .next (linkRow s (· == 0x3E) false false (noPayload fun s =>
    let s1 := endSession s
    setDbg s1 { s1.dbg with resp := some (0, []), last := (0, []) }))

/-- GLOGON_RESULT (R1083). -/
def execGlogonResult (s : State) : Host.Outcome State Fault Refusal :=
  .next (linkRow s (· == 0x3F) false true (noPayload fun s => linkAnswer s s.dbg.last.1 s.dbg.last.2))

/-- GLOGON_BADCMD (R1090). -/
def execGlogonBadcmd (s : State) : Host.Outcome State Fault Refusal := .next (linkRow s badCmd false true fun s _ => linkAnswer s 2 [])

/-- GLOGON_PENDING_TIMEOUT (R1083): a request or a command of the link has no result yet. -/
def execGlogonPendingTimeout (s : State) : Host.Outcome State Fault Refusal :=
  .next (if (s.dbg.req.isSome || linkRuns s) && !s.dbg.pended then
      setDbg (linkPending s) { (linkPending s).dbg with pended := true }
    else s)

/-- GLOGON_RESPONSE (R1082): driven; with `collide` a low that the device did not drive ended it (R1084). -/
def execGlogonResponse (collide : Bool) (s : State) : Host.Outcome State Fault Refusal :=
  .next (if s.dbg.resp.isNone then s
    else
      let s1 := setDbg s { s.dbg with resp := none }
      if collide then dbgCount s1 0xAA else s1)

/-- DEBUG_ACCESS_TIMEOUT (R1106). -/
def execDebugAccessTimeout (tie : Bool) (s : State) : Host.Outcome State Fault Refusal :=
  liveIn s .fabric fun s => expire s .fabric tmrDbg tie dbgTimeout

/-- MONITOR_STATUS (R1111). -/
def execMonitorStatus (usb : Bool) (payload : List Byte) (crc : Word) (s : State) : Host.Outcome State Fault Refusal :=
  monitorRow s usb 0x01 payload crc (monPlain usb payload fun s => monAnswer s usb 0 (statusBytes s))

/-- MONITOR_RESET (R1111, R1113). -/
def execMonitorReset (usb : Bool) (payload : List Byte) (crc : Word) (s : State) : Host.Outcome State Fault Refusal :=
  monitorRow s usb 0x02 payload crc (monPlain usb payload fun s => monReset s usb)

/-- MONITOR_RDIO (R1111). -/
def execMonitorRdio (usb : Bool) (payload : List Byte) (crc : Word) (s : State) : Host.Outcome State Fault Refusal :=
  monitorRow s usb 0x10 payload crc (monBus usb false false payload)

/-- MONITOR_WRIO (R1111). -/
def execMonitorWrio (usb : Bool) (payload : List Byte) (crc : Word) (s : State) : Host.Outcome State Fault Refusal :=
  monitorRow s usb 0x11 payload crc (monBus usb false true payload)

/-- MONITOR_RDFAR (R1111). -/
def execMonitorRdfar (usb : Bool) (payload : List Byte) (crc : Word) (s : State) : Host.Outcome State Fault Refusal :=
  monitorRow s usb 0x12 payload crc (monBus usb true false payload)

/-- MONITOR_WRFAR (R1111). -/
def execMonitorWrfar (usb : Bool) (payload : List Byte) (crc : Word) (s : State) : Host.Outcome State Fault Refusal :=
  monitorRow s usb 0x13 payload crc (monBus usb true true payload)

/-- PROVISION (R1111). -/
def execProvision (usb : Bool) (payload : List Byte) (crc : Word) (s : State) : Host.Outcome State Fault Refusal :=
  monitorRow s usb 0x20 payload crc fun s => provision s usb payload

/-- LOADHDR (R1111). -/
def execLoadhdr (usb : Bool) (payload : List Byte) (crc : Word) (s : State) : Host.Outcome State Fault Refusal :=
  monitorRow s usb 0x21 payload crc fun s => loadHdr s usb payload

/-- LOADDATA (R1111). -/
def execLoaddata (usb : Bool) (payload : List Byte) (crc : Word) (s : State) : Host.Outcome State Fault Refusal :=
  monitorRow s usb 0x22 payload crc fun s => loadData s usb payload

/-- LOADGO (R1114). -/
def execLoadgo (usb : Bool) (payload : List Byte) (crc : Word) (s : State) : Host.Outcome State Fault Refusal :=
  monitorRow s usb 0x23 payload crc fun s => loadGo s usb payload

/-- MONITOR_END (R1113). -/
def execMonitorEnd (usb : Bool) (payload : List Byte) (crc : Word) (s : State) : Host.Outcome State Fault Refusal :=
  monitorRow s usb 0x3E payload crc (monPlain usb payload fun s => monAnswer (monClose s) usb 0 [])

/-- MONITOR_SESSION_TIMEOUT (R1113): 10 s without a valid request. -/
def execMonitorSessionTimeout (s : State) : Host.Outcome State Fault Refusal :=
  liveIn s .core fun s => if s.mon.open_ then expire s .core tmrMon false monClose else s

/-- MONITOR_FRAME_TIMEOUT (R1109): a gap of more than 20 ms, which the sender of the bytes keeps, discards the request that UART0 was receiving. -/
def execMonitorFrameTimeout (s : State) : Host.Outcome State Fault Refusal :=
  liveIn s .serial fun s => if inRun s ∨ s.dev.portsUp = false ∨ s.dev.onB = false then s else count s .serial 0xAD

end Sys2Proof.Machine
end

