-- ==== Sys2Proof/Machine/Crossing.lean ====
section
/-!
DEFINITION. Transfers through the crossings (chapter 04): issue, capture at the destination with what each kind of transfer does there,
and the stall.
-/
namespace Sys2Proof.Machine

/-! ## The table of R241 -/

/-- The island at the other end from CORE or FABRIC: by the pairs of the table. -/
def xFar (k : Nat) : Island :=
  match k with
  | 0 => .print | 1 => .serial | 2 => .usb | 3 => .eth | _ => .ao

/-- The island a crossing leads from. -/
def xSrc (c : Nat) : Island :=
  if c = 0 then .core else if c = 1 then .fabric
  else if c < 12 then (if c % 2 = 0 then .core else xFar (c / 2 - 1))
  else if c % 2 = 0 then .fabric else xFar (c / 2 - 6)

/-- The island a crossing leads to. -/
def xDst (c : Nat) : Island :=
  if c = 0 then .fabric else if c = 1 then .core
  else if c < 12 then (if c % 2 = 1 then .core else xFar (c / 2 - 1))
  else if c % 2 = 1 then .fabric else xFar (c / 2 - 6)

/-! ## Issue (R232, R246, R643, R644) -/

/-- What a booked transfer moves as it issues: its amount leaves its term and is in transit. -/
def issueBook (s : State) (x : Xfer) : State :=
  match x with
  | .book b src dst n => bookIssue s b src dst n
  | .ringGive ch .. => bookIssue s (4 + ch) 3 4 1
  | .ringDone ch .. => bookIssue s (4 + ch) 4 5 1
  | _ => s

/-- The state with the transfers in crossing `c` replaced. -/
def setFly (s : State) (c : Nat) (l : List Xfer) : State := { s with xfly := mset (fun _ => []) s.xfly c l }

/-- A read-window load on its way to SERIAL. -/
def isWindow (x : Xfer) : Bool := match x with | .spiLoad .. => true | _ => false

/-- 64 read-window loads have been issued into crossing 14 and are unanswered (R994). -/
def windowFull (s : State) : Bool := decide (64 ≤ s.far.wait.countP (fun e => isWindow e.x) - (xwaitOf s 14).countP isWindow)

/-- The slots of a crossing that are not free (R233): of transfers under way, and of captured ones whose acknowledge the source does not yet see
low. -/
def slotsBusy (s : State) (c : Nat) : Nat :=
  (xflyOf s c).length + (mget (fun _ => []) s.xback c).countP fun r => decide (s.cycles < r)

/-- The oldest waiting transfer that may issue takes a free slot: none while STANDBY entry is in progress (R182), no further read-window load
while 64 are unanswered (R994). -/
def crossIssue (s : State) (c : Nat) : State :=
  let held := fun x => c == 14 && isWindow x && windowFull s
  let w := xwaitOf s c
  match w.dropWhile held with
  | [] => s
  | x :: rest =>
    if s.dev.stbyReq ∨ 2 ≤ slotsBusy s c then s
    else issueBook (setFly { s with xwait := mset (fun _ => []) s.xwait c (w.takeWhile held ++ rest) } c (xflyOf s c ++ [x])) x

/-! ## Capture (R237) -/

/-- A posted write takes effect in its island (R243); the debug bus master is told how it ended. -/
def takeWrite (s : State) (c req a : Nat) (b : Byte) (world : Bool) (grant : Nat) : State :=
  if req < 8 then writeByte s ⟨req, world, grant⟩ a b
  else
    let x := dbgAccess s world a (some b)
    dbgCaptured x.2.2 c x.1 0

/-- The request of an IN is answered (R243): the value goes back to CORE. -/
def takeRead (s : State) (c req a : Nat) (dst : Landing) (world : Bool) (grant : Nat) : State :=
  if req < 8 then
    let (b, s1) := readByte s ⟨req, world, grant⟩ a
    send s1 (toCore (xDst c)) (.inReply dst b)
  else
    let x := dbgAccess s world a none
    dbgCaptured x.2.2 c x.1 x.2.1

/-- The value of an IN lands (R361, R411). -/
def takeInReply (s : State) (dst : Landing) (b : Byte) : State :=
  let s1 := landAt s dst [b]
  match dst.dst with
  | .greg t _ | .preg t _ =>
    setThr s1 t { thr s1 t with outX := (thr s1 t).outX - 1, outKX := (thr s1 t).outKX - b01 dst.keeper }
  | .debug => s1

/-- A window access of a thread is no longer outstanding (R354). -/
def winDone (s : State) (t : Nat) (keeper : Bool) : State :=
  setThr s t { thr s t with outW := (thr s t).outW - 1, outKW := (thr s t).outKW - b01 keeper }

/-- The value of a window load lands (R354, R411). A load of the debug bus master brings its status behind its byte, a store the status alone. -/
def takeFarReply (s : State) (dst : Landing) (bs : List Byte) : State :=
  match dst.dst with
  | .greg t _ | .preg t _ => winDone (landAt s dst bs) t dst.keeper
  | .debug =>
    if s.dbg.run.any fun r => r.write then dbgCaptured s 1 (bs.getD 0 0).toNat 0
    else dbgCaptured s 1 (bs.getD 1 0).toNat (bs.getD 0 0)

/-- The acceptance of a thread's store is captured (R354). -/
def takeAccepted (s : State) (req : Nat) (keeper : Bool) : State := if req < 8 then winDone s req keeper else s

/-- A unit is offered an entry of channel `ch`: Millrace and the Kolnex transmitter look at it later; any other accepts it (R644), and completes
it HANDOVER while the channel or the unit is handed over (R463, R599), ABANDONED where it takes no work (R1147). -/
def takeEntry (s : State) (ch : Nat) (e : Entry) : State :=
  let u := rf s .RING_CFG ch 4 0
  let isl := islandOfNumber u
  let s1 := send s (toFabric isl) (.ringAccept ch)
  let runs := match unitOfNumber u with | some k => unitRuns s k | none => true
  if hoPhase s (7 + ch) ≠ 0 ∨ (blockOfNumber u).any (fun b => hoPhase s b != 0) = true then unitComplete s1 isl ch e.idx 3 0 0
  else match u with
  | 1 => setMr s { s.mr with inbox := s.mr.inbox ++ [e], chan := ch }
  | 13 => setKx s { s.kx with inbox := s.kx.inbox ++ [e], chan := ch }
  | 14 => kxTakeRx s1 ch e
  | 15 => spiTake s1 ch e
  | _ =>
    if runs = false then unitComplete s1 isl ch e.idx 2 0 0
    else if u ≤ 3 then ethTake s1 u ch e
    else if u ≤ 8 then usbTake s1 u ch e
    else uartTake s1 u ch e

/-- A unit's acceptance reaches its channel (R644). -/
def takeAccept (s : State) (ch : Nat) : State :=
  bookCapture (wr s .RING_HELD ch (BitVec.ofNat 32 (rn s .RING_HELD ch + 1))) (4 + ch) 4 1

/-- Bytes of an entry have reached its unit (R586), which goes on with them. -/
def takeUnitData (s : State) (ch idx : Nat) (bs : List Byte) (bad : Bool) : State :=
  let s1 := moverData s ch idx bs bad
  match rf s .RING_CFG ch 4 0 with
  | 3 => ethLoaded s1
  | 10 => uartGo s1 0
  | 12 => uartGo s1 1
  | 13 => kxShow (kxLoaded s1 idx)
  | _ => s1

/-- A write of an entry was refused or faulted: the unit ends the entry, where it still holds it (R585). -/
def takeUnitDeny (s : State) (ch idx : Nat) : State :=
  let u := rf s .RING_CFG ch 4 0
  match slotOf s u with
  | some x => if x.chan = ch ∧ x.e.idx = idx then (if u = 15 then spiShow (spiApply (spiDrop s 7)) else endSlot s u 7) else s
  | none => s

/-- A reported movement is booked (R643); a movement to WO of the Kolnex transmit book is a write-off, whose line is recorded (R662, R663). -/
def takeBook (s : State) (b dst n : Nat) : State :=
  if b = 22 ∧ dst = 2 then woLine (bookCapture s b dst n) b 2 n else bookCapture s b dst n

/-- What a captured transfer does at the end of crossing `c`. -/
def takeXfer (s : State) (c : Nat) (x : Xfer) : State :=
  match x with
  | .regWrite req a b world grant => takeWrite s c req a b world grant
  | .regRead req a dst world grant => takeRead s c req a dst world grant
  | .inReply dst b => takeInReply s dst b
  | .farLoad .. | .farStore .. => farArrive s x
  | .farReply dst bs => takeFarReply s dst bs
  | .accepted req keeper => takeAccepted s req keeper
  | .edge src => latchEdge s src
  | .count code n => occur s code n
  | .book b _ dst n => takeBook s b dst n
  | .violation kind agent addr => violate s kind agent addr
  | .agree u v => agreeReport s u v
  | .ringGive ch idx uflags uarg frags => takeEntry s ch ⟨idx, uflags % 256, uarg, nbit uflags 8, frags⟩
  | .ringAccept ch => takeAccept s ch
  | .ringDone ch .. => unitArrive (bookCapture s (4 + ch) 5 1) x
  | .unitRead .. | .unitWrite .. => unitArrive s x
  | .unitData ch idx bs bad => takeUnitData s ch idx bs bad
  | .unitDeny ch idx => takeUnitDeny s ch idx
  | .unitLoad .. | .unitStore .. => s
  | .heatImb => if rb s .MR_FAULT 0 3 then s else headFault s 3 0x83 true
  | .ringAbort ch => unitCut s (rf s .RING_CFG ch 4 0) 2 false
  | .spiLoad req byte n dst => setSpi s { s.spi with inLoads := s.spi.inLoads ++ [⟨req, byte, n, dst⟩] }
  | .nvLoad req byte n dst => nvLoadTake s ⟨req, byte, n, dst⟩
  | .spiReply req dst bs => farSpiReply s req dst bs

/-- The handshake of a captured transfer goes on (R233): its slot is free again once the source sees the acknowledge low, after cycles the spec
does not state. -/
def slotBack (s : State) (c : Nat) : State :=
  let l := (mget (fun _ => []) s.xback c).filter fun r => decide (s.cycles < r)
  { s with xback := mset (fun _ => []) s.xback c (l ++ [s.cycles + Config.ackCycles c s.fresh]), fresh := s.fresh + 1 }

/-- The destination captures the oldest transfer (R237). -/
def crossCapture (s : State) (c : Nat) : State :=
  match xflyOf s c with
  | [] => s
  | x :: rest => takeXfer (slotBack (setFly s c rest) c) c x

/-- A transfer has been in a crossing for 64 cycles (R259): nothing is dropped. -/
def crossStall (s : State) (c : Nat) : State :=
  if (xflyOf s c).isEmpty then s
  else wr (wb (latchEdge (occur s 0x0B 1) 32) .CLK_FAIL 0 4 true) .CLK_XSTALL 0 (BitVec.ofNat 32 (c + 128))

/-! ## The rows -/

/-- CROSSING_ISSUE (R232). -/
def execCrossingIssue (id : Fin 20) (s : State) : Host.Outcome State Fault Refusal :=
  liveIn s (xSrc id.val) fun s => crossIssue s id.val

/-- CROSSING_CAPTURE (R237). -/
def execCrossingCapture (id : Fin 20) (s : State) : Host.Outcome State Fault Refusal :=
  liveIn s (xDst id.val) fun s => crossCapture s id.val

/-- CROSSING_STALL (R259). -/
def execCrossingStall (id : Fin 20) (s : State) : Host.Outcome State Fault Refusal := liveIn s .core fun s => crossStall s id.val

end Sys2Proof.Machine
end

