-- ==== Sys2Proof/Machine/Dispatch.lean ====
section
/-!
DEFINITION. The one arm per command: a direct call of its meaning.
-/
namespace Sys2Proof.Machine

/-- The effect of a command on everything but the queue. -/
def exec (i : Instr) (s : State) : Host.Outcome State Fault Refusal :=
  match i with
  | .registerWrite req addr v => Sys2Proof.Machine.execRegisterWrite req addr v s
  | .crossingIssue id => Sys2Proof.Machine.execCrossingIssue id s
  | .crossingCapture id => Sys2Proof.Machine.execCrossingCapture id s
  | .crossingStall id => Sys2Proof.Machine.execCrossingStall id s
  | .pinMuxWrite req n v => Sys2Proof.Machine.execPinMuxWrite req n v s
  | .pinWorldWrite req n v => Sys2Proof.Machine.execPinWorldWrite req n v s
  | .pinWorldLock req n => Sys2Proof.Machine.execPinWorldLock req n s
  | .pinInputChange p level => Sys2Proof.Machine.execPinInputChange p level s
  | .pinContention n => Sys2Proof.Machine.execPinContention n s
  | .aoPor => Sys2Proof.Machine.execAoPor s
  | .porRelease => Sys2Proof.Machine.execPorRelease s
  | .brownOut => Sys2Proof.Machine.execBrownOut s
  | .rstnReset => Sys2Proof.Machine.execRstnReset s
  | .rstnRelease => Sys2Proof.Machine.execRstnRelease s
  | .nearRamClearDone => Sys2Proof.Machine.execNearRamClearDone s
  | .xtalStable => Sys2Proof.Machine.execXtalStable s
  | .pllLock pll => Sys2Proof.Machine.execPllLock pll s
  | .switch req => Sys2Proof.Machine.execSwitch req s
  | .spreadChangeApply pllB => Sys2Proof.Machine.execSpreadChangeApply pllB s
  | .pllUnlock pllB => Sys2Proof.Machine.execPllUnlock pllB s
  | .pllCUnlock => Sys2Proof.Machine.execPllCUnlock s
  | .xtalFail => Sys2Proof.Machine.execXtalFail s
  | .safeFeedStart => Sys2Proof.Machine.execSafeFeedStart s
  | .safeFeedStep => Sys2Proof.Machine.execSafeFeedStep s
  | .safeFeedStop => Sys2Proof.Machine.execSafeFeedStop s
  | .safeFeedHoldEnd => Sys2Proof.Machine.execSafeFeedHoldEnd s
  | .enterRun req => Sys2Proof.Machine.execEnterRun req s
  | .romoffArm req => Sys2Proof.Machine.execRomoffArm req s
  | .dozeEntry => Sys2Proof.Machine.execDozeEntry s
  | .standbyRequest req => Sys2Proof.Machine.execStandbyRequest req s
  | .standbyCrossingsDrained => Sys2Proof.Machine.execStandbyCrossingsDrained s
  | .wakeSource src => Sys2Proof.Machine.execWakeSource src s
  | .rtcSetLoad => Sys2Proof.Machine.execRtcSetLoad s
  | .rtcTrimApply => Sys2Proof.Machine.execRtcTrimApply s
  | .rtcAlarmMatch => Sys2Proof.Machine.execRtcAlarmMatch s
  | .rtcXtalFail => Sys2Proof.Machine.execRtcXtalFail s
  | .rtcXtalRestore => Sys2Proof.Machine.execRtcXtalRestore s
  | .retentionDataAccess req normalPort wr dst => Sys2Proof.Machine.execRetentionDataAccess req normalPort wr dst s
  | .wdtEnable req => Sys2Proof.Machine.execWdtEnable req s
  | .wdtKick req v => Sys2Proof.Machine.execWdtKick req v s
  | .wdtExpiry tie => Sys2Proof.Machine.execWdtExpiry tie s
  | .threadStart req n => Sys2Proof.Machine.execThreadStart req n s
  | .threadStop req n => Sys2Proof.Machine.execThreadStop req n s
  | .threadStopped n => Sys2Proof.Machine.execThreadStopped n s
  | .threadWorldWrite req n v => Sys2Proof.Machine.execThreadWorldWrite req n v s
  | .threadWorldLock req n => Sys2Proof.Machine.execThreadWorldLock req n s
  | .windowOwnerWrite req n normal v => Sys2Proof.Machine.execWindowOwnerWrite req n normal v s
  | .iramPortRead req dst => Sys2Proof.Machine.execIramPortRead req dst s
  | .iramPortWrite req v => Sys2Proof.Machine.execIramPortWrite req v s
  | .trap t n => Sys2Proof.Machine.execTrap t n s
  | .illegalInstruction t w => Sys2Proof.Machine.execIllegalInstruction t w s
  | .nop t => Sys2Proof.Machine.execNop t s
  | .fence t => Sys2Proof.Machine.execFence t s
  | .wait t => Sys2Proof.Machine.execWait t s
  | .waitb t bit v => Sys2Proof.Machine.execWaitb t bit v s
  | .parkRelease t => Sys2Proof.Machine.execParkRelease t s
  | .toll t n => Sys2Proof.Machine.execToll t n s
  | .rtoll t => Sys2Proof.Machine.execRtoll t s
  | .reti t => Sys2Proof.Machine.execReti t s
  | .mov t gd ga => Sys2Proof.Machine.execMov t gd ga s
  | .movi t gd v => Sys2Proof.Machine.execMovi t gd v s
  | .add t gd ga b => Sys2Proof.Machine.execAdd t gd ga b s
  | .adc t gd ga b => Sys2Proof.Machine.execAdc t gd ga b s
  | .sub t gd ga b => Sys2Proof.Machine.execSub t gd ga b s
  | .sbc t gd ga b => Sys2Proof.Machine.execSbc t gd ga b s
  | .andR t gd ga b => Sys2Proof.Machine.execAndR t gd ga b s
  | .orR t gd ga b => Sys2Proof.Machine.execOrR t gd ga b s
  | .xorR t gd ga b => Sys2Proof.Machine.execXorR t gd ga b s
  | .notR t gd ga => Sys2Proof.Machine.execNotR t gd ga s
  | .shl t gd ga b => Sys2Proof.Machine.execShl t gd ga b s
  | .shr t gd ga b => Sys2Proof.Machine.execShr t gd ga b s
  | .sar t gd ga b => Sys2Proof.Machine.execSar t gd ga b s
  | .rol t gd ga b => Sys2Proof.Machine.execRol t gd ga b s
  | .ror t gd ga b => Sys2Proof.Machine.execRor t gd ga b s
  | .mul t gd ga b sgn => Sys2Proof.Machine.execMul t gd ga b sgn s
  | .seq t gd ga b => Sys2Proof.Machine.execSeq t gd ga b s
  | .sne t gd ga b => Sys2Proof.Machine.execSne t gd ga b s
  | .slt t gd ga b => Sys2Proof.Machine.execSlt t gd ga b s
  | .sltu t gd ga b => Sys2Proof.Machine.execSltu t gd ga b s
  | .sgeu t gd ga b => Sys2Proof.Machine.execSgeu t gd ga b s
  | .setb t bd => Sys2Proof.Machine.execSetb t bd s
  | .clrb t bd => Sys2Proof.Machine.execClrb t bd s
  | .cplb t bd => Sys2Proof.Machine.execCplb t bd s
  | .movb t bd bs neg => Sys2Proof.Machine.execMovb t bd bs neg s
  | .andb t bd bs neg => Sys2Proof.Machine.execAndb t bd bs neg s
  | .orb t bd bs neg => Sys2Proof.Machine.execOrb t bd bs neg s
  | .xorb t bd bs neg => Sys2Proof.Machine.execXorb t bd bs neg s
  | .ldb t gd bit => Sys2Proof.Machine.execLdb t gd bit s
  | .stb t bit ga => Sys2Proof.Machine.execStb t bit ga s
  | .tsb t gd bit => Sys2Proof.Machine.execTsb t gd bit s
  | .ld t r m => Sys2Proof.Machine.execLd t r m s
  | .st t r m => Sys2Proof.Machine.execSt t r m s
  | .ldp t r m => Sys2Proof.Machine.execLdp t r m s
  | .stp t r m => Sys2Proof.Machine.execStp t r m s
  | .pset t r v => Sys2Proof.Machine.execPset t r v s
  | .padd t p v => Sys2Proof.Machine.execPadd t p v s
  | .paddg t p ga wide sgn => Sys2Proof.Machine.execPaddg t p ga wide sgn s
  | .inp t r m => Sys2Proof.Machine.execInp t r m s
  | .out t r m => Sys2Proof.Machine.execOut t r m s
  | .bz t ga off => Sys2Proof.Machine.execBz t ga off s
  | .bnz t ga off => Sys2Proof.Machine.execBnz t ga off s
  | .jb t bit off => Sys2Proof.Machine.execJb t bit off s
  | .jnb t bit off => Sys2Proof.Machine.execJnb t bit off s
  | .jmp t target => Sys2Proof.Machine.execJmp t target s
  | .call t target => Sys2Proof.Machine.execCall t target s
  | .ret t => Sys2Proof.Machine.execRet t s
  | .brx t x link => Sys2Proof.Machine.execBrx t x link s
  | .storeAccept => Sys2Proof.Machine.execStoreAccept s
  | .slotmapWrite req v => Sys2Proof.Machine.execSlotmapWrite req v s
  | .slotmapApply => Sys2Proof.Machine.execSlotmapApply s
  | .icuCommit => Sys2Proof.Machine.execIcuCommit s
  | .handlerEntry t => Sys2Proof.Machine.execHandlerEntry t s
  | .icuSwlock req => Sys2Proof.Machine.execIcuSwlock req s
  | .tollBudgetExpiry t tie => Sys2Proof.Machine.execTollBudgetExpiry t tie s
  | .forcedReturn t => Sys2Proof.Machine.execForcedReturn t s
  | .keeperResetRequest req => Sys2Proof.Machine.execKeeperResetRequest req s
  | .keeperResetRestart => Sys2Proof.Machine.execKeeperResetRestart s
  | .tollVectorLock req => Sys2Proof.Machine.execTollVectorLock req s
  | .watermarkLock req nv => Sys2Proof.Machine.execWatermarkLock req nv s
  | .handoverRequest req n => Sys2Proof.Machine.execHandoverRequest req n s
  | .handoverQuiesceDone n => Sys2Proof.Machine.execHandoverQuiesceDone n s
  | .handoverForced n tie => Sys2Proof.Machine.execHandoverForced n tie s
  | .handoverFlip n => Sys2Proof.Machine.execHandoverFlip n s
  | .handoverLock req n => Sys2Proof.Machine.execHandoverLock req n s
  | .pageOwnerWrite req v => Sys2Proof.Machine.execPageOwnerWrite req v s
  | .pageTableRead req dst => Sys2Proof.Machine.execPageTableRead req dst s
  | .keysReady => Sys2Proof.Machine.execKeysReady s
  | .trngFail => Sys2Proof.Machine.execTrngFail s
  | .rekeyRequest req owner => Sys2Proof.Machine.execRekeyRequest req owner s
  | .rekeyDone => Sys2Proof.Machine.execRekeyDone s
  | .lineTagRead req dst => Sys2Proof.Machine.execLineTagRead req dst s
  | .ringEnable req ch => Sys2Proof.Machine.execRingEnable req ch s
  | .ringStop req ch => Sys2Proof.Machine.execRingStop req ch s
  | .ringAbort req ch => Sys2Proof.Machine.execRingAbort req ch s
  | .ringPost req ch count => Sys2Proof.Machine.execRingPost req ch count s
  | .ringFetch ch => Sys2Proof.Machine.execRingFetch ch s
  | .ringCompletion ch => Sys2Proof.Machine.execRingCompletion ch s
  | .ringCqRetry ch => Sys2Proof.Machine.execRingCqRetry ch s
  | .poolEnable req p => Sys2Proof.Machine.execPoolEnable req p s
  | .poolPlacementDone p => Sys2Proof.Machine.execPoolPlacementDone p s
  | .poolDisable req p => Sys2Proof.Machine.execPoolDisable req p s
  | .allocate req dst => Sys2Proof.Machine.execAllocate req dst s
  | .free req h => Sys2Proof.Machine.execFree req h s
  | .reservationWrite req v => Sys2Proof.Machine.execReservationWrite req v s
  | .bufferStatusRead req dst => Sys2Proof.Machine.execBufferStatusRead req dst s
  | .bookSettle b tie => Sys2Proof.Machine.execBookSettle b tie s
  | .bookUnsettled b tie => Sys2Proof.Machine.execBookUnsettled b tie s
  | .rebase req b => Sys2Proof.Machine.execRebase req b s
  | .termRead req dst => Sys2Proof.Machine.execTermRead req dst s
  | .writeoffLogRead req dst => Sys2Proof.Machine.execWriteoffLogRead req dst s
  | .millraceEnable req => Sys2Proof.Machine.execMillraceEnable req s
  | .millraceDisable req => Sys2Proof.Machine.execMillraceDisable req s
  | .millraceEntryAccept => Sys2Proof.Machine.execMillraceEntryAccept s
  | .millraceRowLanded => Sys2Proof.Machine.execMillraceRowLanded s
  | .millraceShiftDone => Sys2Proof.Machine.execMillraceShiftDone s
  | .lineStart => Sys2Proof.Machine.execLineStart s
  | .scheduleEnd => Sys2Proof.Machine.execScheduleEnd s
  | .millraceLatch => Sys2Proof.Machine.execMillraceLatch s
  | .millracePhaseStart => Sys2Proof.Machine.execMillracePhaseStart s
  | .millracePhaseEnd => Sys2Proof.Machine.execMillracePhaseEnd s
  | .headPowerDelayEnd => Sys2Proof.Machine.execHeadPowerDelayEnd s
  | .millraceIdleAdcRequest => Sys2Proof.Machine.execMillraceIdleAdcRequest s
  | .headCurrentTrip mv => Sys2Proof.Machine.execHeadCurrentTrip mv s
  | .strobeOvertime => Sys2Proof.Machine.execStrobeOvertime s
  | .millraceFaultClear req v => Sys2Proof.Machine.execMillraceFaultClear req v s
  | .millraceLimitLock req => Sys2Proof.Machine.execMillraceLimitLock req s
  | .feederEnable req => Sys2Proof.Machine.execFeederEnable req s
  | .feederDisable req => Sys2Proof.Machine.execFeederDisable req s
  | .feedCancel req => Sys2Proof.Machine.execFeedCancel req s
  | .feedMove req v => Sys2Proof.Machine.execFeedMove req v s
  | .halfStepDue => Sys2Proof.Machine.execHalfStepDue s
  | .feedMicrostep => Sys2Proof.Machine.execFeedMicrostep s
  | .chopPeriodStart => Sys2Proof.Machine.execChopPeriodStart s
  | .chopOntimeLimit w => Sys2Proof.Machine.execChopOntimeLimit w s
  | .holdTimeout => Sys2Proof.Machine.execHoldTimeout s
  | .rippleWindowEnd => Sys2Proof.Machine.execRippleWindowEnd s
  | .bemfSample => Sys2Proof.Machine.execBemfSample s
  | .feederFaultClear req v => Sys2Proof.Machine.execFeederFaultClear req v s
  | .sensorPeriod => Sys2Proof.Machine.execSensorPeriod s
  | .sensorEmitSettle => Sys2Proof.Machine.execSensorEmitSettle s
  | .sensorCalibrate req k => Sys2Proof.Machine.execSensorCalibrate req k s
  | .inputDebounced name level => Sys2Proof.Machine.execInputDebounced name level s
  | .cut req => Sys2Proof.Machine.execCut req s
  | .cutterDriveRise => Sys2Proof.Machine.execCutterDriveRise s
  | .cutLeaveTimeout tie => Sys2Proof.Machine.execCutLeaveTimeout tie s
  | .cutterBrake => Sys2Proof.Machine.execCutterBrake s
  | .cutterBrakeEnd => Sys2Proof.Machine.execCutterBrakeEnd s
  | .cutTimeout tie => Sys2Proof.Machine.execCutTimeout tie s
  | .jog req => Sys2Proof.Machine.execJog req s
  | .jogEnd => Sys2Proof.Machine.execJogEnd s
  | .cutterDisable req => Sys2Proof.Machine.execCutterDisable req s
  | .cutterFaultClear req v => Sys2Proof.Machine.execCutterFaultClear req v s
  | .drawerPulse req k v => Sys2Proof.Machine.execDrawerPulse req k v s
  | .drawerPulseEnd k => Sys2Proof.Machine.execDrawerPulseEnd k s
  | .drawerCooldownEnd k => Sys2Proof.Machine.execDrawerCooldownEnd k s
  | .drawerDisable req k => Sys2Proof.Machine.execDrawerDisable req k s
  | .bellGo req => Sys2Proof.Machine.execBellGo req s
  | .bellStop req => Sys2Proof.Machine.execBellStop req s
  | .bellTimer => Sys2Proof.Machine.execBellTimer s
  | .ledModeWrite req k field v => Sys2Proof.Machine.execLedModeWrite req k field v s
  | .ledPatternTick k => Sys2Proof.Machine.execLedPatternTick k s
  | .ppLimitLock req => Sys2Proof.Machine.execPpLimitLock req s
  | .adcConversionDone code => Sys2Proof.Machine.execAdcConversionDone code s
  | .adcSeqGo req => Sys2Proof.Machine.execAdcSeqGo req s
  | .adcSeqStop req => Sys2Proof.Machine.execAdcSeqStop req s
  | .adcSeqPeriod => Sys2Proof.Machine.execAdcSeqPeriod s
  | .usbDisable req => Sys2Proof.Machine.execUsbDisable req s
  | .linkClockRestore => Sys2Proof.Machine.execLinkClockRestore s
  | .linkNoclkClear req eth => Sys2Proof.Machine.execLinkNoclkClear req eth s
  | .vbusChange level => Sys2Proof.Machine.execVbusChange level s
  | .usbBusReset => Sys2Proof.Machine.execUsbBusReset s
  | .usbSuspend => Sys2Proof.Machine.execUsbSuspend s
  | .usbResume => Sys2Proof.Machine.execUsbResume s
  | .usbRemoteWake req => Sys2Proof.Machine.execUsbRemoteWake req s
  | .usbRemoteWakeEnd => Sys2Proof.Machine.execUsbRemoteWakeEnd s
  | .usbAddrWrite req v => Sys2Proof.Machine.execUsbAddrWrite req v s
  | .usbSetup addr data => Sys2Proof.Machine.execUsbSetup addr data s
  | .usbInToken addr ep => Sys2Proof.Machine.execUsbInToken addr ep s
  | .usbOutData addr ep toggle data crcOk => Sys2Proof.Machine.execUsbOutData addr ep toggle data crcOk s
  | .usbHandshake => Sys2Proof.Machine.execUsbHandshake s
  | .usbHandshakeTimeout tie => Sys2Proof.Machine.execUsbHandshakeTimeout tie s
  | .usbEp0Armin req => Sys2Proof.Machine.execUsbEp0Armin req s
  | .usbEp0Armout req => Sys2Proof.Machine.execUsbEp0Armout req s
  | .usbEp0Stall req => Sys2Proof.Machine.execUsbEp0Stall req s
  | .usbToggleReset req ep => Sys2Proof.Machine.execUsbToggleReset req ep s
  | .ethDisable req => Sys2Proof.Machine.execEthDisable req s
  | .ethFrameReceived frame rxer => Sys2Proof.Machine.execEthFrameReceived frame rxer s
  | .ethRxDeliver => Sys2Proof.Machine.execEthRxDeliver s
  | .ethTxStart => Sys2Proof.Machine.execEthTxStart s
  | .ethTxDone => Sys2Proof.Machine.execEthTxDone s
  | .ethCollision late => Sys2Proof.Machine.execEthCollision late s
  | .ethBackoffEnd => Sys2Proof.Machine.execEthBackoffEnd s
  | .ethPauseEnd tie => Sys2Proof.Machine.execEthPauseEnd tie s
  | .ethPauseSend => Sys2Proof.Machine.execEthPauseSend s
  | .ethRefclkLoss => Sys2Proof.Machine.execEthRefclkLoss s
  | .mdioGo req => Sys2Proof.Machine.execMdioGo req s
  | .mdioDone data => Sys2Proof.Machine.execMdioDone data s
  | .mdioPoll data => Sys2Proof.Machine.execMdioPoll data s
  | .uartDisable req n => Sys2Proof.Machine.execUartDisable req n s
  | .uartCharReceived n b framing parity => Sys2Proof.Machine.execUartCharReceived n b framing parity s
  | .uartBreak n => Sys2Proof.Machine.execUartBreak n s
  | .uartIdleTimeout n tie => Sys2Proof.Machine.execUartIdleTimeout n tie s
  | .uartTxCharDone n => Sys2Proof.Machine.execUartTxCharDone n s
  | .uartLineChange n cts dsr => Sys2Proof.Machine.execUartLineChange n cts dsr s
  | .uartDataRead req n dst => Sys2Proof.Machine.execUartDataRead req n dst s
  | .uartDataWrite req n v => Sys2Proof.Machine.execUartDataWrite req n v s
  | .kolnexEnable req => Sys2Proof.Machine.execKolnexEnable req s
  | .kolnexDisable req => Sys2Proof.Machine.execKolnexDisable req s
  | .kolnexTxAccept => Sys2Proof.Machine.execKolnexTxAccept s
  | .kolnexBusFree => Sys2Proof.Machine.execKolnexBusFree s
  | .kolnexSlotStart startBit => Sys2Proof.Machine.execKolnexSlotStart startBit s
  | .kolnexReadbackMismatch inSync => Sys2Proof.Machine.execKolnexReadbackMismatch inSync s
  | .kolnexStuck => Sys2Proof.Machine.execKolnexStuck s
  | .kolnexFrameSent => Sys2Proof.Machine.execKolnexFrameSent s
  | .kolnexAckReceived bytes early => Sys2Proof.Machine.execKolnexAckReceived bytes early s
  | .kolnexAckTimeout tie heard => Sys2Proof.Machine.execKolnexAckTimeout tie heard s
  | .kolnexDataReceived bytes malformed early => Sys2Proof.Machine.execKolnexDataReceived bytes malformed early s
  | .kolnexBeaconReceived bytes early => Sys2Proof.Machine.execKolnexBeaconReceived bytes early s
  | .kolnexRxGap => Sys2Proof.Machine.execKolnexRxGap s
  | .kolnexAckSend => Sys2Proof.Machine.execKolnexAckSend s
  | .kolnexRxDeliver => Sys2Proof.Machine.execKolnexRxDeliver s
  | .kolnexLoneAge => Sys2Proof.Machine.execKolnexLoneAge s
  | .kolnexBeaconDue => Sys2Proof.Machine.execKolnexBeaconDue s
  | .kolnexFaultClear req v => Sys2Proof.Machine.execKolnexFaultClear req v s
  | .waypostReset req => Sys2Proof.Machine.execWaypostReset req s
  | .waypostXfer req => Sys2Proof.Machine.execWaypostXfer req s
  | .waypostPass req => Sys2Proof.Machine.execWaypostPass req s
  | .waypostSlotEnd a b => Sys2Proof.Machine.execWaypostSlotEnd a b s
  | .waypostDisturbance => Sys2Proof.Machine.execWaypostDisturbance s
  | .waypostShort => Sys2Proof.Machine.execWaypostShort s
  | .waypostAbort req => Sys2Proof.Machine.execWaypostAbort req s
  | .waypostDisable req => Sys2Proof.Machine.execWaypostDisable req s
  | .spiEntryStart => Sys2Proof.Machine.execSpiEntryStart s
  | .spiReadyHigh data => Sys2Proof.Machine.execSpiReadyHigh data s
  | .spiEntryDone data => Sys2Proof.Machine.execSpiEntryDone data s
  | .spiStretchTimeout tie data => Sys2Proof.Machine.execSpiStretchTimeout tie data s
  | .spiChainTimeout tie => Sys2Proof.Machine.execSpiChainTimeout tie s
  | .spiFaultClear req v => Sys2Proof.Machine.execSpiFaultClear req v s
  | .spiWindowLoad => Sys2Proof.Machine.execSpiWindowLoad s
  | .spiFillStart => Sys2Proof.Machine.execSpiFillStart s
  | .spiFillDone data => Sys2Proof.Machine.execSpiFillDone data s
  | .spiCacheInvalidate req => Sys2Proof.Machine.execSpiCacheInvalidate req s
  | .spiInvalidateDone => Sys2Proof.Machine.execSpiInvalidateDone s
  | .spiLoadGo req => Sys2Proof.Machine.execSpiLoadGo req s
  | .spiLoadDone data => Sys2Proof.Machine.execSpiLoadDone data s
  | .nvReady lost bad => Sys2Proof.Machine.execNvReady lost bad s
  | .nvCommandDispatch => Sys2Proof.Machine.execNvCommandDispatch s
  | .nvWrite => Sys2Proof.Machine.execNvWrite s
  | .nvErase => Sys2Proof.Machine.execNvErase s
  | .nvTwinwr => Sys2Proof.Machine.execNvTwinwr s
  | .nvTwinrd => Sys2Proof.Machine.execNvTwinrd s
  | .nvRingapp => Sys2Proof.Machine.execNvRingapp s
  | .nvRingrd => Sys2Proof.Machine.execNvRingrd s
  | .nvMcinc => Sys2Proof.Machine.execNvMcinc s
  | .nvMcraise => Sys2Proof.Machine.execNvMcraise s
  | .nvProtect => Sys2Proof.Machine.execNvProtect s
  | .nvMaint => Sys2Proof.Machine.execNvMaint s
  | .nvBadCommand => Sys2Proof.Machine.execNvBadCommand s
  | .nvPhaseDone verified => Sys2Proof.Machine.execNvPhaseDone verified s
  | .nvDisable req => Sys2Proof.Machine.execNvDisable req s
  | .nvBufferAccess req w wr dst => Sys2Proof.Machine.execNvBufferAccess req w wr dst s
  | .nvPageStatusRead req dst => Sys2Proof.Machine.execNvPageStatusRead req dst s
  | .nvMaskAccess req wr dst => Sys2Proof.Machine.execNvMaskAccess req wr dst s
  | .glogonLow width late => Sys2Proof.Machine.execGlogonLow width late s
  | .glogonSessionTimeout => Sys2Proof.Machine.execGlogonSessionTimeout s
  | .glogonFrameTimeout => Sys2Proof.Machine.execGlogonFrameTimeout s
  | .glogonStatus => Sys2Proof.Machine.execGlogonStatus s
  | .glogonReset => Sys2Proof.Machine.execGlogonReset s
  | .glogonRdio => Sys2Proof.Machine.execGlogonRdio s
  | .glogonWrio => Sys2Proof.Machine.execGlogonWrio s
  | .glogonRdfar => Sys2Proof.Machine.execGlogonRdfar s
  | .glogonWrfar => Sys2Proof.Machine.execGlogonWrfar s
  | .glogonEnd => Sys2Proof.Machine.execGlogonEnd s
  | .glogonResult => Sys2Proof.Machine.execGlogonResult s
  | .glogonBadcmd => Sys2Proof.Machine.execGlogonBadcmd s
  | .glogonPendingTimeout => Sys2Proof.Machine.execGlogonPendingTimeout s
  | .glogonResponse collide => Sys2Proof.Machine.execGlogonResponse collide s
  | .debugAccessTimeout tie => Sys2Proof.Machine.execDebugAccessTimeout tie s
  | .debugHalt req v => Sys2Proof.Machine.execDebugHalt req v s
  | .debugResume req v => Sys2Proof.Machine.execDebugResume req v s
  | .debugStep req v => Sys2Proof.Machine.execDebugStep req v s
  | .debugRegisterAccess req wr dst => Sys2Proof.Machine.execDebugRegisterAccess req wr dst s
  | .breakpointMatch t k => Sys2Proof.Machine.execBreakpointMatch t k s
  | .watchpointMatch t k space addr wr => Sys2Proof.Machine.execWatchpointMatch t k space addr wr s
  | .pcSampleRead req dst => Sys2Proof.Machine.execPcSampleRead req dst s
  | .monitorStatus usb payload crc => Sys2Proof.Machine.execMonitorStatus usb payload crc s
  | .monitorReset usb payload crc => Sys2Proof.Machine.execMonitorReset usb payload crc s
  | .monitorRdio usb payload crc => Sys2Proof.Machine.execMonitorRdio usb payload crc s
  | .monitorWrio usb payload crc => Sys2Proof.Machine.execMonitorWrio usb payload crc s
  | .monitorRdfar usb payload crc => Sys2Proof.Machine.execMonitorRdfar usb payload crc s
  | .monitorWrfar usb payload crc => Sys2Proof.Machine.execMonitorWrfar usb payload crc s
  | .provision usb payload crc => Sys2Proof.Machine.execProvision usb payload crc s
  | .loadhdr usb payload crc => Sys2Proof.Machine.execLoadhdr usb payload crc s
  | .loaddata usb payload crc => Sys2Proof.Machine.execLoaddata usb payload crc s
  | .loadgo usb payload crc => Sys2Proof.Machine.execLoadgo usb payload crc s
  | .monitorEnd usb payload crc => Sys2Proof.Machine.execMonitorEnd usb payload crc s
  | .monitorSessionTimeout => Sys2Proof.Machine.execMonitorSessionTimeout s
  | .monitorFrameTimeout => Sys2Proof.Machine.execMonitorFrameTimeout s
  | .counterSelWrite req n v => Sys2Proof.Machine.execCounterSelWrite req n v s
  | .counterCountWrite req n v => Sys2Proof.Machine.execCounterCountWrite req n v s
  | .counterClear req n => Sys2Proof.Machine.execCounterClear req n s
  | .disagreeHoldExpiry u tie => Sys2Proof.Machine.execDisagreeHoldExpiry u tie s
  | .aoPorRelease => Sys2Proof.Machine.execAoPorRelease s
  | .hfrcRuns => Sys2Proof.Machine.execHfrcRuns s
  | .windingCurrentConversion w => Sys2Proof.Machine.execWindingCurrentConversion w s
  | .uartBreakEnd n => Sys2Proof.Machine.execUartBreakEnd n s

end Sys2Proof.Machine
end

