-- ==== Sys2Proof/Machine/Step.lean ====
section
/-!
DEFINITION. One step: the command at the front of the queue, or one tick of the time base where none waits.
-/
namespace Sys2Proof.Machine

/-- What the time base itself does in a tick (R225, R226): the count, the CORE cycles that pass in it while CORE has its clock (R258), the lines
that a REKEY's sweep passes, TOLL budgets, levels, what the ROM does as time passes. -/
def clockTick (s : State) : State :=
  let c := if islandRuns s .core then Config.coreCycles s.fresh else 0
  let s1 := cyclesPass c (sweepMove { s with time := s.time + 1, fresh := s.fresh + 1 } (Config.sweepLines s.fresh))
  if s.dev.phase = .awake then
    let s2 := budgetTick s1
    romClock (if islandRuns s .core then tickLevels s2 else s2)
  else s1

/-- What the AO oscillators do in a tick (R227). -/
def aoTick (s : State) : State :=
  let s1 := if Config.rtcEdge s.fresh then rtcEdge s else s
  if Config.wdtMs s.fresh then wdtTick s1 else s1

/-- One tick of the time base with no command waiting: nothing moves without VDDAO or while the device is held in reset, but for the AO oscillators. -/
def tick (s : State) : State :=
  if s.dev.vddao = false then s
  else match s.dev.phase with
    | .held | .standby => let s1 := aoTick s; { s1 with fresh := s1.fresh + 1 }
    | .clearing | .awake => clockTick (aoTick s)

/-- One step: the front command on the state with the queue's rest; an empty queue lets one tick pass. -/
def step (s : State) : Host.Outcome State Fault Refusal :=
  match s.pending with
  | [] => .next (tick s)
  | c :: rest => exec c { s with pending := rest }

/-- The state with the command a table word spells in front of its queue: no row has bits, so `s` itself. -/
def State.withFetchWord (s : State) (nbits w : Nat) : State :=
  match decodeTableWord nbits w with
  | some c => { s with pending := c :: s.pending }
  | none => s

end Sys2Proof.Machine
end

