-- ==== Sys2Proof/Safety.lean ====
section
/-!
DEFINITION. The terms in which statements are made: what a command does, when a requester's access is taken, what an instruction that
issues without further ado leaves, which memories there are and their canonical form.
-/
namespace Sys2Proof.Machine

/-! ## Commands -/

/-- A command answers a next state, and that state has a property. -/
def Does (c : Instr) (s : State) (P : State → Prop) : Prop := ∃ t, exec c s = .next t ∧ P t

/-- The device is awake and an island has its clock. -/
abbrev Live (s : State) (i : Island) : Prop := s.dev.phase = .awake ∧ islandRuns s i = true

/-- A write of a register by a requester is taken: its island runs, the access rule permits it and no limit lock freezes it (R10, R734). -/
abbrev MayWrite (s : State) (req : Nat) (r : Rg) (i : Nat) : Prop :=
  Live s (regIsland r i) ∧ permitted s req r i (reqWorld s req) true = true ∧ limitLocked s r = false

/-- A read of a register by a requester is taken. -/
abbrev MayRead (s : State) (req : Nat) (r : Rg) (i : Nat) : Prop :=
  Live s (regIsland r i) ∧ permitted s req r i (reqWorld s req) false = true

/-! ## Frames -/

/-- No memory, thread, pad or waiting command differs. -/
abbrev SameMemory (s t : State) : Prop :=
  t.near = s.near ∧ t.bits = s.bits ∧ t.iram = s.iram ∧ t.retain = s.retain ∧ t.nvByte = s.nvByte ∧ t.far.byte = s.far.byte ∧
  t.far.tag = s.far.tag ∧ t.far.written = s.far.written ∧ t.far.owner = s.far.owner ∧ t.pads = s.pads ∧ t.pending = s.pending

/-- The stored registers of I/O space differ at the listed addresses only. -/
def SameIoBut (l : List Nat) (s t : State) : Prop := ∀ d : Nat → Quad, ∀ k, k ∉ l → mget d t.io k = mget d s.io k

/-! ## Instructions -/

/-- The thread as its next word issues: THRn_PC, THRn_ICOUNT and the next address (R268, R364, R379). -/
def issued (th : Thread) : Thread :=
  { th with lastPc := th.pc, icount := th.icount + 1, pc := th.target.getD (th.pc + 1), target := none }

/-- Nothing is in the pipeline, no slot map waits to come into force and no counter watches a level (R393, R399, R1125): only cycles pass until
a thread's next slot. -/
abbrev Quiet (s : State) : Prop := s.pipe = [] ∧ s.dev.slotPend = none ∧ levelsWatched s = false

/-- CORE cycles until thread `t`'s next slot (R397, R398); 0 where the map gives it none. -/
def slotWait (s : State) (t : Nat) : Nat :=
  (((List.range 8).find? fun k => slotThread (rd s .PMU_SLOTMAP 0) ((s.cycles + k + 1) % 8) == t).map (· + 1)).getD 0

/-- The state in the cycle of that slot, nothing but cycles having passed. -/
def atSlot (s : State) (t : Nat) : State := { s with cycles := s.cycles + slotWait s t }

/-- An instruction issues and nothing else ends with it: nothing is in the pipeline, no counter watches a level, its thread has a slot, the fetch is permitted, the word
legal where it stands, no limit of outstanding accesses reached, and no stop, halt, step or overlay release waits for this issue. -/
abbrev Plain (s : State) (i : Instr) : Prop :=
  Quiet s ∧ canIssue s i.thread = true ∧ fetchRefused s s i.thread = false ∧ i.legal = true ∧
  ((thr s i.thread).target = none ∨ notInSlot i = false) ∧ accessLimit s i = none ∧ (thr s i.thread).stopHeld = false ∧
  (thr s i.thread).haltPend = none ∧ (thr s i.thread).stepping = false ∧ s.dev.romoffGo = false

/-- The state as the instruction of thread `t` has just issued in its next slot. -/
def issuing (s : State) (t : Nat) : State := setThr (atSlot s t) t (issued (thr s t))

/-- An instruction issues and its thread is `now`; it stays so for `k - 1` cycles, and at the end of the `k`th, counted with that of the issue, the
thread is `th` (R393, R403); nothing but cycles and the thread differs. -/
def Moves (i : Instr) (s : State) (now : Thread) (k : Nat) (th : Thread) : Prop :=
  Does i s fun u => u.cycles = (atSlot s i.thread).cycles ∧ (∀ j, j < k → (cyclesPass j u).thr = (setThr s i.thread now).thr) ∧
    cyclesPass k u = { setThr s i.thread th with cycles := (atSlot s i.thread).cycles + k }

/-- An instruction issues and, but for the issue itself, its only effect is that its thread is `th` from the end of the `k`th cycle on. -/
abbrev Lands (i : Instr) (s : State) (k : Nat) (th : Thread) : Prop := Moves i s (issued (thr s i.thread)) k th

/-- The command stands for a Nalti instruction. -/
def isNalti (i : Instr) : Bool := (encFields i).isSome

/-! ## Memories -/

/-- Every memory of the device is in its canonical form: addresses rising, no entry equal to what an unlisted address reads as. -/
def memoriesOk (s : State) : Bool :=
  mwf (fun _ => 0) s.near && mwf (fun _ => false) s.bits && mwf (fun _ => 0) s.iram && mwf (fun _ => 0) s.retain &&
  mwf (fun _ => 0xFF) s.nvByte && mwf (fun _ => 0) s.far.byte && mwf (fun _ => 0) s.far.tag && mwf (fun _ => false) s.far.written &&
  mwf (fun _ => 0) s.far.owner

/-! ## Safe states -/

/-- What a safe state keeps (R426, R1091): canonical memories, and T0 at home in keeper world. -/
def safe (s : State) : Bool := memoriesOk s && !(homeWorld s 0)

end Sys2Proof.Machine
end

