-- ==== Sys2Proof/Certificates/Slice0/Obligations.lean ====
section
/-!
DEFINITION. The statements for the provers.
-/
open Sys2Proof Sys2Proof.Machine

/-! ## The machine as a whole -/

/-- A step with a command waiting is that command's effect on the state with the queue's rest. -/
def Obligations.StepRunsFrontCommand : Prop :=
  ∀ (c : Instr) (rest : List Instr) (s : State), step { s with pending := c :: rest } = exec c { s with pending := rest }

/-- On an empty queue a step lets one tick of the time base pass (the model's choice, log entry 3). Awake, with nothing in the pipeline and no
REKEY under way, the time base advances by one, CORE's cycles by those of the tick while CORE has its clock (R225, R258), and no memory and no
thread's registers change. In STANDBY and reset the time base and CORE stand still, and so does everything without VDDAO (R130). -/
def Obligations.IdleStepIsOneTick : Prop :=
  ∀ s : State, s.pending = [] →
    (s.dev.vddao = true → s.dev.phase = .awake → Quiet s → s.far.rekey = none →
      ∃ t, step s = .next t ∧ t.time = s.time + 1 ∧ t.cycles = s.cycles + (if islandRuns s .core then Config.coreCycles s.fresh else 0) ∧
        SameMemory s t ∧ ∀ n, (thr t n).g = (thr s n).g ∧ (thr t n).p = (thr s n).p) ∧
    (s.dev.vddao = true → s.dev.phase = .held ∨ s.dev.phase = .standby →
      ∃ t, step s = .next t ∧ t.time = s.time ∧ t.cycles = s.cycles ∧ SameMemory s t ∧ t.thr = s.thr) ∧
    (s.dev.vddao = false → step s = .next s)

/-- No command stops the machine: every one answers a next state.
Model's choices: log entries 1, 4. -/
def Obligations.EveryCommandAnswersNext : Prop := ∀ (c : Instr) (s : State), ∃ t, exec c s = .next t

/-- Decoding the word of a legal instruction gives the instruction back, with every operand (R331, R335). -/
def Obligations.DecodeInvertsEncode : Prop :=
  ∀ (i : Instr) (w : Quad), i.legal = true → encodeWord i = some w → decodeWord i.thread w = some i

/-- Words written out from the tables of encodings stand for the instructions they name (R331-R335, R363). -/
def Obligations.WrittenWordsDecode : Prop :=
  decodeWord 0 0x04000000 = some (.nop 0) ∧
  decodeWord 3 (BitVec.ofNat 32 (0x0A * 2 ^ 26 + 1 * 2 ^ 22 + 2 * 2 ^ 18 + 2 ^ 17 + 0x80)) = some (.add 3 1 2 (.imm 0x80)) ∧
  decodeWord 1 (BitVec.ofNat 32 (0x35 * 2 ^ 26 + 0x123 * 2 ^ 14 + 0x3FFF)) = some (.jb 1 0x123 0x3FFF) ∧
  decodeWord 1 (BitVec.ofNat 32 (0x1D * 2 ^ 26)) = none ∧
  decodeWord 2 (BitVec.ofNat 32 (0x17 * 2 ^ 26 + 1 * 2 ^ 22)) = none

/-- Every step keeps every memory of the device in its canonical form.
Model's choices: log entry 9. -/
def Obligations.StepKeepsMemoriesCanonical : Prop :=
  ∀ s t : State, memoriesOk s = true → step s = .next t → memoriesOk t = true

/-- The memories are in their canonical form at reset. -/
def Obligations.ResetMemoriesCanonical : Prop := memoriesOk State.reset = true

/-- What a power-on reset leaves (R19, R133, R138, R144, R302, R316): SAFE, T0 RUNNING in keeper world at ROM word 0xC000, T1-T7 STOPPED, the
cause POR, registers at their reset values, near RAM, IRAM and bits 0, nothing waiting.
Model's choices: log entry 7. -/
def Obligations.ResetLeavesSafeState : Prop :=
  let s := State.reset
  s.pending = [] ∧ s.dev.phase = .awake ∧ inRun s = false ∧ (thr s 0).st = .running ∧ (thr s 0).pc = 0xC000 ∧ (thr s 0).world = false ∧
  (∀ n, 1 ≤ n → (thr s n).st = .stopped) ∧ rd s .PMU_RSTCAUSE 0 = 1 ∧
  (∀ r i, regAddr r i ≠ 0x402 → rd s r i = regReset r i) ∧ s.near = [] ∧ s.iram = [] ∧ s.bits = []

/-! ## Nalti instructions -/

/-- ADD, ADC, SUB, SBC (R342): the result in gd, C the carry or borrow, V signed overflow; the next word; nothing else changes.

MOV, MOVI, AND, OR, XOR, NOT (R342): the result in gd; C and V stay.
Model's choices: log entries 2, 31. -/
def Obligations.ArithmeticLogicAndMoveResults : Prop :=
  (∀ (s : State) (t : Fin 8) (gd ga : Fin 16) (b : Operand),
      let th := thr s t
      let x := getG th ga
      let y := opVal th b
      let n := b01 th.c
      (Plain s (.add t gd ga b) → Lands (.add t gd ga b) s 3 { setG (issued th) gd (x + y) with
        c := decide (256 ≤ x.toNat + y.toNat), v := decide (x.toInt + y.toInt < -128 ∨ 127 < x.toInt + y.toInt) }) ∧
      (Plain s (.adc t gd ga b) → Lands (.adc t gd ga b) s 3 { setG (issued th) gd (x + y + BitVec.ofNat 8 n) with
        c := decide (256 ≤ x.toNat + y.toNat + n), v := decide (x.toInt + y.toInt + n < -128 ∨ 127 < x.toInt + y.toInt + n) }) ∧
      (Plain s (.sub t gd ga b) → Lands (.sub t gd ga b) s 3 { setG (issued th) gd (x - y) with
        c := decide (x.toNat < y.toNat), v := decide (x.toInt - y.toInt < -128 ∨ 127 < x.toInt - y.toInt) }) ∧
      (Plain s (.sbc t gd ga b) → Lands (.sbc t gd ga b) s 3 { setG (issued th) gd (x - y - BitVec.ofNat 8 n) with
        c := decide (x.toNat < y.toNat + n), v := decide (x.toInt - y.toInt - n < -128 ∨ 127 < x.toInt - y.toInt - n) })) ∧
  (∀ (s : State) (t : Fin 8) (gd ga : Fin 16) (b : Operand) (v : Byte),
      let th := thr s t
      let x := getG th ga
      let y := opVal th b
      (Plain s (.mov t gd ga) → Lands (.mov t gd ga) s 3 (setG (issued th) gd x)) ∧
      (Plain s (.movi t gd v) → Lands (.movi t gd v) s 3 (setG (issued th) gd v)) ∧
      (Plain s (.andR t gd ga b) → Lands (.andR t gd ga b) s 3 (setG (issued th) gd (x &&& y))) ∧
      (Plain s (.orR t gd ga b) → Lands (.orR t gd ga b) s 3 (setG (issued th) gd (x ||| y))) ∧
      (Plain s (.xorR t gd ga b) → Lands (.xorR t gd ga b) s 3 (setG (issued th) gd (x ^^^ y))) ∧
      (Plain s (.notR t gd ga) → Lands (.notR t gd ga) s 3 (setG (issued th) gd (~~~x))))

/-- SHL, SHR, SAR, ROL, ROR (R342, R343): by b modulo 8; C is the last bit moved out, unchanged for a count of 0; V stays.

MUL (R342, R345): the 16-bit product, low byte in gd, high byte in gd + 1. SEQ, SNE, SLT, SLTU, SGEU (R347): 1 or 0 in gd. C and V stay.
Model's choices: log entries 2, 31. -/
def Obligations.ShiftsProductsAndComparisons : Prop :=
  (∀ (s : State) (t : Fin 8) (gd ga : Fin 16) (b : Operand),
      let th := thr s t
      let x := getG th ga
      let k := (opVal th b).toNat % 8
      (Plain s (.shl t gd ga b) → Lands (.shl t gd ga b) s 3 { setG (issued th) gd (x <<< k) with
        c := if k = 0 then th.c else x.getLsbD (8 - k) }) ∧
      (Plain s (.shr t gd ga b) → Lands (.shr t gd ga b) s 3 { setG (issued th) gd (x >>> k) with
        c := if k = 0 then th.c else x.getLsbD (k - 1) }) ∧
      (Plain s (.sar t gd ga b) → Lands (.sar t gd ga b) s 3 { setG (issued th) gd (x.sshiftRight k) with
        c := if k = 0 then th.c else x.getLsbD (k - 1) }) ∧
      (Plain s (.rol t gd ga b) → Lands (.rol t gd ga b) s 3 { setG (issued th) gd (x.rotateLeft k) with
        c := if k = 0 then th.c else x.getLsbD (8 - k) }) ∧
      (Plain s (.ror t gd ga b) → Lands (.ror t gd ga b) s 3 { setG (issued th) gd (x.rotateRight k) with
        c := if k = 0 then th.c else x.getLsbD (k - 1) })) ∧
  (∀ (s : State) (t : Fin 8) (gd ga : Fin 16) (b : Operand) (sgn : Bool),
      let th := thr s t
      let x := getG th ga
      let y := opVal th b
      let p : Int := if sgn then x.toInt * y.toInt else x.toNat * y.toNat
      (Plain s (.mul t gd ga b sgn) → Lands (.mul t gd ga b sgn) s 3 (setG (setG (issued th) gd (BitVec.ofInt 8 p)) (gd.val + 1) (BitVec.ofInt 8 (p / 256)))) ∧
      (Plain s (.seq t gd ga b) → Lands (.seq t gd ga b) s 3 (setG (issued th) gd (if x = y then 1 else 0))) ∧
      (Plain s (.sne t gd ga b) → Lands (.sne t gd ga b) s 3 (setG (issued th) gd (if x = y then 0 else 1))) ∧
      (Plain s (.slt t gd ga b) → Lands (.slt t gd ga b) s 3 (setG (issued th) gd (if x.toInt < y.toInt then 1 else 0))) ∧
      (Plain s (.sltu t gd ga b) → Lands (.sltu t gd ga b) s 3 (setG (issued th) gd (if x.toNat < y.toNat then 1 else 0))) ∧
      (Plain s (.sgeu t gd ga b) → Lands (.sgeu t gd ga b) s 3 (setG (issued th) gd (if y.toNat ≤ x.toNat then 1 else 0))))

/-- The bit instructions (R348, R349, R393, R396): a source bit is read at the issue, as the thread sees it, with the access's events. The bit array
takes the destination's access in one go at the end of cycle 2, in every form bit space gives (a status bit, a user bit, a pin, a pending bit,
a hole); a refused access has its events only, and a TSB reads 0 there (R351). LDB puts the bit read in gd.
Model's choices: log entries 2, 42, 111. -/
def Obligations.BitInstructionEffects : Prop :=
  ∀ (s : State) (t : Fin 8) (g : Fin 16) (bd bs : BitVec 12) (neg : Bool),
    let s1 := issuing s t
    let c := s1.cycles
    let w := (thr s t).world
    let s2 := bitEvents s1 t bs.toNat
    let x := bitSeen s1 t bs.toNat != neg
    let puts (i : Instr) (s' : State) (f0 f1 : Bool) (r : Option Nat) : Prop := Does i s fun u =>
      u.thr = s1.thr ∧ (cyclesPass 2 u).thr = s1.thr ∧ (cyclesPass 2 u).bits = s.bits ∧
      cyclesPass 3 u =
        (let e := bitEvents s' t bd.toNat
         if bitRefusal s' w bd.toNat = none then { bitLand { e with cycles := c + 2 } c t bd.toNat w f0 f1 r with cycles := c + 3 }
         else match r with
           | some r => { setThr e t (setG (thr e t) r 0) with cycles := c + 3 }
           | none => { e with cycles := c + 3 })
    (Plain s (.setb t bd) → puts (.setb t bd) s1 true true none) ∧
    (Plain s (.clrb t bd) → puts (.clrb t bd) s1 false false none) ∧
    (Plain s (.cplb t bd) → puts (.cplb t bd) s1 true false none) ∧
    (Plain s (.movb t bd bs neg) → puts (.movb t bd bs neg) s2 x x none) ∧
    (Plain s (.andb t bd bs neg) → puts (.andb t bd bs neg) s2 false x none) ∧
    (Plain s (.orb t bd bs neg) → puts (.orb t bd bs neg) s2 x true none) ∧
    (Plain s (.xorb t bd bs neg) → puts (.xorb t bd bs neg) s2 x (!x) none) ∧
    (Plain s (.ldb t g bs) → Does (.ldb t g bs) s fun u => u.thr = s1.thr ∧ (cyclesPass 2 u).thr = s1.thr ∧
      cyclesPass 3 u = { setThr s2 t (setG (thr s2 t) g (if bitSeen s1 t bs.toNat then 1 else 0)) with cycles := c + 3 }) ∧
    (Plain s (.stb t bd g) → puts (.stb t bd g) s1 (getG (thr s t) g != 0) (getG (thr s t) g != 0) none) ∧
    (Plain s (.tsb t g bd) → puts (.tsb t g bd) s1 true true (some g.val))

/-- The bit array's access to a private, shared or keeper bit makes it read as written and leaves every other bit of the thread's view (R296, R349);
a TSB has the bit's old value. The writing thread sees the new value at once, another thread that reaches the bit from the writer's cycle 4 on
(R336, R396), where no earlier write of it is still unseen.

A refused access writes nothing, leaves nothing in the pipeline, and is recorded as a violation of its KIND (R297, R472).
Model's choices: log entries 42, 111. -/
def Obligations.BitUpdatesAndReadBack : Prop :=
  (∀ (s : State) (t : Fin 8) (a issue : Nat) (w f0 f1 : Bool), 0x20 ≤ a → a < 0x800 →
      let old := bitIn s t a w
      let new := if old then f1 else f0
      let s1 := bitLand s issue t a w f0 f1 none
      bitIn s1 t a w = new ∧ (∀ k, k ≠ a → k < 0x800 → bitIn s1 t k w = bitIn s t k w) ∧ s1.thr = s.thr ∧ s1.near = s.near ∧ s1.io = s.io ∧
      (∀ r, bitLand s issue t a w f0 f1 (some r) = setThr s1 t (setG (thr s1 t) r (if old then 1 else 0))) ∧
      ((∀ e ∈ s.lag, e.key ≠ bitKey t a w) → ∀ (u : Nat) (v : Bool) (k : Nat), bitKey u a v = bitKey t a w →
        let s2 := { s1 with cycles := s1.cycles + k }
        seenBit s2 u (bitKey u a v) (bitIn s2 u a v) = if u ≠ t.val ∧ s2.cycles < issue + 4 then old else new)) ∧
  (∀ (s : State) (t : Fin 8) (a : Nat) (f : Bool → Bool), bitRefusal s (thr s t).world a = some 1 → rb s .TG_VIOL 0 31 = false →
      let s1 := bitAccess s t a f none
      s1.bits = s.bits ∧ s1.thr = s.thr ∧ s1.pipe = s.pipe ∧ rb s1 .TG_VIOL 0 31 = true ∧ rf s1 .TG_VIOL 0 15 0 = a % 65536 ∧
      rf s1 .TG_VIOL 0 19 16 = t.val ∧ rf s1 .TG_VIOL 0 23 20 = 1)

/-- LD, ST, LDP, STP (R279, R281, R334, R352, R353, R393): the address is the operand's before the MODE 1 update. A store to near RAM of the thread's
world writes the bytes named at its issue; a load from it lands, as the MODE 1 update does, at the end of cycle 3; a data address from 0x4000
up is a window access (R282, R354). Nothing else changes.

Near RAM reads back what was written and keeps every other byte; the private banks of threads and worlds, and the two shared banks, have no
byte in common (R277-R280).

PSET, PADD, PADDG (R357): the pointer's new value at the end of cycle 3; nothing else changes.
Model's choices: log entries 2, 111. -/
def Obligations.LoadStoreAndPointerResults : Prop :=
  (∀ (s : State) (t : Fin 8) (r : Fin 16) (q : Fin 5) (m : MemOp),
      let th := thr s t
      let s1 := issuing s t
      let upd (w : Thread) : Thread := match m with
        | .post pb o => setP w pb (getP th pb + BitVec.ofInt 16 o.toInt)
        | _ => w
      let a := (memAddr th m).toNat
      let e := a / 2 * 2
      let at4 (i : Instr) (v : State) : Prop := Does i s fun u => u.near = v.near ∧ u.cycles = s1.cycles ∧ u.thr = v.thr ∧
        (cyclesPass 3 u).thr = v.thr ∧ cyclesPass 4 u = { setThr v t (upd (thr v t)) with cycles := s1.cycles + 4 }
      (Plain s (.ld t r m) → a < 0x4000 → Lands (.ld t r m) s 4 (setG (upd (issued th)) r (nearRead s (nearKey t th.world a)))) ∧
      (Plain s (.ld t r m) → 0x4000 ≤ a → at4 (.ld t r m) (winLoad s1 t a 1 (.greg t r))) ∧
      (Plain s (.st t r m) → a < 0x4000 → at4 (.st t r m) (nearWrite s1 (nearKey t th.world a) (getG th r))) ∧
      (Plain s (.st t r m) → 0x4000 ≤ a → at4 (.st t r m) (winStore s1 t a [getG th r])) ∧
      (Plain s (.ldp t q m) → e < 0x4000 → Lands (.ldp t q m) s 4 (setP (upd (issued th)) q
        (BitVec.ofNat 16 ((nearRead s (nearKey t th.world e)).toNat + 256 * (nearRead s (nearKey t th.world e + 1)).toNat)))) ∧
      (Plain s (.ldp t q m) → 0x4000 ≤ e → at4 (.ldp t q m) (winLoad s1 t e 2 (.preg t q))) ∧
      (Plain s (.stp t q m) → e < 0x4000 → at4 (.stp t q m)
        (nearWrite (nearWrite s1 (nearKey t th.world e) (BitVec.ofNat 8 (getP th q).toNat)) (nearKey t th.world e + 1)
          (BitVec.ofNat 8 ((getP th q).toNat / 256)))) ∧
      (Plain s (.stp t q m) → 0x4000 ≤ e → at4 (.stp t q m) (winStore s1 t e (leBytes 2 (getP th q).toNat)))) ∧
  ((∀ (s : State) (k j : Nat) (b : Byte), nearRead (nearWrite s k b) j = if j = k then b else nearRead s j) ∧
    (∀ (t u : Fin 8) (x y : Bool) (a c : Nat), a < 0x4000 → c < 0x4000 → nearKey t x a = nearKey u y c →
      a = c ∧ x = y ∧ (a < 0x2000 → t = u))) ∧
  (∀ (s : State) (t : Fin 8) (r : Fin 5) (p : Fin 4) (ga : Fin 16) (v : Word) (k : BitVec 10) (wide sgn : Bool),
      let th := thr s t
      let x := getG th ga
      let d : Int := if wide then x.toNat + 256 * (getG th (ga.val + 1)).toNat else if sgn then x.toInt else x.toNat
      (Plain s (.pset t r v) → Lands (.pset t r v) s 4 (setP (issued th) r v)) ∧
      (Plain s (.padd t p k) → Lands (.padd t p k) s 4 (setP (issued th) p (getP th p + BitVec.ofInt 16 k.toInt))) ∧
      (Plain s (.paddg t p ga wide sgn) → Lands (.paddg t p ga wide sgn) s 4 (setP (issued th) p (getP th p + BitVec.ofInt 16 d))))

/-- IN and OUT (R243, R359, R360, R393): a CORE address is read at the end of cycle 4, and the value in the register at the end of cycle 5; it is written at
the end of cycle 3. Any other island's address is a transfer through its crossing, which carries the requester's world and grant of the issue
(R455); an IN then counts one access outstanding (R361). A MODE 1 update lands at the end of cycle 3.
Model's choices: log entries 2, 111. -/
def Obligations.InAndOutEffects : Prop :=
  ∀ (s : State) (t : Fin 8) (r : Fin 16) (m : MemOp),
    let th := thr s t
    let s1 := issuing s t
    let c := s1.cycles
    let upd (w : Thread) : Thread := match m with
      | .post pb o => setP w pb (getP th pb + BitVec.ofInt 16 o.toInt)
      | _ => w
    let a := (memAddr th m).toNat
    let w : Who := ⟨t, th.world, rn s .TG_GRANT t⟩
    let s4 := setThr s t (upd (issued th))
    let got := readByte { s4 with cycles := c + 4 } w a
    (Plain s (.inp t r m) → accessIsland w a = .core → Does (.inp t r m) s fun u =>
      (∀ j, j < 4 → (cyclesPass j u).thr = s1.thr) ∧ cyclesPass 4 u = { s4 with cycles := c + 4, pipe := (cyclesPass 4 u).pipe } ∧
      cyclesPass 6 u = (let v := { got.2 with cycles := c + 5 }
        { setThr v t (setG (thr v t) r got.1) with cycles := c + 6 })) ∧
    (Plain s (.inp t r m) → accessIsland w a ≠ .core → Does (.inp t r m) s fun u =>
      cyclesPass 4 u = { send (setThr s t { upd (issued th) with outX := th.outX + 1, outKX := th.outKX + b01 (!th.world) })
          (fromCore (accessIsland w a)) (.regRead t a ⟨.greg t r, c, !th.world⟩ th.world (rn s .TG_GRANT t)) with cycles := c + 4 }) ∧
    (Plain s (.out t r m) → accessIsland w a = .core → Does (.out t r m) s fun u =>
      (∀ j, j < 4 → (cyclesPass j u).thr = s1.thr ∧ (cyclesPass j u).io = s.io) ∧
      cyclesPass 4 u = slotDue { writeByte { s4 with cycles := c + 3 } w a (getG th r) with cycles := c + 4 }) ∧
    (Plain s (.out t r m) → accessIsland w a ≠ .core → Does (.out t r m) s fun u =>
      cyclesPass 4 u = { send s4 (fromCore (accessIsland w a)) (.regWrite t a (getG th r) th.world (rn s .TG_GRANT t)) with cycles := c + 4 })

/-- BZ, BNZ, JB, JNB, JMP, CALL, RET, BRX (R363, R364, R367): the delay slot at A + 1 issues next, then the target where the transfer is taken,
A + 2 where not; CALL and BRX with L put A + 2 in lk at the end of cycle 3 (R393). A bit is read as the thread sees it at the issue.
Model's choices: log entries 2, 111. -/
def Obligations.TransferTargets : Prop :=
  ∀ (s : State) (t : Fin 8) (ga : Fin 16) (bit : BitVec 12) (off tgt : Word) (o : BitVec 14) (x : BrxForm) (link : Bool),
    let th := thr s t
    let a := th.pc
    let bv := bitSeen (issuing s t) t bit.toNat
    let clean := bitRefusal s th.world bit.toNat = none ∧ bitHole s bit.toNat = false
    let goes (yes : Bool) (to' : Word) (u : State) : Prop :=
      (thr u t).pc = a + 1 ∧ (thr u t).target = some (if yes then to' else a + 2) ∧ (thr u t).g = th.g ∧ (thr u t).p = th.p ∧
      (thr u t).c = th.c ∧ (thr u t).v = th.v ∧ (∀ k, k ≠ t.val → thr u k = thr s k) ∧ SameMemory s u
    let links (yes : Bool) (u : State) : Prop :=
      (∀ j, j < 4 → (cyclesPass j u).thr = u.thr) ∧
      cyclesPass 4 u = { (if yes then setThr u t (setP (thr u t) 4 (a + 2)) else u) with cycles := u.cycles + 4, pipe := s.pipe }
    let brxTo : Word := match x with | .index gx base => base + BitVec.ofNat 16 (getG th gx).toNat | .pointer ps => getP th ps
    (Plain s (.bz t ga off) → Does (.bz t ga off) s fun u => goes (getG th ga == 0) (a + off) u ∧ links false u ∧ u.io = s.io) ∧
    (Plain s (.bnz t ga off) → Does (.bnz t ga off) s fun u => goes (getG th ga != 0) (a + off) u ∧ links false u ∧ u.io = s.io) ∧
    (Plain s (.jb t bit o) → Does (.jb t bit o) s fun u => goes bv (a + BitVec.ofInt 16 o.toInt) u ∧ links false u ∧ (clean → u.io = s.io)) ∧
    (Plain s (.jnb t bit o) → Does (.jnb t bit o) s fun u => goes (!bv) (a + BitVec.ofInt 16 o.toInt) u ∧ links false u ∧ (clean → u.io = s.io)) ∧
    (Plain s (.jmp t tgt) → Does (.jmp t tgt) s fun u => goes true tgt u ∧ links false u ∧ u.io = s.io) ∧
    (Plain s (.call t tgt) → Does (.call t tgt) s fun u => goes true tgt u ∧ links true u ∧ u.io = s.io) ∧
    (Plain s (.ret t) → Does (.ret t) s fun u => goes true (getP th 4) u ∧ links false u ∧ u.io = s.io) ∧
    (Plain s (.brx t x link) → Does (.brx t x link) s fun u => goes true brxTo u ∧ links link u ∧ u.io = s.io)

/-- NOP, FENCE, WAIT, WAITB (R368, R369): FENCE parks while an access is outstanding, WAITB unless its bit has the value as the thread sees it. WAIT parks
and sets IE as a bit is written; with IE already 1 a delivery may commit in the very cycle of its issue, and with a delivery committed it does
not park (R387, R559). TOLL enters keeper world at TG_KVEC with its budget running and its number in g0, or returns 0xFF in g1 while the keeper
hangs or resets (R371, R438, R441); RTOLL and RETI return (R368, R371).
Model's choices: log entries 2, 36, 111, 113. -/
def Obligations.SystemInstructionEffects : Prop :=
  ∀ (s : State) (t : Fin 8) (bit : BitVec 12) (v : Bool) (n : BitVec 8),
    let th := thr s t
    let s1 := issuing s t
    let s2 := bitEvents s1 t bit.toNat
    let com := icuCommitBy s1 s1
    let shut := rb s .TG_STAT 0 0 || decide (rf s .TG_KRST 0 2 1 ≠ 0)
    let parked (p : Park) (w : Thread) : Thread := { w with st := .parked, park := p }
    let inside : Thread := { issued th with ret := (issued th).pc, inToll := true, world := false, pc := BitVec.ofNat 16 (rn s .TG_KVEC 0),
                                            budget := some (24 * (if rn s .TG_BUDGET 0 = 0 then 1 else rn s .TG_BUDGET 0)) }
    (Plain s (.nop t) → exec (.nop t) s = .next s1) ∧
    (Plain s (.fence t) → exec (.fence t) s = .next (setThr s1 t (if th.outW = 0 ∧ th.outX = 0 then issued th else parked .fence (issued th)))) ∧
    (Plain s (.waitb t bit v) → exec (.waitb t bit v) s = .next (if bitSeen s1 t bit.toNat = v then s2
      else setThr s2 t (parked (.waitb bit.toNat v) (thr s2 t)))) ∧
    (Plain s (.wait t) → th.ie = false → Moves (.wait t) s (parked .wait (issued th)) 3 { parked .wait (issued th) with ie := true }) ∧
    (Plain s (.wait t) → th.ie = true → Does (.wait t) s fun u =>
      u = { (if (thr com t).delivery.isSome then com else setThr com t (parked .wait (thr com t))) with pipe := u.pipe }) ∧
    (Quiet s → issues s t = true → th.delivery.isSome = true → fetchRefused s s t = false → th.target = none → th.stopHeld = false →
      th.haltPend = none → th.stepping = false → s.dev.romoffGo = false →
      Does (.wait t) s fun u => (thr u t).st = .running ∧ (thr u t).pc = th.pc + 1 ∧ (thr u t).delivery = th.delivery) ∧
    (Plain s (.toll t n) → th.world = true → shut = false → Moves (.toll t n) s inside 3 (setG inside 0 n)) ∧
    (Plain s (.toll t n) → th.world = true → shut = true → Lands (.toll t n) s 3 (setG (issued th) 1 0xFF)) ∧
    (Plain s (.rtoll t) → th.inToll = true → exec (.rtoll t) s = .next (setThr s1 t
      { issued th with budget := none, world := true, inToll := false, pc := th.ret })) ∧
    (Plain s (.reti t) → th.inh = true →
      Moves (.reti t) s { issued th with pc := th.epc } 3 { issued th with pc := th.epc, ie := true, inh := false })

/-- Traps of a thread outside a TOLL (R373-R376): TRAP n (cause 0), an illegal word (cause 1), TOLL in keeper world (3), RTOLL outside a TOLL (4),
RETI outside a handler (5): THRn_TRAP holds the address, the code, the cause and the world, OVR where a record stood, VALID; the thread is
STOPPED where none of its accesses is outstanding, else STOPPING (R326).

An instruction forbidden in a delay slot traps there with cause 2 and its major opcode (R365); an instruction that breaks a rule of its own encoding
traps with cause 1 (R331, R343, R345, R357); a normal-world fetch of a keeper word is a violation of KIND 7 and traps with cause 0 (R445).
Model's choices: log entries 2, 38, 132. -/
def Obligations.TrapsStopTheThread : Prop :=
  (∀ (s : State) (t : Fin 8) (n : BitVec 8) (w : Quad),
      let th := thr s t
      let stops (cause code : Nat) (u : State) : Prop :=
        rd u .THR_TRAP t = BitVec.ofNat 32 (th.pc.toNat + 65536 * code + 16777216 * cause + 134217728 * b01 th.world +
          1073741824 * b01 (rb s .THR_TRAP t 31 || rb s .THR_TRAP t 30) + 2147483648) ∧
        (thr u t).st = (if th.outW = 0 ∧ th.outX = 0 then .stopped else .stopping) ∧
        (thr u t).g = th.g ∧ (thr u t).p = th.p ∧ u.pipe = s.pipe ∧ SameMemory s u
      th.inToll = false → th.delivery = none →
      (Plain s (.trap t n) → Does (.trap t n) s (stops 0 n.toNat)) ∧
      (Plain s (.toll t n) → th.world = false → Does (.toll t n) s (stops 3 n.toNat)) ∧
      (Plain s (.rtoll t) → Does (.rtoll t) s (stops 4 6)) ∧
      (Plain s (.reti t) → th.inh = false → Does (.reti t) s (stops 5 7)) ∧
      (Plain s (.nop t) → decodeWord t w = none → Does (.illegalInstruction t w) s (stops 1 (w.toNat / 2 ^ 26)))) ∧
  (∀ (s : State) (i : Instr), isNalti i = true → Quiet s → canIssue s i.thread = true → (thr s i.thread).stopHeld = false →
      (thr s i.thread).inToll = false → (thr s i.thread).haltPend = none → (thr s i.thread).stepping = false → s.dev.romoffGo = false →
      let th := thr s i.thread
      let ends (u : State) : Prop :=
        (thr u i.thread).st = (if th.outW = 0 ∧ th.outX = 0 then .stopped else .stopping) ∧ (thr u i.thread).g = th.g ∧
        rf u .THR_TRAP i.thread 15 0 = th.pc.toNat ∧ u.pipe = s.pipe ∧ SameMemory s u
      (fetchRefused s s i.thread = false → i.legal = false → Does i s fun u => ends u ∧ rf u .THR_TRAP i.thread 26 24 = 1) ∧
      (fetchRefused s s i.thread = false → i.legal = true → th.target.isSome = true → notInSlot i = true →
        Does i s fun u => ends u ∧ rf u .THR_TRAP i.thread 26 24 = 2 ∧ rf u .THR_TRAP i.thread 23 16 = majorOf i) ∧
      (fetchRefused s s i.thread = true → rb s .TG_VIOL 0 31 = false →
        Does i s fun u => ends u ∧ rf u .THR_TRAP i.thread 26 24 = 0 ∧ rf u .TG_VIOL 0 23 20 = 7 ∧ rf u .TG_VIOL 0 15 0 = th.pc.toNat))

/-! ## Registers, crossings, pins, clocks -/

/-- A byte below a register's highest is staged and nothing else changes; the highest byte commits what is staged (R17, R18), shown on THRn_STARTPC.

A write by a thread that R10 refuses changes no register of I/O space but the records of the refusal: TG_VIOL takes KIND 0, the thread and the
address where it holds no record (R10, R472); a write to an unoccupied address changes nothing and counts PRIVATE_HOLE (R20).
Model's choices: log entries 15, 39. -/
def Obligations.RegisterAccesses : Prop :=
  ((∀ (s : State) (req : Nat) (r : Rg) (i k : Nat) (v : Byte), k + 1 < (regInfo r).bytes → 0x100 ≤ regAddr r i → req ≤ 8 →
      findReg (regAddr r i + k) = some (r, i, k) → (runControl r = true → req = 8) → Live s (addrIsland (regAddr r i + k)) →
      permitted s req r i (reqWorld s req) true = true →
      exec (.registerWrite req (regAddr r i + k) v) s =
        .next { s with staged := mset (fun _ => none) s.staged (2 ^ 20 * (req + 1) + (regAddr r i + k)) (some v) }) ∧
    (∀ (s : State) (req : Nat) (n : Fin 8) (lo hi : Byte), req < 8 → reqWorld s req = false → Live s .core →
      mget (fun _ => none) s.staged (2 ^ 20 * (req + 1) + regAddr .THR_STARTPC n) = some lo →
      Does (.registerWrite req (regAddr .THR_STARTPC n + 1) hi) s fun t =>
        rf t .THR_STARTPC n 15 0 = lo.toNat + 256 * hi.toNat ∧ SameIoBut [regAddr .THR_STARTPC n] s t ∧ t.thr = s.thr ∧ SameMemory s t)) ∧
  ((∀ (s : State) (req : Nat) (r : Rg) (i k : Nat) (v : Byte), req < 8 → 0x100 ≤ regAddr r i → findReg (regAddr r i + k) = some (r, i, k) →
      runControl r = false → Live s .core → addrIsland (regAddr r i + k) = .core → regIsland r i = .core →
      mayAccess s r i (reqWorld s req) true = false → rb s .TG_VIOL 0 31 = false →
      Does (.registerWrite req (regAddr r i + k) v) s fun t =>
        rf t .TG_VIOL 0 23 20 = 0 ∧ rf t .TG_VIOL 0 19 16 = req ∧ rf t .TG_VIOL 0 15 0 = (regAddr r i + k) % 65536 ∧ rb t .TG_VIOL 0 31 = true ∧
        t.staged = s.staged ∧ t.thr = s.thr ∧ t.dev = s.dev ∧ SameMemory s t ∧
        ((∀ n, regAddr r i ≠ regAddr .EC_COUNT n ∧ regAddr r i ≠ regAddr .EC_STAT n) → regAddr r i ≠ regAddr .TG_VIOL 0 → rd t r i = rd s r i)) ∧
    (∀ (s : State) (req a : Nat) (v : Byte), req ≤ 8 → 0x100 ≤ a → findReg a = none → addrIsland a ≠ .core → Live s (addrIsland a) →
      exec (.registerWrite req a v) s = .next (send s (toCore (addrIsland a)) (.count 0x01 1))))

/-- A transfer that waits takes a free slot of its crossing in order (R232, R237): none where both slots are busy or STANDBY entry is in progress (R182);
a booked one leaves its term and is counted in transit (R246, R643). A transfer still in a crossing after 64 cycles is recorded, and nothing is
dropped (R259). A captured transfer keeps its slot until the source sees the acknowledge low (R233), after cycles the spec does not state.

A destination captures the oldest transfer of a crossing (R237): the value of an IN or of a window load lands in its register, over what an
instruction issued earlier lands there in the same cycle (R404), and one access is no longer outstanding (R354, R361, R411); a store's acceptance
ends it (R354); an edge that finds its pending bit clear sets it (R525).
Model's choices: log entries 27, 28, 118. -/
def Obligations.CrossingsKeepOrder : Prop :=
  (∀ (s : State) (c : Fin 20) (x : Xfer) (rest : List Xfer),
      (Live s (xSrc c) → s.dev.stbyReq = false → xwaitOf s c = x :: rest → slotsBusy s c < 2 →
        (c.val = 14 → isWindow x = true → windowFull s = false) →
        (∀ b src dst n, x = .book b src dst n → isInflow src = true ∨ (n : Int) ≤ (term s b src).toInt + toward s b src) →
        (∀ ch i u a f, x = .ringGive ch i u a f → (1 : Int) ≤ (term s (4 + ch) 3).toInt + toward s (4 + ch) 3) →
        (∀ ch i st d f, x = .ringDone ch i st d f → (1 : Int) ≤ (term s (4 + ch) 4).toInt + toward s (4 + ch) 4) →
        Does (.crossingIssue c) s fun t =>
          xflyOf t c = xflyOf s c ++ [x] ∧ xwaitOf t c = rest ∧ t.io = s.io ∧ t.thr = s.thr ∧ SameMemory s t ∧
          (∀ b src dst n, x = .book b src dst n → src ≠ termT b → toward t b dst = toward s b dst + n ∧
            term t b (termT b) = term s b (termT b) + BitVec.ofNat 32 n)) ∧
      (s.dev.stbyReq = true ∨ 2 ≤ slotsBusy s c → exec (.crossingIssue c) s = .next s) ∧
      (∀ d, mget (fun _ => []) s.xback c = [] → slotsBusy { slotBack (setFly s c rest) c with cycles := s.cycles + d } c =
        rest.length + (if d < Config.ackCycles c s.fresh then 1 else 0)) ∧
      (Live s .core → xflyOf s c ≠ [] → Does (.crossingStall c) s fun t =>
        rd t .CLK_XSTALL 0 = BitVec.ofNat 32 (c.val + 128) ∧ rb t .CLK_FAIL 0 4 = true ∧ t.xfly = s.xfly ∧ t.thr = s.thr ∧ SameMemory s t)) ∧
  (∀ (s : State) (c : Fin 20) (rest : List Xfer) (t : Fin 8) (r : Fin 16) (p : Fin 5) (b b1 : Byte) (src k : Nat) (keeper : Bool), Live s (xDst c) →
      let s1 := slotBack (setFly s c rest) c
      let th := thr s t
      let left (hits : PipeEntry → Bool) : List PipeEntry := s.pipe.filter fun e => !(hits e && e.land == s.cycles && decide (e.issue < k))
      (xflyOf s c = .inReply ⟨.greg t r, k, keeper⟩ b :: rest → exec (.crossingCapture c) s = .next
        { setThr s1 t { setG th r b with outX := th.outX - 1, outKX := th.outKX - b01 keeper } with pipe := left fun e => e.writesG t r }) ∧
      (xflyOf s c = .farReply ⟨.greg t r, k, keeper⟩ [b] :: rest → exec (.crossingCapture c) s = .next
        { setThr s1 t { setG th r b with outW := th.outW - 1, outKW := th.outKW - b01 keeper } with pipe := left fun e => e.writesG t r }) ∧
      (xflyOf s c = .farReply ⟨.preg t p, k, keeper⟩ [b, b1] :: rest → exec (.crossingCapture c) s = .next
        { setThr s1 t { setP th p (BitVec.ofNat 16 (b.toNat + 256 * b1.toNat)) with outW := th.outW - 1, outKW := th.outKW - b01 keeper } with
          pipe := left fun e => e.writesP t p }) ∧
      (xflyOf s c = .accepted t keeper :: rest →
        exec (.crossingCapture c) s = .next (setThr s1 t { th with outW := th.outW - 1, outKW := th.outKW - b01 keeper })) ∧
      (xflyOf s c = .edge src :: rest → srcReserved src = false → mget (fun _ => false) s.icu.pend src = false →
        Does (.crossingCapture c) s fun t' => mget (fun _ => false) t'.icu.pend src = true ∧ xflyOf t' c = rest ∧ t'.thr = s.thr ∧ SameMemory s t' ∧
          ∀ k, k ≠ src → mget (fun _ => false) t'.icu.pend k = mget (fun _ => false) s.icu.pend k))

/-- Pins (R65, R71, R72, R81, R82, R94): PIN_MUXn takes FUNC and releases the clamp; PIN_WORLDn takes WORLD, returns PIN_MUXn and PIN_PADn to reset and
may lock; the board's level stands at its pad, and overcomes the pin's own where it is the opposite; a contention sets MISMATCH where the pin
drives. A clamped pin is low (R63), a plain output drives its bit at 0x880 + n (R72), a released open drain drives nothing, and a pad shows the
board's level where the pin drives nothing.
Model's choices: log entries 46, 47, 121. -/
def Obligations.PinCommandEffects : Prop :=
  ∀ (s : State) (req : Nat) (n : Fin 96) (v : Byte) (p : Pad) (level : Bool),
    (MayWrite s req .PIN_MUX n → Does (.pinMuxWrite req n v) s fun t =>
      rd t .PIN_MUX n = (v &&& 0xF).zeroExtend 32 ∧ rb t .PIN_STAT n 1 = false ∧ t.thr = s.thr ∧ SameMemory s t) ∧
    (MayWrite s req .PIN_WORLD n → rb s .PIN_WORLD n 1 = false → Does (.pinWorldWrite req n v) s fun t =>
      rb t .PIN_WORLD n 0 = v.getLsbD 0 ∧ rb t .PIN_WORLD n 1 = v.getLsbD 1 ∧ rd t .PIN_MUX n = regReset .PIN_MUX n ∧
      rd t .PIN_PAD n = regReset .PIN_PAD n ∧ rb t .PIN_STAT n 2 = false ∧ t.thr = s.thr ∧ SameMemory s t) ∧
    (MayWrite s req .PIN_WORLD n → Does (.pinWorldLock req n) s fun t =>
      rb t .PIN_WORLD n 1 = true ∧ rb t .PIN_WORLD n 0 = rb s .PIN_WORLD n 0 ∧ t.thr = s.thr ∧ SameMemory s t) ∧
    (Does (.pinInputChange p level) s fun t =>
      (∀ k, mget (fun _ => none) t.pads k = if k = padNo p then some level else mget (fun _ => none) s.pads k) ∧
      (p ≠ .vbus → ∀ k, mget (fun _ => false) t.fight k = if k = padNo p then decide (k < 96) && pinLevelOut s k == some (!level)
        else mget (fun _ => false) s.fight k) ∧
      t.thr = s.thr ∧ t.near = s.near ∧ t.bits = s.bits ∧ t.far.byte = s.far.byte) ∧
    (Live s (regIsland .PIN_STAT n) → pinDrives s n = true → Does (.pinContention n) s fun t =>
      rb t .PIN_STAT n 2 = true ∧ t.thr = s.thr ∧ SameMemory s t) ∧
    (Live s (regIsland .PIN_STAT n) → pinDrives s n = false → exec (.pinContention n) s = .next s) ∧
    (padDark s n = false → mget (fun _ => false) s.fight n = false →
      (rb s .PIN_STAT n 1 = true → padLevel s n = false) ∧
      (rb s .PIN_STAT n 1 = false → s.dev.kill = false → pinFunc s n = 0 → isSafetyPin n = false → rb s .PIN_MUX n 2 = true →
        let b := mget (fun _ => false) s.bits (0x10000 + 0x880 + n)
        (rb s .PIN_MUX n 3 = false → padLevel s n = b) ∧ (rb s .PIN_MUX n 3 = true → b = false → padLevel s n = false) ∧
        (rb s .PIN_MUX n 3 = true → b = true → pinDrives s n = false)) ∧
      (pinDrives s n = false → padLevel s n = padIn s n ∧ ∀ x, mget (fun _ => none) s.pads n = some x → padLevel s n = x))

/-- Clocks coming up (R141, R142, R222, R258): XT_OK; LOCK of an enabled PLL; SWITCH with PLL A and B locked sets ONPLL; a spread change takes the
written DEPTH, 9-15 as 8, and PHASE; islands that stood still run once HFRC does.

Clocks failing (R254, R255, R257): PLL A or B that feeds its islands loses LOCK, ONPLL clears and CLK_FAIL records it; PLL C stops both LINK clocks;
the crystal's loss clears XT_OK and every LOCK.
Model's choices: log entry 48. -/
def Obligations.ClockChanges : Prop :=
  (∀ (s : State) (pll : Fin 3) (req : Nat), outOfReset s = true →
      (exec .xtalStable s = .next (wb s .CLK_STAT 0 0 true)) ∧
      (rb s .CLK_CTL 0 pll = true → rb s .CLK_STAT 0 0 = true → Does (.pllLock pll) s fun t =>
        rb t .CLK_STAT 0 (1 + pll) = true ∧ t.thr = s.thr ∧ SameMemory s t) ∧
      (MayWrite s req .CLK_CTL 0 → rb s .CLK_STAT 0 1 = true → rb s .CLK_STAT 0 2 = true → rb s .CLK_STAT 0 4 = false →
        Does (.switch req) s fun t => rb t .CLK_STAT 0 4 = true ∧ t.dev.onA = true ∧ t.dev.onB = true ∧ t.thr = s.thr ∧ SameMemory s t) ∧
      (exec (.spreadChangeApply false) s = .next (setDev s { s.dev with
        spreadA := BitVec.ofNat 8 (min (rf s .CLK_SSA 0 3 0) 8 + 16 * rf s .CLK_SSA 0 5 4) })) ∧
      (exec (.spreadChangeApply true) s = .next (setDev s { s.dev with
        spreadB := BitVec.ofNat 8 (min (rf s .CLK_SSB 0 3 0) 8 + 16 * rf s .CLK_SSB 0 5 4) })) ∧
      (s.dev.stopA = true ∨ s.dev.stopB = true →
        exec .hfrcRuns s = .next (setDev s { s.dev with hfrc := true, stopA := false, stopB := false }))) ∧
  (∀ (s : State) (pllB : Bool), outOfReset s = true →
      let k := if pllB then 1 else 0
      (rb s .CLK_STAT 0 (1 + k) = true → (if pllB then s.dev.onB else s.dev.onA) = true → Does (.pllUnlock pllB) s fun t =>
        rb t .CLK_STAT 0 (1 + k) = false ∧ rb t .CLK_STAT 0 4 = false ∧ rb t .CLK_FAIL 0 (1 + k) = true ∧ t.thr = s.thr ∧ SameMemory s t) ∧
      (rb s .CLK_STAT 0 3 = true → Does .pllCUnlock s fun t =>
        rb t .CLK_STAT 0 3 = false ∧ rb t .CLK_FAIL 0 3 = true ∧ t.dev.linkOn = false ∧ t.thr = s.thr ∧ SameMemory s t) ∧
      (rb s .CLK_STAT 0 0 = true → Does .xtalFail s fun t =>
        (∀ b, b < 4 → rb t .CLK_STAT 0 b = false) ∧ rb t .CLK_FAIL 0 0 = true ∧ t.thr = s.thr ∧ SameMemory s t))

/-! ## Resets, modes, STANDBY, the RTC and the watchdog -/

/-- AO POR (R131, R1077): every register takes its reset value but PMU_RSTCAUSE, which shows it; retention RAM, IRAM and the debug session are lost;
the device is held. VDDAO's return, RSTN's rise and VDD33's rise start the near-RAM clear once all are there (R130, R136, R144).

A brown-out and an RSTN low (R132, R136, R138, R316): threads, near RAM and IRAM are as at reset, IRAM_VALID clears, PMU_RSTCAUSE shows the cause, the
retention RAM and the pads stay, the device is held. A low on RSTN while the link is active resets nothing (R1075, R135).
Model's choices: log entry 50. -/
def Obligations.ResetsAndReleases : Prop :=
  (∀ s : State,
      (Does .aoPor s fun t => rd t .PMU_RSTCAUSE 0 = 32 ∧ (∀ r i, regAddr r i ≠ 0x402 → rd t r i = regReset r i) ∧ t.retain = [] ∧ t.iram = [] ∧
        t.near = [] ∧ t.thr = [] ∧ t.dbg.active = false ∧ t.dev.phase = .held ∧ t.pads = s.pads ∧ t.pending = s.pending) ∧
      (s.dev.vddao = false → Does .aoPorRelease s fun t => t.dev.vddao = true ∧
        t.dev.phase = (if s.dev.vdd33 ∧ s.dev.rstnLow = false then .clearing else .held) ∧ t.io = s.io ∧ SameMemory s t) ∧
      (s.dev.phase = .held → s.dev.vdd33 = false → s.dev.vddao = true → s.dev.waking = false → rb s .PMU_RSTCAUSE 0 1 = false →
        Does .porRelease s fun t => t.dev.vdd33 = true ∧ rd t .PMU_RSTCAUSE 0 = 1 ∧
          t.dev.phase = (if s.dev.rstnLow then .held else .clearing) ∧ SameMemory s t) ∧
      (s.dev.rstnLow = true → Does .rstnRelease s fun t => t.dev.rstnLow = false ∧
        t.dev.phase = (if s.dev.vdd33 ∧ s.dev.vddao then .clearing else .held) ∧ t.io = s.io ∧ SameMemory s t) ∧
      (s.dev.phase = .clearing → timerDue s tmrClear = true → s.dev.waking = false →
        exec .nearRamClearDone s = .next (setDev (stopTimer s tmrClear) { s.dev with phase := .awake }))) ∧
  (∀ s : State,
      let lost (cause : Quad) (t : State) : Prop := rd t .PMU_RSTCAUSE 0 = cause ∧ rb t .RTC_FLAGS 0 0 = false ∧ t.thr = [] ∧ t.near = [] ∧ t.iram = [] ∧
        t.retain = s.retain ∧ t.pads = s.pads ∧ t.pending = s.pending ∧ t.dev.phase = .held ∧ inRun t = false
      (s.dev.vdd33 = true → s.dev.vddao = true → s.dev.phase ≠ .standby → Does .brownOut s (lost 2)) ∧
      (s.dbg.active = false → s.dev.vddao = true → Does .rstnReset s (lost 4)) ∧
      (s.dbg.active = true → exec .rstnReset s = .next s))

/-- The SAFE feed sequencer (R148-R151), which the ROM enables in PP_FCTL: each step drives the next row of the table and is counted, 4,800 in one press
of the button; it stops into a hold and then lets the windings float.
Model's choices: log entries 5, 53. -/
def Obligations.SafeFeedSequence : Prop :=
  ∀ s : State, Live s .print → inRun s = false →
    let f := s.pp.feed
    let row := f.safeSteps % 8
    (f.safeOn = false → rb s .PP_FCTL 0 1 = true → s.pp.cover = false → s.pp.button = true → f.safeSteps < 4800 → Does .safeFeedStart s fun t =>
      t.pp.feed.safeOn = true ∧ t.pp.feed.safeSteps = f.safeSteps ∧ timerDue t tmrSafeStep = true ∧ t.io = s.io ∧ SameMemory s t) ∧
    (f.safeOn = true → timerDue s tmrSafeStep = true → rb s .PP_FCTL 0 1 = true → s.pp.cover = false → s.pp.button = true → f.safeSteps < 4800 →
      Does .safeFeedStep s fun t => t.pp.feed.safeSteps = f.safeSteps + 1 ∧
        t.pp.feed.windA.on = (row != 2 && row != 6) ∧ t.pp.feed.windB.on = (row != 0 && row != 4) ∧
        (t.pp.feed.windA.on = true → t.pp.feed.windA.plus = (row == 0 || row == 1 || row == 7)) ∧
        (t.pp.feed.windB.on = true → t.pp.feed.windB.plus = (row == 1 || row == 2 || row == 3)) ∧ t.io = s.io ∧ SameMemory s t) ∧
    (f.safeOn = true → (rb s .PP_FCTL 0 1 = false ∨ s.pp.cover = true ∨ s.pp.button = false ∨ 4800 ≤ f.safeSteps) → Does .safeFeedStop s fun t =>
      t.pp.feed.safeOn = false ∧ t.pp.feed.safeHold = true ∧ timerOn t tmrSafeHold = true ∧ timerOn t tmrSafeStep = false ∧ t.io = s.io ∧ SameMemory s t) ∧
    (f.safeHold = true → timerDue s tmrSafeHold = true → Does .safeFeedHoldEnd s fun t =>
      t.pp.feed.safeHold = false ∧ t.pp.feed.floating = true ∧ t.pp.feed.windA.on = false ∧ t.pp.feed.windB.on = false ∧ t.io = s.io ∧ SameMemory s t)

/-- Entering RUN and DOZE, asking for STANDBY (R153, R167, R168, R174, R176, R177, R190): RUN only from ROM, once its checks have passed and not out of
SAFE-hold; the digest goes to the ROM record and T0 to the header's ENTRY, after a fast wake to RTC_WAKEVEC; ROMOFF arms the release of the
overlay.

STANDBY entry and the wake (R182, R183, R185, R190, R193, R549): with every crossing empty and nothing against it the islands lose their state, the ICU
is saved, IRAM stays where IRAM_RET is 1; a hand-over in progress aborts it with cause 3; an enabled source that is active wakes the device with cause WAKE.
Model's choices: log entries 52, 54, 55, 128, 130. -/
def Obligations.ModesAndStandby : Prop :=
  (∀ (s : State) (req : Nat),
      (MayWrite s req .PMU_MODE 0 → inRun s = false → fromRom s req = true → rb s .PMU_MODE 0 2 = false → rb s .DBG_ARM 0 0 = false →
        (thr s 0).haltPend = none → (thr s 0).st ≠ .halted →
        let runs (entry how : Nat) (t : State) : Prop := inRun t = true ∧ rd t .PMU_BOOTSTAT 0 = BitVec.ofNat 32 how ∧ t.mon.open_ = false ∧
          rb t .DBG_STAT 0 1 = false ∧ (thr t 0).st = .running ∧ (thr t 0).pc = BitVec.ofNat 16 entry ∧ (thr t 0).world = false ∧
          t.dev.overlay = false ∧ (∀ n, n ≠ 0 → thr t n = thr s n) ∧ t.near = s.near ∧ t.iram = s.iram
        (fastWake s = false → s.dev.romPass ≠ 0 → Does (.enterRun req) s fun t => runs (hdrEntry (s.dev.hdr.getD [])) s.dev.romPass t ∧
          ∀ i, i < 32 → mget (fun _ => 0) t.retain (0x1FC0 + i) = (digestNow s).getD i 0) ∧
        (fastWake s = true → Does (.enterRun req) s fun t => runs (rn s .RTC_WAKEVEC 0) 0x20 t ∧ t.retain = s.retain)) ∧
      (MayWrite s req .PMU_MODE 0 → fromRom s req = false ∨ romMayRun s = false → exec (.enterRun req) s = .next s) ∧
      (MayWrite s req .PMU_IMAP 0 → exec (.romoffArm req) s = .next (setDev (wb s .PMU_IMAP 0 0 true) { s.dev with romoffArmed := true })) ∧
      (Live s .core → inRun s = true → rb s .PMU_CTL 0 0 = true → s.dev.stbyReq = false → (∀ n, n < 8 → wouldUnpark s n = false ∧ mayDoze (thr s n) = true) →
        exec .dozeEntry s = .next (setDev s { s.dev with doze := true })) ∧
      (MayWrite s req .PMU_MODE 0 → inRun s = true → s.dev.stbyReq = false → Does (.standbyRequest req) s fun t =>
        t.dev.stbyReq = true ∧ t.dev.doze = false ∧ rd t .PMU_STBYSTAT 0 = 0 ∧ t.thr = s.thr ∧ SameMemory s t) ∧
      (MayWrite s req .PMU_MODE 0 → inRun s = false → exec (.standbyRequest req) s = .next s)) ∧
  (∀ (s : State) (src : Fin 4),
      (Live s .core → s.dev.stbyReq = true → s.xfly = [] → (∀ n, n < 31 → hoPhase s n = 0) → rf s .TG_KRST 0 2 1 = 0 →
        rd (closeBooks s) .LED_FAILED 0 = rd s .LED_FAILED 0 → wakePending (closeBooks s) = false → Does .standbyCrossingsDrained s fun t =>
          t.dev.phase = .standby ∧ t.thr = [] ∧ t.near = [] ∧ t.dev.retRet = (closeBooks s).icu.ret ∧ t.dev.retPend = (closeBooks s).icu.pend ∧
          t.iram = (if rb (closeBooks s) .PMU_CTL 0 1 then s.iram else []) ∧ t.retain = s.retain) ∧
      (Live s .core → s.dev.stbyReq = true → s.xfly = [] → (∃ n, n < 31 ∧ hoPhase s n ≠ 0) → Does .standbyCrossingsDrained s fun t =>
        t.dev.stbyReq = false ∧ rd t .PMU_STBYSTAT 0 = 3 ∧ t.thr = s.thr ∧ SameMemory s t) ∧
      (s.dev.phase = .standby → wakeOn s src = true → s.dev.vdd33 = true → s.dev.vddao = true → s.dev.rstnLow = false →
        Does (.wakeSource src) s fun t => rb t .RTC_WAKESRC 0 src = true ∧ rd t .PMU_RSTCAUSE 0 = 16 ∧ t.dev.phase = .clearing ∧ t.dev.waking = true ∧
          t.retain = s.retain ∧ t.iram = (if rb s .RTC_FLAGS 0 0 then s.iram else [])) ∧
      (wakeOn s src = false → exec (.wakeSource src) s = .next s))

/-- The RTC (R197-R200): RTC_SET loads with SUB 0, the trim moves the count by its signed cycles modulo 2^47, the alarm flag sets at its second, the crystal's
failure and return show.

Retention RAM through its ports (R206, R207): the byte at ADDR is read or written and ADDR moves on; the ROM record is kept from the keeper's port in RUN.
The watchdog (R201-R205, R211): EN loads the count, 0xA5 reloads it and no other value does, an expiry resets with cause WDT, a kick on that edge wins. -/
def Obligations.RtcRetentionAndWatchdog : Prop :=
  (∀ (s : State) (v : Quad), s.dev.vddao = true →
      (s.dev.rtcSet = some v → Does .rtcSetLoad s fun t => rd t .RTC_SEC 0 = v ∧ rd t .RTC_SUB 0 = 0 ∧ t.dev.rtcSet = none ∧
        SameIoBut [regAddr .RTC_SEC 0, regAddr .RTC_SUB 0] s t ∧ t.thr = s.thr ∧ SameMemory s t) ∧
      (Does .rtcTrimApply s fun t => (rtcCount t : Int) = ((rtcCount s : Int) + signedOf 8 (rn s .RTC_TRIM 0)) % 2 ^ 47 ∧
        SameIoBut [regAddr .RTC_SEC 0, regAddr .RTC_SUB 0] s t ∧ t.thr = s.thr ∧ SameMemory s t) ∧
      (rd s .RTC_SEC 0 = rd s .RTC_ALARM 0 → rd s .RTC_SUB 0 = 0 → Does .rtcAlarmMatch s fun t => rb t .RTC_STAT 0 0 = true ∧
        SameIoBut [regAddr .RTC_STAT 0] s t ∧ t.thr = s.thr ∧ SameMemory s t) ∧
      (Does .rtcXtalFail s fun t => rb t .RTC_STAT 0 1 = true ∧ rb t .RTC_STAT 0 2 = true ∧ rb t .CLK_STAT 0 5 = false ∧ t.thr = s.thr ∧ SameMemory s t) ∧
      (rb s .RTC_STAT 0 2 = true → Does .rtcXtalRestore s fun t => rb t .RTC_STAT 0 2 = false ∧ t.thr = s.thr ∧ SameMemory s t)) ∧
  (∀ (s : State) (req : Nat) (np : Bool) (b : Byte) (t8 : Fin 8) (r : Fin 16),
      let a := rrAddr s np
      let load : Quad := BitVec.ofNat 32 (if rn s .PMU_WDTLOAD 0 = 0 then 1 else rn s .PMU_WDTLOAD 0)
      let guarded := np = false ∧ inRun s = true ∧ 0x1FC0 ≤ a ∧ a < 0x2000
      (MayWrite s req (rrReg np) 0 → Does (.retentionDataAccess req np (some b) .debug) s fun t =>
        (∀ k, mget (fun _ => 0) t.retain k = if k = a ∧ ¬guarded then b else mget (fun _ => 0) s.retain k) ∧
        t.near = s.near ∧ t.thr = s.thr ∧ (a + 1 < 0x2000 → np = false → rrAddr t np = a + 1)) ∧
      (MayRead s req (rrReg np) 0 → req < 8 → Does (.retentionDataAccess req np none (.greg t8 r)) s fun t =>
        xwaitOf t 11 = xwaitOf s 11 ++ [.inReply ⟨.greg t8 r, s.cycles, !(thr s t8).world⟩ (mget (fun _ => 0) s.retain a)] ∧ t.retain = s.retain ∧ (thr t t8).outX = (thr s t8).outX + 1) ∧
      (MayWrite s req .PMU_WDTCTL 0 → rb s .PMU_WDTCTL 0 0 = false → Does (.wdtEnable req) s fun t =>
        rb t .PMU_WDTCTL 0 0 = true ∧ rd t .PMU_WDTCNT 0 = load ∧ SameIoBut [regAddr .PMU_WDTCTL 0, regAddr .PMU_WDTCNT 0] s t ∧ t.thr = s.thr ∧ SameMemory s t) ∧
      (MayWrite s req .PMU_WDTKICK 0 → exec (.wdtKick req b) s = .next (if b = 0xA5 then wr s .PMU_WDTCNT 0 load else s)) ∧
      (s.dev.phase = .awake → (∀ n, n < 8 → (thr s n).st ≠ .halted) → rb s .PMU_WDTCTL 0 0 = true → rd s .PMU_WDTCNT 0 = 0 →
        (Does (.wdtExpiry false) s fun t => rd t .PMU_RSTCAUSE 0 = 8 ∧ t.thr = [] ∧ t.near = [] ∧ t.retain = s.retain ∧ inRun t = false) ∧
        (Does (.wdtExpiry true) s fun t => rd t .PMU_WDTCNT 0 = load ∧ t.thr = s.thr ∧ SameMemory s t)))

/-! ## Threads, windows, run control, the interrupt controller -/

/-- START of a STOPPED thread (R303, R305, R306, R307): RUNNING at STARTPC in its home world, its registers and flags 0; outside RUN only T0 starts. STOP
(R309-R313, R326): the registers stay; STOPPED at once where nothing is outstanding, else STOPPING until it has landed (R312); held for a delay
slot (R310) and inside a TOLL (R311).

A parked thread runs again once its condition holds and not before (R368, R369, R413); its registers stay. -/
def Obligations.ThreadsStartStopAndRelease : Prop :=
  (∀ (s : State) (req : Nat) (n : Fin 8),
      let th := thr s n
      (MayWrite s req .THR_CTL n → th.st = .stopped → (n = 0 ∨ inRun s = true) → th.haltPend = none → Does (.threadStart req n) s fun t =>
        t = setThr (leaveDoze s) n (thr t n) ∧ (thr t n).st = .running ∧ (thr t n).pc = BitVec.ofNat 16 (rn s .THR_STARTPC n) ∧
        (thr t n).world = rb s .THR_WORLD n 0 ∧ (∀ k, getG (thr t n) k = 0) ∧ (∀ k, getP (thr t n) k = 0) ∧ (thr t n).epc = 0 ∧
        (thr t n).c = false ∧ (thr t n).v = false ∧ (thr t n).ie = false ∧ (thr t n).inh = false ∧ (thr t n).inToll = false) ∧
      (MayWrite s req .THR_CTL n → (th.st ≠ .stopped ∨ n ≠ 0 ∧ inRun s = false) → exec (.threadStart req n) s = .next s) ∧
      ((MayWrite s req .THR_CTL n ∨ req = n ∧ Live s .core) → th.st ≠ .stopped → th.st ≠ .stopping → th.delivery = none →
        Does (.threadStop req n) s fun t => t = setThr s n (thr t n) ∧ (thr t n).g = th.g ∧ (thr t n).p = th.p ∧ (thr t n).pc = th.pc ∧
          (th.inToll = false → (th.target = none ∨ th.st = .halted) → (thr t n).st = (if th.outW = 0 ∧ th.outX = 0 then .stopped else .stopping)) ∧
          (th.inToll = true ∨ th.target.isSome = true ∧ th.st ≠ .halted → (thr t n).st = th.st ∧ (thr t n).stopHeld = true)) ∧
      (Live s .core → th.st = .stopping → th.outW = 0 → th.outX = 0 →
        exec (.threadStopped n) s = .next (setThr s n { th with st := .stopped })) ∧
      (Live s .core → (th.outW ≠ 0 ∨ th.outX ≠ 0) → exec (.threadStopped n) s = .next s)) ∧
  (∀ (s : State) (n : Fin 8), Live s .core → s.dev.doze = false → (thr s n).st = .parked →
      let th := thr s n
      let free := (th.park = .fence ∧ th.outW = 0 ∧ th.outX = 0) ∨ (th.park = .limitWindow ∧ th.outW < 4) ∨ (th.park = .limitIn ∧ th.outX < 4) ∨
        (∃ b v, th.park = .waitb b v ∧ bitSeen s n b = v)
      (free → exec (.parkRelease n) s = .next (setThr s n { th with st := .running, park := .none })) ∧
      (¬free → exec (.parkRelease n) s = .next s))

/-- THRn_WORLD (R308): WORLD of a STOPPED thread is set, T0's and a locked one are fixed, any other thread's write is ignored; LOCK freezes it. A normal
thread's window owner outside its grant is refused with REJ, a keeper's is taken (R286, R287).

The IRAM port (R275, R316, R319, R320): a keeper read answers byte 0 of the word at ADDR, a keeper commit writes it, both move ADDR on; a normal-world
write stores nothing and is recorded with KIND 5; a normal-world read below the watermark answers 0.
Model's choices: log entries 15, 21. -/
def Obligations.WorldsWindowsAndIramPort : Prop :=
  (∀ (s : State) (req : Nat) (n : Fin 8) (v : Byte) (w : Word),
      (MayWrite s req .THR_WORLD n → (thr s n).st = .stopped → Does (.threadWorldWrite req n v) s fun t =>
        rb t .THR_WORLD n 0 = (if n = 0 ∨ rb s .THR_WORLD n 1 = true then rb s .THR_WORLD n 0 else v.getLsbD 0) ∧
        rb t .THR_WORLD n 1 = (rb s .THR_WORLD n 1 || v.getLsbD 1) ∧ SameIoBut [regAddr .THR_WORLD n] s t ∧ t.thr = s.thr ∧ SameMemory s t) ∧
      (MayWrite s req .THR_WORLD n → (thr s n).st ≠ .stopped → exec (.threadWorldWrite req n v) s = .next s) ∧
      (MayWrite s req .THR_WORLD n → (thr s n).st = .stopped → Does (.threadWorldLock req n) s fun t =>
        rb t .THR_WORLD n 1 = true ∧ rb t .THR_WORLD n 0 = rb s .THR_WORLD n 0 ∧ SameIoBut [regAddr .THR_WORLD n] s t ∧ t.thr = s.thr ∧ SameMemory s t) ∧
      (∀ normal : Bool, MayWrite s req .WIN_OWN (2 * n + b01 normal) → reqWorld s req = false →
        Does (.windowOwnerWrite req n normal w) s fun t => rf t .WIN_OWN (2 * n + b01 normal) 11 0 = w.toNat % 4096 ∧
          SameIoBut [regAddr .WIN_OWN (2 * n + b01 normal)] s t ∧ t.thr = s.thr ∧ SameMemory s t) ∧
      (req = n → Live s .core → reqWorld s req = true → Does (.windowOwnerWrite req n true w) s fun t => t.thr = s.thr ∧ SameMemory s t ∧
        ∀ k, k < 3 →
          let o := fld (w.zeroExtend 32) (4 * k + 3) (4 * k)
          let ok := o = 15 ∨ (1 ≤ o ∧ o ≤ 14 ∧ nbit (rn s .TG_GRANT req) o = true)
          rf t .WIN_OWN (2 * n + 1) (4 * k + 3) (4 * k) = (if ok then o else rf s .WIN_OWN (2 * n + 1) (4 * k + 3) (4 * k)) ∧
          (¬ok → rb t .WIN_STAT (2 * n + 1) 0 = true ∧ rb t .TG_VIOL 0 31 = true))) ∧
  (∀ (s : State) (req : Nat) (t8 : Fin 8) (g : Fin 16) (v : Quad),
      let a := (rdReq s .TG_IRADDR req).toNat
      (MayWrite s req .TG_IRDATA 0 → reqWorld s req = false → Does (.iramPortWrite req v) s fun t =>
        (∀ k, iramAt t k = if k = a then v else iramAt s k) ∧ (rdReq t .TG_IRADDR req).toNat = (a + 1) % 65536 ∧ t.thr = s.thr ∧
        t.near = s.near ∧ t.bits = s.bits) ∧
      (MayWrite s req .TG_IRDATA 0 → reqWorld s req = true → rb s .TG_VIOL 0 31 = false → Does (.iramPortWrite req v) s fun t =>
        rf t .TG_VIOL 0 23 20 = 5 ∧ (rdReq t .TG_IRADDR req).toNat = (a + 1) % 65536 ∧ t.thr = s.thr ∧ SameMemory s t) ∧
      (MayRead s req .TG_IRDATA 0 → (reqWorld s req = false ∨ iwmWord s ≤ a) → Does (.iramPortRead req (.greg t8 g)) s fun t =>
        getG (thr t t8) g = byteOf (iramAt s a) 0 ∧ (∀ k, k ≠ g.val → getG (thr t t8) k = getG (thr s t8) k) ∧
        (∀ k, k ≠ t8.val → thr t k = thr s k) ∧ (rdReq t .TG_IRADDR req).toNat = (a + 1) % 65536 ∧ SameMemory s t) ∧
      (MayRead s req .TG_IRDATA 0 → reqWorld s req = true → a < iwmWord s → Does (.iramPortRead req (.greg t8 g)) s fun t =>
        getG (thr t t8) g = 0 ∧ rb t .TG_VIOL 0 31 = true ∧ (rdReq t .TG_IRADDR req).toNat = (a + 1) % 65536 ∧ SameMemory s t))

/-- Run control by the debug bus master (R1093, R1096, R1097, R1098, R1091): a halt at a boundary with cause 1, resume, step, and registers of a halted thread read
and written; a thread's write of a run-control register does nothing.
Model's choices: log entries 17, 18, 32, 34. -/
def Obligations.RunControlEffects : Prop :=
  ∀ (s : State) (n : Fin 8) (r : Fin 16) (w : Word) (t8 : Fin 8) (g : Fin 16),
    let m : Byte := BitVec.ofNat 8 (2 ^ n.val)
    let th := thr s n
    (MayWrite s 8 .DBG_HALT 0 → th.st = .running → th.target = none → th.forced = false → th.delivery = none → haltPermitted s n = true →
      haltNever s n = false → Does (.debugHalt 8 m) s fun t => (thr t n).st = .halted ∧ rd t .DBG_HCAUSE n = 1 ∧ (thr t n).pc = th.pc ∧ (thr t n).g = th.g ∧
        (∀ k, k ≠ n.val → thr t k = thr s k) ∧ SameIoBut [regAddr .DBG_HCAUSE n] s t ∧ SameMemory s t) ∧
    (MayWrite s 8 .DBG_RESUME 0 → th.st = .halted → exec (.debugResume 8 m) s = .next (setThr (leaveDoze s) n { th with st := .running })) ∧
    (MayWrite s 8 .DBG_STEP 0 → th.st = .halted → haltPermitted s n = true → Does (.debugStep 8 (BitVec.ofNat 8 (n.val + 8))) s fun t =>
      thr t n = { th with st := .running, stepping := true } ∧ (∀ k, k ≠ n.val → thr t k = thr s k) ∧ SameMemory s t) ∧
    (MayWrite s 8 .DBG_REGDATA 0 → rd s .DBG_REGSEL 0 = BitVec.ofNat 32 (n.val + 8 * r.val) → th.st = .halted →
      invasive s (keeperScope th) = true → exec (.debugRegisterAccess 8 (some w) .debug) s =
        .next (setThr s n (setG th r (BitVec.ofNat 8 w.toNat)))) ∧
    (MayRead s 8 .DBG_REGDATA 0 → rd s .DBG_REGSEL 0 = BitVec.ofNat 32 (n.val + 8 * r.val) → th.st = .halted →
      observing s (keeperScope th) = true → Does (.debugRegisterAccess 8 none (.greg t8 g)) s fun t => getG (thr t t8) g = getG th r ∧ SameMemory s t) ∧
    (∀ req, req < 8 → exec (.debugHalt req m) s = .next s ∧ exec (.debugResume req m) s = .next s ∧ exec (.debugStep req m) s = .next s)

/-- Breakpoints and watchpoints (R1099, R1100, R1094): a match halts a permitted thread before it issues with cause 3 or 4 and the comparator's number; one
disabled does nothing. A sample shows the latest address of the next thread that may be observed (R1107).
Model's choices: log entries 4, 37. -/
def Obligations.BreakpointsWatchpointsSamples : Prop :=
  ∀ (s : State) (n : Fin 8) (k : Fin 4) (j : Fin 2) (space : Fin 3) (a : BitVec 24) (write : Bool) (req : Nat) (t8 : Fin 8) (g : Fin 16),
    let th := thr s n
    let b := rd s .DBG_BP k
    let wa := rd s .DBG_WPA j
    let wm := rd s .DBG_WPM j
    (Live s .core → b.getLsbD 31 = true → b.getLsbD (16 + n) = true → fld b 15 0 = th.pc.toNat → fld b 25 24 % 3 = 0 → b.getLsbD 26 = false →
      canIssue s n = true → th.target = none → th.delivery = none → haltPermitted s n = true → Does (.breakpointMatch n k) s fun t =>
        (thr t n).st = .halted ∧ rd t .DBG_HCAUSE n = BitVec.ofNat 32 (3 + 16 * k.val) ∧ (thr t n).pc = th.pc ∧
        (∀ i, i ≠ n.val → thr t i = thr s i) ∧ SameMemory s t) ∧
    (Live s .core → b.getLsbD 31 = false → exec (.breakpointMatch n k) s = .next s) ∧
    (Live s .core → th.st = .running → wa.getLsbD 31 = true → wm.getLsbD (24 + n) = true → fld wa 25 24 = space.val →
      wa.getLsbD (if write then 27 else 26) = true → (∀ i, i < 24 → wm.getLsbD i = true → wa.getLsbD i = a.getLsbD i) → th.target = none →
      th.forced = false → th.delivery = none → haltPermitted s n = true → Does (.watchpointMatch n j space a write) s fun t =>
        (thr t n).st = .halted ∧ rd t .DBG_HCAUSE n = BitVec.ofNat 32 (4 + 16 * j.val) ∧ (∀ i, i ≠ n.val → thr t i = thr s i) ∧ SameMemory s t) ∧
    (Live s .core → wa.getLsbD 31 = false → exec (.watchpointMatch n j space a write) s = .next s) ∧
    (MayRead s req .DBG_PCSAMP 0 → s.dbg.pcNext = n.val → observing s (keeperScope th) = true → Does (.pcSampleRead req (.greg t8 g)) s fun t =>
      getG (thr t t8) g = BitVec.ofNat 8 th.lastPc.toNat ∧ t.dbg.pcNext = (n.val + 1) % 8 ∧ SameMemory s t)

/-- The slot map (R399, R400): a map that gives T0 a slot is pending and in force at its slot-0 cycle, one that does not is refused with REJ. The interrupt controller (R533, R536-R539,
R541): the commit of a lone deliverable source clears its bit and gives it to the next receptive thread; at handler entry, in the thread's next
slot, EPC (R366, R370), INH and ICU_CURn are written and the thread runs at its vector. SWLOCK (R550).
Model's choices: log entries 111, 114. -/
def Obligations.SlotMapAndInterruptDelivery : Prop :=
  ∀ (s : State) (req : Nat) (v : Quad) (n : Fin 8) (src : Fin 128),
    (MayWrite s req .PMU_SLOTMAP 0 → inMap v 0 = true → Does (.slotmapWrite req v) s fun t =>
      t.dev.slotPend = some (v &&& 0xFFFFFF) ∧ rb t .PMU_SLOTSTAT 0 0 = true ∧ rd t .PMU_SLOTMAP 0 = rd s .PMU_SLOTMAP 0 ∧ t.thr = s.thr ∧ SameMemory s t) ∧
    (MayWrite s req .PMU_SLOTMAP 0 → inMap v 0 = false → Does (.slotmapWrite req v) s fun t =>
      t.dev.slotPend = s.dev.slotPend ∧ rb t .PMU_SLOTSTAT 0 1 = true ∧ rd t .PMU_SLOTMAP 0 = rd s .PMU_SLOTMAP 0 ∧ t.thr = s.thr ∧ SameMemory s t) ∧
    (Live s .core → s.pipe = [] → levelsWatched s = false → s.dev.slotPend = some v → s.cycles < s.dev.slotAt → (∀ k, k < 8 → (thr s k).delivery = none) →
      Does .slotmapApply s fun t => t.cycles = s.dev.slotAt ∧
      rd t .PMU_SLOTMAP 0 = v ∧ rb t .PMU_SLOTSTAT 0 0 = false ∧ t.dev.slotPend = none ∧ t.thr = s.thr ∧ SameMemory s t) ∧
    (Live s .core → s.pipe = [] → s.dev.doze = false → srcReserved src = false → rb s .ICU_SRC src 0 = true → pendBit s src = true → retBit s src = false →
      (∀ k, k < 128 → k ≠ src.val → pendBit s k = false ∧ retBit s k = false) →
      (∀ k, k < 8 → (thr s k).delivery ≠ some src.val) → pickTarget s (rd s .ICU_SRC src) src = some n.val → Does .icuCommit s fun t =>
        thr t n = { thr s n with delivery := some src.val } ∧ (∀ k, k ≠ n.val → thr t k = thr s k) ∧ pendBit t src = false ∧
        mget (fun _ => 7) t.icu.rr src = n.val ∧ t.io = s.io ∧ SameMemory s t) ∧
    ((∀ k, k < 128 → pendBit s k = false ∧ retBit s k = false) → Live s .core → s.dev.doze = false → exec .icuCommit s = .next s) ∧
    (Quiet s → coreIssues s = true → ownsSlot s n = true → ((thr s n).st = .running ∨ (thr s n).st = .parked) → (thr s n).target = none → (thr s n).forced = false →
      (thr s n).delivery = some src.val → Does (.handlerEntry n) s fun t =>
        (thr t n).epc = (match (thr s n).st, (thr s n).park with
          | .parked, .waitb _ _ => (thr s n).lastPc
          | .parked, .fence => (thr s n).lastPc
          | _, _ => (thr s n).pc) ∧
        t.cycles + 1 = (atSlot s n).cycles ∧ (thr t n).st = .running ∧ (thr t n).inh = true ∧ (thr t n).delivery = none ∧
        (thr t n).pc = BitVec.ofNat 16 (rn s .ICU_VBASE (2 * n + b01 (thr s n).world) + 2 * src) ∧ (thr t n).g = (thr s n).g ∧ (thr t n).p = (thr s n).p ∧
        rd t .ICU_CUR n = BitVec.ofNat 32 (src.val + 128) ∧ (∀ k, k ≠ n.val → thr t k = thr s k) ∧ SameMemory s t) ∧
    (MayWrite s req .ICU_CTL 0 → exec (.icuSwlock req) s = .next (wb s .ICU_CTL 0 0 true))

/-! ## The Tollgate -/

/-- TOLL expiry and the forced return (R434, R253, R437): HUNG with the thread's number, the thread forced; once nothing that it issued in keeper world is
outstanding g1 is 0xFF, every other register 0, accesses from before the TOLL stay outstanding (R388), the flags 0 and it continues at Return in normal world; an RTOLL on the expiry edge wins.

The keeper reset (R440, R441): a request forces every TOLL back and stops every other keeper-home thread; once all are STOPPED T0 starts, TG_STAT clears,
DONE and source 21 set; a request while one runs does nothing. The vector and watermark locks set (R431, R450).
Model's choices: log entries 4, 5, 40. -/
def Obligations.TollExpiryKeeperResetAndLocks : Prop :=
  (∀ (s : State) (n : Fin 8), Live s .core →
      let th := thr s n
      (th.inToll = true → th.forced = false → th.budget = some 0 → rb s .TG_STAT 0 0 = false → rb s .TG_CTL 0 0 = false → th.delivery = none →
        Does (.tollBudgetExpiry n false) s fun t =>
          rd t .TG_STAT 0 = BitVec.ofNat 32 (1 + 2 * n.val) ∧ (thr t n).forced = true ∧ (thr t n).target = none ∧ (thr t n).g = th.g ∧
          mget (fun _ => false) t.icu.pend 20 = true ∧ (∀ k, k ≠ n.val → thr t k = thr s k) ∧ SameMemory s t) ∧
      (th.inToll = true → th.forced = false → th.budget = some 0 → Does (.tollBudgetExpiry n true) s fun t =>
        thr t n = { th with budget := none } ∧ (∀ k, k ≠ n.val → thr t k = thr s k) ∧ SameMemory s t) ∧
      (th.forced = true → s.pipe = [] → th.outKW = 0 → th.outKX = 0 → th.stopHeld = false → th.haltPend = none → th.stepping = false →
        Does (.forcedReturn n) s fun t => t = setThr s n (thr t n) ∧ getG (thr t n) 1 = 0xFF ∧ (∀ k, k ≠ 1 → getG (thr t n) k = 0) ∧
          (∀ k, getP (thr t n) k = 0) ∧ (thr t n).c = false ∧ (thr t n).v = false ∧ (thr t n).world = true ∧ (thr t n).inToll = false ∧
          (thr t n).pc = th.ret ∧ (thr t n).forced = false ∧ (thr t n).outW = th.outW ∧ (thr t n).outX = th.outX) ∧
      (s.pipe = [] → (th.outKW ≠ 0 ∨ th.outKX ≠ 0) → exec (.forcedReturn n) s = .next s)) ∧
  (∀ (s : State) (req : Nat),
      (MayWrite s req .TG_KRST 0 → rf s .TG_KRST 0 2 1 = 0 → Does (.keeperResetRequest req) s fun t =>
        rf t .TG_KRST 0 2 1 = 1 ∧ t.near = s.near ∧ t.bits = s.bits ∧ t.iram = s.iram ∧ ∀ n, n < 8 →
          ((thr s n).inToll = true → (thr t n).forced = true) ∧
          ((thr s n).inToll = false → rb s .THR_WORLD n 0 = false → (thr s n).target = none → (thr t n).st = .stopping ∨ (thr t n).st = .stopped) ∧
          ((thr s n).inToll = false → rb s .THR_WORLD n 0 = true → thr t n = thr s n)) ∧
      (MayWrite s req .TG_KRST 0 → rf s .TG_KRST 0 2 1 ≠ 0 → exec (.keeperResetRequest req) s = .next s) ∧
      (Live s .core → rf s .TG_KRST 0 2 1 = 1 → (∀ n, n < 8 → (thr s n).inToll = false ∧ (thr s n).forced = false ∧
          (rb s .THR_WORLD n 0 = true ∨ (thr s n).st = .stopped)) → rb s .THR_WORLD 0 0 = false → (thr s 0).haltPend = none →
        Does .keeperResetRestart s fun t => rf t .TG_KRST 0 2 1 = 0 ∧ rb t .TG_KRST 0 3 = true ∧ rd t .TG_STAT 0 = 0 ∧ (thr t 0).st = .running ∧
          (thr t 0).pc = BitVec.ofNat 16 (rn s .THR_STARTPC 0) ∧ mget (fun _ => false) t.icu.pend 21 = true ∧ (∀ n, n ≠ 0 → thr t n = thr s n) ∧ SameMemory s t) ∧
      (Live s .core → (∃ n, n < 8 ∧ (thr s n).inToll = true) → exec .keeperResetRestart s = .next s) ∧
      (MayWrite s req .TG_CTL 0 → exec (.tollVectorLock req) s = .next (wb s .TG_CTL 0 1 true)) ∧
      (MayWrite s req .TG_NWM 0 → exec (.watermarkLock req true) s = .next (wb s .TG_NWM 0 15 true)) ∧
      (MayWrite s req .TG_IWM 0 → exec (.watermarkLock req false) s = .next (wb s .TG_IWM 0 7 true)))

/-- Hand-over (R462, R463, R468): a request for an idle unlocked block starts it, any other is counted and changes nothing; a counter's block goes to RESET with
its registers at reset; FLIP toggles the world, ends the hand-over with DONE and source 23, and gives a channel that turns normal owner 15 for 0; LOCK.
Model's choices: log entries 4, 56, 59, 60. -/
def Obligations.HandOverProtocol : Prop :=
  ∀ (s : State) (req : Nat) (n : Fin 31),
    (MayWrite s req .TG_HO n → (hoPhase s n ≠ 0 ∨ rb s .TG_HO n 6 = true) → exec (.handoverRequest req n) s = .next (occur s 0x13 1)) ∧
    (MayWrite s req .TG_HO n → hoPhase s n = 0 → rb s .TG_HO n 6 = false →
      exec (.handoverRequest req n) s = .next (hoStart s n) ∧
      (hoBusy (hoQuiesce (wf s .TG_HO n 3 2 1) n) n = true → Does (.handoverRequest req n) s fun t => hoPhase t n = 1 ∧ timerOn t (tmrHo n) = true) ∧
      (23 ≤ n.val → Does (.handoverRequest req n) s fun t => hoPhase t n = 2 ∧ rd t .EC_CTL (n.val - 23) = regReset .EC_CTL (n.val - 23) ∧
        rd t .EC_COUNT (n.val - 23) = regReset .EC_COUNT (n.val - 23) ∧ t.thr = s.thr ∧ SameMemory s t)) ∧
    (Live s .core → hoPhase s n = 1 → hoUnfinished s n = false → exec (.handoverQuiesceDone n) s = .next (hoReset s n)) ∧
    (Live s .core → (hoPhase s n ≠ 1 ∨ hoUnfinished s n = true) → exec (.handoverQuiesceDone n) s = .next s) ∧
    (Live s .core → hoPhase s n = 1 → timerDue s (tmrHo n) = true →
      exec (.handoverForced n false) s = .next (hoForce (stopTimer s (tmrHo n)) n) ∧
      exec (.handoverForced n true) s = .next (occur (stopTimer s (tmrHo n)) 0x08 1)) ∧
    (Live s .core → hoPhase s n = 2 → hoQuiet s n = true → Does (.handoverFlip n) s fun t =>
      blockWorld t n = !(blockWorld s n) ∧ hoPhase t n = 0 ∧ rb t .TG_HO n 4 = true ∧ mget (fun _ => false) t.icu.pend 23 = true ∧
      (7 ≤ n.val → n.val ≤ 22 → blockWorld s n = false → rf s .TG_HO n 11 8 = 0 → rf t .TG_HO n 11 8 = 15) ∧
      t.thr = s.thr ∧ t.near = s.near ∧ t.bits = s.bits ∧ t.iram = s.iram ∧ t.nvByte = s.nvByte ∧ ((n.val < 7 ∨ 22 < n.val) → SameMemory s t)) ∧
    (MayWrite s req .TG_HO n → exec (.handoverLock req n) s = .next (wb s .TG_HO n 6 true))

/-! ## Sealed far memory, rings, pools, the Ledger -/

/-- The page table and its lines (R452, R507), the ports of the page table and of the line tags (R1248, R517: a line that a REKEY
under way has passed shows W 0), and the store queue (R515).
Model's choices: log entries 21, 22. -/
def Obligations.PageTableAndLineTags : Prop :=
  ∀ (s : State) (req : Nat) (v : Byte) (t8 : Fin 8) (g : Fin 16),
    let p := rf s .SEAL_PTIDX 0 9 0
    let l := rf s .SEAL_LTIDX 0 16 0
    let answers (t : State) (b : Byte) : Prop := xwaitOf t 1 = xwaitOf s 1 ++ [.inReply ⟨.greg t8 g, s.cycles, !(thr s t8).world⟩ b] ∧
      (thr t t8).outX = (thr s t8).outX + 1 ∧ (thr t t8).g = (thr s t8).g ∧ (∀ k, k ≠ t8.val → thr t k = thr s k) ∧ SameMemory s t
    (MayWrite s req .SEAL_PTDATA 0 → Does (.pageOwnerWrite req v) s fun t =>
      (∀ k, pageOwner t k = if k = p then v.toNat % 16 else pageOwner s k) ∧
      (∀ k, lineTag t k = if k / 128 = p then v.toNat % 16 else lineTag s k) ∧ (∀ k, lineW t k = (if k / 128 = p then false else lineW s k)) ∧
      rf t .SEAL_PTIDX 0 9 0 = (p + 1) % 1024 ∧ t.thr = s.thr ∧ t.near = s.near ∧ t.bits = s.bits ∧ t.iram = s.iram ∧ t.nvByte = s.nvByte) ∧
    (MayRead s req .SEAL_PTDATA 0 → req < 8 → Does (.pageTableRead req (.greg t8 g)) s fun t =>
      answers t (BitVec.ofNat 8 (pageOwner s p)) ∧ rf t .SEAL_PTIDX 0 9 0 = (p + 1) % 1024) ∧
    (MayRead s req .SEAL_LTDATA 0 → req < 8 → Does (.lineTagRead req (.greg t8 g)) s fun t =>
      answers t (BitVec.ofNat 8 (lineTag s l + 16 * b01 (lineW s l && !(s.far.rekey == some (lineTag s l) && decide (l < s.far.swept))))) ∧ rf t .SEAL_LTIDX 0 16 0 = (l + 1) % 131072) ∧
    (Live s .fabric → 1 ≤ s.far.stq → storesHeld s < s.far.stq → s.far.wait = [] → s.far.olds = [] →
      (s.far.stWait = [] → exec .storeAccept s = .next (setFar s { s.far with stq := s.far.stq - 1 })) ∧
      (∀ q rest, s.far.stWait = q :: rest →
        exec .storeAccept s = .next (send (setFar s { s.far with stWait := rest }) 1 (.accepted q.1 q.2))))

/-- Keys (R495, R496): once made, all fifteen exist and differ in their origin; a TRNG that fails is recorded (R497). REKEY (R494, R510, R511): GO starts a sweep,
refused with REJ for owner 15 or while one runs; at its end the owner's lines have W 0, its key is new, and no other line or key differs.

Far SRAM holds what its owner stores and nothing else changes (R498); another owner's load answers the sealed byte, a never written line zero (R498); a
normal-world access of another owner's page stores nothing and reads zero, and is refused (R469, R470). -/
def Obligations.KeysAndSealedMemory : Prop :=
  (∀ (s : State) (req : Nat) (o : BitVec 4),
      (s.dev.phase = .awake → rb s .SEAL_STAT 0 0 = false → s.far.wait = [] → Does .keysReady s fun t =>
        rb t .SEAL_STAT 0 0 = true ∧ (∀ k, k < 15 → mget (fun _ => none) t.far.key k = some (s.far.keysMade + k)) ∧ t.thr = s.thr ∧ SameMemory s t) ∧
      (s.dev.phase = .awake → rb s .SEAL_STAT 0 0 = false → s.far.wait = [] → Does .trngFail s fun t =>
        rb t .SEAL_STAT 0 1 = true ∧ xwaitOf t 1 = xwaitOf s 1 ++ [.count 0x1C 1, .edge 59] ∧ t.far.trngBad = true ∧ t.thr = s.thr ∧ SameMemory s t) ∧
      (MayWrite s req .SEAL_REKEY 0 → s.far.rekey = none → o ≠ 15 → Does (.rekeyRequest req o) s fun t =>
        t.far.rekey = some o.toNat ∧ rb t .SEAL_REKEY 0 5 = true ∧ rb t .SEAL_STAT 0 2 = true ∧ t.thr = s.thr ∧ SameMemory s t) ∧
      (MayWrite s req .SEAL_REKEY 0 → (s.far.rekey ≠ none ∨ o = 15) → Does (.rekeyRequest req o) s fun t =>
        t.far = s.far ∧ rb t .SEAL_REKEY 0 6 = true ∧ t.thr = s.thr ∧ SameMemory s t) ∧
      (∀ k, Live s .fabric → s.far.rekey = some k → s.far.wait = [] → Does .rekeyDone s fun t =>
        t.far.rekey = none ∧ rb t .SEAL_REKEY 0 5 = false ∧ rb t .SEAL_STAT 0 2 = false ∧ t.far.tag = s.far.tag ∧
        (∀ l, lineW t l = if lineTag s l = k then false else lineW s l) ∧
        (∀ a, lineTag s (a / 32) ≠ k → mget (fun _ => (0 : Byte)) t.far.byte a = mget (fun _ => 0) s.far.byte a) ∧
        (∀ j, mget (fun _ => none) t.far.key j = if j = k then some s.far.keysMade else mget (fun _ => none) s.far.key j) ∧ t.thr = s.thr)) ∧
  (∀ (s : State) (kind agent ch o a : Nat) (b : Byte) (world : Bool), a < 0x400000 → kind ≠ 8 →
      let st := farStore s kind agent ch o world a [b]
      let ld := farLoad s kind agent ch o world a 1
      (pageRefuses s world o a = false → noKey s o = false → lineTag s (a / 32) = o →
        (farLoad st.2.2 kind agent ch o world a 1).1 = [b] ∧ st.1 = false ∧ st.2.1 = false ∧ lineW st.2.2 (a / 32) = true ∧
        (∀ k, k ≠ a → mget (fun _ => (0 : Byte)) st.2.2.far.byte k = mget (fun _ => 0) s.far.byte k) ∧ st.2.2.far.tag = s.far.tag ∧ st.2.2.thr = s.thr) ∧
      (pageRefuses s world o a = false → noKey s o = false → lineTag s (a / 32) ≠ o →
        ld.1 = [if lineW s (a / 32) then sealedByte s a else 0] ∧ ld.2.2.1 = isStrict s o ∧ st.2.2.far = s.far) ∧
      (pageRefuses s world o a = true → ld.1 = [0] ∧ ld.2.1 = true ∧ st.1 = true ∧ st.2.2.far = s.far))

/-- Channel control (R564, R565, R577, R578, R594, R595, R597): ENABLE checks and starts empty with its book open, POST takes entries or sets ERR, STOP flushes what is not
fetched and disables once nothing is outstanding, ABORT also tells the unit.
Model's choices: log entry 64. -/
def Obligations.RingControl : Prop :=
  ∀ (s : State) (req : Nat) (c : Fin 16) (n : Word), MayWrite s req .RING_CTL c →
    let ch := chanOf s c
    let size := ringSize s c
    let frame (t : State) : Prop := t.thr = s.thr ∧ SameMemory s t
    (rb s .RING_STAT c 0 = false → hoPhase s (7 + c) = 0 → ringCfgOk s c = true → (rf s .RING_CFG c 4 0 = 0 ∨ channelOf s (rf s .RING_CFG c 4 0) = none) →
      Does (.ringEnable req c) s fun t => rb t .RING_STAT c 0 = true ∧ rd t .RING_TAIL c = 0 ∧ rd t .RING_FETCH c = 0 ∧ rd t .RING_RECL c = 0 ∧
        rd t .RING_CQHEAD c = 0 ∧ rd t .RING_HELD c = 0 ∧ (∀ k, k < 7 → term t (4 + c) k = 0) ∧ chanOf t c = { Chan.reset with mismatch := worldsDiffer s c } ∧ frame t) ∧
    (rb s .RING_STAT c 0 = false → hoPhase s (7 + c) = 0 → ringCfgOk s c = false → Does (.ringEnable req c) s fun t =>
      rb t .RING_STAT c 0 = false ∧ rb t .RING_STAT c 3 = true ∧ rf t .RING_STAT c 6 4 = 1 ∧ SameIoBut [regAddr .RING_STAT c] s t ∧ frame t) ∧
    (rb s .RING_STAT c 0 = true → rb s .RING_STAT c 1 = false → Does (.ringStop req c) s fun t =>
      (chanOf t c).done = ch.done ++ (unfetched s c).map (fun i => ⟨i, 4, 0, 0⟩) ∧ (chanOf t c).out = ch.out ∧ rd t .RING_FETCH c = rd s .RING_TAIL c ∧
      rb t .RING_STAT c 0 = !ch.out.isEmpty ∧ rb t .RING_STAT c 1 = !ch.out.isEmpty ∧ frame t) ∧
    (rb s .RING_STAT c 0 = true → ch.aborting = false → ch.given ≠ [] → rf s .RING_CFG c 4 0 ≠ 0 → Does (.ringAbort req c) s fun t =>
      (chanOf t c).aborting = true ∧ (chanOf t c).given = ch.given ∧ (xwaitOf t (fromFabric (islandOfNumber (rf s .RING_CFG c 4 0)))).getLast? = some (.ringAbort c) ∧
      frame t) ∧
    (rb s .RING_STAT c 0 = false → exec (.ringStop req c) s = .next s ∧ exec (.ringAbort req c) s = .next s) ∧
    (MayWrite s req .RING_POST c → rb s .RING_STAT c 0 = true → rb s .RING_STAT c 1 = false →
      let k := n.toNat % 8192
      (1 ≤ k → k ≤ 4096 → k ≤ ringFree s c → Does (.ringPost req c n) s fun t =>
        rd t .RING_TAIL c = BitVec.ofNat 32 ((rn s .RING_TAIL c + k) % size) ∧
        (chanOf t c).out = ch.out ++ (List.range k).map (fun j => (rn s .RING_TAIL c + j) % size) ∧
        term t (4 + c) 0 = term s (4 + c) 0 + BitVec.ofNat 32 k ∧ term t (4 + c) 3 = term s (4 + c) 3 + BitVec.ofNat 32 k ∧ frame t) ∧
      ((k = 0 ∨ 4096 < k ∨ ringFree s c < k) → Does (.ringPost req c n) s fun t =>
        rf t .RING_STAT c 6 4 = 3 ∧ rb t .RING_STAT c 3 = true ∧ t.chan = s.chan ∧ t.led = s.led ∧ SameIoBut [regAddr .RING_STAT c] s t ∧ frame t)) ∧
    (MayWrite s req .RING_POST c → rb s .RING_STAT c 0 = false → Does (.ringPost req c n) s fun t =>
      rf t .RING_STAT c 6 4 = 4 ∧ rb t .RING_STAT c 3 = true ∧ t.chan = s.chan ∧ t.led = s.led ∧ SameIoBut [regAddr .RING_STAT c] s t ∧ frame t)

/-- Fetch (R581, R582, R583, R592): a posted entry that its unit has room for is taken in order and kept as read; a well-formed one goes to its unit, a
SOFT channel's completes with OK, one whose OWN is 0 completes with status 5.

Completion (R587, R588): the oldest completion is written as one line store, which clears OWN and puts DONE and STATUS and no other byte; one credit
returns and the entry is no longer outstanding. A full completion ring holds it (R589) until a retry finds the slot free; a written slot moves
CQHEAD on.
Model's choices: log entries 4, 65, 134. -/
def Obligations.RingFetchAndCompletion : Prop :=
  ∀ (s : State) (c : Fin 16), Live s .fabric →
    let ch := chanOf s c
    let i := rn s .RING_FETCH c
    let ld := chanLoad s c (entryAddr s c i) 16
    let bs := ld.1
    let u := rf s .RING_CFG c 4 0
    let o := chanOwner s c
    let ready := rb s .RING_STAT c 0 = true ∧ rb s .RING_STAT c 1 = false ∧ unfetched s c ≠ [] ∧ worldsDiffer s c = false ∧ unitReady s c = true ∧
      fetchWaits s c i = false ∧ ld.2.1 = false ∧ ld.2.2.1 = false
    let len := leNat ((bs.drop 2).take 2)
    let good := (bs.getD 0 0 = 1 ∨ bs.getD 0 0 = 5) ∧ leNat ((bs.drop 10).take 2) < 4096 ∧ bs.getD 15 0 = 0
    let taken (t : State) : Prop := rd t .RING_FETCH c = BitVec.ofNat 32 ((i + 1) % ringSize s c) ∧ t.thr = s.thr ∧ t.far = s.far ∧
      mget (fun _ => none) (chanOf t c).info i = some ⟨(bs.getD 0 0).toNat, leNat ((bs.drop 10).take 2), (bs.getD 7 0).toNat, leNat ((bs.drop 8).take 2)⟩
    (ready → good → len ≠ 0 → u ≠ 0 → Does (.ringFetch c) s fun t => taken t ∧ (chanOf t c).given = ch.given ++ [i] ∧
      (xwaitOf t (fromFabric (islandOfNumber u))).getLast? = some (.ringGive c i (bs.getD 1 0).toNat (bs.getD 7 0).toNat
        [(leNat ((bs.drop 4).take 3), len)])) ∧
    (ready → good → u = 0 → Does (.ringFetch c) s fun t => taken t ∧ (chanOf t c).given = ch.given ++ [i] ∧ (chanOf t c).done = ch.done ++ [⟨i, 0, 0, 0⟩]) ∧
    (ready → (bs.getD 0 0).toNat % 2 = 0 → rb s .RING_CFG c 11 = false → Does (.ringFetch c) s fun t => taken t ∧
      (chanOf t c).done = ch.done ++ [⟨i, 5, 0, 0⟩] ∧ (chanOf t c).given = ch.given ∧ rb t .RING_STAT c 3 = true) ∧
    ((rb s .RING_STAT c 0 = false ∨ rb s .RING_STAT c 1 = true ∨ unfetched s c = [] ∨ worldsDiffer s c = true) → exec (.ringFetch c) s = .next s) ∧
    (∀ k rest, ch.done = k :: rest → rb s .RING_STAT c 2 = false → rb s .RING_CFG c 9 = false → rb s .RING_CFG c 11 = false →
      chanWaits s c (entryAddr s c k.idx) 16 = false →
      let a := entryAddr s c k.idx
      Does (.ringCompletion c) s fun t => (chanOf t c).done = rest ∧ (chanOf t c).out = ch.out.erase k.idx ∧
        term t (4 + c) 1 = term s (4 + c) 1 + 1 ∧ term t (4 + c) 5 = term s (4 + c) 5 - 1 ∧ rd t .RING_NCOMPL c = rd s .RING_NCOMPL c + 1 ∧
        t.thr = s.thr ∧ t.near = s.near ∧
        (∀ x, u ≠ 0 → mget (fun _ => none) ch.info k.idx = some x → a + 15 < 0x400000 → ringClosed (chanWorld s c) o = false → noKey s o = false →
          (∀ j, j < 16 → pageRefuses s (chanWorld s c) o (a + j) = false ∧ lineTag s ((a + j) / 32) = o ∧ lineW s ((a + j) / 32) = true) →
          ∀ j, mget (fun _ => (0 : Byte)) t.far.byte j =
            if j = a then BitVec.ofNat 8 (x.ctl / 2 * 2) else if j = a + 12 then BitVec.ofNat 8 k.done else if j = a + 13 then BitVec.ofNat 8 (k.done / 256)
            else if j = a + 14 then BitVec.ofNat 8 k.status else mget (fun _ => 0) s.far.byte j)) ∧
    (ch.done = [] → exec (.ringCompletion c) s = .next s ∧ exec (.ringCqRetry c) s = .next s) ∧
    (∀ k rest, ch.done = k :: rest → rb s .RING_CFG c 9 = true → chanWaits s c (entryAddr s c k.idx) 16 = false → chanWaits s c (cqSlot s c) 8 = false →
      let slot := chanLoad (entryInfo s c k.idx).2 c (cqSlot s c) 2
      let full := slot.2.1 = false ∧ nbit (leNat slot.1) 15 = true
      let written (t : State) : Prop := (chanOf t c).done = rest ∧ (chanOf t c).out = ch.out.erase k.idx ∧ rb t .RING_STAT c 2 = false ∧
        rd t .RING_CQHEAD c = BitVec.ofNat 32 ((rn s .RING_CQHEAD c + 1) % 2 ^ rf s .RING_CQCFG c 3 0) ∧ term t (4 + c) 1 = term s (4 + c) 1 + 1 ∧
        t.thr = s.thr ∧ t.near = s.near
      (rb s .RING_STAT c 2 = true → exec (.ringCompletion c) s = .next s ∧
        (full → Does (.ringCqRetry c) s fun t => chanOf t c = ch ∧ rb t .RING_STAT c 2 = true ∧ t.led = s.led ∧ t.thr = s.thr) ∧
        (¬full → rb s .RING_CFG c 11 = false → Does (.ringCqRetry c) s written)) ∧
      (rb s .RING_STAT c 2 = false → exec (.ringCqRetry c) s = .next s ∧
        (full → Does (.ringCompletion c) s fun t => chanOf t c = ch ∧ rb t .RING_STAT c 2 = true ∧ t.led = s.led ∧ t.thr = s.thr) ∧
        (¬full → rb s .RING_CFG c 11 = false → Does (.ringCompletion c) s written)))

/-- Buffer pools (R609, R610, R612, R617, R618, R624, R626, R628, R632): carving, allocation of the head of the free list to its owner with its lines tagged, freeing to the
tail, reservations, the status port; what is refused changes no pool.
Model's choices: log entry 105. -/
def Obligations.BufferPools : Prop :=
  ∀ (s : State) (req : Nat) (p : Fin 4) (v : Word) (t8 : Fin 8) (g : Fin 16),
    let x := poolOf s p
    let n := rn s .HOP_PCOUNT p
    let frame (t : State) : Prop := t.thr = s.thr ∧ t.near = s.near ∧ t.bits = s.bits ∧ t.iram = s.iram ∧ t.nvByte = s.nvByte
    let others (t : State) : Prop := ∀ k, k ≠ p.val → poolOf t k = poolOf s k
    (MayWrite s req .HOP_PCTL p → x.configured = false → poolCheck s p = 0 →
      exec (.poolEnable req p) s = .next (setPool s p { Pool.reset with configured := true })) ∧
    (MayWrite s req .HOP_PCTL p → x.configured = false → poolCheck s p ≠ 0 → Does (.poolEnable req p) s fun t =>
      t.pool = s.pool ∧ rb t .HOP_STAT 0 0 = true ∧ rf t .HOP_STAT 0 3 1 = poolCheck s p ∧ frame t) ∧
    (Live s .fabric → x.configured = true → x.enabled = false → Does (.poolPlacementDone p) s fun t =>
      (poolOf t p).enabled = true ∧ (poolOf t p).free = List.range n ∧ (poolOf t p).owner = [] ∧ rb t .HOP_PCTL p 2 = true ∧
      term t p 0 = BitVec.ofNat 32 n ∧ term t p 1 = BitVec.ofNat 32 n ∧ term t p 2 = 0 ∧ rd t .HOP_PFREE p = BitVec.ofNat 32 n ∧ others t ∧ frame t) ∧
    (MayWrite s req .HOP_PCTL p → x.enabled = true → x.configured = true → x.owner = [] → Does (.poolDisable req p) s fun t =>
      poolOf t p = Pool.reset ∧ rb t .HOP_PCTL p 2 = false ∧ (∀ k, k < 7 → term t p k = 0) ∧ others t ∧ frame t) ∧
    (MayWrite s req .HOP_PCTL p → x.configured = true → x.owner ≠ [] → Does (.poolDisable req p) s fun t =>
      t.pool = s.pool ∧ rf t .HOP_STAT 0 3 1 = 7 ∧ frame t) ∧
    (∀ (o size i : Nat) (rest : List Nat), Live s .fabric → req < 8 → mget (fun _ => false) s.areq req = true →
      rdReq s .HOP_AREQ req = BitVec.ofNat 32 (size + 65536 * o) → 1 ≤ size → size ≤ bufSize p → o < 15 →
      (reqWorld s req = true → o ≠ 0 ∧ nbit (reqGrant s req) o = true) → x.enabled = true →
      (∀ k, k < p.val → (poolOf s k).enabled = false ∨ bufSize k < size) → x.free = i :: rest → mayTake s o p = true → Does (.allocate req (.greg t8 g)) s fun t =>
        (poolOf t p).free = rest ∧ bufOwner t p i = o ∧ (∀ k, k ≠ i → bufOwner t p k = bufOwner s p k) ∧
        mget (fun _ => none) t.shadow (2 ^ 20 * (req + 1) + regAddr .HOP_ARES 0) = some (aresVal (16384 * p + i) 0 o) ∧
        (∀ k, lineTag t k = if (poolBase s p + i * bufSize p) / 32 ≤ k ∧ k < (poolBase s p + i * bufSize p) / 32 + bufSize p / 32 then o else lineTag s k) ∧
        term t p 1 = term s p 1 - 1 ∧ term t p 2 = term s p 2 + 1 ∧ others t) ∧
    (Live s .fabric → req < 8 → mget (fun _ => false) s.areq req = false → Does (.allocate req (.greg t8 g)) s fun t =>
      t.pool = s.pool ∧ t.far = s.far ∧ t.led = s.led ∧ mget (fun _ => none) t.shadow (2 ^ 20 * (req + 1) + regAddr .HOP_ARES 0) = some (aresVal 0xFFFF 7 15)) ∧
    (∀ i, i < n → i < 8192 → v.toNat = 16384 * p + i → Live s .fabric → x.enabled = true →
      (bufOwner s p i ≠ 15 → (reqWorld s req = false ∨ nbit (reqGrant s req) (bufOwner s p i) = true) → Does (.free req v) s fun t =>
        (poolOf t p).free = x.free ++ [i] ∧ (∀ k, bufOwner t p k = if k = i then 15 else bufOwner s p k) ∧ term t p 1 = term s p 1 + 1 ∧
        term t p 2 = term s p 2 - 1 ∧ others t ∧ frame t) ∧
      (bufOwner s p i = 15 → req ≤ 8 → rb s .HOP_FERR 0 31 = false → Does (.free req v) s fun t =>
        t.pool = s.pool ∧ t.far = s.far ∧ rf t .HOP_FERR 0 21 20 = 2 ∧ rf t .HOP_FERR 0 15 0 = v.toNat ∧ frame t)) ∧
    (MayWrite s req .HOP_RSVDATA 0 → rf s .HOP_RSVIDX 0 5 2 ≠ 15 →
      let q := rf s .HOP_RSVIDX 0 1 0
      let o := rf s .HOP_RSVIDX 0 5 2
      let k := v.toNat % 8192
      ((poolOf s q).configured = true → poolCount s q < rsvSum s q - rsv s o q + k → Does (.reservationWrite req v) s fun t =>
        t.resv = s.resv ∧ rb t .HOP_STAT 0 4 = true ∧ frame t) ∧
      (rsvSum s q - rsv s o q + k ≤ poolCount s q → Does (.reservationWrite req v) s fun t => rsv t o q = k ∧ t.io = s.io ∧ frame t)) ∧
    (MayRead s req .HOP_BUFSTAT 0 → req < 8 → bufNamed s = true → rn s .HOP_BUFIDX 0 = 16384 * p + rn s .HOP_BUFIDX 0 % 8192 →
      let i := rn s .HOP_BUFIDX 0 % 8192
      Does (.bufferStatusRead req (.greg t8 g)) s fun t => rf t .HOP_BUFIDX 0 12 0 = (if i + 1 = n then 0 else i + 1) % 8192 ∧ t.pool = s.pool ∧
        xwaitOf t 1 = xwaitOf s 1 ++ [.inReply ⟨.greg t8 g, s.cycles, !(thr s t8).world⟩ (BitVec.ofNat 8 (bufOwner s p i + 16 * b01 (bufOwner s p i != 15)))])

/-- The Ledger (R648, R653, R655, R657, R665, R669, R671): a book settles 64 quiet cycles after its latest update, and an update
on that edge begins the interval again (R672); a settled book that balances shows it and is recorded, one that does not fails; a book unsettled too long is
marked; a rebase restores the equation; the read ports.
Model's choices: log entries 4, 63. -/
def Obligations.LedgerChecks : Prop :=
  ∀ (s : State) (req : Nat) (b : Fin 24) (t8 : Fin 8) (g : Fin 16),
    let quiet := term s b (termT b) = 0 ∧ reportWaits s b = false ∧ suspended s b = false ∧ (∃ k, lastUpdate s b = some k ∧ k + 64 ≤ s.cycles) ∧
      mget (fun _ => false) s.led.rebase b = false ∧ rb s .LED_FAILED 0 b = false
    let frame (t : State) : Prop := t.thr = s.thr ∧ SameMemory s t
    (Live s .fabric → quiet → term s b 0 = rhs s b → structureOk s b = true → Does (.bookSettle b false) s fun t =>
      rb t .LED_BAL 0 b = true ∧ rb t .LED_UNSET 0 b = false ∧ lastUpdate t b = none ∧ rb t .LED_FAILED 0 b = false ∧
      t.led.term = s.led.term ∧ (∀ k, k ≤ termT b → mget (fun _ => 0) t.led.snap (8 * b + k) = term s b k) ∧ frame t) ∧
    (Live s .fabric → quiet → term s b 0 ≠ rhs s b → rb s .LED_IMB 0 31 = false → Does (.bookSettle b false) s fun t =>
      rb t .LED_FAILED 0 b = true ∧ rb t .LED_STAT 0 0 = true ∧ rf t .LED_IMB 0 4 0 = b.val ∧ rf t .LED_IMB 0 6 5 = 0 ∧ t.led.term = s.led.term ∧ frame t) ∧
    (Live s .fabric → (term s b (termT b) ≠ 0 ∨ ∀ k, lastUpdate s b = some k → s.cycles < k + 64) →
      exec (.bookSettle b false) s = .next s ∧ exec (.bookSettle b true) s = .next s) ∧
    (Live s .fabric → quiet → Does (.bookSettle b true) s fun t => lastUpdate t b = some s.cycles ∧ t.io = s.io ∧ t.led.term = s.led.term ∧ frame t) ∧
    (Live s .fabric → timerDue s (tmrSettle b) = true → Does (.bookUnsettled b false) s fun t =>
      rb t .LED_UNSET 0 b = true ∧ t.led = s.led ∧ SameIoBut [regAddr .LED_UNSET 0] s t ∧ frame t) ∧
    (MayWrite s req .LED_REBASE 0 → rb s .LED_FAILED 0 b = true → term s b (termT b) = 0 → lastUpdate s b = none →
      Does (.rebase req (BitVec.ofNat 5 b)) s fun t => term t b 0 = rhs s b ∧ rhs t b = rhs s b ∧ rb t .LED_FAILED 0 b = false ∧ frame t) ∧
    (MayWrite s req .LED_REBASE 0 → rb s .LED_FAILED 0 b = false → Does (.rebase req (BitVec.ofNat 5 b)) s fun t =>
      t.led = s.led ∧ SameIoBut [regAddr .LED_REBASE 0] s t ∧ frame t) ∧
    (MayRead s req .LED_TDATA 0 → req < 8 → rf s .LED_TIDX 0 4 0 = b.val → rf s .LED_TIDX 0 10 8 ≤ termT b → Does (.termRead req (.greg t8 g)) s fun t =>
      let k := rf s .LED_TIDX 0 10 8
      xwaitOf t 1 = xwaitOf s 1 ++ [.inReply ⟨.greg t8 g, s.cycles, !(thr s t8).world⟩ (byteOf (mget (fun _ => 0) s.led.snap (8 * b + k)) 0)] ∧ rf t .LED_TIDX 0 10 8 = (k + 1) % 8 ∧
      mget (fun _ => none) t.shadow (2 ^ 20 * (req + 1) + regAddr .LED_TDATA 0) = some (mget (fun _ => 0) s.led.snap (8 * b + k)) ∧ SameMemory s t) ∧
    (MayRead s req .LED_WODATA 0 → req < 8 → Does (.writeoffLogRead req (.greg t8 g)) s fun t =>
      xwaitOf t 1 = xwaitOf s 1 ++ [.inReply ⟨.greg t8 g, s.cycles, !(thr s t8).world⟩ (byteOf (wodata s) 0)] ∧ rf t .LED_WOIDX 0 3 0 = (rf s .LED_WOIDX 0 3 0 + 1) % 16 ∧ SameMemory s t)

/-! ## Millrace and the paper path -/

/-- Millrace takes work (R685, R686, R688, R691, R703, R726, R728, R731, R734): enable and disable, entries checked as they are accepted, rows read through the channel, shifts,
the power delay, idle conversions, fault bits cleared, the limit lock.
Model's choices: log entries 5, 67, 70. -/
def Obligations.MillraceTakesWork : Prop :=
  ∀ (s : State) (req : Nat) (v : Byte), Live s .print →
    let m := s.mr
    let frame (t : State) : Prop := t.thr = s.thr ∧ SameMemory s t
    (MayWrite s req .MR_CTL 0 → rb s .MR_CTL 0 0 = false → headCfgCode s = 0 → dstate s 0 ≠ 3 → Does (.millraceEnable req) s fun t =>
      rb t .MR_CTL 0 0 = true ∧ mgmt t 0 = 1 ∧ rb t .MR_STAT 0 7 = true ∧ timerOn t tmrHeadAdc = true ∧ frame t) ∧
    (MayWrite s req .MR_CTL 0 → rb s .MR_CTL 0 0 = false → headCfgCode s ≠ 0 → Does (.millraceEnable req) s fun t =>
      rb t .MR_CTL 0 0 = false ∧ rb t .MR_STAT 0 0 = true ∧ rf t .MR_STAT 0 3 1 = headCfgCode s ∧ SameIoBut [regAddr .MR_STAT 0] s t ∧ t.mr = m ∧ frame t) ∧
    (MayWrite s req .MR_CTL 0 → rb s .MR_CTL 0 0 = true → Does (.millraceDisable req) s fun t =>
      rb t .MR_CTL 0 0 = false ∧ mgmt t 0 = 0 ∧ (dstate s 0 < 2 → (∀ l, m.line = some l → l.stage ≠ .firing) → t.mr.held = [] ∧ dstate t 0 = 0) ∧ frame t) ∧
    (∀ e rest, m.inbox = e :: rest → headRuns s = true →
      (entryLines s e = none → Does .millraceEntryAccept s fun t => t.mr.inbox = rest ∧ t.mr.held = m.held ∧
        xwaitOf t 13 = xwaitOf s 13 ++ [.ringAccept m.chan, .ringDone m.chan e.idx 0x84 0 0] ∧ t.io = s.io ∧ frame t) ∧
      (∀ n, entryLines s e = some n → m.ahead = [] → Does .millraceEntryAccept s fun t =>
        t.mr.inbox = rest ∧ t.mr.held = m.held ++ [⟨e, n, 0, 0⟩] ∧ .ringAccept m.chan ∈ xwaitOf t 13 ∧ t.io = s.io ∧ frame t)) ∧
    (∀ e es mv, m.held = e :: es → m.ahead = [] → headRuns s = true → e.started < e.lines → isBlank e = false →
      moverOf s m.chan e.e.idx = some mv → rowBytes s ≤ mv.got.length → Does .millraceRowLanded s fun t =>
        t.mr.ahead = [some (mv.got.take (rowBytes s))] ∧ t.mr.held = m.held ∧ frame t) ∧
    (∀ l, timerDue s tmrShift = true → m.line = some l → lineLive l = true → l.shifted = false →
      exec .millraceShiftDone s = .next (setLine (stopTimer s tmrShift) { l with shifted := true })) ∧
    (timerDue s tmrShift = true → m.line = none → m.next ≠ none → m.nextShifted = false →
      exec .millraceShiftDone s = .next (setMr (stopTimer s tmrShift) { m with nextShifted := true })) ∧
    (timerDue s tmrHeadPwr = true → rb s .MR_STAT 0 7 = true →
      exec .headPowerDelayEnd s = .next (stopTimer (setMr s { m with powered := true }) tmrHeadPwr)) ∧
    (rb s .MR_CTL 0 0 = true → m.running = false → timerDue s tmrHeadAdc = true → s.pp.adcCur = none → s.pp.adcWait = [] →
      Does .millraceIdleAdcRequest s fun t => t.pp.adcCur = some ⟨1, 0, .head 0, s.cycles⟩ ∧ t.pp.adcWait = [⟨1, 1, .head 1, s.cycles⟩] ∧
        mget (fun _ => none) t.timers tmrHeadAdc = some (s.time + 24000) ∧ t.io = s.io ∧ frame t) ∧
    (MayWrite s req .MR_FAULT 0 → Does (.millraceFaultClear req v) s fun t =>
      (∀ k, k < 3 → rb t .MR_FAULT 0 k = (rb s .MR_FAULT 0 k && !(v.getLsbD k))) ∧
      (dstate s 0 = 3 → (∀ k, k < 4 → rb t .MR_FAULT 0 k = false) → dstate t 0 = 0) ∧ frame t) ∧
    (MayWrite s req .MR_LIMLOCK 0 → exec (.millraceLimitLock req) s = .next (wb s .MR_LIMLOCK 0 0 true))

/-- Millrace prints (R695, R704, R709, R714, R721, R722, R727): a ready line starts when due, is latched, fires phase by phase and returns its tokens; a schedule ends; a trip
or a strobe too long forces the strobes low, latches the kill and faults the head.
Model's choices: log entries 4, 5, 67, 68, 69. -/
def Obligations.MillracePrints : Prop :=
  ∀ s : State, Live s .print →
    let m := s.mr
    let frame (t : State) : Prop := t.thr = s.thr ∧ SameMemory s t
    let killed (bit : Nat) (t : State) : Prop := rb t .MR_FAULT 0 bit = true ∧ t.dev.kill = true ∧ dstate t 0 = 3 ∧ rb t .MR_STAT 0 7 = false ∧
      t.mr.held = [] ∧ t.mr.line = none ∧ t.mr.running = false ∧ t.mr.drawn = 0 ∧ frame t
    (∀ i j b more e, headRuns s = true → lineReady s = true → m.powered = true → (if m.running then m.aPrev + m.qPrev ≤ s.time else m.pairOk = true) →
      feedOk s = true → feedLocked s = false → rb s .MR_STAT 0 5 = false → rb s .MR_STAT 0 6 = false → rn s .MR_VMIN 0 ≤ headVolts s →
      headVolts s ≤ rn s .MR_VMAX 0 → toCome s = (i, j, b) :: more → m.held[i]? = some e → Does .lineStart s fun t =>
        t.mr.running = true ∧ t.mr.aPrev = s.time ∧ dstate t 0 = 1 ∧ (∃ l, t.mr.line = some l ∧ l.idx = e.e.idx ∧ l.blank = isBlank e) ∧ frame t) ∧
    (m.running = true → s.time < m.aPrev + m.qPrev → exec .lineStart s = .next s ∧ exec .scheduleEnd s = .next s) ∧
    (m.running = true → m.aPrev + m.qPrev ≤ s.time → lineReady s = false → (∀ l, m.line = some l → l.cont = false) → Does .scheduleEnd s fun t =>
      t.mr.running = false ∧ timerOn t tmrHeadAdc = true ∧ frame t) ∧
    (∀ l, m.line = some l → l.stage = .waiting → l.shifted = true → dstate s 0 = 1 →
      exec .millraceLatch s = .next (startTimer (setLine s { l with stage := .latching }) tmrPhase 24)) ∧
    (∀ l, m.line = some l → l.stage = .latching → timerDue s tmrPhase = true → dstate s 0 = 1 → Does .millracePhaseStart s fun t =>
      let dots (g : Nat) : Nat := groupCount s (l.pats.getD l.sp []) g
      let groups := (List.range (headGroups s)).filter fun g => dots g ≠ 0
      (∃ l', t.mr.line = some l' ∧ l'.stage = .firing ∧ l'.strobes = packGroups dots l.draw m.avail l.maxDots groups 0 ∧
        l'.groups = groups.drop l'.strobes.length ∧ t.mr.drawn = (l'.strobes.map dots).sum * l.draw) ∧
      timerOn t tmrPulse = true ∧ t.mr.strobeAt = some s.time ∧ frame t) ∧
    (∀ l, m.line = some l → l.stage = .firing → timerDue s tmrPulse = true → m.cut = none →
      (l.groups ≠ [] → Does .millracePhaseEnd s fun t => t.mr.line = some { l with stage := .gap, strobes := [] } ∧ t.mr.drawn = 0 ∧
        t.mr.avail = (if m.drawn = 0 then m.avail else m.grant) ∧ timerOn t tmrPhase = true ∧ t.io = s.io ∧ frame t) ∧
      (l.groups = [] → nextSub l.pats (l.sp + 1) = none → Does .millracePhaseEnd s fun t =>
        t.mr.line = some { l with stage := .ended, strobes := [], endAt := s.time } ∧ t.mr.drawn = 0 ∧ t.mr.avail = 0 ∧
        rd t .MR_LINES 0 = (if l.blank then rd s .MR_LINES 0 else rd s .MR_LINES 0 + 1) ∧ frame t)) ∧
    (∀ mv, rb s .MR_FAULT 0 0 = false → (∀ t0, m.strobeAt = some t0 → 3000 ≤ (s.time - t0) * 125) →
      (∀ l, m.line = some l → lineLive l = true → l.hcTrip < mv ∧ l.hcBlank ≤ 50) →
      (lineOver s = true → 4 * max 13 (rn s .MR_HCTRIP 0) < mv) → Does (.headCurrentTrip mv) s (killed 0)) ∧
    (∀ l, m.line = some l → l.stage = .firing → l.stbMax < l.width.getD l.sp 0 → timerDue s tmrStrobe = true → rb s .MR_FAULT 0 1 = false →
      Does .strobeOvertime s (killed 1))

/-- The feeder (R746, R747, R750-R752, R756, R759, R760, R763, R790-R792): enable and disable, moves accepted or refused with MREJ, cancelled, stepped and microstepped; chopping,
the conversions it asks for, holding, the ripple window, back-EMF samples, fault bits cleared.
Model's choices: log entries 4, 5, 71, 72, 73, 74, 75. -/
def Obligations.FeederEffects : Prop :=
  ∀ (s : State) (req : Nat) (v : Quad) (b : Byte) (w : Fin 2), Live s .print →
    let f := s.pp.feed
    let frame (t : State) : Prop := t.thr = s.thr ∧ SameMemory s t
    let idleAdc := s.pp.adcCur = none ∧ s.pp.adcWait = []
    (MayWrite s req .PP_FCTL 0 → rb s .PP_FCTL 0 0 = false → feedCfgCode s = 0 → s.pp.cover = false → Does (.feederEnable req) s fun t =>
      rb t .PP_FCTL 0 0 = true ∧ mgmt t 1 = 1 ∧ dstate t 1 = dstate s 1 ∧ t.pp = s.pp ∧ frame t) ∧
    (MayWrite s req .PP_FCTL 0 → rb s .PP_FCTL 0 0 = false → feedCfgCode s ≠ 0 → Does (.feederEnable req) s fun t =>
      rb t .PP_FCTL 0 0 = false ∧ rb t .PP_FSTAT 0 0 = true ∧ rf t .PP_FSTAT 0 2 1 = feedCfgCode s ∧ frame t) ∧
    (MayWrite s req .PP_FCTL 0 → rb s .PP_FCTL 0 0 = true → Does (.feederDisable req) s fun t =>
      rb t .PP_FCTL 0 0 = false ∧ mgmt t 1 = 0 ∧ dstate t 1 = (if dstate s 1 = 3 then 3 else 0) ∧ (dstate s 1 = 1 → t.pp.feed.segs = [] ∧ t.pp.feed.cur = none) ∧ frame t) ∧
    (MayWrite s req .PP_FCTL 0 → Does (.feedCancel req) s fun t =>
      t.pp.feed.segs = [] ∧ t.pp.feed.cur = none ∧ rd t .PP_PEND 0 = 0 ∧ rd t .PP_POS 0 = rd s .PP_POS 0 ∧ frame t) ∧
    (MayWrite s req .PP_MOVE 0 → (fld v 15 0 = 0 ∨ 4 ≤ feedMoves s ∨ feedOk s = false) → exec (.feedMove req v) s = .next (wb s .PP_FSTAT 0 4 true)) ∧
    (MayWrite s req .PP_MOVE 0 → fld v 15 0 ≠ 0 → feedMoves s < 4 → feedOk s = true → feedLocked s = false → Does (.feedMove req v) s fun t =>
      feedPend t = feedPend s + fld v 15 0 ∧ feedMoves t = feedMoves s + 1 ∧ rd t .PP_PEND 0 = BitVec.ofNat 32 ((feedPend s + fld v 15 0) % 2 ^ 20) ∧
      rd t .PP_POS 0 = rd s .PP_POS 0 ∧ frame t) ∧
    (∀ g rest, f.cur = none → f.segs = g :: rest → f.holding = false → dstate s 1 ≠ 3 →
      ((g.isMove = true ∨ g.a + g.started * g.q / g.count ≤ s.time) → Does .halfStepDue s fun t =>
        (∃ h, t.pp.feed.cur = some h ∧ h.dir = g.dir ∧ h.micro = 1) ∧ rd t .PP_POS 0 = (if g.dir then rd s .PP_POS 0 + 1 else rd s .PP_POS 0 - 1) ∧
        t.pp.feed.segs = (if g.started + 1 = g.count then rest else t.pp.feed.segs) ∧ frame t) ∧
      (g.isMove = false → s.time < g.a + g.started * g.q / g.count → exec .halfStepDue s = .next s)) ∧
    (∀ h, f.cur = some h → h.micro < h.res → h.at_ + h.micro * h.every ≤ s.time → exec .feedMicrostep s = .next (setFd s { f with
      cur := some { h with micro := h.micro + 1 }, phi := (if h.dir then f.phi + 8 / h.res else f.phi + 64 - 8 / h.res) % 64 })) ∧
    (∀ h, f.cur = some h → h.res ≤ h.micro → h.at_ + h.period ≤ s.time → s.time - f.winAt < f.winLen → dstate s 1 ≠ 3 → Does .feedMicrostep s fun t =>
      t.pp.feed.cur = none ∧ t.pp.feed.lastEnd = s.time ∧ (h.moveLast = true → rb t .PP_MOVESTAT 0 4 = false) ∧ rd t .PP_POS 0 = rd s .PP_POS 0 ∧ frame t) ∧
    (timerDue s tmrChop = true → f.holding = true → rn s .PP_IHOLD 0 = 0 → Does .chopPeriodStart s fun t =>
      (∀ k, k < 2 → (windOf t k).on = false) ∧ timerOn t tmrChop = false ∧ (f.floating = false → t.pp.feed.floating = true ∧ t.pp.feed.holding = false) ∧
      t.io = s.io ∧ frame t) ∧
    (timerDue s tmrChop = true → (f.holding = false ∨ rn s .PP_IHOLD 0 ≠ 0) → Does .chopPeriodStart s fun t =>
      (∀ k, k < 2 → (windOf t k).on = decide (feedSetp s k ≠ 0) ∧ (feedSetp s k ≠ 0 → (windOf t k).plus = feedSign s k)) ∧ timerOn t tmrChop = true ∧
      t.io = s.io ∧ frame t) ∧
    (∀ d, mget (fun _ => (none : Option Nat)) s.timers tmrChop = some d → d ≤ s.time + 96 → Does (.chopOntimeLimit w) s fun t =>
      (windOf t w).on = false ∧ windOf t (1 - w) = windOf s (1 - w) ∧ t.io = s.io ∧ frame t) ∧
    ((windOf s w).on = true → timerDue s (tmrConv w) = true → idleAdc → Does (.windingCurrentConversion w) s fun t =>
      t.pp.adcCur = some ⟨0, 2 + w, .chop w, s.cycles⟩ ∧ t.pp.feed = f ∧ t.io = s.io ∧ frame t) ∧
    (timerDue s tmrHold = true → f.holding = true →
      (rb s .PP_FCFG 0 7 = true → f.floating = false → Does .holdTimeout s fun t => t.pp.feed.floating = true ∧ t.pp.feed.holding = false ∧
        t.pp.feed.windA.on = false ∧ t.pp.feed.windB.on = false ∧ frame t) ∧
      (rb s .PP_FCFG 0 7 = false → exec .holdTimeout s = .next (stopTimer s tmrHold))) ∧
    (f.floating = true → exec .rippleWindowEnd s = .next s) ∧
    (f.floating = false → f.holding = true → f.winLen ≤ s.time - f.winAt → s.time ≠ f.winAt → f.winAt ≤ s.time → Does .rippleWindowEnd s fun t =>
      rd t .PP_RIPLAST 0 = BitVec.ofNat 32 (effort (windowOn s) (s.time - f.winAt) % 256) ∧ frame t) ∧
    (f.floating = true → timerDue s tmrBemf = true → idleAdc → Does .bemfSample s fun t =>
      t.pp.adcCur = some ⟨2, 4, .bemf 4, s.cycles⟩ ∧
        t.pp.adcWait = [⟨2, 5, .bemf 5, s.cycles⟩, ⟨2, 6, .bemf 6, s.cycles⟩, ⟨2, 7, .bemf 7, s.cycles⟩] ∧ t.io = s.io ∧ frame t) ∧
    (MayWrite s req .PP_FFAULT 0 → Does (.feederFaultClear req b) s fun t =>
      (∀ k, k < 5 → rb t .PP_FFAULT 0 k = (rb s .PP_FFAULT 0 k && !(b.getLsbD k && !(k == 1 && s.pp.cover) && !(k == 2 && paperAbsent s)))) ∧
      (dstate s 1 = 3 → (∀ k, k < 5 → rb t .PP_FFAULT 0 k = false) → dstate t 1 = 0) ∧ frame t)

/-- Sensors, inputs and the ADC (R767, R769, R772, R793, R795, R797): the sensor's period and settling ask for their conversions, a held level is taken, a conversion's code is
shown and the next request starts, the firmware sequence goes, stops and repeats.
Model's choices: log entries 4, 5, 79. -/
def Obligations.SensorsInputsAdc : Prop :=
  ∀ (s : State) (req : Nat) (k : Fin 4) (code : BitVec 12), Live s .print →
    let frame (t : State) : Prop := t.thr = s.thr ∧ SameMemory s t
    let idleAdc := s.pp.adcCur = none ∧ s.pp.adcWait = []
    ((timerOn s tmrSensor = false ∨ timerDue s tmrSensor = true) →
      (sensorsOn s = [] → Does .sensorPeriod s fun t => t.pp.emit = true ∧ timerOn t tmrEmit = true ∧ frame t) ∧
      (∀ n ns, sensorsOn s = n :: ns → idleAdc → Does .sensorPeriod s fun t =>
        t.pp.adcCur = some ⟨2, 8 + n, .dark n, s.cycles⟩ ∧ t.pp.adcWait = ns.map (fun j => ⟨2, 8 + j, .dark j, s.cycles⟩) ∧ t.pp.emit = s.pp.emit ∧ t.io = s.io ∧ frame t)) ∧
    (s.pp.emit = true → timerDue s tmrEmit = true →
      (sensorsOn s = [] → Does .sensorEmitSettle s fun t => t.pp.emit = false ∧ frame t) ∧
      (∀ n ns, sensorsOn s = n :: ns → idleAdc → Does .sensorEmitSettle s fun t =>
        t.pp.adcCur = some ⟨2, 8 + n, .lit n, s.cycles⟩ ∧ t.pp.adcWait = ns.map (fun j => ⟨2, 8 + j, .lit j, s.cycles⟩) ∧ t.io = s.io ∧ frame t)) ∧
    (MayWrite s req .PP_SNSCTL 0 → exec (.sensorCalibrate req k) s = .next (setSensor s k { sensorOf s k with cal := true })) ∧
    (∀ (i : InputName) (level : Bool), timerDue s (tmrDeb i) = true → (level == (inputLine s (inputFn i)).getD level) = true →
      Does (.inputDebounced i level) s fun t =>
        inputLevel t i = inputSeen s i ∧ (∀ j, j ≠ i → inputLevel t j = inputLevel s j) ∧ frame t) ∧
    (∀ (i : InputName) (level : Bool), timerDue s (tmrDeb i) = false → exec (.inputDebounced i level) s = .next s) ∧
    (∀ r, s.pp.adcCur = some r → timerDue s tmrAdc = true → r.input < 12 → (∀ j, r.who = .sequence j → j < 16) → (∀ j, r.who = .lit j → j < 4) → Does (.adcConversionDone code) s fun t => rd t .ADC_LAST r.input = BitVec.ofNat 32 code.toNat ∧
      (∀ j, r.who = .sequence j → s.pp.seqLeft ≠ 0 → rd t .ADC_RES j = BitVec.ofNat 32 code.toNat ∧ t.pp.seqLeft = s.pp.seqLeft - 1) ∧ frame t) ∧
    ((s.pp.adcCur = none ∨ timerDue s tmrAdc = false) → exec (.adcConversionDone code) s = .next s) ∧
    (MayWrite s req .ADC_SEQCTL 0 → s.pp.seqLeft = 0 → idleAdc → Does (.adcSeqGo req) s fun t =>
      rb t .ADC_SEQCTL 0 2 = true ∧ t.pp.seqLeft = rf s .ADC_SEQLEN 0 3 0 + 1 ∧ t.pp.adcCur = some ⟨3, rf s .ADC_SEQ 0 3 0, .sequence 0, s.cycles⟩ ∧
      timerOn t tmrSeq = decide (rn s .ADC_SEQPER 0 ≠ 0) ∧ frame t) ∧
    (MayWrite s req .ADC_SEQCTL 0 → Does (.adcSeqStop req) s fun t => rb t .ADC_SEQCTL 0 2 = false ∧ t.pp.seqLeft = 0 ∧ timerOn t tmrSeq = false ∧
      (∀ r, r ∈ t.pp.adcWait → ∀ j, r.who ≠ .sequence j) ∧ t.pp.adcCur = s.pp.adcCur.map (fun r => if ofSeq r then { r with who := .nobody } else r) ∧ frame t) ∧
    (timerDue s tmrSeq = true →
      (s.pp.seqLeft ≠ 0 → Does .adcSeqPeriod s fun t => rb t .ADC_SEQCTL 0 3 = true ∧ t.pp.seqLeft = s.pp.seqLeft ∧ frame t) ∧
      (s.pp.seqLeft = 0 → idleAdc → Does .adcSeqPeriod s fun t => t.pp.seqLeft = rf s .ADC_SEQLEN 0 3 0 + 1 ∧
        t.pp.adcCur = some ⟨3, rf s .ADC_SEQ 0 3 0, .sequence 0, s.cycles⟩ ∧ t.io = s.io ∧ frame t)) ∧
    (MayWrite s req .PP_LIMLOCK 0 → exec (.ppLimitLock req) s = .next (wb s .PP_LIMLOCK 0 0 true))

/-- The cutter, the drawers, the bell and the LEDs (R776-R779, R782-R787, R790, R791).
Model's choices: log entries 5, 77, 78. -/
def Obligations.CutterDrawersBellLeds : Prop :=
  ∀ (s : State) (req : Nat) (k : Fin 2) (j : Fin 3) (v : Byte), Live s .print →
    let p := s.pp
    let frame (t : State) : Prop := t.thr = s.thr ∧ SameMemory s t
    let x := drawerOf s k
    let drive (t : State) (c : CutPhase) (drv brake : Bool) : Prop := t.pp.cut = c ∧ t.pp.cutDrv = drv ∧ t.pp.brake = brake ∧ frame t
    (MayWrite s req .PP_CCTL 0 → cutRefusal s = 0 → Does (.cut req) s fun t => drive t .starting false false ∧ dstate t 2 = 1 ∧
      timerOn t tmrCutRise = true ∧ timerOn t tmrCutLeave = true ∧ timerOn t tmrCutTmo = true) ∧
    (MayWrite s req .PP_CCTL 0 → cutRefusal s ≠ 0 → Does (.cut req) s fun t => rf t .PP_CSTAT 0 2 0 = cutRefusal s ∧ t.pp = p ∧ dstate t 2 = dstate s 2 ∧ frame t) ∧
    (timerDue s tmrCutRise = true → p.cut = .starting → Does .cutterDriveRise s fun t => drive t .driving true false ∧ t.io = s.io) ∧
    (timerDue s tmrCutLeave = true → p.cut ≠ .idle → Does (.cutLeaveTimeout false) s fun t => drive t .coasting false p.brake ∧
      rb t .PP_CFAULT 0 1 = true ∧ rf t .PP_CSTAT 0 2 0 = 6 ∧ dstate t 2 = 3) ∧
    (timerDue s tmrCutTmo = true → p.cut ≠ .idle → Does (.cutTimeout false) s fun t => drive t .coasting false p.brake ∧
      rb t .PP_CFAULT 0 0 = true ∧ rf t .PP_CSTAT 0 2 0 = 5 ∧ dstate t 2 = 3) ∧
    (timerDue s tmrCutBrake = true → p.cut = .coasting → Does .cutterBrake s fun t =>
      drive t (if dstate s 2 = 3 then .idle else .braking) false true ∧ (dstate s 2 ≠ 3 → timerOn t tmrCutEnd = true) ∧ t.io = s.io) ∧
    (timerDue s tmrCutEnd = true → p.cut = .braking → Does .cutterBrakeEnd s fun t => drive t .idle false true ∧ dstate t 2 = 0) ∧
    (timerDue s tmrCutEnd = true → p.cut = .jogBraking → Does .cutterBrakeEnd s fun t => drive t .idle false true ∧ dstate t 2 = 0 ∧ rf t .PP_CSTAT 0 2 0 = 0) ∧
    (MayWrite s req .PP_CCTL 0 → mgmt s 2 = 1 → dstate s 2 = 0 → Does (.jog req) s fun t => drive t .jogging true false ∧ dstate t 2 = 1 ∧ timerOn t tmrJog = true) ∧
    (MayWrite s req .PP_CCTL 0 → (mgmt s 2 ≠ 1 ∨ dstate s 2 ≠ 0) → exec (.jog req) s = .next s) ∧
    (timerDue s tmrJog = true → p.cut = .jogging → Does .jogEnd s fun t => drive t .jogBraking false true ∧ timerOn t tmrCutEnd = true ∧ t.io = s.io) ∧
    (MayWrite s req .PP_CCTL 0 → rb s .PP_CCTL 0 0 = true → dstate s 2 = 1 → Does (.cutterDisable req) s fun t =>
      drive t .braking false true ∧ rb t .PP_CCTL 0 0 = false ∧ mgmt t 2 = 0 ∧ rf t .PP_CSTAT 0 2 0 = 7) ∧
    (MayWrite s req .PP_CCTL 0 → rb s .PP_CCTL 0 0 = true → dstate s 2 ≠ 1 → Does (.cutterDisable req) s fun t =>
      t.pp = p ∧ rb t .PP_CCTL 0 0 = false ∧ mgmt t 2 = 0 ∧ dstate t 2 = dstate s 2 ∧ frame t) ∧
    (MayWrite s req .PP_CFAULT 0 → Does (.cutterFaultClear req v) s fun t =>
      (∀ i, i < 3 → rb t .PP_CFAULT 0 i = (rb s .PP_CFAULT 0 i && !(v.getLsbD i && !(i == 2 && p.cover)))) ∧
      (dstate s 2 = 3 → (∀ i, i < 3 → rb t .PP_CFAULT 0 i = false) → dstate t 2 = 0) ∧ t.pp = p ∧ frame t) ∧
    (MayWrite s req .PP_DPULSE k → mgmt s (3 + k) = 1 →
      (x.high = none → timerOn s (tmrCool k) = false → Does (.drawerPulse req k v) s fun t => drawerOf t k = { high := some (s.time, max 10 v.toNat), held := none } ∧
        mget (fun _ => none) t.timers (tmrPulseDrw k) = some (s.time + 24000 * max 10 v.toNat) ∧ frame t) ∧
      ((x.high ≠ none ∨ timerOn s (tmrCool k) = true) → Does (.drawerPulse req k v) s fun t => drawerOf t k = { x with held := some (max 10 v.toNat) } ∧
        t.timers = s.timers ∧ frame t)) ∧
    (MayWrite s req .PP_DPULSE k → mgmt s (3 + k) ≠ 1 → exec (.drawerPulse req k v) s = .next s) ∧
    (∀ a w, timerDue s (tmrPulseDrw k) = true → x.high = some (a, w) → Does (.drawerPulseEnd k) s fun t => drawerOf t k = { x with high := none } ∧
      mget (fun _ => none) t.timers (tmrCool k) = some (s.time + 4 * (24000 * w)) ∧ frame t) ∧
    (timerDue s (tmrCool k) = true →
      (∀ w, x.held = some w → Does (.drawerCooldownEnd k) s fun t => drawerOf t k = { high := some (s.time, w), held := none } ∧ timerOn t (tmrPulseDrw k) = true ∧ frame t) ∧
      (x.held = none → exec (.drawerCooldownEnd k) s = .next (stopTimer s (tmrCool k)))) ∧
    (MayWrite s req .PP_DCTL 0 → rb s .PP_DCTL 0 k = true → Does (.drawerDisable req k) s fun t =>
      rb t .PP_DCTL 0 k = false ∧ mgmt t (3 + k) = 0 ∧ drawerOf t k = { high := none, held := none } ∧ frame t) ∧
    (MayWrite s req .PP_BELLCTL 0 → Does (.bellGo req) s fun t => t.pp.bell = true ∧ t.pp.bellLeft = atLeast1 (rn s .PP_BELLCNT 0) ∧ rb t .PP_BELLCTL 0 2 = true ∧
      timerOn t tmrBell = true ∧ frame t) ∧
    (MayWrite s req .PP_BELLCTL 0 → Does (.bellStop req) s fun t => t.pp.bell = false ∧ rb t .PP_BELLCTL 0 2 = false ∧ timerOn t tmrBell = false ∧ frame t) ∧
    (timerDue s tmrBell = true → Does .bellTimer s fun t => t.pp.bell = (!p.bell && decide (1 < p.bellLeft)) ∧ timerOn t tmrBell = (p.bell || decide (1 < p.bellLeft)) ∧ frame t) ∧
    (∀ f : Fin 5, MayWrite s req (ledReg f) j → Does (.ledModeWrite req j f v) s fun t => rd t (ledReg f) j = BitVec.ofNat 32 v.toNat ∧
      (rn t .PP_LEDMODE j = 0 → (ledOf t j).out = false) ∧ (rn t .PP_LEDMODE j = 1 → (ledOf t j).out = true) ∧
      (rn t .PP_LEDMODE j = 2 → (ledOf t j).out = true ∧ timerOn t (tmrLed j) = true) ∧ frame t) ∧
    (timerDue s (tmrLed j) = true →
      ((ledOf s j).out = true → Does (.ledPatternTick j) s fun t => (ledOf t j).out = false ∧ timerOn t (tmrLed j) = true ∧ t.io = s.io ∧ frame t) ∧
      ((ledOf s j).out = false → rn s .PP_LEDMODE j = 2 → Does (.ledPatternTick j) s fun t => (ledOf t j).out = true ∧ timerOn t (tmrLed j) = true ∧ t.io = s.io ∧ frame t))

/-! ## The links -/

/-- USB off its endpoints (R806, R807, R812-R816, R826, R831): disable, VBUS, bus reset, suspend, resume, remote wake, the address, toggles, the return of the LINK
clocks and NOCLK.
Model's choice: log entry 140. -/
def Obligations.UsbBusEvents : Prop :=
  ∀ (s : State) (req : Nat) (v : Byte) (e : Fin 3),
    let live := Live s .usb
    let frame (t : State) : Prop := t.thr = s.thr ∧ t.near = s.near ∧ t.iram = s.iram ∧ t.far = s.far
    let idle (t : State) : Prop := ∀ u, u ∈ usbUnits → slotOf t u = none
    (MayWrite s req .USB_CTL 0 → rb s .USB_CTL 0 0 = true → dstate s 5 ≤ 1 → Does (.usbDisable req) s fun t =>
      rb t .USB_CTL 0 0 = false ∧ mgmt t 5 = 0 ∧ dstate t 5 = 0 ∧ idle t ∧ t.usb.sent = none ∧ frame t) ∧
    (∀ level, live → rb s .USB_STAT 0 0 ≠ level → Does (.vbusChange level) s fun t =>
      mget (fun _ => none) t.pads 97 = some level ∧ rb t .USB_STAT 0 0 = level ∧ rb t .USB_STAT 0 5 = true ∧ (level = false → t.usb.addr = 0 ∧ idle t) ∧ frame t) ∧
    (live → usbPull s = true → Does .usbBusReset s fun t => t.usb.addr = 0 ∧ rd t .USB_ADDR 0 = 0 ∧ t.usb.staged = none ∧ t.usb.toggle = [] ∧
      t.usb.armIn = false ∧ t.usb.armOut = false ∧ (∀ k, k < 3 → rf t .USB_EPCFG k 3 0 = 0) ∧ rb t .USB_STAT 0 2 = true ∧ rb t .USB_STAT 0 1 = false ∧
      mget (fun _ => none) t.timers tmrIdle = some (s.time + 72000) ∧ idle t ∧ frame t) ∧
    (live → usbPull s = true → rb s .USB_STAT 0 1 = false → timerDue s tmrIdle = true →
      (Does .usbSuspend s fun t => rb t .USB_STAT 0 1 = true ∧ rb t .USB_STAT 0 3 = true ∧ t.usb.susAt = s.time ∧ frame t) ∧
      exec .usbResume s = .next (startTimer (send s 7 (.count 0x08 1)) tmrIdle 72000)) ∧
    (live → timerDue s tmrIdle = false → exec .usbSuspend s = .next s) ∧
    (live → rb s .USB_STAT 0 1 = true → Does .usbResume s fun t => rb t .USB_STAT 0 1 = false ∧ rb t .USB_STAT 0 4 = true ∧ frame t) ∧
    (MayWrite s req .USB_CTL 0 → rb s .USB_STAT 0 1 = true → s.usb.susAt + 120000 ≤ s.time →
      exec (.usbRemoteWake req) s = .next (startTimer (setUsb s { s.usb with waking := true }) 132 120000)) ∧
    (MayWrite s req .USB_CTL 0 → rb s .USB_STAT 0 1 = false → exec (.usbRemoteWake req) s = .next s) ∧
    (live → timerDue s 132 = true → exec .usbRemoteWakeEnd s = .next (stopTimer (setUsb s { s.usb with waking := false }) 132)) ∧
    (MayWrite s req .USB_ADDR 0 → Does (.usbAddrWrite req v) s fun t => t.usb.staged = some (v.toNat % 128) ∧ t.usb.addr = s.usb.addr ∧
      rb t .USB_ADDR 0 7 = true ∧ frame t) ∧
    (MayWrite s req .USB_EPCFG e → Does (.usbToggleReset req e) s fun t => togOf t (2 * (e + 1)) = false ∧ togOf t (2 * (e + 1) + 1) = false ∧
      (∀ k, k / 2 ≠ e.val + 1 → togOf t k = togOf s k) ∧ t.io = s.io ∧ frame t) ∧
    (s.dev.phase = .awake → s.dev.linkLost = true → rb s .CLK_STAT 0 3 = true → rb s .CLK_CTL 0 2 = true → s.dev.linkOn = true →
      Does .linkClockRestore s fun t => t.dev.linkLost = false ∧ rb t .USB_STAT 0 7 = true ∧ rb t .ETH_STAT 0 6 = true ∧ dstate t 5 = 3 ∧ dstate t 6 = 3 ∧
        idle t ∧ slotOf t 2 = none ∧ slotOf t 3 = none ∧ frame t) ∧
    (MayWrite s req .USB_STAT 0 → Does (.linkNoclkClear req false) s fun t => rb t .USB_STAT 0 7 = false ∧ dstate t 5 ≠ 3 ∧ frame t) ∧
    (MayWrite s req .ETH_STAT 0 → Does (.linkNoclkClear req true) s fun t => rb t .ETH_STAT 0 6 = false ∧ dstate t 6 ≠ 3 ∧ t.eth.onPllc = false ∧ frame t)

/-- USB endpoints (R816-R828): SETUP is copied and disarms EP0, ARMIN, ARMOUT and STALL, IN packets sent and advanced by their handshake, OUT packets stored by EP0 or
in the entry held, or discarded; a token for an IN entry whose bytes are on their way is not answered.
Model's choices: log entries 24, 80, 116. -/
def Obligations.UsbEndpointTraffic : Prop :=
  ∀ (s : State) (req : Nat) (a : BitVec 7) (tog : Bool) (data : List Byte) (sd : BitVec 64), Live s .usb →
    let u := s.usb
    let heard := usbHears s = true ∧ a.toNat = u.addr
    let ready0 := u.stall0 = false ∧ rb s .USB_EP0CTL 0 3 = false ∧ mgmt s 5 = 1
    let frame (t : State) : Prop := t.thr = s.thr ∧ t.near = s.near ∧ t.iram = s.iram
    (heard → mgmt s 5 ≠ 2 → Does (.usbSetup a sd) s fun t =>
      (∀ k, k < 8 → rd t .USB_SETUP k = BitVec.ofNat 32 (sd.toNat / 256 ^ k % 256)) ∧ rb t .USB_EP0CTL 0 3 = true ∧ t.usb.armIn = false ∧ t.usb.armOut = false ∧
      t.usb.stall0 = false ∧ togOf t 0 = true ∧ togOf t 1 = true ∧ t.usb.addr = u.addr ∧ frame t) ∧
    (MayWrite s req .USB_EP0CTL 0 → rb s .USB_EP0CTL 0 3 = false →
      (Does (.usbEp0Armin req) s fun t => t.usb = { u with armIn := true } ∧ rb t .USB_EP0CTL 0 6 = true ∧ SameIoBut [regAddr .USB_EP0CTL 0] s t ∧ frame t) ∧
      (Does (.usbEp0Armout req) s fun t => t.usb = { u with armOut := true } ∧ rb t .USB_EP0CTL 0 6 = true ∧ SameIoBut [regAddr .USB_EP0CTL 0] s t ∧ frame t)) ∧
    (MayWrite s req .USB_EP0CTL 0 → exec (.usbEp0Stall req) s = .next (setUsb s { u with stall0 := true })) ∧
    (heard → ready0 → u.armIn = true → exec (.usbInToken a 0) s = .next (usbHeard (setUsb s { u with sent := some (0, min (rf s .USB_EP0LEN 0 6 0) 64) }))) ∧
    (∀ (ep : Fin 4) (n : Nat) (x : Slot), heard → epUnit ep false = some n → rb s .USB_EPCFG (ep.val - 1) 0 = true → rb s .USB_EPCFG (ep.val - 1) 2 = false → mgmt s 5 = 1 →
      slotOf s n = some x → nbit x.e.uflags 1 = false → x.mark ≠ 1 →
      let k := min (usbMps s n) (fragTotal x.e.frags - x.moved)
      ((k ≠ 0 → ∃ mv, moverOf s x.chan x.e.idx = some mv ∧ k ≤ mv.got.length) →
        exec (.usbInToken a ep) s = .next (usbHeard (setUsb s { u with sent := some (ep.val, k) }))) ∧
      (∀ mv, moverOf s x.chan x.e.idx = some mv → mv.got.length < k → mv.bad = false → exec (.usbInToken a ep) s = .next (usbHeard s))) ∧
    (heard → ready0 → u.armOut = true → data.length ≤ 64 → tog = togOf s 1 → Does (.usbOutData a 0 tog data true) s fun t =>
      (∀ k, k < data.length → rd t .USB_EP0BUF k = BitVec.ofNat 32 (data.getD k 0).toNat) ∧ rd t .USB_EP0LEN 0 = BitVec.ofNat 32 data.length ∧
      togOf t 1 = !tog ∧ t.usb.armOut = false ∧ t.usb.armIn = u.armIn ∧ rb t .USB_EP0CTL 0 5 = true ∧ frame t) ∧
    (∀ (ep : Fin 4) (n : Nat), heard → epUnit ep true = some n → rb s .USB_EPCFG (ep.val - 1) 1 = true → data.length ≤ usbMps s n →
      exec (.usbOutData a ep tog data false) s = .next (usbHeard (send s 7 (.count 0x5C 1))) ∧
      (rb s .USB_EPCFG (ep.val - 1) 3 = false → mgmt s 5 = 1 → tog ≠ togOf s (2 * ep.val + 1) →
        exec (.usbOutData a ep tog data true) s = .next (usbHeard (send s 7 (.count 0x5E 1)))) ∧
      (∀ x, rb s .USB_EPCFG (ep.val - 1) 3 = false → mgmt s 5 = 1 → tog = togOf s (2 * ep.val + 1) → slotOf s n = some x →
        data.length = usbMps s n → x.moved + 2 * usbMps s n ≤ fragTotal x.e.frags → nbit x.e.uflags 0 = false →
        Does (.usbOutData a ep tog data true) s fun t => slotOf t n = some { x with moved := x.moved + data.length } ∧
          togOf t (2 * ep.val + 1) = !tog ∧ t.xwait = (usbHeard (unitSend s x.chan x.e.idx x.e.frags x.moved data)).xwait ∧ frame t)) ∧
    (∀ n, u.sent = some (0, n) → Does .usbHandshake s fun t => t.usb.sent = none ∧ togOf t 0 = !(togOf s 0) ∧ t.usb.armIn = false ∧ rb t .USB_EP0CTL 0 4 = true ∧
      t.usb.addr = (if n = 0 then u.staged.getD u.addr else u.addr) ∧ frame t) ∧
    (∀ (ep : Fin 4) n k x, u.sent = some (ep.val, n) → epUnit ep false = some k → slotOf s k = some x → nbit x.e.uflags 1 = false →
      x.moved + n < fragTotal x.e.frags → Does .usbHandshake s fun t => t.usb.sent = none ∧ togOf t (2 * ep.val) = !(togOf s (2 * ep.val)) ∧
        slotOf t k = some { x with moved := x.moved + n } ∧ t.io = s.io ∧ frame t) ∧
    (u.sent ≠ none → exec (.usbHandshakeTimeout false) s = .next (setUsb s { u with sent := none }) ∧
      exec (.usbHandshakeTimeout true) s = .next (send s 7 (.count 0x08 1)))

/-- Ethernet (R806, R831, R833, R834, R836, R840, R843, R845-R847): frames received are stored or dropped, delivered, sent, collide and back off; pauses; MDIO.
Model's choices: log entries 4, 81, 108, 116. -/
def Obligations.EthernetEffects : Prop :=
  ∀ (s : State) (req : Nat) (bs : List Byte) (data : BitVec 16), Live s .eth →
    let e := s.eth
    let frame (t : State) : Prop := t.thr = s.thr ∧ t.near = s.near ∧ t.iram = s.iram
    let done (t : State) (c idx st n cf : Nat) : Prop := (xwaitOf t 19).getLast? = some (.ringDone c idx st n cf)
    (MayWrite s req .ETH_CTL 0 → rb s .ETH_CTL 0 0 = true → dstate s 6 = 1 → Does (.ethDisable req) s fun t =>
      rb t .ETH_CTL 0 0 = false ∧ mgmt t 6 = 0 ∧ slotOf t 2 = none ∧ dstate t 6 = (if e.sending then 2 else 0) ∧
      (if e.sending then slotOf t 3 = slotOf s 3 else slotOf t 3 = none) ∧ frame t) ∧
    (connected s .ethCrsdv = true → connected s (.ethRxd 0) = true → connected s (.ethRxd 1) = true → rb s .ETH_CTL 0 0 = true → rb s .ETH_CTL 0 1 = true →
      unitRuns s 6 = true →
      (fcsOk bs = false → Does (.ethFrameReceived bs false) s fun t => t.eth = e ∧ rb t .ETH_STAT 0 1 = true ∧ SameIoBut [regAddr .ETH_STAT 0] s t ∧ frame t) ∧
      (fcsOk bs = true → 64 ≤ bs.length → bs.length ≤ 1518 → accepts s bs = true → be16 bs 12 ≠ 0x8808 → rb s .ETH_MACCFG 0 7 = false →
        (rxFill s + fifoBytes bs.length ≤ 4096 → Does (.ethFrameReceived bs false) s fun t =>
          t.eth = { e with fifo := e.fifo ++ [⟨bs, 0, rxCflags s (bs.take (bs.length - 4))⟩] } ∧
          rd t .ETH_RXFILL 0 = BitVec.ofNat 32 (rxFill s + fifoBytes bs.length) ∧ SameIoBut [regAddr .ETH_RXFILL 0] s t ∧ frame t) ∧
        (4096 < rxFill s + fifoBytes bs.length → Does (.ethFrameReceived bs false) s fun t =>
          t.eth = e ∧ rb t .ETH_STAT 0 0 = true ∧ SameIoBut [regAddr .ETH_STAT 0] s t ∧ frame t))) ∧
    (∀ f rest x, e.fifo = f :: rest → slotOf s 2 = some x → unitRuns s 6 = true → f.bytes.length - 4 ≤ fragTotal x.e.frags →
      Does .ethRxDeliver s fun t => t.eth.fifo = rest ∧ slotOf t 2 = none ∧
        xwaitOf t 19 = xwaitOf (unitSend s x.chan x.e.idx x.e.frags 0 (f.bytes.take (f.bytes.length - 4))) 19 ++
          [.ringDone x.chan x.e.idx f.status ((f.bytes.length - 4) % 65536) f.cflags] ∧ frame t) ∧
    ((rb s .ETH_CTL 0 2 = true ∧ unitRuns s 6 = true ∧ slotOf s 3 ≠ none ∧ e.tx ≠ [] ∧ e.sending = false ∧ e.backoff = false ∧ e.pause = 0) →
      exec .ethTxStart s = .next (setEth s { e with sending := true })) ∧
    (e.pause ≠ 0 → exec .ethTxStart s = .next s) ∧
    (∀ x, e.sending = true → slotOf s 3 = some x → Does .ethTxDone s fun t => t.eth.sending = false ∧ slotOf t 3 = none ∧
      done t x.chan x.e.idx 0 (fragTotal x.e.frags % 65536) 0 ∧ (mgmt s 6 = 0 → dstate s 6 = 2 → dstate t 6 = 0) ∧ frame t) ∧
    (∀ x, connected s .ethCrsdv = true → e.sending = true → rb s .ETH_MACCFG 0 1 = false → slotOf s 3 = some x →
      (e.attempts + 1 < 16 → Does (.ethCollision false) s fun t => t.eth = { e with attempts := e.attempts + 1, sending := false, backoff := true } ∧
        slotOf t 3 = some x ∧ t.io = s.io ∧ frame t) ∧
      (16 ≤ e.attempts + 1 → Does (.ethCollision false) s fun t => rb t .ETH_STAT 0 2 = true ∧ slotOf t 3 = none ∧ done t x.chan x.e.idx 0x83 0 0 ∧ frame t) ∧
      (Does (.ethCollision true) s fun t => rb t .ETH_STAT 0 2 = true ∧ slotOf t 3 = none ∧ done t x.chan x.e.idx 0x82 0 0 ∧ frame t)) ∧
    (e.backoff = true → exec .ethBackoffEnd s = .next (txStart (setEth s { e with backoff := false }))) ∧
    (e.pause ≠ 0 → exec (.ethPauseEnd false) s = .next (wb (setEth s { e with pause := 0 }) .ETH_STAT 0 5 false)) ∧
    (rb s .ETH_MACCFG 0 3 = true → rb s .ETH_MACCFG 0 1 = true → unitRuns s 6 = true → rb s .ETH_CTL 0 0 = true → e.sending = false →
      rn s .ETH_RXPHI 0 < rxFill s →
      exec .ethPauseSend s = .next (send (setEth s { e with pauseSent := true }) 9 (.count 0x6B 1))) ∧
    (rb s .ETH_MACCFG 0 5 = false → e.onPllc = false → Does .ethRefclkLoss s fun t =>
      t.eth.onPllc = true ∧ rb t .ETH_STAT 0 6 = true ∧ dstate t 6 = 3 ∧ slotOf t 2 = none ∧ slotOf t 3 = none ∧ frame t) ∧
    (MayWrite s req .ETH_MDCMD 0 → e.mdio = none → Does (.mdioGo req) s fun t => t.eth.mdio = some (rf s .ETH_MDCMD 0 10 0) ∧ rb t .ETH_MDCMD 0 12 = true ∧
      SameIoBut [regAddr .ETH_MDCMD 0] s t ∧ frame t) ∧
    (∀ op, e.mdio = some op → Does (.mdioDone data) s fun t => t.eth.mdio = none ∧ rb t .ETH_MDCMD 0 12 = false ∧ rb t .ETH_STAT 0 3 = true ∧
      rd t .ETH_MDDATA 0 = (if nbit op 10 then rd s .ETH_MDDATA 0 else BitVec.ofNat 32 data.toNat) ∧ frame t) ∧
    (rb s .ETH_MDPOLL 0 0 = true → timerDue s 131 = true → Does (.mdioPoll data) s fun t => rb t .ETH_MDPOLL 0 6 = nbit data.toNat 2 ∧
      mget (fun _ => none) t.timers 131 = some (s.time + 384000) ∧ (rb s .ETH_MDPOLL 0 6 ≠ nbit data.toNat 2 → rb t .ETH_STAT 0 4 = true) ∧ frame t)

/-- The UARTs (R806, R850-R856, R864): characters received and sent, breaks, line changes, the idle timeout, the data port, disable.
Model's choices: log entries 82, 126. -/
def Obligations.UartEffects : Prop :=
  ∀ (s : State) (req : Nat) (n : Fin 2) (b : Byte) (fe pe : Bool) (t8 : Fin 8) (g : Fin 16), Live s .serial →
    let u := uartOf s n
    let frame (t : State) : Prop := t.thr = s.thr ∧ SameMemory s t
    let runs := unitRuns s (7 + n) = true ∧ rb s .UART_CTL n 0 = true ∧ uartStill s n = false
    let hears := runs ∧ connected s (.rxd n) = true
    let c : Byte := if rb s .UART_FMT n 0 then b else b &&& 0x7F
    let odd := pe && (rf s .UART_FMT n 2 1 == 1 || rf s .UART_FMT n 2 1 == 2)
    (MayWrite s req .UART_CTL n → rb s .UART_CTL n 0 = true → dstate s (7 + n) = 1 → Does (.uartDisable req n) s fun t =>
      rb t .UART_CTL n 0 = false ∧ mgmt t (7 + n) = 0 ∧ (uartOf t n).rx = [] ∧ (uartOf t n).tx = [] ∧ (uartOf t n).shift = u.shift ∧
      slotOf t (9 + 2 * n) = none ∧ slotOf t (10 + 2 * n) = none ∧ dstate t (7 + n) = (if u.shift = none then 0 else 2) ∧ frame t) ∧
    (hears → rb s .UART_CTL n 1 = false →
      (rxCount u < 64 → Does (.uartCharReceived n b fe pe) s fun t =>
        (uartOf t n).rx = u.rx ++ [if fe || odd then .bad c else .good c] ∧ (uartOf t n).tx = u.tx ∧ rd t .UART_RXCNT n = BitVec.ofNat 32 (rxCount u + 1) ∧
        (fe = true → rb t .UART_STAT n 1 = true) ∧ (odd = true → rb t .UART_STAT n 2 = true) ∧ frame t) ∧
      (64 ≤ rxCount u → Does (.uartCharReceived n b fe pe) s fun t => (uartOf t n).rx = u.rx ∧ rb t .UART_STAT n 0 = true ∧ frame t) ∧
      (Does (.uartBreak n) s fun t => rb t .UART_STAT n 7 = true ∧ rb t .UART_STAT n 3 = true ∧ (uartOf t n) = u ∧ frame t)) ∧
    (exec (.uartBreakEnd n) s = .next (wb s .UART_STAT n 7 false)) ∧
    (∀ x, slotOf s (9 + 2 * n) = some x → x.moved ≠ 0 → Does (.uartIdleTimeout n false) s fun t => slotOf t (9 + 2 * n) = none ∧
      (xwaitOf t 15).getLast? = some (.ringDone x.chan x.e.idx 0 (x.moved % 65536) 0) ∧ t.io = s.io ∧ frame t) ∧
    (u.shift ≠ none → rb s .UART_CTL n 1 = false →
      (u.tx = [] → Does (.uartTxCharDone n) s fun t => (uartOf t n).shift = none ∧ rb t .UART_STAT n 6 = true ∧ frame t) ∧
      (∀ c rest, u.tx = c :: rest → runs → rb s .UART_CTL n 2 = false → (rb s .UART_CTL n 5 = false ∨ u.cts = true) → Does (.uartTxCharDone n) s fun t =>
        (uartOf t n).shift = some c ∧ (uartOf t n).tx = rest ∧ rd t .UART_TXCNT n = BitVec.ofNat 32 rest.length ∧ frame t)) ∧
    (∀ cts dsr, slotOf s (10 + 2 * n) = none → Does (.uartLineChange n cts dsr) s fun t =>
      (uartOf t n).cts = (if connected s (.cts n) then cts else true) ∧ (uartOf t n).dsr = (if connected s (.dsr n) then dsr else false) ∧
      (u.cts ≠ (uartOf t n).cts → rb t .UART_STAT n 5 = true) ∧ (u.dsr ≠ (uartOf t n).dsr → rb t .UART_STAT n 4 = true) ∧
      t.thr = s.thr ∧ SameMemory { s with pads := t.pads } t) ∧
    (∀ c rest, MayRead s req .UART_DATA n → rb s .UART_CTL n 1 = false → u.rx = .good c :: rest → Does (.uartDataRead req n (.greg t8 g)) s fun t =>
      (xwaitOf t 5).getLast? = some (.inReply ⟨.greg t8 g, s.cycles, !(thr s t8).world⟩ c) ∧ (uartOf t n).rx = rest ∧ SameMemory s t) ∧
    (MayWrite s req .UART_DATA n → rb s .UART_CTL n 1 = false → u.tx.length < 16 →
      (u.shift ≠ none → Does (.uartDataWrite req n b) s fun t => (uartOf t n).tx = u.tx ++ [b] ∧ (uartOf t n).shift = u.shift ∧ frame t) ∧
      (u.shift = none → u.tx = [] → runs → rb s .UART_CTL n 2 = false → (rb s .UART_CTL n 5 = false ∨ u.cts = true) → Does (.uartDataWrite req n b) s fun t =>
        (uartOf t n).shift = some b ∧ (uartOf t n).tx = [] ∧ frame t))

/-! ## The kitchen bus, the accessory bus and the serial flash -/

/-- Kolnex sends (R876, R877, R879, R884, R886-R888, R890, R892, R893, R895, R898, R900, R907, R908, R914, R915): enable and disable, entries taken, slots drawn and used, collisions, echo
faults, ACKs and their absence, LONE, the fault cleared.
Model's choices: log entries 4, 83, 85, 86, 87, 116, 140. -/
def Obligations.KolnexSends : Prop :=
  ∀ (s : State) (req : Nat) (v : Byte), Live s .serial →
    let k := s.kx
    let frame (t : State) : Prop := t.thr = s.thr ∧ SameMemory s t
    let gone (t : State) (i : Nat) : Prop := ∀ h, h ∈ t.kx.held → h.idx ≠ i
    let faulted (cause : Nat) (t : State) : Prop := rb t .KX_STAT 0 1 = true ∧ rf t .KX_STAT 0 3 2 = cause ∧ dstate t 9 = 3 ∧ t.kx.wire = .quiet ∧
      t.kx.ackWin = none ∧ t.kx.ackOwed = none ∧ (∀ i f, k.wire = .data i → kxFind s i = some f → gone t i) ∧ frame t
    (MayWrite s req .KX_CTL 0 → rb s .KX_CTL 0 0 = false →
      (kxAddr s ≠ 0xFF → Does (.kolnexEnable req) s fun t => rb t .KX_CTL 0 0 = true ∧ mgmt t 9 = 1 ∧ t.kx.seqOf = [] ∧ t.kx.dup = [] ∧ t.kx.held = k.held ∧ frame t) ∧
      (kxAddr s = 0xFF → Does (.kolnexEnable req) s fun t => rb t .KX_CTL 0 0 = false ∧ rb t .KX_STAT 0 4 = true ∧ mgmt t 9 = mgmt s 9 ∧ t.kx.held = k.held ∧ frame t)) ∧
    (MayWrite s req .KX_CTL 0 → rb s .KX_CTL 0 0 = true → Does (.kolnexDisable req) s fun t => rb t .KX_CTL 0 0 = false ∧ mgmt t 9 = 0 ∧ t.kx.staging = [] ∧ t.kx.lone = [] ∧
      kxLone t = false ∧ slotOf t 14 = none ∧ (k.wire = .quiet → k.ackWin = none → t.kx.held = []) ∧ frame t) ∧
    (∀ e rest, k.inbox = e :: rest → unitRuns s 9 = true →
      (kxWellFormed s e = false → Does .kolnexTxAccept s fun t => t.kx.inbox = rest ∧ t.kx.held = k.held ∧
        xwaitOf t 15 = xwaitOf s 15 ++ [.ringAccept k.chan, .ringDone k.chan e.idx 0x84 0 0] ∧ frame t) ∧
      (kxWellFormed s e = true → Does .kolnexTxAccept s fun t => t.kx.inbox = rest ∧
        t.kx.held = k.held ++ [⟨e.idx, e.uarg, e.uflags % 16, e.uflags / 16 % 4, [], none, 0, false, false⟩] ∧ .ringAccept k.chan ∈ xwaitOf t 15 ∧
        (nbit e.uflags 6 = false → moverOf t k.chan e.idx = some ⟨e.frags, fragTotal e.frags, fragTotal e.frags, [], 0, false⟩) ∧ frame t)) ∧
    (k.wire = .quiet → k.ackWin = none → Does .kolnexBusFree s fun t => t.kx.free = true ∧ t.kx.held = k.held ∧
      (kxWants s = true → k.bcnDue = true → ∃ n, n < 4 ∧ t.kx.drawn = some n) ∧
      (∀ f, kxWants s = true → k.bcnDue = false → kxOffer s = some f → ∃ r, r < 2 ^ min (f.tries + 2) 5 ∧ t.kx.drawn = some (4 * (3 - f.prio) + r)) ∧ frame t) ∧
    (k.drawn ≠ none → kxWants s = true →
      (connected s .kxRx = true → Does (.kolnexSlotStart true) s fun t => t.kx.wire = k.wire ∧ t.kx.free = false ∧ t.kx.drawn = none ∧ t.kx.held = k.held ∧ frame t) ∧
      (k.bcnDue = true → Does (.kolnexSlotStart false) s fun t => t.kx.wire = .beacon ∧ t.kx.bcnDue = false ∧ t.kx.free = false ∧ t.kx.held = k.held ∧ frame t) ∧
      (∀ f, k.bcnDue = false → kxOffer s = some f → Does (.kolnexSlotStart false) s fun t => t.kx.wire = .data f.idx ∧ t.kx.free = false ∧
        t.kx.held = k.held.map (fun h => if h.idx == f.idx then
          { f with seq := some (f.seq.getD (mget (fun _ => 0) k.seqOf f.dst)), tries := f.tries + 1, loneSent := f.loneSent || (kxLone s && f.dst == 0xFF) } else h) ∧
        frame t)) ∧
    (k.wire ≠ .quiet → Does (.kolnexReadbackMismatch true) s (faulted 1)) ∧
    (∀ i f, k.wire = .data i → kxFind s i = some f → kxLone s = false →
      (kxAgain s f = true → Does (.kolnexReadbackMismatch false) s fun t => t.kx.wire = .quiet ∧ t.kx.free = false ∧ t.kx.lone = [] ∧
        t.kx.held = k.held.map (fun h => if h.idx == i then { f with collided := true } else h) ∧ frame t) ∧
      (kxAgain s f = false → Does (.kolnexReadbackMismatch false) s fun t => t.kx.wire = .quiet ∧ gone t i ∧
        .ringDone k.chan i 0x0A 0 (kxCflags { f with collided := true }) ∈ xwaitOf t 15 ∧ frame t)) ∧
    (rb s .KX_CTL 0 0 = true → dstate s 9 ≠ 3 → connected s .kxRx = true → Does .kolnexStuck s (faulted 2)) ∧
    (∀ i f, k.wire = .data i → kxFind s i = some f →
      (f.dst = 0xFF → Does .kolnexFrameSent s fun t => t.kx.wire = .quiet ∧ gone t i ∧ .ringDone k.chan i 0 f.payload.length (kxCflags f) ∈ xwaitOf t 15 ∧ frame t) ∧
      (f.dst ≠ 0xFF → Does .kolnexFrameSent s fun t => t.kx.wire = .quiet ∧ t.kx.ackWin = some i ∧ t.kx.held = k.held ∧ frame t)) ∧
    (∀ i f bs, connected s .kxRx = true → k.ackWin = some i → kxFind s i = some f → kxCrcOk bs = true → bs.length = 6 → bs.getD 3 0 = 0 → (bs.getD 0 0).toNat = kxAddr s →
      (bs.getD 1 0).toNat = f.dst → (bs.getD 2 0).toNat = 0xE0 + f.seq.getD 0 → Does (.kolnexAckReceived bs false) s fun t =>
        t.kx.ackWin = none ∧ gone t i ∧ .ringDone k.chan i 0 f.payload.length (kxCflags f) ∈ xwaitOf t 15 ∧ t.kx.lone = [] ∧ frame t) ∧
    (∀ i f, k.ackWin = some i → kxFind s i = some f →
      (connected s .kxRx = true → exec (.kolnexAckTimeout true false) s = .next (send s 5 (.count 0x08 1))) ∧
      (kxAgain s f = true → Does (.kolnexAckTimeout false false) s fun t => t.kx.ackWin = none ∧ t.kx.held = k.held ∧ t.kx.lone = k.lone ∧ .count 0x7A 1 ∈ xwaitOf t 5 ∧ frame t) ∧
      (kxAgain s f = false → Does (.kolnexAckTimeout false false) s fun t => t.kx.ackWin = none ∧ gone t i ∧ rd t .KX_LASTNA 0 = BitVec.ofNat 32 f.dst ∧
        .ringDone k.chan i 9 0 (kxCflags f) ∈ xwaitOf t 15 ∧ .edge 87 ∈ xwaitOf t 5 ∧ (mgmt s 9 = 1 → (f.dst, s.time) ∈ t.kx.lone) ∧
        (mgmt s 9 = 1 → ((kxAge s).filter fun e => !(e.1 == f.dst)).length = 2 → rb s .KX_CFG 0 3 = true → kxLone s = false → kxLone t = true ∧ timerOn t tmrBeacon = true) ∧ frame t)) ∧
    (kxLone s = true → timerDue s tmrBeacon = true → Does .kolnexBeaconDue s fun t => t.kx.bcnDue = true ∧ t.kx.held = k.held ∧
      mget (fun _ => none) t.timers tmrBeacon = some (s.time + 24000 * atLeast1 (rn s .KX_LONEBCN 0)) ∧ frame t) ∧
    (MayWrite s req .KX_STAT 0 → rb s .KX_STAT 0 1 = true → v.getLsbD 1 = true →
      (k.free = true → Does (.kolnexFaultClear req v) s fun t => rb t .KX_STAT 0 1 = false ∧ rf t .KX_STAT 0 3 2 = 0 ∧ dstate t 9 ≤ 1 ∧ frame t) ∧
      (k.free = false → Does (.kolnexFaultClear req v) s fun t => rb t .KX_STAT 0 1 = true ∧ t.kx.held = k.held ∧ frame t))

/-- Kolnex receives (R869, R893, R894, R901-R905): DATA frames staged and acknowledged, repeated, dropped for want of a slot, malformed; beacons, gaps, the ACK sent, frames
delivered, old entries of the LONE list.
Model's choices: log entries 84, 85, 87, 116, 117. -/
def Obligations.KolnexReceives : Prop :=
  ∀ (s : State) (bs : List Byte) (early : Bool), Live s .serial →
    let k := s.kx
    let frame (t : State) : Prop := t.thr = s.thr ∧ SameMemory s t
    let dst := (bs.getD 0 0).toNat
    let src := (bs.getD 1 0).toNat
    let seq := (bs.getD 2 0).toNat % 16
    let heard := connected s .kxRx = true ∧ rb s .KX_CTL 0 0 = true ∧ k.ackWin = none ∧ kxCrcOk bs = true
    let good := heard ∧ (bs.getD 3 0).toNat ≤ 64 ∧ bs.length = 6 + (bs.getD 3 0).toNat
    let body := bs.take (bs.length - 2)
    (good → dst = kxAddr s → k.staging.length < 2 → dstate s 9 ≠ 3 →
      (kxIsDup s src seq = false → Does (.kolnexDataReceived bs false early) s fun t => t.kx.staging = k.staging ++ [⟨body, 0⟩] ∧ t.kx.ackOwed = some (src, seq) ∧
        t.kx.lone = [] ∧ frame t) ∧
      (kxIsDup s src seq = true → Does (.kolnexDataReceived bs false early) s fun t => t.kx.staging = k.staging ∧ t.kx.ackOwed = some (src, seq) ∧ t.kx.lone = [] ∧
        .count 0x86 1 ∈ xwaitOf t 5 ∧ frame t)) ∧
    (good → dst = 0xFF → kxAddr s ≠ 0xFF → k.staging.length < 2 → Does (.kolnexDataReceived bs false early) s fun t =>
      t.kx.staging = k.staging ++ [⟨body, 1⟩] ∧ t.kx.ackOwed = k.ackOwed ∧ frame t) ∧
    (good → (dst = kxAddr s ∨ dst = 0xFF) → 2 ≤ k.staging.length → Does (.kolnexDataReceived bs false early) s fun t =>
      rb t .KX_STAT 0 7 = true ∧ t.kx.staging = k.staging ∧ t.kx.ackOwed = k.ackOwed ∧ .edge 86 ∈ xwaitOf t 5 ∧ frame t) ∧
    (connected s .kxRx = true → rb s .KX_CTL 0 0 = true → k.ackWin = none → Does (.kolnexDataReceived bs true early) s fun t => t.kx.staging = k.staging ∧ t.kx.ackOwed = k.ackOwed ∧
      t.kx.free = false ∧ t.kx.lone = k.lone ∧ frame t) ∧
    (heard → Does (.kolnexBeaconReceived bs early) s fun t => t.kx.lone = [] ∧ kxLone t = false ∧ t.kx.staging = k.staging ∧ t.kx.free = false ∧ frame t) ∧
    (kxHearing s = true → Does .kolnexRxGap s fun t => t.kx.free = false ∧ t.kx.staging = k.staging ∧ .count 0x84 1 ∈ xwaitOf t 5 ∧ frame t) ∧
    (k.ackOwed ≠ none → k.wire = .quiet → Does .kolnexAckSend s fun t => t.kx.wire = .ack ∧ t.kx.ackOwed = none ∧ t.kx.free = false ∧
      (unitRuns s 9 = true → dstate t 9 = 1) ∧ t.kx.held = k.held ∧ frame t) ∧
    (∀ f rest x, k.staging = f :: rest → slotOf s 14 = some x → Does .kolnexRxDeliver s fun t =>
      t.kx.staging = rest ∧ slotOf t 14 = none ∧ xwaitOf t 15 = xwaitOf (unitSend s x.chan x.e.idx x.e.frags 0 f.bytes) 15 ++
        [.ringDone x.chan x.e.idx 0 (f.bytes.length % 65536) f.cflags] ∧ frame t) ∧
    (Does .kolnexLoneAge s fun t =>
      t.kx.lone = k.lone.filter (fun e => decide (s.time ≤ e.2 + msTicks (atLeast1 (rn s .KX_LONEWIN 0)))) ∧
      rd t .KX_NACNT 0 = BitVec.ofNat 32 t.kx.lone.length ∧ t.kx.held = k.held ∧ frame t)

/-- Waypost (R62, R929, R931, R934, R935, R945-R947, R949, R950, R952, R960, R961): the three operations start, their slots end, disturbances, SHORT, ABORT, the clear of EN.
Model's choices: log entries 4, 5, 89, 140. -/
def Obligations.WaypostEffects : Prop :=
  ∀ (s : State) (req : Nat) (a b ea eb : Bool), Live s .serial →
    let w := s.wp
    let frame (t : State) : Prop := t.thr = s.thr ∧ SameMemory s t
    let ended (status : Nat) (t : State) : Prop := rf t .WP_RESULT 0 2 0 = status ∧ rb t .WP_STAT 0 0 = false ∧ rb t .WP_STAT 0 3 = true ∧ t.wp.slot = none ∧
      timerOn t tmrSlot = false ∧ frame t
    let fast := rb s .WP_CFG 0 0 && rb s .WP_STAT 0 4
    let rolling (op : Nat) (t : State) : Prop := rb t .WP_STAT 0 0 = true ∧ t.wp.op = op ∧
      t.wp.slot = some (if fast then .roll true false else .roll false (rb s .WP_CFG 0 0)) ∧
      mget (fun _ => none) t.timers tmrSlot = some (s.time + 24 * (if fast then 96 else 800)) ∧ frame t
    (MayWrite s req .WP_CTL 0 → rb s .WP_STAT 0 0 = false → rb s .WP_CTL 0 0 = true → hoPhase s 3 = 0 →
      (rf s .WP_OP 0 1 0 = 0 ∨ rf s .WP_OP 0 1 0 = 3 → Does (.waypostReset req) s (rolling 0)) ∧
      (rf s .WP_OP 0 1 0 = 1 → rb s .WP_OP 0 2 = false → Does (.waypostXfer req) s (rolling 1)) ∧
      (rf s .WP_OP 0 1 0 = 1 → rb s .WP_OP 0 2 = true → rf s .WP_WLEN 0 4 0 ≠ 0 → Does (.waypostXfer req) s fun t => rb t .WP_STAT 0 0 = true ∧ t.wp.slot = some .write ∧
        t.wp.bits = (List.range (min (rf s .WP_WLEN 0 4 0) 16)).flatMap (fun j => bitsOf (rn s .WP_TX j)) ∧ timerOn t tmrSlot = true ∧ frame t) ∧
      (rf s .WP_OP 0 1 0 = 2 → Does (.waypostPass req) s fun t => rolling 2 t ∧ rd t .WP_IDFOUND 0 = 0 ∧ rd t .WP_IDCRC 0 = 0 ∧ rd t .WP_IDCOUNT 0 = 0)) ∧
    (MayWrite s req .WP_CTL 0 → rb s .WP_STAT 0 0 = true →
      exec (.waypostReset req) s = .next s ∧ exec (.waypostXfer req) s = .next s ∧ exec (.waypostPass req) s = .next s) ∧
    (timerDue s tmrSlot = true → w.slot ≠ none → w.abort = true → Does (.waypostSlotEnd ⟨a, ea⟩ ⟨b, eb⟩) s fun t => ended 5 t ∧
      (∀ k, w.slot = some k → (ea = true ∧ (wpSampled k).1 = true) ∨ (eb = true ∧ (wpSampled k).2 = true) → connected s .wpLine = true →
        .count 0x08 1 ∈ xwaitOf t 5)) ∧
    (connected s .wpLine = false → exec (.waypostSlotEnd ⟨a, ea⟩ ⟨b, eb⟩) s = exec (.waypostSlotEnd ⟨true, ea⟩ ⟨true, eb⟩) s) ∧
    (connected s .wpLine = true → timerDue s tmrSlot = true → w.abort = false →
      (∀ f, w.slot = some (.roll f false) → w.op = 0 → Does (.waypostSlotEnd ⟨a, ea⟩ ⟨b, eb⟩) s fun t => ended (b01 a) t ∧ rb t .WP_STAT 0 1 = !a) ∧
      (w.slot = some .read → w.got.length < 128 →
        (a = b → Does (.waypostSlotEnd ⟨a, ea⟩ ⟨b, eb⟩) s (ended (if a then 6 else 7))) ∧
        (a ≠ b → w.got.length + 1 ≠ 8 * wpReadLen s → Does (.waypostSlotEnd ⟨a, ea⟩ ⟨b, eb⟩) s fun t => t.wp = { w with got := w.got ++ [a] } ∧
          ((w.got.length + 1) % 8 = 0 → rd t .WP_RX ((w.got.length + 1) / 8 - 1) = BitVec.ofNat 32 (ofBits ((w.got ++ [a]).drop (w.got.length - 7)))) ∧ frame t) ∧
        (a ≠ b → w.got.length + 1 = 8 * wpReadLen s → Does (.waypostSlotEnd ⟨a, ea⟩ ⟨b, eb⟩) s (ended 0))) ∧
      (w.slot = some .tripRead →
        (a = true → b = true → Does (.waypostSlotEnd ⟨a, ea⟩ ⟨b, eb⟩) s (ended 2)) ∧
        (a ≠ b → Does (.waypostSlotEnd ⟨a, ea⟩ ⟨b, eb⟩) s fun t => t.wp = { w with slot := some .tripWrite, d := a } ∧ timerOn t tmrSlot = true ∧ frame t) ∧
        (a = false → b = false → Does (.waypostSlotEnd ⟨a, ea⟩ ⟨b, eb⟩) s fun t => t.wp.slot = some .tripWrite ∧
          t.wp.d = (match w.last with | none => false | some l => if w.i > l then nbit w.prev w.i else w.i == l) ∧
          t.wp.newlast = (if t.wp.d then w.newlast else some w.i) ∧ frame t)) ∧
      (w.slot = some .tripConfirm →
        (a = true → Does (.waypostSlotEnd ⟨a, ea⟩ ⟨b, eb⟩) s (ended 2)) ∧
        (a = false → w.i ≠ 0 → Does (.waypostSlotEnd ⟨a, ea⟩ ⟨b, eb⟩) s fun t => t.wp = { w with slot := some .tripRead, i := w.i - 1 } ∧ frame t) ∧
        (a = false → w.i = 0 → w.found < 16 → Does (.waypostSlotEnd ⟨a, ea⟩ ⟨b, eb⟩) s fun t =>
          (∀ j, j < 8 → rd t .WP_ID (8 * w.found + j) = BitVec.ofNat 32 (w.cur / 256 ^ j % 256)) ∧ rb t .WP_IDFOUND 0 w.found = true ∧
          rd t .WP_IDCOUNT 0 = BitVec.ofNat 32 (w.found + 1) ∧ (wpCrc w.cur = w.cur % 256 → rb t .WP_IDCRC 0 w.found = true) ∧
          (w.newlast = none → ended 0 t) ∧ (w.newlast ≠ none → w.found + 1 < 16 → ∃ q, t.wp.slot = some (.roll q false)) ∧
          (w.newlast ≠ none → w.found + 1 = 16 → ended 3 t) ∧ frame t))) ∧
    (connected s .wpLine = true → w.slot ≠ none → Does .waypostDisturbance s fun t => t.wp = { w with changed := true } ∧ rb t .WP_RESULT 0 3 = true ∧ rb t .WP_STAT 0 2 = true ∧ frame t) ∧
    (connected s .wpLine = true → w.slot = none → rb s .WP_CTL 0 0 = true → Does .waypostDisturbance s fun t => t.wp = w ∧ rb t .WP_STAT 0 2 = true ∧ rb t .WP_STAT 0 4 = false ∧ frame t) ∧
    (connected s .wpLine = true → w.slot ≠ none → Does .waypostShort s (ended 4)) ∧
    (connected s .wpLine = true → w.slot = none → rb s .WP_CTL 0 0 = true → Does .waypostShort s fun t => t.wp = w ∧ rb t .WP_STAT 0 2 = true ∧ .count 0x8C 1 ∈ xwaitOf t 5 ∧ frame t) ∧
    (MayWrite s req .WP_CTL 0 → exec (.waypostAbort req) s = .next (if w.slot.isSome then setWp s { w with abort := true } else s)) ∧
    (MayWrite s req .WP_CTL 0 → Does (.waypostDisable req) s fun t => rb t .WP_CTL 0 0 = false ∧ (w.slot ≠ none → t.wp.abort = true) ∧ t.wp.slot = w.slot ∧ frame t)

/-- The serial flash queue (R978-R982, R985, R986, R988, R989): entries begin, break their form or belong to a broken transaction, move words at READY, end; the read of
the image header brings the ROM's checks 3 to 5 (chapter 03); the two timeouts; fault bits cleared.
Model's choices: log entries 90, 116, 128, 131. -/
def Obligations.SpiQueueEffects : Prop :=
  ∀ (s : State) (req : Nat) (v : Byte) (data : List Byte), Live s .serial →
    let p := s.spi
    let frame (t : State) : Prop := t.thr = s.thr ∧ t.near = s.near ∧ t.iram = s.iram
    let done (t : State) (x : Slot) (st n : Nat) : Prop := slotOf t 15 = none ∧ (xwaitOf t 15).getLast? = some (.ringDone x.chan x.e.idx st (n % 65536) 0)
    (∀ x, slotOf s 15 = some x → p.begun = false → rb s .SPI_STAT 0 2 = false → p.fill = none → fillReady s = false → hoPhase s 4 = 0 →
      (rb s .SPI_STAT 0 3 = true → Does .spiEntryStart s fun t => done t x 0x81 0 ∧ rb t .SPI_STAT 0 3 = entryCont x.e ∧ frame t) ∧
      (rb s .SPI_STAT 0 3 = false → spiBadForm x.e p.tr = true → Does .spiEntryStart s fun t => done t x 0x84 0 ∧ t.spi = p ∧ frame t) ∧
      (rb s .SPI_STAT 0 3 = false → spiBadForm x.e p.tr = false → Does .spiEntryStart s fun t => slotOf t 15 = some x ∧
        t.spi = { p with tr := some (entryCs x.e, entrySel x.e), begun := true, inRow := 0, sent := if p.tr.isSome then p.sent else [] } ∧ timerOn t tmrChain = false ∧
        (rdyEn s (entryCs x.e) = true → timerOn t tmrReady = true) ∧ rb t .SPI_STAT 0 0 = true ∧ frame t)) ∧
    (∀ x, slotOf s 15 = some x → timerOn s tmrReady = true → rb s .SPI_STAT 0 2 = false → p.fill = none →
      let n := if entryDummy x.e then entryLen x.e else min (wordSize x.e) (entryLen x.e - x.moved)
      let got := wordOrder (wordSize x.e) n ((data ++ List.replicate n 0).take n)
      ((entryDummy x.e = true ∨ entryRecv x.e = true) → Does (.spiReadyHigh data) s fun t =>
        slotOf t 15 = some { x with moved := x.moved + n } ∧ timerOn t tmrReady = decide (x.moved + n < entryLen x.e) ∧ t.spi = p ∧
        (entryDummy x.e = false → t.xwait = (unitSend s x.chan x.e.idx x.e.frags x.moved got).xwait) ∧ frame t) ∧
      (∀ mv, entryDummy x.e = false → entryRecv x.e = false → moverOf s x.chan x.e.idx = some mv → n ≤ mv.got.length → Does (.spiReadyHigh data) s fun t =>
        slotOf t 15 = some { x with moved := x.moved + n } ∧ timerOn t tmrReady = decide (x.moved + n < entryLen x.e) ∧
        t.spi = { p with sent := (p.sent ++ wordOrder (wordSize x.e) n (mv.got.take n)).take 8 } ∧ frame t)) ∧
    (∀ x, slotOf s 15 = some x → p.begun = true →
      let n := entryLen x.e - x.moved
      ((rdyEn s (entryCs x.e) = true ∧ n = 0) ∨ (rdyEn s (entryCs x.e) = false ∧ (entryDummy x.e = true ∨ entryRecv x.e = true ∨
        ∃ mv, moverOf s x.chan x.e.idx = some mv ∧ n ≤ mv.got.length))) → (readsHeader s = false ∨ data.length < 192) → Does (.spiEntryDone data) s fun t =>
        done t x 0 (x.moved + n) ∧ t.spi.begun = false ∧ (if entryCont x.e then t.spi.tr = p.tr ∧ timerOn t tmrChain = true else t.spi.tr = none) ∧ frame t) ∧
    (readsHeader s = true → 192 ≤ data.length → s.dev.reload = false →
      let bad := if magicOk data = false then 2 else if fieldsOk data = false then 3 else if keyOk s data = false then 6 else 0
      (bad ≠ 0 → Does (.spiEntryDone data) s fun t => rb t .PMU_MODE 0 2 = true ∧ rf t .PMU_BOOTSTAT 0 3 0 = bad ∧ frame t) ∧
      (bad = 0 → Does (.spiEntryDone data) s fun t => t.dev = { s.dev with hdr := some data, sha := data.take 128 } ∧ t.iram = [] ∧ t.thr = s.thr)) ∧
    (timerDue s tmrReady = true → exec (.spiStretchTimeout true data) s = exec (.spiReadyHigh data) (send s 5 (.count 0x08 1))) ∧
    (connected s .spiReady = false → exec (.spiStretchTimeout false data) s = .next s) ∧
    (connected s .spiReady = true → timerDue s tmrReady = true →
      (∀ x, rb s .SPI_STAT 0 2 = false → p.fill = none → slotOf s 15 = some x → Does (.spiStretchTimeout false data) s fun t => done t x 0x80 x.moved ∧
        rb t .SPI_FAULT 0 0 = true ∧ rb t .SPI_STAT 0 3 = entryCont x.e ∧ t.spi.tr = none ∧ t.spi.stopped = true ∧ .edge 91 ∈ xwaitOf t 5 ∧ frame t) ∧
      (∀ line, rb s .SPI_STAT 0 2 = false → p.fill = some line → Does (.spiStretchTimeout false data) s fun t => t.spi.fill = none ∧ rb t .SPI_FAULT 0 2 = true ∧
        (∀ l, l ∈ p.waiting → l.byte / 32 = line → .spiReply l.req l.dst (List.replicate l.n 0xFF) ∈ xwaitOf t 15) ∧ frame t) ∧
      (rb s .SPI_STAT 0 2 = true → rb s .SPI_LDCTL 0 1 = true → Does (.spiStretchTimeout false data) s fun t =>
        rb t .SPI_LDCTL 0 1 = false ∧ rb t .SPI_LDCTL 0 2 = true ∧ rb t .SPI_LDCTL 0 3 = true ∧ rb t .SPI_STAT 0 2 = false ∧ t.thr = s.thr ∧ t.near = s.near)) ∧
    (timerDue s tmrChain = true → Does (.spiChainTimeout false) s fun t => rb t .SPI_FAULT 0 1 = true ∧ rb t .SPI_STAT 0 3 = true ∧ t.spi.tr = none ∧ t.spi.stopped = true ∧
      .edge 91 ∈ xwaitOf t 5 ∧ SameMemory s t ∧ t.thr = s.thr) ∧
    (MayWrite s req .SPI_FAULT 0 → Does (.spiFaultClear req v) s fun t => rd t .SPI_FAULT 0 = rd s .SPI_FAULT 0 &&& ~~~(BitVec.ofNat 32 v.toNat) ∧
      t.spi = { p with stopped := if rf t .SPI_FAULT 0 2 0 = 0 then false else p.stopped } ∧ SameIoBut [regAddr .SPI_FAULT 0] s t ∧ SameMemory s t ∧ t.thr = s.thr)

/-- The read window and the image load (R991-R994, R996, R998, R1000, R1002, R1003): loads served or queued, fills started and ended, the cache emptied, a load of IRAM started
and ended; the load of the image brings the ROM's check 6 (chapter 03).
Model's choices: log entries 91, 92, 128, 130. -/
def Obligations.SpiWindowAndLoad : Prop :=
  ∀ (s : State) (req : Nat) (data : List Byte), Live s .serial →
    let p := s.spi
    let frame (t : State) : Prop := t.thr = s.thr ∧ t.near = s.near ∧ t.iram = s.iram ∧ t.far = s.far
    (∀ l rest, p.inLoads = l :: rest →
      let answered (bs : List Byte) (t : State) : Prop := xwaitOf t 15 = xwaitOf s 15 ++ [.spiReply l.req l.dst bs] ∧ t.spi = { p with inLoads := rest } ∧ frame t
      (rb s .SPI_WINCFG 0 0 = false → Does .spiWindowLoad s (answered (List.replicate l.n 0xFF))) ∧
      (∀ c, rb s .SPI_WINCFG 0 0 = true → cacheLine s (l.byte / 32) = some c → Does .spiWindowLoad s fun t =>
        answered (lineBytes l c.bytes) t ∧ rd t .SPI_HITS 0 = rd s .SPI_HITS 0 + 1) ∧
      (rb s .SPI_WINCFG 0 0 = true → cacheLine s (l.byte / 32) = none → Does .spiWindowLoad s fun t =>
        xwaitOf t 15 = xwaitOf s 15 ∧ t.spi.waiting = p.waiting ++ [l] ∧ (p.fill = some (l.byte / 32) ∨ ∃ q, (l.byte / 32, q) ∈ t.spi.misses) ∧ t.io = s.io ∧ frame t)) ∧
    (∀ m rest, p.misses = m :: rest → fillReady s = true → p.begun = false → Does .spiFillStart s fun t => t.spi.fill = some m.1 ∧ t.spi.misses = rest ∧ t.spi.keep = true ∧
      rb t .SPI_STAT 0 1 = true ∧ rd t .SPI_MISSES 0 = (if m.2 then rd s .SPI_MISSES 0 else rd s .SPI_MISSES 0 + 1) ∧ frame t) ∧
    (fillReady s = false → Does .spiFillStart s fun t => t.spi = p ∧ frame t) ∧
    (∀ line, p.fill = some line → data.length = 32 → Does (.spiFillDone data) s fun t => t.spi.fill = none ∧ rb t .SPI_STAT 0 1 = false ∧
      (∀ l, l ∈ p.waiting → l.byte / 32 = line → .spiReply l.req l.dst (lineBytes l data) ∈ xwaitOf t 15) ∧
      t.spi.waiting = p.waiting.filter (fun l => !(l.byte / 32 == line)) ∧
      (if p.keep then cacheLine t line = some ⟨line, data⟩ else t.cache = s.cache) ∧ frame t) ∧
    (MayWrite s req .SPI_CACHE 0 → Does (.spiCacheInvalidate req) s fun t => t.cache = [] ∧ t.spi = { p with keep := false } ∧ rb t .SPI_CACHE 0 1 = true ∧
      SameIoBut [regAddr .SPI_CACHE 0] s t ∧ frame t) ∧
    (exec .spiInvalidateDone s = .next (wb s .SPI_CACHE 0 1 false)) ∧
    (MayWrite s req .SPI_LDCTL 0 →
      let n := rf s .SPI_LDLEN 0 18 0
      let fits := n % 4 = 0 ∧ 4 ≤ n ∧ n ≤ 262144 ∧ rn s .SPI_LDIRW 0 + n / 4 ≤ 65536
      (rf s .PMU_MODE 0 1 0 ≠ 0 → exec (.spiLoadGo req) s = .next (send s 5 (.count 0x96 1))) ∧
      (rf s .PMU_MODE 0 1 0 = 0 → rb s .SPI_LDCTL 0 1 = false → fits → Does (.spiLoadGo req) s fun t => rb t .SPI_LDCTL 0 1 = true ∧ rb t .SPI_STAT 0 2 = true ∧
        rd t .SPI_LDCOUNT 0 = 0 ∧ frame t) ∧
      (rf s .PMU_MODE 0 1 0 = 0 → rb s .SPI_LDCTL 0 1 = false → ¬ fits → Does (.spiLoadGo req) s fun t => rb t .SPI_LDCTL 0 1 = false ∧ rb t .SPI_LDCTL 0 2 = true ∧
        rb t .SPI_LDCTL 0 3 = true ∧ rb t .SPI_STAT 0 2 = rb s .SPI_STAT 0 2 ∧ frame t)) ∧
    (rb s .SPI_LDCTL 0 1 = true → data.length = rf s .SPI_LDLEN 0 18 0 → data.length % 4 = 0 → rn s .SPI_LDIRW 0 + data.length / 4 ≤ 65536 → Does (.spiLoadDone data) s fun t =>
      (∀ k, k < data.length / 4 → mget (fun _ => (0 : Quad)) t.iram (rn s .SPI_LDIRW 0 + k) = BitVec.ofNat 32 (leNat ((data.drop (4 * k)).take 4))) ∧
      (∀ a, a < 65536 → (a < rn s .SPI_LDIRW 0 ∨ rn s .SPI_LDIRW 0 + data.length / 4 ≤ a) → mget (fun _ => (0 : Quad)) t.iram a = mget (fun _ => (0 : Quad)) s.iram a) ∧
      rb t .SPI_LDCTL 0 1 = false ∧ rb t .SPI_LDCTL 0 2 = true ∧ rb t .SPI_STAT 0 2 = false ∧ rd t .SPI_LDCOUNT 0 = BitVec.ofNat 32 data.length ∧ t.thr = s.thr ∧ t.near = s.near) ∧
    (∀ h, s.dev.hdr = some h → readsImage s h = true → data.length = rf s .SPI_LDLEN 0 18 0 → data.length % 4 = 0 → s.dev.reload = false →
      let good := ecdsaOk ((h.drop 64).take 64) ((h.drop 128).take 64) (sha256 (s.dev.sha ++ data))
      (good = false → Does (.spiLoadDone data) s fun t => rb t .PMU_MODE 0 2 = true ∧ rf t .PMU_BOOTSTAT 0 3 0 = 7 ∧ t.dev.romPass = s.dev.romPass ∧ t.thr = s.thr) ∧
      (good = true → rb s .CLK_STAT 0 0 = true → Does (.spiLoadDone data) s fun t => t.dev.romPass = 0x10 ∧ rd t .PMU_MODE 0 = rd s .PMU_MODE 0 ∧ t.thr = s.thr))

/-! ## The NV store -/

/-- NV commands (R1022, R1029-R1032, R1043, R1046-R1050, R1053, R1054, R1056, R1057): the store comes up, a command is dispatched, is refused by the first check that fails, or begins the writes it is to
make, or reads and ends; the ROM's read of the boot record (chapter 03).
Model's choices: log entries 93, 95, 128, 141. -/
def Obligations.NvCommands : Prop :=
  ∀ (s : State) (w : Fin 2) (q : Nat), Live s .serial →
    let v := s.nv
    let frame (t : State) : Prop := t.thr = s.thr ∧ SameMemory s t
    let cmd (code : Nat) : Prop := v.run = some (w.val, q) ∧ v.begun = false ∧ rf s .NVB_CMD w 3 0 = code ∧ mgmt s 10 = 1 ∧ dstate s 10 ≠ 3
    let mine (ps : List Nat) : Prop := w.val = 0 ∨ ∀ p, p ∈ ps → nwm s ≤ p
    let whole (ps : List Nat) : Prop := ∀ p, p ∈ ps → nvProtected s p = false ∧ nvRetired s p = false
    let fin (st : Nat) (t : State) : Prop := rf t .NVB_RES w 3 0 = st ∧ rb t .NVB_RES w 6 = false ∧ rb t .NVB_RES w 7 = true ∧ t.nv.run = none ∧ frame t
    let a := rf s .NVB_ADDR w 16 0
    let n := nvLen s w
    let A := nvA s w
    let B := nvB s w
    let ty := nvTy s w
    let sel := rf s .NVB_SEL w 2 0
    (rb s .NV_STAT 0 0 = false →
      (Does (.nvReady [] false) s fun t => rb t .NV_STAT 0 0 = true ∧ rf t .NV_STAT 0 5 4 = v.bp % 4 ∧ (∀ k, k < 4 → rd t .NV_MC k = BitVec.ofNat 32 (mcOf s k)) ∧
        t.nv = { v with loads := [] } ∧ (∀ l, l ∈ v.loads →
          .spiReply l.req l.dst ((List.range l.n).map fun i => mget (fun _ => (0xFF : Byte)) s.nvByte (l.byte + i)) ∈ xwaitOf t 15) ∧ frame t) ∧
      (∀ p, p < 512 → Does (.nvReady [p] true) s fun t => rb t .NV_STAT 0 0 = true ∧ rb t .NV_STAT 0 1 = true ∧ dstate t 10 = 3 ∧ nvBlank t p = true ∧ nvRetired t p = true ∧
        nvPage t p = List.replicate 256 0xFF ∧ t.thr = s.thr ∧ t.near = s.near)) ∧
    (∀ c rest, v.queue = c :: rest → v.run = none → rb s .NV_STAT 0 0 = true →
      exec .nvCommandDispatch s = .next (setNv s { v with
        queue := rest, run := some c, begun := false, jobs := [], phase := .load, again := false, donePg := 0, maintAt := 0, status := 0, abort := false })) ∧
    (cmd 1 → 1 ≤ n → n ≤ 256 → a + n ≤ 0x20000 →
      (mine (writePages s w) → whole (writePages s w) → exec .nvWrite s = .next (setNv s { v with
        begun := true, jobs := (writePages s w).map (fun p => .page p (mergePage s p a (nvBufTake s w n))), phase := .load })) ∧
      (¬ mine (writePages s w) → Does .nvWrite s (fin 3)) ∧
      (∀ p, mine (writePages s w) → p ∈ writePages s w → nvProtected s p = true → Does .nvWrite s (fin 4)) ∧
      (∀ p, mine (writePages s w) → (∀ p', p' ∈ writePages s w → nvProtected s p' = false) → p ∈ writePages s w → nvRetired s p = true → Does .nvWrite s (fin 5))) ∧
    (cmd 1 → (n < 1 ∨ 256 < n) → Does .nvWrite s (fin 1)) ∧
    (cmd 1 → 1 ≤ n → n ≤ 256 → 0x20000 < a + n → Does .nvWrite s (fin 2)) ∧
    (v.run = some (w.val, q) → v.begun = false → rf s .NVB_CMD w 3 0 = 1 → (mgmt s 10 ≠ 1 ∨ dstate s 10 = 3) → Does .nvWrite s (fin 15)) ∧
    (cmd 2 → 1 ≤ n → n ≤ 256 → A + n ≤ 512 → mine (pagesFrom A n) → whole (pagesFrom A n) → exec .nvErase s = .next (setNv s { v with
      begun := true, jobs := (pagesFrom A n).map .blank, phase := .load })) ∧
    (cmd 3 → tyOk ty = true → A ≠ B → 1 ≤ n → n ≤ 244 → mine [A, B] → whole [A, B] →
      let old (p : Nat) : Nat := if recValid s p (some ty) then recSeq (nvPage s p) else 0
      let seq := 1 + max (old A) (old B)
      let bs := recBytes ty seq (nvBufTake s w n)
      (seq ≤ 0xFFFFFFFF → exec .nvTwinwr s = .next (setNv (wr s .NVB_SEQ w (BitVec.ofNat 32 seq)) { v with
        begun := true, jobs := [.page A bs, .page B bs], phase := .load })) ∧
      (0xFFFFFFFF < seq → Does .nvTwinwr s (fin 6))) ∧
    (cmd 4 → tyOk ty = true → A ≠ B → mine [A, B] →
      (∀ p k m, twinRead s A B ty = .got p k m → Does .nvTwinrd s fun t => fin 0 t ∧ rf t .NVB_RES w 5 4 = k ∧
        rd t .NVB_LEN w = BitVec.ofNat 32 (recLen (nvPage s p)) ∧ rd t .NVB_SEQ w = BitVec.ofNat 32 (recSeq (nvPage s p)) ∧
        (∀ i, i < recLen (nvPage s p) → nvBuf t w i = (recPayload (nvPage s p)).getD i 0) ∧
        (∀ x j, m = some x → j < 8 → rb s .NV_RS j 31 = false → ∃ j', j' < 8 ∧ rd t .NV_RS j' = markWord x (if x = A then B else A) ty)) ∧
      (twinRead s A B ty = .blank → Does .nvTwinrd s (fin 9)) ∧
      (twinRead s A B ty = .bad → Does .nvTwinrd s fun t => fin 10 t ∧ .edge 93 ∈ xwaitOf t 5) ∧
      (readsBoot s = true →
        let held (cause : Nat) (t : State) : Prop := rb t .PMU_MODE 0 2 = true ∧ rf t .PMU_BOOTSTAT 0 3 0 = cause
        let key (t : State) : List Byte := nvBufTake t 0 32
        (∀ p k m, twinRead s A B ty = .got p k m → Does .nvTwinrd s fun t => t.dev.keyhash = some (key t) ∧
          (if (key t).all (fun b => b == 0xFF) then rd t .TG_DBGEN 0 = 15 ∧ held 4 t
           else rd t .TG_DBGEN 0 = BitVec.ofNat 32 ((nvBuf t 0 32).toNat % 16) ∧ rd t .PMU_MODE 0 = rd s .PMU_MODE 0)) ∧
        (twinRead s A B ty = .blank → Does .nvTwinrd s fun t => rd t .TG_DBGEN 0 = 15 ∧ held 4 t) ∧
        (twinRead s A B ty = .bad → Does .nvTwinrd s fun t => rd t .TG_DBGEN 0 = 0 ∧ held 5 t))) ∧
    (cmd 5 → tyOk ty = true → 1 ≤ n → n ≤ 244 → ringOk s sel = true → mine (pagesFrom (ringF s sel) (ringS s sel)) →
      let newest := ((ringRecords s sel).head?.map (fun r => r.1)).getD 0
      (∀ i, ringTarget s sel = some i → nvProtected s (ringF s sel + i) = false → newest ≠ 0xFFFFFFFF → exec .nvRingapp s =
        .next (setNv (wr (wr s .NVB_SEQ w (BitVec.ofNat 32 (newest + 1))) .NVB_PAGEB w (BitVec.ofNat 32 (ringF s sel + i))) { v with
          begun := true, jobs := [.page (ringF s sel + i) (recBytes ty (newest + 1) (nvBufTake s w n))], phase := .load })) ∧
      (ringTarget s sel = none → Does .nvRingapp s (fin 12))) ∧
    (cmd 6 → ringOk s sel = true → mine (pagesFrom (ringF s sel) (ringS s sel)) →
      (∀ r, (ringRecords s sel)[rf s .NVB_IDX w 4 0]? = some r →
        let p := ringF s sel + r.2
        Does .nvRingrd s fun t => fin 0 t ∧ rd t .NVB_LEN w = BitVec.ofNat 32 (recLen (nvPage s p)) ∧ rd t .NVB_SEQ w = BitVec.ofNat 32 (recSeq (nvPage s p)) ∧
          rd t .NVB_TYPE w = BitVec.ofNat 32 (recType (nvPage s p)) ∧ rd t .NVB_PAGEB w = BitVec.ofNat 32 p ∧
          (∀ i, i < recLen (nvPage s p) → nvBuf t w i = (recPayload (nvPage s p)).getD i 0)) ∧
      ((ringRecords s sel)[rf s .NVB_IDX w 4 0]? = none → Does .nvRingrd s (fin 11))) ∧
    (cmd 7 → sel ≤ 3 →
      (w.val = 1 → Does .nvMcinc s (fin 3)) ∧
      (w.val = 0 → mcOf s sel = 0xFFFFFFFF → Does .nvMcinc s (fin 6)) ∧
      (w.val = 0 → mcOf s sel ≠ 0xFFFFFFFF → 32000000 ≤ mcUpdates s sel → Does .nvMcinc s (fin 7)) ∧
      (w.val = 0 → mcOf s sel ≠ 0xFFFFFFFF → mcUpdates s sel < 32000000 → exec .nvMcinc s = .next (setNv s { v with
        begun := true, jobs := [.counter sel (mcOf s sel + 1)], phase := .erase }))) ∧
    (cmd 8 → sel ≤ 3 → w.val = 0 → mcOf s sel ≠ 0xFFFFFFFF → mcUpdates s sel < 32000000 →
      (rn s .NVB_VALUE w ≤ mcOf s sel → Does .nvMcraise s (fin 8)) ∧
      (mcOf s sel < rn s .NVB_VALUE w → exec .nvMcraise s = .next (setNv s { v with
        begun := true, jobs := [.counter sel (rn s .NVB_VALUE w)], phase := .erase }))) ∧
    (cmd 9 →
      let new := rf s .NVB_VALUE w 1 0
      let keepers := bpFrom v.bp < nwm s ∨ bpFrom new < nwm s
      (w.val = 1 → keepers → Does .nvProtect s (fin 3)) ∧
      ((w.val = 0 ∨ ¬ keepers) → new < v.bp → wpn s = false → Does .nvProtect s (fin 4)) ∧
      ((w.val = 0 ∨ ¬ keepers) → (v.bp ≤ new ∨ wpn s = true) → exec .nvProtect s = .next (setNv s { v with begun := true, jobs := [.protect new], phase := .erase }))) ∧
    (cmd 10 → w.val = 0 → v.maintAt = 0 →
      ((∀ k, k < 8 → rb s .NV_RS k 31 = false) → Does .nvMaint s (fin (v.status % 16))) ∧
      (∀ win k,
        let e := rd s .NV_RS 0
        let page := fld e 8 0
        e.getLsbD 31 = true → twinRead s (fld e 17 9) page (fld e 25 18) = .got win k (some page) → nvProtected s page = false →
        nvRetired s page = false → Does .nvMaint s fun t => t.nv = { v with maintAt := 1, begun := true, jobs := [.page page (nvPage s win)], phase := .load } ∧ t.io = s.io ∧ frame t)) ∧
    (∀ c, cmd c → (c = 0 ∨ 11 ≤ c) → Does .nvBadCommand s (fin 1))

/-- NV writes and accesses (R1021, R1028, R1033, R1036-R1039, R1043, R1047, R1056, R1060): the phases of a write, its commit, a verification that fails twice, the disable, the buffer, page
status and mask ports.
Model's choices: log entries 21, 93. -/
def Obligations.NvPhasesAndPorts : Prop :=
  ∀ (s : State) (req : Nat) (w : Fin 2) (q : Nat) (b : Byte) (dst : Dst) (j : NvJob) (rest : List NvJob), Live s .serial →
    let v := s.nv
    let frame (t : State) : Prop := t.thr = s.thr ∧ t.near = s.near ∧ t.iram = s.iram ∧ t.far = s.far
    let fin (st : Nat) (t : State) : Prop := rf t .NVB_RES w 3 0 = st ∧ rb t .NVB_RES w 6 = false ∧ rb t .NVB_RES w 7 = true ∧ t.nv.run = none ∧ frame t
    let code := rf s .NVB_CMD w 3 0
    let reply (t : State) (x : Byte) : Prop := (xwaitOf t 5).getLast? = some (.inReply (landing s dst) x)
    (v.jobs = j :: rest →
      (∀ ok, v.phase = .load → exec (.nvPhaseDone ok) s = .next (setNv s { v with phase := .erase })) ∧
      (∀ ok, v.phase = .erase → exec (.nvPhaseDone ok) s = .next (setNv s { v with phase := .program })) ∧
      (v.phase = .program → exec (.nvPhaseDone true) s = .next (setNv s { v with phase := .commit })) ∧
      (v.phase = .program → v.again = false → exec (.nvPhaseDone false) s = .next (setNv s { v with phase := .erase, again := true })) ∧
      (v.phase = .program → v.again = true → v.run = some (w.val, q) → Does (.nvPhaseDone false) s fun t => fin 13 t ∧ t.nvByte = s.nvByte ∧
        (∀ p bs, j = .page p bs → nvRetired t p = true) ∧ (∀ p, j = .blank p → nvRetired t p = true) ∧ .edge 93 ∈ xwaitOf t 5)) ∧
    (v.jobs = [j] → v.phase = .commit → v.run = some (w.val, q) → v.abort = false → ∀ ok,
      (∀ p bs, j = .page p bs → code ≤ 6 → Does (.nvPhaseDone ok) s fun t => fin 0 t ∧ nvPage t p = (List.range 256).map (fun o => bs.getD o 0xFF) ∧ nvBlank t p = false ∧
        nvWear t p = nvWear s p + 1 ∧ rd t .NVB_DONEPG w = BitVec.ofNat 32 (v.donePg + 1) ∧ (nvWear s p + 1 = 1048575 → nvRetired t p = true) ∧
        (∀ x, (x < 256 * p ∨ 256 * p + 256 ≤ x) → mget (fun _ => (0xFF : Byte)) t.nvByte x = mget (fun _ => (0xFF : Byte)) s.nvByte x)) ∧
      (∀ p, j = .blank p → code ≤ 6 → Does (.nvPhaseDone ok) s fun t => fin 0 t ∧ nvPage t p = List.replicate 256 0xFF ∧ nvBlank t p = true ∧ nvWear t p = nvWear s p + 1 ∧
        rd t .NVB_DONEPG w = BitVec.ofNat 32 (v.donePg + 1)) ∧
      (∀ n x, j = .counter n x → n < 4 → (code = 7 ∨ code = 8) → Does (.nvPhaseDone ok) s fun t => fin 0 t ∧ mcOf t n = x ∧ mcUpdates t n = mcUpdates s n + 1 ∧
        rd t .NV_MC n = BitVec.ofNat 32 x ∧ (n = rf s .NVB_SEL w 2 0 → rd t .NVB_VALUE w = BitVec.ofNat 32 x) ∧ t.nvByte = s.nvByte) ∧
      (∀ x, j = .protect x → code = 9 → Does (.nvPhaseDone ok) s fun t => fin 0 t ∧ t.nv.bp = x ∧ rf t .NV_STAT 0 5 4 = x % 4 ∧ t.nvByte = s.nvByte)) ∧
    (∀ j2 more p bs ok, v.jobs = j :: j2 :: more → v.phase = .commit → v.abort = false → j = .page p bs → Does (.nvPhaseDone ok) s fun t =>
      t.nv.jobs = j2 :: more ∧ t.nv.phase = jobPhase j2 ∧ t.nv.run = v.run ∧ nvPage t p = (List.range 256).map (fun o => bs.getD o 0xFF) ∧ frame t) ∧
    (∀ ok, v.jobs = j :: rest → v.phase = .commit → v.abort = true → v.run = some (w.val, q) → Does (.nvPhaseDone ok) s fun t => fin 14 t ∧
      ∀ p bs, j = .page p bs → nvPage t p = (List.range 256).map (fun o => bs.getD o 0xFF)) ∧
    (MayWrite s req .NV_CTL 0 → rb s .NV_CTL 0 0 = true → (∀ c, (c ∈ v.queue ∨ v.run = some c) → c.1 < 2) →
      (v.begun = true → Does (.nvDisable req) s fun t => rb t .NV_CTL 0 0 = false ∧ mgmt t 10 = 0 ∧ t.nv = { v with queue := [], abort := true, sets := t.nv.sets } ∧ t.nvByte = s.nvByte ∧ frame t) ∧
      (v.begun = false → Does (.nvDisable req) s fun t => rb t .NV_CTL 0 0 = false ∧ mgmt t 10 = 0 ∧ t.nv.queue = [] ∧ t.nv.run = none ∧
        (dstate s 10 ≤ 2 → dstate t 10 = 0) ∧ (v.run = some (w.val, q) → fin 14 t) ∧ t.nvByte = s.nvByte ∧ frame t)) ∧
    (MayWrite s req .NVB_BUFDATA w →
      (nvBusy s w = true → exec (.nvBufferAccess req w (some b) dst) s = .next s) ∧
      (nvBusy s w = false → Does (.nvBufferAccess req w (some b) dst) s fun t => nvBuf t w (rn s .NVB_BUFIDX w) = b ∧ rn t .NVB_BUFIDX w = (rn s .NVB_BUFIDX w + 1) % 256 ∧
        (∀ k, k ≠ 256 * w.val + rn s .NVB_BUFIDX w → mget (fun _ => (0 : Byte)) t.nv.buf k = mget (fun _ => (0 : Byte)) v.buf k) ∧ t.nvByte = s.nvByte ∧ frame t)) ∧
    (MayRead s req .NVB_BUFDATA w → Does (.nvBufferAccess req w none dst) s fun t => reply t (nvBuf s w (rn s .NVB_BUFIDX w)) ∧ t.nv = v ∧
      rd t .NVB_BUFIDX w = (if req = 8 then rd s .NVB_BUFIDX w else BitVec.ofNat 32 ((rn s .NVB_BUFIDX w + 1) % 256)) ∧ SameMemory s t) ∧
    (MayRead s req .NV_PGSTAT 0 → Does (.nvPageStatusRead req dst) s fun t => reply t (byteOf (pgStat s) 0) ∧
      mget (fun _ => (none : Option Quad)) t.shadow (2 ^ 20 * (req + 1) + regAddr .NV_PGSTAT 0) = some (pgStat s) ∧
      rf t .NV_PGIDX 0 8 0 = (if req = 8 then rf s .NV_PGIDX 0 8 0 else (rf s .NV_PGIDX 0 8 0 + 1) % 512) ∧ t.nv = v ∧ SameMemory s t) ∧
    (MayWrite s req .NV_MSKDATA 0 → mskByte s ≤ 30 →
      (mskSlot s ≠ 0 → Does (.nvMaskAccess req (some b) dst) s fun t => mget (fun _ => (0 : Byte)) t.nv.mask (32 * mskSlot s + mskByte s) = b ∧
        mskByte t = (mskByte s + 1) % 31 ∧ mskSlot t = mskSlot s ∧ t.nvByte = s.nvByte ∧ frame t) ∧
      (mskSlot s = 0 → Does (.nvMaskAccess req (some b) dst) s fun t => t.nv = v ∧ mskByte t = (mskByte s + 1) % 31 ∧ frame t)) ∧
    (MayRead s req .NV_MSKDATA 0 → mskByte s ≤ 30 → Does (.nvMaskAccess req none dst) s fun t =>
      reply t (if mskSlot s = 0 then (if mskByte s < 4 then 0xFF else if mskByte s = 4 then 1 else 0)
        else mget (fun _ => (0 : Byte)) v.mask (32 * mskSlot s + mskByte s)) ∧
      mskByte t = (if req = 8 then mskByte s else (mskByte s + 1) % 31) ∧ t.nv = v ∧ SameMemory s t)

/-! ## The debug link, the monitor, the counters -/

/-- Symbols and timeouts of the link (R1072-R1077, R1080-R1085, R1106, R1120): lows classed by their width, the wake pattern, frames, a reset by RSTN, the end of a session, PENDING, the response
driven, an access given up.
Model's choices: log entries 4, 97, 98. -/
def Obligations.LinkSymbolsAndTimeouts : Prop :=
  ∀ (s : State) (w : Nat) (b late : Bool), s.dev.vddao = true →
    let d := s.dbg
    let drawn : State := { s with fresh := s.fresh + 1 }
    let frame (t : State) : Prop := t.thr = s.thr ∧ SameMemory s t
    let symbol := if b then 2500 ≤ w ∧ w ≤ 3500 else 500 ≤ w ∧ w ≤ 1500
    let closed (t : State) : Prop := t.dbg.active = false ∧ rb t .DBG_STAT 0 0 = false ∧ (∀ k, k < 4 → rb t .DBG_BP k 31 = false) ∧
      (∀ k, k < 2 → rb t .DBG_WPA k 31 = false) ∧ (∀ n, n < 8 → (thr t n).st ≠ .halted) ∧ SameMemory s t
    (w < 200 → exec (.glogonLow w late) s = .next drawn) ∧
    (d.active = true → symbol → d.frame = none → exec (.glogonLow w late) s = .next drawn) ∧
    (∀ l, d.active = true → symbol → d.frame = some l →
      let bs := frameBytes (l ++ [b])
      let n := bs.length - 1
      let whole := 16 ≤ l.length + 1 ∧ l.length + 1 = 8 * (3 + (bs.getD 1 0).toNat)
      (¬ whole → exec (.glogonLow w late) s = .next (setDbg drawn { d with frame := some (l ++ [b]) })) ∧
      (whole → crc8 (bs.take n) ≠ (bs.getD n 0).toNat → Does (.glogonLow w late) s fun t =>
        t.dbg = { d with frame := none, resp := some (4, []), last := (4, []) } ∧ t.io = s.io ∧ frame t) ∧
      (whole → crc8 (bs.take n) = (bs.getD n 0).toNat → (d.req ≠ none ∨ linkRuns s = true) →
        exec (.glogonLow w late) s = .next (setDbg drawn { d with frame := none, resp := some (1, []) })) ∧
      (whole → crc8 (bs.take n) = (bs.getD n 0).toNat → d.req = none → linkRuns s = false → (bs.getD 1 0).toNat ≤ 40 →
        exec (.glogonLow w late) s = .next (setDbg drawn { d with
          frame := none, req := some ((bs.getD 0 0).toNat, (bs.take n).drop 2), pended := false }))) ∧
    (6000 ≤ w → w ≤ 8000 → exec (.glogonLow w late) s = .next (setDbg drawn (if d.active then { d with frame := some [] } else { d with wake := 0 }))) ∧
    (d.active = false → symbol →
      let n := if late then 0 else d.wake
      (wakePattern[n]? ≠ some b → exec (.glogonLow w late) s = .next (setDbg drawn { d with wake := 0 })) ∧
      (wakePattern[n]? = some b → n < 15 → exec (.glogonLow w late) s = .next (setDbg drawn { d with wake := n + 1 })) ∧
      (wakePattern[n]? = some b → n = 15 → exec (.glogonLow w late) s = .next (wb (setDbg drawn { d with active := true, wake := 0 }) .DBG_STAT 0 0 true))) ∧
    (d.active = true → 50000 ≤ w → w < 500000 → Does (.glogonLow w late) s fun t => t.dbg = { d with frame := none } ∧ t.io = s.io ∧ frame t) ∧
    (d.active = false → s.dev.rstnLow = false → 50000 ≤ w → Does (.glogonLow w late) s fun t => rd t .PMU_RSTCAUSE 0 = 4 ∧ t.thr = [] ∧ t.near = [] ∧ t.iram = [] ∧
      t.retain = s.retain ∧ t.pads = s.pads ∧ t.dev.phase = (if s.dev.vdd33 then .clearing else .held)) ∧
    (d.active = true → 500000 ≤ w → Does (.glogonLow w late) s closed) ∧
    (d.active = true → Does .glogonSessionTimeout s closed) ∧
    (d.active = false → exec .glogonSessionTimeout s = .next s) ∧
    (d.frame ≠ none → s.dev.phase = .awake → exec .glogonFrameTimeout s = .next (send (setDbg s { d with frame := none }) 11 (.count 0xA8 1))) ∧
    (d.pended = false → (d.req ≠ none ∨ linkRuns s = true) → exec .glogonPendingTimeout s = .next (setDbg s { d with resp := some (1, []), pended := true })) ∧
    (d.resp ≠ none → exec (.glogonResponse false) s = .next (setDbg s { d with resp := none }) ∧
      (s.dev.phase = .awake → exec (.glogonResponse true) s = .next (send (setDbg s { d with resp := none }) 11 (.count 0xAA 1)))) ∧
    (∀ r, Live s .fabric → timerDue s tmrDbg = true → d.run = some r →
      (Does (.debugAccessTimeout false) s fun t => t.dbg.run = none ∧ rb t .DBG_STAT 0 3 = true ∧ timerOn t tmrDbg = false ∧
        staleOf t (dbgCross r) = staleOf s (dbgCross r) + 1 ∧ (r.mon = false → t.dbg.last = (7, dbgPayload r 7)) ∧ frame t) ∧
      exec (.debugAccessTimeout true) s = .next (send (stopTimer s tmrDbg) 1 (.count 0x08 1)))

/-- Link commands (R1079, R1083, R1086-R1090): each takes its request and answers, or starts the debug bus master; ASLEEP in STANDBY, BADARG for a payload where there is none to have.
Model's choices: log entry 99. -/
def Obligations.LinkCommands : Prop :=
  ∀ (s : State) (c : Nat) (p : List Byte), s.dbg.req = some (c, p) → s.dbg.run = none →
    let d := s.dbg
    let ans (st : Nat) (bs : List Byte) : State := setDbg s { d with req := none, resp := (if d.pended then d.resp else some (st, bs)), last := (st, bs), pended := false }
    let took : State := setDbg s { d with req := none }
    let up := s.dev.phase = .awake ∨ s.dev.phase = .standby
    let asleep := s.dev.phase = .standby
    let bus (far write : Bool) (row : Instr) : Prop :=
      (s.dev.phase = .awake → dbgParse false false far write p = none → exec row s = .next (ans 3 [])) ∧
      (∀ r, s.dev.phase = .awake → dbgParse false false far write p = some r → exec row s = .next (dbgStart took r)) ∧
      (asleep → exec row s = .next (ans 8 []))
    (c = 0x01 → up → exec .glogonStatus s = .next (if p.isEmpty then ans 0 (statusBytes s) else ans 3 [])) ∧
    (c = 0x02 → up → p ≠ [] → exec .glogonReset s = .next (ans 3 [])) ∧
    (c = 0x02 → up → p = [] → Does .glogonReset s fun t => rd t .PMU_RSTCAUSE 0 = 4 ∧ t.dbg.last = (0, []) ∧ t.dbg.req = none ∧ t.dbg.active = d.active ∧ t.thr = [] ∧
      t.near = [] ∧ t.iram = [] ∧ t.retain = s.retain ∧ t.pads = s.pads) ∧
    (c = 0x10 → bus false false .glogonRdio) ∧ (c = 0x11 → bus false true .glogonWrio) ∧
    (c = 0x12 → bus true false .glogonRdfar) ∧ (c = 0x13 → bus true true .glogonWrfar) ∧
    (c = 0x3E → up → p = [] → Does .glogonEnd s fun t => t.dbg.active = false ∧ t.dbg.last = (0, []) ∧ t.dbg.resp = some (0, []) ∧ t.dbg.req = none ∧
      (∀ n, n < 8 → (thr t n).st ≠ .halted) ∧ rb t .DBG_STAT 0 0 = false ∧ SameMemory s t) ∧
    (c = 0x3F → s.dev.phase = .awake → exec .glogonResult s = .next (if p.isEmpty then ans d.last.1 d.last.2 else ans 3 [])) ∧
    (c = 0x3F → asleep → exec .glogonResult s = .next (ans 8 [])) ∧
    (badCmd c = true → s.dev.phase = .awake → exec .glogonBadcmd s = .next (ans 2 [])) ∧
    (badCmd c = true → asleep → exec .glogonBadcmd s = .next (ans 8 []))

/-- A command of the debug bus master starts (R1088, R1103-R1105): an I/O access outside CORE goes to its island under agent 9 in the world ACC names, a far access arrives in FABRIC, one that the
enables refuse ends with DENIED, a byte read in CORE is answered.
Model's choices: log entries 29, 103. -/
def Obligations.DebugBusAccesses : Prop :=
  ∀ (s : State) (r : DbgRun), dbgAllDone r = false →
    let t := dbgStart s r
    let s0 : State := { setDbg s { s.dbg with run := some r } with dbgWorld := r.world }
    let timed : State := startTimer s0 tmrDbg (usTicks (atLeast1 (rn s .DBG_TMO 0)))
    let b := r.data.headD 0
    (r.far = false → accessIsland (dbgWho r.world) r.addr ≠ .core → t.dbg.run = some r ∧ t.dbgWorld = r.world ∧ timerOn t tmrDbg = true ∧ t.io = s.io ∧
      xwaitOf t (dbgCross r) = xwaitOf s (dbgCross r) ++ [if r.write then .regWrite 8 r.addr b r.world 0x7FFE else .regRead 8 r.addr ⟨.debug, s.cycles, false⟩ r.world 0x7FFE] ∧
      SameMemory s t ∧ t.thr = s.thr) ∧
    (r.far = true → dbgFarOk s r = false → t.dbg.run = none ∧ rb t .DBG_STAT 0 3 = true ∧ SameMemory s t ∧ t.thr = s.thr ∧
      (r.mon = false → t.dbg.last = (5, dbgPayload r 5)) ∧ (r.mon = true → (if r.usb then t.mon.usb else t.mon.uart) = some (5, dbgPayload r 5))) ∧
    (r.far = true → dbgFarOk s r = true → r.write = false → t = farArrive timed (.farLoad 8 r.addr 1 r.owner r.world false false ⟨.debug, s.cycles, false⟩)) ∧
    (r.far = true → dbgFarOk s r = true → r.write = true → t = farArrive timed (.farStore 8 r.addr [b] r.owner r.world false false)) ∧
    (r.far = false → accessIsland (dbgWho r.world) r.addr = .core → r.write = false → r.left = 1 →
      let x := dbgAccess s0 r.world r.addr none
      x.1 = 0 → x.2.2.dbg = s0.dbg → t.dbg.run = none ∧ (r.mon = false → t.dbg.last = (0, r.got ++ [x.2.1])) ∧
        (r.mon = true → (if r.usb then t.mon.usb else t.mon.uart) = some (0, r.got ++ [x.2.1])))

/-- The resident monitor (R154, R167, R1108-R1114): a request is checked, waits for SAFE-hold, and has its command's effect: STATUS, RESET, the bus commands, PROVISION, LOADHDR, LOADDATA, LOADGO, END;
its timeouts.
Model's choices: log entries 100, 101, 102, 128, 130, 131, 140. -/
def Obligations.MonitorCommands : Prop :=
  ∀ (s : State) (usb : Bool) (p : List Byte) (crc : Word), Live s (if usb then .usb else .serial) → inRun s = false → s.dbg.run = none →
    s.dev.portsUp = true → (usb = true ∨ s.dev.onB = true) →
    let good (cmd : Nat) : Prop := p.length ≤ 1024 ∧ (usb = true ∨ crc.toNat = kxCrc ([BitVec.ofNat 8 cmd] ++ leBytes 2 p.length ++ p))
    let said (st : Nat) (bs : List Byte) (t : State) : Prop := (if usb then t.mon.usb else t.mon.uart) = some (st, bs)
    let early := rb s .PMU_MODE 0 2 = false
    let hold := rb s .PMU_MODE 0 2 = true
    let wait (cmd : Nat) (row : Instr) : Prop := good cmd → early → exec row s = .next (monAnswer s usb 0x0B [])
    let m := monHeard (monOpen s)
    let seq := 1 + max (if recValid s 0 (some 1) then recSeq (nvPage s 0) else 0) (if recValid s 1 (some 1) then recSeq (nvPage s 1) else 0)
    (wait 0x02 (.monitorReset usb p crc) ∧ wait 0x10 (.monitorRdio usb p crc) ∧ wait 0x11 (.monitorWrio usb p crc) ∧ wait 0x12 (.monitorRdfar usb p crc) ∧
      wait 0x13 (.monitorWrfar usb p crc) ∧ wait 0x20 (.provision usb p crc) ∧ wait 0x21 (.loadhdr usb p crc) ∧ wait 0x22 (.loaddata usb p crc) ∧
      wait 0x23 (.loadgo usb p crc) ∧ wait 0x3E (.monitorEnd usb p crc)) ∧
    (usb = false → crc.toNat ≠ kxCrc ([BitVec.ofNat 8 0x01] ++ leBytes 2 p.length ++ p) → exec (.monitorStatus usb p crc) s = .next (monAnswer s usb 4 [])) ∧
    (good 0x01 → exec (.monitorStatus usb p crc) s = .next (if p.isEmpty then monAnswer (monHeard s) usb 0 (statusBytes s) else monAnswer (monHeard s) usb 3 [])) ∧
    (good 0x02 → hold → p = [] → Does (.monitorReset usb p crc) s fun t => said 0 [] t ∧ rd t .PMU_RSTCAUSE 0 = 4 ∧ t.thr = [] ∧ t.near = [] ∧ t.iram = [] ∧
      t.retain = s.retain ∧ t.pads = s.pads) ∧
    (good 0x10 → hold → exec (.monitorRdio usb p crc) s = .next (monBus usb false false p m)) ∧
    (good 0x11 → hold → exec (.monitorWrio usb p crc) s = .next (monBus usb false true p m)) ∧
    (good 0x12 → hold → exec (.monitorRdfar usb p crc) s = .next (monBus usb true false p m)) ∧
    (good 0x13 → hold → exec (.monitorWrfar usb p crc) s = .next (monBus usb true true p m)) ∧
    (good 0x20 → hold → rf s .PMU_BOOTSTAT 0 3 0 ≠ 4 → exec (.provision usb p crc) s = .next (monAnswer m usb 0x0A [])) ∧
    (good 0x20 → hold → rf s .PMU_BOOTSTAT 0 3 0 = 4 → p.length = 33 → rb s .NV_STAT 0 0 = true → s.nv.run = none → s.nv.jobs = [] → unitRuns s 10 = true →
      nvProtected s 0 = false → seq ≤ 0xFFFFFFFF → Does (.provision usb p crc) s fun t => said 0 [] t ∧ nvPage t 0 = recBytes 1 seq p ∧ nvPage t 1 = recBytes 1 seq p ∧
        nvBlank t 0 = false ∧ nvBlank t 1 = false ∧ rd t .PMU_RSTCAUSE 0 = 4 ∧ t.retain = s.retain) ∧
    (good 0x21 → hold → p.length = 256 →
      (fieldsOk p = true → Does (.loadhdr usb p crc) s fun t => said 0 [] t ∧ t.dev.hdr = some p ∧ t.dev.sha = p.take 128 ∧ t.mon.loaded = 0 ∧ t.iram = [] ∧
        t.thr = s.thr ∧ SameMemory { s with iram := [] } t) ∧
      (fieldsOk p = false → Does (.loadhdr usb p crc) s fun t => said 9 [3] t ∧ t.dev.hdr = none ∧ t.thr = s.thr ∧ SameMemory s t)) ∧
    (good 0x22 → hold → s.dev.hdr = none → exec (.loaddata usb p crc) s = .next (monAnswer m usb 0x0B [])) ∧
    (∀ h, good 0x22 → hold → s.dev.hdr = some h → 8 ≤ p.length → p.length ≤ 1020 → leNat (p.take 4) = s.mon.loaded → s.mon.loaded + (p.length - 4) ≤ hdrLen h →
      Does (.loaddata usb p crc) s fun t => said 0 [] t ∧ t.mon.loaded = s.mon.loaded + (p.length - 4) ∧ t.dev.sha = s.dev.sha ++ p.drop 4 ∧
        (∀ i, i < p.length - 4 → byteOf (iramAt t ((s.mon.loaded + i) / 4)) ((s.mon.loaded + i) % 4) = (p.drop 4).getD i 0) ∧
        (∀ o, (o < s.mon.loaded ∨ s.mon.loaded + (p.length - 4) ≤ o) → byteOf (iramAt t (o / 4)) (o % 4) = byteOf (iramAt s (o / 4)) (o % 4)) ∧
        t.thr = s.thr ∧ t.near = s.near) ∧
    (∀ h, good 0x23 → hold → p = [] → s.dev.hdr = some h → s.mon.loaded = hdrLen h →
      (imageCheck s h = 0 → (thr s 0).haltPend = none → rb s .DBG_ARM 0 0 = false → Does (.loadgo usb p crc) s fun t => said 0 [] t ∧ inRun t = true ∧
        rd t .PMU_BOOTSTAT 0 = 0x10 ∧ t.dev.overlay = false ∧ (thr t 0).pc = BitVec.ofNat 16 (hdrEntry h) ∧ (thr t 0).world = false ∧
        (∀ i, i < 32 → mget (fun _ => (0 : Byte)) t.retain (0x1FC0 + i) = (sha256 s.dev.sha).getD i 0) ∧ t.near = s.near ∧ t.iram = s.iram) ∧
      (imageCheck s h ≠ 0 → Does (.loadgo usb p crc) s fun t => said 9 [BitVec.ofNat 8 (imageCheck s h)] t ∧ inRun t = false ∧ t.thr = s.thr ∧ SameMemory s t)) ∧
    (good 0x3E → hold → p = [] → Does (.monitorEnd usb p crc) s fun t => said 0 [] t ∧ t.mon.open_ = false ∧ rb t .DBG_STAT 0 1 = false ∧ t.thr = s.thr ∧ SameMemory s t) ∧
    (Live s .core → s.mon.open_ = true → timerDue s tmrMon = true →
      exec .monitorSessionTimeout s = .next (monClose (stopTimer s tmrMon)) ∧
      monHeard s = startTimer (occur s 0x08 1) tmrMon 240000000) ∧
    (Live s .core → timerDue s tmrMon = false → exec .monitorSessionTimeout s = .next s) ∧
    (Live s .serial → s.dev.onB = true → exec .monitorFrameTimeout s = .next (send s 5 (.count 0xAD 1)))

/-- Counters and disagreement (R1126, R1134, R1135, R1153, R1154): SEL is taken, refused with REJ or ignored; COUNT is written; CLR; a disagreement held is recorded, a tie with its end is not. -/
def Obligations.CounterEffects : Prop :=
  ∀ (s : State) (req : Nat) (n : Fin 8) (v : Byte) (x : Quad) (u : Fin 11),
    (MayWrite s req .EC_SEL n →
      (rb s .EC_CTL n 0 = true → exec (.counterSelWrite req n v) s = .next s) ∧
      (rb s .EC_CTL n 0 = false → selOk s n v.toNat = true → exec (.counterSelWrite req n v) s = .next (wr s .EC_SEL n (v.zeroExtend 32))) ∧
      (rb s .EC_CTL n 0 = false → selOk s n v.toNat = false → exec (.counterSelWrite req n v) s = .next (wb s .EC_STAT n 1 true))) ∧
    (MayWrite s req .EC_COUNT n → exec (.counterCountWrite req n x) s = .next (wr s .EC_COUNT n x)) ∧
    (MayWrite s req .EC_CTL n → Does (.counterClear req n) s fun t => rd t .EC_COUNT n = 0 ∧ rd t .EC_LAST n = 0 ∧ (ctr t n).opened = none ∧ rb t .EC_STAT n 2 = false ∧
      (∀ b, b < 6 → rb t .EC_CTL n b = rb s .EC_CTL n b) ∧ (∀ k, k ≠ n.val → ctr t k = ctr s k) ∧ rd t .EC_SEL n = rd s .EC_SEL n ∧ t.thr = s.thr ∧ SameMemory s t) ∧
    (Live s .core → timerDue s (tmrDisagree u) = true →
      (Does (.disagreeHoldExpiry u false) s fun t => rb t .PMU_DISF 0 u = true ∧ mget (fun _ => false) t.icu.pend 33 = true ∧ timerOn t (tmrDisagree u) = false ∧
        t.thr = s.thr ∧ SameMemory s t) ∧
      exec (.disagreeHoldExpiry u true) s = .next (occur (stopTimer s (tmrDisagree u)) 0x08 1))


/-! ## Slots -/

/-- Instructions issue in their thread's slots (R397, R398): the command of an instruction lets cycles pass to the first slot of its thread in which it may issue, and has the
same effect given in the cycle before that slot; it does nothing where none comes. With nothing in the pipeline only cycles have passed by then.
Model's choice: log entry 111. -/
def Obligations.InstructionsIssueInTheirSlots : Prop :=
  ∀ (s : State) (t : Fin 8),
    (∀ i, isNalti i = true → i ≠ .wait t → i.thread = t →
      (issueSlot s t = none → exec i s = .next s) ∧ (∀ fe s1, issueSlot s t = some (fe, s1) → exec i s = exec i fe)) ∧
    (∀ fe s1, issueSlot s t = some (fe, s1) → ∃ k, k < slotHorizon ∧ fe = cyclesPass k s ∧ s1 = cyclesPass (k + 1) s ∧
      slotThread (rd s1 .PMU_SLOTMAP 0) (s1.cycles % 8) = t ∧ canIssue s1 t = true ∧
      ∀ j, 1 ≤ j → j ≤ k → slotThread (rd (cyclesPass j s) .PMU_SLOTMAP 0) ((cyclesPass j s).cycles % 8) ≠ t ∨ canIssue (cyclesPass j s) t = false) ∧
    (Quiet s → canIssue s t = true → issueSlot s t = some ({ atSlot s t with cycles := (atSlot s t).cycles - 1 }, atSlot s t)) ∧
    (canIssue s t = false → Quiet s → issueSlot s t = none)
end

