-- ==== Sys2Proof/Laws/Maps.lean ====
section
/-!
SUPPORT. Sparse maps: what a map reads after a write or a removal, and that every operation keeps the canonical form.
-/
namespace Sys2Proof.Laws
open Sys2Proof.Machine

variable {α : Type}

theorem mget_mdel_same (d : Nat → α) (m : SMap α) (k : Nat) : mget d (mdel m k) k = d k := by
  induction m with
  | nil => rfl
  | cons e m ih => by_cases h : e.1 = k <;> simp [mdel, mget, h, ih]

theorem mget_mdel_ne (d : Nat → α) (m : SMap α) {j k : Nat} (h : j ≠ k) : mget d (mdel m k) j = mget d m j := by
  induction m with
  | nil => rfl
  | cons e m ih =>
    by_cases he : e.1 = k
    · have : e.1 ≠ j := fun h' => h (h'.symm.trans he)
      simp [mdel, mget, he, ih, h.symm]
    · simp only [mdel, he, if_false, mget, ih]

theorem mget_mins_same (d : Nat → α) (m : SMap α) (k : Nat) (v : α) (h : ∀ e ∈ m, e.1 ≠ k) : mget d (mins m k v) k = v := by
  induction m with
  | nil => simp [mins, mget]
  | cons e m ih =>
    have he : e.1 ≠ k := h e (by simp)
    by_cases hk : k < e.1
    · simp [mins, mget, hk]
    · simp [mins, mget, hk, he, ih fun x hx => h x (by simp [hx])]

theorem mget_mins_ne (d : Nat → α) (m : SMap α) {j k : Nat} (v : α) (h : j ≠ k) : mget d (mins m k v) j = mget d m j := by
  induction m with
  | nil => simp [mins, mget, h.symm]
  | cons e m ih =>
    by_cases hk : k < e.1
    · simp [mins, mget, hk, h.symm]
    · simp only [mins, hk, if_false, mget, ih]

theorem mdel_keys (m : SMap α) (k : Nat) : ∀ e ∈ mdel m k, e.1 ≠ k := by
  induction m with
  | nil => simp [mdel]
  | cons a m ih =>
    by_cases h : a.1 = k
    · simpa [mdel, h] using ih
    · intro e he
      rcases List.mem_cons.1 (by simpa [mdel, h] using he) with rfl | he
      · exact h
      · exact ih e he

variable [DecidableEq α]

@[simp] theorem mget_mset_same (d : Nat → α) (m : SMap α) (k : Nat) (v : α) : mget d (mset d m k v) k = v := by
  by_cases h : v = d k
  · rw [mset, if_pos h, mget_mdel_same, h]
  · rw [mset, if_neg h, mget_mins_same d _ k v (mdel_keys m k)]

theorem mget_mset_ne (d d' : Nat → α) (m : SMap α) {j k : Nat} (v : α) (h : j ≠ k) : mget d' (mset d m k v) j = mget d' m j := by
  by_cases hv : v = d k
  · rw [mset, if_pos hv, mget_mdel_ne d' m h]
  · rw [mset, if_neg hv, mget_mins_ne d' _ v h, mget_mdel_ne d' m h]

theorem mget_mset (d : Nat → α) (m : SMap α) (j k : Nat) (v : α) : mget d (mset d m k v) j = if j = k then v else mget d m j := by
  by_cases h : j = k
  · subst h; simp
  · simp [h, mget_mset_ne d d m v h]

omit [DecidableEq α] in
theorem mdel_mdel (m : SMap α) (k : Nat) : mdel (mdel m k) k = mdel m k := by
  induction m with
  | nil => rfl
  | cons e m ih => by_cases h : e.1 = k <;> simp [mdel, h, ih]

omit [DecidableEq α] in
theorem mdel_mins (m : SMap α) (k : Nat) (v : α) : mdel (mins m k v) k = mdel m k := by
  induction m with
  | nil => simp [mins, mdel]
  | cons e m ih =>
    by_cases hk : k < e.1
    · simp [mins, mdel, hk]
    · by_cases h : e.1 = k <;> simp [mins, mdel, hk, h, ih]

@[simp] theorem mset_mset (d : Nat → α) (m : SMap α) (k : Nat) (v w : α) : mset d (mset d m k v) k w = mset d m k w := by
  by_cases hv : v = d k <;> by_cases hw : w = d k <;> simp [mset, hv, hw, mdel_mins, mdel_mdel]

/-! ## The canonical form -/

omit [DecidableEq α] in
theorem mdel_pairwise (m : SMap α) (k : Nat) (h : m.Pairwise fun a b => a.1 < b.1) : (mdel m k).Pairwise fun a b => a.1 < b.1 := by
  induction m with
  | nil => simp [mdel]
  | cons e m ih =>
    rw [List.pairwise_cons] at h
    by_cases hk : e.1 = k
    · simpa [mdel, hk] using ih h.2
    · have sub : ∀ x ∈ mdel m k, x ∈ m := by
        clear ih h
        induction m with
        | nil => simp [mdel]
        | cons a m ih =>
          intro x hx
          by_cases ha : a.1 = k
          · exact List.mem_cons_of_mem _ (ih x (by simpa [mdel, ha] using hx))
          · rcases List.mem_cons.1 (by simpa [mdel, ha] using hx) with rfl | hx
            · exact List.mem_cons_self
            · exact List.mem_cons_of_mem _ (ih x hx)
      simp only [mdel, hk, if_false, List.pairwise_cons]
      exact ⟨fun x hx => h.1 x (sub x hx), ih h.2⟩

omit [DecidableEq α] in
theorem mem_mdel {m : SMap α} {k : Nat} {e : Nat × α} (h : e ∈ mdel m k) : e ∈ m := by
  induction m with
  | nil => simp [mdel] at h
  | cons a m ih =>
    by_cases ha : a.1 = k
    · exact List.mem_cons_of_mem _ (ih (by simpa [mdel, ha] using h))
    · rcases List.mem_cons.1 (by simpa [mdel, ha] using h) with rfl | h
      · exact List.mem_cons_self
      · exact List.mem_cons_of_mem _ (ih h)

omit [DecidableEq α] in
theorem mem_mins {m : SMap α} {k : Nat} {v : α} {e : Nat × α} (h : e ∈ mins m k v) : e = (k, v) ∨ e ∈ m := by
  induction m with
  | nil => simpa [mins] using h
  | cons a m ih =>
    by_cases hk : k < a.1
    · simpa [mins, hk] using h
    · rcases List.mem_cons.1 (by simpa [mins, hk] using h) with rfl | h
      · simp
      · rcases ih h with h | h <;> simp [h]

omit [DecidableEq α] in
theorem mins_pairwise (m : SMap α) (k : Nat) (v : α) (hm : ∀ e ∈ m, e.1 ≠ k) (h : m.Pairwise fun a b => a.1 < b.1) :
    (mins m k v).Pairwise fun a b => a.1 < b.1 := by
  induction m with
  | nil => simp [mins]
  | cons e m ih =>
    rw [List.pairwise_cons] at h
    by_cases hk : k < e.1
    · simp only [mins, hk, if_true, List.pairwise_cons]
      refine ⟨fun x hx => ?_, h.1, h.2⟩
      rcases List.mem_cons.1 hx with rfl | hx
      · exact hk
      · exact Nat.lt_trans hk (h.1 x hx)
    · have he : e.1 ≠ k := hm e (by simp)
      simp only [mins, hk, if_false, List.pairwise_cons]
      refine ⟨fun x hx => ?_, ih (fun x hx => hm x (by simp [hx])) h.2⟩
      rcases mem_mins hx with rfl | hx
      · show e.1 < k; omega
      · exact h.1 x hx

/-- A write keeps the canonical form. -/
theorem mwf_mset (d : Nat → α) (m : SMap α) (k : Nat) (v : α) (h : mwf d m = true) : mwf d (mset d m k v) = true := by
  simp only [mwf, Bool.and_eq_true, decide_eq_true_eq, List.all_eq_true] at h ⊢
  by_cases hv : v = d k
  · rw [mset, if_pos hv]
    exact ⟨mdel_pairwise m k h.1, fun e he => h.2 e (mem_mdel he)⟩
  · rw [mset, if_neg hv]
    refine ⟨mins_pairwise _ k v (mdel_keys m k) (mdel_pairwise m k h.1), fun e he => ?_⟩
    rcases mem_mins he with rfl | he
    · exact hv
    · exact h.2 e (mem_mdel he)

/-- Leaving entries out keeps the canonical form. -/
theorem mwf_filter (d : Nat → α) (m : SMap α) (p : Nat × α → Bool) (h : mwf d m = true) : mwf d (m.filter p) = true := by
  simp only [mwf, Bool.and_eq_true, decide_eq_true_eq, List.all_eq_true] at h ⊢
  exact ⟨h.1.filter p, fun e he => h.2 e (List.mem_of_mem_filter he)⟩

/-- Removing a range of keys keeps the canonical form. -/
theorem mwf_merase (d : Nat → α) (m : SMap α) (lo hi : Nat) (h : mwf d m = true) : mwf d (merase m lo hi) = true := mwf_filter d m _ h

/-- Writing a run of keys keeps the canonical form. -/
theorem mwf_foldl_mset {β : Type} (d : Nat → α) (l : List β) (key : β → Nat) (val : β → α) (m : SMap α) (h : mwf d m = true) :
    mwf d (l.foldl (fun m x => mset d m (key x) (val x)) m) = true := by
  induction l generalizing m with
  | nil => exact h
  | cons x l ih => exact ih _ (mwf_mset d m _ _ h)

end Sys2Proof.Laws
end

