-- ==== Sys2Proof/Laws/Registers.lean ====
section
/-!
SUPPORT. Registers, their bits and fields, threads and crossings: what each reads after a write of itself or of another.
-/
namespace Sys2Proof.Laws
open Sys2Proof.Machine

/-! ## Bits of a field -/

theorem getLsbD_putFld (v : Quad) (hi lo x i : Nat) (hi32 : hi < 32) (hl : lo ≤ hi) :
    (putFld v hi lo x).getLsbD i = if lo ≤ i ∧ i ≤ hi then x.testBit (i - lo) else v.getLsbD i := by
  by_cases h3 : i < 32
  · simp only [putFld, BitVec.getLsbD_or, BitVec.getLsbD_and, BitVec.getLsbD_not, BitVec.getLsbD_ofNat, Nat.testBit_mul_two_pow,
      Nat.testBit_two_pow_sub_one, Nat.testBit_mod_two_pow]
    by_cases h1 : lo ≤ i <;> by_cases h2 : i ≤ hi <;> simp [h1, h2, h3]
    · have : i - lo < hi + 1 - lo := by omega
      simp [this]
    · have : ¬(i - lo < hi + 1 - lo) := by omega
      simp [this]
  · have : ¬(lo ≤ i ∧ i ≤ hi) := by omega
    simp [this, BitVec.getLsbD_of_ge _ _ (Nat.le_of_not_lt h3)]

/-! ## Registers -/

@[simp] theorem rd_wr_same (s : State) (r : Rg) (i : Nat) (v : Quad) : rd (wr s r i v) r i = v := by simp [rd, wr]

theorem rd_wr_ne (s : State) (r q : Rg) (i j : Nat) (v : Quad) (h : regAddr q j ≠ regAddr r i) : rd (wr s r i v) q j = rd s q j := by
  simp [rd, wr, mget_mset_ne _ _ _ _ h]

theorem rd_io (s t : State) (r : Rg) (i : Nat) (h : t.io = s.io) : rd t r i = rd s r i := by simp [rd, h]

@[simp] theorem wr_wr (s : State) (r : Rg) (i : Nat) (v w : Quad) : wr (wr s r i v) r i w = wr s r i w := by simp [wr]

theorem rb_wb_same (s : State) (r : Rg) (i b : Nat) (x : Bool) (h : b < 32) : rb (wb s r i b x) r i b = x := by
  simp [rb, wb, getLsbD_putFld _ _ _ _ _ h (Nat.le_refl b)]; cases x <;> simp [b01]

theorem rb_wb_other (s : State) (r : Rg) (i b c : Nat) (x : Bool) (h : b < 32) (hc : c ≠ b) :
    rb (wb s r i b x) r i c = rb s r i c := by
  have : ¬(b ≤ c ∧ c ≤ b) := by omega
  simp only [rb, wb, rd_wr_same, getLsbD_putFld _ _ _ _ _ h (Nat.le_refl b), this, if_false]

theorem rb_wb_ne (s : State) (r q : Rg) (i j b c : Nat) (x : Bool) (h : regAddr q j ≠ regAddr r i) :
    rb (wb s r i b x) q j c = rb s q j c := by simp [rb, wb, rd_wr_ne _ _ _ _ _ _ h]

theorem rd_wb_ne (s : State) (r q : Rg) (i j b : Nat) (x : Bool) (h : regAddr q j ≠ regAddr r i) :
    rd (wb s r i b x) q j = rd s q j := by simp [wb, rd_wr_ne _ _ _ _ _ _ h]

theorem rd_wf_ne (s : State) (r q : Rg) (i j hi lo x : Nat) (h : regAddr q j ≠ regAddr r i) :
    rd (wf s r i hi lo x) q j = rd s q j := by simp [wf, rd_wr_ne _ _ _ _ _ _ h]

/-! ## Threads -/

@[simp] theorem thr_setThr_same (s : State) (n : Nat) (t : Thread) : thr (setThr s n t) n = t := by simp [thr, setThr]

theorem thr_setThr_ne (s : State) (m n : Nat) (t : Thread) (h : m ≠ n) : thr (setThr s n t) m = thr s m := by
  simp [thr, setThr, mget_mset_ne _ _ _ _ h]

@[simp] theorem setThr_setThr (s : State) (n : Nat) (t u : Thread) : setThr (setThr s n t) n u = setThr s n u := by simp [setThr]

@[simp] theorem thr_wr (s : State) (r : Rg) (i n : Nat) (v : Quad) : thr (wr s r i v) n = thr s n := rfl

@[simp] theorem rd_setThr (s : State) (n : Nat) (t : Thread) (r : Rg) (i : Nat) : rd (setThr s n t) r i = rd s r i := rfl

@[simp] theorem getG_setG_same (t : Thread) (r : Nat) (v : Byte) : getG (setG t r v) r = v := by simp [getG, setG]

theorem getG_setG_ne (t : Thread) (r q : Nat) (v : Byte) (h : q ≠ r) : getG (setG t r v) q = getG t q := by
  simp [getG, setG, mget_mset_ne _ _ _ _ h]

@[simp] theorem getP_setP_same (t : Thread) (r : Nat) (v : Word) : getP (setP t r v) r = v := by simp [getP, setP]

theorem getP_setP_ne (t : Thread) (r q : Nat) (v : Word) (h : q ≠ r) : getP (setP t r v) q = getP t q := by
  simp [getP, setP, mget_mset_ne _ _ _ _ h]

/-! ## Crossings -/

@[simp] theorem xwaitOf_send_same (s : State) (c : Nat) (x : Xfer) : xwaitOf (send s c x) c = xwaitOf s c ++ [x] := by
  simp [xwaitOf, send]

theorem xwaitOf_send_ne (s : State) (c d : Nat) (x : Xfer) (h : d ≠ c) : xwaitOf (send s c x) d = xwaitOf s d := by
  simp [xwaitOf, send, mget_mset_ne _ _ _ _ h]

/-! ## Timers -/

theorem timerDue_startTimer (s : State) (k n : Nat) : timerDue (startTimer s k n) k = decide (n = 0) := by
  simp [timerDue, startTimer]

@[simp] theorem timerOn_startTimer (s : State) (k n : Nat) : timerOn (startTimer s k n) k = true := by simp [timerOn, startTimer]

@[simp] theorem timerOn_stopTimer (s : State) (k : Nat) : timerOn (stopTimer s k) k = false := by simp [timerOn, stopTimer]

end Sys2Proof.Laws
end

