-- ==== Sys2Proof/Laws/State.lean ====
section
/-!
SUPPORT. What each update of the state leaves: one lemma per field per update.
-/
namespace Sys2Proof.Laws
open Sys2Proof.Machine

variable (s : State)

@[simp] theorem wr_pending (r : Rg) (i : Nat) (v : Quad) : (wr s r i v).pending = s.pending := rfl
@[simp] theorem wr_time (r : Rg) (i : Nat) (v : Quad) : (wr s r i v).time = s.time := rfl
@[simp] theorem wr_cycles (r : Rg) (i : Nat) (v : Quad) : (wr s r i v).cycles = s.cycles := rfl
@[simp] theorem wr_fresh (r : Rg) (i : Nat) (v : Quad) : (wr s r i v).fresh = s.fresh := rfl
@[simp] theorem wr_shadow (r : Rg) (i : Nat) (v : Quad) : (wr s r i v).shadow = s.shadow := rfl
@[simp] theorem wr_staged (r : Rg) (i : Nat) (v : Quad) : (wr s r i v).staged = s.staged := rfl
@[simp] theorem wr_dev (r : Rg) (i : Nat) (v : Quad) : (wr s r i v).dev = s.dev := rfl
@[simp] theorem wr_thr (r : Rg) (i : Nat) (v : Quad) : (wr s r i v).thr = s.thr := rfl
@[simp] theorem wr_pipe (r : Rg) (i : Nat) (v : Quad) : (wr s r i v).pipe = s.pipe := rfl
@[simp] theorem wr_lag (r : Rg) (i : Nat) (v : Quad) : (wr s r i v).lag = s.lag := rfl
@[simp] theorem wr_near (r : Rg) (i : Nat) (v : Quad) : (wr s r i v).near = s.near := rfl
@[simp] theorem wr_bits (r : Rg) (i : Nat) (v : Quad) : (wr s r i v).bits = s.bits := rfl
@[simp] theorem wr_iram (r : Rg) (i : Nat) (v : Quad) : (wr s r i v).iram = s.iram := rfl
@[simp] theorem wr_retain (r : Rg) (i : Nat) (v : Quad) : (wr s r i v).retain = s.retain := rfl
@[simp] theorem wr_pads (r : Rg) (i : Nat) (v : Quad) : (wr s r i v).pads = s.pads := rfl
@[simp] theorem wr_fight (r : Rg) (i : Nat) (v : Quad) : (wr s r i v).fight = s.fight := rfl
@[simp] theorem wr_icu (r : Rg) (i : Nat) (v : Quad) : (wr s r i v).icu = s.icu := rfl
@[simp] theorem wr_xwait (r : Rg) (i : Nat) (v : Quad) : (wr s r i v).xwait = s.xwait := rfl
@[simp] theorem wr_xfly (r : Rg) (i : Nat) (v : Quad) : (wr s r i v).xfly = s.xfly := rfl
@[simp] theorem wr_xback (r : Rg) (i : Nat) (v : Quad) : (wr s r i v).xback = s.xback := rfl
@[simp] theorem wr_timers (r : Rg) (i : Nat) (v : Quad) : (wr s r i v).timers = s.timers := rfl
@[simp] theorem wr_armed (r : Rg) (i : Nat) (v : Quad) : (wr s r i v).armed = s.armed := rfl
@[simp] theorem wr_ctr (r : Rg) (i : Nat) (v : Quad) : (wr s r i v).ctr = s.ctr := rfl
@[simp] theorem wr_led (r : Rg) (i : Nat) (v : Quad) : (wr s r i v).led = s.led := rfl
@[simp] theorem wr_far (r : Rg) (i : Nat) (v : Quad) : (wr s r i v).far = s.far := rfl
@[simp] theorem wr_chan (r : Rg) (i : Nat) (v : Quad) : (wr s r i v).chan = s.chan := rfl
@[simp] theorem wr_pool (r : Rg) (i : Nat) (v : Quad) : (wr s r i v).pool = s.pool := rfl
@[simp] theorem wr_resv (r : Rg) (i : Nat) (v : Quad) : (wr s r i v).resv = s.resv := rfl
@[simp] theorem wr_areq (r : Rg) (i : Nat) (v : Quad) : (wr s r i v).areq = s.areq := rfl
@[simp] theorem wr_mr (r : Rg) (i : Nat) (v : Quad) : (wr s r i v).mr = s.mr := rfl
@[simp] theorem wr_pp (r : Rg) (i : Nat) (v : Quad) : (wr s r i v).pp = s.pp := rfl
@[simp] theorem wr_mover (r : Rg) (i : Nat) (v : Quad) : (wr s r i v).mover = s.mover := rfl
@[simp] theorem wr_slot (r : Rg) (i : Nat) (v : Quad) : (wr s r i v).slot = s.slot := rfl
@[simp] theorem wr_nvByte (r : Rg) (i : Nat) (v : Quad) : (wr s r i v).nvByte = s.nvByte := rfl
@[simp] theorem wr_cache (r : Rg) (i : Nat) (v : Quad) : (wr s r i v).cache = s.cache := rfl
@[simp] theorem wr_usb (r : Rg) (i : Nat) (v : Quad) : (wr s r i v).usb = s.usb := rfl
@[simp] theorem wr_eth (r : Rg) (i : Nat) (v : Quad) : (wr s r i v).eth = s.eth := rfl
@[simp] theorem wr_uart (r : Rg) (i : Nat) (v : Quad) : (wr s r i v).uart = s.uart := rfl
@[simp] theorem wr_kx (r : Rg) (i : Nat) (v : Quad) : (wr s r i v).kx = s.kx := rfl
@[simp] theorem wr_wp (r : Rg) (i : Nat) (v : Quad) : (wr s r i v).wp = s.wp := rfl
@[simp] theorem wr_spi (r : Rg) (i : Nat) (v : Quad) : (wr s r i v).spi = s.spi := rfl
@[simp] theorem wr_nv (r : Rg) (i : Nat) (v : Quad) : (wr s r i v).nv = s.nv := rfl
@[simp] theorem wr_dbg (r : Rg) (i : Nat) (v : Quad) : (wr s r i v).dbg = s.dbg := rfl
@[simp] theorem wr_mon (r : Rg) (i : Nat) (v : Quad) : (wr s r i v).mon = s.mon := rfl
@[simp] theorem wr_dbgWorld (r : Rg) (i : Nat) (v : Quad) : (wr s r i v).dbgWorld = s.dbgWorld := rfl

@[simp] theorem wb_pending (r : Rg) (i b : Nat) (x : Bool) : (wb s r i b x).pending = s.pending := rfl
@[simp] theorem wb_time (r : Rg) (i b : Nat) (x : Bool) : (wb s r i b x).time = s.time := rfl
@[simp] theorem wb_cycles (r : Rg) (i b : Nat) (x : Bool) : (wb s r i b x).cycles = s.cycles := rfl
@[simp] theorem wb_fresh (r : Rg) (i b : Nat) (x : Bool) : (wb s r i b x).fresh = s.fresh := rfl
@[simp] theorem wb_shadow (r : Rg) (i b : Nat) (x : Bool) : (wb s r i b x).shadow = s.shadow := rfl
@[simp] theorem wb_staged (r : Rg) (i b : Nat) (x : Bool) : (wb s r i b x).staged = s.staged := rfl
@[simp] theorem wb_dev (r : Rg) (i b : Nat) (x : Bool) : (wb s r i b x).dev = s.dev := rfl
@[simp] theorem wb_thr (r : Rg) (i b : Nat) (x : Bool) : (wb s r i b x).thr = s.thr := rfl
@[simp] theorem wb_pipe (r : Rg) (i b : Nat) (x : Bool) : (wb s r i b x).pipe = s.pipe := rfl
@[simp] theorem wb_lag (r : Rg) (i b : Nat) (x : Bool) : (wb s r i b x).lag = s.lag := rfl
@[simp] theorem wb_near (r : Rg) (i b : Nat) (x : Bool) : (wb s r i b x).near = s.near := rfl
@[simp] theorem wb_bits (r : Rg) (i b : Nat) (x : Bool) : (wb s r i b x).bits = s.bits := rfl
@[simp] theorem wb_iram (r : Rg) (i b : Nat) (x : Bool) : (wb s r i b x).iram = s.iram := rfl
@[simp] theorem wb_retain (r : Rg) (i b : Nat) (x : Bool) : (wb s r i b x).retain = s.retain := rfl
@[simp] theorem wb_pads (r : Rg) (i b : Nat) (x : Bool) : (wb s r i b x).pads = s.pads := rfl
@[simp] theorem wb_fight (r : Rg) (i b : Nat) (x : Bool) : (wb s r i b x).fight = s.fight := rfl
@[simp] theorem wb_icu (r : Rg) (i b : Nat) (x : Bool) : (wb s r i b x).icu = s.icu := rfl
@[simp] theorem wb_xwait (r : Rg) (i b : Nat) (x : Bool) : (wb s r i b x).xwait = s.xwait := rfl
@[simp] theorem wb_xfly (r : Rg) (i b : Nat) (x : Bool) : (wb s r i b x).xfly = s.xfly := rfl
@[simp] theorem wb_xback (r : Rg) (i b : Nat) (x : Bool) : (wb s r i b x).xback = s.xback := rfl
@[simp] theorem wb_timers (r : Rg) (i b : Nat) (x : Bool) : (wb s r i b x).timers = s.timers := rfl
@[simp] theorem wb_armed (r : Rg) (i b : Nat) (x : Bool) : (wb s r i b x).armed = s.armed := rfl
@[simp] theorem wb_ctr (r : Rg) (i b : Nat) (x : Bool) : (wb s r i b x).ctr = s.ctr := rfl
@[simp] theorem wb_led (r : Rg) (i b : Nat) (x : Bool) : (wb s r i b x).led = s.led := rfl
@[simp] theorem wb_far (r : Rg) (i b : Nat) (x : Bool) : (wb s r i b x).far = s.far := rfl
@[simp] theorem wb_chan (r : Rg) (i b : Nat) (x : Bool) : (wb s r i b x).chan = s.chan := rfl
@[simp] theorem wb_pool (r : Rg) (i b : Nat) (x : Bool) : (wb s r i b x).pool = s.pool := rfl
@[simp] theorem wb_resv (r : Rg) (i b : Nat) (x : Bool) : (wb s r i b x).resv = s.resv := rfl
@[simp] theorem wb_areq (r : Rg) (i b : Nat) (x : Bool) : (wb s r i b x).areq = s.areq := rfl
@[simp] theorem wb_mr (r : Rg) (i b : Nat) (x : Bool) : (wb s r i b x).mr = s.mr := rfl
@[simp] theorem wb_pp (r : Rg) (i b : Nat) (x : Bool) : (wb s r i b x).pp = s.pp := rfl
@[simp] theorem wb_mover (r : Rg) (i b : Nat) (x : Bool) : (wb s r i b x).mover = s.mover := rfl
@[simp] theorem wb_slot (r : Rg) (i b : Nat) (x : Bool) : (wb s r i b x).slot = s.slot := rfl
@[simp] theorem wb_nvByte (r : Rg) (i b : Nat) (x : Bool) : (wb s r i b x).nvByte = s.nvByte := rfl
@[simp] theorem wb_cache (r : Rg) (i b : Nat) (x : Bool) : (wb s r i b x).cache = s.cache := rfl
@[simp] theorem wb_usb (r : Rg) (i b : Nat) (x : Bool) : (wb s r i b x).usb = s.usb := rfl
@[simp] theorem wb_eth (r : Rg) (i b : Nat) (x : Bool) : (wb s r i b x).eth = s.eth := rfl
@[simp] theorem wb_uart (r : Rg) (i b : Nat) (x : Bool) : (wb s r i b x).uart = s.uart := rfl
@[simp] theorem wb_kx (r : Rg) (i b : Nat) (x : Bool) : (wb s r i b x).kx = s.kx := rfl
@[simp] theorem wb_wp (r : Rg) (i b : Nat) (x : Bool) : (wb s r i b x).wp = s.wp := rfl
@[simp] theorem wb_spi (r : Rg) (i b : Nat) (x : Bool) : (wb s r i b x).spi = s.spi := rfl
@[simp] theorem wb_nv (r : Rg) (i b : Nat) (x : Bool) : (wb s r i b x).nv = s.nv := rfl
@[simp] theorem wb_dbg (r : Rg) (i b : Nat) (x : Bool) : (wb s r i b x).dbg = s.dbg := rfl
@[simp] theorem wb_mon (r : Rg) (i b : Nat) (x : Bool) : (wb s r i b x).mon = s.mon := rfl
@[simp] theorem wb_dbgWorld (r : Rg) (i b : Nat) (x : Bool) : (wb s r i b x).dbgWorld = s.dbgWorld := rfl

@[simp] theorem wf_pending (r : Rg) (i hi lo x : Nat) : (wf s r i hi lo x).pending = s.pending := rfl
@[simp] theorem wf_time (r : Rg) (i hi lo x : Nat) : (wf s r i hi lo x).time = s.time := rfl
@[simp] theorem wf_cycles (r : Rg) (i hi lo x : Nat) : (wf s r i hi lo x).cycles = s.cycles := rfl
@[simp] theorem wf_fresh (r : Rg) (i hi lo x : Nat) : (wf s r i hi lo x).fresh = s.fresh := rfl
@[simp] theorem wf_shadow (r : Rg) (i hi lo x : Nat) : (wf s r i hi lo x).shadow = s.shadow := rfl
@[simp] theorem wf_staged (r : Rg) (i hi lo x : Nat) : (wf s r i hi lo x).staged = s.staged := rfl
@[simp] theorem wf_dev (r : Rg) (i hi lo x : Nat) : (wf s r i hi lo x).dev = s.dev := rfl
@[simp] theorem wf_thr (r : Rg) (i hi lo x : Nat) : (wf s r i hi lo x).thr = s.thr := rfl
@[simp] theorem wf_pipe (r : Rg) (i hi lo x : Nat) : (wf s r i hi lo x).pipe = s.pipe := rfl
@[simp] theorem wf_lag (r : Rg) (i hi lo x : Nat) : (wf s r i hi lo x).lag = s.lag := rfl
@[simp] theorem wf_near (r : Rg) (i hi lo x : Nat) : (wf s r i hi lo x).near = s.near := rfl
@[simp] theorem wf_bits (r : Rg) (i hi lo x : Nat) : (wf s r i hi lo x).bits = s.bits := rfl
@[simp] theorem wf_iram (r : Rg) (i hi lo x : Nat) : (wf s r i hi lo x).iram = s.iram := rfl
@[simp] theorem wf_retain (r : Rg) (i hi lo x : Nat) : (wf s r i hi lo x).retain = s.retain := rfl
@[simp] theorem wf_pads (r : Rg) (i hi lo x : Nat) : (wf s r i hi lo x).pads = s.pads := rfl
@[simp] theorem wf_fight (r : Rg) (i hi lo x : Nat) : (wf s r i hi lo x).fight = s.fight := rfl
@[simp] theorem wf_icu (r : Rg) (i hi lo x : Nat) : (wf s r i hi lo x).icu = s.icu := rfl
@[simp] theorem wf_xwait (r : Rg) (i hi lo x : Nat) : (wf s r i hi lo x).xwait = s.xwait := rfl
@[simp] theorem wf_xfly (r : Rg) (i hi lo x : Nat) : (wf s r i hi lo x).xfly = s.xfly := rfl
@[simp] theorem wf_xback (r : Rg) (i hi lo x : Nat) : (wf s r i hi lo x).xback = s.xback := rfl
@[simp] theorem wf_timers (r : Rg) (i hi lo x : Nat) : (wf s r i hi lo x).timers = s.timers := rfl
@[simp] theorem wf_armed (r : Rg) (i hi lo x : Nat) : (wf s r i hi lo x).armed = s.armed := rfl
@[simp] theorem wf_ctr (r : Rg) (i hi lo x : Nat) : (wf s r i hi lo x).ctr = s.ctr := rfl
@[simp] theorem wf_led (r : Rg) (i hi lo x : Nat) : (wf s r i hi lo x).led = s.led := rfl
@[simp] theorem wf_far (r : Rg) (i hi lo x : Nat) : (wf s r i hi lo x).far = s.far := rfl
@[simp] theorem wf_chan (r : Rg) (i hi lo x : Nat) : (wf s r i hi lo x).chan = s.chan := rfl
@[simp] theorem wf_pool (r : Rg) (i hi lo x : Nat) : (wf s r i hi lo x).pool = s.pool := rfl
@[simp] theorem wf_resv (r : Rg) (i hi lo x : Nat) : (wf s r i hi lo x).resv = s.resv := rfl
@[simp] theorem wf_areq (r : Rg) (i hi lo x : Nat) : (wf s r i hi lo x).areq = s.areq := rfl
@[simp] theorem wf_mr (r : Rg) (i hi lo x : Nat) : (wf s r i hi lo x).mr = s.mr := rfl
@[simp] theorem wf_pp (r : Rg) (i hi lo x : Nat) : (wf s r i hi lo x).pp = s.pp := rfl
@[simp] theorem wf_mover (r : Rg) (i hi lo x : Nat) : (wf s r i hi lo x).mover = s.mover := rfl
@[simp] theorem wf_slot (r : Rg) (i hi lo x : Nat) : (wf s r i hi lo x).slot = s.slot := rfl
@[simp] theorem wf_nvByte (r : Rg) (i hi lo x : Nat) : (wf s r i hi lo x).nvByte = s.nvByte := rfl
@[simp] theorem wf_cache (r : Rg) (i hi lo x : Nat) : (wf s r i hi lo x).cache = s.cache := rfl
@[simp] theorem wf_usb (r : Rg) (i hi lo x : Nat) : (wf s r i hi lo x).usb = s.usb := rfl
@[simp] theorem wf_eth (r : Rg) (i hi lo x : Nat) : (wf s r i hi lo x).eth = s.eth := rfl
@[simp] theorem wf_uart (r : Rg) (i hi lo x : Nat) : (wf s r i hi lo x).uart = s.uart := rfl
@[simp] theorem wf_kx (r : Rg) (i hi lo x : Nat) : (wf s r i hi lo x).kx = s.kx := rfl
@[simp] theorem wf_wp (r : Rg) (i hi lo x : Nat) : (wf s r i hi lo x).wp = s.wp := rfl
@[simp] theorem wf_spi (r : Rg) (i hi lo x : Nat) : (wf s r i hi lo x).spi = s.spi := rfl
@[simp] theorem wf_nv (r : Rg) (i hi lo x : Nat) : (wf s r i hi lo x).nv = s.nv := rfl
@[simp] theorem wf_dbg (r : Rg) (i hi lo x : Nat) : (wf s r i hi lo x).dbg = s.dbg := rfl
@[simp] theorem wf_mon (r : Rg) (i hi lo x : Nat) : (wf s r i hi lo x).mon = s.mon := rfl
@[simp] theorem wf_dbgWorld (r : Rg) (i hi lo x : Nat) : (wf s r i hi lo x).dbgWorld = s.dbgWorld := rfl

@[simp] theorem wrReq_pending (r : Rg) (q : Nat) (v : Quad) : (wrReq s r q v).pending = s.pending := rfl
@[simp] theorem wrReq_time (r : Rg) (q : Nat) (v : Quad) : (wrReq s r q v).time = s.time := rfl
@[simp] theorem wrReq_cycles (r : Rg) (q : Nat) (v : Quad) : (wrReq s r q v).cycles = s.cycles := rfl
@[simp] theorem wrReq_fresh (r : Rg) (q : Nat) (v : Quad) : (wrReq s r q v).fresh = s.fresh := rfl
@[simp] theorem wrReq_shadow (r : Rg) (q : Nat) (v : Quad) : (wrReq s r q v).shadow = s.shadow := rfl
@[simp] theorem wrReq_staged (r : Rg) (q : Nat) (v : Quad) : (wrReq s r q v).staged = s.staged := rfl
@[simp] theorem wrReq_dev (r : Rg) (q : Nat) (v : Quad) : (wrReq s r q v).dev = s.dev := rfl
@[simp] theorem wrReq_thr (r : Rg) (q : Nat) (v : Quad) : (wrReq s r q v).thr = s.thr := rfl
@[simp] theorem wrReq_pipe (r : Rg) (q : Nat) (v : Quad) : (wrReq s r q v).pipe = s.pipe := rfl
@[simp] theorem wrReq_lag (r : Rg) (q : Nat) (v : Quad) : (wrReq s r q v).lag = s.lag := rfl
@[simp] theorem wrReq_near (r : Rg) (q : Nat) (v : Quad) : (wrReq s r q v).near = s.near := rfl
@[simp] theorem wrReq_bits (r : Rg) (q : Nat) (v : Quad) : (wrReq s r q v).bits = s.bits := rfl
@[simp] theorem wrReq_iram (r : Rg) (q : Nat) (v : Quad) : (wrReq s r q v).iram = s.iram := rfl
@[simp] theorem wrReq_retain (r : Rg) (q : Nat) (v : Quad) : (wrReq s r q v).retain = s.retain := rfl
@[simp] theorem wrReq_pads (r : Rg) (q : Nat) (v : Quad) : (wrReq s r q v).pads = s.pads := rfl
@[simp] theorem wrReq_fight (r : Rg) (q : Nat) (v : Quad) : (wrReq s r q v).fight = s.fight := rfl
@[simp] theorem wrReq_icu (r : Rg) (q : Nat) (v : Quad) : (wrReq s r q v).icu = s.icu := rfl
@[simp] theorem wrReq_xwait (r : Rg) (q : Nat) (v : Quad) : (wrReq s r q v).xwait = s.xwait := rfl
@[simp] theorem wrReq_xfly (r : Rg) (q : Nat) (v : Quad) : (wrReq s r q v).xfly = s.xfly := rfl
@[simp] theorem wrReq_xback (r : Rg) (q : Nat) (v : Quad) : (wrReq s r q v).xback = s.xback := rfl
@[simp] theorem wrReq_timers (r : Rg) (q : Nat) (v : Quad) : (wrReq s r q v).timers = s.timers := rfl
@[simp] theorem wrReq_armed (r : Rg) (q : Nat) (v : Quad) : (wrReq s r q v).armed = s.armed := rfl
@[simp] theorem wrReq_ctr (r : Rg) (q : Nat) (v : Quad) : (wrReq s r q v).ctr = s.ctr := rfl
@[simp] theorem wrReq_led (r : Rg) (q : Nat) (v : Quad) : (wrReq s r q v).led = s.led := rfl
@[simp] theorem wrReq_far (r : Rg) (q : Nat) (v : Quad) : (wrReq s r q v).far = s.far := rfl
@[simp] theorem wrReq_chan (r : Rg) (q : Nat) (v : Quad) : (wrReq s r q v).chan = s.chan := rfl
@[simp] theorem wrReq_pool (r : Rg) (q : Nat) (v : Quad) : (wrReq s r q v).pool = s.pool := rfl
@[simp] theorem wrReq_resv (r : Rg) (q : Nat) (v : Quad) : (wrReq s r q v).resv = s.resv := rfl
@[simp] theorem wrReq_areq (r : Rg) (q : Nat) (v : Quad) : (wrReq s r q v).areq = s.areq := rfl
@[simp] theorem wrReq_mr (r : Rg) (q : Nat) (v : Quad) : (wrReq s r q v).mr = s.mr := rfl
@[simp] theorem wrReq_pp (r : Rg) (q : Nat) (v : Quad) : (wrReq s r q v).pp = s.pp := rfl
@[simp] theorem wrReq_mover (r : Rg) (q : Nat) (v : Quad) : (wrReq s r q v).mover = s.mover := rfl
@[simp] theorem wrReq_slot (r : Rg) (q : Nat) (v : Quad) : (wrReq s r q v).slot = s.slot := rfl
@[simp] theorem wrReq_nvByte (r : Rg) (q : Nat) (v : Quad) : (wrReq s r q v).nvByte = s.nvByte := rfl
@[simp] theorem wrReq_cache (r : Rg) (q : Nat) (v : Quad) : (wrReq s r q v).cache = s.cache := rfl
@[simp] theorem wrReq_usb (r : Rg) (q : Nat) (v : Quad) : (wrReq s r q v).usb = s.usb := rfl
@[simp] theorem wrReq_eth (r : Rg) (q : Nat) (v : Quad) : (wrReq s r q v).eth = s.eth := rfl
@[simp] theorem wrReq_uart (r : Rg) (q : Nat) (v : Quad) : (wrReq s r q v).uart = s.uart := rfl
@[simp] theorem wrReq_kx (r : Rg) (q : Nat) (v : Quad) : (wrReq s r q v).kx = s.kx := rfl
@[simp] theorem wrReq_wp (r : Rg) (q : Nat) (v : Quad) : (wrReq s r q v).wp = s.wp := rfl
@[simp] theorem wrReq_spi (r : Rg) (q : Nat) (v : Quad) : (wrReq s r q v).spi = s.spi := rfl
@[simp] theorem wrReq_nv (r : Rg) (q : Nat) (v : Quad) : (wrReq s r q v).nv = s.nv := rfl
@[simp] theorem wrReq_dbg (r : Rg) (q : Nat) (v : Quad) : (wrReq s r q v).dbg = s.dbg := rfl
@[simp] theorem wrReq_mon (r : Rg) (q : Nat) (v : Quad) : (wrReq s r q v).mon = s.mon := rfl
@[simp] theorem wrReq_dbgWorld (r : Rg) (q : Nat) (v : Quad) : (wrReq s r q v).dbgWorld = s.dbgWorld := rfl

@[simp] theorem setThr_pending (n : Nat) (t : Thread) : (setThr s n t).pending = s.pending := rfl
@[simp] theorem setThr_time (n : Nat) (t : Thread) : (setThr s n t).time = s.time := rfl
@[simp] theorem setThr_cycles (n : Nat) (t : Thread) : (setThr s n t).cycles = s.cycles := rfl
@[simp] theorem setThr_fresh (n : Nat) (t : Thread) : (setThr s n t).fresh = s.fresh := rfl
@[simp] theorem setThr_io (n : Nat) (t : Thread) : (setThr s n t).io = s.io := rfl
@[simp] theorem setThr_shadow (n : Nat) (t : Thread) : (setThr s n t).shadow = s.shadow := rfl
@[simp] theorem setThr_staged (n : Nat) (t : Thread) : (setThr s n t).staged = s.staged := rfl
@[simp] theorem setThr_dev (n : Nat) (t : Thread) : (setThr s n t).dev = s.dev := rfl
@[simp] theorem setThr_pipe (n : Nat) (t : Thread) : (setThr s n t).pipe = s.pipe := rfl
@[simp] theorem setThr_lag (n : Nat) (t : Thread) : (setThr s n t).lag = s.lag := rfl
@[simp] theorem setThr_near (n : Nat) (t : Thread) : (setThr s n t).near = s.near := rfl
@[simp] theorem setThr_bits (n : Nat) (t : Thread) : (setThr s n t).bits = s.bits := rfl
@[simp] theorem setThr_iram (n : Nat) (t : Thread) : (setThr s n t).iram = s.iram := rfl
@[simp] theorem setThr_retain (n : Nat) (t : Thread) : (setThr s n t).retain = s.retain := rfl
@[simp] theorem setThr_pads (n : Nat) (t : Thread) : (setThr s n t).pads = s.pads := rfl
@[simp] theorem setThr_fight (n : Nat) (t : Thread) : (setThr s n t).fight = s.fight := rfl
@[simp] theorem setThr_icu (n : Nat) (t : Thread) : (setThr s n t).icu = s.icu := rfl
@[simp] theorem setThr_xwait (n : Nat) (t : Thread) : (setThr s n t).xwait = s.xwait := rfl
@[simp] theorem setThr_xfly (n : Nat) (t : Thread) : (setThr s n t).xfly = s.xfly := rfl
@[simp] theorem setThr_xback (n : Nat) (t : Thread) : (setThr s n t).xback = s.xback := rfl
@[simp] theorem setThr_timers (n : Nat) (t : Thread) : (setThr s n t).timers = s.timers := rfl
@[simp] theorem setThr_armed (n : Nat) (t : Thread) : (setThr s n t).armed = s.armed := rfl
@[simp] theorem setThr_ctr (n : Nat) (t : Thread) : (setThr s n t).ctr = s.ctr := rfl
@[simp] theorem setThr_led (n : Nat) (t : Thread) : (setThr s n t).led = s.led := rfl
@[simp] theorem setThr_far (n : Nat) (t : Thread) : (setThr s n t).far = s.far := rfl
@[simp] theorem setThr_chan (n : Nat) (t : Thread) : (setThr s n t).chan = s.chan := rfl
@[simp] theorem setThr_pool (n : Nat) (t : Thread) : (setThr s n t).pool = s.pool := rfl
@[simp] theorem setThr_resv (n : Nat) (t : Thread) : (setThr s n t).resv = s.resv := rfl
@[simp] theorem setThr_areq (n : Nat) (t : Thread) : (setThr s n t).areq = s.areq := rfl
@[simp] theorem setThr_mr (n : Nat) (t : Thread) : (setThr s n t).mr = s.mr := rfl
@[simp] theorem setThr_pp (n : Nat) (t : Thread) : (setThr s n t).pp = s.pp := rfl
@[simp] theorem setThr_mover (n : Nat) (t : Thread) : (setThr s n t).mover = s.mover := rfl
@[simp] theorem setThr_slot (n : Nat) (t : Thread) : (setThr s n t).slot = s.slot := rfl
@[simp] theorem setThr_nvByte (n : Nat) (t : Thread) : (setThr s n t).nvByte = s.nvByte := rfl
@[simp] theorem setThr_cache (n : Nat) (t : Thread) : (setThr s n t).cache = s.cache := rfl
@[simp] theorem setThr_usb (n : Nat) (t : Thread) : (setThr s n t).usb = s.usb := rfl
@[simp] theorem setThr_eth (n : Nat) (t : Thread) : (setThr s n t).eth = s.eth := rfl
@[simp] theorem setThr_uart (n : Nat) (t : Thread) : (setThr s n t).uart = s.uart := rfl
@[simp] theorem setThr_kx (n : Nat) (t : Thread) : (setThr s n t).kx = s.kx := rfl
@[simp] theorem setThr_wp (n : Nat) (t : Thread) : (setThr s n t).wp = s.wp := rfl
@[simp] theorem setThr_spi (n : Nat) (t : Thread) : (setThr s n t).spi = s.spi := rfl
@[simp] theorem setThr_nv (n : Nat) (t : Thread) : (setThr s n t).nv = s.nv := rfl
@[simp] theorem setThr_dbg (n : Nat) (t : Thread) : (setThr s n t).dbg = s.dbg := rfl
@[simp] theorem setThr_mon (n : Nat) (t : Thread) : (setThr s n t).mon = s.mon := rfl
@[simp] theorem setThr_dbgWorld (n : Nat) (t : Thread) : (setThr s n t).dbgWorld = s.dbgWorld := rfl

@[simp] theorem send_pending (c : Nat) (x : Xfer) : (send s c x).pending = s.pending := rfl
@[simp] theorem send_time (c : Nat) (x : Xfer) : (send s c x).time = s.time := rfl
@[simp] theorem send_cycles (c : Nat) (x : Xfer) : (send s c x).cycles = s.cycles := rfl
@[simp] theorem send_fresh (c : Nat) (x : Xfer) : (send s c x).fresh = s.fresh := rfl
@[simp] theorem send_io (c : Nat) (x : Xfer) : (send s c x).io = s.io := rfl
@[simp] theorem send_shadow (c : Nat) (x : Xfer) : (send s c x).shadow = s.shadow := rfl
@[simp] theorem send_staged (c : Nat) (x : Xfer) : (send s c x).staged = s.staged := rfl
@[simp] theorem send_dev (c : Nat) (x : Xfer) : (send s c x).dev = s.dev := rfl
@[simp] theorem send_thr (c : Nat) (x : Xfer) : (send s c x).thr = s.thr := rfl
@[simp] theorem send_pipe (c : Nat) (x : Xfer) : (send s c x).pipe = s.pipe := rfl
@[simp] theorem send_lag (c : Nat) (x : Xfer) : (send s c x).lag = s.lag := rfl
@[simp] theorem send_near (c : Nat) (x : Xfer) : (send s c x).near = s.near := rfl
@[simp] theorem send_bits (c : Nat) (x : Xfer) : (send s c x).bits = s.bits := rfl
@[simp] theorem send_iram (c : Nat) (x : Xfer) : (send s c x).iram = s.iram := rfl
@[simp] theorem send_retain (c : Nat) (x : Xfer) : (send s c x).retain = s.retain := rfl
@[simp] theorem send_pads (c : Nat) (x : Xfer) : (send s c x).pads = s.pads := rfl
@[simp] theorem send_fight (c : Nat) (x : Xfer) : (send s c x).fight = s.fight := rfl
@[simp] theorem send_icu (c : Nat) (x : Xfer) : (send s c x).icu = s.icu := rfl
@[simp] theorem send_xfly (c : Nat) (x : Xfer) : (send s c x).xfly = s.xfly := rfl
@[simp] theorem send_xback (c : Nat) (x : Xfer) : (send s c x).xback = s.xback := rfl
@[simp] theorem send_timers (c : Nat) (x : Xfer) : (send s c x).timers = s.timers := rfl
@[simp] theorem send_armed (c : Nat) (x : Xfer) : (send s c x).armed = s.armed := rfl
@[simp] theorem send_ctr (c : Nat) (x : Xfer) : (send s c x).ctr = s.ctr := rfl
@[simp] theorem send_led (c : Nat) (x : Xfer) : (send s c x).led = s.led := rfl
@[simp] theorem send_far (c : Nat) (x : Xfer) : (send s c x).far = s.far := rfl
@[simp] theorem send_chan (c : Nat) (x : Xfer) : (send s c x).chan = s.chan := rfl
@[simp] theorem send_pool (c : Nat) (x : Xfer) : (send s c x).pool = s.pool := rfl
@[simp] theorem send_resv (c : Nat) (x : Xfer) : (send s c x).resv = s.resv := rfl
@[simp] theorem send_areq (c : Nat) (x : Xfer) : (send s c x).areq = s.areq := rfl
@[simp] theorem send_mr (c : Nat) (x : Xfer) : (send s c x).mr = s.mr := rfl
@[simp] theorem send_pp (c : Nat) (x : Xfer) : (send s c x).pp = s.pp := rfl
@[simp] theorem send_mover (c : Nat) (x : Xfer) : (send s c x).mover = s.mover := rfl
@[simp] theorem send_slot (c : Nat) (x : Xfer) : (send s c x).slot = s.slot := rfl
@[simp] theorem send_nvByte (c : Nat) (x : Xfer) : (send s c x).nvByte = s.nvByte := rfl
@[simp] theorem send_cache (c : Nat) (x : Xfer) : (send s c x).cache = s.cache := rfl
@[simp] theorem send_usb (c : Nat) (x : Xfer) : (send s c x).usb = s.usb := rfl
@[simp] theorem send_eth (c : Nat) (x : Xfer) : (send s c x).eth = s.eth := rfl
@[simp] theorem send_uart (c : Nat) (x : Xfer) : (send s c x).uart = s.uart := rfl
@[simp] theorem send_kx (c : Nat) (x : Xfer) : (send s c x).kx = s.kx := rfl
@[simp] theorem send_wp (c : Nat) (x : Xfer) : (send s c x).wp = s.wp := rfl
@[simp] theorem send_spi (c : Nat) (x : Xfer) : (send s c x).spi = s.spi := rfl
@[simp] theorem send_nv (c : Nat) (x : Xfer) : (send s c x).nv = s.nv := rfl
@[simp] theorem send_dbg (c : Nat) (x : Xfer) : (send s c x).dbg = s.dbg := rfl
@[simp] theorem send_mon (c : Nat) (x : Xfer) : (send s c x).mon = s.mon := rfl
@[simp] theorem send_dbgWorld (c : Nat) (x : Xfer) : (send s c x).dbgWorld = s.dbgWorld := rfl

@[simp] theorem startTimer_pending (k n : Nat) : (startTimer s k n).pending = s.pending := rfl
@[simp] theorem startTimer_time (k n : Nat) : (startTimer s k n).time = s.time := rfl
@[simp] theorem startTimer_cycles (k n : Nat) : (startTimer s k n).cycles = s.cycles := rfl
@[simp] theorem startTimer_fresh (k n : Nat) : (startTimer s k n).fresh = s.fresh := rfl
@[simp] theorem startTimer_io (k n : Nat) : (startTimer s k n).io = s.io := rfl
@[simp] theorem startTimer_shadow (k n : Nat) : (startTimer s k n).shadow = s.shadow := rfl
@[simp] theorem startTimer_staged (k n : Nat) : (startTimer s k n).staged = s.staged := rfl
@[simp] theorem startTimer_dev (k n : Nat) : (startTimer s k n).dev = s.dev := rfl
@[simp] theorem startTimer_thr (k n : Nat) : (startTimer s k n).thr = s.thr := rfl
@[simp] theorem startTimer_pipe (k n : Nat) : (startTimer s k n).pipe = s.pipe := rfl
@[simp] theorem startTimer_lag (k n : Nat) : (startTimer s k n).lag = s.lag := rfl
@[simp] theorem startTimer_near (k n : Nat) : (startTimer s k n).near = s.near := rfl
@[simp] theorem startTimer_bits (k n : Nat) : (startTimer s k n).bits = s.bits := rfl
@[simp] theorem startTimer_iram (k n : Nat) : (startTimer s k n).iram = s.iram := rfl
@[simp] theorem startTimer_retain (k n : Nat) : (startTimer s k n).retain = s.retain := rfl
@[simp] theorem startTimer_pads (k n : Nat) : (startTimer s k n).pads = s.pads := rfl
@[simp] theorem startTimer_fight (k n : Nat) : (startTimer s k n).fight = s.fight := rfl
@[simp] theorem startTimer_icu (k n : Nat) : (startTimer s k n).icu = s.icu := rfl
@[simp] theorem startTimer_xwait (k n : Nat) : (startTimer s k n).xwait = s.xwait := rfl
@[simp] theorem startTimer_xfly (k n : Nat) : (startTimer s k n).xfly = s.xfly := rfl
@[simp] theorem startTimer_xback (k n : Nat) : (startTimer s k n).xback = s.xback := rfl
@[simp] theorem startTimer_ctr (k n : Nat) : (startTimer s k n).ctr = s.ctr := rfl
@[simp] theorem startTimer_led (k n : Nat) : (startTimer s k n).led = s.led := rfl
@[simp] theorem startTimer_far (k n : Nat) : (startTimer s k n).far = s.far := rfl
@[simp] theorem startTimer_chan (k n : Nat) : (startTimer s k n).chan = s.chan := rfl
@[simp] theorem startTimer_pool (k n : Nat) : (startTimer s k n).pool = s.pool := rfl
@[simp] theorem startTimer_resv (k n : Nat) : (startTimer s k n).resv = s.resv := rfl
@[simp] theorem startTimer_areq (k n : Nat) : (startTimer s k n).areq = s.areq := rfl
@[simp] theorem startTimer_mr (k n : Nat) : (startTimer s k n).mr = s.mr := rfl
@[simp] theorem startTimer_pp (k n : Nat) : (startTimer s k n).pp = s.pp := rfl
@[simp] theorem startTimer_mover (k n : Nat) : (startTimer s k n).mover = s.mover := rfl
@[simp] theorem startTimer_slot (k n : Nat) : (startTimer s k n).slot = s.slot := rfl
@[simp] theorem startTimer_nvByte (k n : Nat) : (startTimer s k n).nvByte = s.nvByte := rfl
@[simp] theorem startTimer_cache (k n : Nat) : (startTimer s k n).cache = s.cache := rfl
@[simp] theorem startTimer_usb (k n : Nat) : (startTimer s k n).usb = s.usb := rfl
@[simp] theorem startTimer_eth (k n : Nat) : (startTimer s k n).eth = s.eth := rfl
@[simp] theorem startTimer_uart (k n : Nat) : (startTimer s k n).uart = s.uart := rfl
@[simp] theorem startTimer_kx (k n : Nat) : (startTimer s k n).kx = s.kx := rfl
@[simp] theorem startTimer_wp (k n : Nat) : (startTimer s k n).wp = s.wp := rfl
@[simp] theorem startTimer_spi (k n : Nat) : (startTimer s k n).spi = s.spi := rfl
@[simp] theorem startTimer_nv (k n : Nat) : (startTimer s k n).nv = s.nv := rfl
@[simp] theorem startTimer_dbg (k n : Nat) : (startTimer s k n).dbg = s.dbg := rfl
@[simp] theorem startTimer_mon (k n : Nat) : (startTimer s k n).mon = s.mon := rfl
@[simp] theorem startTimer_dbgWorld (k n : Nat) : (startTimer s k n).dbgWorld = s.dbgWorld := rfl

@[simp] theorem stopTimer_pending (k : Nat) : (stopTimer s k).pending = s.pending := rfl
@[simp] theorem stopTimer_time (k : Nat) : (stopTimer s k).time = s.time := rfl
@[simp] theorem stopTimer_cycles (k : Nat) : (stopTimer s k).cycles = s.cycles := rfl
@[simp] theorem stopTimer_fresh (k : Nat) : (stopTimer s k).fresh = s.fresh := rfl
@[simp] theorem stopTimer_io (k : Nat) : (stopTimer s k).io = s.io := rfl
@[simp] theorem stopTimer_shadow (k : Nat) : (stopTimer s k).shadow = s.shadow := rfl
@[simp] theorem stopTimer_staged (k : Nat) : (stopTimer s k).staged = s.staged := rfl
@[simp] theorem stopTimer_dev (k : Nat) : (stopTimer s k).dev = s.dev := rfl
@[simp] theorem stopTimer_thr (k : Nat) : (stopTimer s k).thr = s.thr := rfl
@[simp] theorem stopTimer_pipe (k : Nat) : (stopTimer s k).pipe = s.pipe := rfl
@[simp] theorem stopTimer_lag (k : Nat) : (stopTimer s k).lag = s.lag := rfl
@[simp] theorem stopTimer_near (k : Nat) : (stopTimer s k).near = s.near := rfl
@[simp] theorem stopTimer_bits (k : Nat) : (stopTimer s k).bits = s.bits := rfl
@[simp] theorem stopTimer_iram (k : Nat) : (stopTimer s k).iram = s.iram := rfl
@[simp] theorem stopTimer_retain (k : Nat) : (stopTimer s k).retain = s.retain := rfl
@[simp] theorem stopTimer_pads (k : Nat) : (stopTimer s k).pads = s.pads := rfl
@[simp] theorem stopTimer_fight (k : Nat) : (stopTimer s k).fight = s.fight := rfl
@[simp] theorem stopTimer_icu (k : Nat) : (stopTimer s k).icu = s.icu := rfl
@[simp] theorem stopTimer_xwait (k : Nat) : (stopTimer s k).xwait = s.xwait := rfl
@[simp] theorem stopTimer_xfly (k : Nat) : (stopTimer s k).xfly = s.xfly := rfl
@[simp] theorem stopTimer_xback (k : Nat) : (stopTimer s k).xback = s.xback := rfl
@[simp] theorem stopTimer_ctr (k : Nat) : (stopTimer s k).ctr = s.ctr := rfl
@[simp] theorem stopTimer_led (k : Nat) : (stopTimer s k).led = s.led := rfl
@[simp] theorem stopTimer_far (k : Nat) : (stopTimer s k).far = s.far := rfl
@[simp] theorem stopTimer_chan (k : Nat) : (stopTimer s k).chan = s.chan := rfl
@[simp] theorem stopTimer_pool (k : Nat) : (stopTimer s k).pool = s.pool := rfl
@[simp] theorem stopTimer_resv (k : Nat) : (stopTimer s k).resv = s.resv := rfl
@[simp] theorem stopTimer_areq (k : Nat) : (stopTimer s k).areq = s.areq := rfl
@[simp] theorem stopTimer_mr (k : Nat) : (stopTimer s k).mr = s.mr := rfl
@[simp] theorem stopTimer_pp (k : Nat) : (stopTimer s k).pp = s.pp := rfl
@[simp] theorem stopTimer_mover (k : Nat) : (stopTimer s k).mover = s.mover := rfl
@[simp] theorem stopTimer_slot (k : Nat) : (stopTimer s k).slot = s.slot := rfl
@[simp] theorem stopTimer_nvByte (k : Nat) : (stopTimer s k).nvByte = s.nvByte := rfl
@[simp] theorem stopTimer_cache (k : Nat) : (stopTimer s k).cache = s.cache := rfl
@[simp] theorem stopTimer_usb (k : Nat) : (stopTimer s k).usb = s.usb := rfl
@[simp] theorem stopTimer_eth (k : Nat) : (stopTimer s k).eth = s.eth := rfl
@[simp] theorem stopTimer_uart (k : Nat) : (stopTimer s k).uart = s.uart := rfl
@[simp] theorem stopTimer_kx (k : Nat) : (stopTimer s k).kx = s.kx := rfl
@[simp] theorem stopTimer_wp (k : Nat) : (stopTimer s k).wp = s.wp := rfl
@[simp] theorem stopTimer_spi (k : Nat) : (stopTimer s k).spi = s.spi := rfl
@[simp] theorem stopTimer_nv (k : Nat) : (stopTimer s k).nv = s.nv := rfl
@[simp] theorem stopTimer_dbg (k : Nat) : (stopTimer s k).dbg = s.dbg := rfl
@[simp] theorem stopTimer_mon (k : Nat) : (stopTimer s k).mon = s.mon := rfl
@[simp] theorem stopTimer_dbgWorld (k : Nat) : (stopTimer s k).dbgWorld = s.dbgWorld := rfl

@[simp] theorem setCtr_pending (n : Nat) (c : Counter) : (setCtr s n c).pending = s.pending := rfl
@[simp] theorem setCtr_time (n : Nat) (c : Counter) : (setCtr s n c).time = s.time := rfl
@[simp] theorem setCtr_cycles (n : Nat) (c : Counter) : (setCtr s n c).cycles = s.cycles := rfl
@[simp] theorem setCtr_fresh (n : Nat) (c : Counter) : (setCtr s n c).fresh = s.fresh := rfl
@[simp] theorem setCtr_io (n : Nat) (c : Counter) : (setCtr s n c).io = s.io := rfl
@[simp] theorem setCtr_shadow (n : Nat) (c : Counter) : (setCtr s n c).shadow = s.shadow := rfl
@[simp] theorem setCtr_staged (n : Nat) (c : Counter) : (setCtr s n c).staged = s.staged := rfl
@[simp] theorem setCtr_dev (n : Nat) (c : Counter) : (setCtr s n c).dev = s.dev := rfl
@[simp] theorem setCtr_thr (n : Nat) (c : Counter) : (setCtr s n c).thr = s.thr := rfl
@[simp] theorem setCtr_pipe (n : Nat) (c : Counter) : (setCtr s n c).pipe = s.pipe := rfl
@[simp] theorem setCtr_lag (n : Nat) (c : Counter) : (setCtr s n c).lag = s.lag := rfl
@[simp] theorem setCtr_near (n : Nat) (c : Counter) : (setCtr s n c).near = s.near := rfl
@[simp] theorem setCtr_bits (n : Nat) (c : Counter) : (setCtr s n c).bits = s.bits := rfl
@[simp] theorem setCtr_iram (n : Nat) (c : Counter) : (setCtr s n c).iram = s.iram := rfl
@[simp] theorem setCtr_retain (n : Nat) (c : Counter) : (setCtr s n c).retain = s.retain := rfl
@[simp] theorem setCtr_pads (n : Nat) (c : Counter) : (setCtr s n c).pads = s.pads := rfl
@[simp] theorem setCtr_fight (n : Nat) (c : Counter) : (setCtr s n c).fight = s.fight := rfl
@[simp] theorem setCtr_icu (n : Nat) (c : Counter) : (setCtr s n c).icu = s.icu := rfl
@[simp] theorem setCtr_xwait (n : Nat) (c : Counter) : (setCtr s n c).xwait = s.xwait := rfl
@[simp] theorem setCtr_xfly (n : Nat) (c : Counter) : (setCtr s n c).xfly = s.xfly := rfl
@[simp] theorem setCtr_xback (n : Nat) (c : Counter) : (setCtr s n c).xback = s.xback := rfl
@[simp] theorem setCtr_timers (n : Nat) (c : Counter) : (setCtr s n c).timers = s.timers := rfl
@[simp] theorem setCtr_armed (n : Nat) (c : Counter) : (setCtr s n c).armed = s.armed := rfl
@[simp] theorem setCtr_led (n : Nat) (c : Counter) : (setCtr s n c).led = s.led := rfl
@[simp] theorem setCtr_far (n : Nat) (c : Counter) : (setCtr s n c).far = s.far := rfl
@[simp] theorem setCtr_chan (n : Nat) (c : Counter) : (setCtr s n c).chan = s.chan := rfl
@[simp] theorem setCtr_pool (n : Nat) (c : Counter) : (setCtr s n c).pool = s.pool := rfl
@[simp] theorem setCtr_resv (n : Nat) (c : Counter) : (setCtr s n c).resv = s.resv := rfl
@[simp] theorem setCtr_areq (n : Nat) (c : Counter) : (setCtr s n c).areq = s.areq := rfl
@[simp] theorem setCtr_mr (n : Nat) (c : Counter) : (setCtr s n c).mr = s.mr := rfl
@[simp] theorem setCtr_pp (n : Nat) (c : Counter) : (setCtr s n c).pp = s.pp := rfl
@[simp] theorem setCtr_mover (n : Nat) (c : Counter) : (setCtr s n c).mover = s.mover := rfl
@[simp] theorem setCtr_slot (n : Nat) (c : Counter) : (setCtr s n c).slot = s.slot := rfl
@[simp] theorem setCtr_nvByte (n : Nat) (c : Counter) : (setCtr s n c).nvByte = s.nvByte := rfl
@[simp] theorem setCtr_cache (n : Nat) (c : Counter) : (setCtr s n c).cache = s.cache := rfl
@[simp] theorem setCtr_usb (n : Nat) (c : Counter) : (setCtr s n c).usb = s.usb := rfl
@[simp] theorem setCtr_eth (n : Nat) (c : Counter) : (setCtr s n c).eth = s.eth := rfl
@[simp] theorem setCtr_uart (n : Nat) (c : Counter) : (setCtr s n c).uart = s.uart := rfl
@[simp] theorem setCtr_kx (n : Nat) (c : Counter) : (setCtr s n c).kx = s.kx := rfl
@[simp] theorem setCtr_wp (n : Nat) (c : Counter) : (setCtr s n c).wp = s.wp := rfl
@[simp] theorem setCtr_spi (n : Nat) (c : Counter) : (setCtr s n c).spi = s.spi := rfl
@[simp] theorem setCtr_nv (n : Nat) (c : Counter) : (setCtr s n c).nv = s.nv := rfl
@[simp] theorem setCtr_dbg (n : Nat) (c : Counter) : (setCtr s n c).dbg = s.dbg := rfl
@[simp] theorem setCtr_mon (n : Nat) (c : Counter) : (setCtr s n c).mon = s.mon := rfl
@[simp] theorem setCtr_dbgWorld (n : Nat) (c : Counter) : (setCtr s n c).dbgWorld = s.dbgWorld := rfl

@[simp] theorem setTerm_pending (b t : Nat) (v : Quad) : (setTerm s b t v).pending = s.pending := rfl
@[simp] theorem setTerm_time (b t : Nat) (v : Quad) : (setTerm s b t v).time = s.time := rfl
@[simp] theorem setTerm_cycles (b t : Nat) (v : Quad) : (setTerm s b t v).cycles = s.cycles := rfl
@[simp] theorem setTerm_fresh (b t : Nat) (v : Quad) : (setTerm s b t v).fresh = s.fresh := rfl
@[simp] theorem setTerm_io (b t : Nat) (v : Quad) : (setTerm s b t v).io = s.io := rfl
@[simp] theorem setTerm_shadow (b t : Nat) (v : Quad) : (setTerm s b t v).shadow = s.shadow := rfl
@[simp] theorem setTerm_staged (b t : Nat) (v : Quad) : (setTerm s b t v).staged = s.staged := rfl
@[simp] theorem setTerm_dev (b t : Nat) (v : Quad) : (setTerm s b t v).dev = s.dev := rfl
@[simp] theorem setTerm_thr (b t : Nat) (v : Quad) : (setTerm s b t v).thr = s.thr := rfl
@[simp] theorem setTerm_pipe (b t : Nat) (v : Quad) : (setTerm s b t v).pipe = s.pipe := rfl
@[simp] theorem setTerm_lag (b t : Nat) (v : Quad) : (setTerm s b t v).lag = s.lag := rfl
@[simp] theorem setTerm_near (b t : Nat) (v : Quad) : (setTerm s b t v).near = s.near := rfl
@[simp] theorem setTerm_bits (b t : Nat) (v : Quad) : (setTerm s b t v).bits = s.bits := rfl
@[simp] theorem setTerm_iram (b t : Nat) (v : Quad) : (setTerm s b t v).iram = s.iram := rfl
@[simp] theorem setTerm_retain (b t : Nat) (v : Quad) : (setTerm s b t v).retain = s.retain := rfl
@[simp] theorem setTerm_pads (b t : Nat) (v : Quad) : (setTerm s b t v).pads = s.pads := rfl
@[simp] theorem setTerm_fight (b t : Nat) (v : Quad) : (setTerm s b t v).fight = s.fight := rfl
@[simp] theorem setTerm_icu (b t : Nat) (v : Quad) : (setTerm s b t v).icu = s.icu := rfl
@[simp] theorem setTerm_xwait (b t : Nat) (v : Quad) : (setTerm s b t v).xwait = s.xwait := rfl
@[simp] theorem setTerm_xfly (b t : Nat) (v : Quad) : (setTerm s b t v).xfly = s.xfly := rfl
@[simp] theorem setTerm_xback (b t : Nat) (v : Quad) : (setTerm s b t v).xback = s.xback := rfl
@[simp] theorem setTerm_timers (b t : Nat) (v : Quad) : (setTerm s b t v).timers = s.timers := rfl
@[simp] theorem setTerm_armed (b t : Nat) (v : Quad) : (setTerm s b t v).armed = s.armed := rfl
@[simp] theorem setTerm_ctr (b t : Nat) (v : Quad) : (setTerm s b t v).ctr = s.ctr := rfl
@[simp] theorem setTerm_far (b t : Nat) (v : Quad) : (setTerm s b t v).far = s.far := rfl
@[simp] theorem setTerm_chan (b t : Nat) (v : Quad) : (setTerm s b t v).chan = s.chan := rfl
@[simp] theorem setTerm_pool (b t : Nat) (v : Quad) : (setTerm s b t v).pool = s.pool := rfl
@[simp] theorem setTerm_resv (b t : Nat) (v : Quad) : (setTerm s b t v).resv = s.resv := rfl
@[simp] theorem setTerm_areq (b t : Nat) (v : Quad) : (setTerm s b t v).areq = s.areq := rfl
@[simp] theorem setTerm_mr (b t : Nat) (v : Quad) : (setTerm s b t v).mr = s.mr := rfl
@[simp] theorem setTerm_pp (b t : Nat) (v : Quad) : (setTerm s b t v).pp = s.pp := rfl
@[simp] theorem setTerm_mover (b t : Nat) (v : Quad) : (setTerm s b t v).mover = s.mover := rfl
@[simp] theorem setTerm_slot (b t : Nat) (v : Quad) : (setTerm s b t v).slot = s.slot := rfl
@[simp] theorem setTerm_nvByte (b t : Nat) (v : Quad) : (setTerm s b t v).nvByte = s.nvByte := rfl
@[simp] theorem setTerm_cache (b t : Nat) (v : Quad) : (setTerm s b t v).cache = s.cache := rfl
@[simp] theorem setTerm_usb (b t : Nat) (v : Quad) : (setTerm s b t v).usb = s.usb := rfl
@[simp] theorem setTerm_eth (b t : Nat) (v : Quad) : (setTerm s b t v).eth = s.eth := rfl
@[simp] theorem setTerm_uart (b t : Nat) (v : Quad) : (setTerm s b t v).uart = s.uart := rfl
@[simp] theorem setTerm_kx (b t : Nat) (v : Quad) : (setTerm s b t v).kx = s.kx := rfl
@[simp] theorem setTerm_wp (b t : Nat) (v : Quad) : (setTerm s b t v).wp = s.wp := rfl
@[simp] theorem setTerm_spi (b t : Nat) (v : Quad) : (setTerm s b t v).spi = s.spi := rfl
@[simp] theorem setTerm_nv (b t : Nat) (v : Quad) : (setTerm s b t v).nv = s.nv := rfl
@[simp] theorem setTerm_dbg (b t : Nat) (v : Quad) : (setTerm s b t v).dbg = s.dbg := rfl
@[simp] theorem setTerm_mon (b t : Nat) (v : Quad) : (setTerm s b t v).mon = s.mon := rfl
@[simp] theorem setTerm_dbgWorld (b t : Nat) (v : Quad) : (setTerm s b t v).dbgWorld = s.dbgWorld := rfl

@[simp] theorem setToward_pending (b t n : Nat) : (setToward s b t n).pending = s.pending := rfl
@[simp] theorem setToward_time (b t n : Nat) : (setToward s b t n).time = s.time := rfl
@[simp] theorem setToward_cycles (b t n : Nat) : (setToward s b t n).cycles = s.cycles := rfl
@[simp] theorem setToward_fresh (b t n : Nat) : (setToward s b t n).fresh = s.fresh := rfl
@[simp] theorem setToward_io (b t n : Nat) : (setToward s b t n).io = s.io := rfl
@[simp] theorem setToward_shadow (b t n : Nat) : (setToward s b t n).shadow = s.shadow := rfl
@[simp] theorem setToward_staged (b t n : Nat) : (setToward s b t n).staged = s.staged := rfl
@[simp] theorem setToward_dev (b t n : Nat) : (setToward s b t n).dev = s.dev := rfl
@[simp] theorem setToward_thr (b t n : Nat) : (setToward s b t n).thr = s.thr := rfl
@[simp] theorem setToward_pipe (b t n : Nat) : (setToward s b t n).pipe = s.pipe := rfl
@[simp] theorem setToward_lag (b t n : Nat) : (setToward s b t n).lag = s.lag := rfl
@[simp] theorem setToward_near (b t n : Nat) : (setToward s b t n).near = s.near := rfl
@[simp] theorem setToward_bits (b t n : Nat) : (setToward s b t n).bits = s.bits := rfl
@[simp] theorem setToward_iram (b t n : Nat) : (setToward s b t n).iram = s.iram := rfl
@[simp] theorem setToward_retain (b t n : Nat) : (setToward s b t n).retain = s.retain := rfl
@[simp] theorem setToward_pads (b t n : Nat) : (setToward s b t n).pads = s.pads := rfl
@[simp] theorem setToward_fight (b t n : Nat) : (setToward s b t n).fight = s.fight := rfl
@[simp] theorem setToward_icu (b t n : Nat) : (setToward s b t n).icu = s.icu := rfl
@[simp] theorem setToward_xwait (b t n : Nat) : (setToward s b t n).xwait = s.xwait := rfl
@[simp] theorem setToward_xfly (b t n : Nat) : (setToward s b t n).xfly = s.xfly := rfl
@[simp] theorem setToward_xback (b t n : Nat) : (setToward s b t n).xback = s.xback := rfl
@[simp] theorem setToward_timers (b t n : Nat) : (setToward s b t n).timers = s.timers := rfl
@[simp] theorem setToward_armed (b t n : Nat) : (setToward s b t n).armed = s.armed := rfl
@[simp] theorem setToward_ctr (b t n : Nat) : (setToward s b t n).ctr = s.ctr := rfl
@[simp] theorem setToward_far (b t n : Nat) : (setToward s b t n).far = s.far := rfl
@[simp] theorem setToward_chan (b t n : Nat) : (setToward s b t n).chan = s.chan := rfl
@[simp] theorem setToward_pool (b t n : Nat) : (setToward s b t n).pool = s.pool := rfl
@[simp] theorem setToward_resv (b t n : Nat) : (setToward s b t n).resv = s.resv := rfl
@[simp] theorem setToward_areq (b t n : Nat) : (setToward s b t n).areq = s.areq := rfl
@[simp] theorem setToward_mr (b t n : Nat) : (setToward s b t n).mr = s.mr := rfl
@[simp] theorem setToward_pp (b t n : Nat) : (setToward s b t n).pp = s.pp := rfl
@[simp] theorem setToward_mover (b t n : Nat) : (setToward s b t n).mover = s.mover := rfl
@[simp] theorem setToward_slot (b t n : Nat) : (setToward s b t n).slot = s.slot := rfl
@[simp] theorem setToward_nvByte (b t n : Nat) : (setToward s b t n).nvByte = s.nvByte := rfl
@[simp] theorem setToward_cache (b t n : Nat) : (setToward s b t n).cache = s.cache := rfl
@[simp] theorem setToward_usb (b t n : Nat) : (setToward s b t n).usb = s.usb := rfl
@[simp] theorem setToward_eth (b t n : Nat) : (setToward s b t n).eth = s.eth := rfl
@[simp] theorem setToward_uart (b t n : Nat) : (setToward s b t n).uart = s.uart := rfl
@[simp] theorem setToward_kx (b t n : Nat) : (setToward s b t n).kx = s.kx := rfl
@[simp] theorem setToward_wp (b t n : Nat) : (setToward s b t n).wp = s.wp := rfl
@[simp] theorem setToward_spi (b t n : Nat) : (setToward s b t n).spi = s.spi := rfl
@[simp] theorem setToward_nv (b t n : Nat) : (setToward s b t n).nv = s.nv := rfl
@[simp] theorem setToward_dbg (b t n : Nat) : (setToward s b t n).dbg = s.dbg := rfl
@[simp] theorem setToward_mon (b t n : Nat) : (setToward s b t n).mon = s.mon := rfl
@[simp] theorem setToward_dbgWorld (b t n : Nat) : (setToward s b t n).dbgWorld = s.dbgWorld := rfl

@[simp] theorem setDev_pending (d : Dev) : (setDev s d).pending = s.pending := rfl
@[simp] theorem setDev_time (d : Dev) : (setDev s d).time = s.time := rfl
@[simp] theorem setDev_cycles (d : Dev) : (setDev s d).cycles = s.cycles := rfl
@[simp] theorem setDev_fresh (d : Dev) : (setDev s d).fresh = s.fresh := rfl
@[simp] theorem setDev_io (d : Dev) : (setDev s d).io = s.io := rfl
@[simp] theorem setDev_shadow (d : Dev) : (setDev s d).shadow = s.shadow := rfl
@[simp] theorem setDev_staged (d : Dev) : (setDev s d).staged = s.staged := rfl
@[simp] theorem setDev_dev (d : Dev) : (setDev s d).dev = d := rfl
@[simp] theorem setDev_thr (d : Dev) : (setDev s d).thr = s.thr := rfl
@[simp] theorem setDev_pipe (d : Dev) : (setDev s d).pipe = s.pipe := rfl
@[simp] theorem setDev_lag (d : Dev) : (setDev s d).lag = s.lag := rfl
@[simp] theorem setDev_near (d : Dev) : (setDev s d).near = s.near := rfl
@[simp] theorem setDev_bits (d : Dev) : (setDev s d).bits = s.bits := rfl
@[simp] theorem setDev_iram (d : Dev) : (setDev s d).iram = s.iram := rfl
@[simp] theorem setDev_retain (d : Dev) : (setDev s d).retain = s.retain := rfl
@[simp] theorem setDev_pads (d : Dev) : (setDev s d).pads = s.pads := rfl
@[simp] theorem setDev_fight (d : Dev) : (setDev s d).fight = s.fight := rfl
@[simp] theorem setDev_icu (d : Dev) : (setDev s d).icu = s.icu := rfl
@[simp] theorem setDev_xwait (d : Dev) : (setDev s d).xwait = s.xwait := rfl
@[simp] theorem setDev_xfly (d : Dev) : (setDev s d).xfly = s.xfly := rfl
@[simp] theorem setDev_xback (d : Dev) : (setDev s d).xback = s.xback := rfl
@[simp] theorem setDev_timers (d : Dev) : (setDev s d).timers = s.timers := rfl
@[simp] theorem setDev_armed (d : Dev) : (setDev s d).armed = s.armed := rfl
@[simp] theorem setDev_ctr (d : Dev) : (setDev s d).ctr = s.ctr := rfl
@[simp] theorem setDev_led (d : Dev) : (setDev s d).led = s.led := rfl
@[simp] theorem setDev_far (d : Dev) : (setDev s d).far = s.far := rfl
@[simp] theorem setDev_chan (d : Dev) : (setDev s d).chan = s.chan := rfl
@[simp] theorem setDev_pool (d : Dev) : (setDev s d).pool = s.pool := rfl
@[simp] theorem setDev_resv (d : Dev) : (setDev s d).resv = s.resv := rfl
@[simp] theorem setDev_areq (d : Dev) : (setDev s d).areq = s.areq := rfl
@[simp] theorem setDev_mr (d : Dev) : (setDev s d).mr = s.mr := rfl
@[simp] theorem setDev_pp (d : Dev) : (setDev s d).pp = s.pp := rfl
@[simp] theorem setDev_mover (d : Dev) : (setDev s d).mover = s.mover := rfl
@[simp] theorem setDev_slot (d : Dev) : (setDev s d).slot = s.slot := rfl
@[simp] theorem setDev_nvByte (d : Dev) : (setDev s d).nvByte = s.nvByte := rfl
@[simp] theorem setDev_cache (d : Dev) : (setDev s d).cache = s.cache := rfl
@[simp] theorem setDev_usb (d : Dev) : (setDev s d).usb = s.usb := rfl
@[simp] theorem setDev_eth (d : Dev) : (setDev s d).eth = s.eth := rfl
@[simp] theorem setDev_uart (d : Dev) : (setDev s d).uart = s.uart := rfl
@[simp] theorem setDev_kx (d : Dev) : (setDev s d).kx = s.kx := rfl
@[simp] theorem setDev_wp (d : Dev) : (setDev s d).wp = s.wp := rfl
@[simp] theorem setDev_spi (d : Dev) : (setDev s d).spi = s.spi := rfl
@[simp] theorem setDev_nv (d : Dev) : (setDev s d).nv = s.nv := rfl
@[simp] theorem setDev_dbg (d : Dev) : (setDev s d).dbg = s.dbg := rfl
@[simp] theorem setDev_mon (d : Dev) : (setDev s d).mon = s.mon := rfl
@[simp] theorem setDev_dbgWorld (d : Dev) : (setDev s d).dbgWorld = s.dbgWorld := rfl

@[simp] theorem setFar_pending (f : Far) : (setFar s f).pending = s.pending := rfl
@[simp] theorem setFar_time (f : Far) : (setFar s f).time = s.time := rfl
@[simp] theorem setFar_cycles (f : Far) : (setFar s f).cycles = s.cycles := rfl
@[simp] theorem setFar_fresh (f : Far) : (setFar s f).fresh = s.fresh := rfl
@[simp] theorem setFar_io (f : Far) : (setFar s f).io = s.io := rfl
@[simp] theorem setFar_shadow (f : Far) : (setFar s f).shadow = s.shadow := rfl
@[simp] theorem setFar_staged (f : Far) : (setFar s f).staged = s.staged := rfl
@[simp] theorem setFar_dev (f : Far) : (setFar s f).dev = s.dev := rfl
@[simp] theorem setFar_thr (f : Far) : (setFar s f).thr = s.thr := rfl
@[simp] theorem setFar_pipe (f : Far) : (setFar s f).pipe = s.pipe := rfl
@[simp] theorem setFar_lag (f : Far) : (setFar s f).lag = s.lag := rfl
@[simp] theorem setFar_near (f : Far) : (setFar s f).near = s.near := rfl
@[simp] theorem setFar_bits (f : Far) : (setFar s f).bits = s.bits := rfl
@[simp] theorem setFar_iram (f : Far) : (setFar s f).iram = s.iram := rfl
@[simp] theorem setFar_retain (f : Far) : (setFar s f).retain = s.retain := rfl
@[simp] theorem setFar_pads (f : Far) : (setFar s f).pads = s.pads := rfl
@[simp] theorem setFar_fight (f : Far) : (setFar s f).fight = s.fight := rfl
@[simp] theorem setFar_icu (f : Far) : (setFar s f).icu = s.icu := rfl
@[simp] theorem setFar_xwait (f : Far) : (setFar s f).xwait = s.xwait := rfl
@[simp] theorem setFar_xfly (f : Far) : (setFar s f).xfly = s.xfly := rfl
@[simp] theorem setFar_xback (f : Far) : (setFar s f).xback = s.xback := rfl
@[simp] theorem setFar_timers (f : Far) : (setFar s f).timers = s.timers := rfl
@[simp] theorem setFar_armed (f : Far) : (setFar s f).armed = s.armed := rfl
@[simp] theorem setFar_ctr (f : Far) : (setFar s f).ctr = s.ctr := rfl
@[simp] theorem setFar_led (f : Far) : (setFar s f).led = s.led := rfl
@[simp] theorem setFar_far (f : Far) : (setFar s f).far = f := rfl
@[simp] theorem setFar_chan (f : Far) : (setFar s f).chan = s.chan := rfl
@[simp] theorem setFar_pool (f : Far) : (setFar s f).pool = s.pool := rfl
@[simp] theorem setFar_resv (f : Far) : (setFar s f).resv = s.resv := rfl
@[simp] theorem setFar_areq (f : Far) : (setFar s f).areq = s.areq := rfl
@[simp] theorem setFar_mr (f : Far) : (setFar s f).mr = s.mr := rfl
@[simp] theorem setFar_pp (f : Far) : (setFar s f).pp = s.pp := rfl
@[simp] theorem setFar_mover (f : Far) : (setFar s f).mover = s.mover := rfl
@[simp] theorem setFar_slot (f : Far) : (setFar s f).slot = s.slot := rfl
@[simp] theorem setFar_nvByte (f : Far) : (setFar s f).nvByte = s.nvByte := rfl
@[simp] theorem setFar_cache (f : Far) : (setFar s f).cache = s.cache := rfl
@[simp] theorem setFar_usb (f : Far) : (setFar s f).usb = s.usb := rfl
@[simp] theorem setFar_eth (f : Far) : (setFar s f).eth = s.eth := rfl
@[simp] theorem setFar_uart (f : Far) : (setFar s f).uart = s.uart := rfl
@[simp] theorem setFar_kx (f : Far) : (setFar s f).kx = s.kx := rfl
@[simp] theorem setFar_wp (f : Far) : (setFar s f).wp = s.wp := rfl
@[simp] theorem setFar_spi (f : Far) : (setFar s f).spi = s.spi := rfl
@[simp] theorem setFar_nv (f : Far) : (setFar s f).nv = s.nv := rfl
@[simp] theorem setFar_dbg (f : Far) : (setFar s f).dbg = s.dbg := rfl
@[simp] theorem setFar_mon (f : Far) : (setFar s f).mon = s.mon := rfl
@[simp] theorem setFar_dbgWorld (f : Far) : (setFar s f).dbgWorld = s.dbgWorld := rfl

@[simp] theorem setChan_pending (c : Nat) (x : Chan) : (setChan s c x).pending = s.pending := rfl
@[simp] theorem setChan_time (c : Nat) (x : Chan) : (setChan s c x).time = s.time := rfl
@[simp] theorem setChan_cycles (c : Nat) (x : Chan) : (setChan s c x).cycles = s.cycles := rfl
@[simp] theorem setChan_fresh (c : Nat) (x : Chan) : (setChan s c x).fresh = s.fresh := rfl
@[simp] theorem setChan_io (c : Nat) (x : Chan) : (setChan s c x).io = s.io := rfl
@[simp] theorem setChan_shadow (c : Nat) (x : Chan) : (setChan s c x).shadow = s.shadow := rfl
@[simp] theorem setChan_staged (c : Nat) (x : Chan) : (setChan s c x).staged = s.staged := rfl
@[simp] theorem setChan_dev (c : Nat) (x : Chan) : (setChan s c x).dev = s.dev := rfl
@[simp] theorem setChan_thr (c : Nat) (x : Chan) : (setChan s c x).thr = s.thr := rfl
@[simp] theorem setChan_pipe (c : Nat) (x : Chan) : (setChan s c x).pipe = s.pipe := rfl
@[simp] theorem setChan_lag (c : Nat) (x : Chan) : (setChan s c x).lag = s.lag := rfl
@[simp] theorem setChan_near (c : Nat) (x : Chan) : (setChan s c x).near = s.near := rfl
@[simp] theorem setChan_bits (c : Nat) (x : Chan) : (setChan s c x).bits = s.bits := rfl
@[simp] theorem setChan_iram (c : Nat) (x : Chan) : (setChan s c x).iram = s.iram := rfl
@[simp] theorem setChan_retain (c : Nat) (x : Chan) : (setChan s c x).retain = s.retain := rfl
@[simp] theorem setChan_pads (c : Nat) (x : Chan) : (setChan s c x).pads = s.pads := rfl
@[simp] theorem setChan_fight (c : Nat) (x : Chan) : (setChan s c x).fight = s.fight := rfl
@[simp] theorem setChan_icu (c : Nat) (x : Chan) : (setChan s c x).icu = s.icu := rfl
@[simp] theorem setChan_xwait (c : Nat) (x : Chan) : (setChan s c x).xwait = s.xwait := rfl
@[simp] theorem setChan_xfly (c : Nat) (x : Chan) : (setChan s c x).xfly = s.xfly := rfl
@[simp] theorem setChan_xback (c : Nat) (x : Chan) : (setChan s c x).xback = s.xback := rfl
@[simp] theorem setChan_timers (c : Nat) (x : Chan) : (setChan s c x).timers = s.timers := rfl
@[simp] theorem setChan_armed (c : Nat) (x : Chan) : (setChan s c x).armed = s.armed := rfl
@[simp] theorem setChan_ctr (c : Nat) (x : Chan) : (setChan s c x).ctr = s.ctr := rfl
@[simp] theorem setChan_led (c : Nat) (x : Chan) : (setChan s c x).led = s.led := rfl
@[simp] theorem setChan_far (c : Nat) (x : Chan) : (setChan s c x).far = s.far := rfl
@[simp] theorem setChan_pool (c : Nat) (x : Chan) : (setChan s c x).pool = s.pool := rfl
@[simp] theorem setChan_resv (c : Nat) (x : Chan) : (setChan s c x).resv = s.resv := rfl
@[simp] theorem setChan_areq (c : Nat) (x : Chan) : (setChan s c x).areq = s.areq := rfl
@[simp] theorem setChan_mr (c : Nat) (x : Chan) : (setChan s c x).mr = s.mr := rfl
@[simp] theorem setChan_pp (c : Nat) (x : Chan) : (setChan s c x).pp = s.pp := rfl
@[simp] theorem setChan_mover (c : Nat) (x : Chan) : (setChan s c x).mover = s.mover := rfl
@[simp] theorem setChan_slot (c : Nat) (x : Chan) : (setChan s c x).slot = s.slot := rfl
@[simp] theorem setChan_nvByte (c : Nat) (x : Chan) : (setChan s c x).nvByte = s.nvByte := rfl
@[simp] theorem setChan_cache (c : Nat) (x : Chan) : (setChan s c x).cache = s.cache := rfl
@[simp] theorem setChan_usb (c : Nat) (x : Chan) : (setChan s c x).usb = s.usb := rfl
@[simp] theorem setChan_eth (c : Nat) (x : Chan) : (setChan s c x).eth = s.eth := rfl
@[simp] theorem setChan_uart (c : Nat) (x : Chan) : (setChan s c x).uart = s.uart := rfl
@[simp] theorem setChan_kx (c : Nat) (x : Chan) : (setChan s c x).kx = s.kx := rfl
@[simp] theorem setChan_wp (c : Nat) (x : Chan) : (setChan s c x).wp = s.wp := rfl
@[simp] theorem setChan_spi (c : Nat) (x : Chan) : (setChan s c x).spi = s.spi := rfl
@[simp] theorem setChan_nv (c : Nat) (x : Chan) : (setChan s c x).nv = s.nv := rfl
@[simp] theorem setChan_dbg (c : Nat) (x : Chan) : (setChan s c x).dbg = s.dbg := rfl
@[simp] theorem setChan_mon (c : Nat) (x : Chan) : (setChan s c x).mon = s.mon := rfl
@[simp] theorem setChan_dbgWorld (c : Nat) (x : Chan) : (setChan s c x).dbgWorld = s.dbgWorld := rfl

@[simp] theorem setSlot_pending (u : Nat) (x : Option Slot) : (setSlot s u x).pending = s.pending := rfl
@[simp] theorem setSlot_time (u : Nat) (x : Option Slot) : (setSlot s u x).time = s.time := rfl
@[simp] theorem setSlot_cycles (u : Nat) (x : Option Slot) : (setSlot s u x).cycles = s.cycles := rfl
@[simp] theorem setSlot_fresh (u : Nat) (x : Option Slot) : (setSlot s u x).fresh = s.fresh := rfl
@[simp] theorem setSlot_io (u : Nat) (x : Option Slot) : (setSlot s u x).io = s.io := rfl
@[simp] theorem setSlot_shadow (u : Nat) (x : Option Slot) : (setSlot s u x).shadow = s.shadow := rfl
@[simp] theorem setSlot_staged (u : Nat) (x : Option Slot) : (setSlot s u x).staged = s.staged := rfl
@[simp] theorem setSlot_dev (u : Nat) (x : Option Slot) : (setSlot s u x).dev = s.dev := rfl
@[simp] theorem setSlot_thr (u : Nat) (x : Option Slot) : (setSlot s u x).thr = s.thr := rfl
@[simp] theorem setSlot_pipe (u : Nat) (x : Option Slot) : (setSlot s u x).pipe = s.pipe := rfl
@[simp] theorem setSlot_lag (u : Nat) (x : Option Slot) : (setSlot s u x).lag = s.lag := rfl
@[simp] theorem setSlot_near (u : Nat) (x : Option Slot) : (setSlot s u x).near = s.near := rfl
@[simp] theorem setSlot_bits (u : Nat) (x : Option Slot) : (setSlot s u x).bits = s.bits := rfl
@[simp] theorem setSlot_iram (u : Nat) (x : Option Slot) : (setSlot s u x).iram = s.iram := rfl
@[simp] theorem setSlot_retain (u : Nat) (x : Option Slot) : (setSlot s u x).retain = s.retain := rfl
@[simp] theorem setSlot_pads (u : Nat) (x : Option Slot) : (setSlot s u x).pads = s.pads := rfl
@[simp] theorem setSlot_fight (u : Nat) (x : Option Slot) : (setSlot s u x).fight = s.fight := rfl
@[simp] theorem setSlot_icu (u : Nat) (x : Option Slot) : (setSlot s u x).icu = s.icu := rfl
@[simp] theorem setSlot_xwait (u : Nat) (x : Option Slot) : (setSlot s u x).xwait = s.xwait := rfl
@[simp] theorem setSlot_xfly (u : Nat) (x : Option Slot) : (setSlot s u x).xfly = s.xfly := rfl
@[simp] theorem setSlot_xback (u : Nat) (x : Option Slot) : (setSlot s u x).xback = s.xback := rfl
@[simp] theorem setSlot_timers (u : Nat) (x : Option Slot) : (setSlot s u x).timers = s.timers := rfl
@[simp] theorem setSlot_armed (u : Nat) (x : Option Slot) : (setSlot s u x).armed = s.armed := rfl
@[simp] theorem setSlot_ctr (u : Nat) (x : Option Slot) : (setSlot s u x).ctr = s.ctr := rfl
@[simp] theorem setSlot_led (u : Nat) (x : Option Slot) : (setSlot s u x).led = s.led := rfl
@[simp] theorem setSlot_far (u : Nat) (x : Option Slot) : (setSlot s u x).far = s.far := rfl
@[simp] theorem setSlot_chan (u : Nat) (x : Option Slot) : (setSlot s u x).chan = s.chan := rfl
@[simp] theorem setSlot_pool (u : Nat) (x : Option Slot) : (setSlot s u x).pool = s.pool := rfl
@[simp] theorem setSlot_resv (u : Nat) (x : Option Slot) : (setSlot s u x).resv = s.resv := rfl
@[simp] theorem setSlot_areq (u : Nat) (x : Option Slot) : (setSlot s u x).areq = s.areq := rfl
@[simp] theorem setSlot_mr (u : Nat) (x : Option Slot) : (setSlot s u x).mr = s.mr := rfl
@[simp] theorem setSlot_pp (u : Nat) (x : Option Slot) : (setSlot s u x).pp = s.pp := rfl
@[simp] theorem setSlot_mover (u : Nat) (x : Option Slot) : (setSlot s u x).mover = s.mover := rfl
@[simp] theorem setSlot_nvByte (u : Nat) (x : Option Slot) : (setSlot s u x).nvByte = s.nvByte := rfl
@[simp] theorem setSlot_cache (u : Nat) (x : Option Slot) : (setSlot s u x).cache = s.cache := rfl
@[simp] theorem setSlot_usb (u : Nat) (x : Option Slot) : (setSlot s u x).usb = s.usb := rfl
@[simp] theorem setSlot_eth (u : Nat) (x : Option Slot) : (setSlot s u x).eth = s.eth := rfl
@[simp] theorem setSlot_uart (u : Nat) (x : Option Slot) : (setSlot s u x).uart = s.uart := rfl
@[simp] theorem setSlot_kx (u : Nat) (x : Option Slot) : (setSlot s u x).kx = s.kx := rfl
@[simp] theorem setSlot_wp (u : Nat) (x : Option Slot) : (setSlot s u x).wp = s.wp := rfl
@[simp] theorem setSlot_spi (u : Nat) (x : Option Slot) : (setSlot s u x).spi = s.spi := rfl
@[simp] theorem setSlot_nv (u : Nat) (x : Option Slot) : (setSlot s u x).nv = s.nv := rfl
@[simp] theorem setSlot_dbg (u : Nat) (x : Option Slot) : (setSlot s u x).dbg = s.dbg := rfl
@[simp] theorem setSlot_mon (u : Nat) (x : Option Slot) : (setSlot s u x).mon = s.mon := rfl
@[simp] theorem setSlot_dbgWorld (u : Nat) (x : Option Slot) : (setSlot s u x).dbgWorld = s.dbgWorld := rfl

@[simp] theorem capture_pending (q : Nat) (r : Rg) (i : Nat) (v : Quad) : (capture s q r i v).pending = s.pending := rfl
@[simp] theorem capture_time (q : Nat) (r : Rg) (i : Nat) (v : Quad) : (capture s q r i v).time = s.time := rfl
@[simp] theorem capture_cycles (q : Nat) (r : Rg) (i : Nat) (v : Quad) : (capture s q r i v).cycles = s.cycles := rfl
@[simp] theorem capture_fresh (q : Nat) (r : Rg) (i : Nat) (v : Quad) : (capture s q r i v).fresh = s.fresh := rfl
@[simp] theorem capture_io (q : Nat) (r : Rg) (i : Nat) (v : Quad) : (capture s q r i v).io = s.io := rfl
@[simp] theorem capture_staged (q : Nat) (r : Rg) (i : Nat) (v : Quad) : (capture s q r i v).staged = s.staged := rfl
@[simp] theorem capture_dev (q : Nat) (r : Rg) (i : Nat) (v : Quad) : (capture s q r i v).dev = s.dev := rfl
@[simp] theorem capture_thr (q : Nat) (r : Rg) (i : Nat) (v : Quad) : (capture s q r i v).thr = s.thr := rfl
@[simp] theorem capture_pipe (q : Nat) (r : Rg) (i : Nat) (v : Quad) : (capture s q r i v).pipe = s.pipe := rfl
@[simp] theorem capture_lag (q : Nat) (r : Rg) (i : Nat) (v : Quad) : (capture s q r i v).lag = s.lag := rfl
@[simp] theorem capture_near (q : Nat) (r : Rg) (i : Nat) (v : Quad) : (capture s q r i v).near = s.near := rfl
@[simp] theorem capture_bits (q : Nat) (r : Rg) (i : Nat) (v : Quad) : (capture s q r i v).bits = s.bits := rfl
@[simp] theorem capture_iram (q : Nat) (r : Rg) (i : Nat) (v : Quad) : (capture s q r i v).iram = s.iram := rfl
@[simp] theorem capture_retain (q : Nat) (r : Rg) (i : Nat) (v : Quad) : (capture s q r i v).retain = s.retain := rfl
@[simp] theorem capture_pads (q : Nat) (r : Rg) (i : Nat) (v : Quad) : (capture s q r i v).pads = s.pads := rfl
@[simp] theorem capture_fight (q : Nat) (r : Rg) (i : Nat) (v : Quad) : (capture s q r i v).fight = s.fight := rfl
@[simp] theorem capture_icu (q : Nat) (r : Rg) (i : Nat) (v : Quad) : (capture s q r i v).icu = s.icu := rfl
@[simp] theorem capture_xwait (q : Nat) (r : Rg) (i : Nat) (v : Quad) : (capture s q r i v).xwait = s.xwait := rfl
@[simp] theorem capture_xfly (q : Nat) (r : Rg) (i : Nat) (v : Quad) : (capture s q r i v).xfly = s.xfly := rfl
@[simp] theorem capture_xback (q : Nat) (r : Rg) (i : Nat) (v : Quad) : (capture s q r i v).xback = s.xback := rfl
@[simp] theorem capture_timers (q : Nat) (r : Rg) (i : Nat) (v : Quad) : (capture s q r i v).timers = s.timers := rfl
@[simp] theorem capture_armed (q : Nat) (r : Rg) (i : Nat) (v : Quad) : (capture s q r i v).armed = s.armed := rfl
@[simp] theorem capture_ctr (q : Nat) (r : Rg) (i : Nat) (v : Quad) : (capture s q r i v).ctr = s.ctr := rfl
@[simp] theorem capture_led (q : Nat) (r : Rg) (i : Nat) (v : Quad) : (capture s q r i v).led = s.led := rfl
@[simp] theorem capture_far (q : Nat) (r : Rg) (i : Nat) (v : Quad) : (capture s q r i v).far = s.far := rfl
@[simp] theorem capture_chan (q : Nat) (r : Rg) (i : Nat) (v : Quad) : (capture s q r i v).chan = s.chan := rfl
@[simp] theorem capture_pool (q : Nat) (r : Rg) (i : Nat) (v : Quad) : (capture s q r i v).pool = s.pool := rfl
@[simp] theorem capture_resv (q : Nat) (r : Rg) (i : Nat) (v : Quad) : (capture s q r i v).resv = s.resv := rfl
@[simp] theorem capture_areq (q : Nat) (r : Rg) (i : Nat) (v : Quad) : (capture s q r i v).areq = s.areq := rfl
@[simp] theorem capture_mr (q : Nat) (r : Rg) (i : Nat) (v : Quad) : (capture s q r i v).mr = s.mr := rfl
@[simp] theorem capture_pp (q : Nat) (r : Rg) (i : Nat) (v : Quad) : (capture s q r i v).pp = s.pp := rfl
@[simp] theorem capture_mover (q : Nat) (r : Rg) (i : Nat) (v : Quad) : (capture s q r i v).mover = s.mover := rfl
@[simp] theorem capture_slot (q : Nat) (r : Rg) (i : Nat) (v : Quad) : (capture s q r i v).slot = s.slot := rfl
@[simp] theorem capture_nvByte (q : Nat) (r : Rg) (i : Nat) (v : Quad) : (capture s q r i v).nvByte = s.nvByte := rfl
@[simp] theorem capture_cache (q : Nat) (r : Rg) (i : Nat) (v : Quad) : (capture s q r i v).cache = s.cache := rfl
@[simp] theorem capture_usb (q : Nat) (r : Rg) (i : Nat) (v : Quad) : (capture s q r i v).usb = s.usb := rfl
@[simp] theorem capture_eth (q : Nat) (r : Rg) (i : Nat) (v : Quad) : (capture s q r i v).eth = s.eth := rfl
@[simp] theorem capture_uart (q : Nat) (r : Rg) (i : Nat) (v : Quad) : (capture s q r i v).uart = s.uart := rfl
@[simp] theorem capture_kx (q : Nat) (r : Rg) (i : Nat) (v : Quad) : (capture s q r i v).kx = s.kx := rfl
@[simp] theorem capture_wp (q : Nat) (r : Rg) (i : Nat) (v : Quad) : (capture s q r i v).wp = s.wp := rfl
@[simp] theorem capture_spi (q : Nat) (r : Rg) (i : Nat) (v : Quad) : (capture s q r i v).spi = s.spi := rfl
@[simp] theorem capture_nv (q : Nat) (r : Rg) (i : Nat) (v : Quad) : (capture s q r i v).nv = s.nv := rfl
@[simp] theorem capture_dbg (q : Nat) (r : Rg) (i : Nat) (v : Quad) : (capture s q r i v).dbg = s.dbg := rfl
@[simp] theorem capture_mon (q : Nat) (r : Rg) (i : Nat) (v : Quad) : (capture s q r i v).mon = s.mon := rfl
@[simp] theorem capture_dbgWorld (q : Nat) (r : Rg) (i : Nat) (v : Quad) : (capture s q r i v).dbgWorld = s.dbgWorld := rfl

@[simp] theorem setIcu_pending (x : Icu) : (setIcu s x).pending = s.pending := rfl
@[simp] theorem setIcu_time (x : Icu) : (setIcu s x).time = s.time := rfl
@[simp] theorem setIcu_cycles (x : Icu) : (setIcu s x).cycles = s.cycles := rfl
@[simp] theorem setIcu_fresh (x : Icu) : (setIcu s x).fresh = s.fresh := rfl
@[simp] theorem setIcu_io (x : Icu) : (setIcu s x).io = s.io := rfl
@[simp] theorem setIcu_shadow (x : Icu) : (setIcu s x).shadow = s.shadow := rfl
@[simp] theorem setIcu_staged (x : Icu) : (setIcu s x).staged = s.staged := rfl
@[simp] theorem setIcu_dev (x : Icu) : (setIcu s x).dev = s.dev := rfl
@[simp] theorem setIcu_thr (x : Icu) : (setIcu s x).thr = s.thr := rfl
@[simp] theorem setIcu_pipe (x : Icu) : (setIcu s x).pipe = s.pipe := rfl
@[simp] theorem setIcu_lag (x : Icu) : (setIcu s x).lag = s.lag := rfl
@[simp] theorem setIcu_near (x : Icu) : (setIcu s x).near = s.near := rfl
@[simp] theorem setIcu_bits (x : Icu) : (setIcu s x).bits = s.bits := rfl
@[simp] theorem setIcu_iram (x : Icu) : (setIcu s x).iram = s.iram := rfl
@[simp] theorem setIcu_retain (x : Icu) : (setIcu s x).retain = s.retain := rfl
@[simp] theorem setIcu_pads (x : Icu) : (setIcu s x).pads = s.pads := rfl
@[simp] theorem setIcu_fight (x : Icu) : (setIcu s x).fight = s.fight := rfl
@[simp] theorem setIcu_icu (x : Icu) : (setIcu s x).icu = x := rfl
@[simp] theorem setIcu_xwait (x : Icu) : (setIcu s x).xwait = s.xwait := rfl
@[simp] theorem setIcu_xfly (x : Icu) : (setIcu s x).xfly = s.xfly := rfl
@[simp] theorem setIcu_xback (x : Icu) : (setIcu s x).xback = s.xback := rfl
@[simp] theorem setIcu_timers (x : Icu) : (setIcu s x).timers = s.timers := rfl
@[simp] theorem setIcu_armed (x : Icu) : (setIcu s x).armed = s.armed := rfl
@[simp] theorem setIcu_ctr (x : Icu) : (setIcu s x).ctr = s.ctr := rfl
@[simp] theorem setIcu_led (x : Icu) : (setIcu s x).led = s.led := rfl
@[simp] theorem setIcu_far (x : Icu) : (setIcu s x).far = s.far := rfl
@[simp] theorem setIcu_chan (x : Icu) : (setIcu s x).chan = s.chan := rfl
@[simp] theorem setIcu_pool (x : Icu) : (setIcu s x).pool = s.pool := rfl
@[simp] theorem setIcu_resv (x : Icu) : (setIcu s x).resv = s.resv := rfl
@[simp] theorem setIcu_areq (x : Icu) : (setIcu s x).areq = s.areq := rfl
@[simp] theorem setIcu_mr (x : Icu) : (setIcu s x).mr = s.mr := rfl
@[simp] theorem setIcu_pp (x : Icu) : (setIcu s x).pp = s.pp := rfl
@[simp] theorem setIcu_mover (x : Icu) : (setIcu s x).mover = s.mover := rfl
@[simp] theorem setIcu_slot (x : Icu) : (setIcu s x).slot = s.slot := rfl
@[simp] theorem setIcu_nvByte (x : Icu) : (setIcu s x).nvByte = s.nvByte := rfl
@[simp] theorem setIcu_cache (x : Icu) : (setIcu s x).cache = s.cache := rfl
@[simp] theorem setIcu_usb (x : Icu) : (setIcu s x).usb = s.usb := rfl
@[simp] theorem setIcu_eth (x : Icu) : (setIcu s x).eth = s.eth := rfl
@[simp] theorem setIcu_uart (x : Icu) : (setIcu s x).uart = s.uart := rfl
@[simp] theorem setIcu_kx (x : Icu) : (setIcu s x).kx = s.kx := rfl
@[simp] theorem setIcu_wp (x : Icu) : (setIcu s x).wp = s.wp := rfl
@[simp] theorem setIcu_spi (x : Icu) : (setIcu s x).spi = s.spi := rfl
@[simp] theorem setIcu_nv (x : Icu) : (setIcu s x).nv = s.nv := rfl
@[simp] theorem setIcu_dbg (x : Icu) : (setIcu s x).dbg = s.dbg := rfl
@[simp] theorem setIcu_mon (x : Icu) : (setIcu s x).mon = s.mon := rfl
@[simp] theorem setIcu_dbgWorld (x : Icu) : (setIcu s x).dbgWorld = s.dbgWorld := rfl

@[simp] theorem setMr_pending (x : Mr) : (setMr s x).pending = s.pending := rfl
@[simp] theorem setMr_time (x : Mr) : (setMr s x).time = s.time := rfl
@[simp] theorem setMr_cycles (x : Mr) : (setMr s x).cycles = s.cycles := rfl
@[simp] theorem setMr_fresh (x : Mr) : (setMr s x).fresh = s.fresh := rfl
@[simp] theorem setMr_io (x : Mr) : (setMr s x).io = s.io := rfl
@[simp] theorem setMr_shadow (x : Mr) : (setMr s x).shadow = s.shadow := rfl
@[simp] theorem setMr_staged (x : Mr) : (setMr s x).staged = s.staged := rfl
@[simp] theorem setMr_dev (x : Mr) : (setMr s x).dev = s.dev := rfl
@[simp] theorem setMr_thr (x : Mr) : (setMr s x).thr = s.thr := rfl
@[simp] theorem setMr_pipe (x : Mr) : (setMr s x).pipe = s.pipe := rfl
@[simp] theorem setMr_lag (x : Mr) : (setMr s x).lag = s.lag := rfl
@[simp] theorem setMr_near (x : Mr) : (setMr s x).near = s.near := rfl
@[simp] theorem setMr_bits (x : Mr) : (setMr s x).bits = s.bits := rfl
@[simp] theorem setMr_iram (x : Mr) : (setMr s x).iram = s.iram := rfl
@[simp] theorem setMr_retain (x : Mr) : (setMr s x).retain = s.retain := rfl
@[simp] theorem setMr_pads (x : Mr) : (setMr s x).pads = s.pads := rfl
@[simp] theorem setMr_fight (x : Mr) : (setMr s x).fight = s.fight := rfl
@[simp] theorem setMr_icu (x : Mr) : (setMr s x).icu = s.icu := rfl
@[simp] theorem setMr_xwait (x : Mr) : (setMr s x).xwait = s.xwait := rfl
@[simp] theorem setMr_xfly (x : Mr) : (setMr s x).xfly = s.xfly := rfl
@[simp] theorem setMr_xback (x : Mr) : (setMr s x).xback = s.xback := rfl
@[simp] theorem setMr_timers (x : Mr) : (setMr s x).timers = s.timers := rfl
@[simp] theorem setMr_armed (x : Mr) : (setMr s x).armed = s.armed := rfl
@[simp] theorem setMr_ctr (x : Mr) : (setMr s x).ctr = s.ctr := rfl
@[simp] theorem setMr_led (x : Mr) : (setMr s x).led = s.led := rfl
@[simp] theorem setMr_far (x : Mr) : (setMr s x).far = s.far := rfl
@[simp] theorem setMr_chan (x : Mr) : (setMr s x).chan = s.chan := rfl
@[simp] theorem setMr_pool (x : Mr) : (setMr s x).pool = s.pool := rfl
@[simp] theorem setMr_resv (x : Mr) : (setMr s x).resv = s.resv := rfl
@[simp] theorem setMr_areq (x : Mr) : (setMr s x).areq = s.areq := rfl
@[simp] theorem setMr_mr (x : Mr) : (setMr s x).mr = x := rfl
@[simp] theorem setMr_pp (x : Mr) : (setMr s x).pp = s.pp := rfl
@[simp] theorem setMr_mover (x : Mr) : (setMr s x).mover = s.mover := rfl
@[simp] theorem setMr_slot (x : Mr) : (setMr s x).slot = s.slot := rfl
@[simp] theorem setMr_nvByte (x : Mr) : (setMr s x).nvByte = s.nvByte := rfl
@[simp] theorem setMr_cache (x : Mr) : (setMr s x).cache = s.cache := rfl
@[simp] theorem setMr_usb (x : Mr) : (setMr s x).usb = s.usb := rfl
@[simp] theorem setMr_eth (x : Mr) : (setMr s x).eth = s.eth := rfl
@[simp] theorem setMr_uart (x : Mr) : (setMr s x).uart = s.uart := rfl
@[simp] theorem setMr_kx (x : Mr) : (setMr s x).kx = s.kx := rfl
@[simp] theorem setMr_wp (x : Mr) : (setMr s x).wp = s.wp := rfl
@[simp] theorem setMr_spi (x : Mr) : (setMr s x).spi = s.spi := rfl
@[simp] theorem setMr_nv (x : Mr) : (setMr s x).nv = s.nv := rfl
@[simp] theorem setMr_dbg (x : Mr) : (setMr s x).dbg = s.dbg := rfl
@[simp] theorem setMr_mon (x : Mr) : (setMr s x).mon = s.mon := rfl
@[simp] theorem setMr_dbgWorld (x : Mr) : (setMr s x).dbgWorld = s.dbgWorld := rfl

@[simp] theorem setPp_pending (x : Paper) : (setPp s x).pending = s.pending := rfl
@[simp] theorem setPp_time (x : Paper) : (setPp s x).time = s.time := rfl
@[simp] theorem setPp_cycles (x : Paper) : (setPp s x).cycles = s.cycles := rfl
@[simp] theorem setPp_fresh (x : Paper) : (setPp s x).fresh = s.fresh := rfl
@[simp] theorem setPp_io (x : Paper) : (setPp s x).io = s.io := rfl
@[simp] theorem setPp_shadow (x : Paper) : (setPp s x).shadow = s.shadow := rfl
@[simp] theorem setPp_staged (x : Paper) : (setPp s x).staged = s.staged := rfl
@[simp] theorem setPp_dev (x : Paper) : (setPp s x).dev = s.dev := rfl
@[simp] theorem setPp_thr (x : Paper) : (setPp s x).thr = s.thr := rfl
@[simp] theorem setPp_pipe (x : Paper) : (setPp s x).pipe = s.pipe := rfl
@[simp] theorem setPp_lag (x : Paper) : (setPp s x).lag = s.lag := rfl
@[simp] theorem setPp_near (x : Paper) : (setPp s x).near = s.near := rfl
@[simp] theorem setPp_bits (x : Paper) : (setPp s x).bits = s.bits := rfl
@[simp] theorem setPp_iram (x : Paper) : (setPp s x).iram = s.iram := rfl
@[simp] theorem setPp_retain (x : Paper) : (setPp s x).retain = s.retain := rfl
@[simp] theorem setPp_pads (x : Paper) : (setPp s x).pads = s.pads := rfl
@[simp] theorem setPp_fight (x : Paper) : (setPp s x).fight = s.fight := rfl
@[simp] theorem setPp_icu (x : Paper) : (setPp s x).icu = s.icu := rfl
@[simp] theorem setPp_xwait (x : Paper) : (setPp s x).xwait = s.xwait := rfl
@[simp] theorem setPp_xfly (x : Paper) : (setPp s x).xfly = s.xfly := rfl
@[simp] theorem setPp_xback (x : Paper) : (setPp s x).xback = s.xback := rfl
@[simp] theorem setPp_timers (x : Paper) : (setPp s x).timers = s.timers := rfl
@[simp] theorem setPp_armed (x : Paper) : (setPp s x).armed = s.armed := rfl
@[simp] theorem setPp_ctr (x : Paper) : (setPp s x).ctr = s.ctr := rfl
@[simp] theorem setPp_led (x : Paper) : (setPp s x).led = s.led := rfl
@[simp] theorem setPp_far (x : Paper) : (setPp s x).far = s.far := rfl
@[simp] theorem setPp_chan (x : Paper) : (setPp s x).chan = s.chan := rfl
@[simp] theorem setPp_pool (x : Paper) : (setPp s x).pool = s.pool := rfl
@[simp] theorem setPp_resv (x : Paper) : (setPp s x).resv = s.resv := rfl
@[simp] theorem setPp_areq (x : Paper) : (setPp s x).areq = s.areq := rfl
@[simp] theorem setPp_mr (x : Paper) : (setPp s x).mr = s.mr := rfl
@[simp] theorem setPp_pp (x : Paper) : (setPp s x).pp = x := rfl
@[simp] theorem setPp_mover (x : Paper) : (setPp s x).mover = s.mover := rfl
@[simp] theorem setPp_slot (x : Paper) : (setPp s x).slot = s.slot := rfl
@[simp] theorem setPp_nvByte (x : Paper) : (setPp s x).nvByte = s.nvByte := rfl
@[simp] theorem setPp_cache (x : Paper) : (setPp s x).cache = s.cache := rfl
@[simp] theorem setPp_usb (x : Paper) : (setPp s x).usb = s.usb := rfl
@[simp] theorem setPp_eth (x : Paper) : (setPp s x).eth = s.eth := rfl
@[simp] theorem setPp_uart (x : Paper) : (setPp s x).uart = s.uart := rfl
@[simp] theorem setPp_kx (x : Paper) : (setPp s x).kx = s.kx := rfl
@[simp] theorem setPp_wp (x : Paper) : (setPp s x).wp = s.wp := rfl
@[simp] theorem setPp_spi (x : Paper) : (setPp s x).spi = s.spi := rfl
@[simp] theorem setPp_nv (x : Paper) : (setPp s x).nv = s.nv := rfl
@[simp] theorem setPp_dbg (x : Paper) : (setPp s x).dbg = s.dbg := rfl
@[simp] theorem setPp_mon (x : Paper) : (setPp s x).mon = s.mon := rfl
@[simp] theorem setPp_dbgWorld (x : Paper) : (setPp s x).dbgWorld = s.dbgWorld := rfl

@[simp] theorem setFd_pending (x : Feeder) : (setFd s x).pending = s.pending := rfl
@[simp] theorem setFd_time (x : Feeder) : (setFd s x).time = s.time := rfl
@[simp] theorem setFd_cycles (x : Feeder) : (setFd s x).cycles = s.cycles := rfl
@[simp] theorem setFd_fresh (x : Feeder) : (setFd s x).fresh = s.fresh := rfl
@[simp] theorem setFd_io (x : Feeder) : (setFd s x).io = s.io := rfl
@[simp] theorem setFd_shadow (x : Feeder) : (setFd s x).shadow = s.shadow := rfl
@[simp] theorem setFd_staged (x : Feeder) : (setFd s x).staged = s.staged := rfl
@[simp] theorem setFd_dev (x : Feeder) : (setFd s x).dev = s.dev := rfl
@[simp] theorem setFd_thr (x : Feeder) : (setFd s x).thr = s.thr := rfl
@[simp] theorem setFd_pipe (x : Feeder) : (setFd s x).pipe = s.pipe := rfl
@[simp] theorem setFd_lag (x : Feeder) : (setFd s x).lag = s.lag := rfl
@[simp] theorem setFd_near (x : Feeder) : (setFd s x).near = s.near := rfl
@[simp] theorem setFd_bits (x : Feeder) : (setFd s x).bits = s.bits := rfl
@[simp] theorem setFd_iram (x : Feeder) : (setFd s x).iram = s.iram := rfl
@[simp] theorem setFd_retain (x : Feeder) : (setFd s x).retain = s.retain := rfl
@[simp] theorem setFd_pads (x : Feeder) : (setFd s x).pads = s.pads := rfl
@[simp] theorem setFd_fight (x : Feeder) : (setFd s x).fight = s.fight := rfl
@[simp] theorem setFd_icu (x : Feeder) : (setFd s x).icu = s.icu := rfl
@[simp] theorem setFd_xwait (x : Feeder) : (setFd s x).xwait = s.xwait := rfl
@[simp] theorem setFd_xfly (x : Feeder) : (setFd s x).xfly = s.xfly := rfl
@[simp] theorem setFd_xback (x : Feeder) : (setFd s x).xback = s.xback := rfl
@[simp] theorem setFd_timers (x : Feeder) : (setFd s x).timers = s.timers := rfl
@[simp] theorem setFd_armed (x : Feeder) : (setFd s x).armed = s.armed := rfl
@[simp] theorem setFd_ctr (x : Feeder) : (setFd s x).ctr = s.ctr := rfl
@[simp] theorem setFd_led (x : Feeder) : (setFd s x).led = s.led := rfl
@[simp] theorem setFd_far (x : Feeder) : (setFd s x).far = s.far := rfl
@[simp] theorem setFd_chan (x : Feeder) : (setFd s x).chan = s.chan := rfl
@[simp] theorem setFd_pool (x : Feeder) : (setFd s x).pool = s.pool := rfl
@[simp] theorem setFd_resv (x : Feeder) : (setFd s x).resv = s.resv := rfl
@[simp] theorem setFd_areq (x : Feeder) : (setFd s x).areq = s.areq := rfl
@[simp] theorem setFd_mr (x : Feeder) : (setFd s x).mr = s.mr := rfl
@[simp] theorem setFd_mover (x : Feeder) : (setFd s x).mover = s.mover := rfl
@[simp] theorem setFd_slot (x : Feeder) : (setFd s x).slot = s.slot := rfl
@[simp] theorem setFd_nvByte (x : Feeder) : (setFd s x).nvByte = s.nvByte := rfl
@[simp] theorem setFd_cache (x : Feeder) : (setFd s x).cache = s.cache := rfl
@[simp] theorem setFd_usb (x : Feeder) : (setFd s x).usb = s.usb := rfl
@[simp] theorem setFd_eth (x : Feeder) : (setFd s x).eth = s.eth := rfl
@[simp] theorem setFd_uart (x : Feeder) : (setFd s x).uart = s.uart := rfl
@[simp] theorem setFd_kx (x : Feeder) : (setFd s x).kx = s.kx := rfl
@[simp] theorem setFd_wp (x : Feeder) : (setFd s x).wp = s.wp := rfl
@[simp] theorem setFd_spi (x : Feeder) : (setFd s x).spi = s.spi := rfl
@[simp] theorem setFd_nv (x : Feeder) : (setFd s x).nv = s.nv := rfl
@[simp] theorem setFd_dbg (x : Feeder) : (setFd s x).dbg = s.dbg := rfl
@[simp] theorem setFd_mon (x : Feeder) : (setFd s x).mon = s.mon := rfl
@[simp] theorem setFd_dbgWorld (x : Feeder) : (setFd s x).dbgWorld = s.dbgWorld := rfl

@[simp] theorem setUsb_pending (x : Usb) : (setUsb s x).pending = s.pending := rfl
@[simp] theorem setUsb_time (x : Usb) : (setUsb s x).time = s.time := rfl
@[simp] theorem setUsb_cycles (x : Usb) : (setUsb s x).cycles = s.cycles := rfl
@[simp] theorem setUsb_fresh (x : Usb) : (setUsb s x).fresh = s.fresh := rfl
@[simp] theorem setUsb_io (x : Usb) : (setUsb s x).io = s.io := rfl
@[simp] theorem setUsb_shadow (x : Usb) : (setUsb s x).shadow = s.shadow := rfl
@[simp] theorem setUsb_staged (x : Usb) : (setUsb s x).staged = s.staged := rfl
@[simp] theorem setUsb_dev (x : Usb) : (setUsb s x).dev = s.dev := rfl
@[simp] theorem setUsb_thr (x : Usb) : (setUsb s x).thr = s.thr := rfl
@[simp] theorem setUsb_pipe (x : Usb) : (setUsb s x).pipe = s.pipe := rfl
@[simp] theorem setUsb_lag (x : Usb) : (setUsb s x).lag = s.lag := rfl
@[simp] theorem setUsb_near (x : Usb) : (setUsb s x).near = s.near := rfl
@[simp] theorem setUsb_bits (x : Usb) : (setUsb s x).bits = s.bits := rfl
@[simp] theorem setUsb_iram (x : Usb) : (setUsb s x).iram = s.iram := rfl
@[simp] theorem setUsb_retain (x : Usb) : (setUsb s x).retain = s.retain := rfl
@[simp] theorem setUsb_pads (x : Usb) : (setUsb s x).pads = s.pads := rfl
@[simp] theorem setUsb_fight (x : Usb) : (setUsb s x).fight = s.fight := rfl
@[simp] theorem setUsb_icu (x : Usb) : (setUsb s x).icu = s.icu := rfl
@[simp] theorem setUsb_xwait (x : Usb) : (setUsb s x).xwait = s.xwait := rfl
@[simp] theorem setUsb_xfly (x : Usb) : (setUsb s x).xfly = s.xfly := rfl
@[simp] theorem setUsb_xback (x : Usb) : (setUsb s x).xback = s.xback := rfl
@[simp] theorem setUsb_timers (x : Usb) : (setUsb s x).timers = s.timers := rfl
@[simp] theorem setUsb_armed (x : Usb) : (setUsb s x).armed = s.armed := rfl
@[simp] theorem setUsb_ctr (x : Usb) : (setUsb s x).ctr = s.ctr := rfl
@[simp] theorem setUsb_led (x : Usb) : (setUsb s x).led = s.led := rfl
@[simp] theorem setUsb_far (x : Usb) : (setUsb s x).far = s.far := rfl
@[simp] theorem setUsb_chan (x : Usb) : (setUsb s x).chan = s.chan := rfl
@[simp] theorem setUsb_pool (x : Usb) : (setUsb s x).pool = s.pool := rfl
@[simp] theorem setUsb_resv (x : Usb) : (setUsb s x).resv = s.resv := rfl
@[simp] theorem setUsb_areq (x : Usb) : (setUsb s x).areq = s.areq := rfl
@[simp] theorem setUsb_mr (x : Usb) : (setUsb s x).mr = s.mr := rfl
@[simp] theorem setUsb_pp (x : Usb) : (setUsb s x).pp = s.pp := rfl
@[simp] theorem setUsb_mover (x : Usb) : (setUsb s x).mover = s.mover := rfl
@[simp] theorem setUsb_slot (x : Usb) : (setUsb s x).slot = s.slot := rfl
@[simp] theorem setUsb_nvByte (x : Usb) : (setUsb s x).nvByte = s.nvByte := rfl
@[simp] theorem setUsb_cache (x : Usb) : (setUsb s x).cache = s.cache := rfl
@[simp] theorem setUsb_usb (x : Usb) : (setUsb s x).usb = x := rfl
@[simp] theorem setUsb_eth (x : Usb) : (setUsb s x).eth = s.eth := rfl
@[simp] theorem setUsb_uart (x : Usb) : (setUsb s x).uart = s.uart := rfl
@[simp] theorem setUsb_kx (x : Usb) : (setUsb s x).kx = s.kx := rfl
@[simp] theorem setUsb_wp (x : Usb) : (setUsb s x).wp = s.wp := rfl
@[simp] theorem setUsb_spi (x : Usb) : (setUsb s x).spi = s.spi := rfl
@[simp] theorem setUsb_nv (x : Usb) : (setUsb s x).nv = s.nv := rfl
@[simp] theorem setUsb_dbg (x : Usb) : (setUsb s x).dbg = s.dbg := rfl
@[simp] theorem setUsb_mon (x : Usb) : (setUsb s x).mon = s.mon := rfl
@[simp] theorem setUsb_dbgWorld (x : Usb) : (setUsb s x).dbgWorld = s.dbgWorld := rfl

@[simp] theorem setEth_pending (x : Eth) : (setEth s x).pending = s.pending := rfl
@[simp] theorem setEth_time (x : Eth) : (setEth s x).time = s.time := rfl
@[simp] theorem setEth_cycles (x : Eth) : (setEth s x).cycles = s.cycles := rfl
@[simp] theorem setEth_fresh (x : Eth) : (setEth s x).fresh = s.fresh := rfl
@[simp] theorem setEth_io (x : Eth) : (setEth s x).io = s.io := rfl
@[simp] theorem setEth_shadow (x : Eth) : (setEth s x).shadow = s.shadow := rfl
@[simp] theorem setEth_staged (x : Eth) : (setEth s x).staged = s.staged := rfl
@[simp] theorem setEth_dev (x : Eth) : (setEth s x).dev = s.dev := rfl
@[simp] theorem setEth_thr (x : Eth) : (setEth s x).thr = s.thr := rfl
@[simp] theorem setEth_pipe (x : Eth) : (setEth s x).pipe = s.pipe := rfl
@[simp] theorem setEth_lag (x : Eth) : (setEth s x).lag = s.lag := rfl
@[simp] theorem setEth_near (x : Eth) : (setEth s x).near = s.near := rfl
@[simp] theorem setEth_bits (x : Eth) : (setEth s x).bits = s.bits := rfl
@[simp] theorem setEth_iram (x : Eth) : (setEth s x).iram = s.iram := rfl
@[simp] theorem setEth_retain (x : Eth) : (setEth s x).retain = s.retain := rfl
@[simp] theorem setEth_pads (x : Eth) : (setEth s x).pads = s.pads := rfl
@[simp] theorem setEth_fight (x : Eth) : (setEth s x).fight = s.fight := rfl
@[simp] theorem setEth_icu (x : Eth) : (setEth s x).icu = s.icu := rfl
@[simp] theorem setEth_xwait (x : Eth) : (setEth s x).xwait = s.xwait := rfl
@[simp] theorem setEth_xfly (x : Eth) : (setEth s x).xfly = s.xfly := rfl
@[simp] theorem setEth_xback (x : Eth) : (setEth s x).xback = s.xback := rfl
@[simp] theorem setEth_timers (x : Eth) : (setEth s x).timers = s.timers := rfl
@[simp] theorem setEth_armed (x : Eth) : (setEth s x).armed = s.armed := rfl
@[simp] theorem setEth_ctr (x : Eth) : (setEth s x).ctr = s.ctr := rfl
@[simp] theorem setEth_led (x : Eth) : (setEth s x).led = s.led := rfl
@[simp] theorem setEth_far (x : Eth) : (setEth s x).far = s.far := rfl
@[simp] theorem setEth_chan (x : Eth) : (setEth s x).chan = s.chan := rfl
@[simp] theorem setEth_pool (x : Eth) : (setEth s x).pool = s.pool := rfl
@[simp] theorem setEth_resv (x : Eth) : (setEth s x).resv = s.resv := rfl
@[simp] theorem setEth_areq (x : Eth) : (setEth s x).areq = s.areq := rfl
@[simp] theorem setEth_mr (x : Eth) : (setEth s x).mr = s.mr := rfl
@[simp] theorem setEth_pp (x : Eth) : (setEth s x).pp = s.pp := rfl
@[simp] theorem setEth_mover (x : Eth) : (setEth s x).mover = s.mover := rfl
@[simp] theorem setEth_slot (x : Eth) : (setEth s x).slot = s.slot := rfl
@[simp] theorem setEth_nvByte (x : Eth) : (setEth s x).nvByte = s.nvByte := rfl
@[simp] theorem setEth_cache (x : Eth) : (setEth s x).cache = s.cache := rfl
@[simp] theorem setEth_usb (x : Eth) : (setEth s x).usb = s.usb := rfl
@[simp] theorem setEth_eth (x : Eth) : (setEth s x).eth = x := rfl
@[simp] theorem setEth_uart (x : Eth) : (setEth s x).uart = s.uart := rfl
@[simp] theorem setEth_kx (x : Eth) : (setEth s x).kx = s.kx := rfl
@[simp] theorem setEth_wp (x : Eth) : (setEth s x).wp = s.wp := rfl
@[simp] theorem setEth_spi (x : Eth) : (setEth s x).spi = s.spi := rfl
@[simp] theorem setEth_nv (x : Eth) : (setEth s x).nv = s.nv := rfl
@[simp] theorem setEth_dbg (x : Eth) : (setEth s x).dbg = s.dbg := rfl
@[simp] theorem setEth_mon (x : Eth) : (setEth s x).mon = s.mon := rfl
@[simp] theorem setEth_dbgWorld (x : Eth) : (setEth s x).dbgWorld = s.dbgWorld := rfl

@[simp] theorem setUart_pending (n : Nat) (x : Uart) : (setUart s n x).pending = s.pending := rfl
@[simp] theorem setUart_time (n : Nat) (x : Uart) : (setUart s n x).time = s.time := rfl
@[simp] theorem setUart_cycles (n : Nat) (x : Uart) : (setUart s n x).cycles = s.cycles := rfl
@[simp] theorem setUart_fresh (n : Nat) (x : Uart) : (setUart s n x).fresh = s.fresh := rfl
@[simp] theorem setUart_io (n : Nat) (x : Uart) : (setUart s n x).io = s.io := rfl
@[simp] theorem setUart_shadow (n : Nat) (x : Uart) : (setUart s n x).shadow = s.shadow := rfl
@[simp] theorem setUart_staged (n : Nat) (x : Uart) : (setUart s n x).staged = s.staged := rfl
@[simp] theorem setUart_dev (n : Nat) (x : Uart) : (setUart s n x).dev = s.dev := rfl
@[simp] theorem setUart_thr (n : Nat) (x : Uart) : (setUart s n x).thr = s.thr := rfl
@[simp] theorem setUart_pipe (n : Nat) (x : Uart) : (setUart s n x).pipe = s.pipe := rfl
@[simp] theorem setUart_lag (n : Nat) (x : Uart) : (setUart s n x).lag = s.lag := rfl
@[simp] theorem setUart_near (n : Nat) (x : Uart) : (setUart s n x).near = s.near := rfl
@[simp] theorem setUart_bits (n : Nat) (x : Uart) : (setUart s n x).bits = s.bits := rfl
@[simp] theorem setUart_iram (n : Nat) (x : Uart) : (setUart s n x).iram = s.iram := rfl
@[simp] theorem setUart_retain (n : Nat) (x : Uart) : (setUart s n x).retain = s.retain := rfl
@[simp] theorem setUart_pads (n : Nat) (x : Uart) : (setUart s n x).pads = s.pads := rfl
@[simp] theorem setUart_fight (n : Nat) (x : Uart) : (setUart s n x).fight = s.fight := rfl
@[simp] theorem setUart_icu (n : Nat) (x : Uart) : (setUart s n x).icu = s.icu := rfl
@[simp] theorem setUart_xwait (n : Nat) (x : Uart) : (setUart s n x).xwait = s.xwait := rfl
@[simp] theorem setUart_xfly (n : Nat) (x : Uart) : (setUart s n x).xfly = s.xfly := rfl
@[simp] theorem setUart_xback (n : Nat) (x : Uart) : (setUart s n x).xback = s.xback := rfl
@[simp] theorem setUart_timers (n : Nat) (x : Uart) : (setUart s n x).timers = s.timers := rfl
@[simp] theorem setUart_armed (n : Nat) (x : Uart) : (setUart s n x).armed = s.armed := rfl
@[simp] theorem setUart_ctr (n : Nat) (x : Uart) : (setUart s n x).ctr = s.ctr := rfl
@[simp] theorem setUart_led (n : Nat) (x : Uart) : (setUart s n x).led = s.led := rfl
@[simp] theorem setUart_far (n : Nat) (x : Uart) : (setUart s n x).far = s.far := rfl
@[simp] theorem setUart_chan (n : Nat) (x : Uart) : (setUart s n x).chan = s.chan := rfl
@[simp] theorem setUart_pool (n : Nat) (x : Uart) : (setUart s n x).pool = s.pool := rfl
@[simp] theorem setUart_resv (n : Nat) (x : Uart) : (setUart s n x).resv = s.resv := rfl
@[simp] theorem setUart_areq (n : Nat) (x : Uart) : (setUart s n x).areq = s.areq := rfl
@[simp] theorem setUart_mr (n : Nat) (x : Uart) : (setUart s n x).mr = s.mr := rfl
@[simp] theorem setUart_pp (n : Nat) (x : Uart) : (setUart s n x).pp = s.pp := rfl
@[simp] theorem setUart_mover (n : Nat) (x : Uart) : (setUart s n x).mover = s.mover := rfl
@[simp] theorem setUart_slot (n : Nat) (x : Uart) : (setUart s n x).slot = s.slot := rfl
@[simp] theorem setUart_nvByte (n : Nat) (x : Uart) : (setUart s n x).nvByte = s.nvByte := rfl
@[simp] theorem setUart_cache (n : Nat) (x : Uart) : (setUart s n x).cache = s.cache := rfl
@[simp] theorem setUart_usb (n : Nat) (x : Uart) : (setUart s n x).usb = s.usb := rfl
@[simp] theorem setUart_eth (n : Nat) (x : Uart) : (setUart s n x).eth = s.eth := rfl
@[simp] theorem setUart_kx (n : Nat) (x : Uart) : (setUart s n x).kx = s.kx := rfl
@[simp] theorem setUart_wp (n : Nat) (x : Uart) : (setUart s n x).wp = s.wp := rfl
@[simp] theorem setUart_spi (n : Nat) (x : Uart) : (setUart s n x).spi = s.spi := rfl
@[simp] theorem setUart_nv (n : Nat) (x : Uart) : (setUart s n x).nv = s.nv := rfl
@[simp] theorem setUart_dbg (n : Nat) (x : Uart) : (setUart s n x).dbg = s.dbg := rfl
@[simp] theorem setUart_mon (n : Nat) (x : Uart) : (setUart s n x).mon = s.mon := rfl
@[simp] theorem setUart_dbgWorld (n : Nat) (x : Uart) : (setUart s n x).dbgWorld = s.dbgWorld := rfl

@[simp] theorem setKx_pending (x : Kx) : (setKx s x).pending = s.pending := rfl
@[simp] theorem setKx_time (x : Kx) : (setKx s x).time = s.time := rfl
@[simp] theorem setKx_cycles (x : Kx) : (setKx s x).cycles = s.cycles := rfl
@[simp] theorem setKx_fresh (x : Kx) : (setKx s x).fresh = s.fresh := rfl
@[simp] theorem setKx_io (x : Kx) : (setKx s x).io = s.io := rfl
@[simp] theorem setKx_shadow (x : Kx) : (setKx s x).shadow = s.shadow := rfl
@[simp] theorem setKx_staged (x : Kx) : (setKx s x).staged = s.staged := rfl
@[simp] theorem setKx_dev (x : Kx) : (setKx s x).dev = s.dev := rfl
@[simp] theorem setKx_thr (x : Kx) : (setKx s x).thr = s.thr := rfl
@[simp] theorem setKx_pipe (x : Kx) : (setKx s x).pipe = s.pipe := rfl
@[simp] theorem setKx_lag (x : Kx) : (setKx s x).lag = s.lag := rfl
@[simp] theorem setKx_near (x : Kx) : (setKx s x).near = s.near := rfl
@[simp] theorem setKx_bits (x : Kx) : (setKx s x).bits = s.bits := rfl
@[simp] theorem setKx_iram (x : Kx) : (setKx s x).iram = s.iram := rfl
@[simp] theorem setKx_retain (x : Kx) : (setKx s x).retain = s.retain := rfl
@[simp] theorem setKx_pads (x : Kx) : (setKx s x).pads = s.pads := rfl
@[simp] theorem setKx_fight (x : Kx) : (setKx s x).fight = s.fight := rfl
@[simp] theorem setKx_icu (x : Kx) : (setKx s x).icu = s.icu := rfl
@[simp] theorem setKx_xwait (x : Kx) : (setKx s x).xwait = s.xwait := rfl
@[simp] theorem setKx_xfly (x : Kx) : (setKx s x).xfly = s.xfly := rfl
@[simp] theorem setKx_xback (x : Kx) : (setKx s x).xback = s.xback := rfl
@[simp] theorem setKx_timers (x : Kx) : (setKx s x).timers = s.timers := rfl
@[simp] theorem setKx_armed (x : Kx) : (setKx s x).armed = s.armed := rfl
@[simp] theorem setKx_ctr (x : Kx) : (setKx s x).ctr = s.ctr := rfl
@[simp] theorem setKx_led (x : Kx) : (setKx s x).led = s.led := rfl
@[simp] theorem setKx_far (x : Kx) : (setKx s x).far = s.far := rfl
@[simp] theorem setKx_chan (x : Kx) : (setKx s x).chan = s.chan := rfl
@[simp] theorem setKx_pool (x : Kx) : (setKx s x).pool = s.pool := rfl
@[simp] theorem setKx_resv (x : Kx) : (setKx s x).resv = s.resv := rfl
@[simp] theorem setKx_areq (x : Kx) : (setKx s x).areq = s.areq := rfl
@[simp] theorem setKx_mr (x : Kx) : (setKx s x).mr = s.mr := rfl
@[simp] theorem setKx_pp (x : Kx) : (setKx s x).pp = s.pp := rfl
@[simp] theorem setKx_mover (x : Kx) : (setKx s x).mover = s.mover := rfl
@[simp] theorem setKx_slot (x : Kx) : (setKx s x).slot = s.slot := rfl
@[simp] theorem setKx_nvByte (x : Kx) : (setKx s x).nvByte = s.nvByte := rfl
@[simp] theorem setKx_cache (x : Kx) : (setKx s x).cache = s.cache := rfl
@[simp] theorem setKx_usb (x : Kx) : (setKx s x).usb = s.usb := rfl
@[simp] theorem setKx_eth (x : Kx) : (setKx s x).eth = s.eth := rfl
@[simp] theorem setKx_uart (x : Kx) : (setKx s x).uart = s.uart := rfl
@[simp] theorem setKx_kx (x : Kx) : (setKx s x).kx = x := rfl
@[simp] theorem setKx_wp (x : Kx) : (setKx s x).wp = s.wp := rfl
@[simp] theorem setKx_spi (x : Kx) : (setKx s x).spi = s.spi := rfl
@[simp] theorem setKx_nv (x : Kx) : (setKx s x).nv = s.nv := rfl
@[simp] theorem setKx_dbg (x : Kx) : (setKx s x).dbg = s.dbg := rfl
@[simp] theorem setKx_mon (x : Kx) : (setKx s x).mon = s.mon := rfl
@[simp] theorem setKx_dbgWorld (x : Kx) : (setKx s x).dbgWorld = s.dbgWorld := rfl

@[simp] theorem setWp_pending (x : Wp) : (setWp s x).pending = s.pending := rfl
@[simp] theorem setWp_time (x : Wp) : (setWp s x).time = s.time := rfl
@[simp] theorem setWp_cycles (x : Wp) : (setWp s x).cycles = s.cycles := rfl
@[simp] theorem setWp_fresh (x : Wp) : (setWp s x).fresh = s.fresh := rfl
@[simp] theorem setWp_io (x : Wp) : (setWp s x).io = s.io := rfl
@[simp] theorem setWp_shadow (x : Wp) : (setWp s x).shadow = s.shadow := rfl
@[simp] theorem setWp_staged (x : Wp) : (setWp s x).staged = s.staged := rfl
@[simp] theorem setWp_dev (x : Wp) : (setWp s x).dev = s.dev := rfl
@[simp] theorem setWp_thr (x : Wp) : (setWp s x).thr = s.thr := rfl
@[simp] theorem setWp_pipe (x : Wp) : (setWp s x).pipe = s.pipe := rfl
@[simp] theorem setWp_lag (x : Wp) : (setWp s x).lag = s.lag := rfl
@[simp] theorem setWp_near (x : Wp) : (setWp s x).near = s.near := rfl
@[simp] theorem setWp_bits (x : Wp) : (setWp s x).bits = s.bits := rfl
@[simp] theorem setWp_iram (x : Wp) : (setWp s x).iram = s.iram := rfl
@[simp] theorem setWp_retain (x : Wp) : (setWp s x).retain = s.retain := rfl
@[simp] theorem setWp_pads (x : Wp) : (setWp s x).pads = s.pads := rfl
@[simp] theorem setWp_fight (x : Wp) : (setWp s x).fight = s.fight := rfl
@[simp] theorem setWp_icu (x : Wp) : (setWp s x).icu = s.icu := rfl
@[simp] theorem setWp_xwait (x : Wp) : (setWp s x).xwait = s.xwait := rfl
@[simp] theorem setWp_xfly (x : Wp) : (setWp s x).xfly = s.xfly := rfl
@[simp] theorem setWp_xback (x : Wp) : (setWp s x).xback = s.xback := rfl
@[simp] theorem setWp_timers (x : Wp) : (setWp s x).timers = s.timers := rfl
@[simp] theorem setWp_armed (x : Wp) : (setWp s x).armed = s.armed := rfl
@[simp] theorem setWp_ctr (x : Wp) : (setWp s x).ctr = s.ctr := rfl
@[simp] theorem setWp_led (x : Wp) : (setWp s x).led = s.led := rfl
@[simp] theorem setWp_far (x : Wp) : (setWp s x).far = s.far := rfl
@[simp] theorem setWp_chan (x : Wp) : (setWp s x).chan = s.chan := rfl
@[simp] theorem setWp_pool (x : Wp) : (setWp s x).pool = s.pool := rfl
@[simp] theorem setWp_resv (x : Wp) : (setWp s x).resv = s.resv := rfl
@[simp] theorem setWp_areq (x : Wp) : (setWp s x).areq = s.areq := rfl
@[simp] theorem setWp_mr (x : Wp) : (setWp s x).mr = s.mr := rfl
@[simp] theorem setWp_pp (x : Wp) : (setWp s x).pp = s.pp := rfl
@[simp] theorem setWp_mover (x : Wp) : (setWp s x).mover = s.mover := rfl
@[simp] theorem setWp_slot (x : Wp) : (setWp s x).slot = s.slot := rfl
@[simp] theorem setWp_nvByte (x : Wp) : (setWp s x).nvByte = s.nvByte := rfl
@[simp] theorem setWp_cache (x : Wp) : (setWp s x).cache = s.cache := rfl
@[simp] theorem setWp_usb (x : Wp) : (setWp s x).usb = s.usb := rfl
@[simp] theorem setWp_eth (x : Wp) : (setWp s x).eth = s.eth := rfl
@[simp] theorem setWp_uart (x : Wp) : (setWp s x).uart = s.uart := rfl
@[simp] theorem setWp_kx (x : Wp) : (setWp s x).kx = s.kx := rfl
@[simp] theorem setWp_wp (x : Wp) : (setWp s x).wp = x := rfl
@[simp] theorem setWp_spi (x : Wp) : (setWp s x).spi = s.spi := rfl
@[simp] theorem setWp_nv (x : Wp) : (setWp s x).nv = s.nv := rfl
@[simp] theorem setWp_dbg (x : Wp) : (setWp s x).dbg = s.dbg := rfl
@[simp] theorem setWp_mon (x : Wp) : (setWp s x).mon = s.mon := rfl
@[simp] theorem setWp_dbgWorld (x : Wp) : (setWp s x).dbgWorld = s.dbgWorld := rfl

@[simp] theorem setSpi_pending (x : Spi) : (setSpi s x).pending = s.pending := rfl
@[simp] theorem setSpi_time (x : Spi) : (setSpi s x).time = s.time := rfl
@[simp] theorem setSpi_cycles (x : Spi) : (setSpi s x).cycles = s.cycles := rfl
@[simp] theorem setSpi_fresh (x : Spi) : (setSpi s x).fresh = s.fresh := rfl
@[simp] theorem setSpi_io (x : Spi) : (setSpi s x).io = s.io := rfl
@[simp] theorem setSpi_shadow (x : Spi) : (setSpi s x).shadow = s.shadow := rfl
@[simp] theorem setSpi_staged (x : Spi) : (setSpi s x).staged = s.staged := rfl
@[simp] theorem setSpi_dev (x : Spi) : (setSpi s x).dev = s.dev := rfl
@[simp] theorem setSpi_thr (x : Spi) : (setSpi s x).thr = s.thr := rfl
@[simp] theorem setSpi_pipe (x : Spi) : (setSpi s x).pipe = s.pipe := rfl
@[simp] theorem setSpi_lag (x : Spi) : (setSpi s x).lag = s.lag := rfl
@[simp] theorem setSpi_near (x : Spi) : (setSpi s x).near = s.near := rfl
@[simp] theorem setSpi_bits (x : Spi) : (setSpi s x).bits = s.bits := rfl
@[simp] theorem setSpi_iram (x : Spi) : (setSpi s x).iram = s.iram := rfl
@[simp] theorem setSpi_retain (x : Spi) : (setSpi s x).retain = s.retain := rfl
@[simp] theorem setSpi_pads (x : Spi) : (setSpi s x).pads = s.pads := rfl
@[simp] theorem setSpi_fight (x : Spi) : (setSpi s x).fight = s.fight := rfl
@[simp] theorem setSpi_icu (x : Spi) : (setSpi s x).icu = s.icu := rfl
@[simp] theorem setSpi_xwait (x : Spi) : (setSpi s x).xwait = s.xwait := rfl
@[simp] theorem setSpi_xfly (x : Spi) : (setSpi s x).xfly = s.xfly := rfl
@[simp] theorem setSpi_xback (x : Spi) : (setSpi s x).xback = s.xback := rfl
@[simp] theorem setSpi_timers (x : Spi) : (setSpi s x).timers = s.timers := rfl
@[simp] theorem setSpi_armed (x : Spi) : (setSpi s x).armed = s.armed := rfl
@[simp] theorem setSpi_ctr (x : Spi) : (setSpi s x).ctr = s.ctr := rfl
@[simp] theorem setSpi_led (x : Spi) : (setSpi s x).led = s.led := rfl
@[simp] theorem setSpi_far (x : Spi) : (setSpi s x).far = s.far := rfl
@[simp] theorem setSpi_chan (x : Spi) : (setSpi s x).chan = s.chan := rfl
@[simp] theorem setSpi_pool (x : Spi) : (setSpi s x).pool = s.pool := rfl
@[simp] theorem setSpi_resv (x : Spi) : (setSpi s x).resv = s.resv := rfl
@[simp] theorem setSpi_areq (x : Spi) : (setSpi s x).areq = s.areq := rfl
@[simp] theorem setSpi_mr (x : Spi) : (setSpi s x).mr = s.mr := rfl
@[simp] theorem setSpi_pp (x : Spi) : (setSpi s x).pp = s.pp := rfl
@[simp] theorem setSpi_mover (x : Spi) : (setSpi s x).mover = s.mover := rfl
@[simp] theorem setSpi_slot (x : Spi) : (setSpi s x).slot = s.slot := rfl
@[simp] theorem setSpi_nvByte (x : Spi) : (setSpi s x).nvByte = s.nvByte := rfl
@[simp] theorem setSpi_cache (x : Spi) : (setSpi s x).cache = s.cache := rfl
@[simp] theorem setSpi_usb (x : Spi) : (setSpi s x).usb = s.usb := rfl
@[simp] theorem setSpi_eth (x : Spi) : (setSpi s x).eth = s.eth := rfl
@[simp] theorem setSpi_uart (x : Spi) : (setSpi s x).uart = s.uart := rfl
@[simp] theorem setSpi_kx (x : Spi) : (setSpi s x).kx = s.kx := rfl
@[simp] theorem setSpi_wp (x : Spi) : (setSpi s x).wp = s.wp := rfl
@[simp] theorem setSpi_spi (x : Spi) : (setSpi s x).spi = x := rfl
@[simp] theorem setSpi_nv (x : Spi) : (setSpi s x).nv = s.nv := rfl
@[simp] theorem setSpi_dbg (x : Spi) : (setSpi s x).dbg = s.dbg := rfl
@[simp] theorem setSpi_mon (x : Spi) : (setSpi s x).mon = s.mon := rfl
@[simp] theorem setSpi_dbgWorld (x : Spi) : (setSpi s x).dbgWorld = s.dbgWorld := rfl

@[simp] theorem setNv_pending (x : Nv) : (setNv s x).pending = s.pending := rfl
@[simp] theorem setNv_time (x : Nv) : (setNv s x).time = s.time := rfl
@[simp] theorem setNv_cycles (x : Nv) : (setNv s x).cycles = s.cycles := rfl
@[simp] theorem setNv_fresh (x : Nv) : (setNv s x).fresh = s.fresh := rfl
@[simp] theorem setNv_io (x : Nv) : (setNv s x).io = s.io := rfl
@[simp] theorem setNv_shadow (x : Nv) : (setNv s x).shadow = s.shadow := rfl
@[simp] theorem setNv_staged (x : Nv) : (setNv s x).staged = s.staged := rfl
@[simp] theorem setNv_dev (x : Nv) : (setNv s x).dev = s.dev := rfl
@[simp] theorem setNv_thr (x : Nv) : (setNv s x).thr = s.thr := rfl
@[simp] theorem setNv_pipe (x : Nv) : (setNv s x).pipe = s.pipe := rfl
@[simp] theorem setNv_lag (x : Nv) : (setNv s x).lag = s.lag := rfl
@[simp] theorem setNv_near (x : Nv) : (setNv s x).near = s.near := rfl
@[simp] theorem setNv_bits (x : Nv) : (setNv s x).bits = s.bits := rfl
@[simp] theorem setNv_iram (x : Nv) : (setNv s x).iram = s.iram := rfl
@[simp] theorem setNv_retain (x : Nv) : (setNv s x).retain = s.retain := rfl
@[simp] theorem setNv_pads (x : Nv) : (setNv s x).pads = s.pads := rfl
@[simp] theorem setNv_fight (x : Nv) : (setNv s x).fight = s.fight := rfl
@[simp] theorem setNv_icu (x : Nv) : (setNv s x).icu = s.icu := rfl
@[simp] theorem setNv_xwait (x : Nv) : (setNv s x).xwait = s.xwait := rfl
@[simp] theorem setNv_xfly (x : Nv) : (setNv s x).xfly = s.xfly := rfl
@[simp] theorem setNv_xback (x : Nv) : (setNv s x).xback = s.xback := rfl
@[simp] theorem setNv_timers (x : Nv) : (setNv s x).timers = s.timers := rfl
@[simp] theorem setNv_armed (x : Nv) : (setNv s x).armed = s.armed := rfl
@[simp] theorem setNv_ctr (x : Nv) : (setNv s x).ctr = s.ctr := rfl
@[simp] theorem setNv_led (x : Nv) : (setNv s x).led = s.led := rfl
@[simp] theorem setNv_far (x : Nv) : (setNv s x).far = s.far := rfl
@[simp] theorem setNv_chan (x : Nv) : (setNv s x).chan = s.chan := rfl
@[simp] theorem setNv_pool (x : Nv) : (setNv s x).pool = s.pool := rfl
@[simp] theorem setNv_resv (x : Nv) : (setNv s x).resv = s.resv := rfl
@[simp] theorem setNv_areq (x : Nv) : (setNv s x).areq = s.areq := rfl
@[simp] theorem setNv_mr (x : Nv) : (setNv s x).mr = s.mr := rfl
@[simp] theorem setNv_pp (x : Nv) : (setNv s x).pp = s.pp := rfl
@[simp] theorem setNv_mover (x : Nv) : (setNv s x).mover = s.mover := rfl
@[simp] theorem setNv_slot (x : Nv) : (setNv s x).slot = s.slot := rfl
@[simp] theorem setNv_nvByte (x : Nv) : (setNv s x).nvByte = s.nvByte := rfl
@[simp] theorem setNv_cache (x : Nv) : (setNv s x).cache = s.cache := rfl
@[simp] theorem setNv_usb (x : Nv) : (setNv s x).usb = s.usb := rfl
@[simp] theorem setNv_eth (x : Nv) : (setNv s x).eth = s.eth := rfl
@[simp] theorem setNv_uart (x : Nv) : (setNv s x).uart = s.uart := rfl
@[simp] theorem setNv_kx (x : Nv) : (setNv s x).kx = s.kx := rfl
@[simp] theorem setNv_wp (x : Nv) : (setNv s x).wp = s.wp := rfl
@[simp] theorem setNv_spi (x : Nv) : (setNv s x).spi = s.spi := rfl
@[simp] theorem setNv_nv (x : Nv) : (setNv s x).nv = x := rfl
@[simp] theorem setNv_dbg (x : Nv) : (setNv s x).dbg = s.dbg := rfl
@[simp] theorem setNv_mon (x : Nv) : (setNv s x).mon = s.mon := rfl
@[simp] theorem setNv_dbgWorld (x : Nv) : (setNv s x).dbgWorld = s.dbgWorld := rfl

@[simp] theorem setDbg_pending (x : Dbg) : (setDbg s x).pending = s.pending := rfl
@[simp] theorem setDbg_time (x : Dbg) : (setDbg s x).time = s.time := rfl
@[simp] theorem setDbg_cycles (x : Dbg) : (setDbg s x).cycles = s.cycles := rfl
@[simp] theorem setDbg_fresh (x : Dbg) : (setDbg s x).fresh = s.fresh := rfl
@[simp] theorem setDbg_io (x : Dbg) : (setDbg s x).io = s.io := rfl
@[simp] theorem setDbg_shadow (x : Dbg) : (setDbg s x).shadow = s.shadow := rfl
@[simp] theorem setDbg_staged (x : Dbg) : (setDbg s x).staged = s.staged := rfl
@[simp] theorem setDbg_dev (x : Dbg) : (setDbg s x).dev = s.dev := rfl
@[simp] theorem setDbg_thr (x : Dbg) : (setDbg s x).thr = s.thr := rfl
@[simp] theorem setDbg_pipe (x : Dbg) : (setDbg s x).pipe = s.pipe := rfl
@[simp] theorem setDbg_lag (x : Dbg) : (setDbg s x).lag = s.lag := rfl
@[simp] theorem setDbg_near (x : Dbg) : (setDbg s x).near = s.near := rfl
@[simp] theorem setDbg_bits (x : Dbg) : (setDbg s x).bits = s.bits := rfl
@[simp] theorem setDbg_iram (x : Dbg) : (setDbg s x).iram = s.iram := rfl
@[simp] theorem setDbg_retain (x : Dbg) : (setDbg s x).retain = s.retain := rfl
@[simp] theorem setDbg_pads (x : Dbg) : (setDbg s x).pads = s.pads := rfl
@[simp] theorem setDbg_fight (x : Dbg) : (setDbg s x).fight = s.fight := rfl
@[simp] theorem setDbg_icu (x : Dbg) : (setDbg s x).icu = s.icu := rfl
@[simp] theorem setDbg_xwait (x : Dbg) : (setDbg s x).xwait = s.xwait := rfl
@[simp] theorem setDbg_xfly (x : Dbg) : (setDbg s x).xfly = s.xfly := rfl
@[simp] theorem setDbg_xback (x : Dbg) : (setDbg s x).xback = s.xback := rfl
@[simp] theorem setDbg_timers (x : Dbg) : (setDbg s x).timers = s.timers := rfl
@[simp] theorem setDbg_armed (x : Dbg) : (setDbg s x).armed = s.armed := rfl
@[simp] theorem setDbg_ctr (x : Dbg) : (setDbg s x).ctr = s.ctr := rfl
@[simp] theorem setDbg_led (x : Dbg) : (setDbg s x).led = s.led := rfl
@[simp] theorem setDbg_far (x : Dbg) : (setDbg s x).far = s.far := rfl
@[simp] theorem setDbg_chan (x : Dbg) : (setDbg s x).chan = s.chan := rfl
@[simp] theorem setDbg_pool (x : Dbg) : (setDbg s x).pool = s.pool := rfl
@[simp] theorem setDbg_resv (x : Dbg) : (setDbg s x).resv = s.resv := rfl
@[simp] theorem setDbg_areq (x : Dbg) : (setDbg s x).areq = s.areq := rfl
@[simp] theorem setDbg_mr (x : Dbg) : (setDbg s x).mr = s.mr := rfl
@[simp] theorem setDbg_pp (x : Dbg) : (setDbg s x).pp = s.pp := rfl
@[simp] theorem setDbg_mover (x : Dbg) : (setDbg s x).mover = s.mover := rfl
@[simp] theorem setDbg_slot (x : Dbg) : (setDbg s x).slot = s.slot := rfl
@[simp] theorem setDbg_nvByte (x : Dbg) : (setDbg s x).nvByte = s.nvByte := rfl
@[simp] theorem setDbg_cache (x : Dbg) : (setDbg s x).cache = s.cache := rfl
@[simp] theorem setDbg_usb (x : Dbg) : (setDbg s x).usb = s.usb := rfl
@[simp] theorem setDbg_eth (x : Dbg) : (setDbg s x).eth = s.eth := rfl
@[simp] theorem setDbg_uart (x : Dbg) : (setDbg s x).uart = s.uart := rfl
@[simp] theorem setDbg_kx (x : Dbg) : (setDbg s x).kx = s.kx := rfl
@[simp] theorem setDbg_wp (x : Dbg) : (setDbg s x).wp = s.wp := rfl
@[simp] theorem setDbg_spi (x : Dbg) : (setDbg s x).spi = s.spi := rfl
@[simp] theorem setDbg_nv (x : Dbg) : (setDbg s x).nv = s.nv := rfl
@[simp] theorem setDbg_dbg (x : Dbg) : (setDbg s x).dbg = x := rfl
@[simp] theorem setDbg_mon (x : Dbg) : (setDbg s x).mon = s.mon := rfl
@[simp] theorem setDbg_dbgWorld (x : Dbg) : (setDbg s x).dbgWorld = s.dbgWorld := rfl

@[simp] theorem setMon_pending (x : Mon) : (setMon s x).pending = s.pending := rfl
@[simp] theorem setMon_time (x : Mon) : (setMon s x).time = s.time := rfl
@[simp] theorem setMon_cycles (x : Mon) : (setMon s x).cycles = s.cycles := rfl
@[simp] theorem setMon_fresh (x : Mon) : (setMon s x).fresh = s.fresh := rfl
@[simp] theorem setMon_io (x : Mon) : (setMon s x).io = s.io := rfl
@[simp] theorem setMon_shadow (x : Mon) : (setMon s x).shadow = s.shadow := rfl
@[simp] theorem setMon_staged (x : Mon) : (setMon s x).staged = s.staged := rfl
@[simp] theorem setMon_dev (x : Mon) : (setMon s x).dev = s.dev := rfl
@[simp] theorem setMon_thr (x : Mon) : (setMon s x).thr = s.thr := rfl
@[simp] theorem setMon_pipe (x : Mon) : (setMon s x).pipe = s.pipe := rfl
@[simp] theorem setMon_lag (x : Mon) : (setMon s x).lag = s.lag := rfl
@[simp] theorem setMon_near (x : Mon) : (setMon s x).near = s.near := rfl
@[simp] theorem setMon_bits (x : Mon) : (setMon s x).bits = s.bits := rfl
@[simp] theorem setMon_iram (x : Mon) : (setMon s x).iram = s.iram := rfl
@[simp] theorem setMon_retain (x : Mon) : (setMon s x).retain = s.retain := rfl
@[simp] theorem setMon_pads (x : Mon) : (setMon s x).pads = s.pads := rfl
@[simp] theorem setMon_fight (x : Mon) : (setMon s x).fight = s.fight := rfl
@[simp] theorem setMon_icu (x : Mon) : (setMon s x).icu = s.icu := rfl
@[simp] theorem setMon_xwait (x : Mon) : (setMon s x).xwait = s.xwait := rfl
@[simp] theorem setMon_xfly (x : Mon) : (setMon s x).xfly = s.xfly := rfl
@[simp] theorem setMon_xback (x : Mon) : (setMon s x).xback = s.xback := rfl
@[simp] theorem setMon_timers (x : Mon) : (setMon s x).timers = s.timers := rfl
@[simp] theorem setMon_armed (x : Mon) : (setMon s x).armed = s.armed := rfl
@[simp] theorem setMon_ctr (x : Mon) : (setMon s x).ctr = s.ctr := rfl
@[simp] theorem setMon_led (x : Mon) : (setMon s x).led = s.led := rfl
@[simp] theorem setMon_far (x : Mon) : (setMon s x).far = s.far := rfl
@[simp] theorem setMon_chan (x : Mon) : (setMon s x).chan = s.chan := rfl
@[simp] theorem setMon_pool (x : Mon) : (setMon s x).pool = s.pool := rfl
@[simp] theorem setMon_resv (x : Mon) : (setMon s x).resv = s.resv := rfl
@[simp] theorem setMon_areq (x : Mon) : (setMon s x).areq = s.areq := rfl
@[simp] theorem setMon_mr (x : Mon) : (setMon s x).mr = s.mr := rfl
@[simp] theorem setMon_pp (x : Mon) : (setMon s x).pp = s.pp := rfl
@[simp] theorem setMon_mover (x : Mon) : (setMon s x).mover = s.mover := rfl
@[simp] theorem setMon_slot (x : Mon) : (setMon s x).slot = s.slot := rfl
@[simp] theorem setMon_nvByte (x : Mon) : (setMon s x).nvByte = s.nvByte := rfl
@[simp] theorem setMon_cache (x : Mon) : (setMon s x).cache = s.cache := rfl
@[simp] theorem setMon_usb (x : Mon) : (setMon s x).usb = s.usb := rfl
@[simp] theorem setMon_eth (x : Mon) : (setMon s x).eth = s.eth := rfl
@[simp] theorem setMon_uart (x : Mon) : (setMon s x).uart = s.uart := rfl
@[simp] theorem setMon_kx (x : Mon) : (setMon s x).kx = s.kx := rfl
@[simp] theorem setMon_wp (x : Mon) : (setMon s x).wp = s.wp := rfl
@[simp] theorem setMon_spi (x : Mon) : (setMon s x).spi = s.spi := rfl
@[simp] theorem setMon_nv (x : Mon) : (setMon s x).nv = s.nv := rfl
@[simp] theorem setMon_dbg (x : Mon) : (setMon s x).dbg = s.dbg := rfl
@[simp] theorem setMon_mon (x : Mon) : (setMon s x).mon = x := rfl
@[simp] theorem setMon_dbgWorld (x : Mon) : (setMon s x).dbgWorld = s.dbgWorld := rfl

@[simp] theorem setPool_pending (p : Nat) (x : Pool) : (setPool s p x).pending = s.pending := rfl
@[simp] theorem setPool_time (p : Nat) (x : Pool) : (setPool s p x).time = s.time := rfl
@[simp] theorem setPool_cycles (p : Nat) (x : Pool) : (setPool s p x).cycles = s.cycles := rfl
@[simp] theorem setPool_fresh (p : Nat) (x : Pool) : (setPool s p x).fresh = s.fresh := rfl
@[simp] theorem setPool_io (p : Nat) (x : Pool) : (setPool s p x).io = s.io := rfl
@[simp] theorem setPool_shadow (p : Nat) (x : Pool) : (setPool s p x).shadow = s.shadow := rfl
@[simp] theorem setPool_staged (p : Nat) (x : Pool) : (setPool s p x).staged = s.staged := rfl
@[simp] theorem setPool_dev (p : Nat) (x : Pool) : (setPool s p x).dev = s.dev := rfl
@[simp] theorem setPool_thr (p : Nat) (x : Pool) : (setPool s p x).thr = s.thr := rfl
@[simp] theorem setPool_pipe (p : Nat) (x : Pool) : (setPool s p x).pipe = s.pipe := rfl
@[simp] theorem setPool_lag (p : Nat) (x : Pool) : (setPool s p x).lag = s.lag := rfl
@[simp] theorem setPool_near (p : Nat) (x : Pool) : (setPool s p x).near = s.near := rfl
@[simp] theorem setPool_bits (p : Nat) (x : Pool) : (setPool s p x).bits = s.bits := rfl
@[simp] theorem setPool_iram (p : Nat) (x : Pool) : (setPool s p x).iram = s.iram := rfl
@[simp] theorem setPool_retain (p : Nat) (x : Pool) : (setPool s p x).retain = s.retain := rfl
@[simp] theorem setPool_pads (p : Nat) (x : Pool) : (setPool s p x).pads = s.pads := rfl
@[simp] theorem setPool_fight (p : Nat) (x : Pool) : (setPool s p x).fight = s.fight := rfl
@[simp] theorem setPool_icu (p : Nat) (x : Pool) : (setPool s p x).icu = s.icu := rfl
@[simp] theorem setPool_xwait (p : Nat) (x : Pool) : (setPool s p x).xwait = s.xwait := rfl
@[simp] theorem setPool_xfly (p : Nat) (x : Pool) : (setPool s p x).xfly = s.xfly := rfl
@[simp] theorem setPool_xback (p : Nat) (x : Pool) : (setPool s p x).xback = s.xback := rfl
@[simp] theorem setPool_timers (p : Nat) (x : Pool) : (setPool s p x).timers = s.timers := rfl
@[simp] theorem setPool_armed (p : Nat) (x : Pool) : (setPool s p x).armed = s.armed := rfl
@[simp] theorem setPool_ctr (p : Nat) (x : Pool) : (setPool s p x).ctr = s.ctr := rfl
@[simp] theorem setPool_led (p : Nat) (x : Pool) : (setPool s p x).led = s.led := rfl
@[simp] theorem setPool_far (p : Nat) (x : Pool) : (setPool s p x).far = s.far := rfl
@[simp] theorem setPool_chan (p : Nat) (x : Pool) : (setPool s p x).chan = s.chan := rfl
@[simp] theorem setPool_resv (p : Nat) (x : Pool) : (setPool s p x).resv = s.resv := rfl
@[simp] theorem setPool_areq (p : Nat) (x : Pool) : (setPool s p x).areq = s.areq := rfl
@[simp] theorem setPool_mr (p : Nat) (x : Pool) : (setPool s p x).mr = s.mr := rfl
@[simp] theorem setPool_pp (p : Nat) (x : Pool) : (setPool s p x).pp = s.pp := rfl
@[simp] theorem setPool_mover (p : Nat) (x : Pool) : (setPool s p x).mover = s.mover := rfl
@[simp] theorem setPool_slot (p : Nat) (x : Pool) : (setPool s p x).slot = s.slot := rfl
@[simp] theorem setPool_nvByte (p : Nat) (x : Pool) : (setPool s p x).nvByte = s.nvByte := rfl
@[simp] theorem setPool_cache (p : Nat) (x : Pool) : (setPool s p x).cache = s.cache := rfl
@[simp] theorem setPool_usb (p : Nat) (x : Pool) : (setPool s p x).usb = s.usb := rfl
@[simp] theorem setPool_eth (p : Nat) (x : Pool) : (setPool s p x).eth = s.eth := rfl
@[simp] theorem setPool_uart (p : Nat) (x : Pool) : (setPool s p x).uart = s.uart := rfl
@[simp] theorem setPool_kx (p : Nat) (x : Pool) : (setPool s p x).kx = s.kx := rfl
@[simp] theorem setPool_wp (p : Nat) (x : Pool) : (setPool s p x).wp = s.wp := rfl
@[simp] theorem setPool_spi (p : Nat) (x : Pool) : (setPool s p x).spi = s.spi := rfl
@[simp] theorem setPool_nv (p : Nat) (x : Pool) : (setPool s p x).nv = s.nv := rfl
@[simp] theorem setPool_dbg (p : Nat) (x : Pool) : (setPool s p x).dbg = s.dbg := rfl
@[simp] theorem setPool_mon (p : Nat) (x : Pool) : (setPool s p x).mon = s.mon := rfl
@[simp] theorem setPool_dbgWorld (p : Nat) (x : Pool) : (setPool s p x).dbgWorld = s.dbgWorld := rfl

@[simp] theorem nearWrite_pending (k : Nat) (b : Byte) : (nearWrite s k b).pending = s.pending := rfl
@[simp] theorem nearWrite_time (k : Nat) (b : Byte) : (nearWrite s k b).time = s.time := rfl
@[simp] theorem nearWrite_cycles (k : Nat) (b : Byte) : (nearWrite s k b).cycles = s.cycles := rfl
@[simp] theorem nearWrite_fresh (k : Nat) (b : Byte) : (nearWrite s k b).fresh = s.fresh := rfl
@[simp] theorem nearWrite_io (k : Nat) (b : Byte) : (nearWrite s k b).io = s.io := rfl
@[simp] theorem nearWrite_shadow (k : Nat) (b : Byte) : (nearWrite s k b).shadow = s.shadow := rfl
@[simp] theorem nearWrite_staged (k : Nat) (b : Byte) : (nearWrite s k b).staged = s.staged := rfl
@[simp] theorem nearWrite_dev (k : Nat) (b : Byte) : (nearWrite s k b).dev = s.dev := rfl
@[simp] theorem nearWrite_thr (k : Nat) (b : Byte) : (nearWrite s k b).thr = s.thr := rfl
@[simp] theorem nearWrite_pipe (k : Nat) (b : Byte) : (nearWrite s k b).pipe = s.pipe := rfl
@[simp] theorem nearWrite_lag (k : Nat) (b : Byte) : (nearWrite s k b).lag = s.lag := rfl
@[simp] theorem nearWrite_bits (k : Nat) (b : Byte) : (nearWrite s k b).bits = s.bits := rfl
@[simp] theorem nearWrite_iram (k : Nat) (b : Byte) : (nearWrite s k b).iram = s.iram := rfl
@[simp] theorem nearWrite_retain (k : Nat) (b : Byte) : (nearWrite s k b).retain = s.retain := rfl
@[simp] theorem nearWrite_pads (k : Nat) (b : Byte) : (nearWrite s k b).pads = s.pads := rfl
@[simp] theorem nearWrite_fight (k : Nat) (b : Byte) : (nearWrite s k b).fight = s.fight := rfl
@[simp] theorem nearWrite_icu (k : Nat) (b : Byte) : (nearWrite s k b).icu = s.icu := rfl
@[simp] theorem nearWrite_xwait (k : Nat) (b : Byte) : (nearWrite s k b).xwait = s.xwait := rfl
@[simp] theorem nearWrite_xfly (k : Nat) (b : Byte) : (nearWrite s k b).xfly = s.xfly := rfl
@[simp] theorem nearWrite_xback (k : Nat) (b : Byte) : (nearWrite s k b).xback = s.xback := rfl
@[simp] theorem nearWrite_timers (k : Nat) (b : Byte) : (nearWrite s k b).timers = s.timers := rfl
@[simp] theorem nearWrite_armed (k : Nat) (b : Byte) : (nearWrite s k b).armed = s.armed := rfl
@[simp] theorem nearWrite_ctr (k : Nat) (b : Byte) : (nearWrite s k b).ctr = s.ctr := rfl
@[simp] theorem nearWrite_led (k : Nat) (b : Byte) : (nearWrite s k b).led = s.led := rfl
@[simp] theorem nearWrite_far (k : Nat) (b : Byte) : (nearWrite s k b).far = s.far := rfl
@[simp] theorem nearWrite_chan (k : Nat) (b : Byte) : (nearWrite s k b).chan = s.chan := rfl
@[simp] theorem nearWrite_pool (k : Nat) (b : Byte) : (nearWrite s k b).pool = s.pool := rfl
@[simp] theorem nearWrite_resv (k : Nat) (b : Byte) : (nearWrite s k b).resv = s.resv := rfl
@[simp] theorem nearWrite_areq (k : Nat) (b : Byte) : (nearWrite s k b).areq = s.areq := rfl
@[simp] theorem nearWrite_mr (k : Nat) (b : Byte) : (nearWrite s k b).mr = s.mr := rfl
@[simp] theorem nearWrite_pp (k : Nat) (b : Byte) : (nearWrite s k b).pp = s.pp := rfl
@[simp] theorem nearWrite_mover (k : Nat) (b : Byte) : (nearWrite s k b).mover = s.mover := rfl
@[simp] theorem nearWrite_slot (k : Nat) (b : Byte) : (nearWrite s k b).slot = s.slot := rfl
@[simp] theorem nearWrite_nvByte (k : Nat) (b : Byte) : (nearWrite s k b).nvByte = s.nvByte := rfl
@[simp] theorem nearWrite_cache (k : Nat) (b : Byte) : (nearWrite s k b).cache = s.cache := rfl
@[simp] theorem nearWrite_usb (k : Nat) (b : Byte) : (nearWrite s k b).usb = s.usb := rfl
@[simp] theorem nearWrite_eth (k : Nat) (b : Byte) : (nearWrite s k b).eth = s.eth := rfl
@[simp] theorem nearWrite_uart (k : Nat) (b : Byte) : (nearWrite s k b).uart = s.uart := rfl
@[simp] theorem nearWrite_kx (k : Nat) (b : Byte) : (nearWrite s k b).kx = s.kx := rfl
@[simp] theorem nearWrite_wp (k : Nat) (b : Byte) : (nearWrite s k b).wp = s.wp := rfl
@[simp] theorem nearWrite_spi (k : Nat) (b : Byte) : (nearWrite s k b).spi = s.spi := rfl
@[simp] theorem nearWrite_nv (k : Nat) (b : Byte) : (nearWrite s k b).nv = s.nv := rfl
@[simp] theorem nearWrite_dbg (k : Nat) (b : Byte) : (nearWrite s k b).dbg = s.dbg := rfl
@[simp] theorem nearWrite_mon (k : Nat) (b : Byte) : (nearWrite s k b).mon = s.mon := rfl
@[simp] theorem nearWrite_dbgWorld (k : Nat) (b : Byte) : (nearWrite s k b).dbgWorld = s.dbgWorld := rfl

@[simp] theorem setFly_pending (c : Nat) (l : List Xfer) : (setFly s c l).pending = s.pending := rfl
@[simp] theorem setFly_time (c : Nat) (l : List Xfer) : (setFly s c l).time = s.time := rfl
@[simp] theorem setFly_cycles (c : Nat) (l : List Xfer) : (setFly s c l).cycles = s.cycles := rfl
@[simp] theorem setFly_fresh (c : Nat) (l : List Xfer) : (setFly s c l).fresh = s.fresh := rfl
@[simp] theorem setFly_io (c : Nat) (l : List Xfer) : (setFly s c l).io = s.io := rfl
@[simp] theorem setFly_shadow (c : Nat) (l : List Xfer) : (setFly s c l).shadow = s.shadow := rfl
@[simp] theorem setFly_staged (c : Nat) (l : List Xfer) : (setFly s c l).staged = s.staged := rfl
@[simp] theorem setFly_dev (c : Nat) (l : List Xfer) : (setFly s c l).dev = s.dev := rfl
@[simp] theorem setFly_thr (c : Nat) (l : List Xfer) : (setFly s c l).thr = s.thr := rfl
@[simp] theorem setFly_pipe (c : Nat) (l : List Xfer) : (setFly s c l).pipe = s.pipe := rfl
@[simp] theorem setFly_lag (c : Nat) (l : List Xfer) : (setFly s c l).lag = s.lag := rfl
@[simp] theorem setFly_near (c : Nat) (l : List Xfer) : (setFly s c l).near = s.near := rfl
@[simp] theorem setFly_bits (c : Nat) (l : List Xfer) : (setFly s c l).bits = s.bits := rfl
@[simp] theorem setFly_iram (c : Nat) (l : List Xfer) : (setFly s c l).iram = s.iram := rfl
@[simp] theorem setFly_retain (c : Nat) (l : List Xfer) : (setFly s c l).retain = s.retain := rfl
@[simp] theorem setFly_pads (c : Nat) (l : List Xfer) : (setFly s c l).pads = s.pads := rfl
@[simp] theorem setFly_fight (c : Nat) (l : List Xfer) : (setFly s c l).fight = s.fight := rfl
@[simp] theorem setFly_icu (c : Nat) (l : List Xfer) : (setFly s c l).icu = s.icu := rfl
@[simp] theorem setFly_xwait (c : Nat) (l : List Xfer) : (setFly s c l).xwait = s.xwait := rfl
@[simp] theorem setFly_xback (c : Nat) (l : List Xfer) : (setFly s c l).xback = s.xback := rfl
@[simp] theorem setFly_timers (c : Nat) (l : List Xfer) : (setFly s c l).timers = s.timers := rfl
@[simp] theorem setFly_armed (c : Nat) (l : List Xfer) : (setFly s c l).armed = s.armed := rfl
@[simp] theorem setFly_ctr (c : Nat) (l : List Xfer) : (setFly s c l).ctr = s.ctr := rfl
@[simp] theorem setFly_led (c : Nat) (l : List Xfer) : (setFly s c l).led = s.led := rfl
@[simp] theorem setFly_far (c : Nat) (l : List Xfer) : (setFly s c l).far = s.far := rfl
@[simp] theorem setFly_chan (c : Nat) (l : List Xfer) : (setFly s c l).chan = s.chan := rfl
@[simp] theorem setFly_pool (c : Nat) (l : List Xfer) : (setFly s c l).pool = s.pool := rfl
@[simp] theorem setFly_resv (c : Nat) (l : List Xfer) : (setFly s c l).resv = s.resv := rfl
@[simp] theorem setFly_areq (c : Nat) (l : List Xfer) : (setFly s c l).areq = s.areq := rfl
@[simp] theorem setFly_mr (c : Nat) (l : List Xfer) : (setFly s c l).mr = s.mr := rfl
@[simp] theorem setFly_pp (c : Nat) (l : List Xfer) : (setFly s c l).pp = s.pp := rfl
@[simp] theorem setFly_mover (c : Nat) (l : List Xfer) : (setFly s c l).mover = s.mover := rfl
@[simp] theorem setFly_slot (c : Nat) (l : List Xfer) : (setFly s c l).slot = s.slot := rfl
@[simp] theorem setFly_nvByte (c : Nat) (l : List Xfer) : (setFly s c l).nvByte = s.nvByte := rfl
@[simp] theorem setFly_cache (c : Nat) (l : List Xfer) : (setFly s c l).cache = s.cache := rfl
@[simp] theorem setFly_usb (c : Nat) (l : List Xfer) : (setFly s c l).usb = s.usb := rfl
@[simp] theorem setFly_eth (c : Nat) (l : List Xfer) : (setFly s c l).eth = s.eth := rfl
@[simp] theorem setFly_uart (c : Nat) (l : List Xfer) : (setFly s c l).uart = s.uart := rfl
@[simp] theorem setFly_kx (c : Nat) (l : List Xfer) : (setFly s c l).kx = s.kx := rfl
@[simp] theorem setFly_wp (c : Nat) (l : List Xfer) : (setFly s c l).wp = s.wp := rfl
@[simp] theorem setFly_spi (c : Nat) (l : List Xfer) : (setFly s c l).spi = s.spi := rfl
@[simp] theorem setFly_nv (c : Nat) (l : List Xfer) : (setFly s c l).nv = s.nv := rfl
@[simp] theorem setFly_dbg (c : Nat) (l : List Xfer) : (setFly s c l).dbg = s.dbg := rfl
@[simp] theorem setFly_mon (c : Nat) (l : List Xfer) : (setFly s c l).mon = s.mon := rfl
@[simp] theorem setFly_dbgWorld (c : Nat) (l : List Xfer) : (setFly s c l).dbgWorld = s.dbgWorld := rfl

@[simp] theorem later_pending (k : Nat) (op : PipeOp) : (later s k op).pending = s.pending := rfl
@[simp] theorem later_time (k : Nat) (op : PipeOp) : (later s k op).time = s.time := rfl
@[simp] theorem later_cycles (k : Nat) (op : PipeOp) : (later s k op).cycles = s.cycles := rfl
@[simp] theorem later_fresh (k : Nat) (op : PipeOp) : (later s k op).fresh = s.fresh := rfl
@[simp] theorem later_io (k : Nat) (op : PipeOp) : (later s k op).io = s.io := rfl
@[simp] theorem later_shadow (k : Nat) (op : PipeOp) : (later s k op).shadow = s.shadow := rfl
@[simp] theorem later_staged (k : Nat) (op : PipeOp) : (later s k op).staged = s.staged := rfl
@[simp] theorem later_dev (k : Nat) (op : PipeOp) : (later s k op).dev = s.dev := rfl
@[simp] theorem later_thr (k : Nat) (op : PipeOp) : (later s k op).thr = s.thr := rfl
@[simp] theorem later_lag (k : Nat) (op : PipeOp) : (later s k op).lag = s.lag := rfl
@[simp] theorem later_near (k : Nat) (op : PipeOp) : (later s k op).near = s.near := rfl
@[simp] theorem later_bits (k : Nat) (op : PipeOp) : (later s k op).bits = s.bits := rfl
@[simp] theorem later_iram (k : Nat) (op : PipeOp) : (later s k op).iram = s.iram := rfl
@[simp] theorem later_retain (k : Nat) (op : PipeOp) : (later s k op).retain = s.retain := rfl
@[simp] theorem later_pads (k : Nat) (op : PipeOp) : (later s k op).pads = s.pads := rfl
@[simp] theorem later_fight (k : Nat) (op : PipeOp) : (later s k op).fight = s.fight := rfl
@[simp] theorem later_icu (k : Nat) (op : PipeOp) : (later s k op).icu = s.icu := rfl
@[simp] theorem later_xwait (k : Nat) (op : PipeOp) : (later s k op).xwait = s.xwait := rfl
@[simp] theorem later_xfly (k : Nat) (op : PipeOp) : (later s k op).xfly = s.xfly := rfl
@[simp] theorem later_xback (k : Nat) (op : PipeOp) : (later s k op).xback = s.xback := rfl
@[simp] theorem later_timers (k : Nat) (op : PipeOp) : (later s k op).timers = s.timers := rfl
@[simp] theorem later_armed (k : Nat) (op : PipeOp) : (later s k op).armed = s.armed := rfl
@[simp] theorem later_ctr (k : Nat) (op : PipeOp) : (later s k op).ctr = s.ctr := rfl
@[simp] theorem later_led (k : Nat) (op : PipeOp) : (later s k op).led = s.led := rfl
@[simp] theorem later_far (k : Nat) (op : PipeOp) : (later s k op).far = s.far := rfl
@[simp] theorem later_chan (k : Nat) (op : PipeOp) : (later s k op).chan = s.chan := rfl
@[simp] theorem later_pool (k : Nat) (op : PipeOp) : (later s k op).pool = s.pool := rfl
@[simp] theorem later_resv (k : Nat) (op : PipeOp) : (later s k op).resv = s.resv := rfl
@[simp] theorem later_areq (k : Nat) (op : PipeOp) : (later s k op).areq = s.areq := rfl
@[simp] theorem later_mr (k : Nat) (op : PipeOp) : (later s k op).mr = s.mr := rfl
@[simp] theorem later_pp (k : Nat) (op : PipeOp) : (later s k op).pp = s.pp := rfl
@[simp] theorem later_mover (k : Nat) (op : PipeOp) : (later s k op).mover = s.mover := rfl
@[simp] theorem later_slot (k : Nat) (op : PipeOp) : (later s k op).slot = s.slot := rfl
@[simp] theorem later_nvByte (k : Nat) (op : PipeOp) : (later s k op).nvByte = s.nvByte := rfl
@[simp] theorem later_cache (k : Nat) (op : PipeOp) : (later s k op).cache = s.cache := rfl
@[simp] theorem later_usb (k : Nat) (op : PipeOp) : (later s k op).usb = s.usb := rfl
@[simp] theorem later_eth (k : Nat) (op : PipeOp) : (later s k op).eth = s.eth := rfl
@[simp] theorem later_uart (k : Nat) (op : PipeOp) : (later s k op).uart = s.uart := rfl
@[simp] theorem later_kx (k : Nat) (op : PipeOp) : (later s k op).kx = s.kx := rfl
@[simp] theorem later_wp (k : Nat) (op : PipeOp) : (later s k op).wp = s.wp := rfl
@[simp] theorem later_spi (k : Nat) (op : PipeOp) : (later s k op).spi = s.spi := rfl
@[simp] theorem later_nv (k : Nat) (op : PipeOp) : (later s k op).nv = s.nv := rfl
@[simp] theorem later_dbg (k : Nat) (op : PipeOp) : (later s k op).dbg = s.dbg := rfl
@[simp] theorem later_mon (k : Nat) (op : PipeOp) : (later s k op).mon = s.mon := rfl
@[simp] theorem later_dbgWorld (k : Nat) (op : PipeOp) : (later s k op).dbgWorld = s.dbgWorld := rfl

@[simp] theorem landG_pending (t r i : Nat) (v : Byte) : (landG s t r i v).pending = s.pending := rfl
@[simp] theorem landG_time (t r i : Nat) (v : Byte) : (landG s t r i v).time = s.time := rfl
@[simp] theorem landG_cycles (t r i : Nat) (v : Byte) : (landG s t r i v).cycles = s.cycles := rfl
@[simp] theorem landG_fresh (t r i : Nat) (v : Byte) : (landG s t r i v).fresh = s.fresh := rfl
@[simp] theorem landG_io (t r i : Nat) (v : Byte) : (landG s t r i v).io = s.io := rfl
@[simp] theorem landG_shadow (t r i : Nat) (v : Byte) : (landG s t r i v).shadow = s.shadow := rfl
@[simp] theorem landG_staged (t r i : Nat) (v : Byte) : (landG s t r i v).staged = s.staged := rfl
@[simp] theorem landG_dev (t r i : Nat) (v : Byte) : (landG s t r i v).dev = s.dev := rfl
@[simp] theorem landG_lag (t r i : Nat) (v : Byte) : (landG s t r i v).lag = s.lag := rfl
@[simp] theorem landG_near (t r i : Nat) (v : Byte) : (landG s t r i v).near = s.near := rfl
@[simp] theorem landG_bits (t r i : Nat) (v : Byte) : (landG s t r i v).bits = s.bits := rfl
@[simp] theorem landG_iram (t r i : Nat) (v : Byte) : (landG s t r i v).iram = s.iram := rfl
@[simp] theorem landG_retain (t r i : Nat) (v : Byte) : (landG s t r i v).retain = s.retain := rfl
@[simp] theorem landG_pads (t r i : Nat) (v : Byte) : (landG s t r i v).pads = s.pads := rfl
@[simp] theorem landG_fight (t r i : Nat) (v : Byte) : (landG s t r i v).fight = s.fight := rfl
@[simp] theorem landG_icu (t r i : Nat) (v : Byte) : (landG s t r i v).icu = s.icu := rfl
@[simp] theorem landG_xwait (t r i : Nat) (v : Byte) : (landG s t r i v).xwait = s.xwait := rfl
@[simp] theorem landG_xfly (t r i : Nat) (v : Byte) : (landG s t r i v).xfly = s.xfly := rfl
@[simp] theorem landG_xback (t r i : Nat) (v : Byte) : (landG s t r i v).xback = s.xback := rfl
@[simp] theorem landG_timers (t r i : Nat) (v : Byte) : (landG s t r i v).timers = s.timers := rfl
@[simp] theorem landG_armed (t r i : Nat) (v : Byte) : (landG s t r i v).armed = s.armed := rfl
@[simp] theorem landG_ctr (t r i : Nat) (v : Byte) : (landG s t r i v).ctr = s.ctr := rfl
@[simp] theorem landG_led (t r i : Nat) (v : Byte) : (landG s t r i v).led = s.led := rfl
@[simp] theorem landG_far (t r i : Nat) (v : Byte) : (landG s t r i v).far = s.far := rfl
@[simp] theorem landG_chan (t r i : Nat) (v : Byte) : (landG s t r i v).chan = s.chan := rfl
@[simp] theorem landG_pool (t r i : Nat) (v : Byte) : (landG s t r i v).pool = s.pool := rfl
@[simp] theorem landG_resv (t r i : Nat) (v : Byte) : (landG s t r i v).resv = s.resv := rfl
@[simp] theorem landG_areq (t r i : Nat) (v : Byte) : (landG s t r i v).areq = s.areq := rfl
@[simp] theorem landG_mr (t r i : Nat) (v : Byte) : (landG s t r i v).mr = s.mr := rfl
@[simp] theorem landG_pp (t r i : Nat) (v : Byte) : (landG s t r i v).pp = s.pp := rfl
@[simp] theorem landG_mover (t r i : Nat) (v : Byte) : (landG s t r i v).mover = s.mover := rfl
@[simp] theorem landG_slot (t r i : Nat) (v : Byte) : (landG s t r i v).slot = s.slot := rfl
@[simp] theorem landG_nvByte (t r i : Nat) (v : Byte) : (landG s t r i v).nvByte = s.nvByte := rfl
@[simp] theorem landG_cache (t r i : Nat) (v : Byte) : (landG s t r i v).cache = s.cache := rfl
@[simp] theorem landG_usb (t r i : Nat) (v : Byte) : (landG s t r i v).usb = s.usb := rfl
@[simp] theorem landG_eth (t r i : Nat) (v : Byte) : (landG s t r i v).eth = s.eth := rfl
@[simp] theorem landG_uart (t r i : Nat) (v : Byte) : (landG s t r i v).uart = s.uart := rfl
@[simp] theorem landG_kx (t r i : Nat) (v : Byte) : (landG s t r i v).kx = s.kx := rfl
@[simp] theorem landG_wp (t r i : Nat) (v : Byte) : (landG s t r i v).wp = s.wp := rfl
@[simp] theorem landG_spi (t r i : Nat) (v : Byte) : (landG s t r i v).spi = s.spi := rfl
@[simp] theorem landG_nv (t r i : Nat) (v : Byte) : (landG s t r i v).nv = s.nv := rfl
@[simp] theorem landG_dbg (t r i : Nat) (v : Byte) : (landG s t r i v).dbg = s.dbg := rfl
@[simp] theorem landG_mon (t r i : Nat) (v : Byte) : (landG s t r i v).mon = s.mon := rfl
@[simp] theorem landG_dbgWorld (t r i : Nat) (v : Byte) : (landG s t r i v).dbgWorld = s.dbgWorld := rfl

@[simp] theorem landP_pending (t r i : Nat) (v : Word) : (landP s t r i v).pending = s.pending := rfl
@[simp] theorem landP_time (t r i : Nat) (v : Word) : (landP s t r i v).time = s.time := rfl
@[simp] theorem landP_cycles (t r i : Nat) (v : Word) : (landP s t r i v).cycles = s.cycles := rfl
@[simp] theorem landP_fresh (t r i : Nat) (v : Word) : (landP s t r i v).fresh = s.fresh := rfl
@[simp] theorem landP_io (t r i : Nat) (v : Word) : (landP s t r i v).io = s.io := rfl
@[simp] theorem landP_shadow (t r i : Nat) (v : Word) : (landP s t r i v).shadow = s.shadow := rfl
@[simp] theorem landP_staged (t r i : Nat) (v : Word) : (landP s t r i v).staged = s.staged := rfl
@[simp] theorem landP_dev (t r i : Nat) (v : Word) : (landP s t r i v).dev = s.dev := rfl
@[simp] theorem landP_lag (t r i : Nat) (v : Word) : (landP s t r i v).lag = s.lag := rfl
@[simp] theorem landP_near (t r i : Nat) (v : Word) : (landP s t r i v).near = s.near := rfl
@[simp] theorem landP_bits (t r i : Nat) (v : Word) : (landP s t r i v).bits = s.bits := rfl
@[simp] theorem landP_iram (t r i : Nat) (v : Word) : (landP s t r i v).iram = s.iram := rfl
@[simp] theorem landP_retain (t r i : Nat) (v : Word) : (landP s t r i v).retain = s.retain := rfl
@[simp] theorem landP_pads (t r i : Nat) (v : Word) : (landP s t r i v).pads = s.pads := rfl
@[simp] theorem landP_fight (t r i : Nat) (v : Word) : (landP s t r i v).fight = s.fight := rfl
@[simp] theorem landP_icu (t r i : Nat) (v : Word) : (landP s t r i v).icu = s.icu := rfl
@[simp] theorem landP_xwait (t r i : Nat) (v : Word) : (landP s t r i v).xwait = s.xwait := rfl
@[simp] theorem landP_xfly (t r i : Nat) (v : Word) : (landP s t r i v).xfly = s.xfly := rfl
@[simp] theorem landP_xback (t r i : Nat) (v : Word) : (landP s t r i v).xback = s.xback := rfl
@[simp] theorem landP_timers (t r i : Nat) (v : Word) : (landP s t r i v).timers = s.timers := rfl
@[simp] theorem landP_armed (t r i : Nat) (v : Word) : (landP s t r i v).armed = s.armed := rfl
@[simp] theorem landP_ctr (t r i : Nat) (v : Word) : (landP s t r i v).ctr = s.ctr := rfl
@[simp] theorem landP_led (t r i : Nat) (v : Word) : (landP s t r i v).led = s.led := rfl
@[simp] theorem landP_far (t r i : Nat) (v : Word) : (landP s t r i v).far = s.far := rfl
@[simp] theorem landP_chan (t r i : Nat) (v : Word) : (landP s t r i v).chan = s.chan := rfl
@[simp] theorem landP_pool (t r i : Nat) (v : Word) : (landP s t r i v).pool = s.pool := rfl
@[simp] theorem landP_resv (t r i : Nat) (v : Word) : (landP s t r i v).resv = s.resv := rfl
@[simp] theorem landP_areq (t r i : Nat) (v : Word) : (landP s t r i v).areq = s.areq := rfl
@[simp] theorem landP_mr (t r i : Nat) (v : Word) : (landP s t r i v).mr = s.mr := rfl
@[simp] theorem landP_pp (t r i : Nat) (v : Word) : (landP s t r i v).pp = s.pp := rfl
@[simp] theorem landP_mover (t r i : Nat) (v : Word) : (landP s t r i v).mover = s.mover := rfl
@[simp] theorem landP_slot (t r i : Nat) (v : Word) : (landP s t r i v).slot = s.slot := rfl
@[simp] theorem landP_nvByte (t r i : Nat) (v : Word) : (landP s t r i v).nvByte = s.nvByte := rfl
@[simp] theorem landP_cache (t r i : Nat) (v : Word) : (landP s t r i v).cache = s.cache := rfl
@[simp] theorem landP_usb (t r i : Nat) (v : Word) : (landP s t r i v).usb = s.usb := rfl
@[simp] theorem landP_eth (t r i : Nat) (v : Word) : (landP s t r i v).eth = s.eth := rfl
@[simp] theorem landP_uart (t r i : Nat) (v : Word) : (landP s t r i v).uart = s.uart := rfl
@[simp] theorem landP_kx (t r i : Nat) (v : Word) : (landP s t r i v).kx = s.kx := rfl
@[simp] theorem landP_wp (t r i : Nat) (v : Word) : (landP s t r i v).wp = s.wp := rfl
@[simp] theorem landP_spi (t r i : Nat) (v : Word) : (landP s t r i v).spi = s.spi := rfl
@[simp] theorem landP_nv (t r i : Nat) (v : Word) : (landP s t r i v).nv = s.nv := rfl
@[simp] theorem landP_dbg (t r i : Nat) (v : Word) : (landP s t r i v).dbg = s.dbg := rfl
@[simp] theorem landP_mon (t r i : Nat) (v : Word) : (landP s t r i v).mon = s.mon := rfl
@[simp] theorem landP_dbgWorld (t r i : Nat) (v : Word) : (landP s t r i v).dbgWorld = s.dbgWorld := rfl

@[simp] theorem setMover_pending (c i : Nat) (m : Option Mover) : (setMover s c i m).pending = s.pending := rfl
@[simp] theorem setMover_time (c i : Nat) (m : Option Mover) : (setMover s c i m).time = s.time := rfl
@[simp] theorem setMover_cycles (c i : Nat) (m : Option Mover) : (setMover s c i m).cycles = s.cycles := rfl
@[simp] theorem setMover_fresh (c i : Nat) (m : Option Mover) : (setMover s c i m).fresh = s.fresh := rfl
@[simp] theorem setMover_io (c i : Nat) (m : Option Mover) : (setMover s c i m).io = s.io := rfl
@[simp] theorem setMover_shadow (c i : Nat) (m : Option Mover) : (setMover s c i m).shadow = s.shadow := rfl
@[simp] theorem setMover_staged (c i : Nat) (m : Option Mover) : (setMover s c i m).staged = s.staged := rfl
@[simp] theorem setMover_dev (c i : Nat) (m : Option Mover) : (setMover s c i m).dev = s.dev := rfl
@[simp] theorem setMover_thr (c i : Nat) (m : Option Mover) : (setMover s c i m).thr = s.thr := rfl
@[simp] theorem setMover_pipe (c i : Nat) (m : Option Mover) : (setMover s c i m).pipe = s.pipe := rfl
@[simp] theorem setMover_lag (c i : Nat) (m : Option Mover) : (setMover s c i m).lag = s.lag := rfl
@[simp] theorem setMover_near (c i : Nat) (m : Option Mover) : (setMover s c i m).near = s.near := rfl
@[simp] theorem setMover_bits (c i : Nat) (m : Option Mover) : (setMover s c i m).bits = s.bits := rfl
@[simp] theorem setMover_iram (c i : Nat) (m : Option Mover) : (setMover s c i m).iram = s.iram := rfl
@[simp] theorem setMover_retain (c i : Nat) (m : Option Mover) : (setMover s c i m).retain = s.retain := rfl
@[simp] theorem setMover_pads (c i : Nat) (m : Option Mover) : (setMover s c i m).pads = s.pads := rfl
@[simp] theorem setMover_fight (c i : Nat) (m : Option Mover) : (setMover s c i m).fight = s.fight := rfl
@[simp] theorem setMover_icu (c i : Nat) (m : Option Mover) : (setMover s c i m).icu = s.icu := rfl
@[simp] theorem setMover_xwait (c i : Nat) (m : Option Mover) : (setMover s c i m).xwait = s.xwait := rfl
@[simp] theorem setMover_xfly (c i : Nat) (m : Option Mover) : (setMover s c i m).xfly = s.xfly := rfl
@[simp] theorem setMover_xback (c i : Nat) (m : Option Mover) : (setMover s c i m).xback = s.xback := rfl
@[simp] theorem setMover_timers (c i : Nat) (m : Option Mover) : (setMover s c i m).timers = s.timers := rfl
@[simp] theorem setMover_armed (c i : Nat) (m : Option Mover) : (setMover s c i m).armed = s.armed := rfl
@[simp] theorem setMover_ctr (c i : Nat) (m : Option Mover) : (setMover s c i m).ctr = s.ctr := rfl
@[simp] theorem setMover_led (c i : Nat) (m : Option Mover) : (setMover s c i m).led = s.led := rfl
@[simp] theorem setMover_far (c i : Nat) (m : Option Mover) : (setMover s c i m).far = s.far := rfl
@[simp] theorem setMover_chan (c i : Nat) (m : Option Mover) : (setMover s c i m).chan = s.chan := rfl
@[simp] theorem setMover_pool (c i : Nat) (m : Option Mover) : (setMover s c i m).pool = s.pool := rfl
@[simp] theorem setMover_resv (c i : Nat) (m : Option Mover) : (setMover s c i m).resv = s.resv := rfl
@[simp] theorem setMover_areq (c i : Nat) (m : Option Mover) : (setMover s c i m).areq = s.areq := rfl
@[simp] theorem setMover_mr (c i : Nat) (m : Option Mover) : (setMover s c i m).mr = s.mr := rfl
@[simp] theorem setMover_pp (c i : Nat) (m : Option Mover) : (setMover s c i m).pp = s.pp := rfl
@[simp] theorem setMover_slot (c i : Nat) (m : Option Mover) : (setMover s c i m).slot = s.slot := rfl
@[simp] theorem setMover_nvByte (c i : Nat) (m : Option Mover) : (setMover s c i m).nvByte = s.nvByte := rfl
@[simp] theorem setMover_cache (c i : Nat) (m : Option Mover) : (setMover s c i m).cache = s.cache := rfl
@[simp] theorem setMover_usb (c i : Nat) (m : Option Mover) : (setMover s c i m).usb = s.usb := rfl
@[simp] theorem setMover_eth (c i : Nat) (m : Option Mover) : (setMover s c i m).eth = s.eth := rfl
@[simp] theorem setMover_uart (c i : Nat) (m : Option Mover) : (setMover s c i m).uart = s.uart := rfl
@[simp] theorem setMover_kx (c i : Nat) (m : Option Mover) : (setMover s c i m).kx = s.kx := rfl
@[simp] theorem setMover_wp (c i : Nat) (m : Option Mover) : (setMover s c i m).wp = s.wp := rfl
@[simp] theorem setMover_spi (c i : Nat) (m : Option Mover) : (setMover s c i m).spi = s.spi := rfl
@[simp] theorem setMover_nv (c i : Nat) (m : Option Mover) : (setMover s c i m).nv = s.nv := rfl
@[simp] theorem setMover_dbg (c i : Nat) (m : Option Mover) : (setMover s c i m).dbg = s.dbg := rfl
@[simp] theorem setMover_mon (c i : Nat) (m : Option Mover) : (setMover s c i m).mon = s.mon := rfl
@[simp] theorem setMover_dbgWorld (c i : Nat) (m : Option Mover) : (setMover s c i m).dbgWorld = s.dbgWorld := rfl

@[simp] theorem setLedger_pending (l : Ledger) : (setLedger s l).pending = s.pending := rfl
@[simp] theorem setLedger_time (l : Ledger) : (setLedger s l).time = s.time := rfl
@[simp] theorem setLedger_cycles (l : Ledger) : (setLedger s l).cycles = s.cycles := rfl
@[simp] theorem setLedger_fresh (l : Ledger) : (setLedger s l).fresh = s.fresh := rfl
@[simp] theorem setLedger_io (l : Ledger) : (setLedger s l).io = s.io := rfl
@[simp] theorem setLedger_shadow (l : Ledger) : (setLedger s l).shadow = s.shadow := rfl
@[simp] theorem setLedger_staged (l : Ledger) : (setLedger s l).staged = s.staged := rfl
@[simp] theorem setLedger_dev (l : Ledger) : (setLedger s l).dev = s.dev := rfl
@[simp] theorem setLedger_thr (l : Ledger) : (setLedger s l).thr = s.thr := rfl
@[simp] theorem setLedger_pipe (l : Ledger) : (setLedger s l).pipe = s.pipe := rfl
@[simp] theorem setLedger_lag (l : Ledger) : (setLedger s l).lag = s.lag := rfl
@[simp] theorem setLedger_near (l : Ledger) : (setLedger s l).near = s.near := rfl
@[simp] theorem setLedger_bits (l : Ledger) : (setLedger s l).bits = s.bits := rfl
@[simp] theorem setLedger_iram (l : Ledger) : (setLedger s l).iram = s.iram := rfl
@[simp] theorem setLedger_retain (l : Ledger) : (setLedger s l).retain = s.retain := rfl
@[simp] theorem setLedger_pads (l : Ledger) : (setLedger s l).pads = s.pads := rfl
@[simp] theorem setLedger_fight (l : Ledger) : (setLedger s l).fight = s.fight := rfl
@[simp] theorem setLedger_icu (l : Ledger) : (setLedger s l).icu = s.icu := rfl
@[simp] theorem setLedger_xwait (l : Ledger) : (setLedger s l).xwait = s.xwait := rfl
@[simp] theorem setLedger_xfly (l : Ledger) : (setLedger s l).xfly = s.xfly := rfl
@[simp] theorem setLedger_xback (l : Ledger) : (setLedger s l).xback = s.xback := rfl
@[simp] theorem setLedger_timers (l : Ledger) : (setLedger s l).timers = s.timers := rfl
@[simp] theorem setLedger_armed (l : Ledger) : (setLedger s l).armed = s.armed := rfl
@[simp] theorem setLedger_ctr (l : Ledger) : (setLedger s l).ctr = s.ctr := rfl
@[simp] theorem setLedger_led (l : Ledger) : (setLedger s l).led = l := rfl
@[simp] theorem setLedger_far (l : Ledger) : (setLedger s l).far = s.far := rfl
@[simp] theorem setLedger_chan (l : Ledger) : (setLedger s l).chan = s.chan := rfl
@[simp] theorem setLedger_pool (l : Ledger) : (setLedger s l).pool = s.pool := rfl
@[simp] theorem setLedger_resv (l : Ledger) : (setLedger s l).resv = s.resv := rfl
@[simp] theorem setLedger_areq (l : Ledger) : (setLedger s l).areq = s.areq := rfl
@[simp] theorem setLedger_mr (l : Ledger) : (setLedger s l).mr = s.mr := rfl
@[simp] theorem setLedger_pp (l : Ledger) : (setLedger s l).pp = s.pp := rfl
@[simp] theorem setLedger_mover (l : Ledger) : (setLedger s l).mover = s.mover := rfl
@[simp] theorem setLedger_slot (l : Ledger) : (setLedger s l).slot = s.slot := rfl
@[simp] theorem setLedger_nvByte (l : Ledger) : (setLedger s l).nvByte = s.nvByte := rfl
@[simp] theorem setLedger_cache (l : Ledger) : (setLedger s l).cache = s.cache := rfl
@[simp] theorem setLedger_usb (l : Ledger) : (setLedger s l).usb = s.usb := rfl
@[simp] theorem setLedger_eth (l : Ledger) : (setLedger s l).eth = s.eth := rfl
@[simp] theorem setLedger_uart (l : Ledger) : (setLedger s l).uart = s.uart := rfl
@[simp] theorem setLedger_kx (l : Ledger) : (setLedger s l).kx = s.kx := rfl
@[simp] theorem setLedger_wp (l : Ledger) : (setLedger s l).wp = s.wp := rfl
@[simp] theorem setLedger_spi (l : Ledger) : (setLedger s l).spi = s.spi := rfl
@[simp] theorem setLedger_nv (l : Ledger) : (setLedger s l).nv = s.nv := rfl
@[simp] theorem setLedger_dbg (l : Ledger) : (setLedger s l).dbg = s.dbg := rfl
@[simp] theorem setLedger_mon (l : Ledger) : (setLedger s l).mon = s.mon := rfl
@[simp] theorem setLedger_dbgWorld (l : Ledger) : (setLedger s l).dbgWorld = s.dbgWorld := rfl

@[simp] theorem setLastUpdate_pending (b : Nat) (x : Option Nat) : (setLastUpdate s b x).pending = s.pending := rfl
@[simp] theorem setLastUpdate_time (b : Nat) (x : Option Nat) : (setLastUpdate s b x).time = s.time := rfl
@[simp] theorem setLastUpdate_cycles (b : Nat) (x : Option Nat) : (setLastUpdate s b x).cycles = s.cycles := rfl
@[simp] theorem setLastUpdate_fresh (b : Nat) (x : Option Nat) : (setLastUpdate s b x).fresh = s.fresh := rfl
@[simp] theorem setLastUpdate_io (b : Nat) (x : Option Nat) : (setLastUpdate s b x).io = s.io := rfl
@[simp] theorem setLastUpdate_shadow (b : Nat) (x : Option Nat) : (setLastUpdate s b x).shadow = s.shadow := rfl
@[simp] theorem setLastUpdate_staged (b : Nat) (x : Option Nat) : (setLastUpdate s b x).staged = s.staged := rfl
@[simp] theorem setLastUpdate_dev (b : Nat) (x : Option Nat) : (setLastUpdate s b x).dev = s.dev := rfl
@[simp] theorem setLastUpdate_thr (b : Nat) (x : Option Nat) : (setLastUpdate s b x).thr = s.thr := rfl
@[simp] theorem setLastUpdate_pipe (b : Nat) (x : Option Nat) : (setLastUpdate s b x).pipe = s.pipe := rfl
@[simp] theorem setLastUpdate_lag (b : Nat) (x : Option Nat) : (setLastUpdate s b x).lag = s.lag := rfl
@[simp] theorem setLastUpdate_near (b : Nat) (x : Option Nat) : (setLastUpdate s b x).near = s.near := rfl
@[simp] theorem setLastUpdate_bits (b : Nat) (x : Option Nat) : (setLastUpdate s b x).bits = s.bits := rfl
@[simp] theorem setLastUpdate_iram (b : Nat) (x : Option Nat) : (setLastUpdate s b x).iram = s.iram := rfl
@[simp] theorem setLastUpdate_retain (b : Nat) (x : Option Nat) : (setLastUpdate s b x).retain = s.retain := rfl
@[simp] theorem setLastUpdate_pads (b : Nat) (x : Option Nat) : (setLastUpdate s b x).pads = s.pads := rfl
@[simp] theorem setLastUpdate_fight (b : Nat) (x : Option Nat) : (setLastUpdate s b x).fight = s.fight := rfl
@[simp] theorem setLastUpdate_icu (b : Nat) (x : Option Nat) : (setLastUpdate s b x).icu = s.icu := rfl
@[simp] theorem setLastUpdate_xwait (b : Nat) (x : Option Nat) : (setLastUpdate s b x).xwait = s.xwait := rfl
@[simp] theorem setLastUpdate_xfly (b : Nat) (x : Option Nat) : (setLastUpdate s b x).xfly = s.xfly := rfl
@[simp] theorem setLastUpdate_xback (b : Nat) (x : Option Nat) : (setLastUpdate s b x).xback = s.xback := rfl
@[simp] theorem setLastUpdate_timers (b : Nat) (x : Option Nat) : (setLastUpdate s b x).timers = s.timers := rfl
@[simp] theorem setLastUpdate_armed (b : Nat) (x : Option Nat) : (setLastUpdate s b x).armed = s.armed := rfl
@[simp] theorem setLastUpdate_ctr (b : Nat) (x : Option Nat) : (setLastUpdate s b x).ctr = s.ctr := rfl
@[simp] theorem setLastUpdate_far (b : Nat) (x : Option Nat) : (setLastUpdate s b x).far = s.far := rfl
@[simp] theorem setLastUpdate_chan (b : Nat) (x : Option Nat) : (setLastUpdate s b x).chan = s.chan := rfl
@[simp] theorem setLastUpdate_pool (b : Nat) (x : Option Nat) : (setLastUpdate s b x).pool = s.pool := rfl
@[simp] theorem setLastUpdate_resv (b : Nat) (x : Option Nat) : (setLastUpdate s b x).resv = s.resv := rfl
@[simp] theorem setLastUpdate_areq (b : Nat) (x : Option Nat) : (setLastUpdate s b x).areq = s.areq := rfl
@[simp] theorem setLastUpdate_mr (b : Nat) (x : Option Nat) : (setLastUpdate s b x).mr = s.mr := rfl
@[simp] theorem setLastUpdate_pp (b : Nat) (x : Option Nat) : (setLastUpdate s b x).pp = s.pp := rfl
@[simp] theorem setLastUpdate_mover (b : Nat) (x : Option Nat) : (setLastUpdate s b x).mover = s.mover := rfl
@[simp] theorem setLastUpdate_slot (b : Nat) (x : Option Nat) : (setLastUpdate s b x).slot = s.slot := rfl
@[simp] theorem setLastUpdate_nvByte (b : Nat) (x : Option Nat) : (setLastUpdate s b x).nvByte = s.nvByte := rfl
@[simp] theorem setLastUpdate_cache (b : Nat) (x : Option Nat) : (setLastUpdate s b x).cache = s.cache := rfl
@[simp] theorem setLastUpdate_usb (b : Nat) (x : Option Nat) : (setLastUpdate s b x).usb = s.usb := rfl
@[simp] theorem setLastUpdate_eth (b : Nat) (x : Option Nat) : (setLastUpdate s b x).eth = s.eth := rfl
@[simp] theorem setLastUpdate_uart (b : Nat) (x : Option Nat) : (setLastUpdate s b x).uart = s.uart := rfl
@[simp] theorem setLastUpdate_kx (b : Nat) (x : Option Nat) : (setLastUpdate s b x).kx = s.kx := rfl
@[simp] theorem setLastUpdate_wp (b : Nat) (x : Option Nat) : (setLastUpdate s b x).wp = s.wp := rfl
@[simp] theorem setLastUpdate_spi (b : Nat) (x : Option Nat) : (setLastUpdate s b x).spi = s.spi := rfl
@[simp] theorem setLastUpdate_nv (b : Nat) (x : Option Nat) : (setLastUpdate s b x).nv = s.nv := rfl
@[simp] theorem setLastUpdate_dbg (b : Nat) (x : Option Nat) : (setLastUpdate s b x).dbg = s.dbg := rfl
@[simp] theorem setLastUpdate_mon (b : Nat) (x : Option Nat) : (setLastUpdate s b x).mon = s.mon := rfl
@[simp] theorem setLastUpdate_dbgWorld (b : Nat) (x : Option Nat) : (setLastUpdate s b x).dbgWorld = s.dbgWorld := rfl

end Sys2Proof.Laws
end

