-- ==== Sys2Proof/Laws/Guards.lean ====
section
/-!
SUPPORT. What the guards of every row answer: a row that is taken is its effect, any other leaves the state as it is; the tie rule; counting
and raising from an island; what issuing an instruction comes to.
-/
namespace Sys2Proof.Laws
open Sys2Proof.Machine

variable {s : State}

/-! ## Rows -/

theorem Does.intro {c : Instr} {P : State → Prop} {t : State} (h : exec c s = .next t) (hp : P t) : Does c s P := ⟨t, h, hp⟩

theorem Does.mono {c : Instr} {P Q : State → Prop} (h : Does c s P) (hpq : ∀ t, P t → Q t) : Does c s Q :=
  let ⟨t, e, p⟩ := h; ⟨t, e, hpq t p⟩

theorem liveIn_live {i : Island} (h : Live s i) (f : State → State) : liveIn s i f = .next (f s) := by
  simp [liveIn, h.1, h.2]

theorem liveIn_dead {i : Island} (h : ¬ Live s i) (f : State → State) : liveIn s i f = .next s := by
  have : ¬ (s.dev.phase = .awake ∧ islandRuns s i = true) := h
  simp only [liveIn, if_neg this]

/-- A row is its effect or nothing. -/
theorem liveIn_cases (s : State) (i : Island) (f : State → State) : liveIn s i f = .next (f s) ∨ liveIn s i f = .next s := by
  by_cases h : Live s i
  · exact .inl (liveIn_live h f)
  · exact .inr (liveIn_dead h f)

theorem writeReg_taken {req : Nat} {r : Rg} {i : Nat} (h : MayWrite s req r i) (f : State → State) : writeReg s req r i f = .next (f s) := by
  obtain ⟨hl, hp, hk⟩ := h
  simp [writeReg, liveIn_live hl, hp, hk]

/-- A refused write of a register is reported and has no other effect. -/
theorem writeReg_refused {req : Nat} {r : Rg} {i : Nat} (h : Live s (regIsland r i)) (hp : permitted s req r i (reqWorld s req) true = false)
    (f : State → State) : writeReg s req r i f = .next (refuseReg s req r i) := by
  simp [writeReg, liveIn_live h, hp]

/-- A frozen limit ignores the write. -/
theorem writeReg_locked {req : Nat} {r : Rg} {i : Nat} (h : Live s (regIsland r i)) (hp : permitted s req r i (reqWorld s req) true = true)
    (hk : limitLocked s r = true) (f : State → State) : writeReg s req r i f = .next s := by
  simp [writeReg, liveIn_live h, hp, hk]

theorem readRegRow_taken {req : Nat} {r : Rg} {i : Nat} (h : MayRead s req r i) (f : State → Bool → State) :
    readRegRow s req r i f = .next (f s true) := by
  obtain ⟨hl, hp⟩ := h
  simp [readRegRow, liveIn_live hl, hp]

/-! ## Expiries (R249, R252) -/

theorem expire_due {k : Nat} (i : Island) (h : timerDue s k = true) (f : State → State) : expire s i k false f = f (stopTimer s k) := by
  simp [expire, h]

theorem expire_tie {k : Nat} (i : Island) (h : timerDue s k = true) (f : State → State) : expire s i k true f = count (stopTimer s k) i 0x08 := by
  simp [expire, h]

theorem expire_not_due {k : Nat} (i : Island) (h : timerDue s k = false) (f : State → State) : expire s i k false f = s := by
  simp [expire, h]

/-- An arrival on the edge on which its timer starts (R263). -/
theorem expire_armed {k : Nat} (i : Island) (h : justArmed s k = true) (f : State → State) :
    expire s i k true f = count (stopTimer s k) i 0x08 := by
  simp [expire, h]

/-! ## Reports to CORE -/

theorem count_send {i : Island} (h : i ≠ .core) (s : State) (code : Nat) : count s i code = send s (toCore i) (.count code 1) := by
  simp [count, countN, h]

theorem raise_send {i : Island} (h : i ≠ .core) (s : State) (src : Nat) : raise s i src = send s (toCore i) (.edge src) := by
  simp [raise, h]

/-! ## States of units -/

theorem unitIsland_ne_core (u : Nat) : unitIsland u ≠ .core := by
  unfold unitIsland
  repeat' split
  all_goals decide

theorem setUnit_thr (s : State) (u m d : Nat) : (setUnit s u m d).thr = s.thr := by
  have h := unitIsland_ne_core u
  unfold setUnit
  dsimp only
  split
  · rfl
  · split <;> (try simp only [raise_send h]) <;> split <;> rfl

theorem setUnit_memory (s : State) (u m d : Nat) : SameMemory s (setUnit s u m d) := by
  have h := unitIsland_ne_core u
  unfold setUnit
  dsimp only
  split
  · exact ⟨rfl, rfl, rfl, rfl, rfl, rfl, rfl, rfl, rfl, rfl, rfl⟩
  · split <;> (try simp only [raise_send h]) <;> split <;> exact ⟨rfl, rfl, rfl, rfl, rfl, rfl, rfl, rfl, rfl, rfl, rfl⟩

theorem issueBegin_thr (s : State) (t : Nat) : issueBegin s t = setThr s t (issued (thr s t)) := rfl

theorem issueBegin_memory (s : State) (t : Nat) : SameMemory s (issueBegin s t) := ⟨rfl, rfl, rfl, rfl, rfl, rfl, rfl, rfl, rfl, rfl, rfl⟩

theorem SameMemory.refl (s : State) : SameMemory s s := ⟨rfl, rfl, rfl, rfl, rfl, rfl, rfl, rfl, rfl, rfl, rfl⟩

theorem SameMemory.trans {s t u : State} (h : SameMemory s t) (k : SameMemory t u) : SameMemory s u := by
  unfold SameMemory at *
  simp_all

/-! ## Issuing -/

/-- With nothing in the pipeline a cycle is a cycle. -/
theorem cycleStep_quiet {s : State} (h : Quiet s) : cycleStep s = { s with cycles := s.cycles + 1 } := by
  have hp : ({ s with pipe := [] } : State) = s := by rw [← h.1]
  simp [cycleStep, edgeLevels, landDue, h.1, slotDue, h.2.1, h.2.2, hp]

/-- An instruction that issues plainly is its effect on the thread as its word issues. -/
theorem issueNow_plain {i : Instr} {fe : State} (hf : fetchRefused fe s i.thread = false) (hl : i.legal = true)
    (ht : (thr s i.thread).target = none ∨ notInSlot i = false) (ha : accessLimit s i = none) (op : State → State) :
    issueNow fe s i op = issueEnd (op (issueBegin s i.thread)) i.thread (thr s i.thread).target.isSome := by
  have hs : ((thr s i.thread).target.isSome && notInSlot i) = false := by
    rcases ht with ht | ht <;> simp [ht]
  simp [issueNow, hf, hl, hs, ha]

/-- An instruction whose slot comes is what it does in that slot. -/
theorem issue_slot {i : Instr} {fe t : State} (h : issueSlot s i.thread = some (fe, t)) (op : State → State) :
    issue s i op = .next (issueNow fe t i op) := by
  simp [issue, h]

/-- An instruction whose slot does not come leaves the state as it is. -/
theorem issue_none {i : Instr} (h : issueSlot s i.thread = none) (op : State → State) : issue s i op = .next s := by
  simp [issue, h]

end Sys2Proof.Laws
end

