-- ==== Sys2Proof/Tests/Slice0.lean ====
section
/-!
SUPPORT. The model's own tests: words and well-formedness by the spec's tables, and for each statement a state and operands that meet its
hypotheses, with what the command leaves there.
-/
namespace Sys2Proof.Tests
open Sys2Proof Sys2Proof.Machine
set_option maxRecDepth 20000

/-- The state after a command. -/
def after (c : Instr) (s : State) : State := match exec c s with | .next t => t | .fault _ => s | .refused _ => s

/-- The state once all that an instruction leaves in the pipeline has landed. -/
def landed (c : Instr) (s : State) : State := cyclesPass 6 (after c s)

/-- The destination of an access that the keeper's code issues in cycle `c`. -/
def dest (d : Dst) (c : Nat := 0) : Landing := ⟨d, c, true⟩

/-- A register set to a number. -/
def on (s : State) (r : Rg) (i v : Nat) : State := wr s r i (BitVec.ofNat 32 v)

/-- The reset state. -/
def base : State := State.reset

/-- Thread 0 with registers g1 = 5, g2 = 0xFE and C set. -/
def regs : State := setThr base 0 { setG (setG (thr base 0) 1 5) 2 0xFE with c := true }

/-- Thread 0 in normal world. -/
def normal : State := setThr base 0 { thr base 0 with world := true }

/-- The device with its LINK clocks. -/
def linked : State := on (on (setDev base { base.dev with linkOn := true }) .CLK_STAT 0 0x1F) .CLK_CTL 0 7

/-- The device in RUN. -/
def running : State := on base .PMU_MODE 0 1

/-- A function selected on a pin. -/
def pin (s : State) (n f : Nat) : State := on s .PIN_MUX n f

/-- The bytes of an entry that have reached its unit. -/
def brought (s : State) (c i : Nat) (bs : List Byte) : State := setMover s c i (some ⟨[], 0, bs.length, bs, 0, false⟩)

/-! ## Well-formed commands -/

theorem test_wf_shift_count : (Instr.shl 0 0 0 (.imm 8)).wf = false ∧ (Instr.shl 0 0 0 (.imm 7)).wf = true := by decide
theorem test_wf_mul_pair : (Instr.mul 0 3 0 (.reg 1) false).wf = false ∧ (Instr.mul 0 2 0 (.reg 1) false).wf = true := by decide
theorem test_wf_paddg : (Instr.paddg 0 0 1 true false).wf = false ∧ (Instr.paddg 0 0 2 true true).wf = false ∧
    (Instr.paddg 0 0 2 true false).wf = true := by decide
theorem test_wf_requester : (Instr.kolnexEnable 9).wf = false ∧ (Instr.kolnexEnable 8).wf = true := by decide
theorem test_wf_address : (Instr.registerWrite 0 65536 0).wf = false ∧ (Instr.registerWrite 0 65535 0).wf = true := by decide

/-! ## Words (R331-R335, R363), CRC-8 (R944, R1080) and CRC-16 (R873) -/

theorem test_word_alu : decodeWord 3 0x284A0080 = some (.add 3 1 2 (.imm 0x80)) ∧ encodeWord (.add 3 1 2 (.imm 0x80)) = some 0x284A0080 := by decide
theorem test_word_branch : decodeWord 1 0xD448FFFF = some (.jb 1 0x123 0x3FFF) := by decide
theorem test_word_reserved : decodeWord 1 0x74000000 = none ∧ decodeWord 2 0x5C400000 = none := by decide

theorem test_crc8 : crc8 [0x12, 0x05, 0x16, 0x00, 0xA0, 0x30, 0x04] = 0x33 ∧ crc8 [0x00, 0x04, 0x00, 0x3F, 0xFF, 0xC0] = 0xB0 := by decide
theorem test_no_bits : decodeTableWord 32 0x04000000 = none ∧ base.withFetchWord 32 0x04000000 = base := by decide

/-! ## The machine as a whole -/

theorem test_step_takes_front : (match step { base with pending := [.nop 0, .nop 1] } with
    | .next t => t.pending == [.nop 1] && (thr t 0).pc == 0xC001 | _ => false) = true := by decide
theorem test_idle : base.pending = [] ∧ base.dev.vddao = true ∧ base.dev.phase = .awake ∧ Quiet base ∧ base.far.rekey = none ∧ islandRuns base .core = true ∧
    (let d := setDev base { base.dev with vddao := false }; (match step d with | .next t => decide (t = d) | _ => false) = true) := by decide
theorem test_decode_witness : (Instr.add 3 1 2 (.imm 0x80)).legal = true ∧ encodeWord (.add 3 1 2 (.imm 0x80)) = some 0x284A0080 := by decide
theorem test_memory_form : memoriesOk base = true ∧ memoriesOk { base with near := [(4, 1)] } = true ∧
    memoriesOk { base with near := [(4, 0)] } = false ∧ memoriesOk { base with near := [(4, 1), (3, 1)] } = false := by decide
theorem test_reset_nwm : rd base .TG_NWM 0 = regReset .TG_NWM 0 ∧ regAddr .TG_NWM 0 ≠ 0x402 := by decide

/-! ## Nalti -/

theorem test_add : let s := regs; Plain s (.add 0 3 1 (.reg 2)) ∧
    (let t := thr (landed (.add 0 3 1 (.reg 2)) s) 0; getG t 3 = 3 ∧ t.c = true ∧ t.v = false ∧ t.pc = 0xC001) ∧
    getG (thr (cyclesPass 2 (after (.add 0 3 1 (.reg 2)) s)) 0) 3 = 0 ∧ getG (thr (cyclesPass 3 (after (.add 0 3 1 (.reg 2)) s)) 0) 3 = 3 := by decide
theorem test_adc : let s := regs; Plain s (.adc 0 1 1 (.imm 0x7A)) ∧
    (let t := thr (landed (.adc 0 1 1 (.imm 0x7A)) s) 0; getG t 1 = 0x80 ∧ t.c = false ∧ t.v = true) := by decide
theorem test_sub : let s := regs; Plain s (.sub 0 1 1 (.reg 2)) ∧
    (let t := thr (landed (.sub 0 1 1 (.reg 2)) s) 0; getG t 1 = 7 ∧ t.c = true ∧ t.v = false) := by decide
theorem test_sbc : let s := regs; Plain s (.sbc 0 1 2 (.imm 0x7F)) ∧
    (let t := thr (landed (.sbc 0 1 2 (.imm 0x7F)) s) 0; getG t 1 = 0x7E ∧ t.c = false ∧ t.v = true) := by decide
theorem test_mov_movi : Plain regs (.mov 0 3 1) ∧ Plain regs (.movi 0 3 9) ∧ getG (thr (landed (.mov 0 3 1) regs) 0) 3 = 5 ∧
    getG (thr (landed (.movi 0 3 9) regs) 0) 3 = 9 := by decide
theorem test_logic : Plain regs (.andR 0 3 1 (.reg 2)) ∧ Plain regs (.orR 0 3 1 (.reg 2)) ∧ Plain regs (.xorR 0 3 1 (.reg 2)) ∧ Plain regs (.notR 0 3 2) ∧
    getG (thr (landed (.andR 0 3 1 (.reg 2)) regs) 0) 3 = 4 ∧ getG (thr (landed (.orR 0 3 1 (.reg 2)) regs) 0) 3 = 0xFF ∧
    getG (thr (landed (.xorR 0 3 1 (.reg 2)) regs) 0) 3 = 0xFB ∧ getG (thr (landed (.notR 0 3 2) regs) 0) 3 = 1 := by decide
theorem test_shl : Plain regs (.shl 0 3 1 (.imm 7)) ∧ (let t := thr (landed (.shl 0 3 1 (.imm 7)) regs) 0; getG t 3 = 0x80 ∧ t.c = false) := by decide
theorem test_shr_sar : Plain regs (.shr 0 3 2 (.imm 2)) ∧ Plain regs (.sar 0 3 2 (.imm 0)) ∧
    (let t := thr (landed (.shr 0 3 2 (.imm 2)) regs) 0; getG t 3 = 0x3F ∧ t.c = true) ∧
    (let t := thr (landed (.sar 0 3 2 (.imm 0)) regs) 0; getG t 3 = 0xFE ∧ t.c = true) := by decide
theorem test_rol_ror : Plain regs (.rol 0 3 2 (.imm 1)) ∧ Plain regs (.ror 0 3 1 (.imm 1)) ∧
    (let t := thr (landed (.rol 0 3 2 (.imm 1)) regs) 0; getG t 3 = 0xFD ∧ t.c = true) ∧
    (let t := thr (landed (.ror 0 3 1 (.imm 1)) regs) 0; getG t 3 = 0x82 ∧ t.c = true) := by decide
theorem test_mul : Plain regs (.mul 0 4 1 (.reg 2) true) ∧ Plain regs (.mul 0 4 1 (.reg 2) false) ∧
    (let t := thr (landed (.mul 0 4 1 (.reg 2) true) regs) 0; getG t 4 = 0xF6 ∧ getG t 5 = 0xFF) ∧
    (let t := thr (landed (.mul 0 4 1 (.reg 2) false) regs) 0; getG t 4 = 0xF6 ∧ getG t 5 = 0x04) := by decide
theorem test_compare : Plain regs (.seq 0 3 1 (.imm 5)) ∧ Plain regs (.sne 0 3 1 (.imm 5)) ∧ Plain regs (.slt 0 3 2 (.reg 1)) := by decide
theorem test_compare_unsigned : Plain regs (.sltu 0 3 2 (.reg 1)) ∧ Plain regs (.sgeu 0 3 2 (.reg 1)) := by decide
theorem test_compare_results : getG (thr (landed (.seq 0 3 1 (.imm 5)) regs) 0) 3 = 1 ∧ getG (thr (landed (.sne 0 3 1 (.imm 5)) regs) 0) 3 = 0 ∧
    getG (thr (landed (.slt 0 3 2 (.reg 1)) regs) 0) 3 = 1 ∧ getG (thr (landed (.sltu 0 3 2 (.reg 1)) regs) 0) 3 = 0 ∧
    getG (thr (landed (.sgeu 0 3 2 (.reg 1)) regs) 0) 3 = 1 := by decide
theorem test_setb_clrb_cplb : Plain regs (.setb 0 0x40) ∧ Plain regs (.clrb 0 0x40) ∧ Plain regs (.cplb 0 0x40) ∧
    bitVal (landed (.setb 0 0x40) regs) 0 0x40 = true ∧ bitVal (landed (.clrb 0 0x40) (landed (.setb 0 0x40) regs)) 0 0x40 = false ∧
    bitVal (landed (.cplb 0 0x40) regs) 0 0x40 = true := by decide
theorem test_bit_logic : let s := landed (.setb 0 0x40) regs; Plain s (.movb 0 0x41 0x40 true) ∧ Plain s (.andb 0 0x40 0x41 false) ∧ Plain s (.orb 0 0x41 0x40 false) ∧
    Plain s (.xorb 0 0x40 0x40 false) ∧ bitVal (landed (.movb 0 0x41 0x40 false) s) 0 0x41 = true ∧ bitVal (landed (.andb 0 0x40 0x41 false) s) 0 0x40 = false ∧
    bitVal (landed (.orb 0 0x41 0x40 false) s) 0 0x41 = true ∧ bitVal (landed (.xorb 0 0x40 0x40 false) s) 0 0x40 = false := by decide
theorem test_bit_moves : let s := landed (.setb 0 0x40) regs; Plain s (.ldb 0 3 0x40) ∧ Plain s (.stb 0 0x41 1) ∧ Plain s (.tsb 0 3 0x41) ∧
    getG (thr (landed (.ldb 0 3 0x40) s) 0) 3 = 1 ∧ bitVal (landed (.stb 0 0x41 1) s) 0 0x41 = true ∧
    (let t := landed (.tsb 0 1 0x41) s; getG (thr t 0) 1 = 0 ∧ bitVal t 0 0x41 = true) := by decide
theorem test_bit_permission : bitRefusal base (thr base 0).world 0x40 = none ∧ bitHole base 0x40 = false ∧ bitRefusal base (thr base 0).world 0x7FF = none ∧
    bitRefusal normal (thr normal 0).world 0x7FF = some 1 ∧ rb normal .TG_VIOL 0 31 = false ∧
    (let v := bitAccess normal 0 0x7FF (fun _ => true) none; rf v .TG_VIOL 0 23 20 = 1 ∧ v.pipe = []) ∧
    (let u := bitLand base 0 0 0x40 false true true none; base.lag = [] ∧ bitIn u 0 0x40 false = true ∧ bitIn (bitLand u 0 0 0x40 false false true none) 0 0x40 false = true ∧
      (let x := bitLand base 5 0 0x480 false true true none; let y : State := { x with cycles := 8 }; seenBit y 1 (bitKey 1 0x480 true) true = false ∧
        seenBit { y with cycles := 9 } 1 (bitKey 1 0x480 true) true = true)) := by decide
theorem test_load_store : let s := setThr regs 0 (setP (thr regs 0) 1 0x2001); Plain s (.st 0 2 (.off 1 0)) ∧ Plain s (.ld 0 3 (.off 1 0)) ∧
    (let u := landed (.st 0 2 (.off 1 0)) s; nearRead u (nearKey 0 false 0x2001) = 0xFE ∧ Plain u (.ld 0 3 (.off 1 0)) ∧
      getG (thr (landed (.ld 0 3 (.off 1 0)) u) 0) 3 = 0xFE) := by decide
theorem test_load_store_pair : let s := setThr regs 0 (setP (setP (thr regs 0) 1 0x2001) 2 0xABCD); Plain s (.stp 0 2 (.off 1 0)) ∧ Plain s (.ldp 0 3 (.off 1 0)) ∧
    (let u := landed (.stp 0 2 (.off 1 0)) s; nearRead u (nearKey 0 false 0x2000) = 0xCD ∧ getP (thr (landed (.ldp 0 3 (.off 1 0)) u) 0) 3 = 0xABCD) := by decide
theorem test_window_access : let s := setThr regs 0 (setP (thr regs 0) 1 0x4000); Plain s (.st 0 2 (.off 1 0)) ∧ Plain s (.ld 0 3 (.off 1 0)) ∧
    0x4000 ≤ (memAddr (thr s 0) (.off 1 0)).toNat ∧ (thr (landed (.ld 0 3 (.off 1 0)) s) 0).outW = 1 := by decide
theorem test_pointers : Plain regs (.pset 0 4 0x1234) ∧ Plain regs (.padd 0 1 0x3FF) ∧ Plain regs (.paddg 0 1 2 true false) ∧ Plain regs (.paddg 0 1 2 false true) ∧
    getP (thr (landed (.pset 0 4 0x1234) regs) 0) 4 = 0x1234 ∧ getP (thr (landed (.padd 0 1 0x3FF) regs) 0) 1 = 0xFFFF ∧
    getP (thr (landed (.paddg 0 1 2 true false) regs) 0) 1 = 0xFE ∧ getP (thr (landed (.paddg 0 1 2 false true) regs) 0) 1 = 0xFFFE := by decide
theorem test_in_out_core : let s := setThr regs 0 (setP (thr regs 0) 1 0x401); Plain s (.inp 0 3 (.off 1 0)) ∧ Plain s (.out 0 2 (.off 1 0)) ∧
    accessIsland ⟨0, false, rn s .TG_GRANT 0⟩ 0x401 = .core ∧ getG (thr (landed (.inp 0 3 (.off 1 0)) s) 0) 3 = 0 := by decide
theorem test_in_out_far : let s := setThr regs 0 (setP (thr regs 0) 1 0x3400); Plain s (.inp 0 3 (.off 1 0)) ∧ Plain s (.out 0 2 (.off 1 0)) ∧
    accessIsland ⟨0, false, rn s .TG_GRANT 0⟩ 0x3400 = .serial ∧ xwaitOf (landed (.inp 0 3 (.off 1 0)) s) 4 = [.regRead 0 0x3400 (dest (.greg 0 3) (atSlot s 0).cycles) false (rn s .TG_GRANT 0)] ∧
    xwaitOf (landed (.out 0 2 (.off 1 0)) s) 4 = [.regWrite 0 0x3400 0xFE false (rn s .TG_GRANT 0)] := by decide
theorem test_slots : (issueSlot base 0).isSome = true ∧ canIssue base 3 = false ∧ issueSlot base 3 = none ∧ after (.nop 3) base = base ∧ isNalti (.nop 3) = true ∧ Plain base (.nop 0) ∧
    slotWait base 0 ≠ 0 ∧ (after (.nop 0) base).cycles = (atSlot base 0).cycles := by decide
theorem test_branches : Plain regs (.bz 0 3 0x10) ∧ Plain regs (.bnz 0 3 0x10) ∧ Plain regs (.jb 0 0x40 1) ∧ Plain regs (.jnb 0 0x40 0x3FFF) ∧
    (thr (landed (.bz 0 3 0x10) regs) 0).target = some 0xC010 ∧ (thr (landed (.bnz 0 3 0x10) regs) 0).target = some 0xC002 ∧
    (thr (landed (.jb 0 0x40 1) regs) 0).target = some 0xC002 ∧ (thr (landed (.jnb 0 0x40 0x3FFF) regs) 0).target = some 0xBFFF := by decide
theorem test_jumps : Plain regs (.jmp 0 0x10) ∧ Plain regs (.call 0 0x10) ∧ Plain regs (.ret 0) := by decide
theorem test_brx : Plain regs (.brx 0 (.index 2 0xFFFF) true) ∧ Plain regs (.brx 0 (.pointer 1) false) := by decide
theorem test_jump_targets : (thr (after (.jmp 0 0x10) regs) 0).target = some 0x10 ∧ getP (thr (landed (.call 0 0x10) regs) 0) 4 = 0xC002 ∧
    getP (thr (after (.call 0 0x10) regs) 0) 4 = 0 ∧ (thr (after (.ret 0) regs) 0).target = some 0 ∧
    (thr (after (.brx 0 (.index 2 0xFFFF) true) regs) 0).target = some 0xFD := by decide
theorem test_waits : Plain regs (.nop 0) ∧ Plain regs (.fence 0) ∧ Plain regs (.wait 0) ∧ Plain regs (.waitb 0 0x40 true) ∧
    (thr (landed (.fence 0) (setThr regs 0 { thr regs 0 with outW := 1 })) 0).st = .parked ∧ (thr (landed (.wait 0) regs) 0).ie = true ∧ (thr regs 0).ie = false ∧
    (thr (landed (.waitb 0 0x40 true) regs) 0).st = .parked ∧ (thr (landed (.waitb 0 0x40 false) regs) 0).st = .running := by decide
theorem test_wait_delivery : let e := setThr base 0 { thr base 0 with ie := true }; Plain e (.wait 0) ∧ (thr e 0).ie = true ∧ (thr (after (.wait 0) e) 0).st = .parked ∧
    (let d := setThr base 0 { thr base 0 with delivery := some 20 }; Quiet d ∧ issues d 0 = true ∧ (thr d 0).delivery.isSome = true ∧ fetchRefused d d 0 = false ∧ (thr d 0).target = none ∧
      (thr (after (.wait 0) d) 0).st = .running ∧ (thr (after (.wait 0) d) 0).pc = 0xC001) := by decide
/-- Normal world at an IRAM word outside the keeper's. -/
def user : State :=
  let n := setDev normal { normal.dev with overlay := false }
  on (on (setThr n 0 { thr n 0 with pc := 0x8000 }) .TG_KVEC 0 0x1234) .TG_IWM 0 0

theorem test_toll : let s := user; Plain s (.toll 0 7) ∧ (thr s 0).world = true ∧
    (let t := thr (landed (.toll 0 7) s) 0; t.pc = 0x1234 ∧ t.world = false ∧ t.inToll = true ∧ t.ret = 0x8001 ∧ getG t 0 = 7) ∧
    (let r := landed (.toll 0 7) s; Plain r (.rtoll 0) ∧ (let t := thr (landed (.rtoll 0) r) 0; t.world = true ∧ t.pc = 0x8001)) ∧
    (let h := on s .TG_STAT 0 1; Plain h (.toll 0 7) ∧ getG (thr (landed (.toll 0 7) h) 0) 1 = 0xFF) := by decide
theorem test_reti : let s := setThr base 0 { thr base 0 with inh := true, epc := 0x55 }; Plain s (.reti 0) ∧
    (let t := thr (landed (.reti 0) s) 0; t.pc = 0x55 ∧ t.ie = true ∧ t.inh = false) := by decide
theorem test_traps : (thr base 0).inToll = false ∧ (thr base 0).delivery = none ∧ Plain base (.trap 0 9) ∧ Plain base (.toll 0 1) ∧ Plain base (.rtoll 0) ∧ Plain base (.reti 0) ∧
    decodeWord 0 0x74000000 = none ∧ (thr base 0).inh = false ∧ (thr base 0).world = false ∧ (thr (landed (.trap 0 9) base) 0).st = .stopped ∧
    rd (landed (.trap 0 9) base) .THR_TRAP 0 = 0x8009C000 ∧ rd (landed (.toll 0 1) base) .THR_TRAP 0 = 0x8301C000 ∧
    rd (landed (.illegalInstruction 0 0x74000000) base) .THR_TRAP 0 = 0x811DC000 := by decide
theorem test_wrong_places : let i : Instr := .mul 0 3 1 (.reg 2) false; let s := setThr base 0 { thr base 0 with target := some 0x10 };
    isNalti i = true ∧ canIssue base 0 = true ∧ fetchRefused base base 0 = false ∧ i.legal = false ∧ rf (after i base) .THR_TRAP 0 26 24 = 1 ∧
    canIssue s 0 = true ∧ notInSlot (.jmp 0 0) = true ∧ rf (landed (.jmp 0 0) s) .THR_TRAP 0 26 24 = 2 ∧
    (let n := setDev normal { normal.dev with overlay := false }; let m := on (setThr n 0 { thr n 0 with pc := 0 }) .TG_IWM 0 1;
      fetchRefused m m 0 = true ∧ rb m .TG_VIOL 0 31 = false ∧ rf (landed (.nop 0) m) .TG_VIOL 0 23 20 = 7) := by decide

/-! ## Registers and crossings -/

theorem test_register_bytes : let k := 2 ^ 20 + regAddr .THR_STARTPC 1; let s := after (.registerWrite 0 (regAddr .THR_STARTPC 1) 0x34) base;
    findReg (regAddr .THR_STARTPC 1) = some (.THR_STARTPC, 1, 0) ∧ permitted base 0 .THR_STARTPC 1 false true = true ∧ Live base .core ∧
    mget (fun _ => none) s.staged k = some 0x34 ∧ rd s .THR_STARTPC 1 = 0 ∧ reqWorld s 0 = false ∧
    rd (after (.registerWrite 0 (regAddr .THR_STARTPC 1 + 1) 0x12) s) .THR_STARTPC 1 = 0x1234 := by decide
theorem test_register_refused : let s := normal; let a := regAddr .TG_KVEC 0 + 1;
    findReg a = some (.TG_KVEC, 0, 1) ∧ runControl .TG_KVEC = false ∧ addrIsland a = .core ∧ regIsland .TG_KVEC 0 = .core ∧
    mayAccess s .TG_KVEC 0 true true = false ∧ rb s .TG_VIOL 0 31 = false ∧ rf (after (.registerWrite 0 a 1) s) .TG_VIOL 0 15 0 = a := by decide
theorem test_register_hole : findReg 0x34FF = none ∧ addrIsland 0x34FF = .serial ∧ Live base .serial ∧
    xwaitOf (after (.registerWrite 0 0x34FF 1) base) 5 = [.count 0x01 1] := by decide

/-- A state with transfers waiting for, or in, a crossing. -/
def waits (c : Nat) (l : List Xfer) : State := { base with xwait := [(c, l)] }
def flies (c : Nat) (l : List Xfer) : State := { base with xfly := [(c, l)] }

theorem test_crossing_issue : let s := waits 15 [.book 22 0 3 1, .edge 90]; Live s (xSrc 15) ∧ s.dev.stbyReq = false ∧ slotsBusy s 15 < 2 ∧ isInflow 0 = true ∧
    (let t := after (.crossingIssue 15) s; xflyOf t 15 = [.book 22 0 3 1] ∧ xwaitOf t 15 = [.edge 90] ∧ toward t 22 3 = 1) := by decide
theorem test_crossing_slots : let s := flies 5 [.edge 90, .edge 91]; 2 ≤ slotsBusy s 5 ∧ after (.crossingIssue 5) s = s ∧ mget (fun _ => ([] : List Nat)) s.xback 5 = [] ∧
    (let g := on (setTerm { waits 14 [.ringGive 3 0 0 0 []] with xfly := [] } 7 3 1) .RING_CFG 3 15; (term g 7 3).toInt + toward g 7 3 = 1 ∧ xflyOf (after (.crossingIssue 14) g) 14 = [.ringGive 3 0 0 0 []]) ∧
    isWindow (.spiLoad 0 0 1 (dest .debug)) = true ∧ windowFull s = false := by decide
theorem test_crossing_stall : let s := flies 5 [.edge 90]; Live s .core ∧ xflyOf s 5 ≠ [] ∧ rd (after (.crossingStall 5) s) .CLK_XSTALL 0 = 133 := by decide
theorem test_crossing_values : let s := flies 1 [.farReply (dest (.preg 0 2)) [0x34, 0x12]]; Live s (xDst 1) ∧ getP (thr (after (.crossingCapture 1) s) 0) 2 = 0x1234 ∧
    getG (thr (after (.crossingCapture 5) (flies 5 [.inReply (dest (.greg 0 15)) 7])) 0) 15 = 7 ∧ getG (thr (after (.crossingCapture 1) (flies 1 [.farReply (dest (.greg 0 15)) [7]])) 0) 15 = 7 ∧
    (let u := { flies 1 [.accepted 0 true] with thr := [(0, { thr base 0 with outW := 1 })] }; (thr (after (.crossingCapture 1) u) 0).outW = 0) := by decide
theorem test_crossing_edge : let s := flies 5 [.edge 90]; Live s (xDst 5) ∧ srcReserved 90 = false ∧ mget (fun _ => false) s.icu.pend 90 = false ∧
    mget (fun _ => false) (after (.crossingCapture 5) s).icu.pend 90 = true := by decide

/-! ## Pins and clocks -/

theorem test_pins : MayWrite base 0 .PIN_MUX 95 ∧ MayWrite base 0 .PIN_WORLD 95 ∧ rb base .PIN_WORLD 95 1 = false ∧
    rd (after (.pinMuxWrite 0 95 0x13) base) .PIN_MUX 95 = 3 ∧ rb (after (.pinWorldWrite 0 95 3) base) .PIN_WORLD 95 1 = true ∧
    rb (after (.pinWorldLock 0 95) base) .PIN_WORLD 95 1 = true ∧ padLevel (after (.pinInputChange (.gp 3) true) base) 3 = true := by decide
theorem test_pads : let o := on (on base .PIN_MUX 60 4) .PIN_STAT 60 0; let b (v : Bool) : State := { o with bits := mset (fun _ => false) o.bits (0x10000 + 0x880 + 60) v }; padDark o 60 = false ∧
    pinFunc o 60 = 0 ∧ isSafetyPin 60 = false ∧ padLevel (b true) 60 = true ∧ padLevel (b false) 60 = false ∧ pinDrives (on (b true) .PIN_MUX 60 0xC) 60 = false ∧
    padLevel (on { b false with pads := [(60, some true)] } .PIN_MUX 60 0) 60 = true ∧ rb base .PIN_STAT 8 1 = true ∧ padLevel base 8 = false ∧
    (let f := after (.pinInputChange (.gp 60) true) (b false); mget (fun _ => false) f.fight 60 = true ∧ padLevel f 60 = true) := by decide
theorem test_pin_contention : let s := on (on base .PIN_MUX 3 4) .PIN_STAT 3 0; Live s (regIsland .PIN_STAT 3) ∧ pinDrives s 3 = true ∧ rb (after (.pinContention 3) s) .PIN_STAT 3 2 = true := by decide
theorem test_clocks_up : let s := on (on base .CLK_STAT 0 0x07) .CLK_CTL 0 7; outOfReset s = true ∧ rb (after .xtalStable base) .CLK_STAT 0 0 = true ∧
    rb s .CLK_CTL 0 2 = true ∧ rb (after (.pllLock 2) s) .CLK_STAT 0 3 = true ∧ MayWrite s 0 .CLK_CTL 0 ∧ (after (.switch 0) s).dev.onA = true ∧
    (after (.spreadChangeApply true) (on s .CLK_SSB 0 0x3F)).dev.spreadB = 0x38 ∧
    (after .hfrcRuns (setDev s { s.dev with stopB := true })).dev.stopB = false := by decide
theorem test_clocks_fail : let s := on (setDev base { base.dev with onA := true, onB := true, linkOn := true }) .CLK_STAT 0 0x1F; outOfReset s = true ∧
    rd (after (.pllUnlock true) s) .CLK_STAT 0 = 0x0B ∧ rb (after (.pllUnlock false) s) .CLK_FAIL 0 1 = true ∧ (after .pllCUnlock s).dev.linkOn = false ∧
    rf (after .xtalFail s) .CLK_STAT 0 3 0 = 0 := by decide

/-! ## Resets and modes -/

theorem test_ao_por : let s := after .aoPor running; rd s .PMU_RSTCAUSE 0 = 32 ∧ s.dev.phase = .held ∧ s.dev.vddao = false ∧
    (after .aoPorRelease s).dev.phase = .clearing := by decide
theorem test_releases : let h := setDev base { base.dev with phase := .held, vdd33 := false }; h.dev.waking = false ∧ rb h .PMU_RSTCAUSE 0 1 = false ∧
    (after .porRelease h).dev.phase = .clearing ∧
    (let l := setDev base { base.dev with rstnLow := true }; (after .rstnRelease l).dev.phase = .clearing) ∧
    (let c := startTimer (setDev base { base.dev with phase := .clearing }) tmrClear 0; timerDue c tmrClear = true ∧ (after .nearRamClearDone c).dev.phase = .awake) := by decide
theorem test_brown_out : running.dev.vdd33 = true ∧ running.dev.vddao = true ∧ running.dev.phase ≠ .standby ∧ rd (after .brownOut running) .PMU_RSTCAUSE 0 = 2 ∧
    inRun (after .brownOut running) = false := by decide
theorem test_rstn : running.dbg.active = false ∧ rd (after .rstnReset running) .PMU_RSTCAUSE 0 = 4 ∧
    (let s := { running with dbg := { running.dbg with active := true } }; after .rstnReset s = s) := by decide

/-- The firmware feeder in SAFE with the button pressed. -/
def press : State := wb { base with pp := { base.pp with cover := false, button := true } } .PP_FCTL 0 1 true

theorem test_safe_feed : Live press .print ∧ inRun press = false ∧ press.pp.feed.safeOn = false ∧ rb press .PP_FCTL 0 1 = true ∧ press.pp.feed.safeSteps < 4800 ∧ (after .safeFeedStart press).pp.feed.safeOn = true ∧
    (let s := after .safeFeedStart press; timerDue s tmrSafeStep = true ∧ s.pp.feed.safeSteps < 4800 ∧ (after .safeFeedStep s).pp.feed.windA.plus = true ∧
      (let r := { s with pp := { s.pp with button := false } }; (after .safeFeedStop r).pp.feed.safeHold = true)) ∧
    (let u := startTimer { press with pp := { press.pp with feed := { press.pp.feed with safeHold := true } } } tmrSafeHold 0;
      (after .safeFeedHoldEnd u).pp.feed.floating = true) := by decide
theorem test_enter_run : let s := setDev base { base.dev with romPass := 0x10, hdr := some (List.replicate 12 0 ++ [0x34, 0x12]) }; let r := setThr s 0 { thr s 0 with lastPc := 0xC000 };
    MayWrite r 0 .PMU_MODE 0 ∧ inRun r = false ∧ fromRom r 0 = true ∧ rb r .PMU_MODE 0 2 = false ∧ rb r .DBG_ARM 0 0 = false ∧ (thr r 0).haltPend = none ∧ fastWake r = false ∧
    (thr r 0).st ≠ .halted ∧ inRun (after (.enterRun 0) r) = true ∧ (thr (after (.enterRun 0) r) 0).pc = 0x1234 ∧
    (let w := on (on (on (setDev r { r.dev with romPass := 0 }) .PMU_RSTCAUSE 0 16) .RTC_FLAGS 0 1) .RTC_WAKEVEC 0 0x777; fastWake w = true ∧ (thr (after (.enterRun 0) w) 0).pc = 0x777) ∧
    romMayRun (setDev r { r.dev with romPass := 0 }) = false ∧ (let u := setThr s 0 { thr s 0 with lastPc := 0 }; fromRom u 0 = false ∧ after (.enterRun 0) u = u) := by decide
theorem test_modes : MayWrite running 0 .PMU_IMAP 0 ∧ (after (.romoffArm 0) running).dev.romoffArmed = true ∧ MayWrite running 0 .PMU_MODE 0 ∧
    (after (.standbyRequest 0) running).dev.stbyReq = true ∧ after (.standbyRequest 0) base = base := by decide
theorem test_doze : let s := on { running with thr := [(0, { thr base 0 with st := .stopped })] } .PMU_CTL 0 1; Live s .core ∧ inRun s = true ∧ rb s .PMU_CTL 0 0 = true ∧
    (∀ n, n < 8 → wouldUnpark s n = false ∧ mayDoze (thr s n) = true) ∧ (after .dozeEntry s).dev.doze = true := by decide
theorem test_standby : let s := setDev running { running.dev with stbyReq := true }; s.xfly = [] ∧ (∀ n, n < 31 → hoPhase s n = 0) ∧ rf s .TG_KRST 0 2 1 = 0 ∧
    rd (closeBooks s) .LED_FAILED 0 = rd s .LED_FAILED 0 ∧ wakePending (closeBooks s) = false ∧ (after .standbyCrossingsDrained s).dev.phase = .standby ∧
    (let h := wf s .TG_HO 30 3 2 1; hoPhase h 30 ≠ 0 ∧ rd (after .standbyCrossingsDrained h) .PMU_STBYSTAT 0 = 3) := by decide
theorem test_wake : let s := on (setDev base { base.dev with phase := .standby }) .RTC_WAKEEN 0 0xF; let a := on s .RTC_STAT 0 1; wakeOn a 2 = true ∧ a.dev.vdd33 = true ∧ a.dev.vddao = true ∧
    a.dev.rstnLow = false ∧ rd (after (.wakeSource 2) a) .PMU_RSTCAUSE 0 = 16 ∧ wakeOn s 2 = false ∧ after (.wakeSource 2) s = s := by decide
theorem test_rtc : let s := on (setDev base { base.dev with rtcSet := some 77 }) .RTC_SUB 0 5; s.dev.vddao = true ∧ rd (after .rtcSetLoad s) .RTC_SEC 0 = 77 ∧
    rd (after .rtcSetLoad s) .RTC_SUB 0 = 0 ∧ rtcCount (after .rtcTrimApply (on base .RTC_TRIM 0 0xFF)) = 2 ^ 47 - 1 ∧
    (let a := on base .RTC_ALARM 0 0; rd a .RTC_SEC 0 = rd a .RTC_ALARM 0 ∧ rb (after .rtcAlarmMatch a) .RTC_STAT 0 0 = true) ∧
    (let f := after .rtcXtalFail base; rb f .RTC_STAT 0 2 = true ∧ rb (after .rtcXtalRestore f) .RTC_STAT 0 2 = false) := by decide
theorem test_retention : let s := on running .RTC_RRADDRK 0 0x1FC0; MayWrite s 0 (rrReg false) 0 ∧ MayRead s 0 (rrReg true) 0 ∧ rrAddr s false = 0x1FC0 ∧
    (after (.retentionDataAccess 0 false (some 7) .debug) s).retain = [] ∧ mget (fun _ => 0) (after (.retentionDataAccess 0 true (some 7) .debug) s).retain (rrAddr s true) = 7 ∧
    (let u := on running .RTC_RRADDRK 0 0x1FBF; (after (.retentionDataAccess 0 false (some 7) .debug) u).retain = [(0x1FBF, 7)]) ∧
    xwaitOf (after (.retentionDataAccess 0 true none (.greg 0 1)) s) 11 = [.inReply (dest (.greg 0 1)) 0] := by decide
theorem test_watchdog : MayWrite base 0 .PMU_WDTCTL 0 ∧ rb base .PMU_WDTCTL 0 0 = false ∧ MayWrite base 0 .PMU_WDTKICK 0 ∧
    (let s := on (after (.wdtEnable 0) (on base .PMU_WDTLOAD 0 9)) .PMU_WDTCNT 0 0; rb s .PMU_WDTCTL 0 0 = true ∧ (∀ n, n < 8 → (thr s n).st ≠ .halted) ∧
      rd (after (.wdtKick 0 0xA5) s) .PMU_WDTCNT 0 = 9 ∧ rd (after (.wdtKick 0 0xA4) s) .PMU_WDTCNT 0 = 0 ∧
      rd (after (.wdtExpiry false) s) .PMU_RSTCAUSE 0 = 8 ∧ rd (after (.wdtExpiry true) s) .PMU_WDTCNT 0 = 9) := by decide

/-! ## Threads, run control, interrupts, the Tollgate -/

/-- A state in which thread `n` is `t`. -/
def with_ (s : State) (n : Nat) (t : Thread) : State := setThr s n t

theorem test_thread_start : let s := on running .THR_STARTPC 3 0x1234; MayWrite s 0 .THR_CTL 3 ∧ (thr s 3).st = .stopped ∧ inRun s = true ∧ (thr s 3).haltPend = none ∧
    (thr (after (.threadStart 0 3) s) 3).pc = 0x1234 ∧ (thr base 3).st = .stopped ∧ after (.threadStart 0 3) base = base ∧ after (.threadStart 0 0) base = base := by decide
theorem test_thread_stop : MayWrite base 0 .THR_CTL 0 ∧ (thr base 0).st ≠ .stopped ∧ (thr base 0).delivery = none ∧ (thr (after (.threadStop 0 0) base) 0).st = .stopped ∧
    (let s := with_ base 0 { thr base 0 with outX := 1 }; let u := after (.threadStop 0 0) s; (thr u 0).st = .stopping ∧ after (.threadStopped 0) u = u ∧
      (let v := setThr u 0 { thr u 0 with outX := 0 }; (thr v 0).outW = 0 ∧ (thr v 0).outX = 0 ∧ (thr (after (.threadStopped 0) v) 0).st = .stopped)) ∧
    (let s := with_ base 0 { thr base 0 with inToll := true, world := false }; (thr (after (.threadStop 0 0) s) 0).stopHeld = true) := by decide
theorem test_thread_world : MayWrite base 0 .THR_WORLD 7 ∧ (thr base 7).st = .stopped ∧ rb (after (.threadWorldWrite 0 7 1) base) .THR_WORLD 7 0 = true ∧
    (let s := after (.threadWorldLock 0 7) base; rb s .THR_WORLD 7 1 = true ∧ rb (after (.threadWorldWrite 0 7 1) s) .THR_WORLD 7 0 = false) ∧
    rb (after (.threadWorldWrite 0 0 1) (with_ base 0 { thr base 0 with st := .stopped })) .THR_WORLD 0 0 = false ∧ after (.threadWorldWrite 0 0 1) base = base := by decide
theorem test_window_owner : let s := on normal .TG_GRANT 0 0x0004; MayWrite base 0 .WIN_OWN 3 ∧ reqWorld base 0 = false ∧
    rf (after (.windowOwnerWrite 0 1 true 0x1ABC) base) .WIN_OWN 3 11 0 = 0xABC ∧ reqWorld s 0 = true ∧ nbit (rn s .TG_GRANT 0) 2 = true ∧
    rf (after (.windowOwnerWrite 0 0 true 0xF32) s) .WIN_OWN 1 11 0 = 0xFF2 ∧ rb (after (.windowOwnerWrite 0 0 true 0xF32) s) .WIN_STAT 1 0 = true := by decide
theorem test_iram_port : let s := wrReq base .TG_IRADDR 0 0xFFFF; MayWrite s 0 .TG_IRDATA 0 ∧ MayRead s 0 .TG_IRDATA 0 ∧ reqWorld s 0 = false ∧
    (let t := after (.iramPortWrite 0 0x12345678) s; iramAt t 0xFFFF = 0x12345678 ∧ rdReq t .TG_IRADDR 0 = 0 ∧
      getG (thr (after (.iramPortRead 0 (.greg 0 4)) (wrReq t .TG_IRADDR 0 0xFFFF)) 0) 4 = 0x78) ∧
    (let n := wrReq normal .TG_IRADDR 0 5; MayWrite n 0 .TG_IRDATA 0 ∧ MayRead n 0 .TG_IRDATA 0 ∧ reqWorld n 0 = true ∧ rb n .TG_VIOL 0 31 = false ∧ 5 < iwmWord n ∧
      (after (.iramPortWrite 0 9) n).iram = [] ∧ rf (after (.iramPortRead 0 (.greg 0 4)) n) .TG_VIOL 0 23 20 = 5 ∧ iwmWord (on n .TG_IWM 0 0) ≤ 5) := by decide
theorem test_park_release : let p (k : Park) (w : Nat) : State := with_ base 0 { thr base 0 with st := .parked, park := k, outW := w, outX := w };
    (thr (after (.parkRelease 0) (p .fence 0)) 0).st = .running ∧ after (.parkRelease 0) (p .fence 1) = p .fence 1 ∧ (thr (after (.parkRelease 0) (p .limitWindow 3)) 0).st = .running ∧
    (thr (after (.parkRelease 0) (p .limitIn 3)) 0).st = .running ∧ (thr (after (.parkRelease 0) (p (.waitb 0x40 false) 0)) 0).st = .running ∧
    after (.parkRelease 0) (p (.waitb 0x40 true) 0) = p (.waitb 0x40 true) 0 := by decide

/-- Every debug enable set. -/
def debug : State := on base .TG_DBGEN 0 0xF

/-- The debug link of a state. -/
def dbgOf (s : State) : Dbg := s.dbg
/-- Thread 0 halted. -/
def halted : State := with_ debug 0 { setG (thr debug 0) 15 0x5A with st := .halted }

theorem test_debug_halt : MayWrite debug 8 .DBG_HALT 0 ∧ (thr debug 0).st = .running ∧ (thr debug 0).target = none ∧ (thr debug 0).forced = false ∧ haltPermitted debug 0 = true ∧
    haltNever debug 0 = false ∧ (thr (after (.debugHalt 8 1) debug) 0).st = .halted ∧ after (.debugHalt 0 1) debug = debug := by decide
theorem test_debug_resume_step : MayWrite halted 8 .DBG_RESUME 0 ∧ MayWrite halted 8 .DBG_STEP 0 ∧ (thr (after (.debugResume 8 1) halted) 0).st = .running ∧
    (thr (after (.debugStep 8 8) halted) 0).stepping = true ∧ after (.debugStep 0 8) halted = halted := by decide
theorem test_debug_register : let s := on halted .DBG_REGSEL 0 (8 * 15); MayWrite s 8 .DBG_REGDATA 0 ∧ MayRead s 8 .DBG_REGDATA 0 ∧ invasive s (keeperScope (thr s 0)) = true ∧
    getG (thr (after (.debugRegisterAccess 8 (some 0x177) .debug) s) 0) 15 = 0x77 ∧ getG (thr (after (.debugRegisterAccess 8 none (.greg 1 2)) s) 1) 2 = 0x5A := by decide
theorem test_breakpoint : let s := on debug .DBG_BP 3 (2 ^ 31 + 2 ^ 16 + 0xC000); canIssue s 0 = true ∧ fld (rd s .DBG_BP 3) 15 0 = (thr s 0).pc.toNat ∧
    rd (after (.breakpointMatch 0 3) s) .DBG_HCAUSE 0 = 0x33 ∧ after (.breakpointMatch 0 2) s = s := by decide
theorem test_watchpoint : let s := on (on debug .DBG_WPA 1 (2 ^ 31 + 2 ^ 27 + 0x123456)) .DBG_WPM 1 (2 ^ 24 + 0xFFFFFF);
    rd (after (.watchpointMatch 0 1 0 0x123456 true) s) .DBG_HCAUSE 0 = 0x14 ∧ (thr (after (.watchpointMatch 0 1 0 0x123457 true) s) 0).st = .running ∧
    after (.watchpointMatch 0 0 0 0 true) s = s := by decide
theorem test_pc_sample : MayRead debug 8 .DBG_PCSAMP 0 ∧ (dbgOf debug).pcNext = 0 ∧ observing debug (keeperScope (thr debug 0)) = true ∧
    (after (.pcSampleRead 8 (.greg 1 2)) debug).dbg.pcNext = 1 := by decide
theorem test_slotmap : (let p := after (.slotmapWrite 0 0x11111110) base; p.pipe = [] ∧ p.cycles < p.dev.slotAt ∧ ∀ k, k < 8 → (thr p k).delivery = none) ∧ MayWrite base 0 .PMU_SLOTMAP 0 ∧ inMap 0x11111110 0 = true ∧ inMap 0xFFFFFFFF 0 = false ∧ (after (.slotmapWrite 0 0x11111110) base).dev.slotPend = some 0x111110 ∧
    rb (after (.slotmapWrite 0 0xFFFFFFFF) base) .PMU_SLOTSTAT 0 1 = true ∧ rd (after .slotmapApply (after (.slotmapWrite 0 0x11111110) base)) .PMU_SLOTMAP 0 = 0x111110 := by decide

/-- Thread 0 takes interrupts, source 20 is enabled for it and pends. -/
def pends : State :=
  let s := on (with_ base 0 { thr base 0 with ie := true }) .ICU_SRC 20 (1 + 2 ^ 8)
  { s with icu := { s.icu with pend := [(20, true)] } }

theorem test_handler_entry : let s := with_ base 0 { thr base 0 with delivery := some 20 }; Quiet s ∧ ((thr s 0).st = .running ∨ (thr s 0).st = .parked) ∧ (thr s 0).forced = false ∧ coreIssues s = true ∧ ownsSlot s 0 = true ∧ (thr s 0).target = none ∧
    (let t := after (.handlerEntry 0) s; (thr t 0).epc = 0xC000 ∧ (thr t 0).inh = true ∧ rd t .ICU_CUR 0 = 148) ∧ MayWrite s 0 .ICU_CTL 0 := by decide
theorem test_toll_expiry : let s := with_ base 3 { Thread.reset 3 with st := .running, inToll := true, budget := some 0, ret := 0x42 }; Live s .core ∧ rb s .TG_STAT 0 0 = false ∧
    rb s .TG_CTL 0 0 = false ∧ rd (after (.tollBudgetExpiry 3 false) s) .TG_STAT 0 = 7 ∧ (thr (after (.tollBudgetExpiry 3 true) s) 3).budget = none ∧
    (let f := after (.tollBudgetExpiry 3 false) s; (thr f 3).forced = true ∧ (thr f 3).stopHeld = false ∧ (thr f 3).haltPend = none ∧ (thr f 3).stepping = false ∧ f.pipe = [] ∧ (thr f 3).outKW = 0 ∧ (thr f 3).outKX = 0 ∧
      (let k := setThr f 3 { thr f 3 with outKX := 1 }; after (.forcedReturn 3) k = k) ∧ (thr (after (.forcedReturn 3) f) 3).pc = 0x42 ∧ getG (thr (after (.forcedReturn 3) f) 3) 1 = 0xFF) := by decide
theorem test_keeper_reset : MayWrite base 0 .TG_KRST 0 ∧ rf base .TG_KRST 0 2 1 = 0 ∧ rf (after (.keeperResetRequest 0) base) .TG_KRST 0 2 1 = 1 ∧
    (let k := after (.threadStopped 0) (after (.keeperResetRequest 0) base); (∀ n, n < 8 → (thr k n).inToll = false ∧ (thr k n).forced = false ∧
      (rb k .THR_WORLD n 0 = true ∨ (thr k n).st = .stopped)) ∧ (thr k 0).haltPend = none ∧ (thr (after .keeperResetRestart k) 0).st = .running ∧
      rb (after .keeperResetRestart k) .TG_KRST 0 3 = true) ∧ MayWrite base 0 .TG_CTL 0 ∧ MayWrite base 0 .TG_NWM 0 ∧ MayWrite base 0 .TG_IWM 0 ∧
    rb (after (.tollVectorLock 0) base) .TG_CTL 0 1 = true ∧ rb (after (.watermarkLock 0 true) base) .TG_NWM 0 15 = true ∧
    rb (after (.watermarkLock 0 false) base) .TG_IWM 0 7 = true := by decide
theorem test_handover : MayWrite base 0 .TG_HO 30 ∧ hoPhase base 30 = 0 ∧ rb base .TG_HO 30 6 = false ∧
    (let s := after (.handoverRequest 0 30) base; hoPhase s 30 = 2 ∧ blockWorld (after (.handoverFlip 30) s) 30 = true ∧ hoPhase (after (.handoverFlip 30) s) 30 = 0) ∧
    (let s := wf base .TG_HO 7 3 2 2; rf s .TG_HO 7 11 8 = 0 ∧ rf (after (.handoverFlip 7) s) .TG_HO 7 11 8 = 15) ∧
    (let l := after (.handoverLock 0 30) base; rb l .TG_HO 30 6 = true ∧ after (.handoverRequest 0 30) l = l) := by decide
/-- A frame that its channel cannot take back is written off by a report, whose line stands before FLIP (R467, R643, R916). -/
theorem test_kolnex_write_off :
    let s := kxHandover (setTerm { base with kx := { Kx.reset with held := [⟨0, 1, 0, 0, [], none, 0, false, false⟩] } } 22 3 1)
    let t := after (.crossingCapture 15) (after (.crossingIssue 15) s)
    hoQuiet s 2 = false ∧ hoQuiet t 2 = true ∧ t.led.wo = [⟨22, 2, 1⟩] ∧ term t 22 2 = 1 ∧ term t 22 3 = 0 ∧ rb t .LED_STAT 0 2 = true := by decide
/-- An arrival on the edge on which its timeout starts withdraws it (R263). -/
theorem test_tie_at_start : let s := startTimer base tmrChain 100
    timerDue s tmrChain = false ∧ after (.spiChainTimeout false) s = s ∧ timerOn (after (.spiChainTimeout true) s) tmrChain = false ∧
    xwaitOf (after (.spiChainTimeout true) s) 5 = [.count 0x08 1] := by decide
theorem test_handover_quiesce : let u := { base with uart := [(0, { uartOf base 0 with shift := some 1 })] }; let s := on (on u .UART_CTL 0 1) .UART_STATE 0 5;
    hoBusy (hoQuiesce (wf s .TG_HO 0 3 2 1) 0) 0 = true ∧ hoPhase (after (.handoverRequest 0 0) s) 0 = 1 ∧
    (let w := after (.handoverRequest 0 0) s; hoUnfinished w 0 = true ∧ after (.handoverQuiesceDone 0) w = w ∧
      (let d := startTimer w (tmrHo 0) 0; timerDue d (tmrHo 0) = true ∧ hoPhase (after (.handoverForced 0 false) d) 0 = 2)) := by decide
theorem test_icu_commit : srcReserved 20 = false ∧ pendBit pends 20 = true ∧ retBit pends 20 = false ∧ pickTarget pends (rd pends .ICU_SRC 20) 20 = some 0 ∧ pends.pipe = [] ∧ rb pends .ICU_SRC 20 0 = true ∧ (∀ k, k < 8 → (thr pends k).delivery ≠ some 20) ∧ pends.dev.doze = false ∧ Live pends .core ∧
    (∀ k, k < 128 → k ≠ 20 → pendBit pends k = false ∧ retBit pends k = false) ∧ (thr (after .icuCommit pends) 0).delivery = some 20 ∧
    (∀ k, k < 128 → pendBit base k = false ∧ retBit base k = false) ∧ after .icuCommit base = base := by decide

/-! ## Sealed far memory, rings, pools, the Ledger -/

theorem test_page_table : let s := on base .SEAL_PTIDX 0 1023; MayWrite s 0 .SEAL_PTDATA 0 ∧ MayRead s 0 .SEAL_PTDATA 0 ∧ MayRead s 0 .SEAL_LTDATA 0 ∧
    (let t := after (.pageOwnerWrite 0 0x35) s; pageOwner t 1023 = 5 ∧ lineTag t (128 * 1023 + 127) = 5 ∧ rf t .SEAL_PTIDX 0 9 0 = 0) ∧
    xwaitOf (after (.pageTableRead 0 (.greg 1 2)) s) 1 = [.inReply (dest (.greg 1 2)) 0] ∧
    rf (after (.lineTagRead 0 (.greg 1 2)) (on s .SEAL_LTIDX 0 131071)) .SEAL_LTIDX 0 16 0 = 0 := by decide
theorem test_store_accept : let s := setFar base { base.far with stq := 16 }; Live s .fabric ∧ storesHeld s < s.far.stq ∧ s.far.stWait = [] ∧ s.far.wait = [] ∧ s.far.olds = [] ∧
    (after .storeAccept s).far.stq = 15 ∧ (after .storeAccept (setFar s { s.far with stWait := [(3, true)] })).far.stWait = [] := by decide
theorem test_keys : base.far.wait = [] ∧ rb base .SEAL_STAT 0 0 = false ∧ rb (after .keysReady base) .SEAL_STAT 0 0 = true ∧
    mget (fun _ => none) (after .keysReady base).far.key 14 = some (base.far.keysMade + 14) ∧ (after .trngFail base).far.trngBad = true := by decide
theorem test_rekey : MayWrite base 0 .SEAL_REKEY 0 ∧ base.far.rekey = none ∧
    (let s := after (.rekeyRequest 0 3) { base with far := { base.far with tag := [(5, 3)], written := [(4, true), (5, true)] } };
      s.far.rekey = some 3 ∧ rb (after (.rekeyRequest 0 2) s) .SEAL_REKEY 0 6 = true ∧ s.far.wait = [] ∧
      (after .rekeyDone s).far.written = [(4, true)] ∧ (after .rekeyDone s).far.tag = [(5, 3)]) ∧
    (after (.rekeyRequest 0 15) base).far = base.far := by decide
theorem test_sealed_memory : let st := farStore base 4 0 0 0 false 0x3FFFFF [0x5A]; pageRefuses base false 0 0x3FFFFF = false ∧ noKey base 0 = false ∧
    lineTag base 131071 = 0 ∧ (farLoad st.2.2 4 0 0 0 false 0x3FFFFF 1).1 = [0x5A] ∧ lineTag base 131071 ≠ 2 ∧ (farLoad base 4 0 0 2 false 0x3FFFFF 1).1 = [0] ∧
    pageRefuses base true 2 0 = true ∧ (farLoad base 4 0 0 2 true 0 1).2.1 = true := by decide

/-- The device with its keys, and channel 3 set up for the SPI entry queue with sixteen entries, and for itself with a completion ring. -/
def keyed : State := after .keysReady base
def ringed : State := on (on keyed .RING_CFG 3 143) .RING_BASE 3 0x1000
def soft : State := on (on (on (on keyed .RING_CFG 3 0x280) .RING_CQCFG 3 4) .RING_BASE 3 0x1000) .RING_CQBASE 3 0x2000
/-- The same enabled, with two entries posted. -/
def posted (s : State) : State := after (.ringPost 0 3 2) (after (.ringEnable 0 3) s)
/-- Bytes placed in far memory. -/
def placed (s : State) (a : Nat) (bs : List Byte) : State := (farStore s 4 0 0 0 false a bs).2.2

theorem test_ring_control : MayWrite ringed 0 .RING_CTL 3 ∧ MayWrite ringed 0 .RING_POST 3 ∧ ringCfgOk ringed 3 = true ∧ channelOf ringed 15 = none ∧ ringCfgOk base 3 = false ∧
    hoPhase ringed 10 = 0 ∧ rb (after (.ringEnable 0 3) ringed) .RING_STAT 3 0 = true ∧ rf (after (.ringEnable 0 3) base) .RING_STAT 3 6 4 = 1 ∧
    after (.ringStop 0 3) base = base ∧ ringFree (after (.ringEnable 0 3) ringed) 3 = 16 ∧ rn (posted ringed) .RING_TAIL 3 = 2 ∧
    rf (after (.ringPost 0 3 15) (posted ringed)) .RING_STAT 3 6 4 = 3 ∧ rf (after (.ringPost 0 3 1) ringed) .RING_STAT 3 6 4 = 4 := by decide
theorem test_ring_stop_abort : (chanOf (after (.ringStop 0 3) (posted ringed)) 3).done.map (fun k => k.status) = [4, 4] ∧
    (let s := posted ringed; let g := setChan s 3 { chanOf s 3 with given := [0] }; (chanOf g 3).aborting = false ∧
      (xwaitOf (after (.ringAbort 0 3) g) (fromFabric .serial)).getLast? = some (.ringAbort 3)) := by decide
theorem test_ring_fetch : let s := placed (posted ringed) 0x1000 [1, 0, 4, 0, 0, 0x20, 0]; Live s .fabric ∧ worldsDiffer s 3 = false ∧ unitReady s 3 = true ∧
    fetchWaits s 3 0 = false ∧ unfetched s 3 = [0, 1] ∧ (chanLoad s 3 0x1000 16).2.1 = false ∧ (chanLoad s 3 0x1000 16).2.2.1 = false ∧
    (chanOf (after (.ringFetch 3) s) 3).given = [0] ∧ (xwaitOf (after (.ringFetch 3) s) (fromFabric .serial)).getLast? = some (.ringGive 3 0 0 0 [(0x2000, 4)]) ∧
    (chanOf (after (.ringFetch 3) (posted ringed)) 3).done = [⟨0, 5, 0, 0⟩] ∧ after (.ringFetch 3) ringed = ringed := by decide
theorem test_ring_completion : let s := after (.ringStop 0 3) (posted ringed); rb s .RING_STAT 3 2 = false ∧ chanWaits s 3 (entryAddr s 3 0) 16 = false ∧ rb s .RING_CFG 3 9 = false ∧ rb s .RING_CFG 3 11 = false ∧
    (chanOf (after (.ringCompletion 3) s) 3).out = [1] ∧ after (.ringCompletion 3) ringed = ringed ∧ after (.ringCqRetry 3) ringed = ringed := by decide
theorem test_ring_line_store : let f := after (.ringFetch 3) (placed (posted ringed) 0x1000 [5, 0, 4, 0, 0, 0x20, 0, 0, 9, 0, 0, 0, 0, 0, 0, 0]); let s := setChan f 3 { chanOf f 3 with given := [], done := [⟨0, 2, 0, 0x123⟩] };
    (mget (fun _ => none) (chanOf s 3).info 0).isSome = true ∧ ringClosed (chanWorld s 3) (chanOwner s 3) = false ∧ noKey s (chanOwner s 3) = false ∧ rb s .RING_CFG 3 11 = false ∧
    (∀ j, j < 16 → pageRefuses s (chanWorld s 3) (chanOwner s 3) (0x1000 + j) = false ∧ lineTag s ((0x1000 + j) / 32) = chanOwner s 3 ∧ lineW s ((0x1000 + j) / 32) = true) ∧
    (chanLoad (after (.ringCompletion 3) s) 3 0x1000 16).1 = [4, 0, 4, 0, 0, 0x20, 0, 0, 9, 0, 0, 0, 0x23, 0x01, 2, 0] := by decide
theorem test_ring_full : let s := after (.ringCompletion 3) (placed (after (.ringStop 0 3) (posted soft)) 0x2000 [0, 0x80]); rb s .RING_STAT 3 2 = true ∧ rb s .RING_CFG 3 9 = true ∧
    chanWaits s 3 (entryAddr s 3 0) 16 = false ∧ chanWaits s 3 (cqSlot s 3) 8 = false ∧ after (.ringCompletion 3) s = s ∧ (chanOf (after (.ringCqRetry 3) s) 3).out = [0, 1] ∧
    (chanLoad s 3 0x2000 2).2.1 = false ∧ (chanOf (after (.ringCqRetry 3) (placed s 0x2000 [0, 0])) 3).out = [1] ∧
    (chanLoad (placed s 0x2000 [0, 0]) 3 0x2000 2).2.1 = false := by decide

/-- Pool 0 with 32 buffers of 128 bytes on a pooled page, and the same enabled. -/
def carved : State := on (on (after (.pageOwnerWrite 0 15) (on base .SEAL_PTIDX 0 4)) .HOP_PCOUNT 0 32) .HOP_PBASE 0 0x4000
def pooled : State := after (.poolPlacementDone 0) (after (.poolEnable 0 0) carved)
/-- A request of 100 bytes for owner 5. -/
def asked : State := { wrReq pooled .HOP_AREQ 0 (100 + 65536 * 5) with areq := [(0, true)] }

theorem test_pool_enable : MayWrite carved 0 .HOP_PCTL 0 ∧ poolCheck carved 0 = 0 ∧ (poolOf carved 0).configured = false ∧ poolCheck base 0 = 5 ∧
    rf (after (.poolEnable 0 0) base) .HOP_STAT 0 3 1 = 5 ∧ (poolOf pooled 0).enabled = true ∧ (poolOf pooled 0).configured = true ∧ rn pooled .HOP_PFREE 0 = 32 ∧
    Live pooled .fabric ∧ (poolOf pooled 0).owner = [] ∧ poolOf (after (.poolDisable 0 0) pooled) 0 = Pool.reset := by decide
theorem test_pool_allocate : mayTake asked 5 0 = true ∧ reqWorld asked 0 = false ∧ rdReq asked .HOP_AREQ 0 = BitVec.ofNat 32 (100 + 65536 * 5) ∧
    (let t := after (.allocate 0 (.greg 0 1)) asked; bufOwner t 0 0 = 5 ∧ lineTag t (0x4000 / 32 + 3) = 5 ∧ lineTag t (0x4000 / 32 + 4) = 15 ∧ term t 0 2 = 1 ∧
      rf (after (.poolDisable 0 0) t) .HOP_STAT 0 3 1 = 7 ∧ bufOwner (after (.free 0 0) t) 0 0 = 15 ∧ (poolOf (after (.free 0 0) t) 0).free.getLast? = some 0) ∧
    mget (fun _ => false) pooled.areq 0 = false ∧ mget (fun _ => none) (after (.allocate 0 (.greg 0 1)) pooled).shadow (2 ^ 20 + regAddr .HOP_ARES 0) = some (aresVal 0xFFFF 7 15) ∧
    rb pooled .HOP_FERR 0 31 = false ∧ rf (after (.free 0 31) pooled) .HOP_FERR 0 21 20 = 2 := by decide
theorem test_reservation : MayWrite pooled 0 .HOP_RSVDATA 0 ∧ MayRead pooled 0 .HOP_BUFSTAT 0 ∧ rf pooled .HOP_RSVIDX 0 5 2 ≠ 15 ∧ rsv (after (.reservationWrite 0 32) pooled) 0 0 = 32 ∧
    rb (after (.reservationWrite 0 33) pooled) .HOP_STAT 0 4 = true ∧ (let s := on pooled .HOP_BUFIDX 0 31; bufNamed s = true ∧
      rf (after (.bufferStatusRead 0 (.greg 0 1)) s) .HOP_BUFIDX 0 12 0 = 0 ∧ xwaitOf (after (.bufferStatusRead 0 (.greg 0 1)) s) 1 = [.inReply (dest (.greg 0 1)) 15]) := by decide

theorem test_ledger : let d := { pooled with cycles := 64, led := { pooled.led with dirty := [(0, some 0)] } }; let w := setTerm d 0 0 33; term d 0 (termT 0) = 0 ∧ reportWaits d 0 = false ∧
    suspended d 0 = false ∧ lastUpdate d 0 = some 0 ∧ mget (fun _ => false) d.led.rebase 0 = false ∧ rb d .LED_FAILED 0 0 = false ∧ lastUpdate (after (.bookSettle 0 true) d) 0 = some 64 ∧ term d 0 0 = rhs d 0 ∧ structureOk d 0 = true ∧ rb (after (.bookSettle 0 false) d) .LED_BAL 0 0 = true ∧ term w 0 0 ≠ rhs w 0 ∧
    rb w .LED_IMB 0 31 = false ∧ rb (after (.bookSettle 0 false) w) .LED_FAILED 0 0 = true ∧ (let t := setTerm d 0 (termT 0) 1; after (.bookSettle 0 false) t = t) ∧
    (let x := startTimer d (tmrSettle 0) 0; timerDue x (tmrSettle 0) = true ∧ rb (after (.bookUnsettled 0 false) x) .LED_UNSET 0 0 = true) := by decide
theorem test_ledger_rebase : MayWrite base 0 .LED_REBASE 0 ∧ MayRead base 0 .LED_TDATA 0 ∧ MayRead base 0 .LED_WODATA 0 ∧
    (let w := setTerm { pooled with cycles := 64, led := { pooled.led with dirty := [(0, some 0)] } } 0 0 33; let f := after (.bookSettle 0 false) w;
      mget (fun _ => (none : Option Nat)) f.led.dirty 0 = none ∧ term (after (.rebase 0 0) f) 0 0 = 32 ∧ rb (after (.rebase 0 0) f) .LED_FAILED 0 0 = false) ∧
    rb base .LED_FAILED 0 0 = false ∧ (after (.rebase 0 0) base).led = base.led ∧ rf (after (.termRead 0 (.greg 0 1)) base) .LED_TIDX 0 10 8 = 1 ∧
    rf (after (.writeoffLogRead 0 (.greg 0 1)) (on base .LED_WOIDX 0 15)) .LED_WOIDX 0 3 0 = 0 := by decide

/-! ## Millrace and the paper path -/

/-- A timer that is due. -/
def due (s : State) (k : Nat) : State := startTimer s k 0

/-- The head configured, and enabled with the feeder. -/
def headed : State := on (on (on (on (on base .MR_MAXDOTS 0 384) .MR_RDOT 0 10000) .MR_TOKPOOL 0 1152) .MR_VSCALE 0 30000) .MR_TTAB 1 1
def fed : State := setMgmt (wb (on (on (on base .PP_IRUN 0 10) .PP_IMAX 0 20) .PP_FCFG 0 1) .PP_FCTL 0 0 true) 1 1
def printing : State := setMgmt (wb (on (on (on headed .PP_IRUN 0 10) .PP_IMAX 0 20) .MR_CTL 0 1) .PP_FCTL 0 0 true) 1 1
def ready : State := setMgmt (setMr printing { printing.mr with
  powered := true, code1 := 3300, pairOk := true, next := some [[true], [], [], []], nextShifted := true, held := [⟨⟨5, 0, 0, false, [(0, 48)]⟩, 1, 0, 0⟩], ahead := [] }) 0 1
/-- A line of one dot per sub-pulse at a stage. -/
def line (st : MrStage) (sh : Bool) : MrLine :=
  { idx := 5, blank := false, cont := false, pats := [[true], [], [], []], width := [100, 0, 0, 0], draw := 3, maxDots := 384, gap := 12, stbMax := 48, hcTrip := 52,
    hcBlank := 0, sp := 0, stage := st, groups := [], strobes := [], shifted := sh, endAt := 0 }
def fires (st : MrStage) (sh : Bool) : State := setData (setLine { ready with mr := { ready.mr with next := none, running := true } } (line st sh)) 0 1

theorem test_millrace_enable : MayWrite headed 0 .MR_CTL 0 ∧ rb headed .MR_CTL 0 0 = false ∧ headCfgCode headed = 0 ∧ dstate headed 0 ≠ 3 ∧
    (let t := after (.millraceEnable 0) headed; mgmt t 0 = 1 ∧ rb t .MR_STAT 0 7 = true ∧ rb t .MR_CTL 0 0 = true ∧ mgmt (after (.millraceDisable 0) t) 0 = 0) ∧
    headCfgCode base = 3 ∧ rf (after (.millraceEnable 0) base) .MR_STAT 0 3 1 = 3 := by decide
theorem test_millrace_entries : let s (n : Nat) : State := setMr ready { ready.mr with inbox := [⟨6, 0, 0, false, [(0x100, n)]⟩], ahead := [] }; headRuns (s 96) = true ∧
    entryLines (s 96) ⟨6, 0, 0, false, [(0x100, 96)]⟩ = some 2 ∧ (after .millraceEntryAccept (s 96)).mr.held.length = 2 ∧
    entryLines (s 95) ⟨6, 0, 0, false, [(0x100, 95)]⟩ = none ∧ (after .millraceEntryAccept (s 95)).mr.held.length = 1 ∧
    (let r := brought ready 0 5 (List.replicate 60 3); (moverOf r r.mr.chan 5).isSome = true ∧ rowBytes r ≤ 60 ∧ (after .millraceRowLanded r).mr.ahead = [some (List.replicate 48 3)]) ∧
    after .millraceRowLanded ready = ready := by decide
theorem test_millrace_shift_power : lineLive (line .waiting false) = true ∧ (after .millraceShiftDone (due (fires .waiting false) tmrShift)).mr.line = some (line .waiting true) ∧
    timerDue (due ready tmrShift) tmrShift = true ∧ after .millraceShiftDone (fires .waiting false) = fires .waiting false ∧
    (let s := due (setMr ready { ready.mr with nextShifted := false }) tmrShift; (after .millraceShiftDone s).mr.nextShifted = true) ∧
    (let s := due (setMr (on ready .MR_STAT 0 0x80) { ready.mr with powered := false }) tmrHeadPwr; timerDue s tmrHeadPwr = true ∧ (after .headPowerDelayEnd s).mr.powered = true) ∧
    (let s := due ready tmrHeadAdc; rb s .MR_CTL 0 0 = true ∧ s.mr.running = false ∧ s.pp.adcCur = none ∧ s.pp.adcWait = [] ∧
      (after .millraceIdleAdcRequest s).pp.adcCur = some ⟨1, 0, .head 0, 0⟩) := by decide
theorem test_millrace_clear : let s := setData (on ready .MR_FAULT 0 3) 0 3; MayWrite s 0 .MR_FAULT 0 ∧ dstate (after (.millraceFaultClear 0 1) s) 0 = 3 ∧
    dstate (after (.millraceFaultClear 0 3) s) 0 = 0 ∧ MayWrite base 0 .MR_LIMLOCK 0 ∧ rb (after (.millraceLimitLock 0) base) .MR_LIMLOCK 0 0 = true := by decide
theorem test_line_start : let s := ready; Live s .print ∧ headRuns s = true ∧ lineReady s = true ∧ feedOk s = true ∧ feedLocked s = false ∧ rb s .MR_STAT 0 5 = false ∧
    rb s .MR_STAT 0 6 = false ∧ rn s .MR_VMIN 0 ≤ headVolts s ∧ headVolts s ≤ rn s .MR_VMAX 0 ∧ toCome s = [(0, 0, false)] ∧ (after .lineStart s).mr.running = true ∧
    dstate (after .lineStart s) 0 = 1 := by decide
theorem test_schedule : let s := setMr (fires .ended true) { (fires .ended true).mr with aPrev := 0, qPrev := 10 }; s.mr.running = true ∧ s.time < s.mr.aPrev + s.mr.qPrev ∧
    after .lineStart s = s ∧ after .scheduleEnd s = s ∧ (let u := { s with time := 10 }; lineReady u = false ∧ (after .scheduleEnd u).mr.running = false) := by decide
theorem test_firing : let l := due (fires .latching true) tmrPhase; let f := due (fires .firing true) tmrPulse; dstate (fires .waiting true) 0 = 1 ∧
    ((after .millraceLatch (fires .waiting true)).mr.line.map fun l => l.stage) = some .latching ∧ timerDue l tmrPhase = true ∧ dstate l 0 = 1 ∧
    (after .millracePhaseStart l).mr.drawn = 3 ∧ f.mr.cut = none ∧ nextSub [[true], [], [], []] 1 = none ∧ rn (after .millracePhaseEnd f) .MR_LINES 0 = 1 ∧
    (let g := setLine f { line .firing true with groups := [1] }; ((after .millracePhaseEnd g).mr.line.map fun l => l.stage) = some .gap) := by decide
theorem test_head_kill : let f := fires .firing true; rb f .MR_FAULT 0 0 = false ∧ f.mr.strobeAt = none ∧ (line .firing true).hcTrip < 53 ∧ (after (.headCurrentTrip 53) f).dev.kill = true ∧
    (line .firing true).stbMax < (line .firing true).width.getD 0 0 ∧ rb f .MR_FAULT 0 1 = false ∧ timerDue (due f tmrStrobe) tmrStrobe = true ∧
    dstate (after .strobeOvertime (due f tmrStrobe)) 0 = 3 := by decide

/-- The feeder configured and disabled, and with a half-step of four microsteps in progress. -/
def quiet : State := setPp (on (on (on base .PP_IRUN 0 10) .PP_IMAX 0 20) .PP_FCFG 0 1) { base.pp with cover := false }
def steps (micro : Nat) : State := setFd fed { fed.pp.feed with cur := some ⟨true, 4, micro, 10, 0, 40, true, false, false⟩, winLen := 100 }

theorem test_feeder_enable : MayWrite quiet 0 .PP_FCTL 0 ∧ rb quiet .PP_FCTL 0 0 = false ∧ feedCfgCode quiet = 0 ∧ quiet.pp.cover = false ∧ mgmt (after (.feederEnable 0) quiet) 1 = 1 ∧
    feedCfgCode base = 1 ∧ rf (after (.feederEnable 0) base) .PP_FSTAT 0 2 1 = 1 ∧ MayWrite fed 0 .PP_FCTL 0 ∧ mgmt (after (.feederDisable 0) fed) 1 = 0 := by decide
theorem test_feed_move : MayWrite fed 0 .PP_MOVE 0 ∧ feedMoves fed = 0 ∧ feedOk fed = true ∧ feedLocked fed = false ∧ feedOk base = false ∧
    feedPend (after (.feedMove 0 0x1FFFF) fed) = 0xFFFF ∧ rb (after (.feedMove 0 0x10000) fed) .PP_FSTAT 0 4 = true ∧ rb (after (.feedMove 0 1) base) .PP_FSTAT 0 4 = true ∧
    (after (.feedCancel 0) (after (.feedMove 0 5) fed)).pp.feed.segs = [] := by decide
theorem test_half_step : let s := after (.feedMove 0 2) fed; s.pp.feed.cur = none ∧ s.pp.feed.holding = false ∧ dstate s 1 ≠ 3 ∧ (s.pp.feed.segs.map fun g => g.isMove) = [true] ∧
    rn (after .halfStepDue s) .PP_POS 0 = 1 ∧ (let g := { s with pp := { s.pp with feed := { s.pp.feed with segs := s.pp.feed.segs.map fun g => { g with isMove := false, a := 5 } } } };
      after .halfStepDue g = g) := by decide
theorem test_microstep : (after .feedMicrostep { steps 1 with time := 10 }).pp.feed.phi = 2 ∧ (after .feedMicrostep { steps 4 with time := 40 }).pp.feed.cur = none ∧ dstate fed 1 ≠ 3 := by decide
theorem test_chop_without_hold_current : let s := due (setFd (on base .PP_IHOLD 0 0) { base.pp.feed with holding := true, floating := false }) tmrChop
    (after .chopPeriodStart s).pp.feed.floating = true ∧ timerOn (after .chopPeriodStart s) tmrChop = false := by decide
theorem test_chopping : let s := due base tmrChop; timerDue s tmrChop = true ∧ timerOn (after .chopPeriodStart s) tmrChop = true ∧ (after (.chopOntimeLimit 0) s).pp.feed.windA.on = false ∧
    (let w := due (setFd base { base.pp.feed with windA := { base.pp.feed.windA with on := true } }) (tmrConv 0); timerDue w (tmrConv 0) = true ∧ (windOf w 0).on = true ∧ base.pp.adcCur = none ∧
      base.pp.adcWait = [] ∧ (after (.windingCurrentConversion 0) w).pp.adcCur = some ⟨0, 2, .chop 0, 0⟩) := by decide
theorem test_holding : let s (x : Nat) : State := due (setFd (on fed .PP_FCFG 0 x) { fed.pp.feed with holding := true, floating := false }) tmrHold; timerDue (s 0) tmrHold = true ∧
    (after .holdTimeout (s 0x81)).pp.feed.floating = true ∧ timerOn (after .holdTimeout (s 1)) tmrHold = false := by decide
theorem test_ripple_bemf : let fl := due (setFd fed { fed.pp.feed with floating := true }) tmrBemf; after .rippleWindowEnd fl = fl ∧ (after .bemfSample fl).pp.adcCur = some ⟨2, 4, .bemf 4, 0⟩ ∧
    timerDue fl tmrBemf = true ∧ (let h := { setFd fed { fed.pp.feed with holding := true, floating := false, winAt := 0, winLen := 100, windA := { fed.pp.feed.windA with onTicks := 100 } } with time := 100 };
      rn (after .rippleWindowEnd h) .PP_RIPLAST 0 = effort (windowOn h) 100 % 256) := by decide
theorem test_feeder_clear : let s := setData (on quiet .PP_FFAULT 0 3) 1 3; MayWrite s 0 .PP_FFAULT 0 ∧ dstate s 1 = 3 ∧ dstate (after (.feederFaultClear 0 3) s) 1 = 0 ∧
    dstate (after (.feederFaultClear 0 1) s) 1 = 3 := by decide

theorem test_sensors : let s := due base tmrSensor; let e := due (setPp base { base.pp with emit := true }) tmrEmit; timerDue s tmrSensor = true ∧ sensorsOn s = [] ∧ (after .sensorPeriod s).pp.emit = true ∧
    timerDue e tmrEmit = true ∧ (after .sensorEmitSettle e).pp.emit = false ∧ sensorsOn (on s .PP_SNSCFG 2 1) = [2] ∧
    (after .sensorPeriod (on s .PP_SNSCFG 2 1)).pp.adcCur = some ⟨2, 10, .dark 2, 0⟩ ∧ (after .sensorEmitSettle (on e .PP_SNSCFG 2 1)).pp.adcCur = some ⟨2, 10, .lit 2, 0⟩ ∧
    MayWrite base 0 .PP_SNSCTL 0 ∧ (sensorOf (after (.sensorCalibrate 0 3) base) 3).cal = true := by decide
theorem test_inputs : let s (p : Nat) : State := due (on { pin base 26 1 with pads := [(26, some true)] } .PP_INPOL 0 p) (tmrDeb .feedButton); timerDue (s 0) (tmrDeb .feedButton) = true ∧
    inputLine (s 0) (inputFn .feedButton) = some true ∧ inputLevel (after (.inputDebounced .feedButton true) (s 0xF)) .feedButton = true ∧
    inputLevel (after (.inputDebounced .feedButton true) (s 0)) .feedButton = false ∧ after (.inputDebounced .feedButton false) (s 0xF) = s 0xF ∧
    timerDue base (tmrDeb .feedButton) = false ∧ MayWrite base 0 .PP_LIMLOCK 0 ∧ rb (after (.ppLimitLock 0) base) .PP_LIMLOCK 0 0 = true := by decide
theorem test_adc_sequence : let g := after (.adcSeqGo 0) (on (on base .ADC_SEQLEN 0 1) .ADC_SEQ 0 11); MayWrite base 0 .ADC_SEQCTL 0 ∧ base.pp.seqLeft = 0 ∧ g.pp.seqLeft = 2 ∧
    g.pp.adcCur = some ⟨3, 11, .sequence 0, 0⟩ ∧ timerDue (due g tmrAdc) tmrAdc = true ∧
    rn (after (.adcConversionDone 0xABC) (due g tmrAdc)) .ADC_LAST 11 = 0xABC ∧ (after (.adcConversionDone 0xABC) (due g tmrAdc)).pp.seqLeft = 1 ∧
    (after (.adcSeqStop 0) g).pp.seqLeft = 0 ∧ after (.adcConversionDone 1) base = base ∧ timerDue (due g tmrSeq) tmrSeq = true ∧
    rb (after .adcSeqPeriod (due g tmrSeq)) .ADC_SEQCTL 0 3 = true ∧ (after .adcSeqPeriod (due base tmrSeq)).pp.adcCur = some ⟨3, 0, .sequence 0, 0⟩ := by decide

/-- The cutter enabled with the blade at home, and a phase of its cycle. -/
def cuts : State := setPp (setMgmt (on base .PP_CCTL 0 1) 2 1) { base.pp with home := true, cover := false }
def phase (p : CutPhase) : State := setPp (setData cuts 2 1) { cuts.pp with cut := p }

theorem test_cut : let t := after (.cut 0) cuts; MayWrite cuts 0 .PP_CCTL 0 ∧ cutRefusal cuts = 0 ∧ t.pp.cut = .starting ∧ t.pp.brake = false ∧ cutRefusal base = 1 ∧
    rf (after (.cut 0) base) .PP_CSTAT 0 2 0 = 1 ∧ timerDue (due t tmrCutRise) tmrCutRise = true ∧ (after .cutterDriveRise (due t tmrCutRise)).pp.cutDrv = true ∧
    dstate (after (.cutLeaveTimeout false) (due t tmrCutLeave)) 2 = 3 ∧ rf (after (.cutTimeout false) (due t tmrCutTmo)) .PP_CSTAT 0 2 0 = 5 := by decide
theorem test_cut_end : (after .cutterBrake (due (phase .coasting) tmrCutBrake)).pp.cut = .braking ∧ dstate (after .cutterBrakeEnd (due (phase .braking) tmrCutEnd)) 2 = 0 ∧
    rf (after .cutterBrakeEnd (due (phase .jogBraking) tmrCutEnd)) .PP_CSTAT 0 2 0 = 0 ∧ timerDue (due (phase .coasting) tmrCutBrake) tmrCutBrake = true := by decide
theorem test_jog : mgmt cuts 2 = 1 ∧ dstate cuts 2 = 0 ∧ (after (.jog 0) cuts).pp.cut = .jogging ∧ mgmt base 2 ≠ 1 ∧ after (.jog 0) base = base ∧
    (after .jogEnd (due (phase .jogging) tmrJog)).pp.brake = true ∧ dstate (phase .driving) 2 = 1 ∧ rb (phase .driving) .PP_CCTL 0 0 = true ∧
    rf (after (.cutterDisable 0) (phase .driving)) .PP_CSTAT 0 2 0 = 7 ∧ mgmt (after (.cutterDisable 0) cuts) 2 = 0 ∧ MayWrite cuts 0 .PP_CFAULT 0 ∧
    dstate (after (.cutterFaultClear 0 7) (setData (on cuts .PP_CFAULT 0 7) 2 3)) 2 = 0 := by decide
theorem test_drawers : let s := setMgmt (on base .PP_DCTL 0 3) 4 1; let p := after (.drawerPulse 0 1 3) s; MayWrite s 0 .PP_DPULSE 1 ∧ (drawerOf s 1).high = none ∧ timerOn s (tmrCool 1) = false ∧
    drawerOf p 1 = ⟨some (0, 10), none⟩ ∧ drawerOf (after (.drawerPulse 0 1 99) p) 1 = ⟨some (0, 10), some 99⟩ ∧ after (.drawerPulse 0 0 9) base = base ∧ mgmt base 3 ≠ 1 ∧
    (drawerOf (after (.drawerPulseEnd 1) (due p (tmrPulseDrw 1))) 1).high = none ∧ MayWrite s 0 .PP_DCTL 0 ∧ mgmt (after (.drawerDisable 0 1) p) 4 = 0 ∧
    (let c := due (after (.drawerPulse 0 1 99) p) (tmrCool 1); (drawerOf (after (.drawerCooldownEnd 1) c) 1).high = some (0, 99)) ∧
    timerOn (after (.drawerCooldownEnd 1) (due s (tmrCool 1))) (tmrCool 1) = false := by decide
theorem test_bell_leds : MayWrite base 0 .PP_BELLCTL 0 ∧ (after (.bellGo 0) base).pp.bell = true ∧ (after (.bellStop 0) (after (.bellGo 0) base)).pp.bell = false ∧
    (after .bellTimer (due (after (.bellGo 0) base) tmrBell)).pp.bell = false ∧ MayWrite base 0 (ledReg 0) 2 ∧ (ledOf (after (.ledModeWrite 0 2 0 2) base) 2).out = true ∧
    (ledOf (after (.ledModeWrite 0 2 0 0) base) 2).out = false ∧ (let l := due (after (.ledModeWrite 0 2 0 2) base) (tmrLed 2); timerDue l (tmrLed 2) = true ∧
      (ledOf (after (.ledPatternTick 2) l) 2).out = false ∧ (ledOf (after (.ledPatternTick 2) (due (after (.ledPatternTick 2) l) (tmrLed 2))) 2).out = true) := by decide

/-! ## The links -/

/-- USB attached to a bus that drives VBUS, and suspended there. -/
def attached : State := setMgmt (on (on linked .USB_CTL 0 3) .USB_STAT 0 1) 5 1
def asleep : State := on attached .USB_STAT 0 3
/-- An entry of eight bytes that a unit holds. -/
def holds (s : State) (u : Nat) : State := setSlot s u (some ⟨3, ⟨7, 0, 0, false, [(0x100, 256)]⟩, 0, 0⟩)

theorem test_usb_bus : Live attached .usb ∧ MayWrite attached 0 .USB_CTL 0 ∧ dstate attached 5 ≤ 1 ∧ mgmt (after (.usbDisable 0) attached) 5 = 0 ∧ usbPull attached = true ∧
    rb (after (.vbusChange false) attached) .USB_STAT 0 5 = true ∧ rb (after .usbBusReset attached) .USB_STAT 0 2 = true ∧ timerDue (due attached tmrIdle) tmrIdle = true ∧ rb (after .usbSuspend (due attached tmrIdle)) .USB_STAT 0 1 = true ∧
    rb (after .usbResume (due attached tmrIdle)) .USB_STAT 0 1 = false ∧ timerDue attached tmrIdle = false ∧
    rb (after .usbResume asleep) .USB_STAT 0 4 = true ∧ (after (.usbRemoteWake 0) attached) = attached ∧ (after (.usbRemoteWake 0) { asleep with time := 120000 }).usb.waking = true ∧
    asleep.usb.susAt = 0 ∧ timerOn (after .usbRemoteWakeEnd (due asleep 132)) 132 = false := by decide
theorem test_usb_address : MayWrite attached 0 .USB_ADDR 0 ∧ MayWrite attached 0 .USB_EPCFG 2 ∧ (after (.usbAddrWrite 0 0xFF) attached).usb.staged = some 127 ∧
    togOf (after (.usbToggleReset 0 2) (setTog attached 7 true)) 7 = false ∧ (let s := setUsb attached { attached.usb with staged := some 9, sent := some (0, 0) };
      (after .usbHandshake s).usb.addr = 9) := by decide
theorem test_link_clock : let s := setDev attached { attached.dev with linkLost := true }; s.dev.phase = .awake ∧ rb s .CLK_STAT 0 3 = true ∧ rb s .CLK_CTL 0 2 = true ∧
    (let t := after .linkClockRestore s; dstate t 5 = 3 ∧ dstate t 6 = 3 ∧ MayWrite t 0 .USB_STAT 0 ∧ MayWrite t 0 .ETH_STAT 0 ∧
      dstate (after (.linkNoclkClear 0 false) t) 5 ≠ 3 ∧ dstate (after (.linkNoclkClear 0 true) t) 6 ≠ 3) := by decide
theorem test_usb_ep0 : usbHears attached = true ∧ attached.usb.addr = 0 ∧ mgmt attached 5 = 1 ∧ MayWrite attached 0 .USB_EP0CTL 0 ∧ rn (after (.usbSetup 0 0x0807060504030201) attached) .USB_SETUP 7 = 8 ∧
    rb attached .USB_EP0CTL 0 3 = false ∧ attached.usb.stall0 = false ∧ (after (.usbEp0Stall 0) attached).usb.stall0 = true ∧
    (let i := after (.usbEp0Armin 0) (on attached .USB_EP0LEN 0 64); (after (.usbInToken 0 0) i).usb.sent = some (0, 64) ∧ togOf (after .usbHandshake (after (.usbInToken 0 0) i)) 0 = true ∧
      (after (.usbHandshakeTimeout false) (after (.usbInToken 0 0) i)).usb.sent = none) ∧
    (let o := after (.usbEp0Armout 0) attached; o.usb.armOut = true ∧ rn (after (.usbOutData 0 0 false [1, 2] true) o) .USB_EP0BUF 1 = 2 ∧
      togOf (after (.usbOutData 0 0 false [1, 2] true) o) 1 = true) := by decide
theorem test_usb_in : let h := holds (on attached .USB_EPCFG 0 3) 5; let s := brought h 3 7 (List.replicate 64 1); epUnit 1 false = some 5 ∧ rb s .USB_EPCFG 0 0 = true ∧ rb s .USB_EPCFG 0 2 = false ∧
    usbMps s 5 = 64 ∧ (moverOf s 3 7).isSome = true ∧ (after (.usbInToken 0 1) s).usb.sent = some (1, 64) ∧ ((slotOf (after .usbHandshake (after (.usbInToken 0 1) s)) 5).map fun x => x.moved) = some 64 ∧
    (let w := brought h 3 7 [1]; (moverOf w 3 7).isSome = true ∧ (after (.usbInToken 0 1) w).usb.sent = none) := by decide
theorem test_usb_out : let s := holds (on attached .USB_EPCFG 0 3) 4; let d := List.replicate 64 (7 : Byte); epUnit 1 true = some 4 ∧ rb s .USB_EPCFG 0 1 = true ∧ rb s .USB_EPCFG 0 3 = false ∧
    usbMps s 4 = 64 ∧ after (.usbOutData 0 1 true d false) s = usbHeard (send s 7 (.count 0x5C 1)) ∧ after (.usbOutData 0 1 true d true) s = usbHeard (send s 7 (.count 0x5E 1)) ∧
    ((slotOf (after (.usbOutData 0 1 false d true) s) 4).map fun x => x.moved) = some 64 ∧ (xwaitOf (after (.usbOutData 0 1 false d true) s) 20).length = 8 := by decide

/-- Ethernet enabled both ways, a broadcast frame of 64 bytes whose FCS is right, and one whose is not. -/
def cabled : State := setMgmt (on (on (on (pin (pin (pin linked 67 1) 68 1) 69 1) .ETH_CTL 0 7) .ETH_FILT 0 3) .ETH_MACCFG 0 0) 6 1
def bad64 : List Byte := List.replicate 6 0xFF ++ List.replicate 58 0
def good64 : List Byte := bad64.take 60 ++ leBytes 4 (crc32Of (bad64.take 60))

theorem test_frames : fcsOk bad64 = false ∧ fcsOk good64 = true ∧ good64.length = 64 ∧ accepts cabled good64 = true ∧ be16 good64 12 ≠ 0x8808 := by decide
theorem test_eth_receive : Live cabled .eth ∧ connected cabled .ethCrsdv = true ∧ connected cabled (.ethRxd 0) = true ∧ connected cabled (.ethRxd 1) = true ∧ unitRuns cabled 6 = true ∧ rb (after (.ethFrameReceived bad64 false) cabled) .ETH_STAT 0 1 = true ∧
    rn (after (.ethFrameReceived good64 false) cabled) .ETH_RXFILL 0 = 72 ∧ (let f := setEth cabled { cabled.eth with fifo := List.replicate 57 ⟨good64, 0, 0⟩ };
      4096 < rxFill f + fifoBytes 64 ∧ rb (after (.ethFrameReceived good64 false) f) .ETH_STAT 0 0 = true) := by decide
theorem test_eth_deliver : let s := holds (setEth cabled { cabled.eth with fifo := [⟨good64, 0, 1⟩] }) 2; slotOf (after .ethRxDeliver s) 2 = none ∧
    (xwaitOf (after .ethRxDeliver s) 19).getLast? = some (.ringDone 3 7 0 60 1) ∧ (xwaitOf (after .ethRxDeliver s) 20).length = 8 := by decide
theorem test_eth_send : let s := holds cabled 3; let b := setEth s { s.eth with sending := true }; (after .ethTxStart (setEth s { s.eth with tx := [1] })).eth.sending = true ∧ after .ethTxStart s = s ∧ after .ethTxStart (setEth s { s.eth with pause := 5 }) = setEth s { s.eth with pause := 5 } ∧
    slotOf (after .ethTxDone b) 3 = none ∧ (after (.ethCollision false) b).eth.backoff = true ∧ rb b .ETH_MACCFG 0 1 = false ∧
    rb (after (.ethCollision false) (setEth b { b.eth with attempts := 15 })) .ETH_STAT 0 2 = true ∧ (xwaitOf (after (.ethCollision true) b) 19).getLast? = some (.ringDone 3 7 0x82 0 0) ∧
    (after .ethBackoffEnd (after (.ethCollision false) b)).eth.backoff = false ∧ MayWrite b 0 .ETH_CTL 0 ∧
    (let d := setData b 6 1; slotOf (after (.ethDisable 0) d) 3 = slotOf d 3 ∧ dstate (after (.ethDisable 0) d) 6 = 2) := by decide
theorem test_eth_pause_mdio : let p := setEth cabled { cabled.eth with pause := 5 }; (after (.ethPauseEnd false) p).eth.pause = 0 ∧
    (let s := setEth (on (on cabled .ETH_MACCFG 0 10) .ETH_RXPHI 0 10) { cabled.eth with fifo := [⟨good64, 0, 0⟩] }; rn s .ETH_RXPHI 0 < rxFill s ∧ (after .ethPauseSend s).eth.pauseSent = true) ∧
    dstate (after .ethRefclkLoss cabled) 6 = 3 ∧ MayWrite cabled 0 .ETH_MDCMD 0 ∧ (let m := after (.mdioGo 0) cabled; m.eth.mdio ≠ none ∧ rn (after (.mdioDone 0xBEEF) m) .ETH_MDDATA 0 = 0xBEEF) ∧
    (let q := due (on cabled .ETH_MDPOLL 0 1) 131; timerDue q 131 = true ∧ rb (after (.mdioPoll 4) q) .ETH_STAT 0 4 = true) := by decide

/-- UART 1 enabled. -/
def wired : State := setMgmt (on (on (pin (pin (pin base 54 1) 56 1) 58 1) .UART_FMT 1 3) .UART_CTL 1 1) 8 1

theorem test_uart_receive : Live wired .serial ∧ unitRuns wired 8 = true ∧ uartStill wired 1 = false ∧ connected wired (.rxd 1) = true ∧ connected wired (.cts 1) = true ∧ connected base (.cts 1) = false ∧ rb wired .UART_CTL 1 1 = false ∧ rxCount (uartOf wired 1) < 64 ∧
    (uartOf (after (.uartCharReceived 1 0x41 false true) wired) 1).rx = [.bad 0x41] ∧ rb (after (.uartCharReceived 1 0x41 false true) wired) .UART_STAT 1 2 = true ∧
    (let f := setUart wired 1 { uartOf wired 1 with rx := List.replicate 64 (.good 1) }; rb (after (.uartCharReceived 1 2 false false) f) .UART_STAT 1 0 = true) ∧
    rb (after (.uartBreak 1) wired) .UART_STAT 1 7 = true ∧ rb (after (.uartBreakEnd 1) (after (.uartBreak 1) wired)) .UART_STAT 1 7 = false ∧
    (let h := setSlot wired 11 (some ⟨3, ⟨7, 0, 0, false, [(0x100, 8)]⟩, 5, 0⟩); slotOf (after (.uartIdleTimeout 1 false) h) 11 = none) := by decide
theorem test_uart_send : MayWrite wired 0 .UART_DATA 1 ∧ MayRead wired 0 .UART_DATA 1 ∧ MayWrite wired 0 .UART_CTL 1 ∧ (let s := after (.uartDataWrite 0 1 0x41) wired;
      (uartOf s 1).shift = some 0x41 ∧ (uartOf (after (.uartDataWrite 0 1 0x42) s) 1).tx = [0x42] ∧ (uartOf (after (.uartTxCharDone 1) s) 1).shift = none ∧
      (uartOf (after (.uartTxCharDone 1) (after (.uartDataWrite 0 1 0x42) s)) 1).shift = some 0x42) ∧
    rb (after (.uartLineChange 1 false true) wired) .UART_STAT 1 5 = true ∧ slotOf wired 12 = none ∧
    (xwaitOf (after (.uartDataRead 0 1 (.greg 0 1)) (setUart wired 1 { uartOf wired 1 with rx := [.good 0x43] })) 5).getLast? = some (.inReply (dest (.greg 0 1)) 0x43) ∧
    (let d := setData (setUart wired 1 { uartOf wired 1 with shift := some 1 }) 8 1; dstate (after (.uartDisable 0 1) d) 8 = 2) := by decide

/-! ## The kitchen bus, the accessory bus and the serial flash -/

/-- Kolnex enabled at address 9, with a frame held for destination 2 or 0xFF. -/
def kolnex : State := setMgmt (on (on (pin base 34 1) .KX_CTL 0 1) .KX_ADDR 0 9) 9 1
def frame (dst tries : Nat) : KxFrame := ⟨5, dst, 1, 0, [0xAA], some 3, tries, false, false⟩
def offered (dst tries : Nat) : State := setKx kolnex { kolnex.kx with held := [frame dst tries], free := true }
/-- The same frame on the wire, and waiting for its ACK. -/
def sends (dst tries : Nat) : State := setKx (offered dst tries) { (offered dst tries).kx with wire := .data 5, free := false }
def window (tries : Nat) : State := setKx (offered 2 tries) { (offered 2 tries).kx with ackWin := some 5, free := false }
/-- Bytes with their CRC. -/
def sealed (bs : List Byte) : List Byte := bs ++ [BitVec.ofNat 8 (kxCrc bs / 256), BitVec.ofNat 8 (kxCrc bs)]

theorem test_kolnex_enable : let s := on base .KX_ADDR 0 9; Live s .serial ∧ MayWrite s 0 .KX_CTL 0 ∧ rb s .KX_CTL 0 0 = false ∧ kxAddr s = 9 ∧ mgmt (after (.kolnexEnable 0) s) 9 = 1 ∧
    rb (after (.kolnexEnable 0) (on s .KX_ADDR 0 255)) .KX_STAT 0 4 = true ∧ mgmt (after (.kolnexDisable 0) (offered 2 0)) 9 = 0 ∧ (after (.kolnexDisable 0) (offered 2 0)).kx.held = [] := by decide
theorem test_kolnex_accept : let s (n : Nat) : State := setKx kolnex { kolnex.kx with inbox := [⟨5, 0x11, 2, false, [(0x100, n)]⟩] }; unitRuns (s 1) 9 = true ∧
    kxWellFormed (s 1) ⟨5, 0x11, 2, false, [(0x100, 1)]⟩ = true ∧ (after .kolnexTxAccept (s 1)).kx.held = [⟨5, 2, 1, 1, [], none, 0, false, false⟩] ∧ moverOf (after .kolnexTxAccept (s 1)) 0 5 = some ⟨[(0x100, 1)], 1, 1, [], 0, false⟩ ∧
    kxWellFormed (s 65) ⟨5, 0x11, 2, false, [(0x100, 65)]⟩ = false ∧ (after .kolnexTxAccept (s 65)).kx.held = [] ∧
    (let t : State := { on (after .kolnexTxAccept (s 1)) .RING_CFG 0 13 with xfly := [(14, [.unitData 0 5 [0xAA] false])] };
      (after (.crossingCapture 14) t).kx.held = [⟨5, 2, 1, 1, [0xAA], none, 0, false, false⟩]) := by decide
theorem test_kolnex_slot : let s := setKx (offered 2 0) { (offered 2 0).kx with drawn := some 12, free := false }; kxWants s = true ∧ (kxOffer s).map (fun f => f.idx) = some 5 ∧ s.kx.bcnDue = false ∧
    (after (.kolnexSlotStart true) s).kx.drawn = none ∧ (after (.kolnexSlotStart false) s).kx.wire = .data 5 ∧ ((after (.kolnexSlotStart false) s).kx.held.map fun f => f.tries) = [1] ∧
    (let b := setKx s { s.kx with bcnDue := true }; (after (.kolnexSlotStart false) b).kx.wire = .beacon) ∧ kolnex.kx.wire = .quiet ∧ kolnex.kx.ackWin = none ∧
    (after .kolnexBusFree kolnex).kx.free = true := by decide
theorem test_kolnex_collision : let s := sends 2 1; s.kx.wire ≠ .quiet ∧ rf (after (.kolnexReadbackMismatch true) s) .KX_STAT 0 3 2 = 1 ∧ kxLone s = false ∧ kxFind s 5 = some (frame 2 1) ∧
    kxAgain (on s .KX_RETRY 0 1) (frame 2 1) = true ∧ ((after (.kolnexReadbackMismatch false) (on s .KX_RETRY 0 1)).kx.held.map fun f => f.collided) = [true] ∧
    kxAgain (on s .KX_RETRY 0 0) (frame 2 1) = false ∧ (after (.kolnexReadbackMismatch false) (on s .KX_RETRY 0 0)).kx.held = [] ∧
    dstate s 9 ≠ 3 ∧ rf (after .kolnexStuck s) .KX_STAT 0 3 2 = 2 := by decide
theorem test_kolnex_sent : (after .kolnexFrameSent (sends 0xFF 1)).kx.held = [] ∧ (after .kolnexFrameSent (sends 2 1)).kx.ackWin = some 5 := by decide
theorem test_kolnex_ack : let bs := sealed [9, 2, 0xE3, 0]; kxCrcOk bs = true ∧ bs.length = 6 ∧ kxAddr (window 1) = 9 ∧ (after (.kolnexAckReceived bs false) (window 1)).kx.held = [] ∧
    kxAgain (on (window 1) .KX_RETRY 0 1) (frame 2 1) = true ∧ (after (.kolnexAckTimeout false false) (on (window 1) .KX_RETRY 0 1)).kx.held.length = 1 ∧
    kxAgain (on (window 1) .KX_RETRY 0 0) (frame 2 1) = false ∧ rn (after (.kolnexAckTimeout false false) (on (window 1) .KX_RETRY 0 0)) .KX_LASTNA 0 = 2 := by decide
theorem test_kolnex_lone : let s := setKx (on (on (window 1) .KX_RETRY 0 0) .KX_CFG 0 8) { (window 1).kx with lone := [(7, 0), (8, 0)] };
    (s.kx.lone.filter fun e => !(e.1 == 2)).length = 2 ∧ rb s .KX_CFG 0 3 = true ∧ (let l := after (.kolnexAckTimeout false false) s; kxLone l = true ∧ timerOn l tmrBeacon = true ∧
      (let d := due l tmrBeacon; timerDue d tmrBeacon = true ∧ (after .kolnexBeaconDue d).kx.bcnDue = true) ∧ kxLone (after (.kolnexBeaconReceived (sealed [0xFF, 2, 0xF0, 0]) false) (setKx l { l.kx with ackWin := none })) = false) ∧
    (after .kolnexLoneAge { s with time := 2 ^ 32 }).kx.lone = [] := by decide
theorem test_kolnex_clear : let f := after .kolnexStuck kolnex; connected kolnex .kxRx = true ∧ rb kolnex .KX_CTL 0 0 = true ∧ dstate kolnex 9 ≠ 3 ∧ MayWrite f 0 .KX_STAT 0 ∧ f.kx.free = false ∧ rb (after (.kolnexFaultClear 0 2) f) .KX_STAT 0 1 = true ∧
    (let g := after .kolnexBusFree f; g.kx.free = true ∧ dstate (after (.kolnexFaultClear 0 2) g) 9 = 0) := by decide
theorem test_kolnex_receive : let u := sealed [9, 2, 0x13, 1, 0x55]; let b := sealed [0xFF, 2, 0x13, 1, 0x55]; kxCrcOk u = true ∧ kxCrcOk b = true ∧ u.length = 7 ∧ kolnex.kx.ackWin = none ∧
    kxIsDup kolnex 2 3 = false ∧ (let t := after (.kolnexDataReceived u false false) kolnex; t.kx.ackOwed = some (2, 3) ∧ t.kx.staging = [⟨[9, 2, 0x13, 1, 0x55], 0⟩] ∧ kxIsDup t 2 3 = true ∧
      (after (.kolnexDataReceived u false false) t).kx.staging.length = 1 ∧ (after .kolnexAckSend t).kx.wire = .ack ∧ slotOf (after .kolnexRxDeliver (holds t 14)) 14 = none) ∧
    ((after (.kolnexDataReceived b false false) kolnex).kx.staging.map fun x => x.cflags) = [1] ∧ kxHearing kolnex = true ∧
    (let f := setKx kolnex { kolnex.kx with staging := [⟨[], 0⟩, ⟨[], 0⟩] }; rb (after (.kolnexDataReceived u false false) f) .KX_STAT 0 7 = true) ∧
    (after (.kolnexDataReceived u true false) kolnex).kx.staging = [] ∧ (after .kolnexRxGap kolnex).kx.free = false := by decide

/-- Waypost enabled, and in a slot. -/
def bused : State := on (pin base 32 1) .WP_CTL 0 1
def slot (k : WpSlot) (op : Nat) : State := due (setWp (on bused .WP_STAT 0 1) { Wp.reset with slot := some k, op := op }) tmrSlot

theorem test_waypost_go : MayWrite bused 0 .WP_CTL 0 ∧ (after (.waypostReset 0) bused).wp.slot = some (.roll false false) ∧ (after (.waypostXfer 0) (on bused .WP_OP 0 1)).wp.op = 1 ∧
    (after (.waypostXfer 0) (on (on bused .WP_OP 0 5) .WP_WLEN 0 1)).wp.slot = some .write ∧ (after (.waypostPass 0) (on bused .WP_OP 0 2)).wp.op = 2 ∧
    after (.waypostPass 0) (slot .read 1) = slot .read 1 ∧ (after (.waypostAbort 0) (slot .read 1)).wp.abort = true ∧ rb (after (.waypostDisable 0) bused) .WP_CTL 0 0 = false := by decide
theorem test_waypost_slots : connected bused .wpLine = true ∧ connected base .wpLine = false ∧ timerDue (slot .read 1) tmrSlot = true ∧ rf (after (.waypostSlotEnd ⟨false, false⟩ ⟨false, false⟩) (slot (.roll false false) 0)) .WP_RESULT 0 2 0 = 0 ∧ rf (after (.waypostSlotEnd ⟨true, false⟩ ⟨false, false⟩) (slot (.roll false false) 0)) .WP_RESULT 0 2 0 = 1 ∧
    rf (after (.waypostSlotEnd ⟨true, false⟩ ⟨true, false⟩) (slot .read 1)) .WP_RESULT 0 2 0 = 6 ∧ (let r := on (slot .read 1) .WP_RLEN 0 1; (after (.waypostSlotEnd ⟨true, false⟩ ⟨false, false⟩) r).wp.got = [true] ∧
      rf (after (.waypostSlotEnd ⟨true, false⟩ ⟨false, false⟩) (setWp r { r.wp with got := List.replicate 7 false })) .WP_RESULT 0 2 0 = 0) ∧
    rf (after (.waypostSlotEnd ⟨true, false⟩ ⟨true, false⟩) (slot .tripRead 2)) .WP_RESULT 0 2 0 = 2 ∧ (after (.waypostSlotEnd ⟨true, false⟩ ⟨false, false⟩) (slot .tripRead 2)).wp.d = true ∧
    (after (.waypostSlotEnd ⟨false, false⟩ ⟨false, false⟩) (slot .tripRead 2)).wp.newlast = some 0 ∧ rf (after (.waypostSlotEnd ⟨true, false⟩ ⟨true, false⟩) (setWp (slot .read 1) { (slot .read 1).wp with abort := true })) .WP_RESULT 0 2 0 = 5 := by decide
theorem test_waypost_found : let s := slot .tripConfirm 2; rn (after (.waypostSlotEnd ⟨false, false⟩ ⟨true, false⟩) (setWp s { s.wp with cur := 0x0807060504030201 })) .WP_ID 7 = 8 ∧ rn (after (.waypostSlotEnd ⟨false, false⟩ ⟨true, false⟩) s) .WP_IDCOUNT 0 = 1 ∧
    (after (.waypostSlotEnd ⟨false, false⟩ ⟨true, false⟩) (setWp s { s.wp with i := 5 })).wp.i = 4 ∧ rf (after (.waypostSlotEnd ⟨true, false⟩ ⟨true, false⟩) s) .WP_RESULT 0 2 0 = 2 ∧
    rf (after (.waypostSlotEnd ⟨false, false⟩ ⟨true, false⟩) (setWp s { s.wp with found := 15, newlast := some 3 })) .WP_RESULT 0 2 0 = 3 ∧
    (after (.waypostSlotEnd ⟨false, false⟩ ⟨true, false⟩) (setWp s { s.wp with newlast := some 3 })).wp.slot = some (.roll false false) := by decide
theorem test_waypost_line : (after .waypostDisturbance (slot .read 1)).wp.changed = true ∧ rb (after .waypostDisturbance bused) .WP_STAT 0 2 = true ∧
    rf (after .waypostShort (slot .read 1)) .WP_RESULT 0 2 0 = 4 ∧ rb (after .waypostShort bused) .WP_STAT 0 2 = true := by decide

/-- The SPI port holds a received entry of 256 bytes, begun or not, and one of none. -/
def queued (begun : Bool) : State := let s := setSlot base 15 (some ⟨3, ⟨7, 4, 0, false, [(0x100, 256)]⟩, 0, 0⟩); setSpi s { s.spi with begun := begun }
theorem test_spi_start : let q := queued false; q.spi.fill = none ∧ fillReady q = false ∧ rb q .SPI_STAT 0 3 = false ∧ spiBadForm ⟨7, 4, 0, false, [(0x100, 256)]⟩ none = false ∧
    (after .spiEntryStart q).spi.begun = true ∧ slotOf (after .spiEntryStart (on q .SPI_STAT 0 8)) 15 = none ∧
    (let b := setSlot q 15 (some ⟨3, ⟨7, 3, 0, false, [(0x100, 256)]⟩, 0, 0⟩); spiBadForm ⟨7, 3, 0, false, [(0x100, 256)]⟩ none = true ∧ slotOf (after .spiEntryStart b) 15 = none) := by decide
theorem test_spi_words : let w := due (pin (queued true) 45 1) tmrReady; timerOn w tmrReady = true ∧ connected w .spiReady = true ∧ connected base .spiReady = false ∧
    ((slotOf (after (.spiReadyHigh [0x5A]) w) 15).map fun x => x.moved) = some 1 ∧ rdyEn w 0 = false ∧ slotOf (after (.spiEntryDone []) (queued true)) 15 = none ∧
    rb (after (.spiStretchTimeout false []) w) .SPI_FAULT 0 0 = true ∧ rb (after (.spiChainTimeout false) (due base tmrChain)) .SPI_FAULT 0 1 = true ∧
    MayWrite base 0 .SPI_FAULT 0 ∧ rn (after (.spiFaultClear 0 2) (on base .SPI_FAULT 0 7)) .SPI_FAULT 0 = 5 := by decide
theorem test_spi_stretch : let f := due (setSpi (pin base 45 1) { base.spi with fill := some 4, waiting := [⟨0, 128, 1, dest (.greg 0 1)⟩] }) tmrReady; rb (after (.spiStretchTimeout false []) f) .SPI_FAULT 0 2 = true ∧
    (.spiReply 0 (dest (.greg 0 1)) [0xFF]) ∈ xwaitOf (after (.spiStretchTimeout false []) f) 15 ∧
    (let l := due (on (on (pin base 45 1) .SPI_STAT 0 4) .SPI_LDCTL 0 2) tmrReady; rb l .SPI_STAT 0 2 = true ∧ rb (after (.spiStretchTimeout false []) l) .SPI_LDCTL 0 3 = true) := by decide
/-- The SPI port sends an entry of 256 bytes that have reached it. -/
def feeds : State :=
  let s := setSlot base 15 (some ⟨3, ⟨7, 0, 0, false, [(0x100, 256)]⟩, 0, 0⟩)
  due (brought (setSpi s { s.spi with begun := true }) 3 7 (List.replicate 256 3)) tmrReady
theorem test_spi_sends : entryRecv ⟨7, 0, 0, false, [(0x100, 256)]⟩ = false ∧ entryDummy ⟨7, 0, 0, false, [(0x100, 256)]⟩ = false ∧ (moverOf feeds 3 7).isSome = true ∧
    (after (.spiReadyHigh []) feeds).spi.sent = [3] ∧ slotOf (after (.spiEntryDone []) feeds) 15 = none ∧ readsHeader feeds = false := by decide

theorem test_spi_window : let s := on (setSpi base { base.spi with inLoads := [⟨0, 129, 1, dest (.greg 0 1)⟩] }) .SPI_WINCFG 0 0; let w := on s .SPI_WINCFG 0 1;
    rb s .SPI_WINCFG 0 0 = false ∧ (xwaitOf (after .spiWindowLoad s) 15).getLast? = some (.spiReply 0 (dest (.greg 0 1)) [0xFF]) ∧ cacheLine w 4 = none ∧ (after .spiWindowLoad w).spi.waiting.length = 1 ∧
    rn (after .spiWindowLoad { w with cache := [⟨4, List.replicate 32 7⟩] }) .SPI_HITS 0 = 1 ∧
    (let m := after .spiWindowLoad w; fillReady m = true ∧ m.spi.begun = false ∧ (let f := after .spiFillStart m; f.spi.fill = some 4 ∧ rn f .SPI_MISSES 0 = 1 ∧
      cacheLine (after (.spiFillDone (List.replicate 32 9)) f) 4 = some ⟨4, List.replicate 32 9⟩)) ∧ fillReady base = false ∧ (after .spiFillStart base).spi = base.spi := by decide
theorem test_spi_cache : MayWrite base 0 .SPI_CACHE 0 ∧ (after (.spiCacheInvalidate 0) { base with cache := [⟨4, []⟩] }).cache = [] ∧
    rb (after .spiInvalidateDone (after (.spiCacheInvalidate 0) base)) .SPI_CACHE 0 1 = false := by decide
theorem test_spi_load : let s := on (on base .SPI_LDLEN 0 4) .SPI_LDIRW 0 0x100; MayWrite s 0 .SPI_LDCTL 0 ∧ rf s .PMU_MODE 0 1 0 = 0 ∧ rb (after (.spiLoadGo 0) s) .SPI_LDCTL 0 1 = true ∧
    iramAt (after (.spiLoadDone [1, 2, 3, 4]) (after (.spiLoadGo 0) s)) 0x100 = 0x04030201 ∧ rb (after (.spiLoadGo 0) base) .SPI_LDCTL 0 3 = true ∧ rf running .PMU_MODE 0 1 0 ≠ 0 ∧
    after (.spiLoadGo 0) running = send running 5 (.count 0x96 1) := by decide

/-! ## The NV store -/

/-- The store ready and enabled, block `w` with a command dispatched. -/
def stored : State := setMgmt (on base .NV_STAT 0 1) 10 1
def cmd (s : State) (w code : Nat) : State := setNv (on s .NVB_CMD w code) { s.nv with run := some (w, 0) }
/-- Block 0 with LEN 1, TYPE 2, pages 4 and 5, ring 0 at pages 16 to 17. -/
def args : State := on (on (on (on (on stored .NVB_LEN 0 1) .NVB_TYPE 0 2) .NVB_ADDR 0 (256 * 4)) .NVB_PAGEB 0 5) .NV_RINGCFG 0 (16 + 512)
/-- A record of one byte in a page. -/
def record (s : State) (p ty seq : Nat) : State := let t := nvPut s p (recBytes ty seq [0x77]); setNv t { t.nv with blank := mset (fun _ => true) t.nv.blank p false }
/-- RES of a block after a command. -/
def res (c : Instr) (s : State) (w : Nat) : Nat := rf (after c s) .NVB_RES w 3 0

theorem test_nv_ready : Live base .serial ∧ rb base .NV_STAT 0 0 = false ∧ base.far.wait = [] ∧ rb (after (.nvReady [] false) base) .NV_STAT 0 0 = true ∧ rb stored .NV_STAT 0 0 = true ∧ mgmt stored 10 = 1 ∧ dstate stored 10 ≠ 3 ∧
    dstate (after (.nvReady [7] true) base) 10 = 3 ∧ (let q := setNv stored { stored.nv with queue := [(1, 3)] }; q.nv.run = none ∧ (after .nvCommandDispatch q).nv.run = some (1, 3)) := by decide
theorem test_nv_write : writePages args 0 = [4] ∧ nvProtected args 4 = false ∧ nvRetired args 4 = false ∧ (cmd args 0 1).nv.begun = false ∧ (after .nvWrite (cmd args 0 1)).nv.begun = true ∧
    res .nvWrite (cmd stored 0 1) 0 = 1 ∧ res .nvWrite (cmd (on (on stored .NVB_LEN 0 256) .NVB_ADDR 0 0x1FF01) 0 1) 0 = 2 ∧
    (let n := cmd (on stored .NVB_LEN 1 1) 1 1; writePages n 1 = [0] ∧ 0 < nwm n ∧ res .nvWrite n 1 = 3) ∧
    (let p := setNv (cmd args 0 1) { (cmd args 0 1).nv with bp := 3 }; nvProtected p 4 = !(wpn p) ∧ res .nvWrite { p with pads := mset (fun _ => none) p.pads 96 (some false) } 0 = 4) ∧
    res .nvWrite (setNv (cmd args 0 1) { (cmd args 0 1).nv with retired := [(4, true)] }) 0 = 5 ∧ res .nvWrite (setMgmt (cmd args 0 1) 10 0) 0 = 15 := by decide
theorem test_nv_erase_badcommand : (after .nvErase (cmd args 0 2)).nv.jobs = [.blank 4] ∧ nvA args 0 + nvLen args 0 ≤ 512 ∧ res .nvBadCommand (cmd args 0 11) 0 = 1 ∧ res .nvBadCommand (cmd args 0 0) 0 = 1 := by decide
theorem test_nv_twin_write : tyOk (nvTy args 0) = true ∧ nvA args 0 ≠ nvB args 0 ∧ ((after .nvTwinwr (cmd args 0 3)).nv.jobs.length = 2) ∧ rn (after .nvTwinwr (cmd (record args 4 2 8) 0 3)) .NVB_SEQ 0 = 9 ∧
    res .nvTwinwr (cmd (record args 4 2 0xFFFFFFFF) 0 3) 0 = 6 := by decide
theorem test_nv_twin_read : let s := cmd (record args 5 2 8) 0 4; twinRead s 4 5 2 = .got 5 3 (some 4) ∧ rf (after .nvTwinrd s) .NVB_RES 0 5 4 = 3 ∧ nvBuf (after .nvTwinrd s) 0 0 = 0x77 ∧
    rd (after .nvTwinrd s) .NV_RS 0 = markWord 4 5 2 ∧ rb s .NV_RS 0 31 = false ∧ twinRead args 4 5 2 = .blank ∧ res .nvTwinrd (cmd args 0 4) 0 = 9 ∧
    (let b := cmd (setNv args { args.nv with blank := [(4, false)] }) 0 4; twinRead b 4 5 2 = .bad ∧ res .nvTwinrd b 0 = 10) := by decide
theorem test_nv_ring : ringOk args 0 = true ∧ ringTarget args 0 = some 0 ∧ (after .nvRingapp (cmd args 0 5)).nv.jobs.length = 1 ∧
    (let t := setNv (cmd args 0 5) { (cmd args 0 5).nv with retired := [(16, true), (17, true)] }; ringTarget t 0 = none ∧ res .nvRingapp t 0 = 12) ∧
    (let r := cmd (record args 17 2 8) 0 6; ringRecords r 0 = [(8, 1)] ∧ rn (after .nvRingrd r) .NVB_PAGEB 0 = 17) ∧ (ringRecords args 0)[rf args .NVB_IDX 0 4 0]? = none ∧
    res .nvRingrd (cmd args 0 6) 0 = 11 := by decide
theorem test_nv_counters : (after .nvMcinc (cmd stored 0 7)).nv.jobs = [.counter 0 1] ∧ res .nvMcinc (cmd stored 1 7) 1 = 3 ∧
    (let c (v n : Nat) : State := setNv stored { stored.nv with mc := [(0, v)], mcUpd := [(0, n)] }; res .nvMcinc (cmd (c 0xFFFFFFFF 0) 0 7) 0 = 6 ∧ res .nvMcinc (cmd (c 5 32000000) 0 7) 0 = 7 ∧
      res .nvMcraise (cmd (on (c 5 0) .NVB_VALUE 0 5) 0 8) 0 = 8 ∧ (after .nvMcraise (cmd (on (c 5 0) .NVB_VALUE 0 6) 0 8)).nv.jobs = [.counter 0 6]) := by decide
theorem test_nv_protect : (after .nvProtect (cmd (on stored .NVB_VALUE 0 1) 0 9)).nv.jobs = [.protect 1] ∧ bpFrom 3 < nwm stored ∧ res .nvProtect (cmd (on stored .NVB_VALUE 1 3) 1 9) 1 = 3 ∧
    (let p := setNv stored { stored.nv with bp := 1 }; let l := cmd { p with pads := mset (fun _ => none) p.pads 96 (some false) } 0 9; wpn l = false ∧ res .nvProtect l 0 = 4) := by decide
theorem test_nv_maint : res .nvMaint (cmd stored 0 10) 0 = 0 ∧ stored.nv.maintAt = 0 ∧ (let e := wr (record args 5 2 8) .NV_RS 0 (markWord 4 5 2); let m := cmd e 0 10; twinRead m 4 5 2 = .got 5 3 (some 4) ∧
    (after .nvMaint m).nv.maintAt = 1 ∧ (after .nvMaint m).nv.jobs = [.page 4 (nvPage m 5)]) := by decide

/-- A write in progress with the writes left and its phase. -/
def writing (code : Nat) (js : List NvJob) (p : NvPhase) (again : Bool) : State := let s := cmd stored 0 code; setNv s { s.nv with begun := true, jobs := js, phase := p, again := again }

theorem test_nv_phases : (after (.nvPhaseDone true) (writing 2 [.blank 4] .load false)).nv.phase = .erase ∧ (after (.nvPhaseDone true) (writing 2 [.blank 4] .erase false)).nv.phase = .program ∧
    (after (.nvPhaseDone true) (writing 2 [.blank 4] .program false)).nv.phase = .commit ∧ (after (.nvPhaseDone false) (writing 2 [.blank 4] .program false)).nv.again = true ∧
    res (.nvPhaseDone false) (writing 2 [.blank 4] .program true) 0 = 13 ∧ nvRetired (after (.nvPhaseDone false) (writing 2 [.blank 4] .program true)) 4 = true := by decide
theorem test_nv_commit : (nvPage (after (.nvPhaseDone true) (writing 1 [.page 4 [1, 2]] .commit false)) 4).take 3 = [1, 2, 0xFF] ∧ nvWear (after (.nvPhaseDone true) (writing 2 [.blank 4] .commit false)) 4 = 1 ∧
    rn (after (.nvPhaseDone true) (writing 7 [.counter 0 9] .commit false)) .NV_MC 0 = 9 ∧ (after (.nvPhaseDone true) (writing 9 [.protect 2] .commit false)).nv.bp = 2 ∧
    (after (.nvPhaseDone true) (writing 1 [.page 4 [1], .page 5 [2]] .commit false)).nv.jobs = [.page 5 [2]] := by decide
theorem test_nv_disable : let b := on (writing 2 [.blank 4] .load false) .NV_CTL 0 1; let i := setNv (on stored .NV_CTL 0 1) { stored.nv with run := some (1, 0) }; MayWrite b 0 .NV_CTL 0 ∧
    (after (.nvDisable 0) b).nv.abort = true ∧ (let a := writing 2 [.blank 4, .blank 5] .commit false; let x := setNv a { a.nv with abort := true }; res (.nvPhaseDone true) x 0 = 14 ∧ nvBlank (after (.nvPhaseDone true) x) 4 = true) ∧ i.nv.begun = false ∧ res (.nvDisable 0) i 1 = 14 := by decide
theorem test_nv_ports : MayWrite stored 0 .NVB_BUFDATA 0 ∧ MayRead stored 0 .NVB_BUFDATA 0 ∧ MayRead stored 0 .NV_PGSTAT 0 ∧ MayWrite stored 0 .NV_MSKDATA 0 ∧ MayRead stored 0 .NV_MSKDATA 0 ∧ nvBusy stored 0 = false ∧
    (let t := after (.nvBufferAccess 0 0 (some 0x5A) .debug) (on stored .NVB_BUFIDX 0 255); nvBuf t 0 255 = 0x5A ∧ rn t .NVB_BUFIDX 0 = 0) ∧ nvBusy (on stored .NVB_RES 0 64) 0 = true ∧
    (xwaitOf (after (.nvBufferAccess 0 0 none (.greg 0 1)) stored) 5).getLast? = some (.inReply (dest (.greg 0 1)) 0) ∧ rf (after (.nvPageStatusRead 0 (.greg 0 1)) (on stored .NV_PGIDX 0 511)) .NV_PGIDX 0 8 0 = 0 ∧
    mskByte stored ≤ 30 ∧ mskSlot stored = 0 ∧ (after (.nvMaskAccess 0 (some 1) .debug) stored).nv = stored.nv ∧ (xwaitOf (after (.nvMaskAccess 0 none (.greg 0 1)) stored) 5).getLast? = some (.inReply (dest (.greg 0 1)) 0xFF) := by decide
theorem test_nv_mask : let m := on stored .NV_MSKIDX 0 (3 + 256 * 30); mskSlot m = 3 ∧ mskByte m = 30 ∧
    (mget (fun _ => (0 : Byte)) (after (.nvMaskAccess 0 (some 9) .debug) m).nv.mask (32 * 3 + 30) = 9 ∧ mskByte (after (.nvMaskAccess 0 (some 9) .debug) m) = 0) := by decide

/-! ## The debug link, the monitor, the counters -/

/-- An active link, with a frame's symbols so far; the symbols of bytes, least significant first. -/
def link (f : Option (List Bool)) : State := setDbg base { base.dbg with active := true, frame := f }
def symbols (bs : List Byte) : List Bool := bs.flatMap fun b => (List.range 8).map fun k => b.getLsbD k
/-- A frame of STATUS with its CRC. -/
def status : List Bool := symbols [0x01, 0x00, BitVec.ofNat 8 (crc8 [0x01, 0x00])]
/-- A request of the link. -/
def asks (c : Nat) (p : List Byte) : State := setDbg debug { (dbgOf debug) with active := true, req := some (c, p) }

theorem test_link_frame : status.length = 24 ∧ (let l := link (some (status.take 23)); let b := status.getD 23 false; let w := if b then 3000 else 1000;
      l.dev.vddao = true ∧ (after (.glogonLow w false) l).dbg.req = some (1, []) ∧ (after (.glogonLow (4000 - w) false) l).dbg.resp = some (4, []) ∧
      (let p := setDbg l { l.dbg with req := some (0x10, []) }; (after (.glogonLow w false) p).dbg.resp = some (1, []))) ∧
    (after (.glogonLow 1000 false) (link (some [true]))).dbg.frame = some [true, false] ∧ (after (.glogonLow 7000 false) (link none)).dbg.frame = some [] ∧
    (after (.glogonLow 199 false) base).dbg = base.dbg ∧ (after (.glogonLow 1000 false) (link none)).dbg.frame = none ∧ (after (.glogonLow 60000 false) (link (some []))).dbg.frame = none := by decide
theorem test_link_wake : (after (.glogonLow 3000 false) base).dbg.wake = 1 ∧ wakePattern[0]? = some true ∧ (after (.glogonLow 1000 false) base).dbg.wake = 0 ∧
    (let w := setDbg base { base.dbg with wake := 15 }; wakePattern[15]? = some true ∧ (after (.glogonLow 3000 false) w).dbg.active = true ∧ (after (.glogonLow 3000 true) w).dbg.wake = 1) := by decide
theorem test_link_reset_end : base.dev.rstnLow = false ∧ rn (after (.glogonLow 50000 false) base) .PMU_RSTCAUSE 0 = 4 ∧ (after (.glogonLow 500000 false) (link none)).dbg.active = false ∧
    (after .glogonSessionTimeout (link none)).dbg.active = false ∧ after .glogonSessionTimeout base = base ∧ (after .glogonFrameTimeout (link (some []))).dbg.frame = none ∧
    (after .glogonPendingTimeout (asks 0x10 [])).dbg.resp = some (1, []) ∧ (let r := setDbg base { base.dbg with resp := some (0, []) };
      (after (.glogonResponse false) r).dbg.resp = none ∧ (after (.glogonResponse true) r).dbg.resp = none) := by decide
theorem test_debug_timeout : let r : DbgRun := ⟨false, false, true, false, 0, false, 0, [], 1, []⟩; let s := due (setDbg base { base.dbg with run := some r }) tmrDbg; Live s .fabric ∧ timerDue s tmrDbg = true ∧
    (after (.debugAccessTimeout false) s).dbg.last = (7, []) ∧ staleOf (after (.debugAccessTimeout false) s) 1 = 1 := by decide
theorem test_link_commands : (asks 1 []).dbg.run = none ∧ (asks 1 []).dev.phase = .awake ∧ (after .glogonStatus (asks 1 [])).dbg.last = (0, statusBytes (asks 1 [])) ∧ (after .glogonReset (asks 2 [1])).dbg.last = (3, []) ∧
    rn (after .glogonReset (asks 2 [])) .PMU_RSTCAUSE 0 = 4 ∧ (after .glogonEnd (asks 0x3E [])).dbg.active = false ∧ (after .glogonResult (asks 0x3F [])).dbg.last = (0, []) ∧
    (after .glogonBadcmd (asks 0x77 [])).dbg.last = (2, []) ∧ (let z := setDev (asks 0x3F []) { (asks 0x3F []).dev with phase := .standby }; (after .glogonResult z).dbg.last = (8, [])) := by decide
theorem test_link_bus : dbgParse false false false false [0, 0] = none ∧ (after .glogonRdio (asks 0x10 [0, 0])).dbg.last = (3, []) ∧
    dbgParse false false false false [0, 1, 4, 1] = some ⟨false, false, false, false, 0, false, 0x401, [], 1, []⟩ ∧ (after .glogonRdio (asks 0x10 [0, 1, 4, 1])).dbg.last = (0, [0]) ∧
    (after .glogonWrio (asks 0x11 [0])).dbg.last = (3, []) ∧ (after .glogonRdfar (asks 0x12 [0, 0, 0, 0, 1])).dbg.run.isSome = true ∧ (after .glogonWrfar (asks 0x13 [15, 0, 0, 0, 1])).dbg.last.1 = 5 := by decide
theorem test_debug_bus : let r (far write : Bool) (a : Nat) (d : List Byte) : DbgRun := ⟨false, false, far, write, 0, false, a, d, 1, []⟩; dbgAllDone (r false false 0x3400 []) = false ∧
    accessIsland (dbgWho false) 0x3400 ≠ .core ∧ (dbgStart base (r false false 0x3400 [])).dbg.run = some (r false false 0x3400 []) ∧ dbgFarOk base (r true false 0 []) = false ∧
    (dbgStart base (r true false 0 [])).dbg.last = (5, []) ∧ dbgFarOk debug (r true false 0 []) = true ∧ dbgFarOk debug (r true true 0 [1]) = true ∧
    accessIsland (dbgWho false) 0x401 = .core ∧ (dbgStart debug (r false false 0x401 [])).dbg.last = (0, [0]) := by decide

/-- The monitor's ports up, SAFE-hold, an UART0 request's CRC, and a header of one word of image. -/
def ported : State := setDev linked { linked.dev with portsUp := true, onB := true }
def held : State := on (on ported .PMU_MODE 0 4) .PMU_BOOTSTAT 0 4
def crcOf (c : Nat) (p : List Byte) : Word := BitVec.ofNat 16 (kxCrc ([BitVec.ofNat 8 c] ++ leBytes 2 p.length ++ p))
def header : List Byte := [0x54, 0x42, 0x34, 0x38, 1, 0, 0, 0, 4, 0, 0, 0, 0, 0] ++ List.replicate 242 0

theorem test_monitor : Live held .serial ∧ Live held .usb ∧ inRun held = false ∧ held.dbg.run = none ∧ rb ported .PMU_MODE 0 2 = false ∧ held.dev.portsUp = true ∧ held.dev.onB = true ∧
    (after (.monitorReset false [] (crcOf 2 [])) ported).mon.uart = some (0x0B, []) ∧ (after (.monitorReset false [] (crcOf 2 [])) base).mon.uart = none ∧
    (after (.monitorStatus false [] (crcOf 1 [])) ported).mon.uart = some (0, statusBytes ported) ∧ (after (.monitorStatus false [] (crcOf 1 [] + 1)) ported).mon.uart = some (4, []) ∧
    rn (after (.monitorReset false [] (crcOf 2 [])) held) .PMU_RSTCAUSE 0 = 4 ∧ (after (.monitorEnd false [] (crcOf 0x3E [])) held).mon.open_ = false ∧
    (let o := due (monOpen held) tmrMon; timerDue o tmrMon = true ∧ o.mon.open_ = true ∧ (after .monitorSessionTimeout o).mon.open_ = false ∧ timerDue (monHeard o) tmrMon = false) ∧
    timerDue held tmrMon = false ∧ after .monitorFrameTimeout ported = send ported 5 (.count 0xAD 1) := by decide
theorem test_monitor_bus : let q := crcOf 0x10 [0, 1, 4, 1, 0]; (after (.monitorRdio false [0, 1, 4, 1, 0] q) held) = monBus false false false [0, 1, 4, 1, 0] (monHeard (monOpen held)) ∧
    (after (.monitorWrio false [] (crcOf 0x11 [])) held).mon.uart = some (3, []) ∧ (after (.monitorRdfar false [] (crcOf 0x12 [])) held).mon.uart = some (3, []) ∧
    (after (.monitorWrfar false [] (crcOf 0x13 [])) held).mon.uart = some (3, []) := by decide
theorem test_provision : let p := List.replicate 33 (1 : Byte); let s := setMgmt (on held .NV_STAT 0 1) 10 1; p.length = 33 ∧ rf s .PMU_BOOTSTAT 0 3 0 = 4 ∧ s.nv.run = none ∧ s.nv.jobs = [] ∧
    unitRuns s 10 = true ∧ nvProtected s 0 = false ∧ (after (.provision false p (crcOf 0x20 p)) s).mon.uart = some (0, []) ∧ nvBlank (after (.provision false p (crcOf 0x20 p)) s) 1 = false ∧
    (after (.provision false p (crcOf 0x20 p)) (on held .PMU_BOOTSTAT 0 3)).mon.uart = some (0x0A, []) := by decide
theorem test_load_header : let h := after (.loadhdr true header 0) held; header.length = 256 ∧ fieldsOk header = true ∧ (h.dev.hdr.map fun x => x.length) = some 256 ∧ fieldsOk (List.replicate 256 0) = false ∧
    (after (.loadhdr true (List.replicate 256 0) 0) held).mon.usb = some (9, [3]) ∧ hdrLen header = 4 ∧ held.dev.hdr = none := by decide
/-- The header loaded, and four bytes of image. -/
def loading : State := setMon (setDev held { held.dev with hdr := some header, sha := header.take 128 }) { held.mon with open_ := true }
def image : List Byte := [0, 0, 0, 0, 1, 2, 3, 4]
theorem test_load_data : iramAt (after (.loaddata false image (crcOf 0x22 image)) loading) 0 = 0x04030201 ∧ (after (.loaddata false image (crcOf 0x22 image)) loading).mon.loaded = 4 ∧
    (after (.loaddata false image (crcOf 0x22 image)) held).mon.uart = some (0x0B, []) := by decide
/-- A header whose image is signed with the private key 1 (public key: the base point) and the nonce 2, by hand calculation from SEC 1. -/
def signed : List Byte := header.take 64 ++ beBytes 32 ecGx ++ beBytes 32 ecGy ++ beBytes 32 0x7CF27B188D034F7E8A52380304B51AC3C08969E277F21B35A60B48FC47669978 ++
  beBytes 32 0x5522B03FDFAD580076F8DDF3F5BDB5D281A76143377C7C49E43F526010E39033 ++ List.replicate 64 0
/-- The image of a header loaded, its key hash in the boot record. -/
def loaded (h : List Byte) : State :=
  let s := setMon held { held.mon with open_ := true, loaded := 4 }
  setDev s { s.dev with hdr := some h, sha := h.take 128 ++ [1, 2, 3, 4], keyhash := some (sha256 ((h.drop 64).take 64)) }

/-- FIPS 180-4's example "abc". -/
theorem test_sha256 : sha256 [0x61, 0x62, 0x63] = beBytes 32 0xBA7816BF8F01CFEA414140DE5DAE2223B00361A396177A9CB410FF61F20015AD := by decide +kernel
/-- FIPS 197: the S-box's entries of its figure 7 at 0x00, 0x01 and 0x53, and the first round key's first word of its appendix A. -/
theorem test_aes : aesSub 0 = 0x63 ∧ aesSub 1 = 0x7C ∧ aesSub 0x53 = 0xED ∧
    (aesNextKey [0x2B, 0x7E, 0x15, 0x16, 0x28, 0xAE, 0xD2, 0xA6, 0xAB, 0xF7, 0x15, 0x88, 0x09, 0xCF, 0x4F, 0x3C] 1).take 4 = [0xA0, 0xFA, 0xFE, 0x17] := by decide
theorem test_signature : ecdsaOk ((signed.drop 64).take 64) ((signed.drop 128).take 64) (sha256 (signed.take 128 ++ [1, 2, 3, 4])) = true := by decide +kernel
theorem test_image_check : imageCheck (loaded signed) signed = 0 := by
  have h : (loaded signed).dev.keyhash = some (sha256 ((signed.drop 64).take 64)) := rfl
  have k : keyOk (loaded signed) signed = true := by rw [keyOk, h]; exact beq_self_eq_true _
  have e : sigOk (loaded signed) signed = true := test_signature
  simp [imageCheck, k, e]
theorem test_image_refused (h : List Byte) (s : State) (k : s.dev.keyhash = none) : imageCheck s h = 6 := by simp [imageCheck, keyOk, k]
theorem test_load_go : let l := loaded signed; l.dev.hdr = some signed ∧ hdrLen signed = 4 ∧ l.mon.loaded = 4 ∧ rb l .PMU_MODE 0 2 = true ∧ (thr l 0).haltPend = none ∧ rb l .DBG_ARM 0 0 = false := by decide

/-- The ROM reads the header: its entry of 256 bytes is under way. -/
def reading : State :=
  let s := setSpi (queued true) { (queued true).spi with sent := [3, 0, 0, 0] }
  on (setDev s { s.dev with portsUp := true, keyhash := some (sha256 ((signed.drop 64).take 64)) }) .SPI_CSCFG 0 3
theorem test_reads_header : readsHeader reading = true ∧ reading.dev.reload = false ∧ rf (after (.spiEntryDone (List.replicate 192 0)) reading) .PMU_BOOTSTAT 0 3 0 = 2 ∧
    magicOk signed = true ∧ fieldsOk signed = true ∧ 192 ≤ signed.length := by decide
theorem test_header_key : keyOk reading signed = true := by
  have h : reading.dev.keyhash = some (sha256 ((signed.drop 64).take 64)) := rfl
  rw [keyOk, h]; exact beq_self_eq_true _
/-- The ROM loads the image of `signed`. -/
def imaging : State :=
  on (on (on (on (on (loaded signed) .PMU_MODE 0 0) .SPI_LDCTL 0 0x12) .SPI_LDADDR 0 0x100) .SPI_LDLEN 0 4) .SPI_CSCFG 0 3
theorem test_reads_image : let s := setDev imaging { imaging.dev with sha := signed.take 128 }; readsImage s signed = true ∧ s.dev.hdr = some signed ∧ s.dev.reload = false ∧ rf s .SPI_LDLEN 0 18 0 = 4 ∧
    rb s .CLK_STAT 0 0 = true ∧ ecdsaOk ((header.drop 64).take 64) ((header.drop 128).take 64) (sha256 (header.take 128)) = false ∧
    (let z := setDev s { s.dev with hdr := some header }; readsImage z header = true ∧ rf (after (.spiLoadDone [1, 2, 3, 4]) z) .PMU_BOOTSTAT 0 3 0 = 7) := by decide
/-- The boot record's TWINRD runs. -/
def booted (s : State) : State := setDev (cmd (on (on (on s .NVB_TYPE 0 1) .NVB_ADDR 0 0) .NVB_PAGEB 0 1) 0 4) { s.dev with keyhash := none }
theorem test_reads_boot : let b := booted (on stored .CLK_STAT 0 1); readsBoot b = true ∧ twinRead b 0 1 1 = .blank ∧ rf (after .nvTwinrd b) .PMU_BOOTSTAT 0 3 0 = 4 ∧ rd (after .nvTwinrd b) .TG_DBGEN 0 = 15 ∧
    (let r := booted (on (record stored 0 1 8) .CLK_STAT 0 1); readsBoot r = true ∧ twinRead r 0 1 1 = .got 0 3 (some 1) ∧ (after .nvTwinrd r).dev.keyhash = some (0x77 :: List.replicate 31 0) ∧ rb (after .nvTwinrd r) .PMU_MODE 0 2 = false) ∧
    (let d := booted (on (setNv stored { stored.nv with blank := [(0, false)] }) .CLK_STAT 0 1); twinRead d 0 1 1 = .bad ∧ rf (after .nvTwinrd d) .PMU_BOOTSTAT 0 3 0 = 5) := by decide
theorem test_counters : MayWrite base 0 .EC_SEL 3 ∧ MayWrite base 0 .EC_COUNT 3 ∧ MayWrite base 0 .EC_CTL 3 ∧ selOk base 3 8 = true ∧ rn (after (.counterSelWrite 0 3 8) base) .EC_SEL 3 = 8 ∧
    after (.counterSelWrite 0 3 8) (on base .EC_CTL 3 1) = on base .EC_CTL 3 1 ∧ selOk base 3 0xFF = false ∧ rb (after (.counterSelWrite 0 3 0xFF) base) .EC_STAT 3 1 = true ∧
    rn (after (.counterCountWrite 0 3 77) base) .EC_COUNT 3 = 77 ∧ rn (after (.counterClear 0 3) (on base .EC_COUNT 3 77)) .EC_COUNT 3 = 0 ∧
    (let d := due base (tmrDisagree 4); timerDue d (tmrDisagree 4) = true ∧ rb (after (.disagreeHoldExpiry 4 false) d) .PMU_DISF 0 4 = true) := by decide
end Sys2Proof.Tests
end

section
/-!
SUPPORT. Counting events and latching edges in CORE (R525, R526, R1127): the stored registers they reach are the counters' COUNT and STAT.
-/
namespace Sys2Proof.Proofs
open Sys2Proof.Machine Sys2Proof.Laws

/-- The lowest address of no counter's COUNT or STAT. -/
def NotCounterReg (a : Nat) : Prop := ∀ n, a ≠ regAddr .EC_COUNT n ∧ a ≠ regAddr .EC_STAT n

/-- From `s` to `t` nothing differs but what counting and latching touch: counters, pending edges, waiting transfers, and of the stored
registers the counters' COUNT and STAT. -/
structure CountsOnly (s t : State) : Prop where
  others : t = { s with io := t.io, icu := t.icu, ctr := t.ctr, xwait := t.xwait }
  io : ∀ (d : Nat → Quad) (a : Nat), NotCounterReg a → mget d t.io a = mget d s.io a

namespace CountsOnly

variable {s t u : State}

theorem refl (s : State) : CountsOnly s s := ⟨rfl, fun _ _ _ => rfl⟩

theorem trans (h : CountsOnly s t) (k : CountsOnly t u) : CountsOnly s u where
  others := k.others.trans (by rw [h.others])
  io d a ha := (k.io d a ha).trans (h.io d a ha)

theorem staged (h : CountsOnly s t) : t.staged = s.staged := by rw [h.others]

theorem thr (h : CountsOnly s t) : t.thr = s.thr := by rw [h.others]

theorem dev (h : CountsOnly s t) : t.dev = s.dev := by rw [h.others]

theorem sameMemory (h : CountsOnly s t) : SameMemory s t := by rw [h.others]; exact SameMemory.refl s

theorem rd (h : CountsOnly s t) {r : Rg} {i : Nat} (ha : NotCounterReg (regAddr r i)) : rd t r i = rd s r i := h.io _ _ ha

/-- A fold of operations that only count only counts. -/
theorem foldl {f : State → Nat → State} (hf : ∀ s n, CountsOnly s (f s n)) (l : List Nat) (s : State) : CountsOnly s (l.foldl f s) := by
  induction l generalizing s with
  | nil => exact refl s
  | cons n l ih => exact (hf s n).trans (ih (f s n))

end CountsOnly

variable (s : State)

/-! ## One register written -/

/-- A write of a register leaves what is stored at every other address. -/
theorem mget_wr_io_ne (d : Nat → Quad) {r : Rg} {i a : Nat} (v : Quad) (h : a ≠ regAddr r i) : mget d (wr s r i v).io a = mget d s.io a :=
  mget_mset_ne (fun _ => regReset r i) d s.io v h

theorem wr_memory (r : Rg) (i : Nat) (v : Quad) : SameMemory s (wr s r i v) := ⟨rfl, rfl, rfl, rfl, rfl, rfl, rfl, rfl, rfl, rfl, rfl⟩

/-! ## What counts and latches only -/

theorem countsOnly_wr_count (n : Nat) (v : Quad) : CountsOnly s (wr s .EC_COUNT n v) :=
  ⟨rfl, fun d _ ha => mget_wr_io_ne s d v (ha n).1⟩

theorem countsOnly_wb_stat (n b : Nat) (x : Bool) : CountsOnly s (wb s .EC_STAT n b x) :=
  ⟨rfl, fun d _ ha => mget_wr_io_ne s d _ (ha n).2⟩

theorem countsOnly_setCtr (n : Nat) (c : Counter) : CountsOnly s (setCtr s n c) := ⟨rfl, fun _ _ _ => rfl⟩

theorem countsOnly_send (c : Nat) (x : Xfer) : CountsOnly s (send s c x) := ⟨rfl, fun _ _ _ => rfl⟩

theorem countsOnly_markEdge (src : Nat) : CountsOnly s (markEdge s src) := ⟨rfl, fun _ _ _ => rfl⟩

theorem countsOnly_openMeasures (src : Nat) : CountsOnly s (openMeasures s src) := by
  refine CountsOnly.foldl (fun s n => ?_) _ s
  split
  · exact (countsOnly_setCtr s n _).trans (countsOnly_wb_stat _ n 2 true)
  · exact .refl s

theorem countsOnly_latchBit (src : Nat) : CountsOnly s (latchBit s src) := by
  have pending : CountsOnly s { s with icu := { s.icu with pend := mset (fun _ => false) s.icu.pend src true } } := ⟨rfl, fun _ _ _ => rfl⟩
  exact (pending.trans (countsOnly_openMeasures _ src)).trans (countsOnly_send _ 0 _)

theorem countsOnly_bumpCount (n k : Nat) : CountsOnly s (bumpCount s n k).1 := by
  have count := countsOnly_wr_count s n (BitVec.ofNat 32 (rn s .EC_COUNT n + k))
  have overflow := count.trans (countsOnly_wb_stat _ n 0 true)
  have edge := overflow.trans (countsOnly_markEdge _ (24 + n))
  unfold bumpCount
  dsimp only
  split
  · exact count
  · split
    · exact overflow
    · split
      · exact edge
      · exact edge.trans (countsOnly_latchBit _ _)

theorem countsOnly_occurUpTo (fuel code k : Nat) : CountsOnly s (occurUpTo fuel s code k) := by
  induction fuel generalizing s code k with
  | zero => exact .refl s
  | succ fuel ih =>
    unfold occurUpTo
    split
    · exact .refl s
    · refine CountsOnly.foldl (fun s n => ?_) _ s
      have bumped := countsOnly_bumpCount s n k
      split
      · dsimp only
        split
        · exact bumped.trans (ih _ 0x06 1)
        · exact bumped
      · exact .refl s

theorem countsOnly_occur (code k : Nat) : CountsOnly s (occur s code k) := countsOnly_occurUpTo s 9 code k

theorem countsOnly_latchEdge (src : Nat) : CountsOnly s (latchEdge s src) := by
  have edge := countsOnly_markEdge s src
  unfold latchEdge
  split
  · exact .refl s
  · split
    · exact edge.trans (countsOnly_occur _ 0x06 1)
    · exact edge.trans (countsOnly_latchBit _ src)

end Sys2Proof.Proofs
end

section
/-!
SUPPORT. Fields of a register value, and the record of a refused access in TG_VIOL (R472).
-/
namespace Sys2Proof.Proofs
open Sys2Proof.Machine Sys2Proof.Laws

/-! ## Fields -/

theorem fld_or (v w : Quad) (hi lo : Nat) : fld (v ||| w) hi lo = fld v hi lo ||| fld w hi lo := by
  simp only [fld, BitVec.toNat_or, ← Nat.shiftRight_eq_div_pow, Nat.shiftRight_or_distrib, Nat.or_mod_two_pow]

theorem fld_and (v w : Quad) (hi lo : Nat) : fld (v &&& w) hi lo = fld v hi lo &&& fld w hi lo := by
  simp only [fld, BitVec.toNat_and, ← Nat.shiftRight_eq_div_pow, Nat.shiftRight_and_distrib, Nat.and_mod_two_pow]

/-! ## The record of a refused access -/

/-- TG_VIOL with a record: the valid bit, KIND, agent and address, and of the value before it the overrun bit alone (R472). -/
def violRecord (old : Quad) (kind agent addr : Nat) : Quad :=
  BitVec.ofNat 32 (addr % 65536 + 65536 * agent + 1048576 * kind + 2147483648) ||| (old &&& 0x40000000)

variable {old : Quad} {kind agent addr : Nat}

/-- A field below the overrun bit comes from the new record alone. -/
theorem fld_violRecord {hi lo : Nat} (h : fld 0x40000000 hi lo = 0) : fld (violRecord old kind agent addr) hi lo =
    (addr % 65536 + 65536 * agent + 1048576 * kind + 2147483648) % 2 ^ 32 / 2 ^ lo % 2 ^ (hi + 1 - lo) := by
  rw [violRecord, fld_or, fld_and, h, Nat.and_zero, Nat.or_zero, fld, BitVec.toNat_ofNat]

theorem violRecord_kind (hk : kind < 16) (ha : agent < 16) : fld (violRecord old kind agent addr) 23 20 = kind := by
  rw [fld_violRecord (by decide)]; omega

theorem violRecord_agent (ha : agent < 16) : fld (violRecord old kind agent addr) 19 16 = agent := by
  rw [fld_violRecord (by decide)]; omega

theorem violRecord_addr : fld (violRecord old kind agent addr) 15 0 = addr % 65536 := by
  rw [fld_violRecord (by decide)]; omega

theorem violRecord_valid (hk : kind < 16) (ha : agent < 16) : (violRecord old kind agent addr).getLsbD 31 = true := by
  have h : (addr % 65536 + 65536 * agent + 1048576 * kind + 2147483648).testBit 31 = true := by
    rw [Nat.testBit_eq_decide_div_mod_eq, decide_eq_true_eq]; omega
  simp [violRecord, BitVec.getLsbD_ofNat, h]

theorem notCounterReg_viol : NotCounterReg (regAddr .TG_VIOL 0) := by
  intro n
  simp only [regAddr, regInfo]
  omega

/-- Where TG_VIOL holds no record, a refused access leaves the record, and beside it only counts. -/
theorem violate_countsOnly {s : State} (h : rb s .TG_VIOL 0 31 = false) (kind agent addr : Nat) :
    CountsOnly (wr s .TG_VIOL 0 (violRecord (rd s .TG_VIOL 0) kind agent addr)) (violate s kind agent addr) := by
  have free : (rd s .TG_VIOL 0).getLsbD 31 = false := h
  simp only [violate, free, Bool.false_eq_true, if_false]
  exact (countsOnly_occur _ 0x10 1).trans (countsOnly_latchEdge _ 22)

theorem rd_violate {s : State} (h : rb s .TG_VIOL 0 31 = false) (kind agent addr : Nat) :
    rd (violate s kind agent addr) .TG_VIOL 0 = violRecord (rd s .TG_VIOL 0) kind agent addr := by
  rw [(violate_countsOnly h kind agent addr).rd notCounterReg_viol, rd_wr_same]

theorem rd_violate_other {s : State} (h : rb s .TG_VIOL 0 31 = false) (kind agent addr : Nat) {r : Rg} {i : Nat}
    (hc : NotCounterReg (regAddr r i)) (hv : regAddr r i ≠ regAddr .TG_VIOL 0) : rd (violate s kind agent addr) r i = rd s r i := by
  rw [(violate_countsOnly h kind agent addr).rd hc, rd_wr_ne _ _ _ _ _ _ hv]

end Sys2Proof.Proofs
end

section
/-!
SUPPORT. A byte written to I/O space above the aliases (R10, R17, R18, R20): the case each write falls into.
-/
namespace Sys2Proof.Proofs
open Sys2Proof.Machine Sys2Proof.Laws

variable {s : State} {w : Who} {r : Rg} {i k a : Nat} {v : Byte}

theorem aliasOf_absolute (ha : 0x100 ≤ a) : aliasOf w a = some (a, false, false) := by
  simp only [aliasOf, show ¬ a < 0x20 by omega, show ¬ (0x40 ≤ a ∧ a < 0x50) by omega, show ¬ a < 0x100 by omega, if_false]

/-- A write above the aliases is taken in the island its address lies in. -/
theorem exec_registerWrite_absolute {req : Nat} (ha : 0x100 ≤ a) (hl : Live s (addrIsland a)) :
    exec (.registerWrite req a v) s = .next (writeByte s (whoNow s req) a v) := by
  have island : accessIsland (whoNow s req) a = addrIsland a := by simp only [accessIsland, aliasOf_absolute ha]
  show execRegisterWrite req a v s = _
  rw [execRegisterWrite, island, liveIn_live hl]

theorem writeByte_hole (ha : 0x100 ≤ a) (hf : findReg a = none) : writeByte s w a v = hole s (addrIsland a) := by
  have nonzero : a ≠ 0 := by omega
  simp only [writeByte, aliasOf_absolute ha, nonzero, if_false, hf]

/-- A write of a register's byte, but for run control by a thread, is judged by the access rule (R10). -/
theorem writeByte_register (ha : 0x100 ≤ a) (hf : findReg a = some (r, i, k)) (hr : runControl r = true → w.req = 8) :
    writeByte s w a v = if permitted s w.req r i w.world true = true then writeAt s w r i k v else refuseAt s (regIsland r i) w.req a := by
  have nonzero : a ≠ 0 := by omega
  have taken : (runControl r && decide (w.req < 8)) = false := by
    rw [Bool.and_eq_false_imp, decide_eq_false_iff_not]
    intro h
    rw [hr h]
    decide
  by_cases hp : permitted s w.req r i w.world true = true <;> simp [writeByte, aliasOf_absolute ha, nonzero, hf, taken, hp]

/-- A requester's write of a register's byte above the aliases is taken or refused by the access rule as it stands now. -/
theorem exec_registerWrite_register {req : Nat} (ha : 0x100 ≤ a) (hf : findReg a = some (r, i, k)) (hr : runControl r = true → req = 8)
    (hl : Live s (addrIsland a)) : exec (.registerWrite req a v) s = .next (if permitted s req r i (reqWorld s req) true = true
      then writeAt s (whoNow s req) r i k v else refuseAt s (regIsland r i) req a) := by
  rw [exec_registerWrite_absolute ha hl, writeByte_register ha hf hr]
  rfl

theorem permitted_thread {req : Nat} {world write : Bool} (h : req < 8) : permitted s req r i world write = mayAccess s r i world write := by
  rw [permitted, if_pos h]

/-- CORE reports a thread's refused access in TG_VIOL at once (R472). -/
theorem refuseAt_core_thread {req : Nat} (h : req < 8) : refuseAt s .core req a = violate s 0 req a := by
  simp [refuseAt, violateFrom, agentOf, h]

/-! ## Staging and commit -/

theorem writeAt_staged (h : k + 1 < (regInfo r).bytes) : writeAt s w r i k v = stage s w r i k (some v) := by
  have below : k < (regInfo r).bytes - 1 := by omega
  simp only [writeAt, below, if_true]

/-- The highest byte of a register of two bytes commits both where the lower one is staged, and empties the stage. -/
theorem writeAt_commits_two_bytes {lo : Byte} (hb : (regInfo r).bytes = 2) (hl : stagedAt s w r i 0 = some lo) :
    writeAt s w r i 1 v = commitReg (stage s w r i 0 none) w r i (BitVec.ofNat 32 (lo.toNat + 256 * v.toNat)) 0xFFFF := by
  simp [writeAt, hb, stagedBits, hl, forN, List.range_succ, Nat.mul_comm]

/-! ## THRn_STARTPC -/

theorem findReg_startPc_high (n : Fin 8) : findReg (regAddr .THR_STARTPC n + 1) = some (.THR_STARTPC, n.val, 1) := by
  revert n; decide

theorem addrIsland_startPc_high (n : Fin 8) : addrIsland (regAddr .THR_STARTPC n + 1) = .core := by
  revert n; decide

/-- No lock freezes THRn_STARTPC, and its commit is the generic one. -/
theorem commitReg_startPc (n : Nat) (v m : Quad) : commitReg s w .THR_STARTPC n v m = commitPlain s .THR_STARTPC n v m := by
  have unlocked : frozen s .THR_STARTPC n = false := by simp [frozen, limitLocked, regInfo]
  simp [commitReg, unlocked, regIsland, regInfo, commitCore]

theorem fld_commitBits_startPc (old v : Quad) : fld (commitBits .THR_STARTPC old v 0xFFFF) 15 0 = fld v 15 0 := by
  have kept : fld (~~~(0xFFFF &&& 0xFFFF)) 15 0 = 0 := by decide
  have taken : fld 0xFFFF 15 0 = 2 ^ 16 - 1 := by decide
  have ones : fld (~~~0) 15 0 = 2 ^ 16 - 1 := by decide
  have zero : fld 0 15 0 = 0 := by decide
  have cleared : v &&& 0 &&& 0xFFFF = 0 := by simp
  have low : fld v 15 0 < 2 ^ 16 := Nat.mod_lt _ (by decide)
  simp only [commitBits, regInfo, cleared, fld_or, fld_and, kept, taken, ones, zero, Nat.and_zero, Nat.zero_or, Nat.or_zero,
    Nat.and_two_pow_sub_one_eq_mod, Nat.mod_eq_of_lt low]

end Sys2Proof.Proofs
end

section
/-!
Chapter 00: what a reset leaves and what byte writes of I/O space do.
-/
namespace Sys2Proof.Proofs
open Sys2Proof.Machine Sys2Proof.Laws

/-! ## After a power-on reset -/

/-- The one stored register that differs from its reset value is PMU_RSTCAUSE, at 0x402. -/
theorem rd_reset {r : Rg} {i : Nat} (h : regAddr r i ≠ 0x402) : rd State.reset r i = regReset r i := by
  simp [rd, State.reset, mget, h.symm]

theorem thr_reset_st (n : Nat) : (thr State.reset n).st = if n = 0 then .running else .stopped := rfl

/-- Settles O8, from the state's reset value: the one listed register is PMU_RSTCAUSE and no thread is listed. -/
theorem resetLeavesSafeState : Obligations.ResetLeavesSafeState := by
  have others : ∀ n, 1 ≤ n → (thr State.reset n).st = .stopped := by
    intro n hn
    have nonzero : n ≠ 0 := by omega
    rw [thr_reset_st, if_neg nonzero]
  have safe : inRun State.reset = false := by decide
  have cause : rd State.reset .PMU_RSTCAUSE 0 = 1 := by decide
  unfold Obligations.ResetLeavesSafeState
  exact ⟨rfl, rfl, safe, rfl, rfl, rfl, others, cause, fun _ _ => rd_reset, rfl, rfl, rfl⟩

/-! ## Byte writes -/

/-- The highest byte of THRn_STARTPC commits the word staged with it, and nothing else of I/O space changes (R17, R18). -/
theorem exec_write_startPc_high {s : State} {req : Nat} {n : Fin 8} {lo hi : Byte} (hq : req < 8) (hw : reqWorld s req = false)
    (hl : Live s .core) (hlo : mget (fun _ => none) s.staged (2 ^ 20 * (req + 1) + regAddr .THR_STARTPC n) = some lo) :
    exec (.registerWrite req (regAddr .THR_STARTPC n + 1) hi) s = .next (commitPlain (stage s (whoNow s req) .THR_STARTPC n 0 none)
      .THR_STARTPC n (BitVec.ofNat 32 (lo.toNat + 256 * hi.toNat)) 0xFFFF) := by
  have above : 0x100 ≤ regAddr .THR_STARTPC n + 1 := by simp only [regAddr, regInfo]; omega
  have keeper : permitted s req .THR_STARTPC n (reqWorld s req) true = true := by
    rw [permitted_thread hq, hw]; rfl
  rw [exec_registerWrite_register above (findReg_startPc_high n) (by simp [runControl]) (by rwa [addrIsland_startPc_high]), if_pos keeper,
    writeAt_commits_two_bytes rfl (show stagedAt s (whoNow s req) .THR_STARTPC n 0 = some lo from hlo), commitReg_startPc]

/-- Settles O18: a write falls into one of `writeByte`'s cases, and each case's effect is a law of its own. -/
theorem registerAccesses : Obligations.RegisterAccesses := by
  refine ⟨⟨?staged, ?commit⟩, ?refused, ?unoccupied⟩
  case staged =>
    intro s req r i k v hk ha _ hf hr hl hp
    have above : 0x100 ≤ regAddr r i + k := by omega
    rw [exec_registerWrite_register above hf hr hl, if_pos hp, writeAt_staged hk]
    rfl
  case commit =>
    intro s req n lo hi hq hw hl hlo
    refine Does.intro (exec_write_startPc_high hq hw hl hlo) ⟨?_, fun d a ha => ?_, rfl, SameMemory.refl s⟩
    · rw [rf, commitPlain, rd_wr_same, fld_commitBits_startPc, fld, BitVec.toNat_ofNat]
      omega
    · exact mget_wr_io_ne _ d _ (by simpa using ha)
  case refused =>
    intro s req r i k v hq ha hf hr hl hai hri hm free
    have above : 0x100 ≤ regAddr r i + k := by omega
    have denied : ¬ permitted s req r i (reqWorld s req) true = true := by rw [permitted_thread hq, hm]; decide
    have answer : exec (.registerWrite req (regAddr r i + k) v) s = .next (violate s 0 req (regAddr r i + k)) := by
      rw [exec_registerWrite_register above hf (by simp [hr]) (by rwa [hai]), if_neg denied, hri, refuseAt_core_thread hq]
    have frame := violate_countsOnly free 0 req (regAddr r i + k)
    refine Does.intro answer ?_
    simp only [rf, rb, rd_violate free]
    exact ⟨violRecord_kind (by decide) (by omega), violRecord_agent (by omega), violRecord_addr, violRecord_valid (by decide) (by omega),
      frame.staged.trans (wr_staged ..), frame.thr.trans (wr_thr ..), frame.dev.trans (wr_dev ..), SameMemory.trans (wr_memory ..) frame.sameMemory,
      fun hc hv => rd_violate_other free _ _ _ hc hv⟩
  case unoccupied =>
    intro s req a v _ ha hf hi hl
    rw [exec_registerWrite_absolute ha hl, writeByte_hole ha hf, hole, count_send hi]

end Sys2Proof.Proofs
end

section
/-!
SUPPORT. What leaves threads, memories and pins as they are: reports to CORE, the looks that units take at their pins (R61, R71, R84), and what
a change of VBUS does to USB (R812, R813).
-/
namespace Sys2Proof.Proofs
open Sys2Proof.Machine Sys2Proof.Laws

/-- The addresses of the PIN registers (chapter 02). -/
def PinAddr (a : Nat) : Prop := 0x3C00 ≤ a ∧ a < 0x3D80

/-- From `s` to `t` no thread, no memory, no pad and no PIN register differs. -/
structure LeavesPins (s t : State) : Prop where
  thr : t.thr = s.thr
  memory : SameMemory s t
  fight : t.fight = s.fight
  io : ∀ (d : Nat → Quad) (a : Nat), PinAddr a → mget d t.io a = mget d s.io a

namespace LeavesPins

variable {s t u : State}

theorem refl (s : State) : LeavesPins s s := ⟨rfl, SameMemory.refl s, rfl, fun _ _ _ => rfl⟩

theorem trans (h : LeavesPins s t) (k : LeavesPins t u) : LeavesPins s u :=
  ⟨k.thr.trans h.thr, SameMemory.trans h.memory k.memory, k.fight.trans h.fight, fun d a ha => (k.io d a ha).trans (h.io d a ha)⟩

theorem rd (h : LeavesPins s t) {r : Rg} {i : Nat} (ha : PinAddr (regAddr r i)) : rd t r i = rd s r i := h.io _ _ ha

theorem rb (h : LeavesPins s t) {r : Rg} {i : Nat} (ha : PinAddr (regAddr r i)) (b : Nat) : rb t r i b = rb s r i b := by
  rw [Machine.rb, h.rd ha, Machine.rb]

theorem ite (h : LeavesPins s t) (k : LeavesPins s u) {p : Prop} [Decidable p] : LeavesPins s (if p then t else u) := by
  split
  · exact h
  · exact k

theorem foldl {α : Type} {f : State → α → State} {l : List α} (h : LeavesPins s t)
    (hf : ∀ u x, x ∈ l → LeavesPins s u → LeavesPins s (f u x)) : LeavesPins s (l.foldl f t) := by
  induction l generalizing t with
  | nil => exact h
  | cons x l ih => exact ih (hf t x List.mem_cons_self h) fun u y hy => hf u y (List.mem_cons_of_mem x hy)

/-! ## One part of the state replaced -/

theorem wr (h : LeavesPins s t) {r : Rg} {i : Nat} (below : regAddr r i < 0x3C00) (v : Quad) : LeavesPins s (wr t r i v) where
  thr := h.thr
  memory := h.memory
  fight := h.fight
  io d a ha := by
    have apart : a ≠ regAddr r i := by have := ha.1; omega
    exact (mget_wr_io_ne t d v apart).trans (h.io d a ha)

theorem wb (h : LeavesPins s t) {r : Rg} {i : Nat} (below : regAddr r i < 0x3C00) (b : Nat) (x : Bool) : LeavesPins s (wb t r i b x) :=
  h.wr below _

theorem send (h : LeavesPins s t) (c : Nat) (x : Xfer) : LeavesPins s (send t c x) := ⟨h.thr, h.memory, h.fight, h.io⟩

theorem setCtr (h : LeavesPins s t) (n : Nat) (c : Counter) : LeavesPins s (setCtr t n c) := ⟨h.thr, h.memory, h.fight, h.io⟩

theorem setIcu (h : LeavesPins s t) (x : Icu) : LeavesPins s { t with icu := x } := ⟨h.thr, h.memory, h.fight, h.io⟩

theorem setDev (h : LeavesPins s t) (x : Dev) : LeavesPins s { t with dev := x } := ⟨h.thr, h.memory, h.fight, h.io⟩

theorem setUart (h : LeavesPins s t) (n : Nat) (x : Uart) : LeavesPins s (setUart t n x) := ⟨h.thr, h.memory, h.fight, h.io⟩

theorem setUsb (h : LeavesPins s t) (x : Usb) : LeavesPins s (setUsb t x) := ⟨h.thr, h.memory, h.fight, h.io⟩

theorem setSlot (h : LeavesPins s t) (u : Nat) (x : Option Slot) : LeavesPins s (setSlot t u x) := ⟨h.thr, h.memory, h.fight, h.io⟩

theorem setMover (h : LeavesPins s t) (c i : Nat) (m : Option Mover) : LeavesPins s (setMover t c i m) := ⟨h.thr, h.memory, h.fight, h.io⟩

theorem startTimer (h : LeavesPins s t) (k n : Nat) : LeavesPins s (startTimer t k n) := ⟨h.thr, h.memory, h.fight, h.io⟩

theorem stopTimer (h : LeavesPins s t) (k : Nat) : LeavesPins s (stopTimer t k) := ⟨h.thr, h.memory, h.fight, h.io⟩

/-! ## Reports to CORE -/

theorem wb_ecStat (h : LeavesPins s t) {n : Nat} (hn : n < 8) (b : Nat) (x : Bool) : LeavesPins s (Machine.wb t .EC_STAT n b x) :=
  h.wb (by simp only [regAddr, regInfo]; omega) b x

theorem markEdge (h : LeavesPins s t) (src : Nat) : LeavesPins s (markEdge t src) := h.setIcu _

theorem latchBit (h : LeavesPins s t) (src : Nat) : LeavesPins s (latchBit t src) := by
  have opened : LeavesPins s (openMeasures { t with icu := { t.icu with pend := mset (fun _ => false) t.icu.pend src true } } src) := by
    exact (h.setIcu _).foldl fun u n hn hu => ite ((hu.setCtr n _).wb_ecStat (List.mem_range.1 hn) 2 true) hu
  exact opened.send 0 _

theorem bumpCount (h : LeavesPins s t) {n : Nat} (hn : n < 8) (k : Nat) : LeavesPins s (bumpCount t n k).1 := by
  have counted : LeavesPins s (Machine.wr t .EC_COUNT n (BitVec.ofNat 32 (rn t .EC_COUNT n + k))) :=
    h.wr (by simp only [regAddr, regInfo]; omega) _
  have overflow := counted.wb_ecStat hn 0 true
  have edge := overflow.markEdge (24 + n)
  unfold Machine.bumpCount
  dsimp only
  split
  · exact counted
  · split
    · exact overflow
    · split
      · exact edge
      · exact edge.latchBit _

theorem occurUpTo (h : LeavesPins s t) (fuel code k : Nat) : LeavesPins s (occurUpTo fuel t code k) := by
  induction fuel generalizing t code k with
  | zero => exact h
  | succ fuel ih =>
    unfold Machine.occurUpTo
    split
    · exact h
    · refine h.foldl fun u n hn hu => ?_
      have bumped := hu.bumpCount (List.mem_range.1 hn) k
      exact ite (ite (ih bumped 0x06 1) bumped) hu

theorem latchEdge (h : LeavesPins s t) (src : Nat) : LeavesPins s (latchEdge t src) := by
  have edge := h.markEdge src
  exact ite h (ite (edge.occurUpTo 9 0x06 1) (edge.latchBit src))

theorem count (h : LeavesPins s t) (i : Island) (code : Nat) : LeavesPins s (count t i code) := ite (h.occurUpTo 9 code 1) (h.send _ _)

theorem raise (h : LeavesPins s t) (i : Island) (src : Nat) : LeavesPins s (raise t i src) := ite (h.latchEdge src) (h.send _ _)

/-! ## Entries of units -/

theorem endSlot (h : LeavesPins s t) (u status : Nat) : LeavesPins s (endSlot t u status) := by
  unfold Machine.endSlot slotComplete
  split
  · split
    · exact h
    · exact ((h.setSlot u none).setMover _ _ none).send _ _
  · exact h

theorem moverAsk (h : LeavesPins s t) (c i : Nat) : LeavesPins s (moverAsk t c i) := by
  unfold Machine.moverAsk
  split
  · exact h
  · dsimp only
    split
    · exact h
    · exact (h.setMover c i _).foldl fun u _ _ hu => hu.send _ _

theorem moverTake (h : LeavesPins s t) (c i n : Nat) : LeavesPins s (moverTake t c i n).2.2 := by
  unfold Machine.moverTake
  split
  · exact h
  · exact h.setMover c i _

theorem setUnit (h : LeavesPins s t) {u : Nat} (below : regAddr (unitReg u).1 (unitReg u).2 < 0x3C00) (m d : Nat) :
    LeavesPins s (setUnit t u m d) := by
  unfold Machine.setUnit
  dsimp only
  split
  · exact h
  · have shown := h.wr below (BitVec.ofNat 32 (m + 4 * d + 16 * b01 (agreeOf m d)))
    split
    · exact (ite shown (shown.send _ _)).raise _ _
    · exact ite shown (shown.send _ _)

/-! ## The looks at the pins -/

theorem uartShow (h : LeavesPins s t) {n : Nat} (hn : n < 2) : LeavesPins s (uartShow t n) := by
  have below : ∀ r, r = .UART_RXCNT ∨ r = .UART_TXCNT ∨ r = .UART_STAT → regAddr r n < 0x3C00 := by
    rintro r (rfl | rfl | rfl) <;> simp only [regAddr, regInfo] <;> omega
  have shown (u : Uart) (rx tx : Quad) (b : Nat) (x : Bool) :=
    (((h.setUart n u).wr (below .UART_RXCNT (by simp)) rx).wr (below .UART_TXCNT (by simp)) tx).wb (below .UART_STAT (by simp)) b x
  exact ite ((shown _ _ _ _ _).raise _ _) (shown _ _ _ _ _)

theorem uartFlag (h : LeavesPins s t) {n : Nat} (hn : n < 2) (bit code : Nat) : LeavesPins s (uartFlag t n bit code) := by
  have flagged := h.wb (r := .UART_STAT) (i := n) (by simp only [regAddr, regInfo]; omega) bit true
  exact ite h ((ite flagged (flagged.count _ _)).raise _ _)

theorem uartFill (h : LeavesPins s t) (n : Nat) : LeavesPins s (uartFill t n) := by
  unfold Machine.uartFill
  split
  · exact h
  · next x _ =>
    split
    · exact h
    · have taken := h.moverTake x.chan x.e.idx (16 - (uartOf t n).tx.length)
      have asked (u : Uart) (y : Option Slot) := ((taken.setUart n u).setSlot (10 + 2 * n) y).moverAsk x.chan x.e.idx
      exact ite ((asked _ _).endSlot _ _) (ite ((asked _ _).endSlot _ _) (asked _ _))

theorem uartGo (h : LeavesPins s t) {n : Nat} (hn : n < 2) : LeavesPins s (uartGo t n) := by
  have filled := h.uartFill n
  unfold Machine.uartGo
  dsimp only
  split
  · split
    · exact filled.uartShow hn
    · have begun (u : Uart) := filled.setUart n u
      exact ((ite ((begun _).raise _ _) (begun _)).uartFill n).uartShow hn
  · exact filled.uartShow hn

theorem uartLook (h : LeavesPins s t) {n : Nat} (hn : n < 2) : LeavesPins s (uartLook t n) := by
  have seen (u : Uart) := h.setUart n u
  unfold Machine.uartLook
  dsimp only
  split
  · exact h
  · have dsr {p : Prop} [Decidable p] (u : Uart) := ite (p := p) (seen u) ((seen u).uartFlag hn 4 0)
    exact (ite (dsr _) ((dsr _).uartFlag hn 5 0)).uartGo hn

theorem fevEdges (h : LeavesPins s t) (before : State) : LeavesPins s (fevEdges before t) :=
  h.foldl fun _ _ _ hu => ite (hu.latchEdge _) hu

theorem debLook (h : LeavesPins s t) : LeavesPins s (debLook t) :=
  h.foldl fun _ _ _ hu => ite (hu.stopTimer _) (ite hu (hu.startTimer _ _))

theorem wakeUpdate (h : LeavesPins s t) : LeavesPins s (wakeUpdate t) := by
  have seen := h.setDev { t.dev with wake0 := wakeLevel t 0, wake1 := wakeLevel t 1 }
  unfold Machine.wakeUpdate
  dsimp only
  split
  · exact seen
  · have first {p : Prop} [Decidable p] := ite (p := p) (seen.raise .ao 37) seen
    exact ite (first.raise _ _) first

theorem dozeExit (h : LeavesPins s t) : LeavesPins s (dozeExit t) := ite (ite (h.setDev _) h) h

theorem pinsLook (h : LeavesPins s t) (before : State) : LeavesPins s (pinsLook before t) := by
  unfold Machine.pinsLook
  split
  · exact h.wakeUpdate
  · have uarts := (h.uartLook (n := 0) (by decide)).uartLook (n := 1) (by decide)
    exact (((uarts.fevEdges before).debLook).wakeUpdate).dozeExit

/-! ## VBUS -/

theorem usbHeard (h : LeavesPins s t) : LeavesPins s (usbHeard t) := ite ((ite (h.count _ _) h).startTimer _ _) h

theorem usbShow (h : LeavesPins s t) : LeavesPins s (usbShow t) := by
  have followed (active : Bool) : LeavesPins s (follow t 5 active) := ite (h.setUnit (by decide) _ _) h
  exact ite ((followed _).stopTimer _) (ite (followed _) (followed _).usbHeard)

theorem usbArm (h : LeavesPins s t) (i o : Bool) : LeavesPins s (usbArm t i o) := (h.setUsb _).wb (by decide) 6 (i || o)

theorem usbBusReset (h : LeavesPins s t) : LeavesPins s (usbBusReset t) := by
  have cleared : LeavesPins s (forN 3 (Machine.wr (Machine.setUsb t { t.usb with addr := 0, staged := none, toggle := [], sent := none })
      .USB_ADDR 0 0) fun s k => wf s .USB_EPCFG k 3 0 0) := by
    refine ((h.setUsb _).wr (by decide) 0).foldl fun u k hk hu => hu.wr ?_ _
    have := List.mem_range.1 hk
    simp only [regAddr, regInfo]
    omega
  have ended := (cleared.usbArm false false).foldl (l := usbUnits) fun u k _ hu => hu.endSlot k 0x85
  exact ((ended.wb (by decide) 2 true).count _ _).raise _ _

/-- A change of VBUS leaves everything but its own pad as it is. -/
theorem vbusChange (s : State) (level : Bool) :
    LeavesPins { s with pads := mset (fun _ => none) s.pads 97 (some level) } (vbusChange s level) := by
  have changed := LeavesPins.refl { s with pads := mset (fun _ => none) s.pads 97 (some level) }
  have shown := changed.wb (r := .USB_STAT) (i := 0) (by decide) 0 level
  have noted := (shown.wb (r := .USB_STAT) (i := 0) (by decide) 5 true).raise .usb 101
  exact ite changed (ite shown (ite changed (ite noted noted.usbBusReset).usbShow))

end LeavesPins

end Sys2Proof.Proofs
end

section
/-!
Chapter 02: what the pin commands do, and the level of a pad.
-/
namespace Sys2Proof.Proofs
open Sys2Proof.Machine Sys2Proof.Laws

theorem rb_wr_ne (s : State) {r q : Rg} {i j : Nat} (v : Quad) (b : Nat) (h : regAddr q j ≠ regAddr r i) :
    rb (wr s r i v) q j b = rb s q j b := by
  rw [rb, rd_wr_ne _ _ _ _ _ _ h, rb]

variable {s t : State} {n : Nat}

/-! ## The PIN registers -/

theorem pinAddr_of_lt {r : Rg} (hr : r = .PIN_MUX ∨ r = .PIN_PAD ∨ r = .PIN_STAT ∨ r = .PIN_WORLD) (hn : n < 96) : PinAddr (regAddr r n) := by
  rcases hr with rfl | rfl | rfl | rfl <;> simp only [PinAddr, regAddr, regInfo] <;> omega

/-- WMIS is set to whether the worlds differ; its rise is counted (R84). -/
theorem wmisUpdate_leavesPins (s : State) (n : Nat) : LeavesPins (wb s .PIN_STAT n 3 (pinMismatch s n)) (wmisUpdate s n) :=
  LeavesPins.ite ((LeavesPins.refl _).count _ _) (.refl _)

/-- Pin `n` as a write of FUNC leaves it (R65): PIN_MUXn, the clamp released, WMIS. -/
def pinOfFunc (s : State) (n : Nat) (v : Quad) (wmis : Bool) : State :=
  wb (wb (wr s .PIN_MUX n (v &&& 0xF)) .PIN_STAT n 1 false) .PIN_STAT n 3 wmis

theorem pinMuxWrite_leavesPins (s : State) (n : Nat) (v : Quad) : ∃ m, LeavesPins (pinOfFunc s n v m) (pinMuxWrite s n v) :=
  ⟨_, (wmisUpdate_leavesPins _ n).pinsLook s⟩

theorem pinOfFunc_frame (s : State) (n : Nat) (v : Quad) (wmis : Bool) :
    (pinOfFunc s n v wmis).thr = s.thr ∧ SameMemory s (pinOfFunc s n v wmis) := by
  simp [pinOfFunc, SameMemory]

theorem pinOfFunc_reads (s : State) (n : Nat) (v : Quad) (wmis : Bool) :
    rd (pinOfFunc s n v wmis) .PIN_MUX n = v &&& 0xF ∧ rb (pinOfFunc s n v wmis) .PIN_STAT n 1 = false := by
  constructor <;> simp (disch := ((try simp only [regAddr, regInfo]); omega)) only [pinOfFunc, rb_wb_same, rb_wb_other, rd_wb_ne, rd_wr_same]

/-- Pin `n` as a write of WORLD leaves it (R81): the world, PIN_MUXn and PIN_PADn at reset, MISMATCH cleared, WMIS. -/
def pinOfWorld (s : State) (n : Nat) (world wmis : Bool) : State :=
  wb (wb (wr (wr (wb s .PIN_WORLD n 0 world) .PIN_MUX n (regReset .PIN_MUX n)) .PIN_PAD n (regReset .PIN_PAD n)) .PIN_STAT n 2 false)
    .PIN_STAT n 3 wmis

theorem pinOfWorld_reads (s : State) (n : Nat) (world wmis : Bool) :
    let t := pinOfWorld s n world wmis
    rb t .PIN_WORLD n 0 = world ∧ rb t .PIN_WORLD n 1 = rb s .PIN_WORLD n 1 ∧ rd t .PIN_MUX n = regReset .PIN_MUX n ∧
      rd t .PIN_PAD n = regReset .PIN_PAD n ∧ rb t .PIN_STAT n 2 = false := by
  refine ⟨?_, ?_, ?_, ?_, ?_⟩ <;> simp (disch := ((try simp only [regAddr, regInfo]); omega)) only
    [pinOfWorld, rb_wb_ne, rb_wb_same, rb_wr_ne, rb_wb_other, rd_wb_ne, rd_wr_ne, rd_wr_same]

theorem pinOfWorld_frame (s : State) (n : Nat) (world wmis : Bool) :
    (pinOfWorld s n world wmis).thr = s.thr ∧ SameMemory s (pinOfWorld s n world wmis) := by
  simp [pinOfWorld, SameMemory]

/-- A write of WORLD to a pin that is not locked is honoured before its LOCK (R81, R82). -/
theorem pinWorldWrite_unlocked (free : rb s .PIN_WORLD n 1 = false) (v : Quad) : ∃ m t, LeavesPins (pinOfWorld s n (v.getLsbD 0) m) t ∧
    pinWorldWrite s n v = if v.getLsbD 1 then wb t .PIN_WORLD n 1 true else t :=
  ⟨_, _, (wmisUpdate_leavesPins _ n).pinsLook s, by simp only [pinWorldWrite, free, Bool.false_eq_true, if_false]⟩

/-- What a write of WORLD with LOCK stores for a pin that is not locked (R81, R82). -/
theorem pinWorldWrite_reads (hn : n < 96) (free : rb s .PIN_WORLD n 1 = false) (v : Quad) :
    let t := pinWorldWrite s n v
    rb t .PIN_WORLD n 0 = v.getLsbD 0 ∧ rb t .PIN_WORLD n 1 = v.getLsbD 1 ∧ rd t .PIN_MUX n = regReset .PIN_MUX n ∧
      rd t .PIN_PAD n = regReset .PIN_PAD n ∧ rb t .PIN_STAT n 2 = false ∧ t.thr = s.thr ∧ SameMemory s t := by
  obtain ⟨m, t, kept, written⟩ := pinWorldWrite_unlocked free v
  obtain ⟨world, lock, mux, pad, mismatch⟩ := pinOfWorld_reads s n (v.getLsbD 0) m
  obtain ⟨threads, memories⟩ := pinOfWorld_frame s n (v.getLsbD 0) m
  have thr := kept.thr.trans threads
  have memory := SameMemory.trans memories kept.memory
  have inPins (r : Rg) (hr : r = .PIN_MUX ∨ r = .PIN_PAD ∨ r = .PIN_STAT ∨ r = .PIN_WORLD) := pinAddr_of_lt hr hn
  rw [← kept.rb (inPins .PIN_WORLD (by simp))] at world lock
  rw [← kept.rd (inPins .PIN_MUX (by simp))] at mux
  rw [← kept.rd (inPins .PIN_PAD (by simp))] at pad
  rw [← kept.rb (inPins .PIN_STAT (by simp))] at mismatch
  simp only [written]
  split
  case isTrue locks =>
    refine ⟨?_, ?_, ?_, ?_, ?_, thr, SameMemory.trans memory (wr_memory t _ _ _)⟩ <;> simp (disch := ((try simp only [regAddr, regInfo]); omega)) only
      [rb_wb_ne, rb_wb_same, rb_wb_other, rd_wb_ne, world, locks, mux, pad, mismatch]
  case isFalse stays =>
    exact ⟨world, (lock.trans free).trans (eq_false_of_ne_true stays).symm, mux, pad, mismatch, thr, memory⟩

/-- LOCK written with WORLD as it is locks the pin in its world, locked before or not (R82). -/
theorem pinWorldWrite_lock (hn : n < 96) : let t := pinWorldWrite s n ((rd s .PIN_WORLD n &&& 1) ||| 2)
    rb t .PIN_WORLD n 1 = true ∧ rb t .PIN_WORLD n 0 = rb s .PIN_WORLD n 0 ∧ t.thr = s.thr ∧ SameMemory s t := by
  have world : ((rd s .PIN_WORLD n &&& 1) ||| 2).getLsbD 0 = rb s .PIN_WORLD n 0 := by simp [rb]
  have lock : ((rd s .PIN_WORLD n &&& 1) ||| 2).getLsbD 1 = true := by simp
  cases free : rb s .PIN_WORLD n 1
  case false =>
    obtain ⟨hw, hl, _, _, _, thr, memory⟩ := pinWorldWrite_reads hn free ((rd s .PIN_WORLD n &&& 1) ||| 2)
    exact ⟨hl.trans lock, hw.trans world, thr, memory⟩
  case true =>
    simp only [pinWorldWrite, free, if_true, lock]
    exact ⟨rb_wb_same _ _ _ _ _ (by decide), rb_wb_other _ _ _ _ _ _ (by decide) (by decide), rfl, wr_memory s _ _ _⟩

/-! ## The level of a pad -/

theorem padLevel_driven {d : Bool} (hn : n < 96) (calm : mget (fun _ => false) s.fight n = false) (drives : pinLevelOut s n = some d) :
    padLevel s n = d := by
  simp [padLevel, hn, drives, calm]

theorem padLevel_released (released : pinDrives s n = false) : padLevel s n = padIn s n := by
  have none : pinLevelOut s n = none := by simpa [pinDrives] using released
  simp [padLevel, none]

/-- A clamped pin is low (R63). -/
theorem pinLevelOut_clamped (lit : padDark s n = false) (clamped : rb s .PIN_STAT n 1 = true) : pinLevelOut s n = some false := by
  simp [pinLevelOut, lit, clamped]

/-- A plain output drives its bit, but for the high of an open drain (R72). -/
theorem pinLevelOut_plain (lit : padDark s n = false) (free : rb s .PIN_STAT n 1 = false) (alive : s.dev.kill = false)
    (plain : pinFunc s n = 0) (ordinary : isSafetyPin n = false) (output : rb s .PIN_MUX n 2 = true) : pinLevelOut s n =
      if rb s .PIN_MUX n 3 && mget (fun _ => false) s.bits (0x10000 + 0x880 + n) then none
      else some (mget (fun _ => false) s.bits (0x10000 + 0x880 + n)) := by
  simp only [pinLevelOut, lit, free, alive, plain, ordinary, output]
  cases mget (fun _ => false) s.bits (0x10000 + 0x880 + n) <;> simp

theorem padIn_eq_board {x : Bool} (board : mget (fun _ => none) s.pads n = some x) : padIn s n = x := by
  simp [padIn, board]

/-! ## The commands -/

/-- The board's level at a pad but VBUS: the pad and the fight there change, and what units take from it (R71, R94). -/
theorem padChange_leavesPins (s : State) (n : Nat) (level : Bool) : LeavesPins { s with
    pads := mset (fun _ => none) s.pads n (some level)
    fight := mset (fun _ => false) s.fight n (decide (n < 96) && pinLevelOut s n == some (!level)) } (padChange s n level) :=
  (LeavesPins.refl _).pinsLook s

/-- A pad takes the board's level, VBUS's too, whatever units make of it (R71, R73, R812). -/
theorem pinInputChange_leavesPins (s : State) (p : Pad) (level : Bool) : ∃ fight t, exec (.pinInputChange p level) s = .next t ∧
    LeavesPins { s with pads := mset (fun _ => none) s.pads (padNo p) (some level), fight := fight } t ∧
    (p ≠ .vbus → fight = mset (fun _ => false) s.fight (padNo p) (decide (padNo p < 96) && pinLevelOut s (padNo p) == some (!level))) := by
  cases p with
  | gp n => exact ⟨_, _, rfl, padChange_leavesPins s n level, fun _ => rfl⟩
  | wpn => exact ⟨_, _, rfl, padChange_leavesPins s 96 level, fun _ => rfl⟩
  | vbus => exact ⟨s.fight, _, rfl, (LeavesPins.vbusChange s level).pinsLook s, fun h => absurd rfl h⟩

theorem exec_pinMuxWrite {req : Nat} {n : Fin 96} (may : MayWrite s req .PIN_MUX n) (v : Byte) :
    exec (.pinMuxWrite req n v) s = .next (pinMuxWrite s n (v.zeroExtend 32)) :=
  writeReg_taken may fun s => pinMuxWrite s n (v.zeroExtend 32)

theorem exec_pinWorldWrite {req : Nat} {n : Fin 96} (may : MayWrite s req .PIN_WORLD n) (v : Byte) :
    exec (.pinWorldWrite req n v) s = .next (pinWorldWrite s n (v.zeroExtend 32)) :=
  writeReg_taken may fun s => pinWorldWrite s n (v.zeroExtend 32)

theorem exec_pinWorldLock {req : Nat} {n : Fin 96} (may : MayWrite s req .PIN_WORLD n) :
    exec (.pinWorldLock req n) s = .next (pinWorldWrite s n ((rd s .PIN_WORLD n &&& 1) ||| 2)) :=
  writeReg_taken may fun s => pinWorldWrite s n ((rd s .PIN_WORLD n &&& 1) ||| 2)

theorem exec_pinContention (live : Live s (regIsland .PIN_STAT n)) (hn : n < 96) : exec (.pinContention ⟨n, hn⟩) s =
    .next (if pinDrives s n then count (wb s .PIN_STAT n 2 true) (regIsland .PIN_STAT n) 0x0C else s) :=
  liveIn_live live _

/-- Settles O20: each command's write is a law of its own, and what follows it, the looks of the units at their pins, leaves pins, threads and
memories as they are. -/
theorem pinCommandEffects : Obligations.PinCommandEffects := by
  intro s req n v p level
  refine ⟨?mux, ?world, ?lock, ?board, ?contention, ?noContention, ?pad⟩
  case mux =>
    intro may
    obtain ⟨m, kept⟩ := pinMuxWrite_leavesPins s n (v.zeroExtend 32)
    obtain ⟨func, clamp⟩ := pinOfFunc_reads s n (v.zeroExtend 32) m
    obtain ⟨thr, memory⟩ := pinOfFunc_frame s n (v.zeroExtend 32) m
    refine Does.intro (exec_pinMuxWrite may v) ⟨?_, ?_, kept.thr.trans thr, SameMemory.trans memory kept.memory⟩
    · rw [kept.rd (pinAddr_of_lt (by simp) n.isLt), func]
      exact (BitVec.setWidth_and (x := v) (y := 0xF)).symm
    · rw [kept.rb (pinAddr_of_lt (by simp) n.isLt), clamp]
  case world =>
    intro may free
    have low (b : Nat) (hb : b < 8) : (v.zeroExtend 32).getLsbD b = v.getLsbD b := by
      have inside : b < 32 := by omega
      simp [inside]
    have reads := pinWorldWrite_reads n.isLt free (v.zeroExtend 32)
    rw [low 0 (by decide), low 1 (by decide)] at reads
    exact Does.intro (exec_pinWorldWrite may v) reads
  case lock =>
    intro may
    exact Does.intro (exec_pinWorldLock may) (pinWorldWrite_lock n.isLt)
  case board =>
    obtain ⟨fight, t, answer, kept, fights⟩ := pinInputChange_leavesPins s p level
    obtain ⟨near, bits, _, _, _, byte, _, _, _, pads, _⟩ := kept.memory
    refine Does.intro answer ⟨fun k => ?_, fun other k => ?_, kept.thr, near, bits, byte⟩
    · rw [pads]
      exact mget_mset (fun _ => none) s.pads k (padNo p) (some level)
    · rw [kept.fight, fights other, mget_mset]
      split
      case isTrue here => rw [here]
      case isFalse => rfl
  case contention =>
    intro live drives
    have kept := (LeavesPins.refl (wb s .PIN_STAT n 2 true)).count (regIsland .PIN_STAT n) 0x0C
    have answer := exec_pinContention live n.isLt
    rw [if_pos drives] at answer
    refine Does.intro answer ⟨?_, kept.thr, kept.memory⟩
    rw [kept.rb (pinAddr_of_lt (by simp) n.isLt), rb_wb_same _ _ _ _ _ (by decide)]
  case noContention =>
    intro live still
    have answer := exec_pinContention live n.isLt
    rwa [still] at answer
  case pad =>
    intro lit calm
    refine ⟨fun clamped => padLevel_driven n.isLt calm (pinLevelOut_clamped lit clamped), ?plain, ?released⟩
    case plain =>
      intro free alive plain ordinary output
      have out := pinLevelOut_plain lit free alive plain ordinary output
      refine ⟨fun push => padLevel_driven n.isLt calm ?_, fun drain low => padLevel_driven n.isLt calm ?_, fun drain high => ?_⟩
      · simpa [push] using out
      · simpa [drain, low] using out
      · simp [pinDrives, out, drain, high]
    case released =>
      intro released
      exact ⟨padLevel_released released, fun x board => (padLevel_released released).trans (padIn_eq_board board)⟩

end Sys2Proof.Proofs
end

section
/-!
SUPPORT. The Waypost controller (chapter 18): how an operation starts, rolls call, ends, and what each of its slots does.
-/
namespace Sys2Proof.Proofs
open Sys2Proof.Machine Sys2Proof.Laws

variable {s t u : State} {status : Nat}

/-- A field reads what was put into it. -/
theorem fld_putFld (v : Quad) {hi lo : Nat} (x : Nat) (hi32 : hi < 32) (hl : lo ≤ hi) : fld (putFld v hi lo x) hi lo = x % 2 ^ (hi + 1 - lo) := by
  refine Nat.eq_of_testBit_eq fun i => ?_
  rw [fld, Nat.testBit_mod_two_pow, Nat.testBit_div_two_pow, Nat.testBit_mod_two_pow, BitVec.testBit_toNat, getLsbD_putFld _ _ _ _ _ hi32 hl]
  by_cases inside : i < hi + 1 - lo
  · have within : lo ≤ i + lo ∧ i + lo ≤ hi := by omega
    simp [within]
  · simp [inside]

theorem rf_wf_same (s : State) (r : Rg) (i x : Nat) {hi lo : Nat} (hi32 : hi < 32) (hl : lo ≤ hi) :
    rf (wf s r i hi lo x) r i hi lo = x % 2 ^ (hi + 1 - lo) := by
  rw [rf, wf, rd_wr_same, fld_putFld _ _ hi32 hl]

/-! ## Registers under what the controller does to the rest of the state -/

@[simp] theorem rd_send (c : Nat) (x : Xfer) (r : Rg) (i : Nat) : rd (send s c x) r i = rd s r i :=
  rd_io _ _ _ _ rfl

@[simp] theorem rb_send (c : Nat) (x : Xfer) (r : Rg) (i b : Nat) : rb (send s c x) r i b = rb s r i b := by
  rw [rb, rd_send, rb]

@[simp] theorem timerOn_send (c : Nat) (x : Xfer) (k : Nat) : timerOn (send s c x) k = timerOn s k := rfl

@[simp] theorem rd_setWp (w : Wp) (r : Rg) (i : Nat) : rd (setWp s w) r i = rd s r i :=
  rd_io _ _ _ _ rfl

@[simp] theorem rb_setWp (w : Wp) (r : Rg) (i b : Nat) : rb (setWp s w) r i b = rb s r i b := by
  rw [rb, rd_setWp, rb]

@[simp] theorem rd_wpBegin (k : WpSlot) (r : Rg) (i : Nat) : rd (wpBegin s k) r i = rd s r i :=
  rd_io _ _ _ _ rfl

@[simp] theorem rb_wpBegin (k : WpSlot) (r : Rg) (i b : Nat) : rb (wpBegin s k) r i b = rb s r i b := by
  rw [rb, rd_wpBegin, rb]

@[simp] theorem count_serial (s : State) (code : Nat) : count s .serial code = send s 5 (.count code 1) := count_send (by decide) s code

@[simp] theorem raise_serial (s : State) (src : Nat) : raise s .serial src = send s 5 (.edge src) := raise_send (by decide) s src

/-! ## Slots and ends -/

theorem LeavesPins.setWp (h : LeavesPins s t) (w : Wp) : LeavesPins s (setWp t w) := ⟨h.thr, h.memory, h.fight, h.io⟩

theorem LeavesPins.wpBegin (h : LeavesPins s t) (k : WpSlot) : LeavesPins s (wpBegin t k) := (h.setWp _).startTimer _ _

theorem LeavesPins.wpEnd (h : LeavesPins s t) (status : Nat) : LeavesPins s (wpEnd t status) := by
  have closed (w : Wp) (x : Quad) := ((((h.setWp w).stopTimer tmrSlot).wr (r := .WP_RESULT) (i := 0) (by decide) x).wb
    (r := .WP_STAT) (i := 0) (by decide) 0 false).wb (r := .WP_STAT) (i := 0) (by decide) 3 true
  exact (ite ((closed _ _).wb (by decide) 4 false) (closed _ _)).raise _ _

theorem LeavesPins.wpRoll (h : LeavesPins s t) : LeavesPins s (wpRoll t) :=
  ite (h.wpBegin _) (ite ((h.wb (by decide) 4 false).wpBegin _) (h.wpBegin _))

/-- An operation has ended with a status (R945): RESULT, BUSY, DONE, no slot and no slot timer; threads and memories are as in `s`. -/
abbrev WpEnded (s : State) (status : Nat) (t : State) : Prop :=
  rf t .WP_RESULT 0 2 0 = status ∧ rb t .WP_STAT 0 0 = false ∧ rb t .WP_STAT 0 3 = true ∧ t.wp.slot = none ∧ timerOn t tmrSlot = false ∧
    t.thr = s.thr ∧ SameMemory s t

/-- The end of an operation before its source is raised (R945, R948). -/
def wpClosed (s : State) (status : Nat) : State :=
  let t := wb (wb (wf (stopTimer (setWp s { s.wp with slot := none, abort := false, changed := false }) tmrSlot) .WP_RESULT 0 2 0 status)
    .WP_STAT 0 0 false) .WP_STAT 0 3 true
  if s.wp.changed then wb t .WP_STAT 0 4 false else t

theorem wpEnd_eq_send (s : State) (status : Nat) : wpEnd s status = send (wpClosed s status) 5 (.edge 89) := raise_serial _ _

theorem timerOn_wpClosed : timerOn (wpClosed s status) tmrSlot = false := by
  rw [wpClosed]
  split <;> exact timerOn_stopTimer _ _

theorem wpEnd_ended (h : LeavesPins s u) (hs : status < 8) : WpEnded s status (wpEnd u status) := by
  have kept := h.wpEnd status
  have result (t : State) : rf (wf t .WP_RESULT 0 2 0 status) .WP_RESULT 0 2 0 = status := by
    rw [rf_wf_same _ _ _ _ (by decide) (by decide)]
    exact Nat.mod_eq_of_lt hs
  rw [wpEnd_eq_send] at kept ⊢
  refine ⟨?_, ?_, ?_, ?_, (timerOn_send ..).trans timerOn_wpClosed, kept.thr, kept.memory⟩ <;> rw [wpClosed] <;> split
  case refine_1.isTrue | refine_1.isFalse =>
    simp (disch := ((try simp only [regAddr, regInfo]); omega)) only [rf, rd_send, rd_wb_ne]
    rw [← rf, result]
  all_goals simp (disch := omega) [rb_wb_same, rb_wb_other]

/-- An operation's end writes WP_RESULT and WP_STAT only. -/
theorem rd_wpEnd_ne {r : Rg} {i : Nat} (result : regAddr r i ≠ regAddr .WP_RESULT 0) (stat : regAddr r i ≠ regAddr .WP_STAT 0) :
    rd (wpEnd s status) r i = rd s r i := by
  have stopped : rd (stopTimer (setWp s { s.wp with slot := none, abort := false, changed := false }) tmrSlot) r i = rd s r i := rfl
  rw [wpEnd_eq_send, rd_send, wpClosed]
  split <;> simp only [rd_wb_ne _ _ _ _ _ _ _ stat, rd_wf_ne _ _ _ _ _ _ _ _ result, stopped]

theorem rb_present_wpEnd : rb (wpEnd s status) .WP_STAT 0 1 = rb s .WP_STAT 0 1 := by
  have stopped (x : Quad) : rb (wr (stopTimer (setWp s { s.wp with slot := none, abort := false, changed := false }) tmrSlot) .WP_RESULT 0 x)
      .WP_STAT 0 1 = rb s .WP_STAT 0 1 := rb_wr_ne _ _ _ (by decide)
  rw [wpEnd_eq_send, rb_send, wpClosed]
  split <;> simp (disch := omega) only [rb_wb_other, wf, stopped]

theorem xwaitOf_wpEnd : xwaitOf (wpEnd s status) 5 = xwaitOf s 5 ++ [.edge 89] := by
  have waits : xwaitOf (wpClosed s status) 5 = xwaitOf s 5 := by rw [wpClosed]; split <;> simp [xwaitOf]
  rw [wpEnd_eq_send, xwaitOf_send_same, waits]

theorem wpVanish_ended (h : LeavesPins s u) : WpEnded s 2 (wpVanish u) := wpEnd_ended (h.count _ _) (by decide)

/-! ## The roll-call that begins an operation -/

/-- The bus is to run fast and does (R947). -/
def wpFast (s : State) : Bool := rb s .WP_CFG 0 0 && rb s .WP_STAT 0 4

theorem wpRoll_eq_wpBegin (s : State) : wpRoll s = wpBegin (if rb s .WP_CFG 0 0 then s else wb s .WP_STAT 0 4 false)
    (if wpFast s then .roll true false else .roll false (rb s .WP_CFG 0 0)) := by
  cases speed : rb s .WP_CFG 0 0 <;> cases fast : rb s .WP_STAT 0 4 <;> simp [wpRoll, wpFast, speed, fast]

/-- An operation is in its first roll-call (R947): BUSY, its OP, the slot at the speed of `s` and its time; threads and memories are as in `s`. -/
abbrev WpRolling (s : State) (op : Nat) (t : State) : Prop :=
  rb t .WP_STAT 0 0 = true ∧ t.wp.op = op ∧ t.wp.slot = some (if wpFast s then .roll true false else .roll false (rb s .WP_CFG 0 0)) ∧
    mget (fun _ => none) t.timers tmrSlot = some (s.time + 24 * (if wpFast s then 96 else 800)) ∧ t.thr = s.thr ∧ SameMemory s t

theorem wpRoll_rolling {op : Nat} (h : LeavesPins s t) (busy : rb t .WP_STAT 0 0 = true) (code : t.wp.op = op) (now : t.time = s.time)
    (speed : rb t .WP_CFG 0 0 = rb s .WP_CFG 0 0) (fast : rb t .WP_STAT 0 4 = rb s .WP_STAT 0 4) : WpRolling s op (wpRoll t) := by
  have kept := h.wpRoll
  have same : wpFast t = wpFast s := by rw [wpFast, speed, fast, wpFast]
  have length (k : State) (f q : Bool) : usTicks (slotUs k (.roll f q)) = 24 * (if f then 96 else 800) := by cases f <;> rfl
  refine ⟨?_, ?_, ?_, ?_, kept.thr, kept.memory⟩ <;> rw [wpRoll_eq_wpBegin, same, speed]
  · rw [rb_wpBegin]
    split
    · exact busy
    · rw [rb_wb_other _ _ _ _ _ _ (by decide) (by decide), busy]
  · rw [← code]
    split <;> simp [wpBegin]
  · simp [wpBegin]
  · rw [wpBegin, startTimer, mget_mset_same]
    cases wpFast s <;> cases rb s .WP_CFG 0 0 <;> simp [length, now]

/-- The first roll-call writes WP_STAT only. -/
theorem rd_wpRoll_ne {r : Rg} {i : Nat} (stat : regAddr r i ≠ regAddr .WP_STAT 0) : rd (wpRoll s) r i = rd s r i := by
  rw [wpRoll_eq_wpBegin, rd_wpBegin]
  split
  · rfl
  · rw [rd_wb_ne _ _ _ _ _ _ _ stat]

/-! ## GO -/

/-- The state in which an operation with a code of OP begins (R946): BUSY, and a fresh controller. -/
def wpStarted (s : State) (op : Nat) : State := wb (setWp s { Wp.reset with op := op }) .WP_STAT 0 0 true

/-- The state in which a pass begins (R952): its results cleared. -/
def wpCleared (s : State) : State :=
  wr (wr (wr (wr (wpStarted s 2) .WP_IDFOUND 0 0) .WP_IDCRC 0 0) .WP_IDCOUNT 0 0) .WP_RESULT 0 0

theorem wpStarted_leavesPins (s : State) (op : Nat) : LeavesPins s (wpStarted s op) := ((LeavesPins.refl s).setWp _).wb (by decide) 0 true

theorem wpStarted_rolling (s : State) (op : Nat) : WpRolling s op (wpRoll (wpStarted s op)) :=
  wpRoll_rolling (wpStarted_leavesPins s op) (rb_wb_same _ _ _ _ _ (by decide)) (by simp [wpStarted]) (by simp [wpStarted]) (rb_wb_ne _ _ _ _ _ _ _ _ (by decide))
    (rb_wb_other _ _ _ _ _ _ (by decide) (by decide))

theorem wpCleared_rolling (s : State) : WpRolling s 2 (wpRoll (wpCleared s)) := by
  have started := wpStarted_leavesPins s 2
  refine wpRoll_rolling ((((started.wr ?_ 0).wr ?_ 0).wr ?_ 0).wr ?_ 0) ?_ (by simp [wpCleared, wpStarted]) (by simp [wpCleared, wpStarted]) ?_ ?_
  case refine_5 | refine_6 | refine_7 =>
    simp (disch := ((try simp only [regAddr, regInfo]); omega)) [wpCleared, wpStarted, rb_wr_ne, rb_wb_same, rb_wb_ne, rb_wb_other]
  all_goals decide

/-- The operation that OP selects (R946): 3 acts as 0. -/
def wpCode (s : State) : Nat := if rf s .WP_OP 0 1 0 = 3 then 0 else rf s .WP_OP 0 1 0

theorem wpGo_eq (s : State) : wpGo s = if rb s .WP_STAT 0 0 ∨ rb s .WP_CTL 0 0 = false ∨ hoPhase s 3 ≠ 0 then s
    else if wpCode s = 1 then
      (if rb (wpStarted s (wpCode s)) .WP_OP 0 2 then wpXferWrite (wpStarted s (wpCode s)) else wpRoll (wpStarted s (wpCode s)))
    else if wpCode s = 2 then wpRoll (wr (wr (wr (wr (wpStarted s (wpCode s)) .WP_IDFOUND 0 0) .WP_IDCRC 0 0) .WP_IDCOUNT 0 0) .WP_RESULT 0 0)
    else wpRoll (wpStarted s (wpCode s)) := rfl

theorem wpGo_busy (busy : rb s .WP_STAT 0 0 = true) : wpGo s = s := by simp [wpGo_eq, busy]

section
variable (idle : rb s .WP_STAT 0 0 = false) (enabled : rb s .WP_CTL 0 0 = true) (free : hoPhase s 3 = 0)
include idle enabled free

theorem wpGo_reset (code : rf s .WP_OP 0 1 0 = 0 ∨ rf s .WP_OP 0 1 0 = 3) : wpGo s = wpRoll (wpStarted s 0) := by
  have op : wpCode s = 0 := by rcases code with code | code <;> simp [wpCode, code]
  simp [wpGo_eq, idle, enabled, free, op]

theorem wpGo_xfer (code : rf s .WP_OP 0 1 0 = 1) :
    wpGo s = if rb s .WP_OP 0 2 then wpXferWrite (wpStarted s 1) else wpRoll (wpStarted s 1) := by
  have op : wpCode s = 1 := by simp [wpCode, code]
  have skip : rb (wpStarted s 1) .WP_OP 0 2 = rb s .WP_OP 0 2 := rb_wb_ne _ _ _ _ _ _ _ _ (by decide)
  simp [wpGo_eq, idle, enabled, free, op, skip]

theorem wpGo_pass (code : rf s .WP_OP 0 1 0 = 2) : wpGo s = wpRoll (wpCleared s) := by
  have op : wpCode s = 2 := by simp [wpCode, code]
  simp [wpGo_eq, idle, enabled, free, op, wpCleared]

end

/-- The bits that an XFER writes (R950). -/
def wpOutBits (s : State) : List Bool := (List.range (min (rf s .WP_WLEN 0 4 0) 16)).flatMap fun j => bitsOf (rn s .WP_TX j)

theorem wpOutBits_ne_nil (long : rf s .WP_WLEN 0 4 0 ≠ 0) : wpOutBits s ≠ [] := by
  intro empty
  have first : 0 ∈ List.range (min (rf s .WP_WLEN 0 4 0) 16) := List.mem_range.2 (by omega)
  exact absurd (List.flatMap_eq_nil_iff.1 empty 0 first) (by simp [bitsOf])

theorem wpOutBits_wpStarted (s : State) (op : Nat) : wpOutBits (wpStarted s op) = wpOutBits s := by
  have same {r : Rg} {i : Nat} (h : regAddr r i ≠ regAddr .WP_STAT 0) : rd (wpStarted s op) r i = rd s r i := rd_wb_ne _ _ _ _ _ _ _ h
  have data (j : Nat) : rn (wpStarted s op) .WP_TX j = rn s .WP_TX j := by
    rw [rn, same (by simp only [regAddr, regInfo]; omega), rn]
  simp only [wpOutBits, data, rf, same (show regAddr .WP_WLEN 0 ≠ regAddr .WP_STAT 0 by decide)]

/-- An XFER that skips the roll-call begins with its first write slot (R950). -/
theorem wpXferWrite_begins (long : rf s .WP_WLEN 0 4 0 ≠ 0) :
    wpXferWrite (wpStarted s 1) = wpBegin (setWp (wpStarted s 1) { (wpStarted s 1).wp with bits := wpOutBits s }) .write := by
  rw [← wpOutBits_wpStarted s 1]
  have bits : (wpOutBits (wpStarted s 1)).isEmpty = false := by
    rw [wpOutBits_wpStarted, List.isEmpty_eq_false_iff]
    exact wpOutBits_ne_nil long
  exact if_neg (by rw [show (List.range _).flatMap _ = wpOutBits (wpStarted s 1) from rfl, bits]; decide)

end Sys2Proof.Proofs
end

section
/-!
SUPPORT. The slots of a Waypost operation (R929-R933, R950, R952, R960): what the end of each leaves.
-/
namespace Sys2Proof.Proofs
open Sys2Proof.Machine Sys2Proof.Laws

variable {s u : State} {a b ea eb : Bool} {k : WpSlot}

/-! ## A read slot of an XFER -/

/-- The state with one more bit read, and the byte stored that it completes (R930, R931). -/
def wpGot (s : State) (a : Bool) : State :=
  let g := s.wp.got ++ [a]
  let t := setWp s { s.wp with got := g }
  if g.length % 8 = 0 then wr t .WP_RX (g.length / 8 - 1) (BitVec.ofNat 32 (ofBits (g.drop (g.length - 8)))) else t

theorem wpReadSlot_of_ne (differ : a ≠ b) : wpReadSlot s a b =
    if s.wp.got.length + 1 = 8 * wpReadLen (wpGot s a) then wpEnd (wpGot s a) 0 else wpBegin (wpGot s a) .read := by
  have high : (a && b) = false := by cases a <;> cases b <;> simp_all
  have low : (!a && !b) = false := by cases a <;> cases b <;> simp_all
  simp only [wpReadSlot, wpGot, high, low, Bool.false_eq_true, if_false, List.length_append, List.length_singleton]

theorem wpGot_wp : (wpGot s a).wp = { s.wp with got := s.wp.got ++ [a] } := by
  simp only [wpGot]
  split <;> simp

theorem wpReadLen_wpGot : wpReadLen (wpGot s a) = wpReadLen s := by
  have apart (j : Nat) : regAddr .WP_RLEN 0 ≠ regAddr .WP_RX j := by simp only [regAddr, regInfo]; omega
  simp only [wpReadLen, rf, wpGot]
  split
  · rw [rd_wr_ne _ _ _ _ _ _ (apart _), rd_setWp]
  · rw [rd_setWp]

theorem rd_rx_wpGot (whole : (s.wp.got.length + 1) % 8 = 0) : rd (wpGot s a) .WP_RX ((s.wp.got.length + 1) / 8 - 1) =
    BitVec.ofNat 32 (ofBits ((s.wp.got ++ [a]).drop (s.wp.got.length - 7))) := by
  have last : s.wp.got.length + 1 - 8 = s.wp.got.length - 7 := by omega
  simp [wpGot, whole, last]

theorem LeavesPins.wpGot (h : LeavesPins s u) (short : u.wp.got.length < 128) : LeavesPins s (wpGot u a) :=
  ite ((h.setWp _).wr (by simp only [regAddr, regInfo, List.length_append, List.length_singleton]; omega) _) (h.setWp _)

/-! ## An ID found -/

/-- The eight bytes of an ID stored (R952). -/
def wpIdStored (s : State) : State :=
  forN 8 s fun t j => wr t .WP_ID (8 * s.wp.found + j) (BitVec.ofNat 32 (s.wp.cur / 256 ^ j % 256))

/-- An ID marked as found, and its CRC as right or wrong (R952, R965). -/
def wpIdChecked (s : State) : State :=
  let t := wb (wpIdStored s) .WP_IDFOUND 0 s.wp.found true
  if wpCrc s.wp.cur = s.wp.cur % 256 then wb t .WP_IDCRC 0 s.wp.found true else count (wb t .WP_RESULT 0 4 true) .serial 0x8B

/-- An ID recorded whole, with the pass's variables for the next search (R952). -/
def wpRecorded (s : State) : State :=
  setWp (wr (wr (wpIdChecked s) .WP_IDCOUNT 0 (BitVec.ofNat 32 (s.wp.found + 1))) .WP_LASTDISC 0 (BitVec.ofNat 32 (s.wp.newlast.getD 0xFF)))
    { s.wp with found := s.wp.found + 1, prev := s.wp.cur, last := s.wp.newlast }

theorem wpFound_eq (s : State) : wpFound s = if s.wp.newlast.isNone then wpEnd (wpRecorded s) 0
    else if s.wp.found + 1 = 16 then wpEnd (wpRecorded s) 3 else wpRollAgain (wpRecorded s) := rfl

/-- Registers written in a row read what was written. -/
theorem rd_forN_wr (f : Nat → Quad) (m : Nat) {n j : Nat} (hj : j < n) :
    rd (forN n s fun t j => wr t .WP_ID (m + j) (f j)) .WP_ID (m + j) = f j := by
  induction n with
  | zero => omega
  | succ n ih =>
    simp only [forN, List.range_succ, List.foldl_append, List.foldl_cons, List.foldl_nil] at ih ⊢
    by_cases last : j = n
    · rw [last, rd_wr_same]
    · rw [rd_wr_ne _ _ _ _ _ _ (by simp only [regAddr, regInfo]; omega), ih (by omega)]

theorem LeavesPins.wpRecorded (h : LeavesPins s u) (few : u.wp.found < 16) : LeavesPins s (wpRecorded u) := by
  have stored : LeavesPins s (wpIdStored u) := h.foldl fun t j hj ht => ht.wr (by
    have := List.mem_range.1 hj
    simp only [regAddr, regInfo]
    omega) _
  have found := stored.wb (r := .WP_IDFOUND) (i := 0) (by decide) u.wp.found true
  have checked : LeavesPins s (wpIdChecked u) :=
    ite (found.wb (by decide) _ true) ((found.wb (r := .WP_RESULT) (i := 0) (by decide) 4 true).count _ _)
  exact ((checked.wr (by decide) _).wr (by decide) _).setWp _

/-- What an ID's recording stores (R952, R953). -/
theorem wpRecorded_reads (few : s.wp.found < 16) :
    (∀ j, j < 8 → rd (wpRecorded s) .WP_ID (8 * s.wp.found + j) = BitVec.ofNat 32 (s.wp.cur / 256 ^ j % 256)) ∧
    rb (wpRecorded s) .WP_IDFOUND 0 s.wp.found = true ∧ rd (wpRecorded s) .WP_IDCOUNT 0 = BitVec.ofNat 32 (s.wp.found + 1) ∧
    (wpCrc s.wp.cur = s.wp.cur % 256 → rb (wpRecorded s) .WP_IDCRC 0 s.wp.found = true) := by
  refine ⟨fun j hj => ?_, ?_, ?_, fun right => ?_⟩
  · rw [← rd_forN_wr (s := s) (fun j => BitVec.ofNat 32 (s.wp.cur / 256 ^ j % 256)) (8 * s.wp.found) hj]
    simp only [wpRecorded, wpIdChecked]
    split <;> simp (disch := ((try simp only [regAddr, regInfo]); omega)) [rd_wr_ne, rd_wb_ne, wpIdStored]
  · simp only [wpRecorded, wpIdChecked]
    split <;> simp (disch := ((try simp only [regAddr, regInfo]); omega)) [rb_wr_ne, rb_wb_ne, rb_wb_same]
  · simp (disch := ((try simp only [regAddr, regInfo]); omega)) [wpRecorded, rd_wr_ne]
  · simp only [wpRecorded, wpIdChecked, right, if_true]
    simp (disch := ((try simp only [regAddr, regInfo]); omega)) [rb_wr_ne, rb_wb_same]

/-- What follows an ID's recording writes WP_RESULT and WP_STAT only. -/
theorem rd_wpFound_ne {r : Rg} {i : Nat} (result : regAddr r i ≠ regAddr .WP_RESULT 0) (stat : regAddr r i ≠ regAddr .WP_STAT 0) :
    rd (wpFound s) r i = rd (wpRecorded s) r i := by
  rw [wpFound_eq]
  split
  · exact rd_wpEnd_ne result stat
  · split
    · exact rd_wpEnd_ne result stat
    · rw [wpRollAgain, rd_wpBegin]

theorem LeavesPins.wpFound (h : LeavesPins s u) (few : u.wp.found < 16) : LeavesPins s (wpFound u) :=
  have recorded := h.wpRecorded few
  ite (recorded.wpEnd 0) (ite (recorded.wpEnd 3) (recorded.wpBegin _))

/-! ## The end of a slot -/

/-- The state with the ties of a slot's samples counted (R253, R933). -/
def wpTied (s : State) (k : WpSlot) (a b : WpSample) : State :=
  let t := if (wpSampled k).1 then wpTie s a else s
  if (wpSampled k).2 then wpTie t b else t

theorem wpTie_eq (s : State) (c : WpSample) : ∃ x, wpTie s c = { s with xwait := x } := by
  rw [wpTie, count_serial]
  split
  · exact ⟨_, rfl⟩
  · exact ⟨s.xwait, rfl⟩

/-- Counting ties only sends reports to CORE. -/
theorem wpTied_eq (s : State) (k : WpSlot) (a b : WpSample) : ∃ x, wpTied s k a b = { s with xwait := x } := by
  have first : ∃ x, (if (wpSampled k).1 then wpTie s a else s) = { s with xwait := x } := by
    split
    · exact wpTie_eq s a
    · exact ⟨s.xwait, rfl⟩
  obtain ⟨x, first⟩ := first
  rw [wpTied, first]
  split
  · exact wpTie_eq { s with xwait := x } b
  · exact ⟨x, rfl⟩

theorem wpTied_leavesPins (s : State) (k : WpSlot) (a b : WpSample) : LeavesPins s (wpTied s k a b) := by
  obtain ⟨x, tied⟩ := wpTied_eq s k a b
  rw [tied]
  exact ⟨rfl, SameMemory.refl s, rfl, fun _ _ _ => rfl⟩

theorem wpTied_wp (s : State) (k : WpSlot) (a b : WpSample) : (wpTied s k a b).wp = s.wp := by
  obtain ⟨x, tied⟩ := wpTied_eq s k a b
  rw [tied]

theorem wpTied_io (s : State) (k : WpSlot) (a b : WpSample) : (wpTied s k a b).io = s.io := by
  obtain ⟨x, tied⟩ := wpTied_eq s k a b
  rw [tied]

theorem count_mem_wpTie {c : WpSample} (edge : c.edge = true) (wired : connected s .wpLine = true) : .count 0x08 1 ∈ xwaitOf (wpTie s c) 5 := by
  simp [wpTie, edge, wired]

/-- A tie of a sample that the slot takes, on a line that a pin carries, is counted (R253). -/
theorem count_mem_wpTied {c d : WpSample} (wired : connected s .wpLine = true)
    (tie : (c.edge = true ∧ (wpSampled k).1 = true) ∨ (d.edge = true ∧ (wpSampled k).2 = true)) : .count 0x08 1 ∈ xwaitOf (wpTied s k c d) 5 := by
  have keeps {t : State} (h : .count 0x08 1 ∈ xwaitOf t 5) : .count 0x08 1 ∈ xwaitOf (wpTie t d) 5 := by
    rw [wpTie, count_serial]
    split
    · rw [xwaitOf_send_same]
      exact List.mem_append_left _ h
    · exact h
  rcases tie with ⟨edge, sampled⟩ | ⟨edge, sampled⟩
  · simp only [wpTied, sampled, if_true]
    split
    · exact keeps (count_mem_wpTie edge wired)
    · exact count_mem_wpTie edge wired
  · simp only [wpTied, sampled, if_true]
    refine count_mem_wpTie edge ?_
    split
    · obtain ⟨x, tied⟩ := wpTie_eq s c
      rwa [tied]
    · exact wired

theorem exec_slotEnd (live : Live s .serial) (due : timerDue s tmrSlot = true) (here : s.wp.slot = some k) (a b : WpSample) :
    exec (.waypostSlotEnd a b) s =
      .next (wpSlotEnd (wpTied s k a b) (a.level || !(connected s .wpLine)) (b.level || !(connected s .wpLine))) := by
  show execWaypostSlotEnd a b s = _
  rw [execWaypostSlotEnd, liveIn_live live]
  simp [due, here, wpTied]

/-- With the line carried by a pin, a slot's end is what its samples say, on a state that differs by reports only. -/
theorem does_slotEnd {P : State → Prop} (live : Live s .serial) (due : timerDue s tmrSlot = true) (wired : connected s .wpLine = true)
    (here : s.wp.slot = some k) (h : ∀ u, LeavesPins s u → u.wp = s.wp → u.io = s.io → P (wpSlotEnd u a b)) :
    Does (.waypostSlotEnd ⟨a, ea⟩ ⟨b, eb⟩) s P := by
  have answer := exec_slotEnd live due here ⟨a, ea⟩ ⟨b, eb⟩
  simp only [wired, Bool.not_true, Bool.or_false] at answer
  exact Does.intro answer (h _ (wpTied_leavesPins ..) (wpTied_wp ..) (wpTied_io ..))

theorem wpSlotEnd_abort (here : u.wp.slot = some k) (abort : u.wp.abort = true) : wpSlotEnd u a b = wpEnd u 5 := by
  simp [wpSlotEnd, here, abort]

theorem wpSlotEnd_roll {f : Bool} (here : u.wp.slot = some (.roll f false)) (going : u.wp.abort = false) :
    wpSlotEnd u a b = wpRolled (if f then wb u .WP_STAT 0 4 true else u) (!a) := by
  cases f <;> simp [wpSlotEnd, here, going]

theorem wpSlotEnd_read (here : u.wp.slot = some .read) (going : u.wp.abort = false) : wpSlotEnd u a b = wpReadSlot u a b := by
  simp [wpSlotEnd, here, going]

theorem wpSlotEnd_tripRead (here : u.wp.slot = some .tripRead) (going : u.wp.abort = false) : wpSlotEnd u a b = wpTripRead u a b := by
  simp [wpSlotEnd, here, going]

theorem wpSlotEnd_tripConfirm (here : u.wp.slot = some .tripConfirm) (going : u.wp.abort = false) : wpSlotEnd u a b = wpConfirm u a := by
  simp [wpSlotEnd, here, going]

end Sys2Proof.Proofs
end

section
/-!
Chapters 02 and 18: the Waypost commands and what each slot of an operation ends with.
-/
namespace Sys2Proof.Proofs
open Sys2Proof.Machine Sys2Proof.Laws

variable {s : State} {req : Nat} {a b ea eb : Bool}

/-! ## Operations begin (R946, R949, R950, R952) -/

section
variable (may : MayWrite s req .WP_CTL 0)
include may

theorem exec_waypostReset : exec (.waypostReset req) s = .next (wpGoOp s [0, 3]) := writeReg_taken may fun s => wpGoOp s [0, 3]

theorem exec_waypostXfer : exec (.waypostXfer req) s = .next (wpGoOp s [1]) := writeReg_taken may fun s => wpGoOp s [1]

theorem exec_waypostPass : exec (.waypostPass req) s = .next (wpGoOp s [2]) := writeReg_taken may fun s => wpGoOp s [2]

theorem exec_waypostAbort : exec (.waypostAbort req) s = .next (wpAbort s) := writeReg_taken may wpAbort

theorem exec_waypostDisable : exec (.waypostDisable req) s = .next (wpDisable s) := writeReg_taken may wpDisable

end

theorem wpGoOp_selected {ops : List Nat} (code : rf s .WP_OP 0 1 0 ∈ ops) : wpGoOp s ops = wpGo s := by simp [wpGoOp, code]

theorem wpGoOp_busy (busy : rb s .WP_STAT 0 0 = true) (ops : List Nat) : wpGoOp s ops = s := by
  rw [wpGoOp, wpGo_busy busy, ite_self]

/-- What an XFER that skips the roll-call is in: its first write slot (R950). -/
theorem wpXferWrite_started (long : rf s .WP_WLEN 0 4 0 ≠ 0) : let t := wpXferWrite (wpStarted s 1)
    rb t .WP_STAT 0 0 = true ∧ t.wp.slot = some .write ∧ t.wp.bits = wpOutBits s ∧ timerOn t tmrSlot = true ∧ t.thr = s.thr ∧ SameMemory s t := by
  have kept := ((wpStarted_leavesPins s 1).setWp { (wpStarted s 1).wp with bits := wpOutBits s }).wpBegin .write
  rw [wpXferWrite_begins long]
  refine ⟨?_, rfl, rfl, timerOn_startTimer _ _ _, kept.thr, kept.memory⟩
  rw [rb_wpBegin, rb_setWp, wpStarted, rb_wb_same _ _ _ _ _ (by decide)]

/-- A pass begins with nothing found (R952). -/
theorem wpCleared_results (s : State) : let t := wpRoll (wpCleared s)
    rd t .WP_IDFOUND 0 = 0 ∧ rd t .WP_IDCRC 0 = 0 ∧ rd t .WP_IDCOUNT 0 = 0 := by
  refine ⟨?_, ?_, ?_⟩ <;>
    simp (disch := ((try simp only [regAddr, regInfo]); omega)) only [rd_wpRoll_ne, wpCleared, rd_wr_ne, rd_wr_same]

/-! ## Slots end -/

section
variable (live : Live s .serial) (due : timerDue s tmrSlot = true)
include live due

/-- An abort ends the operation with the slot in progress, whatever the samples; their ties are counted (R253, R960). -/
theorem slotEnd_abort {k : WpSlot} (here : s.wp.slot = some k) (abort : s.wp.abort = true) : Does (.waypostSlotEnd ⟨a, ea⟩ ⟨b, eb⟩) s fun t =>
    WpEnded s 5 t ∧ ((ea = true ∧ (wpSampled k).1 = true) ∨ (eb = true ∧ (wpSampled k).2 = true) → connected s .wpLine = true →
      .count 0x08 1 ∈ xwaitOf t 5) := by
  have answer := exec_slotEnd live due here ⟨a, ea⟩ ⟨b, eb⟩
  rw [wpSlotEnd_abort (by rwa [wpTied_wp]) (by rwa [wpTied_wp])] at answer
  refine Does.intro answer ⟨wpEnd_ended (wpTied_leavesPins ..) (by decide), fun tie wired => ?_⟩
  rw [xwaitOf_wpEnd]
  exact List.mem_append_left _ (count_mem_wpTied wired tie)

variable (wired : connected s .wpLine = true) (going : s.wp.abort = false)
include wired going

/-- The roll-call of a RESET ends it with PRESENT as its sample says (R932, R949). -/
theorem slotEnd_roll {f : Bool} (here : s.wp.slot = some (.roll f false)) (reset : s.wp.op = 0) : Does (.waypostSlotEnd ⟨a, ea⟩ ⟨b, eb⟩) s fun t =>
    WpEnded s (b01 a) t ∧ rb t .WP_STAT 0 1 = !a := by
  refine does_slotEnd live due wired here fun u kept wp _ => ?_
  have speed : LeavesPins s (if f then wb u .WP_STAT 0 4 true else u) := LeavesPins.ite (kept.wb (by decide) 4 true) kept
  have rolled := speed.wb (r := .WP_STAT) (i := 0) (by decide) 1 (!a)
  have op : (if f then wb u .WP_STAT 0 4 true else u).wp.op = 0 := by rw [← reset, ← wp]; split <;> simp
  have status : (if (!a) = true then 0 else 1) = b01 a := by cases a <;> rfl
  rw [wpSlotEnd_roll (wp ▸ here) (wp ▸ going), wpRolled, wb_wp, if_pos op, status]
  exact ⟨wpEnd_ended rolled (by cases a <;> decide), rb_present_wpEnd.trans (rb_wb_same _ _ _ _ _ (by decide))⟩

/-! A read slot of an XFER (R931, R950). -/

/-- Two equal samples are no bit. -/
theorem slotEnd_read_of_eq (here : s.wp.slot = some .read) (same : a = b) :
    Does (.waypostSlotEnd ⟨a, ea⟩ ⟨b, eb⟩) s (WpEnded s (if a then 6 else 7)) := by
  refine does_slotEnd live due wired here fun u kept wp _ => ?_
  rw [wpSlotEnd_read (wp ▸ here) (wp ▸ going), ← same]
  cases a
  case false => exact wpEnd_ended kept (by decide)
  case true => exact wpEnd_ended kept (by decide)

theorem slotEnd_read_more (here : s.wp.slot = some .read) (short : s.wp.got.length < 128) (differ : a ≠ b)
    (more : s.wp.got.length + 1 ≠ 8 * wpReadLen s) : Does (.waypostSlotEnd ⟨a, ea⟩ ⟨b, eb⟩) s fun t => t.wp = { s.wp with got := s.wp.got ++ [a] } ∧
      ((s.wp.got.length + 1) % 8 = 0 → rd t .WP_RX ((s.wp.got.length + 1) / 8 - 1) =
        BitVec.ofNat 32 (ofBits ((s.wp.got ++ [a]).drop (s.wp.got.length - 7)))) ∧ t.thr = s.thr ∧ SameMemory s t := by
  refine does_slotEnd live due wired here fun u kept wp io => ?_
  have length : wpReadLen u = wpReadLen s := by simp only [wpReadLen, rf, rd_io _ _ _ _ io]
  rw [← wp] at here going short more
  rw [← wp, wpSlotEnd_read here going, wpReadSlot_of_ne differ, wpReadLen_wpGot, length, if_neg more]
  have next := (kept.wpGot (a := a) short).wpBegin .read
  refine ⟨?_, fun whole => ?_, next.thr, next.memory⟩
  · simp only [wpBegin, startTimer_wp, setWp_wp, wpGot_wp, ← here]
  · rw [rd_wpBegin, rd_rx_wpGot whole]

theorem slotEnd_read_last (here : s.wp.slot = some .read) (short : s.wp.got.length < 128) (differ : a ≠ b)
    (last : s.wp.got.length + 1 = 8 * wpReadLen s) : Does (.waypostSlotEnd ⟨a, ea⟩ ⟨b, eb⟩) s (WpEnded s 0) := by
  refine does_slotEnd live due wired here fun u kept wp io => ?_
  have length : wpReadLen u = wpReadLen s := by simp only [wpReadLen, rf, rd_io _ _ _ _ io]
  rw [← wp] at here going short last
  rw [wpSlotEnd_read here going, wpReadSlot_of_ne differ, wpReadLen_wpGot, length, if_pos last]
  exact wpEnd_ended (kept.wpGot short) (by decide)

/-! The slots of a search triplet (R952). -/

theorem slotEnd_tripRead_vanished (here : s.wp.slot = some .tripRead) (first : a = true) (second : b = true) :
    Does (.waypostSlotEnd ⟨a, ea⟩ ⟨b, eb⟩) s (WpEnded s 2) := by
  refine does_slotEnd live due wired here fun u kept wp _ => ?_
  have vanishes : wpTripRead u a b = wpVanish u := by simp [wpTripRead, first, second]
  rw [wpSlotEnd_tripRead (wp ▸ here) (wp ▸ going), vanishes]
  exact wpVanish_ended kept

theorem slotEnd_tripRead_agreed (here : s.wp.slot = some .tripRead) (differ : a ≠ b) : Does (.waypostSlotEnd ⟨a, ea⟩ ⟨b, eb⟩) s fun t =>
    t.wp = { s.wp with slot := some .tripWrite, d := a } ∧ timerOn t tmrSlot = true ∧ t.thr = s.thr ∧ SameMemory s t := by
  refine does_slotEnd live due wired here fun u kept wp _ => ?_
  have both : (a && b) = false := by cases a <;> cases b <;> simp_all
  have agreed : wpTripRead u a b = wpBegin (setWp u { u.wp with d := a }) .tripWrite := by simp [wpTripRead, both, differ]
  have next := (kept.setWp { u.wp with d := a }).wpBegin .tripWrite
  rw [wpSlotEnd_tripRead (wp ▸ here) (wp ▸ going), agreed, ← wp]
  exact ⟨rfl, timerOn_startTimer _ _ _, next.thr, next.memory⟩

theorem slotEnd_tripRead_discrepant (here : s.wp.slot = some .tripRead) (first : a = false) (second : b = false) :
    Does (.waypostSlotEnd ⟨a, ea⟩ ⟨b, eb⟩) s fun t => t.wp.slot = some .tripWrite ∧
      t.wp.d = (match s.wp.last with | none => false | some l => if s.wp.i > l then nbit s.wp.prev s.wp.i else s.wp.i == l) ∧
      t.wp.newlast = (if t.wp.d then s.wp.newlast else some s.wp.i) ∧ t.thr = s.thr ∧ SameMemory s t := by
  refine does_slotEnd live due wired here fun u kept wp _ => ?_
  have next (w : Wp) := (kept.setWp w).wpBegin .tripWrite
  rw [wpSlotEnd_tripRead (wp ▸ here) (wp ▸ going), ← wp, first, second]
  exact ⟨rfl, rfl, rfl, (next _).thr, (next _).memory⟩

theorem slotEnd_tripConfirm_vanished (here : s.wp.slot = some .tripConfirm) (high : a = true) :
    Does (.waypostSlotEnd ⟨a, ea⟩ ⟨b, eb⟩) s (WpEnded s 2) := by
  refine does_slotEnd live due wired here fun u kept wp _ => ?_
  rw [wpSlotEnd_tripConfirm (wp ▸ here) (wp ▸ going), wpConfirm, if_pos high]
  exact wpVanish_ended kept

theorem slotEnd_tripConfirm_next (here : s.wp.slot = some .tripConfirm) (low : a = false) (more : s.wp.i ≠ 0) :
    Does (.waypostSlotEnd ⟨a, ea⟩ ⟨b, eb⟩) s fun t => t.wp = { s.wp with slot := some .tripRead, i := s.wp.i - 1 } ∧ t.thr = s.thr ∧ SameMemory s t := by
  refine does_slotEnd live due wired here fun u kept wp _ => ?_
  have next := (kept.setWp { u.wp with i := u.wp.i - 1 }).wpBegin .tripRead
  have goes : wpConfirm u a = wpBegin (setWp u { u.wp with i := u.wp.i - 1 }) .tripRead := by simp [wpConfirm, low, wp, more]
  rw [wpSlotEnd_tripConfirm (wp ▸ here) (wp ▸ going), goes, ← wp]
  exact ⟨rfl, next.thr, next.memory⟩

/-- The last confirm of a search finds an ID; the pass ends, is full, or calls the roll again (R952, R953). -/
theorem slotEnd_tripConfirm_found (here : s.wp.slot = some .tripConfirm) (low : a = false) (last : s.wp.i = 0) (few : s.wp.found < 16) :
    Does (.waypostSlotEnd ⟨a, ea⟩ ⟨b, eb⟩) s fun t =>
      (∀ j, j < 8 → rd t .WP_ID (8 * s.wp.found + j) = BitVec.ofNat 32 (s.wp.cur / 256 ^ j % 256)) ∧ rb t .WP_IDFOUND 0 s.wp.found = true ∧
      rd t .WP_IDCOUNT 0 = BitVec.ofNat 32 (s.wp.found + 1) ∧ (wpCrc s.wp.cur = s.wp.cur % 256 → rb t .WP_IDCRC 0 s.wp.found = true) ∧
      (s.wp.newlast = none → WpEnded s 0 t) ∧ (s.wp.newlast ≠ none → s.wp.found + 1 < 16 → ∃ q, t.wp.slot = some (.roll q false)) ∧
      (s.wp.newlast ≠ none → s.wp.found + 1 = 16 → WpEnded s 3 t) ∧ t.thr = s.thr ∧ SameMemory s t := by
  refine does_slotEnd live due wired here fun u kept wp _ => ?_
  rw [← wp] at here going last few
  have finds : wpConfirm u a = wpFound u := by simp [wpConfirm, low, last]
  obtain ⟨id, found, number, crc⟩ := wpRecorded_reads few
  have recorded := kept.wpRecorded few
  have branches (more : u.wp.newlast ≠ none) : u.wp.newlast.isNone = false := by
    rwa [← Bool.not_eq_true, Option.isNone_iff_eq_none]
  have next := kept.wpFound few
  rw [← wp, wpSlotEnd_tripConfirm here going, finds]
  refine ⟨fun j hj => ?_, ?_, ?_, fun right => ?_, fun done => ?_, fun more room => ?_, fun more full => ?_, next.thr, next.memory⟩
  · rw [rd_wpFound_ne (by simp only [regAddr, regInfo]; omega) (by simp only [regAddr, regInfo]; omega), id j hj]
  · rw [rb, rd_wpFound_ne (by decide) (by decide), ← rb, found]
  · rw [rd_wpFound_ne (by decide) (by decide), number]
  · rw [rb, rd_wpFound_ne (by decide) (by decide), ← rb, crc right]
  · rw [wpFound_eq, done]
    exact wpEnd_ended recorded (by decide)
  · have notFull : u.wp.found + 1 ≠ 16 := by omega
    rw [wpFound_eq, branches more, if_neg Bool.false_ne_true, if_neg notFull]
    exact ⟨_, rfl⟩
  · rw [wpFound_eq, branches more, if_neg Bool.false_ne_true, if_pos full]
    exact wpEnd_ended recorded (by decide)

end

/-- Where no pin carries the line, the samples' levels do not matter (R62). -/
theorem exec_slotEnd_unconnected (live : Live s .serial) (bare : connected s .wpLine = false) :
    exec (.waypostSlotEnd ⟨a, ea⟩ ⟨b, eb⟩) s = exec (.waypostSlotEnd ⟨true, ea⟩ ⟨true, eb⟩) s := by
  show execWaypostSlotEnd _ _ s = execWaypostSlotEnd _ _ s
  simp only [execWaypostSlotEnd, liveIn_live live, bare, Bool.not_false, Bool.or_true, wpTie]

/-! ## Disturbances, SHORT, ABORT, the clear of EN (R934, R935, R960, R961) -/

/-- An idle enabled bus that is disturbed, or held low, is slow and marked as changed. -/
theorem wb_changed_slow (s : State) : let t := wb (wb s .WP_STAT 0 2 true) .WP_STAT 0 4 false
    rb t .WP_STAT 0 2 = true ∧ rb t .WP_STAT 0 4 = false ∧ LeavesPins s t :=
  ⟨by rw [rb_wb_other _ _ _ _ _ _ (by decide) (by decide), rb_wb_same _ _ _ _ _ (by decide)], rb_wb_same _ _ _ _ _ (by decide),
    ((LeavesPins.refl s).wb (by decide) 2 true).wb (by decide) 4 false⟩

section
variable (live : Live s .serial) (wired : connected s .wpLine = true)
include live wired

theorem exec_waypostDisturbance : exec .waypostDisturbance s = .next (wpDisturb s) := by
  show execWaypostDisturbance s = _
  rw [execWaypostDisturbance, liveIn_live live, if_pos wired]

theorem exec_waypostShort : exec .waypostShort s = .next (wpShort s) := by
  show execWaypostShort s = _
  rw [execWaypostShort, liveIn_live live, if_pos wired]

theorem disturbance_in_slot (busy : s.wp.slot ≠ none) : Does .waypostDisturbance s fun t =>
    t.wp = { s.wp with changed := true } ∧ rb t .WP_RESULT 0 3 = true ∧ rb t .WP_STAT 0 2 = true ∧ t.thr = s.thr ∧ SameMemory s t := by
  have some : s.wp.slot.isSome = true := Option.isSome_iff_ne_none.2 busy
  have kept := ((((LeavesPins.refl s).setWp { s.wp with changed := true }).wb (r := .WP_RESULT) (i := 0) (by decide) 3 true).wb
    (r := .WP_STAT) (i := 0) (by decide) 2 true).send 5 (.count 0x88 1)
  refine Does.intro (exec_waypostDisturbance live wired) ?_
  rw [wpDisturb, if_pos some, count_serial]
  refine ⟨by simp, ?_, ?_, kept.thr, kept.memory⟩ <;> rw [rb_send]
  · rw [rb_wb_ne _ _ _ _ _ _ _ _ (by decide), rb_wb_same _ _ _ _ _ (by decide)]
  · rw [rb_wb_same _ _ _ _ _ (by decide)]

theorem disturbance_idle (idle : s.wp.slot = none) (enabled : rb s .WP_CTL 0 0 = true) : Does .waypostDisturbance s fun t =>
    t.wp = s.wp ∧ rb t .WP_STAT 0 2 = true ∧ rb t .WP_STAT 0 4 = false ∧ t.thr = s.thr ∧ SameMemory s t := by
  obtain ⟨changed, slow, kept⟩ := wb_changed_slow s
  have counted := kept.send 5 (.count 0x89 1)
  have raised := counted.send 5 (.edge 89)
  refine Does.intro (exec_waypostDisturbance live wired) ?_
  simp only [wpDisturb, idle, Option.isSome_none, Bool.false_eq_true, if_false, enabled, if_true, count_serial, raise_serial]
  split
  · exact ⟨by simp, changed, slow, raised.thr, raised.memory⟩
  · exact ⟨by simp, changed, slow, counted.thr, counted.memory⟩

theorem short_in_slot (busy : s.wp.slot ≠ none) : Does .waypostShort s (WpEnded s 4) := by
  have some : s.wp.slot.isSome = true := Option.isSome_iff_ne_none.2 busy
  refine Does.intro (exec_waypostShort live wired) ?_
  rw [wpShort, if_pos some]
  exact wpEnd_ended ((LeavesPins.refl s).count _ _) (by decide)

theorem short_idle (idle : s.wp.slot = none) (enabled : rb s .WP_CTL 0 0 = true) : Does .waypostShort s fun t =>
    t.wp = s.wp ∧ rb t .WP_STAT 0 2 = true ∧ .count 0x8C 1 ∈ xwaitOf t 5 ∧ t.thr = s.thr ∧ SameMemory s t := by
  obtain ⟨changed, _, kept⟩ := wb_changed_slow s
  have counted := kept.send 5 (.count 0x8C 1)
  refine Does.intro (exec_waypostShort live wired) ?_
  simp only [wpShort, idle, Option.isSome_none, Bool.false_eq_true, if_false, enabled, if_true, count_serial]
  exact ⟨by simp, changed, by simp, counted.thr, counted.memory⟩

end

/-- A clear of EN aborts the operation in progress (R961). -/
theorem wpDisable_effects (s : State) : let t := wpDisable s
    rb t .WP_CTL 0 0 = false ∧ (s.wp.slot ≠ none → t.wp.abort = true) ∧ t.wp.slot = s.wp.slot ∧ t.thr = s.thr ∧ SameMemory s t := by
  have kept : LeavesPins s (wpDisable s) := (LeavesPins.ite ((LeavesPins.refl s).setWp _) (.refl s)).wb (by decide) 0 false
  refine ⟨rb_wb_same _ _ _ _ _ (by decide), fun busy => ?_, ?_, kept.thr, kept.memory⟩
  · have some : s.wp.slot.isSome = true := Option.isSome_iff_ne_none.2 busy
    simp [wpDisable, wpAbort, some]
  · rw [wpDisable, wb_wp, wpAbort]
    split <;> simp

/-- Settles O50: each command answers the controller's own operation on the state, and each slot's end is a law of its own. -/
theorem waypostEffects : Obligations.WaypostEffects := by
  intro s req a b ea eb live
  refine ⟨?begin, ?busy, ?abort, exec_slotEnd_unconnected live, ?slots, ?disturbed, ?disturbedIdle, ?short, ?shortIdle, ?abortWrite, ?disable⟩
  case begin =>
    intro may idle enabled free
    refine ⟨fun code => ?reset, fun code roll => ?xfer, fun code skip long => ?xferSkip, fun code => ?pass⟩
    case reset =>
      refine Does.intro (exec_waypostReset may) ?_
      rw [wpGoOp_selected (by simpa using code), wpGo_reset idle enabled free code]
      exact wpStarted_rolling s 0
    case xfer =>
      refine Does.intro (exec_waypostXfer may) ?_
      rw [wpGoOp_selected (by simp [code]), wpGo_xfer idle enabled free code, roll, if_neg Bool.false_ne_true]
      exact wpStarted_rolling s 1
    case xferSkip =>
      refine Does.intro (exec_waypostXfer may) ?_
      rw [wpGoOp_selected (by simp [code]), wpGo_xfer idle enabled free code, if_pos skip]
      exact wpXferWrite_started long
    case pass =>
      refine Does.intro (exec_waypostPass may) ?_
      rw [wpGoOp_selected (by simp [code]), wpGo_pass idle enabled free code]
      exact ⟨wpCleared_rolling s, wpCleared_results s⟩
  case busy =>
    intro may busy
    rw [exec_waypostReset may, exec_waypostXfer may, exec_waypostPass may]
    simp only [wpGoOp_busy busy, and_self]
  case abort =>
    intro due busy abort
    obtain ⟨k, here⟩ := Option.ne_none_iff_exists'.1 busy
    refine Does.mono (slotEnd_abort live due here abort) fun t ht => ?_
    obtain ⟨ended, counted⟩ := ht
    refine ⟨ended, fun k' here' => ?_⟩
    obtain rfl : k' = k := Option.some_inj.1 (here'.symm.trans here)
    exact counted
  case slots =>
    intro wired due going
    refine ⟨fun f here reset => slotEnd_roll live due wired going here reset, fun here short => ⟨?_, ?_, ?_⟩,
      fun here => ⟨?_, ?_, ?_⟩, fun here => ⟨?_, ?_, ?_⟩⟩
    · exact slotEnd_read_of_eq live due wired going here
    · exact slotEnd_read_more live due wired going here short
    · exact slotEnd_read_last live due wired going here short
    · exact slotEnd_tripRead_vanished live due wired going here
    · exact slotEnd_tripRead_agreed live due wired going here
    · exact slotEnd_tripRead_discrepant live due wired going here
    · exact slotEnd_tripConfirm_vanished live due wired going here
    · exact slotEnd_tripConfirm_next live due wired going here
    · exact slotEnd_tripConfirm_found live due wired going here
  case disturbed => exact disturbance_in_slot live
  case disturbedIdle => exact disturbance_idle live
  case short => exact short_in_slot live
  case shortIdle => exact short_idle live
  case abortWrite =>
    intro may
    exact exec_waypostAbort may
  case disable =>
    intro may
    exact Does.intro (exec_waypostDisable may) (wpDisable_effects s)

end Sys2Proof.Proofs
end

section
/-!
SUPPORT. What leaves the registers of the device as a whole as they are (modes, clocks, Tollgate, NV store, pins, RTC, debug), with every thread,
memory and mode: reports to CORE, the looks of the UARTs and of USB, the LED generators, the checks of the books.
-/
namespace Sys2Proof.Proofs
open Sys2Proof.Machine Sys2Proof.Laws

/-- The addresses of the registers of modes, clocks and the Tollgate (chapters 03, 04, 08), and of the NV store, the pins, the RTC and debug
(chapters 20, 02, 03, 21); of these only such as are no counter's by `NotCounterReg`, which bounds no counter's number. -/
abbrev SystemAddr (a : Nat) : Prop :=
  (0x400 ≤ a ∧ a < 0x600) ∨ (0x3A80 ≤ a ∧ a < 0x4000 ∧ a % 0x20 ≠ 3 ∧ a % 0x20 ≠ 4)

/-- From `s` to `t` nothing differs but what units keep and show: of the stored registers none at a system address. -/
structure LeavesSystem (s t : State) : Prop where
  others : t = { s with io := t.io, icu := t.icu, ctr := t.ctr, xwait := t.xwait, timers := t.timers, armed := t.armed, led := t.led,
                        pp := t.pp, uart := t.uart, usb := t.usb, mover := t.mover, slot := t.slot, spi := t.spi }
  io : ∀ (d : Nat → Quad) (a : Nat), SystemAddr a → mget d t.io a = mget d s.io a

namespace LeavesSystem

variable {s t u : State}

theorem refl (s : State) : LeavesSystem s s := ⟨rfl, fun _ _ _ => rfl⟩

theorem trans (h : LeavesSystem s t) (k : LeavesSystem t u) : LeavesSystem s u where
  others := k.others.trans (by rw [h.others])
  io d a ha := (k.io d a ha).trans (h.io d a ha)

theorem ite (h : LeavesSystem s t) (k : LeavesSystem s u) {p : Prop} [Decidable p] : LeavesSystem s (if p then t else u) := by
  split
  · exact h
  · exact k

theorem foldl {α : Type} {f : State → α → State} {l : List α} (h : LeavesSystem s t)
    (hf : ∀ u x, LeavesSystem s u → LeavesSystem s (f u x)) : LeavesSystem s (l.foldl f t) := by
  induction l generalizing t with
  | nil => exact h
  | cons x l ih => exact ih (hf t x h)

theorem dev (h : LeavesSystem s t) : t.dev = s.dev := by rw [h.others]

theorem thr (h : LeavesSystem s t) : t.thr = s.thr := by rw [h.others]

theorem sameMemory (h : LeavesSystem s t) : SameMemory s t := by rw [h.others]; exact SameMemory.refl s

theorem rd (h : LeavesSystem s t) {r : Rg} {i : Nat} (ha : SystemAddr (regAddr r i)) : rd t r i = rd s r i := h.io _ _ ha

theorem rb (h : LeavesSystem s t) {r : Rg} {i : Nat} (ha : SystemAddr (regAddr r i)) (b : Nat) : rb t r i b = rb s r i b := by
  rw [Machine.rb, h.rd ha, Machine.rb]

theorem rf (h : LeavesSystem s t) {r : Rg} {i : Nat} (ha : SystemAddr (regAddr r i)) (hi lo : Nat) : rf t r i hi lo = rf s r i hi lo := by
  rw [Machine.rf, h.rd ha, Machine.rf]

theorem inRun (h : LeavesSystem s t) : inRun t = inRun s := by
  rw [Machine.inRun, h.rf (by decide), Machine.inRun]

/-! ## One part of the state replaced -/

theorem wr (h : LeavesSystem s t) {r : Rg} {i : Nat} (apart : ¬ SystemAddr (regAddr r i)) (v : Quad) : LeavesSystem s (wr t r i v) :=
  h.trans ⟨rfl, fun d _ ha => mget_wr_io_ne t d v fun same => apart (same ▸ ha)⟩

theorem wb (h : LeavesSystem s t) {r : Rg} {i : Nat} (apart : ¬ SystemAddr (regAddr r i)) (b : Nat) (x : Bool) : LeavesSystem s (wb t r i b x) :=
  h.wr apart _

theorem wf (h : LeavesSystem s t) {r : Rg} {i : Nat} (apart : ¬ SystemAddr (regAddr r i)) (hi lo x : Nat) :
    LeavesSystem s (wf t r i hi lo x) := h.wr apart _

theorem send (h : LeavesSystem s t) (c : Nat) (x : Xfer) : LeavesSystem s (send t c x) := h.trans ⟨rfl, fun _ _ _ => rfl⟩

theorem startTimer (h : LeavesSystem s t) (k n : Nat) : LeavesSystem s (startTimer t k n) := h.trans ⟨rfl, fun _ _ _ => rfl⟩

theorem stopTimer (h : LeavesSystem s t) (k : Nat) : LeavesSystem s (stopTimer t k) := h.trans ⟨rfl, fun _ _ _ => rfl⟩

theorem setLedger (h : LeavesSystem s t) (l : Ledger) : LeavesSystem s { t with led := l } := h.trans ⟨rfl, fun _ _ _ => rfl⟩

theorem setPp (h : LeavesSystem s t) (x : Paper) : LeavesSystem s (setPp t x) := h.trans ⟨rfl, fun _ _ _ => rfl⟩

theorem setUart (h : LeavesSystem s t) (n : Nat) (x : Uart) : LeavesSystem s (setUart t n x) := h.trans ⟨rfl, fun _ _ _ => rfl⟩

theorem setUsb (h : LeavesSystem s t) (x : Usb) : LeavesSystem s (setUsb t x) := h.trans ⟨rfl, fun _ _ _ => rfl⟩

theorem setSpi (h : LeavesSystem s t) (x : Spi) : LeavesSystem s (setSpi t x) := h.trans ⟨rfl, fun _ _ _ => rfl⟩

theorem setSlot (h : LeavesSystem s t) (u : Nat) (x : Option Slot) : LeavesSystem s (setSlot t u x) := h.trans ⟨rfl, fun _ _ _ => rfl⟩

theorem setMover (h : LeavesSystem s t) (c i : Nat) (m : Option Mover) : LeavesSystem s (setMover t c i m) :=
  h.trans ⟨rfl, fun _ _ _ => rfl⟩

/-! ## Reports to CORE -/

theorem counted (h : LeavesSystem s t) (k : CountsOnly t u) : LeavesSystem s u := by
  refine h.trans ⟨?_, fun d a ha => k.io d a fun n => ?_⟩
  · exact k.others.trans (by rw [k.others])
  · simp only [SystemAddr, regAddr, regInfo] at ha ⊢
    omega

theorem count (h : LeavesSystem s t) (i : Island) (code : Nat) : LeavesSystem s (count t i code) :=
  ite (h.counted (countsOnly_occur t code 1)) (h.send _ _)

theorem raise (h : LeavesSystem s t) (i : Island) (src : Nat) : LeavesSystem s (raise t i src) :=
  ite (h.counted (countsOnly_latchEdge t src)) (h.send _ _)

/-! ## States of units and the entries they hold -/

theorem setUnit (h : LeavesSystem s t) {u : Nat} (apart : ¬ SystemAddr (regAddr (unitReg u).1 (unitReg u).2)) (m d : Nat) :
    LeavesSystem s (setUnit t u m d) := by
  have shown := h.wr apart (BitVec.ofNat 32 (m + 4 * d + 16 * b01 (agreeOf m d)))
  have agreed {p : Prop} [Decidable p] (c : Nat) (x : Xfer) := ite (p := p) shown (shown.send c x)
  unfold Machine.setUnit
  dsimp only
  split
  · exact h
  · split
    · exact (agreed _ _).raise _ _
    · exact agreed _ _

theorem follow (h : LeavesSystem s t) {u : Nat} (apart : ¬ SystemAddr (regAddr (unitReg u).1 (unitReg u).2)) (active : Bool) :
    LeavesSystem s (follow t u active) := ite (h.setUnit apart _ _) h

theorem endSlot (h : LeavesSystem s t) (u status : Nat) : LeavesSystem s (endSlot t u status) := by
  unfold Machine.endSlot slotComplete
  split
  · split
    · exact h
    · exact ((h.setSlot u none).setMover _ _ none).send _ _
  · exact h

theorem moverAsk (h : LeavesSystem s t) (c i : Nat) : LeavesSystem s (moverAsk t c i) := by
  unfold Machine.moverAsk
  split
  · exact h
  · dsimp only
    exact ite h ((h.setMover c i _).foldl fun _ _ hu => hu.send _ _)

theorem moverTake (h : LeavesSystem s t) (c i n : Nat) : LeavesSystem s (moverTake t c i n).2.2 := by
  unfold Machine.moverTake
  split
  · exact h
  · exact h.setMover c i _

theorem unitSend (h : LeavesSystem s t) (c i : Nat) (l : List (Nat × Nat)) (o : Nat) (bs : List Byte) :
    LeavesSystem s (unitSend t c i l o bs) := by
  unfold Machine.unitSend
  generalize fragPieces l o bs.length = pieces
  induction pieces generalizing t bs with
  | nil => exact h
  | cons p pieces ih => exact ih (h.send _ _) _

/-! ## UARTs -/

/-- The registers of a UART that its FIFOs move are no system registers. -/
theorem uartApart {r : Rg} (hr : r = .UART_RXCNT ∨ r = .UART_TXCNT ∨ r = .UART_STAT ∨ r = .UART_CTL) {n : Nat} (hn : n < 2) :
    ¬ SystemAddr (regAddr r n) := by
  rcases hr with rfl | rfl | rfl | rfl <;> simp only [SystemAddr, regAddr, regInfo] <;> omega

theorem uartShow (h : LeavesSystem s t) {n : Nat} (hn : n < 2) : LeavesSystem s (uartShow t n) := by
  have shown (u : Uart) (rx tx : Quad) (b : Nat) (x : Bool) :=
    (((h.setUart n u).wr (uartApart (by simp) hn) (r := .UART_RXCNT) rx).wr (uartApart (by simp) hn) (r := .UART_TXCNT) tx).wb
      (uartApart (by simp) hn) (r := .UART_STAT) b x
  exact ite ((shown _ _ _ _ _).raise _ _) (shown _ _ _ _ _)

theorem uartFill (h : LeavesSystem s t) (n : Nat) : LeavesSystem s (uartFill t n) := by
  unfold Machine.uartFill
  split
  · exact h
  · next x _ =>
    have taken := h.moverTake x.chan x.e.idx (16 - (uartOf t n).tx.length)
    have asked (u : Uart) (y : Option Slot) := ((taken.setUart n u).setSlot (10 + 2 * n) y).moverAsk x.chan x.e.idx
    exact ite h (ite ((asked _ _).endSlot _ _) (ite ((asked _ _).endSlot _ _) (asked _ _)))

theorem uartGo (h : LeavesSystem s t) {n : Nat} (hn : n < 2) : LeavesSystem s (uartGo t n) := by
  have filled := h.uartFill n
  have begun (u : Uart) := filled.setUart n u
  unfold Machine.uartGo
  dsimp only
  split
  · exact ite (filled.uartShow hn) (((ite ((begun _).raise _ _) (begun _)).uartFill n).uartShow hn)
  · exact filled.uartShow hn

theorem uartDrain1 (h : LeavesSystem s t) (n : Nat) : LeavesSystem s (uartDrain1 t n) := by
  unfold Machine.uartDrain1
  dsimp only
  split
  · next item rest x _ _ =>
    have popped (u : Uart) := h.setUart n u
    have stored (u : Uart) (b : Byte) (y : Option Slot) := ((popped u).unitSend x.chan x.e.idx x.e.frags x.moved [b]).setSlot (9 + 2 * n) y
    cases item with
    | good b => exact ite ((stored _ b _).endSlot _ _) (ite ((stored _ b _).endSlot _ _) (stored _ b _))
    | bad b => exact ite ((stored _ b _).endSlot _ _) (ite ((stored _ b _).endSlot _ _) (stored _ b _))
    | lost => exact (popped _).endSlot _ _
    | brk => exact (popped _).endSlot _ _
  · exact h

theorem uartDrain (h : LeavesSystem s t) (n : Nat) : LeavesSystem s (uartDrain t n) :=
  ite h (h.foldl fun _ _ hu => hu.uartDrain1 n)

/-- A UART is enabled: no EN is cleared. -/
theorem uartCtl_enable (h : LeavesSystem s t) : LeavesSystem s (uartCtl t 0 1) := by
  have written := h.wf (r := .UART_CTL) (i := 0) (by decide) 6 0 (fld 1 6 0)
  have enabled {p : Prop} [Decidable p] (m d : Nat) := ite (p := p) (written.setUnit (u := 7) (by decide) m d) written
  have kept : (Machine.rb t .UART_CTL 0 0 && !((1 : Quad).getLsbD 0)) = false := by simp
  unfold Machine.uartCtl
  simp only [kept, Bool.false_eq_true, if_false]
  exact (((enabled _ _).follow (u := 7) (by decide) _).uartDrain 0).uartGo (by decide)

/-! ## USB -/

theorem usbHeard (h : LeavesSystem s t) : LeavesSystem s (usbHeard t) := ite ((ite (h.count _ _) h).startTimer _ _) h

theorem usbShow (h : LeavesSystem s t) : LeavesSystem s (usbShow t) := by
  have followed (active : Bool) := h.follow (u := 5) (by decide) active
  exact ite ((followed _).stopTimer _) (ite (followed _) (followed _).usbHeard)

/-- The USB device is enabled and connected: no EN is cleared. -/
theorem usbCtl_connect (h : LeavesSystem s t) : LeavesSystem s (usbCtl t 3) := by
  have written (x : Usb) := (h.wf (r := .USB_CTL) (i := 0) (by decide) 1 0 (fld 3 1 0)).setUsb x
  have kept : (Machine.rb t .USB_CTL 0 0 && !((3 : Quad).getLsbD 0)) = false := by simp
  unfold Machine.usbCtl
  simp only [kept, Bool.false_eq_true, if_false]
  exact (ite ((written _).setUnit (u := 5) (by decide) _ _) (written _)).usbShow

/-! ## LED generators and the SAFE feed sequencer -/

theorem ledStart (h : LeavesSystem s t) (k : Nat) : LeavesSystem s (ledStart t k) := by
  have set (x : LedGen) : LeavesSystem s (Machine.setLed t k x) := h.setPp _
  unfold Machine.ledStart
  split
  · exact (set _).stopTimer _
  · exact (set _).startTimer _ _
  · exact ite ((set _).startTimer _ _) ((set _).startTimer _ _)
  · exact (set _).stopTimer _

theorem ledSet (h : LeavesSystem s t) (mode on off cnt rep : Nat) : LeavesSystem s (ledSet t mode on off cnt rep) :=
  (((((h.wr (by decide) _).wr (by decide) _).wr (by decide) _).wr (by decide) _).wr (by decide) _).ledStart 0

theorem statShow (h : LeavesSystem s t) : LeavesSystem s (statShow t) := by
  unfold Machine.statShow
  split
  · exact h
  · split
    · exact h
    all_goals exact h.ledSet ..

theorem safeStop (h : LeavesSystem s t) : LeavesSystem s (safeStop t) := ite (((h.setPp _).startTimer _ _).stopTimer _) h

/-! ## The SPI port -/

theorem spiShow (h : LeavesSystem s t) : LeavesSystem s (spiShow t) := by
  have shown (x y : Bool) := (h.wb (r := .SPI_STAT) (i := 0) (by decide) 0 x).wb (r := .SPI_STAT) (i := 0) (by decide) 1 y
  exact ite ((shown _ _).raise _ _) (shown _ _)

theorem spiStandby (h : LeavesSystem s t) : LeavesSystem s (spiStandby t) := by
  unfold Machine.spiStandby
  split
  · exact ((h.stopTimer _).setSpi _).spiShow
  · exact h

/-! ## The checks of the books -/

theorem imbRecord (h : LeavesSystem s t) (b kind : Nat) : LeavesSystem s (imbRecord t b kind) :=
  ite ((h.setLedger _).wr (by decide) _) (ite (h.wr (by decide) _) (h.wr (by decide) _))

theorem imbalance (h : LeavesSystem s t) (b kind : Nat) : LeavesSystem s (imbalance t b kind) := by
  have marked := (((h.imbRecord b kind).wb (r := .LED_FAILED) (i := 0) (by decide) b true).wb (r := .LED_STAT) (i := 0) (by decide) 0 true).wb
    (r := .LED_STAT) (i := 0) (by decide) 1 true
  have told (l : Ledger) := ((marked.setLedger l).count .fabric 0x2E).raise .fabric 57
  exact ite ((told _).send _ _) (told _)

theorem checkBook (h : LeavesSystem s t) (b : Nat) : LeavesSystem s (checkBook t b) := by
  have passed (l : Ledger) := (h.setLedger l).wb (r := .LED_BAL) (i := 0) (by decide) b true
  exact ite h (ite (h.imbalance b 0) (ite (h.imbalance b 1) (passed _)))

theorem closeBooks (h : LeavesSystem s t) : LeavesSystem s (closeBooks t) :=
  h.foldl fun _ _ hu => ite (ite hu (hu.imbalance _ 0)) (hu.checkBook _)

end LeavesSystem
end Sys2Proof.Proofs
end

section
/-!
Chapters 03 and 04: the clocks coming up and failing (R141, R142, R222, R254-R258).
-/
namespace Sys2Proof.Proofs
open Sys2Proof.Machine Sys2Proof.Laws

variable {s t u : State}

theorem whenOut_taken (out : outOfReset s = true) (f : State → State) : whenOut s f = .next (f s) := by
  rw [whenOut, if_pos out]

@[simp] theorem rd_setDev (s : State) (d : Dev) (r : Rg) (i : Nat) : rd (setDev s d) r i = rd s r i := rfl

@[simp] theorem rb_setDev (s : State) (d : Dev) (r : Rg) (i b : Nat) : rb (setDev s d) r i b = rb s r i b := rfl

/-! ## Clocks coming up -/

/-- What the ROM does for its ports leaves everything of the mode machine but `portsUp` as it is (R147). -/
theorem portsLook_leavesSystem (s : State) : ∃ up, LeavesSystem (setDev s { s.dev with portsUp := up }) (portsLook s) := by
  unfold portsLook
  split
  · exact ⟨s.dev.portsUp, .refl s⟩
  · exact ⟨true, (LeavesSystem.refl _).uartCtl_enable.usbCtl_connect⟩

/-- From `s` to `t` the clock status is as it was, and so are threads and memories and which PLL the islands run from. -/
structure ClocksStay (s t : State) : Prop where
  stat : rd t .CLK_STAT 0 = rd s .CLK_STAT 0
  onA : t.dev.onA = s.dev.onA
  onB : t.dev.onB = s.dev.onB
  thr : t.thr = s.thr
  memory : SameMemory s t

theorem portsLook_clocksStay (s : State) : ClocksStay s (portsLook s) := by
  obtain ⟨up, kept⟩ := portsLook_leavesSystem s
  exact ⟨kept.rd (by decide), by rw [kept.dev, setDev_dev], by rw [kept.dev, setDev_dev], kept.thr, kept.sameMemory⟩

/-- A PLL that is enabled and has the crystal shows LOCK once it locks (R141). -/
theorem pllLocks_locks {pll : Nat} (three : pll < 3) (enabled : rb s .CLK_CTL 0 pll = true) (crystal : rb s .CLK_STAT 0 0 = true) :
    let t := pllLocks s pll
    rb t .CLK_STAT 0 (1 + pll) = true ∧ t.thr = s.thr ∧ SameMemory s t := by
  have locked : rb (wb s .CLK_STAT 0 (1 + pll) true) .CLK_STAT 0 (1 + pll) = true := rb_wb_same _ _ _ _ _ (by omega)
  have shown (d : Dev) : rb (showOnPll (setDev (wb s .CLK_STAT 0 (1 + pll) true) d)) .CLK_STAT 0 (1 + pll) = true :=
    ((rb_wb_other _ _ _ _ _ _ (by decide) (by omega)).trans (rb_setDev ..)).trans locked
  have ported (u : State) (bit : rb u .CLK_STAT 0 (1 + pll) = true) (threads : u.thr = s.thr) (memories : SameMemory s u) :
      rb (portsLook u) .CLK_STAT 0 (1 + pll) = true ∧ (portsLook u).thr = s.thr ∧ SameMemory s (portsLook u) := by
    have stay := portsLook_clocksStay u
    exact ⟨by rw [rb, stay.stat]; exact bit, stay.thr.trans threads, SameMemory.trans memories stay.memory⟩
  cases before : rb s .CLK_STAT 0 (1 + pll)
  case true =>
    rw [show pllLocks s pll = s by simp only [pllLocks, before, or_true, if_true]]
    exact ⟨before, rfl, SameMemory.refl s⟩
  case false =>
    simp only [pllLocks, enabled, crystal, before, Bool.true_eq_false, Bool.false_eq_true, or_self, if_false]
    split
    · exact ported _ (shown _) rfl (wr_memory ..)
    · split
      · exact ported _ (shown _) rfl (wr_memory ..)
      · exact ported _ locked rfl (wr_memory ..)

/-- SWITCH with both PLLs locked moves the islands of both and sets ONPLL (R142). -/
theorem switchOp_onPll (a : rb s .CLK_STAT 0 1 = true) (b : rb s .CLK_STAT 0 2 = true) (off : rb s .CLK_STAT 0 4 = false) :
    let t := switchOp s
    rb t .CLK_STAT 0 4 = true ∧ t.dev.onA = true ∧ t.dev.onB = true ∧ t.thr = s.thr ∧ SameMemory s t := by
  have ported (u : State) (on : rb u .CLK_STAT 0 4 = true) (onA : u.dev.onA = true) (onB : u.dev.onB = true) (threads : u.thr = s.thr)
      (memories : SameMemory s u) : rb (portsLook u) .CLK_STAT 0 4 = true ∧ (portsLook u).dev.onA = true ∧ (portsLook u).dev.onB = true ∧
        (portsLook u).thr = s.thr ∧ SameMemory s (portsLook u) := by
    have stay := portsLook_clocksStay u
    exact ⟨by rw [rb, stay.stat]; exact on, stay.onA.trans onA, stay.onB.trans onB, stay.thr.trans threads, SameMemory.trans memories stay.memory⟩
  simp only [switchOp, showOnPll, a, b, off, Bool.false_eq_true, if_false, Bool.or_true]
  refine ported _ ?_ rfl rfl rfl (SameMemory.refl s)
  rw [rb_setDev]
  exact rb_wb_same _ _ _ _ _ (by decide)

/-! ## Clocks failing -/

/-- From `s` to `t` clocks have failed: no bit of CLK_STAT has come, no record of CLK_FAIL has gone, threads and memories are as they were. -/
structure ClocksFail (s t : State) : Prop where
  stat : ∀ b, rb s .CLK_STAT 0 b = false → rb t .CLK_STAT 0 b = false
  fail : ∀ b, rb s .CLK_FAIL 0 b = true → rb t .CLK_FAIL 0 b = true
  thr : t.thr = s.thr
  memory : SameMemory s t

namespace ClocksFail

theorem refl (s : State) : ClocksFail s s := ⟨fun _ h => h, fun _ h => h, rfl, SameMemory.refl s⟩

theorem trans (h : ClocksFail s t) (k : ClocksFail t u) : ClocksFail s u :=
  ⟨fun b hb => k.stat b (h.stat b hb), fun b hb => k.fail b (h.fail b hb), k.thr.trans h.thr, SameMemory.trans h.memory k.memory⟩

theorem ite (h : ClocksFail s t) (k : ClocksFail s u) {p : Prop} [Decidable p] : ClocksFail s (if p then t else u) := by
  split
  · exact h
  · exact k

theorem setDev (h : ClocksFail s t) (d : Dev) : ClocksFail s (setDev t d) := ⟨h.stat, h.fail, h.thr, h.memory⟩

theorem statOff (h : ClocksFail s t) {b : Nat} (hb : b < 32) : ClocksFail s (wb t .CLK_STAT 0 b false) := by
  refine h.trans ⟨fun c hc => ?_, fun c hc => ?_, rfl, wr_memory ..⟩
  · by_cases here : c = b
    · rw [here, rb_wb_same _ _ _ _ _ hb]
    · rw [rb_wb_other _ _ _ _ _ _ hb here, hc]
  · rw [rb_wb_ne _ _ _ _ _ _ _ _ (by decide), hc]

theorem failOn (h : ClocksFail s t) {b : Nat} (hb : b < 32) : ClocksFail s (wb t .CLK_FAIL 0 b true) := by
  refine h.trans ⟨fun c hc => ?_, fun c hc => ?_, rfl, wr_memory ..⟩
  · rw [rb_wb_ne _ _ _ _ _ _ _ _ (by decide), hc]
  · by_cases here : c = b
    · rw [here, rb_wb_same _ _ _ _ _ hb]
    · rw [rb_wb_other _ _ _ _ _ _ hb here, hc]

theorem clkCtl (h : ClocksFail s t) (b : Nat) (x : Bool) : ClocksFail s (wb t .CLK_CTL 0 b x) := by
  refine h.trans ⟨fun c hc => ?_, fun c hc => ?_, rfl, wr_memory ..⟩ <;> rw [rb_wb_ne _ _ _ _ _ _ _ _ (by decide), hc]

/-- A failure is counted and raised. -/
theorem reported (h : ClocksFail s t) (code src : Nat) : ClocksFail s (raise (count t .core code) .core src) := by
  have kept := ((LeavesSystem.refl t).count .core code).raise .core src
  refine h.trans ⟨fun c hc => ?_, fun c hc => ?_, kept.thr, kept.sameMemory⟩ <;> rw [kept.rb (by decide), hc]

theorem toHfrc (h : ClocksFail s t) (pllB : Bool) : ClocksFail s (toHfrc t pllB) :=
  ite (h.clkCtl 5 false) (ite ((h.clkCtl 5 false).setDev _) ((h.clkCtl 5 false).setDev _))

end ClocksFail

/-- The state after PLL A or PLL B has lost lock, before its islands move (R254). -/
def lockLost (s : State) (pllB : Bool) : State :=
  if pllB then setDev (wb s .CLK_STAT 0 2 false) { s.dev with lostB := true, onB := false, swB := false }
  else setDev (wb s .CLK_STAT 0 1 false) { s.dev with lostA := true, onA := false, swA := false }

/-- PLL A is PLL 0, PLL B is PLL 1. -/
def pllNo (pllB : Bool) : Nat := if pllB then 1 else 0

theorem lockLost_clocksFail (s : State) (pllB : Bool) : ClocksFail s (lockLost s pllB) :=
  ClocksFail.ite (((ClocksFail.refl s).statOff (by decide)).setDev _) (((ClocksFail.refl s).statOff (by decide)).setDev _)

theorem rb_lockLost (s : State) (pllB : Bool) : rb (lockLost s pllB) .CLK_STAT 0 (1 + pllNo pllB) = false := by
  cases pllB <;> simp only [lockLost, pllNo, Bool.false_eq_true, if_true, if_false, rb_setDev] <;> exact rb_wb_same _ _ _ _ _ (by decide)

/-- Islands that have lost their PLL do not run from both (R142). -/
theorem showOnPll_lockLost (s : State) (pllB : Bool) : showOnPll (lockLost s pllB) = wb (lockLost s pllB) .CLK_STAT 0 4 false := by
  cases pllB <;> simp [showOnPll, lockLost]

/-- The islands of PLL A or of PLL B run from it. -/
def runsFromPll (s : State) (pllB : Bool) : Bool := if pllB then s.dev.onB else s.dev.onA

theorem pllLoses_locked {pllB : Bool} (locked : rb s .CLK_STAT 0 (1 + pllNo pllB) = true) : pllLoses s pllB =
    if runsFromPll s pllB = true then
      raise (count (wb (toHfrc (wb (lockLost s pllB) .CLK_STAT 0 4 false) pllB) .CLK_FAIL 0 (1 + pllNo pllB) true) .core 0x09) .core 32
    else lockLost s pllB := by
  rw [← showOnPll_lockLost]
  cases pllB <;> simp only [pllNo, Bool.false_eq_true, if_true, if_false] at locked ⊢ <;> simp [pllLoses, locked, lockLost, runsFromPll]

theorem pllLoses_unlocked {pllB : Bool} (lost : rb s .CLK_STAT 0 (1 + pllNo pllB) = false) : pllLoses s pllB = s := by
  cases pllB <;> simp only [pllNo, Bool.false_eq_true, if_true, if_false] at lost <;> simp [pllLoses, lost]

theorem pllNo_lt (pllB : Bool) : 1 + pllNo pllB < 32 := by cases pllB <;> decide

theorem pllLoses_clocksFail (s : State) (pllB : Bool) : ClocksFail s (pllLoses s pllB) := by
  have lost := lockLost_clocksFail s pllB
  cases locked : rb s .CLK_STAT 0 (1 + pllNo pllB)
  case false =>
    rw [pllLoses_unlocked locked]
    exact .refl s
  case true =>
    rw [pllLoses_locked locked]
    exact ClocksFail.ite ((((lost.statOff (by decide)).toHfrc pllB).failOn (pllNo_lt pllB)).reported _ _) lost

theorem rb_pllLoses (s : State) (pllB : Bool) : rb (pllLoses s pllB) .CLK_STAT 0 (1 + pllNo pllB) = false := by
  cases locked : rb s .CLK_STAT 0 (1 + pllNo pllB)
  case false => rw [pllLoses_unlocked locked, locked]
  case true =>
    have moved : ClocksFail (lockLost s pllB) _ :=
      ((((ClocksFail.refl _).statOff (b := 4) (by decide)).toHfrc pllB).failOn (pllNo_lt pllB)).reported 0x09 32
    rw [pllLoses_locked locked]
    split
    · exact moved.stat _ (rb_lockLost s pllB)
    · exact rb_lockLost s pllB

/-- The loss of lock of a PLL that its islands run from clears ONPLL and is recorded (R254). -/
theorem pllLoses_fed {pllB : Bool} (locked : rb s .CLK_STAT 0 (1 + pllNo pllB) = true)
    (fed : runsFromPll s pllB = true) :
    rb (pllLoses s pllB) .CLK_STAT 0 4 = false ∧ rb (pllLoses s pllB) .CLK_FAIL 0 (1 + pllNo pllB) = true := by
  rw [pllLoses_locked locked, if_pos fed]
  have off : rb (wb (lockLost s pllB) .CLK_STAT 0 4 false) .CLK_STAT 0 4 = false := rb_wb_same _ _ _ _ _ (by decide)
  have recorded (u : State) : rb (wb u .CLK_FAIL 0 (1 + pllNo pllB) true) .CLK_FAIL 0 (1 + pllNo pllB) = true :=
    rb_wb_same _ _ _ _ _ (pllNo_lt pllB)
  have moved : ClocksFail (wb (lockLost s pllB) .CLK_STAT 0 4 false) _ :=
    (((ClocksFail.refl _).toHfrc pllB).failOn (pllNo_lt pllB)).reported 0x09 32
  exact ⟨moved.stat 4 off, ((ClocksFail.refl _).reported 0x09 32).fail _ (recorded _)⟩

theorem pllCLoses_clocksFail (s : State) : ClocksFail s (pllCLoses s) :=
  ClocksFail.ite (.refl s) ((((ClocksFail.refl s).statOff (by decide)).failOn (by decide)).setDev _)

/-- The loss of PLL C clears its LOCK (R255). -/
theorem rb_pllCLoses (s : State) : rb (pllCLoses s) .CLK_STAT 0 3 = false := by
  unfold pllCLoses
  split
  case isTrue off => exact off
  case isFalse => exact (((ClocksFail.refl _).failOn (b := 3) (by decide)).setDev _).stat 3 (rb_wb_same _ _ _ _ _ (by decide))

theorem pllCLoses_locked (locked : rb s .CLK_STAT 0 3 = true) :
    rb (pllCLoses s) .CLK_FAIL 0 3 = true ∧ (pllCLoses s).dev.linkOn = false := by
  simp only [pllCLoses, locked, Bool.true_eq_false, if_false, rb_setDev, setDev_dev, and_true]
  exact rb_wb_same _ _ _ _ _ (by decide)

/-- The crystal's loss takes every LOCK with it (R257). -/
theorem xtalFails_effects (crystal : rb s .CLK_STAT 0 0 = true) : let t := xtalFails s
    (∀ b, b < 4 → rb t .CLK_STAT 0 b = false) ∧ rb t .CLK_FAIL 0 0 = true ∧ t.thr = s.thr ∧ SameMemory s t := by
  simp only [xtalFails, crystal, Bool.true_eq_false, if_false]
  have off : rb (wb s .CLK_STAT 0 0 false) .CLK_STAT 0 0 = false := rb_wb_same _ _ _ _ _ (by decide)
  have noted : rb (wb (wb s .CLK_STAT 0 0 false) .CLK_FAIL 0 0 true) .CLK_FAIL 0 0 = true := rb_wb_same _ _ _ _ _ (by decide)
  have first := (ClocksFail.refl (wb (wb s .CLK_STAT 0 0 false) .CLK_FAIL 0 0 true)).reported 0x0A 32
  generalize raise _ _ _ = lost at first ⊢
  have afterC := pllCLoses_clocksFail (pllLoses (pllLoses lost false) true)
  have afterB := (pllLoses_clocksFail (pllLoses lost false) true).trans afterC
  have afterA := (pllLoses_clocksFail lost false).trans afterB
  have whole := ((ClocksFail.refl (wb s .CLK_STAT 0 0 false)).failOn (b := 0) (by decide)).trans (first.trans afterA)
  refine ⟨fun b hb => ?_, (first.trans afterA).fail 0 noted, whole.thr, SameMemory.trans (wr_memory ..) whole.memory⟩
  match b, hb with
  | 0, _ => exact whole.stat 0 off
  | 1, _ => exact afterB.stat 1 (rb_pllLoses lost false)
  | 2, _ => exact afterC.stat 2 (rb_pllLoses _ true)
  | 3, _ => exact rb_pllCLoses _

/-- Settles O21: each change of a clock is a law of its own. -/
theorem clockChanges : Obligations.ClockChanges := by
  refine ⟨fun s pll req out => ⟨?crystal, ?lock, ?switch, ?spreadA, ?spreadB, ?hfrc⟩, fun s pllB out => ⟨?unlock, ?unlockC, ?xtal⟩⟩
  case crystal => exact whenOut_taken out fun s => wb s .CLK_STAT 0 0 true
  case lock =>
    intro enabled crystal
    exact Does.intro (whenOut_taken out fun s => pllLocks s pll) (pllLocks_locks pll.isLt enabled crystal)
  case switch =>
    intro may a b off
    exact Does.intro (writeReg_taken may switchOp) (switchOp_onPll a b off)
  case spreadA => exact whenOut_taken out fun s => spreadApply s false
  case spreadB => exact whenOut_taken out fun s => spreadApply s true
  case hfrc =>
    intro still
    exact (whenOut_taken out hfrcUp).trans (by rw [hfrcUp, if_pos still])
  case unlock =>
    intro locked fed
    have fails := pllLoses_clocksFail s pllB
    obtain ⟨onPll, recorded⟩ := pllLoses_fed locked fed
    exact Does.intro (whenOut_taken out fun s => pllLoses s pllB) ⟨rb_pllLoses s pllB, onPll, recorded, fails.thr, fails.memory⟩
  case unlockC =>
    intro locked
    have fails := pllCLoses_clocksFail s
    obtain ⟨recorded, link⟩ := pllCLoses_locked locked
    exact Does.intro (whenOut_taken out pllCLoses) ⟨rb_pllCLoses s, recorded, link, fails.thr, fails.memory⟩
  case xtal =>
    intro crystal
    exact Does.intro (whenOut_taken out xtalFails) (xtalFails_effects crystal)

end Sys2Proof.Proofs
end

section
/-!
SUPPORT. Resets (R130-R144): what the loss of power to the NV controller, the release, the wake pins and a reset leave.
-/
namespace Sys2Proof.Proofs
open Sys2Proof.Machine Sys2Proof.Laws

variable {s t u : State}

/-- What a map reads once the keys that fail a test are gone. -/
theorem mget_filter {α : Type} (d : Nat → α) (m : SMap α) (p : Nat → Bool) (k : Nat) :
    mget d (m.filter fun e => p e.1) k = if p k then mget d m k else d k := by
  induction m with
  | nil => simp [mget]
  | cons e m ih =>
    rw [List.filter_cons]
    split
    case isTrue kept =>
      by_cases here : e.1 = k
      · rw [mget, mget, if_pos here, if_pos here, if_pos (here ▸ kept)]
      · rw [mget, mget, if_neg here, if_neg here, ih]
    case isFalse gone =>
      rw [ih]
      by_cases here : e.1 = k
      · rw [← here, if_neg gone, if_neg gone]
      · rw [mget, if_neg here]

/-! ## The NV controller loses its power -/

/-- From `s` to `t` nothing differs but what the NV store keeps and shows: of the stored registers none below its own, and none of one byte at
an odd address or at the third byte of a word but NV_STAT. -/
structure NvOnly (s t : State) : Prop where
  others : t = { s with io := t.io, nvByte := t.nvByte, nv := t.nv, xwait := t.xwait, fresh := t.fresh }
  io : ∀ (d : Nat → Quad) (a : Nat), (a < 0x3A80 ∨ (a % 4 ≠ 0 ∧ a ≠ 0x3A82)) → mget d t.io a = mget d s.io a

namespace NvOnly

theorem refl (s : State) : NvOnly s s := ⟨rfl, fun _ _ _ => rfl⟩

theorem trans (h : NvOnly s t) (k : NvOnly t u) : NvOnly s u where
  others := k.others.trans (by rw [h.others])
  io d a ha := (k.io d a ha).trans (h.io d a ha)

theorem ite (h : NvOnly s t) (k : NvOnly s u) {p : Prop} [Decidable p] : NvOnly s (if p then t else u) := by
  split
  · exact h
  · exact k

theorem dev (h : NvOnly s t) : t.dev = s.dev := by rw [h.others]

theorem wr (h : NvOnly s t) {r : Rg} {i : Nat} (own : regAddr r i = 0x3A82 ∨ (0x3A80 ≤ regAddr r i ∧ regAddr r i % 4 = 0)) (v : Quad) :
    NvOnly s (wr t r i v) :=
  h.trans ⟨rfl, fun d _ ha => mget_wr_io_ne t d v fun same => by omega⟩

theorem setNv (h : NvOnly s t) (x : Nv) : NvOnly s (setNv t x) := h.trans ⟨rfl, fun _ _ _ => rfl⟩

theorem setBytes (h : NvOnly s t) (m : SMap Byte) : NvOnly s { t with nvByte := m } := h.trans ⟨rfl, fun _ _ _ => rfl⟩

theorem count_serial (h : NvOnly s t) (code : Nat) : NvOnly s (count t .serial code) := h.trans ⟨rfl, fun _ _ _ => rfl⟩

theorem raise_serial (h : NvOnly s t) (src : Nat) : NvOnly s (raise t .serial src) := h.trans ⟨rfl, fun _ _ _ => rfl⟩

theorem nvWearUp (h : NvOnly s t) (p : Nat) : NvOnly s (nvWearUp t p) := by
  have worn (x : Nv) := h.setNv x
  have retired {q : Prop} [Decidable q] (x y : Nv) := ite (p := q) (((worn x).setNv y).count_serial 0x9B) (worn x)
  have warned {q r : Prop} [Decidable q] [Decidable r] (x y : Nv) := ite (p := r) ((retired (q := q) x y).count_serial 0x9C) (retired (q := q) x y)
  exact ite ((warned _ _).raise_serial _) (warned _ _)

theorem nvCommit (h : NvOnly s t) (j : NvJob) : NvOnly s (nvCommit t j) := by
  cases j with
  | page p bs => exact ((h.setBytes _).setNv _).nvWearUp p
  | blank p => exact ((h.setBytes _).setNv _).nvWearUp p
  | protect v => exact (h.setNv _).wr (by decide) _
  | counter n v =>
    have shown (x : Nv) (b : Nat) (y : Bool) (v' : Quad) : NvOnly s (wb (Machine.wr (Machine.setNv t x) .NV_MC n v') .NV_MCSTAT 0 b y) :=
      ((h.setNv x).wr (by simp only [regAddr, regInfo]; omega) v').wr (by decide) _
    exact ite ((shown _ _ _ _).wr (by decide) _) (shown _ _ _ _)

end NvOnly

theorem nvPowerLoss_nvOnly (s : State) : NvOnly s (nvPowerLoss s) := by
  unfold nvPowerLoss
  dsimp only
  split
  · have drawn : NvOnly s (freeVal s).2 := ⟨rfl, fun _ _ _ => rfl⟩
    exact (NvOnly.ite (drawn.nvCommit _) drawn).setNv _
  · exact (NvOnly.refl s).setNv _

/-- Without a write in its commit the store stays as it is (R1034). -/
theorem nvPowerLoss_idle (idle : s.nv.jobs = []) : (nvPowerLoss s).nvByte = s.nvByte ∧ (nvPowerLoss s).nv.blank = s.nv.blank := by
  simp [nvPowerLoss, idle]

/-! ## Islands at their reset state -/

theorem rd_islandsReset_lost {wdt pins iram : Bool} {r : Rg} {i : Nat} (lost : aoKeeps wdt pins (regAddr r i) = false) :
    rd (islandsReset s wdt pins iram) r i = regReset r i := by
  have filtered := mget_filter (fun _ => regReset r i) (nvPowerLoss s).io (aoKeeps wdt pins) (regAddr r i)
  rwa [lost, if_neg Bool.false_ne_true] at filtered

theorem rd_islandsReset_kept {wdt pins iram : Bool} {r : Rg} {i : Nat} (kept : aoKeeps wdt pins (regAddr r i) = true)
    (apart : regAddr r i < 0x3A80 ∨ (regAddr r i % 4 ≠ 0 ∧ regAddr r i ≠ 0x3A82)) : rd (islandsReset s wdt pins iram) r i = rd s r i := by
  have filtered := mget_filter (fun _ => regReset r i) (nvPowerLoss s).io (aoKeeps wdt pins) (regAddr r i)
  rw [kept, if_pos rfl, (nvPowerLoss_nvOnly s).io _ _ apart] at filtered
  exact filtered

/-- What a reset of the islands keeps and loses of the memories, threads and supplies (R131, R132, R316). -/
theorem islandsReset_fields (s : State) (wdt pins iram : Bool) : let t := islandsReset s wdt pins iram
    t.thr = [] ∧ t.near = [] ∧ t.iram = (if iram then s.iram else []) ∧ t.retain = s.retain ∧ t.pads = s.pads ∧ t.pending = s.pending ∧
      t.dev.vdd33 = s.dev.vdd33 ∧ t.dev.vddao = s.dev.vddao ∧ t.dev.rstnLow = s.dev.rstnLow ∧ t.dev.waking = s.dev.waking := by
  refine ⟨rfl, rfl, ?_, ?_, ?_, ?_, ?_, ?_, ?_, ?_⟩ <;> simp only [islandsReset, (nvPowerLoss_nvOnly s).dev] <;>
    rw [(nvPowerLoss_nvOnly s).others]

/-! ## The release -/

/-- Where the device goes as it leaves reset (R136, R144): the near-RAM clear, or held for want of a supply or of RSTN. -/
def releasePhase (s : State) : Phase := if s.dev.vdd33 && s.dev.vddao && !s.dev.rstnLow then .clearing else .held

theorem releasePhase_congr (same : t.dev = s.dev) : releasePhase t = releasePhase s := by rw [releasePhase, same, releasePhase]

/-- From `s` to `t` the device goes on out of reset: of its modes only the phase and the look at the wake pins differ. -/
structure ReleaseOnly (s t : State) : Prop where
  io : t.io = s.io
  thr : t.thr = s.thr
  memory : SameMemory s t
  nv : t.nv = s.nv
  dbg : t.dbg = s.dbg
  dev : t.dev = { s.dev with phase := t.dev.phase, wake0 := t.dev.wake0, wake1 := t.dev.wake1 }

namespace ReleaseOnly

theorem trans (h : ReleaseOnly s t) (k : ReleaseOnly t u) : ReleaseOnly s u :=
  ⟨k.io.trans h.io, k.thr.trans h.thr, SameMemory.trans h.memory k.memory, k.nv.trans h.nv, k.dbg.trans h.dbg, k.dev.trans (by rw [h.dev])⟩

theorem rd (h : ReleaseOnly s t) (r : Rg) (i : Nat) : rd t r i = rd s r i := rd_io _ _ _ _ h.io

theorem rb (h : ReleaseOnly s t) (r : Rg) (i b : Nat) : rb t r i b = rb s r i b := by rw [Machine.rb, h.rd, Machine.rb]

end ReleaseOnly

theorem leaveReset_releaseOnly (s : State) : ReleaseOnly s (leaveReset s) := by
  unfold leaveReset
  split <;> exact ⟨rfl, rfl, SameMemory.refl s, rfl, rfl, rfl⟩

theorem phase_leaveReset (s : State) : (leaveReset s).dev.phase = releasePhase s := by
  unfold leaveReset releasePhase
  split <;> rfl

theorem raise_ao (s : State) (src : Nat) : raise s .ao src = send s 11 (.edge src) := raise_send (by decide) s src

theorem wakeUpdate_releaseOnly (s : State) : ReleaseOnly s (wakeUpdate s) := by
  simp only [wakeUpdate, raise_ao]
  split
  · exact ⟨rfl, rfl, SameMemory.refl s, rfl, rfl, rfl⟩
  · split <;> split <;> exact ⟨rfl, rfl, SameMemory.refl s, rfl, rfl, rfl⟩

theorem phase_wakeUpdate (s : State) : (wakeUpdate s).dev.phase = s.dev.phase := by
  simp only [wakeUpdate, raise_ao]
  split
  · rfl
  · split <;> split <;> rfl

/-! ## A reset other than AO POR -/

/-- The islands at their reset state, no wake in progress. -/
def islandsLost (s : State) : State := islandsReset (setDev s { s.dev with waking := false }) false false false

theorem islandsLost_fields (s : State) : let t := islandsLost s
    t.thr = [] ∧ t.near = [] ∧ t.iram = [] ∧ t.retain = s.retain ∧ t.pads = s.pads ∧ t.pending = s.pending ∧ releasePhase t = releasePhase s := by
  obtain ⟨thr, near, iram, retain, pads, pending, vdd33, vddao, rstnLow, _⟩ :=
    islandsReset_fields (setDev s { s.dev with waking := false }) false false false
  exact ⟨thr, near, iram, retain, pads, pending, by simp only [releasePhase, islandsLost, vdd33, vddao, rstnLow, setDev_dev]⟩

/-- The reset with a cause before its release. -/
def resetHeld (s : State) (cause : Nat) : State := showSession (wb (setCause (islandsLost s) cause) .RTC_FLAGS 0 0 false)

theorem resetHeld_memory (s : State) (cause : Nat) : SameMemory (islandsLost s) (resetHeld s cause) :=
  SameMemory.trans (wr_memory _ _ _ _) (SameMemory.trans (wr_memory _ _ _ _) (wr_memory _ _ _ _))

/-- A reset with a cause has happened (R132, R138, R193, R316). -/
structure ResetBy (s : State) (cause : Nat) (t : State) : Prop where
  cause : rd t .PMU_RSTCAUSE 0 = BitVec.ofNat 32 (2 ^ cause)
  iramValid : rb t .RTC_FLAGS 0 0 = false
  thr : t.thr = []
  near : t.near = []
  iram : t.iram = []
  retain : t.retain = s.retain
  pads : t.pads = s.pads
  pending : t.pending = s.pending
  phase : t.dev.phase = releasePhase s
  safe : inRun t = false

theorem resetBy_releaseOnly (s : State) (cause : Nat) : ReleaseOnly (resetHeld s cause) (resetBy s cause) :=
  (leaveReset_releaseOnly _).trans (wakeUpdate_releaseOnly _)

theorem resetBy_resetBy (s : State) (cause : Nat) : ResetBy s cause (resetBy s cause) := by
  have released := resetBy_releaseOnly s cause
  obtain ⟨near', _, iram', retain', _, _, _, _, _, pads', pending'⟩ := SameMemory.trans (resetHeld_memory s cause) released.memory
  obtain ⟨thr, near, iram, retain, pads, pending, supplies⟩ := islandsLost_fields s
  have phase : (resetBy s cause).dev.phase = releasePhase (resetHeld s cause) := (phase_wakeUpdate _).trans (phase_leaveReset _)
  refine ⟨?_, ?_, released.thr.trans thr, near'.trans near, iram'.trans iram, retain'.trans retain, pads'.trans pads, pending'.trans pending,
    phase.trans ?_, ?_⟩
  · rw [released.rd, resetHeld, showSession, rd_wb_ne _ _ _ _ _ _ _ (by decide), rd_wb_ne _ _ _ _ _ _ _ (by decide), setCause, rd_wr_same]
  · rw [released.rb, resetHeld, showSession, rb_wb_ne _ _ _ _ _ _ _ _ (by decide), rb_wb_same _ _ _ _ _ (by decide)]
  · rw [← supplies]
    exact releasePhase_congr (by simp only [resetHeld, showSession, setCause, wb_dev, wr_dev])
  · rw [inRun, rf, released.rd, resetHeld, showSession, rd_wb_ne _ _ _ _ _ _ _ (by decide), rd_wb_ne _ _ _ _ _ _ _ (by decide), setCause,
      rd_wr_ne _ _ _ _ _ _ (by decide), islandsLost, rd_islandsReset_lost (by decide)]
    decide

/-- A reset leaves the NV store as it is where no write is in its commit. -/
theorem resetBy_nvStore (idle : s.nv.jobs = []) (cause : Nat) :
    (resetBy s cause).nvByte = s.nvByte ∧ (resetBy s cause).nv.blank = s.nv.blank := by
  have released := resetBy_releaseOnly s cause
  obtain ⟨_, _, _, _, bytes, _⟩ := SameMemory.trans (resetHeld_memory s cause) released.memory
  obtain ⟨kept, blank⟩ := nvPowerLoss_idle (s := setDev s { s.dev with waking := false }) idle
  have nv : (resetBy s cause).nv = (islandsLost s).nv := released.nv.trans (by simp only [resetHeld, showSession, setCause, wb_nv, wr_nv])
  exact ⟨bytes.trans kept, (congrArg Nv.blank nv).trans blank⟩

end Sys2Proof.Proofs
end

section
/-!
Chapter 03: resets and their release (R130-R144).
-/
namespace Sys2Proof.Proofs
open Sys2Proof.Machine Sys2Proof.Laws

variable {s : State}

/-- AO POR before its look at the wake pins (R131). -/
def aoPorHeld (s : State) : State :=
  setCause { islandsReset s false false false with
    io := [], shadow := [], staged := [], retain := [], dbg := Dbg.reset,
    dev := { Dev.reset with phase := .held, vdd33 := s.dev.vdd33, vddao := false } } 5

/-- AO POR leaves every stored register at its reset value but PMU_RSTCAUSE (R131, R138). -/
theorem aoPor_effects (s : State) : let t := aoPor s
    rd t .PMU_RSTCAUSE 0 = 32 ∧ (∀ r i, regAddr r i ≠ 0x402 → rd t r i = regReset r i) ∧ t.retain = [] ∧ t.iram = [] ∧
      t.near = [] ∧ t.thr = [] ∧ t.dbg.active = false ∧ t.dev.phase = .held ∧ t.pads = s.pads ∧ t.pending = s.pending := by
  obtain ⟨thr, near, iram, _, pads, pending, _⟩ := islandsReset_fields s false false false
  have seen : ReleaseOnly (aoPorHeld s) (aoPor s) := wakeUpdate_releaseOnly _
  obtain ⟨near', _, iram', retain', _, _, _, _, _, pads', pending'⟩ := seen.memory
  have phase : (aoPor s).dev.phase = .held := phase_wakeUpdate (aoPorHeld s)
  refine ⟨?_, fun r i apart => ?_, retain', iram'.trans iram, near'.trans near, seen.thr.trans thr, ?_, phase, pads'.trans pads,
    pending'.trans pending⟩
  · rw [seen.rd, aoPorHeld, setCause, rd_wr_same]
    rfl
  · rw [seen.rd, aoPorHeld, setCause, rd_wr_ne _ _ _ _ _ _ apart]
    rfl
  · rw [seen.dbg]
    rfl

/-- The device is released: nothing but its phase and the timer of the clear differs. -/
theorem leaveReset_effects (s : State) : let t := leaveReset s
    t.dev.phase = releasePhase s ∧ t.dev.vdd33 = s.dev.vdd33 ∧ t.dev.vddao = s.dev.vddao ∧ t.dev.rstnLow = s.dev.rstnLow ∧ t.io = s.io ∧
      SameMemory s t := by
  have released := leaveReset_releaseOnly s
  refine ⟨phase_leaveReset s, ?_, ?_, ?_, released.io, released.memory⟩ <;> rw [released.dev]

/-- Settles O22: resets by what the islands' reset keeps, releases by where the device goes. -/
theorem resetsAndReleases : Obligations.ResetsAndReleases := by
  refine ⟨fun s => ⟨Does.intro rfl (aoPor_effects s), ?supply, ?vdd33, ?rstn, ?clear⟩, fun s => ⟨?brownOut, ?low, ?active⟩⟩
  case supply =>
    intro none
    obtain ⟨phase, _, up, _, io, memory⟩ := leaveReset_effects (setDev s { s.dev with vddao := true })
    have answer : exec .aoPorRelease s = .next (leaveReset (setDev s { s.dev with vddao := true })) := by
      show execAoPorRelease s = _
      rw [execAoPorRelease, none, if_neg Bool.false_ne_true]
    exact Does.intro answer ⟨up, by simpa [releasePhase] using phase, io, memory⟩
  case vdd33 =>
    intro held none supplied asleep unbroken
    have answer : exec .porRelease s = .next (leaveReset (setCause (setDev s { s.dev with vdd33 := true }) 0)) := by
      show execPorRelease s = _
      simp [execPorRelease, porRelease, held, none, supplied, asleep, unbroken]
    obtain ⟨phase, up, _, _, io, memory⟩ := leaveReset_effects (setCause (setDev s { s.dev with vdd33 := true }) 0)
    refine Does.intro answer ⟨up, ?_, phase.trans ?_, memory⟩
    · rw [rd_io _ _ _ _ io, setCause, rd_wr_same]
      rfl
    · cases low : s.dev.rstnLow <;> simp [releasePhase, setCause, supplied, low]
  case rstn =>
    intro low
    have answer : exec .rstnRelease s = .next (leaveReset (setDev s { s.dev with rstnLow := false })) := by
      show execRstnRelease s = _
      rw [execRstnRelease, rstnUp, if_pos low]
    obtain ⟨phase, _, _, up, io, memory⟩ := leaveReset_effects (setDev s { s.dev with rstnLow := false })
    exact Does.intro answer ⟨up, by simpa [releasePhase] using phase, io, memory⟩
  case clear =>
    intro clearing due asleep
    show execNearRamClearDone s = _
    simp [execNearRamClearDone, clearDone, clearing, due, asleep]
  case brownOut =>
    intro supply supplied awake
    have answer : exec .brownOut s = .next (resetBy (setDev s { s.dev with vdd33 := false }) 1) := by
      show execBrownOut s = _
      simp [execBrownOut, brownOut, supply, supplied, awake]
    obtain ⟨cause, iramValid, thr, near, iram, retain, pads, pending, phase, safe⟩ := resetBy_resetBy (setDev s { s.dev with vdd33 := false }) 1
    exact Does.intro answer ⟨cause, iramValid, thr, near, iram, retain, pads, pending, phase, safe⟩
  case low =>
    intro inactive supplied
    have answer : exec .rstnReset s = .next (resetBy (setDev s { s.dev with rstnLow := true }) 2) := by
      show execRstnReset s = _
      simp [execRstnReset, rstnDown, inactive, supplied]
    obtain ⟨cause, iramValid, thr, near, iram, retain, pads, pending, phase, safe⟩ := resetBy_resetBy (setDev s { s.dev with rstnLow := true }) 2
    exact Does.intro answer ⟨cause, iramValid, thr, near, iram, retain, pads, pending, by simpa [releasePhase] using phase, safe⟩
  case active =>
    intro active
    show execRstnReset s = _
    simp [execRstnReset, rstnDown, active]

end Sys2Proof.Proofs
end

section
/-!
Chapter 03: the SAFE feed sequencer (R148-R151).
-/
namespace Sys2Proof.Proofs
open Sys2Proof.Machine Sys2Proof.Laws

variable {s : State}

theorem timerOn_stopTimer_ne (s : State) {j k : Nat} (apart : j ≠ k) : timerOn (stopTimer s k) j = timerOn s j := by
  simp [timerOn, stopTimer, mget_mset_ne _ _ _ _ apart]

@[simp] theorem setFd_feed (s : State) (x : Feeder) : (setFd s x).pp.feed = x := rfl

/-- When the sequencer steps, in SAFE (R148). -/
theorem safeWanted_iff (safe : inRun s = false) : safeWanted s = true ↔
    rb s .PP_FCTL 0 1 = true ∧ s.pp.cover = false ∧ s.pp.button = true ∧ s.pp.feed.safeSteps < 4800 := by
  simp [safeWanted, safe, and_assoc]

/-- The rows of the table of R149: when each winding is driven, and with which sign. -/
theorem safeRow_table {row : Nat} (eight : row < 8) : let r := safeRow row
    (safeWind r.1).on = (row != 2 && row != 6) ∧ (safeWind r.2).on = (row != 0 && row != 4) ∧
      ((safeWind r.1).on = true → (safeWind r.1).plus = (row == 0 || row == 1 || row == 7)) ∧
      ((safeWind r.2).on = true → (safeWind r.2).plus = (row == 1 || row == 2 || row == 3)) := by
  revert row
  decide

theorem report_print (s : State) (b src dst : Nat) : report s .print b src dst 1 = send s 13 (.book b src dst 1) := rfl

/-- Settles O23: the sequencer's start, step, stop and the end of its hold. -/
theorem safeFeedSequence : Obligations.SafeFeedSequence := by
  intro s live safe
  refine ⟨?start, ?step, ?stop, ?holdEnd⟩
  case start =>
    intro off enabled closed pressed few
    have wanted := (safeWanted_iff safe).2 ⟨enabled, closed, pressed, few⟩
    refine Does.intro (liveIn_live live safeStart) ?_
    simp only [safeStart, off, wanted, Bool.false_eq_true, Bool.true_eq_false, or_self, if_false]
    exact ⟨by simp, by simp, by simp [timerDue_startTimer], by simp, by simp [SameMemory]⟩
  case step =>
    intro on due enabled closed pressed few
    have wanted := (safeWanted_iff safe).2 ⟨enabled, closed, pressed, few⟩
    obtain ⟨onA, onB, plusA, plusB⟩ := safeRow_table (Nat.mod_lt s.pp.feed.safeSteps (by decide : 0 < 8))
    refine Does.intro (liveIn_live live safeStep) ?_
    simp only [safeStep, on, due, wanted, Bool.and_self, if_true, report_print]
    simp only [startTimer_pp, send_pp, setFd_feed]
    exact ⟨trivial, onA, onB, plusA, plusB, by simp, by simp [SameMemory]⟩
  case stop =>
    intro on broken
    have unwanted : safeWanted s = false := by
      rw [← Bool.not_eq_true, safeWanted_iff safe]
      rintro ⟨enabled, closed, pressed, few⟩
      rcases broken with off | opened | released | many
      · exact Bool.false_ne_true (off.symm.trans enabled)
      · exact Bool.false_ne_true (closed.symm.trans opened)
      · exact Bool.false_ne_true (released.symm.trans pressed)
      · omega
    refine Does.intro (liveIn_live live safeStop) ?_
    simp only [safeStop, on, unwanted, Bool.not_false, Bool.and_self, if_true]
    refine ⟨by simp, by simp, ?_, timerOn_stopTimer _ _, by simp, by simp [SameMemory]⟩
    rw [timerOn_stopTimer_ne _ (by decide), timerOn_startTimer]
  case holdEnd =>
    intro holding due
    refine Does.intro (liveIn_live live safeHoldEnd) ?_
    simp only [safeHoldEnd, holding, due, Bool.and_self, if_true]
    exact ⟨by simp, by simp, by simp [Winding.reset], by simp [Winding.reset], by simp, by simp [SameMemory]⟩

end Sys2Proof.Proofs
end

section
/-!
Chapter 03: the RTC, retention RAM and the watchdog (R196-R211).
-/
namespace Sys2Proof.Proofs
open Sys2Proof.Machine Sys2Proof.Laws

variable {s t : State} {l : List Nat}

/-- A write of a listed register leaves the others as they are. -/
theorem sameIoBut_wr (h : SameIoBut l s t) {r : Rg} {i : Nat} (listed : regAddr r i ∈ l) (v : Quad) : SameIoBut l s (wr t r i v) := by
  intro d k hk
  have apart : k ≠ regAddr r i := by
    rintro rfl
    exact hk listed
  rw [mget_wr_io_ne t d v apart, h d k hk]

theorem sameIoBut_refl (l : List Nat) (s : State) : SameIoBut l s s := fun _ _ _ => rfl

theorem aoLives_taken (supplied : s.dev.vddao = true) (f : State → State) : aoLives s f = .next (f s) := by
  rw [aoLives, if_pos supplied]

/-! ## The RTC -/

theorem setRtc_sameIoBut (s : State) (n : Nat) : SameIoBut [regAddr .RTC_SEC 0, regAddr .RTC_SUB 0] s (setRtc s n) :=
  sameIoBut_wr (sameIoBut_wr (sameIoBut_refl _ s) (by simp) _) (by simp) _

/-- The RTC reads the count it was set to. -/
theorem rtcCount_setRtc {n : Nat} (small : n < 2 ^ 47) : rtcCount (setRtc s n) = n := by
  have seconds : rn (setRtc s n) .RTC_SEC 0 = n / 32768 % 2 ^ 32 := by
    rw [rn, setRtc, rd_wr_ne _ _ _ _ _ _ (by decide), rd_wr_same, BitVec.toNat_ofNat]
  have cycles : rn (setRtc s n) .RTC_SUB 0 = n % 32768 % 2 ^ 32 := by rw [rn, setRtc, rd_wr_same, BitVec.toNat_ofNat]
  rw [rtcCount, seconds, cycles]
  omega

theorem rtcLoad_effects {v : Quad} (set : s.dev.rtcSet = some v) : let t := rtcLoad s
    rd t .RTC_SEC 0 = v ∧ rd t .RTC_SUB 0 = 0 ∧ t.dev.rtcSet = none ∧
      SameIoBut [regAddr .RTC_SEC 0, regAddr .RTC_SUB 0] s t ∧ t.thr = s.thr ∧ SameMemory s t := by
  have io : SameIoBut [regAddr .RTC_SEC 0, regAddr .RTC_SUB 0] s (wr (wr s .RTC_SEC 0 v) .RTC_SUB 0 0) :=
    sameIoBut_wr (sameIoBut_wr (sameIoBut_refl _ s) (by simp) _) (by simp) _
  simp only [rtcLoad, set, rd_setDev, rd_wr_same, rd_wr_ne _ _ _ _ _ _ (show regAddr .RTC_SEC 0 ≠ regAddr .RTC_SUB 0 by decide)]
  exact ⟨trivial, trivial, by simp, io, by simp, by simp [SameMemory]⟩

/-- The trim moves the count by its signed cycles modulo 2^47 (R198). -/
theorem rtcCount_rtcTrim (s : State) : (rtcCount (rtcTrim s) : Int) = ((rtcCount s : Int) + signedOf 8 (rn s .RTC_TRIM 0)) % 2 ^ 47 := by
  have nonneg : 0 ≤ ((rtcCount s : Int) + signedOf 8 (rn s .RTC_TRIM 0)) % 2 ^ 47 := Int.emod_nonneg _ (by decide)
  have below : ((rtcCount s : Int) + signedOf 8 (rn s .RTC_TRIM 0)) % 2 ^ 47 < 2 ^ 47 := Int.emod_lt_of_pos _ (by decide)
  rw [rtcTrim, rtcCount_setRtc (by omega), Int.toNat_of_nonneg nonneg]

/-- The alarm's flag sets at its second; only its source may be raised beside (R199). -/
theorem rtcAlarm_effects (second : rd s .RTC_SEC 0 = rd s .RTC_ALARM 0) (start : rd s .RTC_SUB 0 = 0) : let t := rtcAlarm s
    rb t .RTC_STAT 0 0 = true ∧ SameIoBut [regAddr .RTC_STAT 0] s t ∧ t.thr = s.thr ∧ SameMemory s t := by
  have flagged : rb (wb s .RTC_STAT 0 0 true) .RTC_STAT 0 0 = true := rb_wb_same _ _ _ _ _ (by decide)
  have io : SameIoBut [regAddr .RTC_STAT 0] s (wb s .RTC_STAT 0 0 true) := sameIoBut_wr (sameIoBut_refl _ s) (by simp) _
  simp only [rtcAlarm, second, start, and_self, if_true, raise_ao]
  split
  · exact ⟨(rb_send ..).trans flagged, io, by simp, by simp [SameMemory]⟩
  · exact ⟨flagged, io, by simp, by simp [SameMemory]⟩

/-- The RTC's crystal fails (R200). -/
theorem rtcFail_effects (s : State) : let t := rtcFail s
    rb t .RTC_STAT 0 1 = true ∧ rb t .RTC_STAT 0 2 = true ∧ rb t .CLK_STAT 0 5 = false ∧ t.thr = s.thr ∧ SameMemory s t := by
  refine ⟨?_, ?_, rb_wb_same _ _ _ _ _ (by decide), by simp [rtcFail], by simp [rtcFail, SameMemory]⟩ <;>
    rw [rtcFail, rb_wb_ne _ _ _ _ _ _ _ _ (by decide)]
  · rw [rb_wb_other _ _ _ _ _ _ (by decide) (by decide), rb_wb_same _ _ _ _ _ (by decide)]
  · rw [rb_wb_same _ _ _ _ _ (by decide)]

/-- The RTC's crystal has run again (R200). -/
theorem rtcBack_effects (failed : rb s .RTC_STAT 0 2 = true) : let t := rtcBack s
    rb t .RTC_STAT 0 2 = false ∧ t.thr = s.thr ∧ SameMemory s t := by
  have cleared : rb (wb s .RTC_STAT 0 2 false) .RTC_STAT 0 2 = false := rb_wb_same _ _ _ _ _ (by decide)
  simp only [rtcBack, failed, if_true]
  split
  · exact ⟨(rb_wb_ne _ _ _ _ _ _ _ _ (by decide)).trans cleared, by simp, by simp [SameMemory]⟩
  · exact ⟨cleared, by simp, by simp [SameMemory]⟩

/-! ## Retention RAM -/

/-- A field from bit 0 that holds all of a value holds all of the new value. -/
theorem putFld_whole {v : Quad} {hi : Nat} (x : Nat) (hi32 : hi < 32) (inside : v.toNat < 2 ^ (hi + 1)) :
    putFld v hi 0 x = BitVec.ofNat 32 (x % 2 ^ (hi + 1)) := by
  refine BitVec.eq_of_getLsbD_eq fun i i32 => ?_
  rw [getLsbD_putFld _ _ _ _ _ hi32 (Nat.zero_le hi), BitVec.getLsbD_ofNat, Nat.testBit_mod_two_pow]
  by_cases low : i ≤ hi
  · have inField : i < hi + 1 := by omega
    simp [low, i32, inField]
  · have above : ¬ i < hi + 1 := by omega
    have bound : 2 ^ (hi + 1) ≤ 2 ^ i := Nat.pow_le_pow_right (by decide) (by omega)
    have zero : v.getLsbD i = false := by
      rw [← BitVec.testBit_toNat]
      exact Nat.testBit_lt_two_pow (Nat.lt_of_lt_of_le inside bound)
    simp [low, above, zero]

/-- ADDR of the keeper's port moves on (R206). -/
theorem rrAddr_rrNext (inside : rrAddr s false + 1 < 0x2000) : rrAddr (rrNext s false) false = rrAddr s false + 1 := by
  simp only [rrAddr, rrNext, Bool.false_eq_true, if_false] at inside ⊢
  rw [rn] at inside
  rw [rn, rn, wf, rd_wr_same, putFld_whole _ (by decide) (by omega), BitVec.toNat_ofNat]
  omega

theorem rrNext_frame (s : State) (np : Bool) : let t := rrNext s np
    t.retain = s.retain ∧ t.near = s.near ∧ t.thr = s.thr ∧ t.cycles = s.cycles ∧ t.xwait = s.xwait := by
  cases np <;> simp [rrNext]

/-- A write through a port, where the ROM record is kept from the keeper's port in RUN (R206). -/
theorem rrWrite_effects (s : State) (np : Bool) (b : Byte) : let t := rrWrite s np b
    let a := rrAddr s np
    (∀ k, mget (fun _ => 0) t.retain k = if k = a ∧ ¬(np = false ∧ inRun s = true ∧ 0x1FC0 ≤ a ∧ a < 0x2000) then b
        else mget (fun _ => 0) s.retain k) ∧
      t.near = s.near ∧ t.thr = s.thr ∧ (a + 1 < 0x2000 → np = false → rrAddr t np = a + 1) := by
  by_cases guarded : np = false ∧ inRun s = true ∧ 0x1FC0 ≤ rrAddr s np ∧ rrAddr s np < 0x2000
  case pos =>
    obtain ⟨keeper, run, record⟩ := guarded
    subst keeper
    obtain ⟨retain, near, thr, _⟩ := rrNext_frame s false
    have kept : rrWrite s false b = rrNext s false := by simp [rrWrite, run, record]
    rw [kept]
    exact ⟨fun k => by simp [retain, run, record], near, thr, fun inside _ => rrAddr_rrNext inside⟩
  case neg =>
    have open' : (!np && inRun s && decide (0x1FC0 ≤ rrAddr s np ∧ rrAddr s np < 0x2000)) = false := by
      rw [← Bool.not_eq_true]
      simpa [and_assoc] using guarded
    have written : rrWrite s np b = rrNext { s with retain := mset (fun _ => 0) s.retain (rrAddr s np) b } np := by
      simp only [rrWrite, open', Bool.false_eq_true, if_false]
    obtain ⟨retain, near, thr, _⟩ := rrNext_frame { s with retain := mset (fun _ => 0) s.retain (rrAddr s np) b } np
    rw [written]
    refine ⟨fun k => ?_, near, thr, fun inside keeper => ?_⟩
    · rw [retain, mget_mset]
      simp only [guarded, not_false_eq_true, and_true]
    · subst keeper
      exact rrAddr_rrNext (s := { s with retain := mset (fun _ => 0) s.retain (rrAddr s false) b }) inside

/-- A thread's read through a port sends the byte at ADDR back to it (R206, R361). -/
theorem rrRead_answer {req : Nat} (np : Bool) (thread : req < 8) (n : Fin 8) (r : Fin 16) :
    let t := replyIn (rrRead s req np).2 .ao (.greg n r) (rrRead s req np).1
    xwaitOf t 11 = xwaitOf s 11 ++ [.inReply ⟨.greg n r, s.cycles, !(thr s n).world⟩ (mget (fun _ => 0) s.retain (rrAddr s np))] ∧
      t.retain = s.retain ∧ (thr t n).outX = (thr s n).outX + 1 := by
  have mine : req ≠ 8 := by omega
  obtain ⟨retain, _, threads, cycles, xwait⟩ := rrNext_frame s np
  have same : thr (rrNext s np) n = thr s n := by rw [thr, threads, thr]
  simp only [rrRead, mine, if_false, replyIn, landing, inOut, same, cycles]
  refine ⟨?_, by simp [retain], ?_⟩
  · rw [show toCore .ao = 11 from rfl, xwaitOf_send_same, xwaitOf, setThr_xwait, xwait, xwaitOf]
  · rw [thr, send_thr, ← thr, thr_setThr_same]

/-! ## The watchdog -/

theorem wdtOn_effects (off : rb s .PMU_WDTCTL 0 0 = false) : let t := wdtOn s
    rb t .PMU_WDTCTL 0 0 = true ∧ rd t .PMU_WDTCNT 0 = wdtLoad s ∧
      SameIoBut [regAddr .PMU_WDTCTL 0, regAddr .PMU_WDTCNT 0] s t ∧ t.thr = s.thr ∧ SameMemory s t := by
  simp only [wdtOn, off, Bool.false_eq_true, if_false]
  refine ⟨?_, rd_wr_same _ _ _ _, sameIoBut_wr (sameIoBut_wr (sameIoBut_refl _ s) (by simp) _) (by simp) _, by simp, by simp [SameMemory]⟩
  rw [rb_wr_ne _ _ _ (by decide), rb_wb_same _ _ _ _ _ (by decide)]

theorem wdtHeld_false (awake : s.dev.phase = .awake) (going : ∀ n, n < 8 → (thr s n).st ≠ .halted) : wdtHeld s = false := by
  have none : ((List.range 8).any fun n => (thr s n).st == .halted && !(rb s .THR_WORLD n 0)) = false := by
    rw [List.any_eq_false]
    intro n hn
    simp [going n (List.mem_range.1 hn)]
  rw [wdtHeld, awake, none]
  rfl

/-- The watchdog's count has run out while nothing holds it (R204, R211). -/
theorem wdtExpiry_out (awake : s.dev.phase = .awake) (going : ∀ n, n < 8 → (thr s n).st ≠ .halted) (on : rb s .PMU_WDTCTL 0 0 = true)
    (out : rd s .PMU_WDTCNT 0 = 0) (tie : Bool) : wdtExpiry s tie = if tie then count (wdtKick s 0xA5) .ao 0x08 else resetBy s 3 := by
  have zero : rn s .PMU_WDTCNT 0 = 0 := by rw [rn, out]; rfl
  simp [wdtExpiry, on, wdtHeld_false awake going, zero]

theorem count_ao (s : State) (code : Nat) : count s .ao code = send s 11 (.count code 1) := count_send (by decide) s code

/-- Settles O25: the RTC's steps, the ports of retention RAM, the watchdog; each by a law of its own. -/
theorem rtcRetentionAndWatchdog : Obligations.RtcRetentionAndWatchdog := by
  refine ⟨fun s v supplied => ⟨?load, ?trim, ?alarm, ?fail, ?back⟩, fun s req np b n r => ⟨?write, ?read, ?enable, ?kick, ?expiry⟩⟩
  case load =>
    intro set
    exact Does.intro (aoLives_taken supplied rtcLoad) (rtcLoad_effects set)
  case trim =>
    exact Does.intro (aoLives_taken supplied rtcTrim)
      ⟨rtcCount_rtcTrim s, setRtc_sameIoBut s _, by simp [rtcTrim, setRtc], by simp [rtcTrim, setRtc, SameMemory]⟩
  case alarm =>
    intro second start
    exact Does.intro (aoLives_taken supplied rtcAlarm) (rtcAlarm_effects second start)
  case fail => exact Does.intro (aoLives_taken supplied rtcFail) (rtcFail_effects s)
  case back =>
    intro failed
    exact Does.intro (aoLives_taken supplied rtcBack) (rtcBack_effects failed)
  case write =>
    intro may
    exact Does.intro (writeReg_taken may fun s => rrWrite s np b) (rrWrite_effects s np b)
  case read =>
    intro may thread
    refine Does.intro (readRegRow_taken may fun s ok =>
      if ok then replyIn (rrRead s req np).2 .ao (.greg n r) (rrRead s req np).1 else replyIn s .ao (.greg n r) 0) ?_
    rw [if_pos rfl]
    exact rrRead_answer np thread n r
  case enable =>
    intro may off
    exact Does.intro (writeReg_taken may wdtOn) (wdtOn_effects off)
  case kick =>
    intro may
    exact writeReg_taken may fun s => wdtKick s b
  case expiry =>
    intro awake going on out
    refine ⟨?_, ?_⟩
    · have reset := resetBy_resetBy s 3
      refine Does.intro (congrArg Host.Outcome.next (wdtExpiry_out awake going on out false)) ?_
      exact ⟨reset.cause, reset.thr, reset.near, reset.retain, reset.safe⟩
    · refine Does.intro (congrArg Host.Outcome.next (wdtExpiry_out awake going on out true)) ?_
      rw [if_pos rfl, wdtKick, if_pos rfl, count_ao]
      exact ⟨(rd_send ..).trans (rd_wr_same _ _ _ _), by simp, by simp [SameMemory]⟩

end Sys2Proof.Proofs
end

section
/-!
SUPPORT. RUN as the ROM enters it (R153, R167, R168, R190): the image's digest in the ROM record, the mode, T0 and the overlay.
-/
namespace Sys2Proof.Proofs
open Sys2Proof.Machine Sys2Proof.Laws

variable {s t : State} {how entry : Nat}

/-- What a map reads after a run of its keys has been written. -/
theorem mget_foldl_mset {α : Type} [DecidableEq α] (d : Nat → α) (m : SMap α) (base n : Nat) (f : Nat → α) (k : Nat) :
    mget d ((List.range n).foldl (fun m i => mset d m (base + i) (f i)) m) k = if base ≤ k ∧ k < base + n then f (k - base) else mget d m k := by
  induction n with
  | zero =>
    have empty : ¬ (base ≤ k ∧ k < base + 0) := by omega
    rw [if_neg empty]
    rfl
  | succ n ih =>
    rw [List.range_succ, List.foldl_append, List.foldl_cons, List.foldl_nil, mget_mset, ih]
    by_cases last : k = base + n
    · have within : base ≤ k ∧ k < base + (n + 1) := by omega
      have place : k - base = n := by omega
      rw [if_pos last, if_pos within, place]
    · have same : (base ≤ k ∧ k < base + (n + 1)) ↔ (base ≤ k ∧ k < base + n) := by omega
      simp only [last, if_false, same]

/-- The ROM record holds the digest once it is stored (R167). -/
theorem mget_storeDigest {i : Nat} (inside : i < 32) : mget (fun _ => 0) (storeDigest s).retain (0x1FC0 + i) = (digestNow s).getD i 0 := by
  have within : 0x1FC0 ≤ 0x1FC0 + i ∧ 0x1FC0 + i < 0x1FC0 + 32 := by omega
  have place : 0x1FC0 + i - 0x1FC0 = i := by omega
  rw [storeDigest, mget_foldl_mset, if_pos within, place]

theorem thr_congr (same : t.thr = s.thr) (n : Nat) : thr t n = thr s n := by rw [thr, same, thr]

/-! ## The mode -/

/-- PMU_MODE and PMU_BOOTSTAT as RUN sets them. -/
def modeRun (s : State) (how : Nat) : State := wf (wr s .PMU_BOOTSTAT 0 (BitVec.ofNat 32 how)) .PMU_MODE 0 2 0 1

theorem modeRun_reads (s : State) (how : Nat) : inRun (modeRun s how) = true ∧ rd (modeRun s how) .PMU_BOOTSTAT 0 = BitVec.ofNat 32 how := by
  have narrow (v : Quad) : fld v 1 0 = fld v 2 0 % 4 := by
    simp only [fld]
    omega
  refine ⟨?_, ?_⟩
  · have mode : rf (modeRun s how) .PMU_MODE 0 2 0 = 1 := rf_wf_same _ _ _ _ (by decide) (by decide)
    rw [inRun, rf, narrow, ← rf, mode]
    rfl
  · rw [modeRun, rd_wf_ne _ _ _ _ _ _ _ _ (by decide), rd_wr_same]

theorem runAs_eq (s : State) (how : Nat) : runAs s how = monEnd (safeStop (modeRun s how)) := rfl

theorem monEnd_rd_ne {r : Rg} {i : Nat} (apart : regAddr r i ≠ regAddr .DBG_STAT 0) : rd (monEnd s) r i = rd s r i := by
  rw [monEnd, rd_wb_ne _ _ _ _ _ _ _ apart]
  rfl

/-- A system register but DBG_STAT reads in RUN as the change of mode left it. -/
theorem rd_runAs {r : Rg} {i : Nat} (system : SystemAddr (regAddr r i)) (apart : regAddr r i ≠ regAddr .DBG_STAT 0) :
    rd (runAs s how) r i = rd (modeRun s how) r i := by
  rw [runAs_eq, monEnd_rd_ne apart, (LeavesSystem.refl _).safeStop.rd system]

theorem runAs_memory (s : State) (how : Nat) : SameMemory s (runAs s how) :=
  SameMemory.trans (SameMemory.trans (wr_memory _ _ _ _) (wr_memory _ _ _ _)) (SameMemory.trans (LeavesSystem.refl (modeRun s how)).safeStop.sameMemory
    (SameMemory.trans (SameMemory.refl _) (wr_memory _ _ _ _)))

theorem runAs_thr (s : State) (how : Nat) : (runAs s how).thr = s.thr := (LeavesSystem.refl (modeRun s how)).safeStop.thr

theorem runAs_mon (s : State) (how : Nat) : (runAs s how).mon.open_ = false := rfl

theorem rb_session_runAs (s : State) (how : Nat) : rb (runAs s how) .DBG_STAT 0 1 = false := rb_wb_same _ _ _ _ _ (by decide)

/-! ## T0 and the overlay -/

/-- T0 as it enters RUN at a word of IRAM (R168). -/
def enteredAt (th : Thread) (entry : Nat) : Thread :=
  { th with
    st := if th.st = .halted then .halted else .running, park := .none, pc := BitVec.ofNat 16 entry, target := none, world := false }

/-- ROMOFF is set and T0 jumps to the entry. -/
def jumpsTo (s : State) (entry : Nat) : State :=
  setThr (wb (setDev s { s.dev with romoffGo := true }) .PMU_IMAP 0 0 true) 0 (enteredAt (thr s 0) entry)

theorem romRun_eq (s : State) (how entry : Nat) : romRun s how entry = settleHalt (overlayOff (jumpsTo (runAs s how) entry) 0 true) 0 := rfl

theorem settleHalt_none {n : Nat} (none : (thr s n).haltPend = none) : settleHalt s n = s := by
  rw [settleHalt, none]

/-- The overlay is released; DBG_ARM does not ask for a halt (R168, R1102). -/
theorem overlayOff_unarmed (go : s.dev.romoffGo = true) (unarmed : rb s .DBG_ARM 0 0 = false) :
    overlayOff s 0 true = setDev s { s.dev with overlay := false, romoffArmed := false, romoffGo := false } := by
  simp only [overlayOff, go, and_self, if_true, rb_setDev, unarmed, Bool.false_and, Bool.false_eq_true, if_false]

theorem rd_jumpsTo {r : Rg} {i : Nat} (apart : regAddr r i ≠ regAddr .PMU_IMAP 0) : rd (jumpsTo s entry) r i = rd s r i := by
  rw [jumpsTo, rd_setThr, rd_wb_ne _ _ _ _ _ _ _ apart, rd_setDev]

theorem thr_jumpsTo_zero (s : State) (entry : Nat) : thr (jumpsTo s entry) 0 = enteredAt (thr s 0) entry := thr_setThr_same _ _ _

theorem thr_jumpsTo_ne {n : Nat} (other : n ≠ 0) : thr (jumpsTo s entry) n = thr s n := thr_setThr_ne _ _ _ _ other

theorem jumpsTo_memory (s : State) (entry : Nat) : SameMemory s (jumpsTo s entry) := SameMemory.refl s

/-- RUN has been entered from `s` as `how` says, with T0 at a word of IRAM. -/
structure Runs (s : State) (how entry : Nat) (t : State) : Prop where
  mode : inRun t = true
  how : rd t .PMU_BOOTSTAT 0 = BitVec.ofNat 32 how
  closed : t.mon.open_ = false
  session : rb t .DBG_STAT 0 1 = false
  entered : thr t 0 = enteredAt (thr s 0) entry
  overlay : t.dev.overlay = false
  others : ∀ n, n ≠ 0 → thr t n = thr s n
  memory : SameMemory s t

/-- A thread that was not halted runs on from the entry in keeper world. -/
theorem Runs.effects (runs : Runs s how entry t) (going : (thr s 0).st ≠ .halted) : inRun t = true ∧
    rd t .PMU_BOOTSTAT 0 = BitVec.ofNat 32 how ∧ t.mon.open_ = false ∧ rb t .DBG_STAT 0 1 = false ∧ (thr t 0).st = .running ∧
      (thr t 0).pc = BitVec.ofNat 16 entry ∧ (thr t 0).world = false ∧ t.dev.overlay = false ∧ (∀ n, n ≠ 0 → thr t n = thr s n) ∧
      t.near = s.near ∧ t.iram = s.iram := by
  obtain ⟨near, _, iram, _⟩ := runs.memory
  refine ⟨runs.mode, runs.how, runs.closed, runs.session, ?_, ?_, ?_, runs.overlay, runs.others, near, iram⟩ <;> rw [runs.entered, enteredAt]
  exact if_neg going

theorem romRun_runs (calm : (thr s 0).haltPend = none) (unarmed : rb s .DBG_ARM 0 0 = false) : Runs s how entry (romRun s how entry) := by
  have threads : ∀ n, thr (runAs s how) n = thr s n := thr_congr (runAs_thr s how)
  have unasked : rb (jumpsTo (runAs s how) entry) .DBG_ARM 0 0 = false := by
    rw [rb, rd_jumpsTo (by decide), rd_runAs (by decide) (by decide), modeRun, rd_wf_ne _ _ _ _ _ _ _ _ (by decide),
      rd_wr_ne _ _ _ _ _ _ (by decide), ← rb, unarmed]
  have entered : thr (jumpsTo (runAs s how) entry) 0 = enteredAt (thr s 0) entry := by rw [thr_jumpsTo_zero, threads]
  have answer : romRun s how entry = setDev (jumpsTo (runAs s how) entry)
      { (jumpsTo (runAs s how) entry).dev with overlay := false, romoffArmed := false, romoffGo := false } := by
    rw [romRun_eq, overlayOff_unarmed rfl unasked, settleHalt_none]
    rw [thr_congr (setDev_thr _ _), entered]
    exact calm
  have mode : rd (jumpsTo (runAs s how) entry) .PMU_MODE 0 = rd (modeRun s how) .PMU_MODE 0 := by
    rw [rd_jumpsTo (by decide), rd_runAs (by decide) (by decide)]
  obtain ⟨runs, boot⟩ := modeRun_reads s how
  rw [answer]
  refine ⟨?_, ?_, ?_, ?_, ?_, ?_, fun n other => ?_, ?_⟩
  · rw [inRun, rf, rd_setDev, mode]
    exact runs
  · rw [rd_setDev, rd_jumpsTo (by decide), rd_runAs (by decide) (by decide), boot]
  · rw [setDev_mon]
    exact runAs_mon s how
  · rw [rb_setDev, rb, rd_jumpsTo (by decide), ← rb, rb_session_runAs]
  · rw [thr_congr (setDev_thr _ _), entered]
  · rw [setDev_dev]
  · rw [thr_congr (setDev_thr _ _), thr_jumpsTo_ne other, threads]
  · exact SameMemory.trans (runAs_memory s how) (jumpsTo_memory (runAs s how) entry)

end Sys2Proof.Proofs
end

section
/-!
Chapter 03: RUN, DOZE, STANDBY and the wake (R153-R195).
-/
namespace Sys2Proof.Proofs
open Sys2Proof.Machine Sys2Proof.Laws

variable {s : State} {req : Nat}

/-! ## RUN and DOZE -/

theorem runWrite_enters (safe : inRun s = false) (rom : fromRom s req = true) (passed : romMayRun s = true) : runWrite s req = enterRun s := by
  simp [runWrite, safe, rom, passed]

theorem runWrite_ignored (no : fromRom s req = false ∨ romMayRun s = false) : runWrite s req = s := by
  rcases no with no | no <;> simp [runWrite, no]

theorem dozeEntry_dozes (run : inRun s = true) (asked : rb s .PMU_CTL 0 0 = true) (free : s.dev.stbyReq = false)
    (still : ∀ n, n < 8 → wouldUnpark s n = false ∧ mayDoze (thr s n) = true) : dozeEntry s = setDev s { s.dev with doze := true } := by
  have none : (List.range 8).any (wouldUnpark s) = false := by
    rw [List.any_eq_false]
    intro n hn
    simp [(still n (List.mem_range.1 hn)).1]
  have all : ((List.range 8).all fun n => mayDoze (thr s n)) = true := by
    rw [List.all_eq_true]
    intro n hn
    exact (still n (List.mem_range.1 hn)).2
  simp only [dozeEntry, run, asked, free, none, all, Bool.not_false, Bool.and_self, if_true]

/-! ## STANDBY asked for -/

/-- STANDBY has been asked for, before the SPI port gives up its fill (R182 step 1). -/
def stbyAsked (s : State) : State := wr (setDev s { s.dev with stbyReq := true, doze := false }) .PMU_STBYSTAT 0 0

theorem stbyRequest_effects (run : inRun s = true) (first : s.dev.stbyReq = false) : let t := stbyRequest s
    t.dev.stbyReq = true ∧ t.dev.doze = false ∧ rd t .PMU_STBYSTAT 0 = 0 ∧ t.thr = s.thr ∧ SameMemory s t := by
  have answer : stbyRequest s = if islandRuns (stbyAsked s) .serial then spiShow (spiStandby (stbyAsked s)) else stbyAsked s := by
    simp only [stbyRequest, run, first, Bool.true_eq_false, Bool.false_eq_true, or_self, if_false]
    rfl
  have kept : LeavesSystem (stbyAsked s) (stbyRequest s) := by
    rw [answer]
    exact LeavesSystem.ite (LeavesSystem.refl _).spiStandby.spiShow (.refl _)
  have asked : (stbyAsked s).dev = { s.dev with stbyReq := true, doze := false } := rfl
  have memory : SameMemory s (stbyAsked s) := by simp [stbyAsked, SameMemory]
  refine ⟨?_, ?_, ?_, kept.thr, SameMemory.trans memory kept.sameMemory⟩
  · rw [kept.dev, asked]
  · rw [kept.dev, asked]
  · rw [kept.rd (by decide), stbyAsked, rd_wr_same]

/-- A hand-over in progress aborts the entry with cause 3 (R182, R183). -/
theorem stbyDrained_aborts (asked : s.dev.stbyReq = true) (drained : s.xfly = []) {n : Nat} (block : n < 31) (busy : hoPhase s n ≠ 0) :
    stbyDrained s = stbyAbort s 3 := by
  have some : ((List.range 31).any fun n => hoPhase s n != 0) = true := List.any_eq_true.2 ⟨n, List.mem_range.2 block, by simpa using busy⟩
  simp only [stbyDrained, asked, drained, some, Bool.true_eq_false, ne_eq, not_true, or_self, if_false, true_or, if_true]

/-- With nothing against it the entry goes to its end (R182). -/
theorem stbyDrained_enters (asked : s.dev.stbyReq = true) (drained : s.xfly = []) (free : ∀ n, n < 31 → hoPhase s n = 0)
    (keeper : rf s .TG_KRST 0 2 1 = 0) (books : rd (closeBooks s) .LED_FAILED 0 = rd s .LED_FAILED 0)
    (asleep : wakePending (closeBooks s) = false) : stbyDrained s = stbyEnter (closeBooks s) := by
  have none : ((List.range 31).any fun n => hoPhase s n != 0) = false := by
    rw [List.any_eq_false]
    intro n hn
    simp [free n (List.mem_range.1 hn)]
  simp [stbyDrained, asked, drained, none, keeper, books, asleep]

/-! ## STANDBY entered -/

/-- The state of the ICU in the AO retention registers stays over a reset of the islands (R549). -/
theorem islandsReset_icu (s : State) (wdt pins iram : Bool) : let t := islandsReset s wdt pins iram
    t.dev.retRet = s.dev.retRet ∧ t.dev.retPend = s.dev.retPend := by
  simp only [islandsReset, (nvPowerLoss_nvOnly s).dev, and_self]

/-- The device in STANDBY before its look at the wake pins (R182, R185). -/
def standby (s : State) : State :=
  showSession (setDev (wb (islandsReset (icuSave s) true true (rb s .PMU_CTL 0 1)) .RTC_FLAGS 0 0 (rb s .PMU_CTL 0 1))
    { (islandsReset (icuSave s) true true (rb s .PMU_CTL 0 1)).dev with phase := .standby })

theorem standby_memory (s : State) : SameMemory (islandsReset (icuSave s) true true (rb s .PMU_CTL 0 1)) (standby s) := by
  simp [standby, showSession, SameMemory]

theorem stbyEnter_effects (s : State) : let t := stbyEnter s
    t.dev.phase = .standby ∧ t.thr = [] ∧ t.near = [] ∧ t.dev.retRet = s.icu.ret ∧ t.dev.retPend = s.icu.pend ∧
      t.iram = (if rb s .PMU_CTL 0 1 then s.iram else []) ∧ t.retain = s.retain := by
  have seen : ReleaseOnly (standby s) (stbyEnter s) := wakeUpdate_releaseOnly _
  have phase : (stbyEnter s).dev.phase = .standby := phase_wakeUpdate (standby s)
  obtain ⟨thr, near, iram, retain, _⟩ := islandsReset_fields (icuSave s) true true (rb s .PMU_CTL 0 1)
  obtain ⟨ret, pend⟩ := islandsReset_icu (icuSave s) true true (rb s .PMU_CTL 0 1)
  obtain ⟨near', _, iram', retain', _⟩ := SameMemory.trans (standby_memory s) seen.memory
  have dev : (standby s).dev = { (islandsReset (icuSave s) true true (rb s .PMU_CTL 0 1)).dev with phase := .standby } := rfl
  refine ⟨phase, seen.thr.trans thr, near'.trans near, ?_, ?_, iram'.trans iram, retain'.trans retain⟩ <;> rw [seen.dev, dev]
  · exact ret
  · exact pend

/-! ## The wake -/

/-- The wake's source is noted (R190). -/
def wakeNoted (s : State) (src : Nat) : State :=
  setDev (wb s .RTC_WAKESRC 0 src true) { s.dev with waking := true, wakeSrc := ([37, 38, 36, 101] : List Nat).getD src 0 }

/-- The woken device before its release. -/
def wakeHeld (s : State) (src : Nat) : State :=
  showSession (setCause (islandsReset (wakeNoted s src) false true (rb (wakeNoted s src) .RTC_FLAGS 0 0)) 4)

theorem wakeHeld_memory (s : State) (src : Nat) :
    SameMemory (islandsReset (wakeNoted s src) false true (rb (wakeNoted s src) .RTC_FLAGS 0 0)) (wakeHeld s src) :=
  SameMemory.trans (wr_memory _ _ _ _) (wr_memory _ _ _ _)

theorem wakeBy_eq {src : Nat} (asleep : s.dev.phase = .standby) (on : wakeOn s src = true) :
    wakeBy s src = wakeUpdate (leaveReset (wakeHeld s src)) := by
  simp only [wakeBy, asleep, on, ne_eq, not_true, Bool.true_eq_false, or_self, if_false]
  rfl

/-- An enabled source that is active wakes a device with its supplies (R138, R190). -/
theorem wakeBy_effects {src : Nat} (four : src < 4) (asleep : s.dev.phase = .standby) (on : wakeOn s src = true) (supply : s.dev.vdd33 = true)
    (supplied : s.dev.vddao = true) (high : s.dev.rstnLow = false) : let t := wakeBy s src
    rb t .RTC_WAKESRC 0 src = true ∧ rd t .PMU_RSTCAUSE 0 = 16 ∧ t.dev.phase = .clearing ∧ t.dev.waking = true ∧ t.retain = s.retain ∧
      t.iram = (if rb s .RTC_FLAGS 0 0 then s.iram else []) := by
  have released : ReleaseOnly (wakeHeld s src) (wakeBy s src) := by
    rw [wakeBy_eq asleep on]
    exact (leaveReset_releaseOnly _).trans (wakeUpdate_releaseOnly _)
  have phase : (wakeBy s src).dev.phase = releasePhase (wakeHeld s src) := by
    rw [wakeBy_eq asleep on]
    exact (phase_wakeUpdate _).trans (phase_leaveReset _)
  obtain ⟨_, _, iram, retain, _, _, vdd33, vddao, rstnLow, waking⟩ :=
    islandsReset_fields (wakeNoted s src) false true (rb (wakeNoted s src) .RTC_FLAGS 0 0)
  obtain ⟨_, _, iram', retain', _⟩ := SameMemory.trans (wakeHeld_memory s src) released.memory
  have dev : (wakeHeld s src).dev = (islandsReset (wakeNoted s src) false true (rb (wakeNoted s src) .RTC_FLAGS 0 0)).dev := rfl
  have valid : rb (wakeNoted s src) .RTC_FLAGS 0 0 = rb s .RTC_FLAGS 0 0 := by
    rw [wakeNoted, rb_setDev, rb_wb_ne _ _ _ _ _ _ _ _ (by decide)]
  refine ⟨?_, ?_, ?_, ?_, retain'.trans retain, ?_⟩
  · rw [rb, released.rd, wakeHeld, showSession, rd_wb_ne _ _ _ _ _ _ _ (by decide), setCause, rd_wr_ne _ _ _ _ _ _ (by decide),
      rd_islandsReset_kept (by decide) (by decide), ← rb, wakeNoted, rb_setDev, rb_wb_same _ _ _ _ _ (by omega)]
  · rw [released.rd, wakeHeld, showSession, rd_wb_ne _ _ _ _ _ _ _ (by decide), setCause, rd_wr_same]
    rfl
  · have there : (wakeNoted s src).dev.vdd33 = true ∧ (wakeNoted s src).dev.vddao = true ∧ (wakeNoted s src).dev.rstnLow = false :=
      ⟨supply, supplied, high⟩
    obtain ⟨there33, thereAo, highNow⟩ := there
    rw [phase, releasePhase, dev, vdd33, vddao, rstnLow, there33, thereAo, highNow]
    rfl
  · rw [released.dev, dev]
    exact waking
  · rw [iram', iram, valid]
    rfl

/-- Settles O24: RUN by `Runs`, DOZE and STANDBY by what their entries leave, the wake by what its reset keeps. -/
theorem modesAndStandby : Obligations.ModesAndStandby := by
  refine ⟨fun s req => ⟨?run, ?notRun, ?romoff, ?doze, ?ask, ?askSafe⟩, fun s src => ⟨?enter, ?handOver, ?wake, ?noWake⟩⟩
  case run =>
    intro may safe rom early unarmed calm going
    have entering (mayRun : romMayRun s = true) : exec (.enterRun req) s = .next (enterRun s) := by
      rw [← runWrite_enters safe rom mayRun]
      exact writeReg_taken may fun s => runWrite s req
    refine ⟨fun slow passed => ?_, fun fast => ?_⟩
    · have answer := entering (by simp [romMayRun, early, passed])
      rw [enterRun, slow, if_neg Bool.false_ne_true] at answer
      have runs : Runs (storeDigest s) s.dev.romPass (hdrEntry (s.dev.hdr.getD [])) _ := romRun_runs calm unarmed
      obtain ⟨_, _, _, retain, _⟩ := runs.memory
      exact Does.intro answer ⟨runs.effects going, fun i hi => by rw [retain, mget_storeDigest hi]⟩
    · have answer := entering (by simp [romMayRun, early, fast])
      rw [enterRun, if_pos fast] at answer
      have runs : Runs s 0x20 (rn s .RTC_WAKEVEC 0) _ := romRun_runs calm unarmed
      obtain ⟨_, _, _, retain, _⟩ := runs.memory
      exact Does.intro answer ⟨runs.effects going, retain⟩
  case notRun =>
    intro may no
    rw [show exec (.enterRun req) s = .next (runWrite s req) from writeReg_taken may fun s => runWrite s req, runWrite_ignored no]
  case romoff =>
    intro may
    exact writeReg_taken may fun s => setDev (wb s .PMU_IMAP 0 0 true) { s.dev with romoffArmed := true }
  case doze =>
    intro live run asked free still
    rw [← dozeEntry_dozes run asked free still]
    exact liveIn_live live dozeEntry
  case ask =>
    intro may run first
    exact Does.intro (writeReg_taken may stbyRequest) (stbyRequest_effects run first)
  case askSafe =>
    intro may safe
    have ignored : stbyRequest s = s := by simp [stbyRequest, safe]
    exact (writeReg_taken may stbyRequest).trans (congrArg Host.Outcome.next ignored)
  case enter =>
    intro live asked drained free keeper books asleep
    have kept := (LeavesSystem.refl s).closeBooks
    obtain ⟨_, _, iram, retain, _⟩ := kept.sameMemory
    have entered := stbyEnter_effects (closeBooks s)
    rw [iram, retain, ← stbyDrained_enters asked drained free keeper books asleep] at entered
    exact Does.intro (liveIn_live live stbyDrained) entered
  case handOver =>
    intro live asked drained busy
    obtain ⟨n, block, busy⟩ := busy
    refine Does.intro ((liveIn_live live stbyDrained).trans (congrArg Host.Outcome.next (stbyDrained_aborts asked drained block busy))) ?_
    exact ⟨rfl, by rw [stbyAbort, rd_setDev, rd_wr_same]; rfl, rfl, by simp [stbyAbort, SameMemory]⟩
  case wake =>
    intro asleep on supply supplied high
    exact Does.intro rfl (wakeBy_effects src.isLt asleep on supply supplied high)
  case noWake =>
    intro off
    exact congrArg Host.Outcome.next (by simp [wakeBy, off])

end Sys2Proof.Proofs
end

section
/-!
SUPPORT. The requests of the resident monitor (R1108-R1114): when one is heard, and what hearing it leaves as it is.
-/
namespace Sys2Proof.Proofs
open Sys2Proof.Machine Sys2Proof.Laws

variable {s t : State} {usb : Bool} {cmd : Nat} {p : List Byte} {crc : Word}

/-- The monitor hears requests of a port (R1108): in SAFE, the port enabled and clocked, no bus command under way. -/
structure Hears (s : State) (usb : Bool) : Prop where
  live : Live s (if usb then .usb else .serial)
  safe : inRun s = false
  idle : s.dbg.run = none
  ports : s.dev.portsUp = true
  clocked : usb = true ∨ s.dev.onB = true

/-- A request as its port brings it (R1109, R1110): no longer than the buffer, on UART0 with its CRC. -/
abbrev Framed (usb : Bool) (cmd : Nat) (p : List Byte) (crc : Word) : Prop :=
  p.length ≤ 1024 ∧ (usb = true ∨ crc.toNat = kxCrc ([BitVec.ofNat 8 cmd] ++ leBytes 2 p.length ++ p))

namespace Hears

variable (hears : Hears s usb) (f : State → State)
include hears

theorem row : monitorRow s usb cmd p crc f = .next (
    if !usb && crc.toNat != kxCrc ([BitVec.ofNat 8 cmd] ++ leBytes 2 p.length ++ p) then monAnswer s usb 4 []
    else if 1024 < p.length then monAnswer s usb 3 []
    else if cmd = 1 then f (monHeard s)
    else if rb s .PMU_MODE 0 2 = false then monAnswer s usb 0x0B []
    else f (monHeard (monOpen s))) := by
  have clocked : ¬ (usb = false ∧ s.dev.onB = false) := by
    rintro ⟨port, off⟩
    rcases hears.clocked with isUsb | on
    · exact Bool.false_ne_true (port.symm.trans isUsb)
    · exact Bool.false_ne_true (off.symm.trans on)
  have taken : ¬ (inRun s = true ∨ s.dbg.run.isSome = true ∨ s.dev.portsUp = false ∨ (usb = false ∧ s.dev.onB = false)) := by
    simp [hears.safe, hears.idle, hears.ports, clocked]
  rw [monitorRow, liveIn_live hears.live, if_neg taken]

/-- A wrong CRC on UART0 is answered with CRC (R1109). -/
theorem badCrc (uart : usb = false) (wrong : crc.toNat ≠ kxCrc ([BitVec.ofNat 8 cmd] ++ leBytes 2 p.length ++ p)) :
    monitorRow s usb cmd p crc f = .next (monAnswer s usb 4 []) := by
  have no : (!usb && crc.toNat != kxCrc ([BitVec.ofNat 8 cmd] ++ leBytes 2 p.length ++ p)) = true := by
    rw [uart, Bool.not_false, Bool.true_and]
    exact bne_iff_ne.2 wrong
  rw [hears.row, if_pos no]

theorem framed (good : Framed usb cmd p crc) : monitorRow s usb cmd p crc f = .next (
    if cmd = 1 then f (monHeard s)
    else if rb s .PMU_MODE 0 2 = false then monAnswer s usb 0x0B []
    else f (monHeard (monOpen s))) := by
  obtain ⟨short, checked⟩ := good
  have right : ¬ (!usb && crc.toNat != kxCrc ([BitVec.ofNat 8 cmd] ++ leBytes 2 p.length ++ p)) = true := by
    rcases checked with isUsb | same
    · simp [isUsb]
    · rw [same]
      simp
  rw [hears.row, if_neg right, if_neg (Nat.not_lt.2 short)]

/-- Before SAFE-hold a request but STATUS is answered with BUSY (R1108). -/
theorem early (good : Framed usb cmd p crc) (other : cmd ≠ 1) (loading : rb s .PMU_MODE 0 2 = false) :
    monitorRow s usb cmd p crc f = .next (monAnswer s usb 0x0B []) := by
  rw [hears.framed f good, if_neg other, if_pos loading]

/-- In SAFE-hold a request opens the session and has its effect (R1113). -/
theorem held (good : Framed usb cmd p crc) (other : cmd ≠ 1) (hold : rb s .PMU_MODE 0 2 = true) :
    monitorRow s usb cmd p crc f = .next (f (monHeard (monOpen s))) := by
  rw [hears.framed f good, if_neg other, hold, if_neg (by decide)]

end Hears

/-! ## What a request that is heard leaves as it is -/

/-- The session is open (R1113), before its LED shows. -/
def sessionOpen (s : State) : State := wb (setMon s { s.mon with open_ := true }) .DBG_STAT 0 1 true

theorem monHeard_leavesSystem (h : LeavesSystem s t) : LeavesSystem s (monHeard t) :=
  LeavesSystem.ite ((LeavesSystem.ite (h.count _ _) h).startTimer _ _) h

theorem heard_leavesSystem (s : State) : LeavesSystem (sessionOpen s) (monHeard (monOpen s)) :=
  monHeard_leavesSystem (LeavesSystem.refl _).statShow

/-- From `s` to `t` a request has been heard: the session is open, and of the system's registers only DBG_STAT differs. -/
structure Heard (s t : State) : Prop where
  dev : t.dev = s.dev
  thr : t.thr = s.thr
  memory : SameMemory s t
  nv : t.nv = s.nv
  mon : t.mon = { s.mon with open_ := true }
  rd : ∀ {r : Rg} {i : Nat}, SystemAddr (regAddr r i) → regAddr r i ≠ regAddr .DBG_STAT 0 → rd t r i = rd s r i

theorem heard_heard (s : State) : Heard s (monHeard (monOpen s)) := by
  have kept := heard_leavesSystem s
  have opened : SameMemory s (sessionOpen s) := by simp [sessionOpen, SameMemory]
  refine ⟨kept.dev, kept.thr, SameMemory.trans opened kept.sameMemory, ?_, ?_, fun system apart => ?_⟩
  · rw [kept.others]
    rfl
  · rw [kept.others]
    rfl
  · rw [kept.rd system, sessionOpen, rd_wb_ne _ _ _ _ _ _ _ apart]
    rfl

theorem Heard.rb (heard : Heard s t) {r : Rg} {i : Nat} (system : SystemAddr (regAddr r i)) (apart : regAddr r i ≠ regAddr .DBG_STAT 0) (b : Nat) :
    rb t r i b = rb s r i b := by rw [Machine.rb, heard.rd system apart, Machine.rb]

theorem Heard.rf (heard : Heard s t) {r : Rg} {i : Nat} (system : SystemAddr (regAddr r i)) (apart : regAddr r i ≠ regAddr .DBG_STAT 0)
    (hi lo : Nat) : rf t r i hi lo = rf s r i hi lo := by rw [Machine.rf, heard.rd system apart, Machine.rf]

/-- STATUS reads the same before and after its request is heard. -/
theorem statusBytes_monHeard (s : State) : statusBytes (monHeard s) = statusBytes s := by
  have kept := monHeard_leavesSystem (.refl s)
  have halted : hstat (monHeard s) = hstat s := by simp only [hstat, thr_congr kept.thr]
  have id : rd (monHeard s) .DBG_ID 0 = rd s .DBG_ID 0 := kept.rd (by decide)
  have mode : rf (monHeard s) .PMU_MODE 0 1 0 = rf s .PMU_MODE 0 1 0 := kept.rf (by decide) _ _
  have boot : rd (monHeard s) .PMU_BOOTSTAT 0 = rd s .PMU_BOOTSTAT 0 := kept.rd (by decide)
  have cause : rd (monHeard s) .PMU_RSTCAUSE 0 = rd s .PMU_RSTCAUSE 0 := kept.rd (by decide)
  have enables : rd (monHeard s) .TG_DBGEN 0 = rd s .TG_DBGEN 0 := kept.rd (by decide)
  simp only [statusBytes, rn, id, kept.dev, mode, boot, cause, enables, halted]

/-! ## Answers -/

/-- The answer that stands at a port. -/
abbrev Said (usb : Bool) (status : Nat) (bs : List Byte) (t : State) : Prop := (if usb then t.mon.usb else t.mon.uart) = some (status, bs)

variable (s : State) (usb : Bool) (status : Nat) (bs : List Byte)

theorem monAnswer_said : Said usb status bs (monAnswer s usb status bs) := by cases usb <;> rfl

@[simp] theorem monAnswer_dev : (monAnswer s usb status bs).dev = s.dev := rfl

@[simp] theorem monAnswer_thr : (monAnswer s usb status bs).thr = s.thr := rfl

@[simp] theorem monAnswer_near : (monAnswer s usb status bs).near = s.near := rfl

@[simp] theorem monAnswer_iram : (monAnswer s usb status bs).iram = s.iram := rfl

@[simp] theorem monAnswer_nv : (monAnswer s usb status bs).nv = s.nv := rfl

@[simp] theorem monAnswer_loaded : (monAnswer s usb status bs).mon.loaded = s.mon.loaded := by cases usb <;> rfl

@[simp] theorem monAnswer_open : (monAnswer s usb status bs).mon.open_ = s.mon.open_ := by cases usb <;> rfl

@[simp] theorem rd_monAnswer (r : Rg) (i : Nat) : rd (monAnswer s usb status bs) r i = rd s r i := rfl

theorem monAnswer_memory : SameMemory s (monAnswer s usb status bs) := by simp [monAnswer, SameMemory]

end Sys2Proof.Proofs
end

section
/-!
SUPPORT. The boot record as PROVISION writes it (R154, R1111): the commit of a page, and the check that lets it.
-/
namespace Sys2Proof.Proofs
open Sys2Proof.Machine Sys2Proof.Laws

variable {s t : State} {usb : Bool} {p : List Byte}

/-! ## A page committed -/

theorem nvWearUp_store (s : State) (n : Nat) : (nvWearUp s n).nvByte = s.nvByte ∧ (nvWearUp s n).nv.blank = s.nv.blank ∧
    (nvWearUp s n).nv.jobs = s.nv.jobs := by
  simp only [nvWearUp, count_serial, raise_serial]
  split <;> split <;> split <;> simp

theorem nvPut_nv (s : State) (n : Nat) (bs : List Byte) : (nvPut s n bs).nv = s.nv := by rw [nvPut]

theorem length_leBytes (n v : Nat) : (leBytes n v).length = n := by
  induction n generalizing v with
  | zero => rfl
  | succ n ih => rw [leBytes, List.length_cons, ih]

/-- A record of a payload that fits fills its page (R1044). -/
theorem length_recBytes {payload : List Byte} (ty seq : Nat) (fits : payload.length ≤ 244) : (recBytes ty seq payload).length = 256 := by
  simp only [recBytes, List.length_append, List.length_cons, List.length_nil, length_leBytes, List.length_replicate]
  omega

/-- What a page holds once it has been put. -/
theorem nvPage_nvPut_same {n : Nat} {bs : List Byte} (whole : bs.length = 256) : nvPage (nvPut s n bs) n = bs := by
  refine List.ext_getElem (by simp [nvPage, whole]) fun o h1 h2 => ?_
  have within : 256 * n ≤ 256 * n + o ∧ 256 * n + o < 256 * n + 256 := by omega
  have place : 256 * n + o - 256 * n = o := by omega
  simp only [nvPage, nvPut, List.getElem_map, List.getElem_range, mget_foldl_mset, within, and_self, if_true, place]
  exact (List.getElem_eq_getD 0xFF).symm

theorem nvPage_nvPut_ne {m n : Nat} (bs : List Byte) (other : m ≠ n) : nvPage (nvPut s n bs) m = nvPage s m := by
  refine List.map_congr_left fun o ho => ?_
  have below := List.mem_range.1 ho
  have outside : ¬ (256 * n ≤ 256 * m + o ∧ 256 * m + o < 256 * n + 256) := by omega
  rw [nvPut, mget_foldl_mset, if_neg outside]

theorem nvPage_congr (same : t.nvByte = s.nvByte) (n : Nat) : nvPage t n = nvPage s n := by rw [nvPage, same, nvPage]

theorem nvBlank_congr (same : t.nv.blank = s.nv.blank) (n : Nat) : nvBlank t n = nvBlank s n := by rw [nvBlank, same, nvBlank]

/-- A page with its new content, before its wear counts. -/
def pagePut (s : State) (n : Nat) (bs : List Byte) : State :=
  setNv (nvPut s n bs) { (nvPut s n bs).nv with
    blank := mset (fun _ => true) (nvPut s n bs).nv.blank n false, donePg := (nvPut s n bs).nv.donePg + 1 }

/-- The commit of a page's write: its content, BLANK, and nothing of another page (R1020, R1033). -/
theorem nvCommit_page {n : Nat} {bs : List Byte} (whole : bs.length = 256) : let t := nvCommit s (.page n bs)
    nvPage t n = bs ∧ nvBlank t n = false ∧ (∀ m, m ≠ n → nvPage t m = nvPage s m ∧ nvBlank t m = nvBlank s m) ∧ t.nv.jobs = s.nv.jobs := by
  obtain ⟨worn, wornBlank, wornJobs⟩ := nvWearUp_store (pagePut s n bs) n
  have answer : nvCommit s (.page n bs) = nvWearUp (pagePut s n bs) n := by rw [nvCommit, pagePut]
  have bytes : (nvWearUp (pagePut s n bs) n).nvByte = (nvPut s n bs).nvByte := by rw [worn, pagePut, setNv_nvByte]
  have blank : (nvWearUp (pagePut s n bs) n).nv.blank = mset (fun _ => true) s.nv.blank n false := by
    rw [wornBlank, pagePut, setNv_nv, nvPut_nv]
  rw [answer]
  refine ⟨(nvPage_congr bytes n).trans (nvPage_nvPut_same whole), ?_, fun m other => ⟨?_, ?_⟩, ?_⟩
  · rw [nvBlank, blank, mget_mset_same]
  · exact (nvPage_congr bytes m).trans (nvPage_nvPut_ne bs other)
  · rw [nvBlank, blank, mget_mset_ne _ _ _ _ other, nvBlank]
  · rw [wornJobs, pagePut, setNv_nv, nvPut_nv]

/-! ## PROVISION -/

/-- The number of the next boot record (R154). -/
def bootSeq (s : State) : Nat :=
  1 + max (if recValid s 0 (some 1) then recSeq (nvPage s 0) else 0) (if recValid s 1 (some 1) then recSeq (nvPage s 1) else 0)

theorem Heard.nvByte (heard : Heard s t) : t.nvByte = s.nvByte := by
  obtain ⟨_, _, _, _, bytes, _⟩ := heard.memory
  exact bytes

theorem Heard.bootSeq (heard : Heard s t) : bootSeq t = bootSeq s := by
  have page := nvPage_congr heard.nvByte
  have valid (n : Nat) : recValid t n (some 1) = recValid s n (some 1) := by simp only [recValid, page, nvBlank, heard.nv]
  simp only [Proofs.bootSeq, valid, page]

theorem Heard.nvProtected (heard : Heard s t) : nvProtected t 0 = nvProtected s 0 := by
  obtain ⟨_, _, _, _, _, _, _, _, _, pads, _⟩ := heard.memory
  simp only [Machine.nvProtected, heard.nv, wpn, padIn, pads, padPull, Nat.le_refl, if_true]

theorem Heard.unitRuns (heard : Heard s t) : unitRuns t 10 = unitRuns s 10 := by
  have state (hi lo : Nat) : Machine.rf t .NV_STATE 0 hi lo = Machine.rf s .NV_STATE 0 hi lo := heard.rf (by decide) (by decide) hi lo
  simp only [Machine.unitRuns, mgmt, dstate, unitReg, state]

/-- Both pages of the boot record written. -/
def bootWritten (s : State) (p : List Byte) : State :=
  nvCommit (nvCommit s (.page 0 (recBytes 1 (bootSeq s) p))) (.page 1 (recBytes 1 (bootSeq s) p))

theorem provision_writes (blank : rf s .PMU_BOOTSTAT 0 3 0 = 4) (long : p.length = 33) (ready : rb s .NV_STAT 0 0 = true)
    (idle : s.nv.run = none) (runs : unitRuns s 10 = true) (free : nvProtected s 0 = false) (room : bootSeq s ≤ 0xFFFFFFFF) :
    provision s usb p = monReset (bootWritten s p) usb := by
  have fits : ¬ (1 + max (if recValid s 0 (some 1) then recSeq (nvPage s 0) else 0) (if recValid s 1 (some 1) then recSeq (nvPage s 1) else 0) >
      0xFFFFFFFF) := Nat.not_lt.2 room
  simp only [provision, blank, long, ready, idle, runs, free, fits, ne_eq, not_true, if_false, Bool.true_eq_false, Bool.false_eq_true,
    Option.isSome_none, or_self]
  rfl

theorem bootWritten_store (long : p.length = 33) (s : State) : let t := bootWritten s p
    nvPage t 0 = recBytes 1 (bootSeq s) p ∧ nvPage t 1 = recBytes 1 (bootSeq s) p ∧ nvBlank t 0 = false ∧ nvBlank t 1 = false ∧
      t.nv.jobs = s.nv.jobs ∧ t.retain = s.retain := by
  have whole : (recBytes 1 (bootSeq s) p).length = 256 := length_recBytes _ _ (by omega)
  obtain ⟨first, firstBlank, _, jobs⟩ := nvCommit_page (s := s) (n := 0) whole
  obtain ⟨second, secondBlank, others, jobs'⟩ := nvCommit_page (s := nvCommit s (.page 0 (recBytes 1 (bootSeq s) p))) (n := 1) whole
  obtain ⟨kept, keptBlank⟩ := others 0 (by decide)
  have store := ((NvOnly.refl s).nvCommit (.page 0 (recBytes 1 (bootSeq s) p))).nvCommit (.page 1 (recBytes 1 (bootSeq s) p))
  have retain : (bootWritten s p).retain = s.retain := by rw [bootWritten, store.others]
  exact ⟨kept.trans first, second, keptBlank.trans firstBlank, secondBlank, jobs'.trans jobs, retain⟩

/-- A reset for the monitor keeps its answer (R1087, R1111). -/
theorem monReset_effects (s : State) (usb : Bool) : let t := monReset s usb
    Said usb 0 [] t ∧ rd t .PMU_RSTCAUSE 0 = 4 ∧ t.thr = [] ∧ t.near = [] ∧ t.iram = [] ∧ t.retain = s.retain ∧ t.pads = s.pads := by
  have reset := resetBy_resetBy s 2
  obtain ⟨near, _, iram, retain, _, _, _, _, _, pads, _⟩ := monAnswer_memory (resetBy s 2) usb 0 []
  exact ⟨monAnswer_said _ _ _ _, (rd_monAnswer ..).trans reset.cause, (monAnswer_thr ..).trans reset.thr, near.trans reset.near, iram.trans reset.iram,
    retain.trans reset.retain, pads.trans reset.pads⟩

/-- The reset after PROVISION leaves the store as it was written. -/
theorem monReset_store (idle : s.nv.jobs = []) (usb : Bool) (n : Nat) :
    nvPage (monReset s usb) n = nvPage s n ∧ nvBlank (monReset s usb) n = nvBlank s n := by
  obtain ⟨bytes, blank⟩ := resetBy_nvStore idle 2
  obtain ⟨_, _, _, _, bytes', _⟩ := monAnswer_memory (resetBy s 2) usb 0 []
  have kept : (monReset s usb).nv.blank = s.nv.blank := by rw [monReset, monAnswer_nv, blank]
  exact ⟨nvPage_congr (bytes'.trans bytes) n, nvBlank_congr kept n⟩

end Sys2Proof.Proofs
end

section
/-!
SUPPORT. The image as the monitor loads it (R159-R163, R1111): its bytes in IRAM.
-/
namespace Sys2Proof.Proofs
open Sys2Proof.Machine Sys2Proof.Laws

variable {s t : State}

/-- The byte of IRAM at a byte offset. -/
abbrev iramByte (s : State) (o : Nat) : Byte := byteOf (iramAt s (o / 4)) (o % 4)

theorem getLsbD_byteOf (v : Quad) (i : Nat) {j : Nat} (hj : j < 8) : (byteOf v i).getLsbD j = v.getLsbD (8 * i + j) := by
  rw [byteOf, BitVec.getLsbD_ofNat, Nat.testBit_div_two_pow, BitVec.testBit_toNat, Nat.add_comm j]
  simp [hj]

/-- A byte of a register value, once one of its bytes is replaced. -/
theorem byteOf_putFld (v : Quad) {i k : Nat} (b : Byte) (hi : i < 4) :
    byteOf (putFld v (8 * i + 7) (8 * i) b.toNat) k = if k = i then b else byteOf v k := by
  refine BitVec.eq_of_getLsbD_eq fun j hj => ?_
  rw [getLsbD_byteOf _ _ hj, getLsbD_putFld _ _ _ _ _ (by omega) (by omega)]
  by_cases here : k = i
  · have within : 8 * i ≤ 8 * k + j ∧ 8 * k + j ≤ 8 * i + 7 := by omega
    have place : 8 * k + j - 8 * i = j := by omega
    rw [if_pos within, if_pos here, place, BitVec.testBit_toNat]
  · have outside : ¬ (8 * i ≤ 8 * k + j ∧ 8 * k + j ≤ 8 * i + 7) := by omega
    rw [if_neg outside, if_neg here, getLsbD_byteOf _ _ hj]

theorem iramByte_imageByte (s : State) (o k : Nat) (b : Byte) : iramByte (imageByte s o b) k = if k = o then b else iramByte s k := by
  rw [iramByte, iramAt, imageByte, mget_mset]
  by_cases word : k / 4 = o / 4
  · rw [if_pos word, byteOf_putFld _ _ (Nat.mod_lt _ (by decide))]
    by_cases here : k = o
    · have same : k % 4 = o % 4 := by rw [here]
      rw [if_pos same, if_pos here]
    · have other : k % 4 ≠ o % 4 := by omega
      rw [if_neg other, if_neg here, iramByte, word]
  · have other : k ≠ o := by
      rintro rfl
      exact word rfl
    rw [if_neg word, if_neg other, iramByte, iramAt]

/-- The first bytes of a run written to IRAM from an offset on. -/
theorem imageRun_iram (s : State) (o n : Nat) (f : Nat → Byte) : let t := forN n s fun s i => imageByte s (o + i) (f i)
    t = { s with iram := t.iram } ∧ ∀ k, iramByte t k = if o ≤ k ∧ k < o + n then f (k - o) else iramByte s k := by
  induction n with
  | zero =>
    refine ⟨rfl, fun k => ?_⟩
    have empty : ¬ (o ≤ k ∧ k < o + 0) := by omega
    rw [if_neg empty]
    rfl
  | succ n ih =>
    have step : (forN (n + 1) s fun s i => imageByte s (o + i) (f i)) = imageByte (forN n s fun s i => imageByte s (o + i) (f i)) (o + n) (f n) := by
      rw [forN, List.range_succ, List.foldl_append, List.foldl_cons, List.foldl_nil, forN]
    obtain ⟨others, bytes⟩ := ih
    rw [step]
    refine ⟨?_, fun k => ?_⟩
    · rw [imageByte, others]
    · rw [iramByte_imageByte, bytes]
      by_cases last : k = o + n
      · have within : o ≤ k ∧ k < o + (n + 1) := by omega
        have place : k - o = n := by omega
        rw [if_pos last, if_pos within, place]
      · have same : (o ≤ k ∧ k < o + (n + 1)) ↔ (o ≤ k ∧ k < o + n) := by omega
        simp only [last, if_false, same]

/-- Image bytes change IRAM only. -/
theorem imageBytes_others (s : State) (o : Nat) (bs : List Byte) : imageBytes s o bs = { s with iram := (imageBytes s o bs).iram } :=
  (imageRun_iram s o bs.length fun i => bs.getD i 0).1

theorem iramByte_imageBytes (s : State) (o : Nat) (bs : List Byte) (k : Nat) :
    iramByte (imageBytes s o bs) k = if o ≤ k ∧ k < o + bs.length then bs.getD (k - o) 0 else iramByte s k :=
  (imageRun_iram s o bs.length fun i => bs.getD i 0).2 k

theorem raise_fabric (s : State) (src : Nat) : raise s .fabric src = send s 1 (.edge src) := raise_send (by decide) s src

end Sys2Proof.Proofs
end

section
/-!
Chapter 21: the resident monitor (R1108-R1114).
-/
namespace Sys2Proof.Proofs
open Sys2Proof.Machine Sys2Proof.Laws

variable {s m : State} {usb : Bool} {p h : List Byte}

/-! ## LOADHDR, LOADDATA, LOADGO on a request that has been heard -/

/-- A header with right fields starts a load: no image byte, IRAM zero, its message begun (R162, R1111). -/
theorem loadHdr_taken (heard : Heard s m) (long : p.length = 256) (ok : fieldsOk p = true) : let t := loadHdr m usb p
    Said usb 0 [] t ∧ t.dev.hdr = some p ∧ t.dev.sha = p.take 128 ∧ t.mon.loaded = 0 ∧ t.iram = [] ∧ t.thr = s.thr ∧
      SameMemory { s with iram := [] } t := by
  have answer : loadHdr m usb p = monAnswer (loadBegin (setMon m { m.mon with loaded := 0 }) p) usb 0 [] := by
    simp only [loadHdr, long, ok, ne_eq, not_true, if_false, if_true]
  obtain ⟨near, bits, _, retain, nvByte, far, tag, written, owner, pads, pending⟩ := heard.memory
  have begun : SameMemory { s with iram := [] } (loadBegin (setMon m { m.mon with loaded := 0 }) p) :=
    ⟨near, bits, rfl, retain, nvByte, far, tag, written, owner, pads, pending⟩
  rw [answer]
  refine ⟨monAnswer_said _ _ _ _, ?_, ?_, monAnswer_loaded _ _ _ _, ?_, ?_, SameMemory.trans begun (monAnswer_memory _ _ _ _)⟩
  · rw [monAnswer_dev, loadBegin]
    rfl
  · rw [monAnswer_dev, loadBegin]
    rfl
  · rw [monAnswer_iram, loadBegin]
  · rw [monAnswer_thr, loadBegin]
    exact heard.thr

/-- A header with a wrong field is answered with BADIMAGE and cause 3 (R163). -/
theorem loadHdr_refused (heard : Heard s m) (long : p.length = 256) (bad : fieldsOk p = false) : let t := loadHdr m usb p
    Said usb 9 [3] t ∧ t.dev.hdr = none ∧ t.thr = s.thr ∧ SameMemory s t := by
  have answer : loadHdr m usb p = monAnswer (setDev (setMon m { m.mon with loaded := 0 }) { m.dev with hdr := none, sha := [] }) usb 9 [3] := by
    simp only [loadHdr, long, bad, ne_eq, not_true, if_false, Bool.false_eq_true]
    rfl
  rw [answer]
  exact ⟨monAnswer_said _ _ _ _, rfl, heard.thr, SameMemory.trans heard.memory (monAnswer_memory _ _ _ _)⟩

theorem loadData_noHeader (heard : Heard s m) (none : s.dev.hdr = none) : loadData m usb p = monAnswer m usb 0x0B [] := by
  simp only [loadData, heard.dev, none]

/-- The state with the bytes of a LOADDATA in IRAM, source 60 raised where they are the image's last (R1111). -/
def dataLoaded (s : State) (h d : List Byte) : State :=
  let t := imageBytes s s.mon.loaded d
  if hdrLen h = s.mon.loaded + d.length then raise t .fabric 60 else t

theorem dataLoaded_others (s : State) (h d : List Byte) : let t := dataLoaded s h d
    t.iram = (imageBytes s s.mon.loaded d).iram ∧ t.dev = s.dev ∧ t.mon = s.mon ∧ t.thr = s.thr ∧ t.near = s.near := by
  have bytes := imageBytes_others s s.mon.loaded d
  have fields : (imageBytes s s.mon.loaded d).dev = s.dev ∧ (imageBytes s s.mon.loaded d).mon = s.mon ∧
      (imageBytes s s.mon.loaded d).thr = s.thr ∧ (imageBytes s s.mon.loaded d).near = s.near := by
    rw [bytes]
    exact ⟨rfl, rfl, rfl, rfl⟩
  simp only [dataLoaded, raise_fabric]
  split
  · exact ⟨rfl, fields⟩
  · exact ⟨rfl, fields⟩

/-- Image bytes in their order go to IRAM and into the message (R1111). -/
theorem loadData_taken (heard : Heard s m) (header : s.dev.hdr = some h) (some4 : 8 ≤ p.length) (most : p.length ≤ 1020)
    (next : leNat (p.take 4) = s.mon.loaded) (fits : s.mon.loaded + (p.length - 4) ≤ hdrLen h) : let t := loadData m usb p
    Said usb 0 [] t ∧ t.mon.loaded = s.mon.loaded + (p.length - 4) ∧ t.dev.sha = s.dev.sha ++ p.drop 4 ∧
      (∀ i, i < p.length - 4 → iramByte t (s.mon.loaded + i) = (p.drop 4).getD i 0) ∧
      (∀ o, (o < s.mon.loaded ∨ s.mon.loaded + (p.length - 4) ≤ o) → iramByte t o = iramByte s o) ∧ t.thr = s.thr ∧ t.near = s.near := by
  have loaded : m.mon.loaded = s.mon.loaded := by rw [heard.mon]
  have length : (p.drop 4).length = p.length - 4 := List.length_drop
  have taken : ¬ ((p.drop 4).length < 4 ∨ 1016 < (p.drop 4).length ∨ leNat (p.take 4) ≠ m.mon.loaded ∨
      hdrLen h < m.mon.loaded + (p.drop 4).length) := by
    rw [loaded, length]
    omega
  have answer : loadData m usb p = monAnswer (setMon (setDev (dataLoaded m h (p.drop 4))
      { (dataLoaded m h (p.drop 4)).dev with sha := (dataLoaded m h (p.drop 4)).dev.sha ++ p.drop 4 })
        { (dataLoaded m h (p.drop 4)).mon with loaded := (dataLoaded m h (p.drop 4)).mon.loaded + (p.drop 4).length }) usb 0 [] := by
    simp only [loadData, heard.dev, header, taken, if_false]
    rfl
  obtain ⟨iram, dev, mon, threads, nears⟩ := dataLoaded_others m h (p.drop 4)
  obtain ⟨near, _, before, _⟩ := heard.memory
  have bytes (k : Nat) : iramByte (loadData m usb p) k =
      if s.mon.loaded ≤ k ∧ k < s.mon.loaded + (p.length - 4) then (p.drop 4).getD (k - s.mon.loaded) 0 else iramByte s k := by
    have own : iramByte m k = iramByte s k := by rw [iramByte, iramAt, before, iramByte, iramAt]
    have put : (loadData m usb p).iram = (imageBytes m m.mon.loaded (p.drop 4)).iram := by
      rw [answer, monAnswer_iram, setMon_iram, setDev_iram, iram]
    have run := iramByte_imageBytes m m.mon.loaded (p.drop 4) k
    rw [iramByte, iramAt, ← put, loaded, length, own] at run
    exact run
  refine ⟨?_, ?_, ?_, fun i hi => ?_, fun o outside => ?_, ?_, ?_⟩
  · rw [answer]
    exact monAnswer_said _ _ _ _
  · rw [answer, monAnswer_loaded, setMon_mon, mon, loaded, length]
  · rw [answer, monAnswer_dev, setMon_dev, setDev_dev, dev, heard.dev]
  · have within : s.mon.loaded ≤ s.mon.loaded + i ∧ s.mon.loaded + i < s.mon.loaded + (p.length - 4) := by omega
    have place : s.mon.loaded + i - s.mon.loaded = i := by omega
    rw [bytes, if_pos within, place]
  · have apart : ¬ (s.mon.loaded ≤ o ∧ o < s.mon.loaded + (p.length - 4)) := by omega
    rw [bytes, if_neg apart]
  · rw [answer, monAnswer_thr, setMon_thr, setDev_thr]
    exact threads.trans heard.thr
  · rw [answer, monAnswer_near, setMon_near, setDev_near]
    exact nears.trans near

theorem imageCheck_heard (heard : Heard s m) (h : List Byte) : imageCheck m h = imageCheck s h := by
  have key : keyOk m h = keyOk s h := by rw [keyOk, heard.dev, keyOk]
  have sign : sigOk m h = sigOk s h := by rw [sigOk, heard.dev, sigOk]
  rw [imageCheck, key, sign, imageCheck]

/-- LOADGO on a complete image that passes its checks enters RUN (R1114). -/
theorem loadGo_runs (heard : Heard s m) (header : s.dev.hdr = some h) (all : s.mon.loaded = hdrLen h) (passes : imageCheck s h = 0)
    (calm : (thr s 0).haltPend = none) (unarmed : rb s .DBG_ARM 0 0 = false) : let t := loadGo m usb []
    Said usb 0 [] t ∧ inRun t = true ∧ rd t .PMU_BOOTSTAT 0 = 0x10 ∧ t.dev.overlay = false ∧ (thr t 0).pc = BitVec.ofNat 16 (hdrEntry h) ∧
      (thr t 0).world = false ∧ (∀ i, i < 32 → mget (fun _ => (0 : Byte)) t.retain (0x1FC0 + i) = (sha256 s.dev.sha).getD i 0) ∧
      t.near = s.near ∧ t.iram = s.iram := by
  have complete : ¬ (m.mon.loaded ≠ hdrLen h) := by
    rw [heard.mon]
    exact not_not.2 all
  have answer : loadGo m usb [] = monAnswer (romRun (storeDigest m) 0x10 (hdrEntry h)) usb 0 [] := by
    simp only [loadGo, heard.dev, header, complete, imageCheck_heard heard, passes, List.isEmpty_nil, Bool.not_true, Bool.false_eq_true, if_false,
      if_true]
  have threads : thr (storeDigest m) 0 = thr s 0 := thr_congr (t := storeDigest m) heard.thr 0
  have runs : Runs (storeDigest m) 0x10 (hdrEntry h) (romRun (storeDigest m) 0x10 (hdrEntry h)) := by
    refine romRun_runs (by rw [threads, calm]) ?_
    rw [← unarmed]
    exact heard.rb (by decide) (by decide) 0
  obtain ⟨near, _, iram, retain, _⟩ := SameMemory.trans runs.memory (monAnswer_memory (romRun (storeDigest m) 0x10 (hdrEntry h)) usb 0 [])
  obtain ⟨near', _, iram', _⟩ := heard.memory
  have entered : thr (monAnswer (romRun (storeDigest m) 0x10 (hdrEntry h)) usb 0 []) 0 = enteredAt (thr (storeDigest m) 0) (hdrEntry h) :=
    (thr_congr (monAnswer_thr ..) 0).trans runs.entered
  rw [answer]
  refine ⟨monAnswer_said _ _ _ _, ?_, (rd_monAnswer ..).trans runs.how, ?_, ?_, ?_, fun i hi => ?_, near.trans near', iram.trans iram'⟩
  · rw [inRun, rf, rd_monAnswer, ← rf, ← inRun]
    exact runs.mode
  · rw [monAnswer_dev]
    exact runs.overlay
  · rw [entered, enteredAt]
  · rw [entered, enteredAt]
  · rw [retain, mget_storeDigest hi, digestNow, heard.dev]

/-- LOADGO on an image that fails a check is answered with BADIMAGE and its cause (R1111). -/
theorem loadGo_refused (heard : Heard s m) (header : s.dev.hdr = some h) (all : s.mon.loaded = hdrLen h) (fails : imageCheck s h ≠ 0)
    (safe : inRun s = false) : let t := loadGo m usb []
    Said usb 9 [BitVec.ofNat 8 (imageCheck s h)] t ∧ inRun t = false ∧ t.thr = s.thr ∧ SameMemory s t := by
  have complete : ¬ (m.mon.loaded ≠ hdrLen h) := by
    rw [heard.mon]
    exact not_not.2 all
  have answer : loadGo m usb [] = monAnswer m usb 9 [BitVec.ofNat 8 (imageCheck s h)] := by
    simp only [loadGo, heard.dev, header, complete, imageCheck_heard heard, fails, List.isEmpty_nil, Bool.not_true, Bool.false_eq_true, if_false]
    rfl
  rw [answer]
  refine ⟨monAnswer_said _ _ _ _, ?_, heard.thr, SameMemory.trans heard.memory (monAnswer_memory _ _ _ _)⟩
  rw [← safe, inRun, rf, rd_monAnswer, ← rf, heard.rf (by decide) (by decide), inRun]

/-! ## END and PROVISION on a request that has been heard -/

/-- END closes the session (R1113). -/
theorem monEnd_closes (heard : Heard s m) : let t := monAnswer (monClose m) usb 0 []
    Said usb 0 [] t ∧ t.mon.open_ = false ∧ rb t .DBG_STAT 0 1 = false ∧ t.thr = s.thr ∧ SameMemory s t := by
  have kept : LeavesSystem (wb (stopTimer (setMon m { m.mon with open_ := false }) tmrMon) .DBG_STAT 0 1 false) (monClose m) :=
    (LeavesSystem.refl _).statShow
  have closed : SameMemory m (wb (stopTimer (setMon m { m.mon with open_ := false }) tmrMon) .DBG_STAT 0 1 false) := by simp [SameMemory]
  refine ⟨monAnswer_said _ _ _ _, ?_, ?_, ?_, ?_⟩
  · rw [monAnswer_open, kept.others]
    rfl
  · rw [rb, rd_monAnswer, ← rb, kept.rb (by decide), rb_wb_same _ _ _ _ _ (by decide)]
  · rw [monAnswer_thr, kept.thr]
    exact heard.thr
  · exact SameMemory.trans heard.memory (SameMemory.trans closed (SameMemory.trans kept.sameMemory (monAnswer_memory _ _ _ _)))

/-- PROVISION of a blank boot record writes both its pages and resets (R154, R1111). -/
theorem provision_effects (heard : Heard s m) (blank : rf s .PMU_BOOTSTAT 0 3 0 = 4) (long : p.length = 33) (ready : rb s .NV_STAT 0 0 = true)
    (idle : s.nv.run = none) (none : s.nv.jobs = []) (runs : unitRuns s 10 = true) (free : nvProtected s 0 = false)
    (room : bootSeq s ≤ 0xFFFFFFFF) : let t := provision m usb p
    Said usb 0 [] t ∧ nvPage t 0 = recBytes 1 (bootSeq s) p ∧ nvPage t 1 = recBytes 1 (bootSeq s) p ∧ nvBlank t 0 = false ∧
      nvBlank t 1 = false ∧ rd t .PMU_RSTCAUSE 0 = 4 ∧ t.retain = s.retain := by
  have writes : provision m usb p = monReset (bootWritten m p) usb :=
    provision_writes ((heard.rf (by decide) (by decide) _ _).trans blank) long ((heard.rb (by decide) (by decide) _).trans ready)
      (by rw [heard.nv, idle]) (heard.unitRuns.trans runs) (heard.nvProtected.trans free) (by rw [heard.bootSeq]; exact room)
  obtain ⟨first, second, blank0, blank1, jobs, retain⟩ := bootWritten_store long m
  have store := monReset_store (s := bootWritten m p) (jobs.trans (by rw [heard.nv, none])) usb
  obtain ⟨said, cause, _, _, _, kept, _⟩ := monReset_effects (bootWritten m p) usb
  obtain ⟨_, _, _, before, _⟩ := heard.memory
  rw [heard.bootSeq] at first second
  rw [writes]
  exact ⟨said, (store 0).1.trans first, (store 1).1.trans second, (store 0).2.trans blank0, (store 1).2.trans blank1, cause,
    kept.trans (retain.trans before)⟩

/-! ## The rows -/

section
variable (s : State) (usb : Bool) (p : List Byte) (crc : Word)

theorem exec_monitorStatus : exec (.monitorStatus usb p crc) s =
    monitorRow s usb 0x01 p crc (monPlain usb p fun s => monAnswer s usb 0 (statusBytes s)) := rfl

theorem exec_monitorReset : exec (.monitorReset usb p crc) s = monitorRow s usb 0x02 p crc (monPlain usb p fun s => monReset s usb) := rfl

theorem exec_monitorRdio : exec (.monitorRdio usb p crc) s = monitorRow s usb 0x10 p crc (monBus usb false false p) := rfl

theorem exec_monitorWrio : exec (.monitorWrio usb p crc) s = monitorRow s usb 0x11 p crc (monBus usb false true p) := rfl

theorem exec_monitorRdfar : exec (.monitorRdfar usb p crc) s = monitorRow s usb 0x12 p crc (monBus usb true false p) := rfl

theorem exec_monitorWrfar : exec (.monitorWrfar usb p crc) s = monitorRow s usb 0x13 p crc (monBus usb true true p) := rfl

theorem exec_provision : exec (.provision usb p crc) s = monitorRow s usb 0x20 p crc fun s => provision s usb p := rfl

theorem exec_loadhdr : exec (.loadhdr usb p crc) s = monitorRow s usb 0x21 p crc fun s => loadHdr s usb p := rfl

theorem exec_loaddata : exec (.loaddata usb p crc) s = monitorRow s usb 0x22 p crc fun s => loadData s usb p := rfl

theorem exec_loadgo : exec (.loadgo usb p crc) s = monitorRow s usb 0x23 p crc fun s => loadGo s usb p := rfl

theorem exec_monitorEnd : exec (.monitorEnd usb p crc) s =
    monitorRow s usb 0x3E p crc (monPlain usb p fun s => monAnswer (monClose s) usb 0 []) := rfl

end

/-- Settles O58: a request is judged by `Hears`, and has its command's effect on the state in which it has been heard. -/
theorem monitorCommands : Obligations.MonitorCommands := by
  intro s usb p crc live safe idle ports clocked
  have hears : Hears s usb := ⟨live, safe, idle, ports, clocked⟩
  have heard := heard_heard s
  have waits {r : Instr} {cmd : Nat} {f : State → State} (row : exec r s = monitorRow s usb cmd p crc f) (other : cmd ≠ 1)
      (good : Framed usb cmd p crc) (loading : rb s .PMU_MODE 0 2 = false) : exec r s = .next (monAnswer s usb 0x0B []) :=
    row.trans (hears.early f good other loading)
  refine ⟨⟨waits (exec_monitorReset ..) (by decide), waits (exec_monitorRdio ..) (by decide), waits (exec_monitorWrio ..) (by decide),
    waits (exec_monitorRdfar ..) (by decide), waits (exec_monitorWrfar ..) (by decide), waits (exec_provision ..) (by decide),
    waits (exec_loadhdr ..) (by decide), waits (exec_loaddata ..) (by decide), waits (exec_loadgo ..) (by decide),
    waits (exec_monitorEnd ..) (by decide)⟩, ?crc, ?status, ?reset, ?rdio, ?wrio, ?rdfar, ?wrfar, ?notBlank, ?provision, ?header, ?noHeader,
    ?data, ?go, ?ends, ?timeout, ?early, ?frame⟩
  case crc =>
    intro uart wrong
    rw [exec_monitorStatus, hears.badCrc _ uart wrong]
  case status =>
    intro good
    rw [exec_monitorStatus, hears.framed _ good, if_pos rfl, monPlain, statusBytes_monHeard]
  case reset =>
    rintro good hold rfl
    obtain ⟨said, cause, thr, near, iram, retain, pads⟩ := monReset_effects (monHeard (monOpen s)) usb
    obtain ⟨_, _, _, before, _, _, _, _, _, board, _⟩ := heard.memory
    refine Does.intro ((exec_monitorReset ..).trans (hears.held _ good (by decide) hold)) ?_
    exact ⟨said, cause, thr, near, iram, retain.trans before, pads.trans board⟩
  case rdio => exact fun good hold => (exec_monitorRdio ..).trans (hears.held _ good (by decide) hold)
  case wrio => exact fun good hold => (exec_monitorWrio ..).trans (hears.held _ good (by decide) hold)
  case rdfar => exact fun good hold => (exec_monitorRdfar ..).trans (hears.held _ good (by decide) hold)
  case wrfar => exact fun good hold => (exec_monitorWrfar ..).trans (hears.held _ good (by decide) hold)
  case notBlank =>
    intro good hold other
    have still : rf (monHeard (monOpen s)) .PMU_BOOTSTAT 0 3 0 ≠ 4 := by rwa [heard.rf (by decide) (by decide)]
    rw [exec_provision, hears.held _ good (by decide) hold, provision, if_pos still]
  case provision =>
    intro good hold blank long ready nvIdle none runs free room
    exact Does.intro ((exec_provision ..).trans (hears.held _ good (by decide) hold))
      (provision_effects heard blank long ready nvIdle none runs free room)
  case header =>
    intro good hold long
    have answer := (exec_loadhdr s usb p crc).trans (hears.held _ good (by decide) hold)
    exact ⟨fun ok => Does.intro answer (loadHdr_taken heard long ok), fun bad => Does.intro answer (loadHdr_refused heard long bad)⟩
  case noHeader =>
    intro good hold none
    rw [exec_loaddata, hears.held _ good (by decide) hold, loadData_noHeader heard none]
  case data =>
    intro h good hold header some4 most next fits
    exact Does.intro ((exec_loaddata ..).trans (hears.held _ good (by decide) hold)) (loadData_taken heard header some4 most next fits)
  case go =>
    rintro h good hold rfl header all
    have answer := (exec_loadgo s usb [] crc).trans (hears.held _ good (by decide) hold)
    exact ⟨fun passes calm unarmed => Does.intro answer (loadGo_runs heard header all passes calm unarmed),
      fun fails => Does.intro answer (loadGo_refused heard header all fails safe)⟩
  case ends =>
    rintro good hold rfl
    exact Does.intro ((exec_monitorEnd ..).trans (hears.held _ good (by decide) hold)) (monEnd_closes heard)
  case timeout =>
    intro core session due
    refine ⟨?_, by simp only [monHeard, session, due, if_true]; rfl⟩
    refine (liveIn_live core fun s => if s.mon.open_ then expire s .core tmrMon false monClose else s).trans ?_
    rw [session, if_pos rfl, expire_due _ due]
  case early =>
    intro core running
    refine (liveIn_live core fun s => if s.mon.open_ then expire s .core tmrMon false monClose else s).trans ?_
    rw [expire_not_due _ running, ite_self]
  case frame =>
    intro serial onB
    refine (liveIn_live serial fun s => if inRun s ∨ s.dev.portsUp = false ∨ s.dev.onB = false then s else count s .serial 0xAD).trans ?_
    simp [safe, ports, onB]

end Sys2Proof.Proofs
end

section
/-!
SUPPORT. Operations of one instant: neither CORE's cycle count nor the time base (R225) moves in them, whatever else they do. A write of I/O
space can reach most units, by the hand-over of their blocks (R463) or a pin's function (R65), so each unit's part is said here once.
-/
namespace Sys2Proof.Proofs
open Sys2Proof.Machine Sys2Proof.Laws

/-- From `s` to `t` no cycle of CORE and no tick of the time base has passed. -/
structure SameInstant (s t : State) : Prop where
  cycles : t.cycles = s.cycles
  time : t.time = s.time

namespace SameInstant

variable {s t u : State}

theorem refl (s : State) : SameInstant s s := ⟨rfl, rfl⟩

theorem trans (h : SameInstant s t) (k : SameInstant t u) : SameInstant s u := ⟨k.cycles.trans h.cycles, k.time.trans h.time⟩

theorem of_eq (h : SameInstant s t) (same : t = u) : SameInstant s u := same ▸ h

theorem ite (h : SameInstant s t) (k : SameInstant s u) {p : Prop} [Decidable p] : SameInstant s (if p then t else u) := by
  split
  · exact h
  · exact k

/-- A last step that is taken on a condition. -/
theorem perhaps (h : SameInstant s t) (k : SameInstant t u) {p : Prop} [Decidable p] : SameInstant s (if p then u else t) := ite (h.trans k) h

theorem foldl {α : Type} {f : State → α → State} {l : List α} (h : SameInstant s t)
    (hf : ∀ u x, SameInstant s u → SameInstant s (f u x)) : SameInstant s (l.foldl f t) := by
  induction l generalizing t with
  | nil => exact h
  | cons x l ih => exact ih (hf t x h)

theorem leaves (h : SameInstant s t) (k : LeavesSystem t u) : SameInstant s u := h.trans ⟨by rw [k.others], by rw [k.others]⟩

theorem counted (h : SameInstant s t) (k : CountsOnly t u) : SameInstant s u := h.trans ⟨by rw [k.others], by rw [k.others]⟩

/-! ## One part of the state replaced -/

theorem wr (h : SameInstant s t) (r : Rg) (i : Nat) (v : Quad) : SameInstant s (wr t r i v) := h.trans ⟨rfl, rfl⟩

theorem wb (h : SameInstant s t) (r : Rg) (i b : Nat) (x : Bool) : SameInstant s (wb t r i b x) := h.trans ⟨rfl, rfl⟩

theorem wf (h : SameInstant s t) (r : Rg) (i hi lo x : Nat) : SameInstant s (wf t r i hi lo x) := h.trans ⟨rfl, rfl⟩

theorem resetRange (h : SameInstant s t) (lo hi : Nat) : SameInstant s (resetRange t lo hi) := h.trans ⟨rfl, rfl⟩

theorem send (h : SameInstant s t) (c : Nat) (x : Xfer) : SameInstant s (send t c x) := h.trans ⟨rfl, rfl⟩

theorem startTimer (h : SameInstant s t) (k n : Nat) : SameInstant s (startTimer t k n) := h.trans ⟨rfl, rfl⟩

theorem stopTimer (h : SameInstant s t) (k : Nat) : SameInstant s (stopTimer t k) := h.trans ⟨rfl, rfl⟩

theorem setThr (h : SameInstant s t) (n : Nat) (x : Thread) : SameInstant s (setThr t n x) := h.trans ⟨rfl, rfl⟩

theorem setDev (h : SameInstant s t) (x : Dev) : SameInstant s (setDev t x) := h.trans ⟨rfl, rfl⟩

theorem setIcu (h : SameInstant s t) (x : Icu) : SameInstant s (setIcu t x) := h.trans ⟨rfl, rfl⟩

theorem setCtr (h : SameInstant s t) (n : Nat) (x : Counter) : SameInstant s (setCtr t n x) := h.trans ⟨rfl, rfl⟩

theorem setLedger (h : SameInstant s t) (x : Ledger) : SameInstant s (setLedger t x) := h.trans ⟨rfl, rfl⟩

theorem setChan (h : SameInstant s t) (c : Nat) (x : Chan) : SameInstant s (setChan t c x) := h.trans ⟨rfl, rfl⟩

theorem setSlot (h : SameInstant s t) (u : Nat) (x : Option Slot) : SameInstant s (setSlot t u x) := h.trans ⟨rfl, rfl⟩

theorem setMover (h : SameInstant s t) (c i : Nat) (x : Option Mover) : SameInstant s (setMover t c i x) := h.trans ⟨rfl, rfl⟩

theorem setMr (h : SameInstant s t) (x : Mr) : SameInstant s (setMr t x) := h.trans ⟨rfl, rfl⟩

theorem setUsb (h : SameInstant s t) (x : Usb) : SameInstant s (setUsb t x) := h.trans ⟨rfl, rfl⟩

theorem setEth (h : SameInstant s t) (x : Eth) : SameInstant s (setEth t x) := h.trans ⟨rfl, rfl⟩

theorem setUart (h : SameInstant s t) (n : Nat) (x : Uart) : SameInstant s (setUart t n x) := h.trans ⟨rfl, rfl⟩

theorem setKx (h : SameInstant s t) (x : Kx) : SameInstant s (setKx t x) := h.trans ⟨rfl, rfl⟩

theorem setWp (h : SameInstant s t) (x : Wp) : SameInstant s (setWp t x) := h.trans ⟨rfl, rfl⟩

theorem setSpi (h : SameInstant s t) (x : Spi) : SameInstant s (setSpi t x) := h.trans ⟨rfl, rfl⟩

/-! ## Reports to CORE -/

theorem occur (h : SameInstant s t) (code k : Nat) : SameInstant s (occur t code k) := h.counted (countsOnly_occur t code k)

theorem latchEdge (h : SameInstant s t) (src : Nat) : SameInstant s (latchEdge t src) := h.counted (countsOnly_latchEdge t src)

theorem count (h : SameInstant s t) (i : Island) (code : Nat) : SameInstant s (count t i code) := ite (h.occur code 1) (h.send _ _)

theorem raise (h : SameInstant s t) (i : Island) (src : Nat) : SameInstant s (raise t i src) := ite (h.latchEdge src) (h.send _ _)

theorem violate (h : SameInstant s t) (kind agent addr : Nat) : SameInstant s (violate t kind agent addr) :=
  ((ite (h.wr _ _ _) (h.wr _ _ _)).occur 0x10 1).latchEdge 22

theorem violateFrom (h : SameInstant s t) (i : Island) (kind agent addr : Nat) : SameInstant s (violateFrom t i kind agent addr) :=
  ite (h.violate kind agent addr) (h.send _ _)

theorem refuseAt_thread (h : SameInstant s t) (i : Island) {req : Nat} (thread : req < 8) (addr : Nat) :
    SameInstant s (refuseAt t i req addr) := by
  rw [refuseAt, if_pos thread]
  exact h.violateFrom ..

/-! ## Books (chapter 13) -/

theorem setTerm (h : SameInstant s t) (b k : Nat) (v : Quad) : SameInstant s (setTerm t b k v) := h.trans ⟨rfl, rfl⟩

theorem credit (h : SameInstant s t) (b k n : Nat) : SameInstant s (credit t b k n) := h.setTerm b k _

theorem debit (h : SameInstant s t) (b k n : Nat) : SameInstant s (debit t b k n) := ite (h.setTerm b k _) (h.setTerm b k _)

theorem touchBook (h : SameInstant s t) (b : Nat) : SameInstant s (touchBook t b) := by
  have touched : SameInstant s (setLastUpdate (Machine.wb t .LED_BAL 0 b false) b (some t.cycles)) := (h.wb _ _ _ _).setLedger _
  unfold Machine.touchBook
  dsimp only
  split
  · exact touched
  · exact touched.startTimer _ _

theorem underflow (h : SameInstant s t) (b : Nat) (bad : Bool) : SameInstant s (underflow t b bad) :=
  ite (h.leaves ((LeavesSystem.refl t).imbalance b 2)) h

theorem book (h : SameInstant s t) (b src dst n : Nat) : SameInstant s (book t b src dst n) :=
  (((h.debit b src n).credit b dst n).touchBook b).underflow b _

theorem report (h : SameInstant s t) (i : Island) (b src dst n : Nat) : SameInstant s (report t i b src dst n) :=
  ite h (ite (h.book b src dst n) (h.send _ _))

theorem woLine (h : SameInstant s t) (b blk n : Nat) : SameInstant s (woLine t b blk n) := by
  have listed (l : Ledger) := (h.setLedger l).wb .LED_STAT 0 2 true
  exact ((ite ((listed _).wb .LED_STAT 0 3 true) (listed _)).wr .LED_WOCNT 0 _).count .fabric 0x30

theorem writeOff (h : SameInstant s t) (b src blk n : Nat) : SameInstant s (writeOff t b src blk n) := (h.book b src 2 n).woLine b blk n

/-! ## Threads -/

theorem returnDelivery (h : SameInstant s t) (n : Nat) : SameInstant s (returnDelivery t n) := by
  unfold Machine.returnDelivery
  split
  · exact h
  · exact (((h.setThr _ _).setIcu _).occur _ _).send _ _

theorem leaveDoze (h : SameInstant s t) : SameInstant s (leaveDoze t) := ite (h.setDev _) h

theorem stopNow (h : SameInstant s t) (n : Nat) : SameInstant s (stopNow t n) := (h.returnDelivery n).setThr _ _

theorem stopThread (h : SameInstant s t) (n : Nat) : SameInstant s (stopThread t n) := by
  unfold Machine.stopThread
  split
  · exact h
  · exact h
  · exact ite ((h.returnDelivery n).setThr _ _) ((h.returnDelivery n).stopNow n)

theorem haltNow (h : SameInstant s t) (n cause : Nat) : SameInstant s (haltNow t n cause) :=
  ((h.returnDelivery n).leaveDoze.setThr _ _).wr _ _ _

theorem settleHalt (h : SameInstant s t) (n : Nat) : SameInstant s (settleHalt t n) := by
  unfold Machine.settleHalt
  split
  · exact ite (h.haltNow _ _) h
  · exact h

theorem haltRequest (h : SameInstant s t) (n cause : Nat) : SameInstant s (haltRequest t n cause) :=
  ite h (ite (h.occur _ _) ((h.setThr _ _).settleHalt n))

theorem dropHalts (h : SameInstant s t) : SameInstant s (dropHalts t) := h.foldl fun _ _ hu => ite ((hu.setThr _ _).occur _ _) hu

theorem startThread (h : SameInstant s t) (n : Nat) : SameInstant s (startThread t n) := ite h ((h.leaveDoze.setThr _ _).settleHalt n)

theorem ctlWrite (h : SameInstant s t) (n : Nat) (v : Quad) : SameInstant s (ctlWrite t n v) :=
  ite (h.stopThread n) (ite (h.startThread n) h)

theorem worldWrite (h : SameInstant s t) (n : Nat) (v : Quad) : SameInstant s (worldWrite t n v) := by
  have world {p : Prop} [Decidable p] := ite (p := p) h (h.wb .THR_WORLD n 0 (v.getLsbD 0))
  exact ite h (ite (world.wb _ _ _ _) world)

theorem forceBack (h : SameInstant s t) (n : Nat) : SameInstant s (forceBack t n) := (h.returnDelivery n).leaveDoze.setThr _ _

theorem krstQuiesce (h : SameInstant s t) : SameInstant s (krstQuiesce t) := by
  refine h.foldl fun u n hu => ?_
  have forced {p : Prop} [Decidable p] := ite (p := p) (hu.forceBack n) hu
  exact ite forced (forced.stopThread n)

theorem krstRequest (h : SameInstant s t) : SameInstant s (krstRequest t) := by
  have begun : SameInstant s (krstBegin t) := ite h (h.wf _ _ _ _ _)
  exact ite h begun.krstQuiesce

theorem resumeThread (h : SameInstant s t) (n : Nat) : SameInstant s (resumeThread t n) := ite (h.leaveDoze.setThr _ _) h

theorem eachThread (h : SameInstant s t) (mask : Nat) {f : State → Nat → State} (hf : ∀ u n, SameInstant s u → SameInstant s (f u n)) :
    SameInstant s (eachThread t mask f) := h.foldl fun u n hu => ite (hf u n hu) hu

theorem stepWrite (h : SameInstant s t) (v : Quad) : SameInstant s (stepWrite t v) := by
  have written := h.wr .DBG_STEP 0 (v &&& 0x17)
  exact ite (ite (written.leaveDoze.setThr _ _) written) written

theorem regdataWrite (h : SameInstant s t) (v : Quad) : SameInstant s (regdataWrite t v) := by
  have set (n r : Nat) : SameInstant s (dbgRegSet t n r v) :=
    ite (h.setThr _ _) (ite (h.setThr _ _) (ite (h.setThr _ _) (ite (h.setThr _ _) (ite (h.setThr _ _) h))))
  exact ite (set _ _) (h.occur _ _)

/-! ## Modes and clocks -/

theorem monEnd (h : SameInstant s t) : SameInstant s (monEnd t) := h.trans ⟨rfl, rfl⟩

theorem overlayOff (h : SameInstant s t) (n : Nat) (slot : Bool) : SameInstant s (overlayOff t n slot) :=
  ite (ite ((h.setDev _).setThr _ _) (h.setDev _)) h

theorem romRun (h : SameInstant s t) (how entry : Nat) : SameInstant s (romRun t how entry) := by
  have mode := (h.wr .PMU_BOOTSTAT 0 (BitVec.ofNat 32 how)).wf .PMU_MODE 0 2 0 1
  have run : SameInstant s (runAs t how) := (mode.leaves (LeavesSystem.refl _).safeStop).monEnd
  rw [romRun_eq]
  exact ((((run.setDev _).wb _ _ _ _).setThr _ _).overlayOff 0 true).settleHalt 0

theorem runWrite (h : SameInstant s t) (req : Nat) : SameInstant s (runWrite t req) := by
  have stored : SameInstant s (storeDigest t) := h.trans ⟨rfl, rfl⟩
  exact ite h (ite (h.romRun _ _) (stored.romRun _ _))

theorem stbyRequest (h : SameInstant s t) : SameInstant s (stbyRequest t) := by
  have asked (d : Dev) := (h.setDev d).wr .PMU_STBYSTAT 0 0
  exact ite h (ite ((asked _).leaves (LeavesSystem.refl _).spiStandby.spiShow) (asked _))

theorem portsLook (h : SameInstant s t) : SameInstant s (portsLook t) := by
  obtain ⟨up, kept⟩ := portsLook_leavesSystem t
  exact (h.setDev _).leaves kept

theorem switchOp (h : SameInstant s t) : SameInstant s (switchOp t) := by
  have asked := h.wb .CLK_CTL 0 4 true
  exact ((ite asked ((asked.setDev _).wb _ _ _ _)).setDev _).portsLook

theorem clkCtl (h : SameInstant s t) (v : Quad) : SameInstant s (clkCtl t v) := by
  have written (c : Quad) (x : Bool) (d : Dev) := ((h.wr .CLK_CTL 0 c).wb .CLK_CTL 0 5 x).setDev d
  exact ite (written _ _ _).switchOp (written _ _ _)

theorem slotWrite (h : SameInstant s t) (v : Quad) : SameInstant s (slotWrite t v) :=
  ite ((h.setDev _).wb _ _ _ _) ((h.wb _ _ _ _).occur _ _)

/-! ## Units -/

theorem setUnit (h : SameInstant s t) (u m d : Nat) : SameInstant s (setUnit t u m d) := by
  have shown (r : Rg) (i : Nat) (v : Quad) := h.wr r i v
  have agreed {p : Prop} [Decidable p] (r : Rg) (i : Nat) (v : Quad) (c : Nat) (x : Xfer) :=
    ite (p := p) (shown r i v) ((shown r i v).send c x)
  unfold Machine.setUnit
  dsimp only
  split
  · exact h
  · split
    · exact (agreed _ _ _ _ _).raise _ _
    · exact agreed _ _ _ _ _

theorem follow (h : SameInstant s t) (u : Nat) (active : Bool) : SameInstant s (follow t u active) := ite (h.setUnit _ _ _) h

theorem endSlot (h : SameInstant s t) (u status : Nat) : SameInstant s (endSlot t u status) := h.leaves ((LeavesSystem.refl t).endSlot u status)

theorem unitComplete (h : SameInstant s t) (i : Island) (c idx status done cflags : Nat) :
    SameInstant s (unitComplete t i c idx status done cflags) := (h.setMover _ _ _).send _ _

theorem refuseInbox (h : SameInstant s t) (i : Island) (c status : Nat) (es : List Entry) : SameInstant s (refuseInbox t i c status es) :=
  h.foldl fun _ _ hu => (hu.send _ _).unitComplete _ _ _ _ _ _

theorem resetBlock (h : SameInstant s t) (n lo hi : Nat) : SameInstant s (resetBlock t n lo hi) := by
  unfold Machine.resetBlock
  split
  · exact ((h.setUnit _ _ _).resetRange _ _).wr _ _ _
  · exact h.resetRange _ _

theorem spiShow (h : SameInstant s t) : SameInstant s (spiShow t) := h.leaves (LeavesSystem.refl t).spiShow

theorem spiApply (h : SameInstant s t) : SameInstant s (spiApply t) := by
  refine ite h (SameInstant.setSpi (h.foldl fun u e hu => ?_) _)
  split
  · exact ite (hu.wr _ _ _) (hu.wr _ _ _)
  · exact hu

theorem spiCut (h : SameInstant s t) (status : Nat) : SameInstant s (spiCut t status) :=
  ((((h.stopTimer _).stopTimer _).endSlot _ _).setSpi _).spiApply.spiShow

theorem spiHandover (h : SameInstant s t) : SameInstant s (spiHandover t) := by
  have ended := ((h.stopTimer tmrReady).stopTimer tmrChain).endSlot 15 3
  have emptied : SameInstant s { Machine.endSlot (Machine.stopTimer (Machine.stopTimer t tmrReady) tmrChain) 15 3 with cache := [] } :=
    ended.trans ⟨rfl, rfl⟩
  exact ((((emptied.setSpi _).resetRange _ _).wr _ _ _).wb _ _ _ _).wb _ _ _ _

/-! ### The head (chapter 14) -/

theorem mrReq (h : SameInstant s t) : SameInstant s (mrReq t) := ite ((h.setMr _).raise _ _) (h.setMr _)

theorem headPower (h : SameInstant s t) : SameInstant s (headPower t) := by
  have powered (x : Bool) (m : Mr) := (h.wb .MR_STAT 0 7 x).setMr m
  exact ite h (ite ((powered _ _).startTimer _ _) ((powered _ _).stopTimer _))

theorem headDropWaiting (h : SameInstant s t) (status : Nat) : SameInstant s (headDropWaiting t status) := by
  have ended := h.foldl (l := t.mr.held) fun u e hu => hu.unitComplete .print u.mr.chan e.e.idx status e.done 0
  exact ((ended.setMr _).stopTimer _).mrReq

theorem headDrop (h : SameInstant s t) (status rest : Nat) : SameInstant s (headDrop t status rest) := by
  have tokens : SameInstant s (retireTokens (returnTokens t)) :=
    SameInstant.setMr ((SameInstant.setMr (h.report _ _ _ _ _) _).report _ _ _ _ _) _
  have ended (f : MrEntry → Nat) (es : List MrEntry) :=
    tokens.foldl (l := es) fun u e hu => hu.unitComplete .print u.mr.chan e.e.idx (f e) e.done 0
  have emptied (f : MrEntry → Nat) (es : List MrEntry) (m : Mr) :=
    (((((ended f es).setMr m).stopTimer tmrPhase).stopTimer tmrPulse).stopTimer tmrStrobe).stopTimer tmrShift
  exact (ite ((emptied _ _ _).startTimer _ _) (emptied _ _ _)).mrReq

theorem headCut (h : SameInstant s t) (status : Nat) : SameInstant s (headCut t status) := by
  have ended {p : Prop} [Decidable p] : SameInstant s (headCutEnd (if p then setData t 0 2 else t) status) :=
    (((ite (h.setUnit _ _ _) h).headDrop _ _).setUnit _ _ _).headPower
  exact ite h (ite ((h.setMr _).setUnit _ _ _) (ite h.headPower ended))

theorem headAbandon (h : SameInstant s t) (status : Nat) : SameInstant s (headAbandon t status) :=
  ite (h.headDropWaiting status) (h.headCut status)

/-! ### The kitchen bus (chapter 17) -/

theorem kxComplete (h : SameInstant s t) (f : KxFrame) (status done : Nat) : SameInstant s (kxComplete t f status done) :=
  ((h.setKx _).report _ _ _ _ _).unitComplete _ _ _ _ _ _

theorem kxHandover (h : SameInstant s t) : SameInstant s (kxHandover t) := by
  have frames (open_ : Bool) := h.foldl (l := t.kx.held) (f := fun s x =>
    if open_ then Machine.kxComplete s x 3 0 else Machine.setMover (Machine.report s .serial 22 3 2 1) s.kx.chan x.idx none)
    fun _ x hu => ite (hu.kxComplete x 3 0) ((hu.report _ _ _ _ _).setMover _ _ _)
  have inbox (open_ : Bool) (es : List Entry) := (frames open_).foldl (l := es) fun u e hu =>
    (hu.send (toFabric .serial) (.ringAccept u.kx.chan)).unitComplete .serial u.kx.chan e.idx 3 0 0
  exact (((inbox _ _).endSlot 14 3).stopTimer tmrBeacon).setKx _

theorem kxDraw (h : SameInstant s t) : SameInstant s (kxDraw t) := by
  have drawn : SameInstant s (freeVal t).2 := h.trans ⟨rfl, rfl⟩
  exact ite (drawn.setKx _) h

theorem kxShow (h : SameInstant s t) : SameInstant s (kxShow t) := by
  have shown (v : Quad) := h.wr .KX_NACNT 0 v
  exact ((ite ((shown _).setUnit _ _ _) (shown _)).follow _ _).kxDraw

theorem kxCut (h : SameInstant s t) (status : Nat) (force : Bool) : SameInstant s (kxCut t status force) := by
  have cut (fs : List KxFrame) := h.foldl (l := fs) fun _ f hu => hu.kxComplete f status 0
  have emptied (fs : List KxFrame) (c : Nat) (es : List Entry) (x : Kx) := ((cut fs).refuseInbox .serial c status es).setKx x
  unfold Machine.kxCut
  dsimp only
  split
  · split
    · exact (emptied _ _ _ _).setKx _
    · exact (emptied _ _ _ _).setKx _
  · exact emptied _ _ _ _

/-! ### The serial links (chapter 16) -/

theorem uartReset (h : SameInstant s t) (n : Nat) : SameInstant s (uartReset t n) :=
  (((h.endSlot _ _).endSlot _ _).setUart _ _).resetBlock _ _ _

theorem usbReset (h : SameInstant s t) : SameInstant s (usbReset t) := by
  have ended := h.foldl (l := usbUnits) fun _ u hu => hu.endSlot u 3
  have block (x : Usb) (v : Quad) (b : Bool) := (((ended.setUsb x).resetBlock 5 0x3000 0x3100).wr .USB_ADDR 0 v).wb .USB_STAT 0 0 b
  exact SameInstant.foldl (block _ _ _) fun _ _ hu => hu.wr _ _ _

theorem ethReset (h : SameInstant s t) : SameInstant s (ethReset t) := by
  have ended (x : Eth) := ((h.endSlot 2 3).endSlot 3 3).setEth x
  exact SameInstant.foldl (((ended _).resetBlock 6 0x3200 0x3280).wb .ETH_MACCFG 0 5 _) fun _ _ hu => hu.wr _ _ _

theorem txOver (h : SameInstant s t) : SameInstant s (txOver t) := ite ((h.setEth _).setUnit _ _ _) (h.setEth _)

/-! ### Far memory and rings (chapters 09 and 11) -/

theorem countIf (h : SameInstant s t) (c : Bool) (code : Nat) : SameInstant s (countIf t c code) := ite (h.count _ _) h

theorem sealFault (h : SameInstant s t) (agent ch owner line kind : Nat) : SameInstant s (sealFault t agent ch owner line kind) :=
  ((ite (h.wr _ _ _) ((h.wr _ _ _).wr _ _ _)).count _ _).raise _ _

theorem farLoad (h : SameInstant s t) (kind agent ch owner : Nat) (world : Bool) (a n : Nat) :
    SameInstant s (farLoad t kind agent ch owner world a n).2.2.2 := by
  unfold Machine.farLoad
  extract_lets r bad good bytes s1 win s1' s2 keyless hits s3 strict s4 s5
  have windowed : SameInstant s s1' := perhaps (h.countIf _ _) ((refl _).count _ _)
  have drawn : SameInstant s s2 := windowed.perhaps (u := { s1' with fresh := s1'.fresh + 32 }) ⟨rfl, rfl⟩
  have counted : SameInstant s s3 := ((drawn.countIf _ _).countIf _ _).countIf _ _
  have faulted : SameInstant s s4 := by
    unfold s4
    split
    · exact counted.perhaps ((refl _).sealFault _ _ _ _ _)
    · exact counted
  have told : SameInstant s s5 := by
    unfold s5
    split
    · exact ite (faulted.violateFrom _ _ _ _) (faulted.violateFrom _ _ _ _)
    · exact faulted
  split
  · exact (h.violateFrom .fabric 8 agent (a / 256 % 65536) :)
  · exact told
theorem chanLoad (h : SameInstant s t) (c a n : Nat) : SameInstant s (chanLoad t c a n).2.2.2 := h.farLoad ..

theorem entryInfo (h : SameInstant s t) (c i : Nat) : SameInstant s (entryInfo t c i).2 := by
  unfold Machine.entryInfo
  split
  · exact h
  · exact h.chanLoad c (entryAddr t c i) 16

theorem farPut (h : SameInstant s t) (kind agent ch owner : Nat) (world : Bool) (a : Nat) (cells : List (Nat × Byte)) :
    SameInstant s (farPut t kind agent ch owner world a cells).2.2 := by
  unfold Machine.farPut
  extract_lets r bad good keyless miss hit s1 s2 s3 strict s4 s5 s6
  have counted : SameInstant s s3 := (((h.countIf _ _).countIf _ _).countIf _ _).countIf _ _
  have faulted : SameInstant s s4 := by
    unfold s4
    split
    · exact counted.perhaps ((refl _).sealFault _ _ _ _ _)
    · exact counted
  have merged : SameInstant s s5 := faulted.foldl fun _ _ hu => hu.trans ⟨rfl, rfl⟩
  have told : SameInstant s s6 := by
    unfold s6
    split
    · exact merged.violateFrom _ _ _ _
    · exact merged
  split
  · exact (h.violateFrom .fabric 8 agent (a / 256 % 65536) :)
  · exact told

theorem retire (h : SameInstant s t) (c i : Nat) : SameInstant s (retire t c i) :=
  (((h.setChan _ _).wr _ _ _).wr _ _ _).wr _ _ _

/-- An operation's state is one of two where the operation is. -/
theorem iteAt {α : Type} (state : α → State) {x y : α} (h : SameInstant s (state x)) (k : SameInstant s (state y)) {p : Prop} [Decidable p] :
    SameInstant s (state (if p then x else y)) := by
  split
  · exact h
  · exact k

theorem resetEntry (h : SameInstant s t) (c : Nat) (k : Compl) : SameInstant s (resetEntry t c k) := by
  have dropped {v : State} (hv : SameInstant s v) :
      SameInstant s (Machine.retire (Machine.count (Machine.writeOff v (4 + c) 5 (7 + c) 1) .fabric 0x27) c k.idx) :=
    ((hv.writeOff _ _ _ _).count _ _).retire _ _
  unfold Machine.resetEntry
  split
  next x s0 info =>
    have informed : SameInstant s s0 := (h.entryInfo c k.idx).of_eq (congrArg Prod.snd info)
    extract_lets cq
    split
    next ct r0 f0 s1 load =>
      have loaded : SameInstant s s1 := 
        (iteAt (fun r : List Byte × Bool × Bool × State => r.2.2.2) (informed.chanLoad c (cqSlot t c) 2) informed).of_eq
          (congrArg (fun r => r.2.2.2) load)
      extract_lets k'
      split
      · exact dropped loaded
      · split
        next r1 f1 s2 store =>
          have stored : SameInstant s s2 := 
            (iteAt (fun r : Bool × Bool × State => r.2.2) (loaded.farPut ..) loaded).of_eq (congrArg (fun r => r.2.2) store)
          have advanced {p : Prop} [Decidable p] : SameInstant s (if p then cqAdvance s2 c else s2) := ite (stored.wr _ _ _) stored
          split
          · exact dropped stored
          · split
            next r2 f2 s3 ending =>
              have ended : SameInstant s s3 := (advanced.farPut ..).of_eq (congrArg (fun r => r.2.2) ending)
              exact ite (dropped ended) ((ended.book _ _ _ _).retire _ _)

theorem ringReset (h : SameInstant s t) (c : Nat) : SameInstant s (ringReset t c) := by
  unfold Machine.ringReset
  extract_lets ch q b s1 s2 s3 compl s4 s5
  have purged : SameInstant s s1 := h.trans ⟨rfl, rfl⟩
  have taken : SameInstant s s2 := ite purged (purged.book _ _ _ _)
  have given : SameInstant s s4 := ((taken.setTerm _ _ _).setTerm _ _ _).setChan _ _
  have completed : SameInstant s s5 := given.foldl fun _ k hu => hu.resetEntry c k
  exact (completed.setChan _ _).resetRange _ _

/-! ## Hand-over (R461-R463) -/

theorem unitCut (h : SameInstant s t) (u status : Nat) (force : Bool) : SameInstant s (unitCut t u status force) := by
  have unsent {p : Prop} [Decidable p] (x : Usb) := ite (p := p) (h.setUsb x) h
  unfold Machine.unitCut
  split
  · exact h
  · exact ((h.refuseInbox _ _ _ _).setMr _).headAbandon _
  · exact ite h (h.endSlot _ _).txOver
  · exact (h.kxCut _ _).kxShow
  · exact h.spiCut _
  · dsimp only
    split
    · exact (unsent _).endSlot _ _
    · exact h.endSlot _ _

theorem ringCut (h : SameInstant s t) (c status : Nat) : SameInstant s (ringCut t c status) := ite (h.unitCut _ _ _) h

theorem dropMeasures (h : SameInstant s t) (src : Nat) : SameInstant s (dropMeasures t src) :=
  h.foldl fun _ _ hu => ite ((hu.setCtr _ _).wb _ _ _ _) hu

theorem discardBlock (h : SameInstant s t) (n : Nat) : SameInstant s (discardBlock t n) := by
  have edge {v : State} (hv : SameInstant s v) (src : Nat) : SameInstant s (discardEdge v src) :=
    ite (((hv.setIcu _).dropMeasures src).send _ _) hv
  have ret {v : State} (hv : SameInstant s v) (src : Nat) : SameInstant s (discardRet v src) :=
    ite (((hv.setIcu _).dropMeasures src).send _ _) hv
  exact h.foldl fun _ src hu => ite (ret (edge hu src) src) hu

theorem hoUnitReset (h : SameInstant s t) (n : Nat) : SameInstant s (hoUnitReset t n) := by
  unfold Machine.hoUnitReset
  split
  · exact h.uartReset 0
  · exact h.uartReset 1
  · exact h.kxHandover.resetBlock _ _ _
  · exact ((h.setWp _).stopTimer _).resetRange _ _
  · exact h.spiHandover
  · exact h.usbReset
  · exact h.ethReset
  · exact ite (ite ((h.ringCut _ _).ringReset _) (h.ringCut _ _)) ((h.setCtr _ _).resetRange _ _)

theorem hoReset (h : SameInstant s t) (n : Nat) : SameInstant s (hoReset t n) :=
  (((h.stopTimer _).wf _ _ _ _ _).discardBlock n).hoUnitReset n

theorem ecDrop (h : SameInstant s t) (n : Nat) : SameInstant s (ecDrop t n) := (h.setCtr _ _).wb _ _ _ _

theorem hoQuiesce (h : SameInstant s t) (n : Nat) : SameInstant s (hoQuiesce t n) := by
  unfold Machine.hoQuiesce
  extract_lets s1
  have handed : SameInstant s s1 := by
    unfold s1
    split
    · exact h.setUnit _ _ _
    · exact h
  exact ite (ite (handed.setWp _) handed) (ite ((handed.wb _ _ _ _).ecDrop _) handed)

theorem hoStart (h : SameInstant s t) (n : Nat) : SameInstant s (hoStart t n) := by
  have quiesced := (h.wf .TG_HO n 3 2 1).hoQuiesce n
  exact ite (quiesced.startTimer _ _) (quiesced.hoReset n)

theorem hoWrite (h : SameInstant s t) (n : Nat) (v m : Quad) : SameInstant s (hoWrite t n v m) := by
  have written (x : Quad) := h.wr .TG_HO n x
  exact ite (ite ((written _).hoStart n) ((written _).occur _ _)) (written _)

/-! ## Counters, windows and the IRAM port -/

theorem ecCtl (h : SameInstant s t) (n : Nat) (v : Quad) : SameInstant s (ecCtl t n v) := by
  have written (x : Quad) := h.wr .EC_CTL n x
  have turned {p q : Prop} [Decidable p] [Decidable q] (x : Quad) (c : Counter) :=
    ite (p := p) (written x) (ite (p := q) ((written x).ecDrop n) ((written x).setCtr n c))
  exact ite ((((turned _ _).ecDrop n).wr _ _ _).wr _ _ _) (turned _ _)

theorem ecSel (h : SameInstant s t) (n : Nat) (v : Quad) : SameInstant s (ecSel t n v) := ite h (ite (h.wr _ _ _) (h.wb _ _ _ _))

theorem winOwnWrite (h : SameInstant s t) (req i : Nat) (world : Bool) (grant : Nat) (v m : Quad) :
    SameInstant s (winOwnWrite t req i world grant v m) :=
  ite (ite (((h.wr _ _ _).wb _ _ _ _).violate _ _ _) (h.wr _ _ _)) (h.wr _ _ _)

theorem irNext (h : SameInstant s t) (req : Nat) : SameInstant s (irNext t req) := h.trans ⟨rfl, rfl⟩

theorem irCommit (h : SameInstant s t) (req : Nat) (world : Bool) (v : Quad) : SameInstant s (irCommit t req world v) := by
  refine ite ((h.irNext _).violate _ _ _) ?_
  exact h.trans ⟨rfl, rfl⟩

/-! ## Pins (chapter 02) -/

theorem uartFlag (h : SameInstant s t) (n bit code : Nat) : SameInstant s (uartFlag t n bit code) :=
  ite h ((ite (h.wb _ _ _ _) ((h.wb _ _ _ _).count _ _)).raise _ _)

theorem uartLook (h : SameInstant s t) {n : Nat} (two : n < 2) : SameInstant s (uartLook t n) := by
  have seen (u : Uart) := h.setUart n u
  have dsr {p : Prop} [Decidable p] (u : Uart) := ite (p := p) (seen u) ((seen u).uartFlag n 4 0)
  have cts {p q : Prop} [Decidable p] [Decidable q] (u : Uart) := ite (p := q) (dsr (p := p) u) ((dsr (p := p) u).uartFlag n 5 0)
  exact ite h ((cts _).leaves ((LeavesSystem.refl _).uartGo two))

theorem wakeUpdate (h : SameInstant s t) : SameInstant s (wakeUpdate t) := by
  have seen (d : Dev) := h.setDev d
  have first {p : Prop} [Decidable p] (d : Dev) := ite (p := p) ((seen d).raise .ao 37) (seen d)
  exact ite (seen _) (ite ((first _).raise _ _) (first _))

theorem pinsLook (h : SameInstant s t) (before : State) : SameInstant s (pinsLook before t) := by
  have uarts := (h.uartLook (n := 0) (by decide)).uartLook (n := 1) (by decide)
  have edges : SameInstant s (fevEdges before (Machine.uartLook (Machine.uartLook t 0) 1)) := uarts.foldl fun _ _ hu => ite (hu.latchEdge _) hu
  have inputs : SameInstant s (debLook (fevEdges before (Machine.uartLook (Machine.uartLook t 0) 1))) :=
    edges.foldl fun _ _ hu => ite (hu.stopTimer _) (ite hu (hu.startTimer _ _))
  exact ite h.wakeUpdate (ite inputs.wakeUpdate.leaveDoze inputs.wakeUpdate)

theorem wmisUpdate (h : SameInstant s t) (n : Nat) : SameInstant s (wmisUpdate t n) := by
  have shown (x : Bool) := h.wb .PIN_STAT n 3 x
  exact ite ((shown _).count _ _) (shown _)

theorem pinMuxWrite (h : SameInstant s t) (n : Nat) (v : Quad) : SameInstant s (pinMuxWrite t n v) :=
  (((h.wr _ _ _).wb _ _ _ _).wmisUpdate n).pinsLook t

theorem pinPadWrite (h : SameInstant s t) (n : Nat) (v m : Quad) : SameInstant s (pinPadWrite t n v m) := (h.wr _ _ _).pinsLook t

theorem pinWorldWrite (h : SameInstant s t) (n : Nat) (v : Quad) : SameInstant s (pinWorldWrite t n v) := by
  have reset := (((h.wb .PIN_WORLD n 0 (v.getLsbD 0)).wr .PIN_MUX n (regReset .PIN_MUX n)).wr .PIN_PAD n (regReset .PIN_PAD n)).wb .PIN_STAT n 2 false
  have world {p : Prop} [Decidable p] := ite (p := p) h ((reset.wmisUpdate n).pinsLook t)
  exact ite (world.wb _ _ _ _) world

/-! ## Commits in CORE -/

theorem commitPlain (h : SameInstant s t) (r : Rg) (i : Nat) (v m : Quad) : SameInstant s (commitPlain t r i v m) := h.wr _ _ _

theorem commitCore (h : SameInstant s t) (w : Who) (r : Rg) (i : Nat) (v m x mv : Quad) : SameInstant s (commitCore t w r i v m x mv) := by
  have plain := h.commitPlain r i v m
  unfold Machine.commitCore
  split
  · exact h.ctlWrite _ _
  · exact h.worldWrite _ _
  · exact ite h (h.wr _ _ _)
  · exact ite h (h.wr _ _ _)
  · have run {p : Prop} [Decidable p] := ite (p := p) (h.runWrite w.req) h
    exact ite run.stbyRequest run
  · exact ite ((h.wb _ _ _ _).setDev _) h
  · exact h.clkCtl _
  · exact h.slotWrite _
  · exact ite plain.krstRequest plain
  · exact ite h (h.wr _ _ _)
  · exact ite h (h.wr _ _ _)
  · exact plain.dropHalts
  · exact h.trans ⟨rfl, rfl⟩
  · exact h.irCommit _ _ _
  · exact h.hoWrite _ _ _
  · exact h.winOwnWrite _ _ _ _ _ _
  · exact h.ecCtl _ _
  · exact h.ecSel _ _
  · exact h.wr _ _ _
  · exact h.pinMuxWrite _ _
  · exact h.pinPadWrite _ _ _
  · exact h.pinWorldWrite _ _
  · exact h.eachThread _ fun _ n hu => hu.haltRequest n 1
  · exact h.eachThread _ fun _ n hu => hu.resumeThread n
  · exact h.stepWrite _
  · exact h.regdataWrite _
  · exact plain

end SameInstant
end Sys2Proof.Proofs
end

section
/-!
SUPPORT. Where a register lies (chapter 24): the island of an address is the island of the register found there.
-/
namespace Sys2Proof.Proofs
open Sys2Proof.Machine Sys2Proof.Laws

variable {a i k : Nat} {r : Rg}

theorem findReg_place (found : findReg a = some (r, i, k)) :
    r ∈ regsAll ∧ a = regAddr r i + k ∧ i < max 1 (regInfo r).count ∧ k < (regInfo r).bytes := by
  unfold findReg at found
  dsimp only at found
  split at found
  · exact absurd found (by simp)
  next q hit =>
    have listed := List.mem_of_find?_eq_some hit
    have inside := List.find?_some hit
    split at inside
    · exact absurd inside (by simp)
    next low =>
      split at found
      next flat =>
        obtain ⟨rfl, rfl, rfl⟩ := by simpa using found
        simp only [flat, if_true, decide_eq_true_eq] at inside
        exact ⟨listed, by rw [regAddr, flat]; omega, by omega, by omega⟩
      next strided =>
        obtain ⟨rfl, rfl, rfl⟩ := by simpa using found
        simp only [strided, if_false, Bool.and_eq_true, decide_eq_true_eq] at inside
        have parts := Nat.div_add_mod (a - (regInfo q).base) (regInfo q).stride
        exact ⟨listed, by rw [regAddr]; omega, by omega, inside.2⟩

/-- The addresses that lie in other islands than CORE (R1178, R1179). -/
def awayRanges : List (Nat × Nat) :=
  [(0x402, 0x403), (0x408, 0x410), (0x600, 0x700), (0x800, 0xA00), (0x1000, 0x1400), (0x2000, 0x2700), (0x3000, 0x3200), (0x3200, 0x3400),
   (0x3400, 0x3700), (0x3800, 0x3900), (0x3A00, 0x3B00), (0x3D78, 0x3D80), (0x3E00, 0x3F00), (0x3F60, 0x3F61)]

theorem not_away_of_core (core : addrIsland a = .core) : ∀ e ∈ awayRanges, ¬ (e.1 ≤ a ∧ a < e.2) := by
  simp only [addrIsland, ite_eq_iff, reduceCtorEq, and_false, false_or, and_true, Bool.or_eq_true, Bool.and_eq_true, decide_eq_true_eq,
    beq_iff_eq] at core
  simp only [awayRanges, List.forall_mem_cons, List.not_mem_nil, false_implies, implies_true, and_true]
  omega

/-- The addresses of a register, all counted. -/
def regEnd (r : Rg) : Nat := regAddr r ((regInfo r).count - 1) + (regInfo r).bytes

set_option maxRecDepth 20000 in
theorem regsAll_away : (regsAll.all fun r => (regInfo r).island == .core ||
    awayRanges.any fun e => decide (e.1 ≤ (regInfo r).base) && decide (regEnd r ≤ e.2)) = true := by decide

theorem regInfo_of_core (found : findReg a = some (r, i, k)) (core : addrIsland a = .core) : (regInfo r).island = .core := by
  obtain ⟨listed, place, inside, byte⟩ := findReg_place found
  have checked := List.all_eq_true.1 regsAll_away r listed
  simp only [Bool.or_eq_true, beq_iff_eq, List.any_eq_true, Bool.and_eq_true, decide_eq_true_eq] at checked
  rcases checked with home | ⟨e, he, low, high⟩
  · exact home
  · refine absurd ⟨?_, ?_⟩ (not_away_of_core core e he)
    · rw [place, regAddr]; omega
    · have most : (regInfo r).stride * i ≤ (regInfo r).stride * ((regInfo r).count - 1) := Nat.mul_le_mul_left _ (by omega)
      rw [regEnd, regAddr] at high
      rw [place, regAddr]; omega

/-- What is found at an address of CORE is a register of CORE, everywhere in it. -/
theorem regIsland_of_core (found : findReg a = some (r, i, k)) (core : addrIsland a = .core) : regIsland r i = .core := by
  have home := regInfo_of_core found core
  obtain ⟨listed, place, inside, byte⟩ := findReg_place found
  have pins := not_away_of_core core (0x3D78, 0x3D80) (by decide)
  unfold regIsland
  split
  case h_5 => exact home
  all_goals
    simp only [regAddr, regInfo] at place inside byte
    exact if_neg (by omega)

end Sys2Proof.Proofs
end

section
/-!
SUPPORT. A byte of CORE's I/O space read or written by a thread takes one instant, and a read leaves the pipeline as it is (R15-R18, R243).
-/
namespace Sys2Proof.Proofs
open Sys2Proof.Machine Sys2Proof.Laws

variable {s t u : State} {w : Who} {a : Nat}

/-- An access of CORE reaches no other island's address (R293-R295). -/
theorem addrIsland_of_reached {x : Nat × Bool × Bool} (core : accessIsland w a = .core) (reached : aliasOf w a = some x) :
    addrIsland x.1 = .core := by
  rwa [accessIsland, reached] at core

/-! ## Writes -/

namespace SameInstant

theorem commitReg_core (h : SameInstant s t) (w : Who) {r : Rg} {i : Nat} (core : regIsland r i = .core) (v m : Quad) :
    SameInstant s (commitReg t w r i v m) := by
  unfold Machine.commitReg
  simp only [core]
  exact ite h (h.commitCore _ _ _ _ _ _ _)

theorem writeAt_core (h : SameInstant s t) (w : Who) {r : Rg} {i : Nat} (core : regIsland r i = .core) (k : Nat) (v : Byte) :
    SameInstant s (writeAt t w r i k v) := by
  have staged {v : State} (hv : SameInstant s v) (j : Nat) (b : Option Byte) : SameInstant s (stage v w r i j b) := hv.trans ⟨rfl, rfl⟩
  have emptied (n : Nat) : SameInstant s (forN n t fun s j => stage s w r i j none) := h.foldl fun _ j hu => staged hu j none
  exact ite (staged h _ _) ((emptied _).commitReg_core w core _ _)

/-- No cycle passes in a thread's write of a byte of CORE, whatever the write sets off. -/
theorem writeByte_core (h : SameInstant s t) (core : accessIsland w a = .core) (thread : w.req < 8) (v : Byte) :
    SameInstant s (writeByte t w a v) := by
  unfold Machine.writeByte
  split
  · exact h.count _ _
  next x reads free reached =>
    have here := addrIsland_of_reached core reached
    split
    · exact ite (h.stopThread _) h
    · split
      · exact h.count _ _
      next r i k found =>
        exact ite h (ite (h.refuseAt_thread _ thread _) (h.writeAt_core w (regIsland_of_core found here) k v))

end SameInstant

/-! ## Reads -/

/-- From `s` to `t` the pipeline stays as it is, and so do the slot map that waits and the levels that counters watch. -/
structure LeavesPipeline (s t : State) : Prop where
  pipe : t.pipe = s.pipe
  slotPend : t.dev.slotPend = s.dev.slotPend
  control : ∀ n, n < 8 → rd t .EC_CTL n = rd s .EC_CTL n
  select : ∀ n, n < 8 → rd t .EC_SEL n = rd s .EC_SEL n

namespace LeavesPipeline

theorem refl (s : State) : LeavesPipeline s s := ⟨rfl, rfl, fun _ _ => rfl, fun _ _ => rfl⟩

theorem trans (h : LeavesPipeline s t) (k : LeavesPipeline t u) : LeavesPipeline s u where
  pipe := k.pipe.trans h.pipe
  slotPend := k.slotPend.trans h.slotPend
  control n hn := (k.control n hn).trans (h.control n hn)
  select n hn := (k.select n hn).trans (h.select n hn)

theorem ite (h : LeavesPipeline s t) (k : LeavesPipeline s u) {p : Prop} [Decidable p] : LeavesPipeline s (if p then t else u) := by
  split
  · exact h
  · exact k

theorem counted (h : LeavesPipeline s t) (k : CountsOnly t u) : LeavesPipeline s u := by
  refine h.trans ⟨by rw [k.others], by rw [k.dev], fun n _ => k.rd fun m => ?_, fun n _ => k.rd fun m => ?_⟩ <;>
    simp only [regAddr, regInfo] <;> omega

/-- A register that lies below or above the counters' is written. -/
theorem wr (h : LeavesPipeline s t) {r : Rg} {i : Nat} (apart : regAddr r i < 0xA00 ∨ 0xB00 ≤ regAddr r i) (v : Quad) :
    LeavesPipeline s (wr t r i v) := by
  refine h.trans ⟨rfl, rfl, fun n hn => rd_wr_ne _ _ _ _ _ _ ?_, fun n hn => rd_wr_ne _ _ _ _ _ _ ?_⟩ <;> intro same <;>
    rw [← same] at apart <;> simp only [regAddr, regInfo] at apart <;> omega

theorem quiet (h : LeavesPipeline s t) (q : Quiet s) : Quiet t := by
  obtain ⟨empty, free, unwatched⟩ := q
  refine ⟨h.pipe.trans empty, h.slotPend.trans free, ?_⟩
  rw [levelsWatched, List.any_eq_false] at unwatched ⊢
  intro n hn
  have low := List.mem_range.1 hn
  have mode : ecMode t n = ecMode s n := by rw [ecMode, rf, h.control n low, ecMode, rf]
  rw [rb, rf, mode, h.control n low, h.select n low]
  exact unwatched n hn

theorem violate (h : LeavesPipeline s t) (kind agent addr : Nat) : LeavesPipeline s (violate t kind agent addr) := by
  have written (v : Quad) := h.wr (r := .TG_VIOL) (i := 0) (by decide) v
  have recorded {p : Prop} [Decidable p] (v x : Quad) := ite (p := p) (written v) (written x)
  exact ((recorded _ _).counted (countsOnly_occur _ _ _)).counted (countsOnly_latchEdge _ _)

theorem send (h : LeavesPipeline s t) (c : Nat) (x : Xfer) : LeavesPipeline s (send t c x) :=
  h.trans ⟨rfl, rfl, fun _ _ => rfl, fun _ _ => rfl⟩

theorem count (h : LeavesPipeline s t) (i : Island) (code : Nat) : LeavesPipeline s (count t i code) :=
  ite (h.counted (countsOnly_occur t code 1)) (h.send _ _)

theorem violateFrom (h : LeavesPipeline s t) (i : Island) (kind agent addr : Nat) : LeavesPipeline s (violateFrom t i kind agent addr) :=
  ite (h.violate _ _ _) (h.send _ _)

theorem refuseAt_thread (h : LeavesPipeline s t) (i : Island) {req : Nat} (thread : req < 8) (addr : Nat) :
    LeavesPipeline s (refuseAt t i req addr) := by
  rw [refuseAt, if_pos thread]
  exact h.violateFrom ..

theorem irNext (h : LeavesPipeline s t) (req : Nat) : LeavesPipeline s (irNext t req) := by
  have apart {r : Rg} {n : Nat} (low : 0xA00 ≤ (regInfo r).base) (high : regAddr r n < 2 ^ 20) :
      rd (Machine.irNext t req) r n = rd t r n := by
    have port : regAddr .TG_IRADDR 0 = 0x590 := by decide
    have other : regAddr r n ≠ 0x590 + 2 ^ 20 * (req + 1) := by omega
    rw [rd, Machine.irNext, wrReq, port, rd]
    exact mget_mset_ne (fun _ => regReset .TG_IRADDR 0) (fun _ => regReset r n) t.io _ other
  exact h.trans ⟨rfl, rfl, fun n hn => apart (by decide) (by simp only [regAddr, regInfo]; omega),
    fun n hn => apart (by decide) (by simp only [regAddr, regInfo]; omega)⟩

end LeavesPipeline

/-- A read of a register of CORE has no effect but at the ports, which move on, and at a refusal, which is recorded. -/
theorem regNow_core {r : Rg} (core : (regInfo r).island = .core) (s : State) (w : Who) (i : Nat) :
    SameInstant s (regNow s w r i).2 ∧ LeavesPipeline s (regNow s w r i).2 := by
  have instant := (SameInstant.refl s).irNext w.req
  have moved := (LeavesPipeline.refl s).irNext w.req
  unfold regNow
  split
  case h_12 =>
    rw [irFetch]
    split
    · let a := (rdReq s .TG_IRADDR w.req).toNat
      exact ⟨(instant.violate 5 (agentOf w.req) a :), (moved.violate 5 (agentOf w.req) a :)⟩
    · exact ⟨instant, moved⟩
  case h_35 =>
    unfold regdataRead
    dsimp only
    split
    · exact ⟨.refl s, .refl s⟩
    · exact ⟨.counted (.refl s) (countsOnly_occur s 0xAC 1), .counted (.refl s) (countsOnly_occur s 0xAC 1)⟩
  case h_36 =>
    unfold pcSample
    split
    · exact ⟨.refl s, .refl s⟩
    · exact ⟨⟨rfl, rfl⟩, rfl, rfl, fun _ _ => rfl, fun _ _ => rfl⟩
  case h_14 | h_15 | h_17 | h_20 | h_21 | h_22 | h_24 | h_25 | h_26 | h_28 | h_30 | h_31 => exact absurd core (by decide)
  all_goals exact ⟨.refl s, .refl s⟩

theorem readAt_core {r : Rg} (core : (regInfo r).island = .core) (s : State) (w : Who) (i k : Nat) :
    SameInstant s (readAt s w r i k).2 ∧ LeavesPipeline s (readAt s w r i k).2 := by
  obtain ⟨instant, left⟩ := regNow_core core s w i
  unfold readAt
  split
  · have captured : SameInstant s (capture (regNow s w r i).2 w.req r i (regNow s w r i).1) := instant.trans ⟨rfl, rfl⟩
    have kept : LeavesPipeline s (capture (regNow s w r i).2 w.req r i (regNow s w r i).1) :=
      left.trans ⟨rfl, rfl, fun _ _ => rfl, fun _ _ => rfl⟩
    exact ⟨SameInstant.ite instant captured, LeavesPipeline.ite left kept⟩
  · split
    · exact ⟨.refl s, .refl s⟩
    · exact ⟨.refl s, .refl s⟩

/-- No cycle passes in a thread's read of a byte of CORE, and the pipeline stays as it is. -/
theorem readByte_core (core : accessIsland w a = .core) (thread : w.req < 8) (s : State) :
    SameInstant s (readByte s w a).2 ∧ LeavesPipeline s (readByte s w a).2 := by
  have instant := SameInstant.refl s
  have left := LeavesPipeline.refl s
  unfold readByte
  split
  · exact ⟨instant.count .core 1, left.count .core 1⟩
  next x free writes reached =>
    split
    · exact ⟨instant.count _ _, left.count _ _⟩
    next r i k found =>
      split
      · exact ⟨instant.refuseAt_thread _ thread _, left.refuseAt_thread _ thread _⟩
      · exact readAt_core (regInfo_of_core found (addrIsland_of_reached core reached)) s w i k

end Sys2Proof.Proofs
end

section
/-!
SUPPORT. A thread's next slot and the pipeline behind it (R393, R397, R398): when no level is watched, cycles in which nothing is due only count.
-/
namespace Sys2Proof.Proofs
open Sys2Proof.Machine Sys2Proof.Laws

variable {s u : State}

/-! ## Cycles -/

theorem pipe_emptied (empty : s.pipe = []) : { s with pipe := [] } = s := by rw [← empty]

theorem slotDue_free (free : s.dev.slotPend = none) : slotDue s = s := by simp [slotDue, free]

theorem edgeLevels_unwatched (unwatched : levelsWatched s = false) : edgeLevels s = s := by simp [edgeLevels, unwatched]

/-- At the end of a cycle what is due lands, in the pipeline's order, and the rest waits on. -/
theorem cycleStep_lands {due rest : List PipeEntry} (unwatched : levelsWatched s = false) (holds : s.pipe = due ++ rest)
    (now : ∀ e ∈ due, e.land ≤ s.cycles) (later : ∀ e ∈ rest, s.cycles < e.land) :
    cycleStep s = let v := due.foldl landEntry { s with pipe := rest }
      slotDue { v with cycles := v.cycles + 1 } := by
  have lands : s.pipe.filter (fun e => decide (e.land ≤ s.cycles)) = due := by
    have none : rest.filter (fun e => decide (e.land ≤ s.cycles)) = [] := by simpa using later
    rw [holds, List.filter_append, none, List.filter_eq_self.2 (by simpa using now), List.append_nil]
  have waits : s.pipe.filter (fun e => decide (s.cycles < e.land)) = rest := by
    have none : due.filter (fun e => decide (s.cycles < e.land)) = [] := by simpa using now
    rw [holds, List.filter_append, none, List.filter_eq_self.2 (by simpa using later), List.nil_append]
  rw [cycleStep, edgeLevels_unwatched unwatched, landDue, lands, waits]

theorem cycleStep_waiting (free : s.dev.slotPend = none) (unwatched : levelsWatched s = false) (later : ∀ e ∈ s.pipe, s.cycles < e.land) :
    cycleStep s = { s with cycles := s.cycles + 1 } :=
  (cycleStep_lands (due := []) unwatched rfl (by simp) later).trans (slotDue_free free)

theorem cyclesPass_waiting {k : Nat} (free : s.dev.slotPend = none) (unwatched : levelsWatched s = false)
    (later : ∀ e ∈ s.pipe, s.cycles + k ≤ e.land) : cyclesPass k s = { s with cycles := s.cycles + k } := by
  induction k generalizing s with
  | zero => rfl
  | succ k ih =>
    rw [cyclesPass, cycleStep_waiting free unwatched fun e he => by have := later e he; omega]
    have shift : s.cycles + 1 + k = s.cycles + (k + 1) := by omega
    exact (ih (s := { s with cycles := s.cycles + 1 }) free unwatched fun e he => shift.trans_le (later e he)).trans (by rw [← shift])

theorem cyclesPass_quiet (quiet : Quiet s) (k : Nat) : cyclesPass k s = { s with cycles := s.cycles + k } := by
  obtain ⟨empty, free, unwatched⟩ := quiet
  exact cyclesPass_waiting free unwatched (by simp [empty])

theorem cyclesPass_succ (k : Nat) (s : State) : cyclesPass (k + 1) s = cycleStep (cyclesPass k s) := by
  induction k generalizing s with
  | zero => rfl
  | succ k ih => exact ih (cycleStep s)

/-! ## A thread's next slot -/

theorem nextSlot_at {ready : State → Nat → Bool} {t k n : Nat} (quiet : Quiet s) (reached : k < n)
    (before : ∀ j, j < k → slotOwner { s with cycles := s.cycles + j + 1 } ≠ t) (here : slotOwner { s with cycles := s.cycles + k + 1 } = t)
    (issues : ready { s with cycles := s.cycles + k + 1 } t = true) :
    nextSlot ready t n s = some ({ s with cycles := s.cycles + k }, { s with cycles := s.cycles + k + 1 }) := by
  induction k generalizing s n with
  | zero =>
    obtain ⟨n, rfl⟩ : ∃ j, n = j + 1 := ⟨n - 1, by omega⟩
    rw [nextSlot, cycleStep_quiet quiet]
    exact if_pos ⟨here, issues⟩
  | succ k ih =>
    obtain ⟨n, rfl⟩ : ∃ j, n = j + 1 := ⟨n - 1, by omega⟩
    have shift (j : Nat) : s.cycles + 1 + j = s.cycles + (j + 1) := by omega
    have next : Quiet { s with cycles := s.cycles + 1 } := quiet
    rw [nextSlot, cycleStep_quiet quiet, if_neg fun found => before 0 (by omega) found.1]
    refine (ih next (by omega) (fun j hj => ?_) ?_ ?_).trans ?_
    · exact shift j ▸ before (j + 1) (by omega)
    · exact shift k ▸ here
    · exact shift k ▸ issues
    · simp only [shift]

/-- A thread that may issue does so in its next slot, and nothing but cycles has passed until then. -/
theorem issueSlot_quiet {t : Nat} (quiet : Quiet s) (may : canIssue s t = true) :
    issueSlot s t = some ({ s with cycles := (atSlot s t).cycles - 1 }, atSlot s t) := by
  have owns : ∃ k, k < 8 ∧ slotThread (rd s .PMU_SLOTMAP 0) ((s.cycles + k + 1) % 8) = t := by
    simp only [canIssue, issues, ownsSlot, inMap, Bool.and_eq_true, List.any_eq_true, List.mem_range, beq_iff_eq] at may
    obtain ⟨⟨⟨⟨⟨-, k, low, owner⟩, -⟩, -⟩, -⟩, -⟩ := may
    refine ⟨(k + 7 - s.cycles % 8) % 8, by omega, ?_⟩
    rw [← owner]
    congr 1
    omega
  have found : ∃ k, (List.range 8).find? (fun k => slotThread (rd s .PMU_SLOTMAP 0) ((s.cycles + k + 1) % 8) == t) = some k := by
    rw [← Option.isSome_iff_exists, List.find?_isSome]
    simpa using owns
  obtain ⟨k, first⟩ := found
  have wait : slotWait s t = k + 1 := by rw [slotWait, first]; rfl
  rw [List.find?_range_eq_some] at first
  obtain ⟨here, low, before⟩ := first
  have at' : atSlot s t = { s with cycles := s.cycles + k + 1 } := by rw [atSlot, wait, Nat.add_assoc]
  rw [at']
  have later (j : Nat) (hj : j < k) : slotThread (rd s .PMU_SLOTMAP 0) ((s.cycles + j + 1) % 8) ≠ t := by simpa using before j hj
  have now : slotThread (rd s .PMU_SLOTMAP 0) ((s.cycles + k + 1) % 8) = t := by simpa using here
  exact nextSlot_at quiet (Nat.lt_trans (List.mem_range.1 low) (by decide)) later now may

/-! ## Instructions that issue and end with nothing else -/

/-- No stop, halt or step of thread `t` and no release of the overlay waits for the end of an issue. -/
structure Calm (s : State) (t : Nat) : Prop where
  running : (thr s t).stopHeld = false
  unhalted : (thr s t).haltPend = none
  free : (thr s t).stepping = false
  covered : s.dev.romoffGo = false

theorem issueEnd_calm {t : Nat} (calm : Calm s t) (slot : Bool) : issueEnd s t slot = s := by
  obtain ⟨running, unhalted, free, covered⟩ := calm
  simp [issueEnd, overlayOff, settleStop, stepEnd, settleHalt, running, unhalted, free, covered]

/-- An instruction that issues plainly has its effect in its slot. -/
theorem issue_plain {i : Instr} (plain : Plain s i) {op : State → State} (calm : Calm (op (issuing s i.thread)) i.thread) :
    issue s i op = .next (op (issuing s i.thread)) := by
  obtain ⟨quiet, may, fetch, legal, slot, limit, -⟩ := plain
  have issues := issueNow_plain (fe := { s with cycles := (atSlot s i.thread).cycles - 1 }) (s := atSlot s i.thread) fetch legal slot limit op
  rw [issue_slot (issueSlot_quiet quiet may) op, issues]
  exact congrArg _ (issueEnd_calm calm _)

theorem calm_issuing {i : Instr} (plain : Plain s i) : Calm (issuing s i.thread) i.thread := by
  obtain ⟨-, -, -, -, -, -, running, unhalted, free, covered⟩ := plain
  have thread : thr (issuing s i.thread) i.thread = issued (thr s i.thread) := thr_setThr_same ..
  exact ⟨by rw [thread]; exact running, by rw [thread]; exact unhalted, by rw [thread]; exact free, covered⟩

end Sys2Proof.Proofs
end

section
/-! # Chapter 04: the crossings (R232-R259) -/
namespace Sys2Proof.Proofs
open Sys2Proof.Machine Sys2Proof.Laws

variable {s : State} {c : Nat} {x : Xfer} {rest : List Xfer}

/-! ## Issue -/

/-- A term holds what leaves it: an inflow term, or with what is on its way to it at least `n` (R649). -/
def Covers (s : State) (b src n : Nat) : Prop := isInflow src = true ∨ (n : Int) ≤ (term s b src).toInt + toward s b src

theorem underflows_covered {b src n : Nat} (covers : Covers s b src n) : underflows s b src n = false := by
  rcases covers with inflow | enough
  · simp [underflows, inflow]
  · simp [underflows, enough]

/-- What a covered booking makes of the books: it leaves its term and is in transit (R643). -/
def inTransit (s : State) (b src dst n : Nat) : State :=
  let s1 := credit (debit s b src n) b (termT b) n
  setToward s1 b dst (toward s1 b dst + n)

theorem bookIssue_covered {b src n : Nat} (covers : Covers s b src n) (dst : Nat) : bookIssue s b src dst n = inTransit s b src dst n := by
  rw [bookIssue, underflows_covered covers]
  rfl

theorem debit_led (s : State) (b src n : Nat) : debit s b src n = { s with led := (debit s b src n).led } := by
  unfold debit
  split <;> rfl

theorem inTransit_led (s : State) (b src dst n : Nat) : inTransit s b src dst n = { s with led := (inTransit s b src dst n).led } := by
  rw [inTransit, debit_led]
  rfl

theorem toward_inTransit (s : State) (b src dst n : Nat) : toward (inTransit s b src dst n) b dst = toward s b dst + n := by
  have kept : toward (credit (debit s b src n) b (termT b) n) b dst = toward s b dst := by
    unfold debit
    split <;> rfl
  have set (u : State) : toward (setToward u b dst (toward u b dst + n)) b dst = toward u b dst + n := mget_mset_same _ _ _ _
  exact (set _).trans (by rw [kept])

theorem term_setTerm_same (s : State) (b k : Nat) (v : Quad) : term (setTerm s b k v) b k = v := mget_mset_same _ _ _ _

theorem term_setTerm_ne (s : State) (b : Nat) {j k : Nat} (v : Quad) (other : j ≠ k) : term (setTerm s b k v) b j = term s b j :=
  mget_mset_ne (fun _ => 0) (fun _ => 0) s.led.term v (by omega : 8 * b + j ≠ 8 * b + k)

theorem term_debit_ne (s : State) {b src k : Nat} (other : k ≠ src) (n : Nat) : term (debit s b src n) b k = term s b k := by
  unfold debit
  split <;> exact term_setTerm_ne _ _ _ other

theorem term_inTransit (s : State) {b src : Nat} (other : src ≠ termT b) (dst n : Nat) :
    term (inTransit s b src dst n) b (termT b) = term s b (termT b) + BitVec.ofNat 32 n := by
  have credited : term (credit (debit s b src n) b (termT b) n) b (termT b) = term (debit s b src n) b (termT b) + BitVec.ofNat 32 n :=
    term_setTerm_same _ _ _ _
  rw [← term_debit_ne s other.symm, ← credited]
  rfl

/-- The bookings that a transfer carries are covered. -/
structure Booked (s : State) (x : Xfer) : Prop where
  book : ∀ b src dst n, x = .book b src dst n → Covers s b src n
  give : ∀ ch i u a f, x = .ringGive ch i u a f → Covers s (4 + ch) 3 1
  done : ∀ ch i st d f, x = .ringDone ch i st d f → Covers s (4 + ch) 4 1

theorem issueBook_led (booked : Booked s x) : issueBook s x = { s with led := (issueBook s x).led } := by
  cases x with
  | book b src dst n =>
    rw [issueBook, bookIssue_covered (booked.book b src dst n rfl)]
    exact inTransit_led s b src dst n
  | ringGive ch i u a f =>
    rw [issueBook, bookIssue_covered (booked.give ch i u a f rfl)]
    exact inTransit_led s (4 + ch) 3 4 1
  | ringDone ch i st d f =>
    rw [issueBook, bookIssue_covered (booked.done ch i st d f rfl)]
    exact inTransit_led s (4 + ch) 4 5 1
  | _ => rfl

/-- The oldest transfer moves from the queue into a slot. -/
def booksOut (s : State) (c : Nat) (x : Xfer) (rest : List Xfer) : State :=
  setFly { s with xwait := mset (fun _ => []) s.xwait c rest } c (xflyOf s c ++ [x])

theorem crossIssue_next (waits : xwaitOf s c = x :: rest) (free : slotsBusy s c < 2) (awake : s.dev.stbyReq = false)
    (room : c = 14 → isWindow x = true → windowFull s = false) : crossIssue s c = issueBook (booksOut s c x rest) x := by
  have next : (c == 14 && isWindow x && windowFull s) = false := by
    rw [Bool.and_eq_false_iff, Bool.and_eq_false_iff, beq_eq_false_iff_ne]
    by_cases at14 : c = 14
    · by_cases window : isWindow x = true
      · exact .inr (room at14 window)
      · exact .inl (.inr (by simpa using window))
    · exact .inl (.inl at14)
  have still : ¬ (s.dev.stbyReq = true ∨ 2 ≤ slotsBusy s c) := by simp [awake]; omega
  have first : (xwaitOf s c).dropWhile (fun y => c == 14 && isWindow y && windowFull s) = x :: rest := by
    rw [waits, List.dropWhile_cons_of_neg (by simp [next])]
  have held : (xwaitOf s c).takeWhile (fun y => c == 14 && isWindow y && windowFull s) = [] := by
    rw [waits, List.takeWhile_cons_of_neg (by simp [next])]
  simp only [crossIssue, first, held, if_neg still]
  rfl

theorem crossIssue_held (held : s.dev.stbyReq = true ∨ 2 ≤ slotsBusy s c) : crossIssue s c = s := by
  unfold crossIssue
  dsimp only
  split
  · rfl
  · exact if_pos held

/-- A covered transfer that is issued changes nothing but its crossing and the books. -/
theorem crossIssue_effects (waits : xwaitOf s c = x :: rest) (free : slotsBusy s c < 2) (awake : s.dev.stbyReq = false)
    (room : c = 14 → isWindow x = true → windowFull s = false) (booked : Booked s x) : let t := crossIssue s c
    xflyOf t c = xflyOf s c ++ [x] ∧ xwaitOf t c = rest ∧ t.io = s.io ∧ t.thr = s.thr ∧ SameMemory s t ∧
      (∀ b src dst n, x = .book b src dst n → src ≠ termT b → toward t b dst = toward s b dst + n ∧
        term t b (termT b) = term s b (termT b) + BitVec.ofNat 32 n) := by
  intro t
  have out : Booked (booksOut s c x rest) x := ⟨booked.book, booked.give, booked.done⟩
  have issued : t = issueBook (booksOut s c x rest) x := crossIssue_next waits free awake room
  refine ⟨?_, ?_, ?_, ?_, ?_, ?_⟩
  · rw [issued, issueBook_led out]; exact mget_mset_same _ _ _ _
  · rw [issued, issueBook_led out]; exact mget_mset_same _ _ _ _
  · rw [issued, issueBook_led out]; rfl
  · rw [issued, issueBook_led out]; rfl
  · rw [issued, issueBook_led out]; exact SameMemory.refl s
  · rintro b src dst n rfl other
    have transit : t = inTransit (booksOut s c (.book b src dst n) rest) b src dst n :=
      issued.trans (bookIssue_covered (out.book b src dst n rfl) dst)
    rw [transit]
    exact ⟨toward_inTransit _ b src dst n, term_inTransit _ other dst n⟩

/-! ## Slots and the stall -/

/-- A captured transfer's slot is busy until the source has seen the acknowledge low (R233). -/
theorem slotsBusy_slotBack (empty : mget (fun _ => []) s.xback c = []) (d : Nat) :
    slotsBusy { slotBack (setFly s c rest) c with cycles := s.cycles + d } c = rest.length + (if d < Config.ackCycles c s.fresh then 1 else 0) := by
  have fly : xflyOf { slotBack (setFly s c rest) c with cycles := s.cycles + d } c = rest := mget_mset_same _ _ _ _
  have none : (mget (fun _ => []) s.xback c).filter (fun r => decide (s.cycles < r)) = [] := by rw [empty]; rfl
  have back : mget (fun _ => []) (slotBack (setFly s c rest) c).xback c = [s.cycles + Config.ackCycles c s.fresh] := by
    refine (mget_mset_same _ _ _ _).trans ?_
    show (mget (fun _ => []) s.xback c).filter (fun r => decide (s.cycles < r)) ++ _ = _
    rw [none]
    rfl
  rw [slotsBusy, fly]
  congr 1
  show (mget (fun _ => []) (slotBack (setFly s c rest) c).xback c).countP (fun r => decide (s.cycles + d < r)) = _
  rw [back, List.countP_singleton]
  simp

/-- A transfer that has stood in its crossing for 64 cycles is recorded, and stays (R259). -/
theorem crossStall_effects (stands : xflyOf s c ≠ []) : let t := crossStall s c
    rd t .CLK_XSTALL 0 = BitVec.ofNat 32 (c + 128) ∧ rb t .CLK_FAIL 0 4 = true ∧ t.xfly = s.xfly ∧ t.thr = s.thr ∧ SameMemory s t := by
  have counted := (countsOnly_occur s 0x0B 1).trans (countsOnly_latchEdge (occur s 0x0B 1) 32)
  have full : ¬ (xflyOf s c).isEmpty = true := by simpa using stands
  rw [crossStall, if_neg full]
  generalize latchEdge (occur s 0x0B 1) 32 = u at counted
  have fly : u.xfly = s.xfly := by rw [counted.others]
  have memory := SameMemory.trans (wr_memory u .CLK_FAIL 0 _) (wr_memory (wb u .CLK_FAIL 0 4 true) .CLK_XSTALL 0 (BitVec.ofNat 32 (c + 128)))
  refine ⟨rd_wr_same _ _ _ _, ?_, fly, counted.thr, SameMemory.trans counted.sameMemory memory⟩
  rw [rb_wr_ne _ _ _ (by decide), rb_wb_same _ _ _ _ _ (by decide)]

/-! ## Captures -/

theorem crossCapture_first (flies : xflyOf s c = x :: rest) : crossCapture s c = takeXfer (slotBack (setFly s c rest) c) c x := by
  rw [crossCapture, flies]

/-- The value lands, and its thread is `y` in the end. -/
theorem setThr_landed (u : State) (t : Nat) (y z : Thread) (l : List PipeEntry) :
    setThr { setThr u t y with pipe := l } t z = { setThr u t z with pipe := l } :=
  congrArg (fun v : State => { v with pipe := l }) (setThr_setThr u t y z)

theorem thr_landed (u : State) (t : Nat) (y : Thread) (l : List PipeEntry) : thr { setThr u t y with pipe := l } t = y := thr_setThr_same ..

section
variable {t : Fin 8} {r : Fin 16} {p : Fin 5} (u : State) (k : Nat) (keeper : Bool) (b b1 : Byte)

theorem takeInReply_greg : takeInReply u ⟨.greg t r, k, keeper⟩ b =
    { setThr u t { setG (thr u t) r b with outX := (thr u t).outX - 1, outKX := (thr u t).outKX - b01 keeper } with
      pipe := overrides u k fun e => e.writesG t r } := by
  have landed : landAt u ⟨.greg t r, k, keeper⟩ [b] = { setThr u t (setG (thr u t) r b) with pipe := overrides u k fun e => e.writesG t r } := rfl
  simp only [takeInReply, landed, thr_landed, setThr_landed]
  rfl

theorem takeFarReply_greg : takeFarReply u ⟨.greg t r, k, keeper⟩ [b] =
    { setThr u t { setG (thr u t) r b with outW := (thr u t).outW - 1, outKW := (thr u t).outKW - b01 keeper } with
      pipe := overrides u k fun e => e.writesG t r } := by
  have landed : landAt u ⟨.greg t r, k, keeper⟩ [b] = { setThr u t (setG (thr u t) r b) with pipe := overrides u k fun e => e.writesG t r } := rfl
  simp only [takeFarReply, winDone, landed, thr_landed, setThr_landed]
  rfl

theorem takeFarReply_preg : takeFarReply u ⟨.preg t p, k, keeper⟩ [b, b1] =
    { setThr u t { setP (thr u t) p (BitVec.ofNat 16 (b.toNat + 256 * b1.toNat)) with
        outW := (thr u t).outW - 1, outKW := (thr u t).outKW - b01 keeper } with
      pipe := overrides u k fun e => e.writesP t p } := by
  have landed : landAt u ⟨.preg t p, k, keeper⟩ [b, b1] =
      { setThr u t (setP (thr u t) p (BitVec.ofNat 16 (b.toNat + 256 * b1.toNat))) with pipe := overrides u k fun e => e.writesP t p } := rfl
  simp only [takeFarReply, winDone, landed, thr_landed, setThr_landed]
  rfl

end

/-- Opening a measure leaves the interrupt controller alone. -/
theorem openMeasures_icu (s : State) (src : Nat) : (openMeasures s src).icu = s.icu := by
  unfold openMeasures
  generalize List.range 8 = l
  induction l generalizing s with
  | nil => rfl
  | cons n l ih =>
    refine (ih _).trans ?_
    dsimp only
    split <;> rfl

/-- An edge that finds its pending bit clear sets it, and no other (R525). -/
theorem latchEdge_pend {src : Nat} (used : srcReserved src = false) (clear : mget (fun _ => false) s.icu.pend src = false) :
    (latchEdge s src).icu.pend = mset (fun _ => false) s.icu.pend src true := by
  have first : ¬ mget (fun _ => false) (markEdge s src).icu.pend src = true := by simpa [markEdge] using clear
  unfold latchEdge
  rw [used, if_neg Bool.false_ne_true, clear, if_neg Bool.false_ne_true]
  exact congrArg Icu.pend (openMeasures_icu _ src)

/-- Settles O19: an issue moves the oldest transfer into a slot and books it, a capture is what its destination makes of it. -/
theorem crossingsKeepOrder : Obligations.CrossingsKeepOrder := by
  refine ⟨fun s c x rest => ⟨?issue, ?held, fun d empty => slotsBusy_slotBack empty d, ?stall⟩,
    fun s c rest t r p b b1 src k keeper live => ?capture⟩
  case issue =>
    intro live awake waits free room book give done
    have booked : Booked s x := ⟨book, fun _ _ _ _ _ h => .inr (give _ _ _ _ _ h), fun _ _ _ _ _ h => .inr (done _ _ _ _ _ h)⟩
    exact Does.intro (liveIn_live live fun s => crossIssue s c) (crossIssue_effects waits free awake room booked)
  case held =>
    intro held
    refine (?_ : liveIn s (xSrc c) (fun s => crossIssue s c) = .next s)
    rw [liveIn, crossIssue_held held, ite_self]
  case stall =>
    intro live stands
    exact Does.intro (liveIn_live live fun s => crossStall s c) (crossStall_effects stands)
  case capture =>
    intro s1 th left
    have captures {x : Xfer} (flies : xflyOf s c = x :: rest) : exec (.crossingCapture c) s = .next (takeXfer s1 c x) :=
      (liveIn_live live fun s => crossCapture s c).trans (congrArg _ (crossCapture_first flies))
    refine ⟨fun flies => ?_, fun flies => ?_, fun flies => ?_, fun flies => ?_, fun flies used clear => ?_⟩
    · exact (captures flies).trans (congrArg _ (takeInReply_greg s1 k keeper b))
    · exact (captures flies).trans (congrArg _ (takeFarReply_greg s1 k keeper b))
    · exact (captures flies).trans (congrArg _ (takeFarReply_preg s1 k keeper b b1))
    · exact (captures flies).trans (congrArg _ (if_pos t.isLt))
    · have counted := countsOnly_latchEdge s1 src
      have pend : (latchEdge s1 src).icu.pend = mset (fun _ => false) s.icu.pend src true := latchEdge_pend used clear
      refine Does.intro (captures flies) ⟨?_, ?_, counted.thr, counted.sameMemory, fun j hj => ?_⟩
      · rw [takeXfer, pend, mget_mset_same]
      · rw [takeXfer, xflyOf, counted.others]
        exact mget_mset_same _ _ _ _
      · rw [takeXfer, pend, mget_mset_ne _ _ _ _ hj]

end Sys2Proof.Proofs
end

section
/-! # Chapter 04: a tick of the time base (R225) -/
namespace Sys2Proof.Proofs
open Sys2Proof.Machine Sys2Proof.Laws

variable {s t u : State}

/-! ## The always-on domain -/

/-- From `s` to `t` the always-on domain has taken its step: its registers and the RTC's count to load (R188, R203) are all that differs. -/
structure AoStep (s t : State) : Prop where
  others : t = { s with io := t.io, dev := { s.dev with rtcSet := t.dev.rtcSet } }
  pipeline : LeavesPipeline s t

namespace AoStep

theorem refl (s : State) : AoStep s s := ⟨rfl, .refl s⟩

theorem ite (h : AoStep s t) (k : AoStep s u) {p : Prop} [Decidable p] : AoStep s (if p then t else u) := by
  split
  · exact h
  · exact k

theorem wr (h : AoStep s t) {r : Rg} {i : Nat} (apart : regAddr r i < 0xA00 ∨ 0xB00 ≤ regAddr r i) (v : Quad) : AoStep s (wr t r i v) where
  others := congrArg (fun x : State => { x with io := (Machine.wr t r i v).io }) h.others
  pipeline := h.pipeline.wr apart v

theorem loaded (h : AoStep s t) : AoStep s (setDev t { t.dev with rtcSet := none }) where
  others := congrArg (fun x => setDev x { x.dev with rtcSet := none }) h.others
  pipeline := h.pipeline.trans ⟨rfl, rfl, fun _ _ => rfl, fun _ _ => rfl⟩

theorem setRtc (h : AoStep s t) (n : Nat) : AoStep s (setRtc t n) := (h.wr (by decide) _).wr (by decide) _

theorem rtcEdge (h : AoStep s t) : AoStep s (rtcEdge t) := by
  have seen {p : Prop} [Decidable p] : AoStep s (if p then t else wb t .CLK_STAT 0 5 true) := ite h (h.wr (by decide) _)
  have load {v : State} (hv : AoStep s v) : AoStep s (rtcLoad v) := by
    unfold rtcLoad
    split
    · exact ((hv.wr (by decide) _).wr (by decide) _).loaded
    · exact hv
  exact ite (load seen) (seen.setRtc _)

theorem time (h : AoStep s t) : t.time = s.time := by rw [h.others]

theorem cycles (h : AoStep s t) : t.cycles = s.cycles := by rw [h.others]

theorem fresh (h : AoStep s t) : t.fresh = s.fresh := by rw [h.others]

theorem thr (h : AoStep s t) : t.thr = s.thr := by rw [h.others]

theorem far (h : AoStep s t) : t.far = s.far := by rw [h.others]

theorem phase (h : AoStep s t) : t.dev.phase = s.dev.phase := by rw [h.others]

theorem coreRuns (h : AoStep s t) : islandRuns t .core = islandRuns s .core := by rw [h.others]; rfl

theorem sameMemory (h : AoStep s t) : SameMemory s t := by rw [h.others]; exact SameMemory.refl s

theorem wdtTick (h : AoStep s t) : AoStep s (wdtTick t) := ite (h.wr (by decide) _) h

end AoStep

theorem aoTick_step (s : State) : AoStep s (aoTick s) := by
  have edge : AoStep s (if Config.rtcEdge s.fresh then rtcEdge s else s) := (AoStep.refl s).rtcEdge.ite (.refl s)
  exact edge.wdtTick.ite edge

/-! ## What a tick leaves as it is -/

/-- From `s` to `t` no cycle and no tick passes, and no memory and no thread's registers change. -/
structure KeepsRegisters (s t : State) : Prop where
  instant : SameInstant s t
  memory : SameMemory s t
  registers : ∀ n, (thr t n).g = (thr s n).g ∧ (thr t n).p = (thr s n).p

namespace KeepsRegisters

theorem of_thr (instant : SameInstant s t) (memory : SameMemory s t) (same : t.thr = s.thr) : KeepsRegisters s t :=
  ⟨instant, memory, fun n => by rw [thr, same, thr]; exact ⟨rfl, rfl⟩⟩

theorem refl (s : State) : KeepsRegisters s s := of_thr (.refl s) (SameMemory.refl s) rfl

theorem trans (h : KeepsRegisters s t) (k : KeepsRegisters t u) : KeepsRegisters s u where
  instant := h.instant.trans k.instant
  memory := SameMemory.trans h.memory k.memory
  registers n := ⟨(k.registers n).1.trans (h.registers n).1, (k.registers n).2.trans (h.registers n).2⟩

theorem ite (h : KeepsRegisters s t) (k : KeepsRegisters s u) {p : Prop} [Decidable p] : KeepsRegisters s (if p then t else u) := by
  split
  · exact h
  · exact k

theorem foldl {α : Type} {f : State → α → State} {l : List α} (h : KeepsRegisters s t)
    (hf : ∀ u x, KeepsRegisters s u → KeepsRegisters s (f u x)) : KeepsRegisters s (l.foldl f t) := by
  induction l generalizing t with
  | nil => exact h
  | cons x l ih => exact ih (hf t x h)

theorem counted (h : KeepsRegisters s t) (k : CountsOnly t u) : KeepsRegisters s u :=
  h.trans (of_thr ((SameInstant.refl t).counted k) k.sameMemory k.thr)

theorem leaves (h : KeepsRegisters s t) (k : LeavesSystem t u) : KeepsRegisters s u :=
  h.trans (of_thr ((SameInstant.refl t).leaves k) k.sameMemory k.thr)

theorem wr (h : KeepsRegisters s t) (r : Rg) (i : Nat) (v : Quad) : KeepsRegisters s (wr t r i v) :=
  h.trans (of_thr ⟨rfl, rfl⟩ (SameMemory.refl t) rfl)

theorem wb (h : KeepsRegisters s t) (r : Rg) (i b : Nat) (x : Bool) : KeepsRegisters s (wb t r i b x) := h.wr r i _

theorem wf (h : KeepsRegisters s t) (r : Rg) (i hi lo x : Nat) : KeepsRegisters s (wf t r i hi lo x) := h.wr r i _

theorem setDev (h : KeepsRegisters s t) (d : Dev) : KeepsRegisters s (setDev t d) := h.trans (of_thr ⟨rfl, rfl⟩ (SameMemory.refl t) rfl)

theorem setCtr (h : KeepsRegisters s t) (n : Nat) (c : Counter) : KeepsRegisters s (setCtr t n c) := h.counted (countsOnly_setCtr t n c)

/-- A thread is replaced by one with its registers. -/
theorem setThr (h : KeepsRegisters s t) {n : Nat} {x : Thread} (g : x.g = (thr t n).g) (p : x.p = (thr t n).p) : KeepsRegisters s (setThr t n x) := by
  refine h.trans ⟨⟨rfl, rfl⟩, SameMemory.refl t, fun m => ?_⟩
  by_cases same : m = n
  · subst same
    rw [thr_setThr_same]
    exact ⟨g, p⟩
  · rw [thr_setThr_ne _ _ _ _ same]
    exact ⟨rfl, rfl⟩

/-! ## The parts of a tick -/

theorem budgetTick (h : KeepsRegisters s t) : KeepsRegisters s (budgetTick t) := by
  refine h.foldl fun u n hu => ?_
  dsimp only
  split
  · split
    · exact hu.setThr rfl rfl
    · exact hu
  · exact hu

theorem bump (h : KeepsRegisters s t) (n k : Nat) : KeepsRegisters s (bump t n k) := by
  have counted := h.counted (countsOnly_bumpCount t n k)
  unfold Machine.bump
  dsimp only
  exact ite (counted.counted (countsOnly_occur _ _ _)) counted

theorem tickLevels (h : KeepsRegisters s t) : KeepsRegisters s (tickLevels t) := by
  refine h.foldl fun u n hu => ?_
  have credited (c : Counter) := hu.setCtr n c
  exact ite (ite (credited _) ((credited _).bump n _)) hu

theorem pinMuxWrite (h : KeepsRegisters s t) (n : Nat) (v : Quad) : KeepsRegisters s (pinMuxWrite t n v) := by
  obtain ⟨m, left⟩ := pinMuxWrite_leavesPins t n v
  obtain ⟨same, memory⟩ := pinOfFunc_frame t n v m
  exact h.trans (of_thr ((SameInstant.refl t).pinMuxWrite n v) (SameMemory.trans memory left.memory) (left.thr.trans same))

theorem statShow (h : KeepsRegisters s t) : KeepsRegisters s (statShow t) := h.leaves (LeavesSystem.refl t).statShow

theorem romConfig (h : KeepsRegisters s t) : KeepsRegisters s (romConfig t) := by
  have pins := h.foldl (l := romPins) fun u n hu => hu.pinMuxWrite n 1
  exact ite h (((((pins.wf _ _ _ _ _).wf _ _ _ _ _).wb _ _ _ _).wb _ _ _ _).setDev _).statShow

theorem safeHoldBy (h : KeepsRegisters s t) (cause : Nat) : KeepsRegisters s (safeHoldBy t cause) :=
  (((h.setDev _).wb _ _ _ _).wf _ _ _ _ _).statShow

theorem romClock (h : KeepsRegisters s t) : KeepsRegisters s (romClock t) := ite (h.romConfig.safeHoldBy 1) h.romConfig

end KeepsRegisters

/-! ## The tick -/

/-- A tick of a device awake whose pipeline is empty. -/
theorem clockTick_quiet (awake : s.dev.phase = .awake) (quiet : Quiet s) (still : s.far.rekey = none) :
    let c := if islandRuns s .core then Config.coreCycles s.fresh else 0
    KeepsRegisters { s with time := s.time + 1, cycles := s.cycles + c, fresh := s.fresh + 1 } (clockTick s) := by
  intro c
  have next : Quiet { s with time := s.time + 1, fresh := s.fresh + 1 } := quiet
  have swept : sweepMove { s with time := s.time + 1, fresh := s.fresh + 1 } (Config.sweepLines s.fresh) =
      { s with time := s.time + 1, fresh := s.fresh + 1 } := by simp [sweepMove, still]
  have passed : cyclesPass c (sweepMove { s with time := s.time + 1, fresh := s.fresh + 1 } (Config.sweepLines s.fresh)) =
      { s with time := s.time + 1, cycles := s.cycles + c, fresh := s.fresh + 1 } := by rw [swept, cyclesPass_quiet next]
  unfold clockTick
  dsimp only
  rw [passed, if_pos awake]
  have budget := (KeepsRegisters.refl { s with time := s.time + 1, cycles := s.cycles + c, fresh := s.fresh + 1 }).budgetTick
  exact (budget.tickLevels.ite budget).romClock

theorem tick_awake (powered : s.dev.vddao = true) (awake : s.dev.phase = .awake) : tick s = clockTick (aoTick s) := by simp [tick, powered, awake]

theorem tick_still (powered : s.dev.vddao = true) (stands : s.dev.phase = .held ∨ s.dev.phase = .standby) :
    tick s = { aoTick s with fresh := (aoTick s).fresh + 1 } := by
  rcases stands with held | standby
  · simp [tick, powered, held]
  · simp [tick, powered, standby]

/-- Settles O2: the always-on domain steps first, then CORE's cycles pass on an empty pipeline. -/
theorem idleStepIsOneTick : Obligations.IdleStepIsOneTick := by
  intro s idle
  have step_tick : step s = .next (tick s) := by rw [step, idle]
  have ao := aoTick_step s
  refine ⟨fun powered awake quiet still => ?_, fun powered stands => ?_, fun dark => ?_⟩
  · obtain ⟨instant, memory, registers⟩ := clockTick_quiet (ao.phase.trans awake) (ao.pipeline.quiet quiet) (by rw [ao.far, still])
    rw [ao.coreRuns, ao.fresh, ao.cycles, ao.time] at instant
    refine ⟨_, step_tick.trans (congrArg _ (tick_awake powered awake)), instant.time, instant.cycles,
      SameMemory.trans ao.sameMemory memory, fun n => ?_⟩
    have same : thr (aoTick s) n = thr s n := by rw [thr, ao.thr, thr]
    exact same ▸ registers n
  · exact ⟨_, step_tick.trans (congrArg _ (tick_still powered stands)), ao.time, ao.cycles, ao.sameMemory, ao.thr⟩
  · rw [step_tick, tick, if_pos dark]

end Sys2Proof.Proofs
end

section
/-! # Chapter 06: IN and OUT (R359-R361) -/
namespace Sys2Proof.Proofs
open Sys2Proof.Machine Sys2Proof.Laws

variable {s u : State} {t : Nat} {th w : Thread} {m : MemOp}

/-! ## The MODE 1 update of a pointer -/

/-- The thread `w` once the pointer that `th` gave has moved. -/
def modeMoved (th : Thread) (m : MemOp) (w : Thread) : Thread :=
  match m with
  | .post pb o => setP w pb (getP th pb + BitVec.ofInt 16 o.toInt)
  | _ => w

/-- What the update of a pointer leaves in the pipeline. -/
def modeEntries (c t : Nat) (th : Thread) (m : MemOp) : List PipeEntry :=
  match m with
  | .post pb o => [⟨c, c + 3, .preg t pb (getP th pb + o.signExtend 16)⟩]
  | _ => []

theorem modeUpdate_entries (empty : s.pipe = []) : modeUpdate s t m = { s with pipe := modeEntries s.cycles t (thr s t) m } := by
  cases m with
  | post pb o => simp only [modeUpdate, putP, later, modeEntries, empty, pipeIns]
  | _ => simp only [modeUpdate, modeEntries, pipe_emptied empty]

theorem modeEntries_land (c : Nat) : ∀ e ∈ modeEntries c t th m, e.land = c + 3 := by
  cases m <;> simp [modeEntries]

/-- An entry that lands no sooner stands behind the update. -/
theorem pipeIns_modeEntries {c k : Nat} (after : 3 ≤ k) (op : PipeOp) :
    pipeIns ⟨c, c + k, op⟩ (modeEntries c t th m) = modeEntries c t th m ++ [⟨c, c + k, op⟩] := by
  cases m with
  | post pb o =>
    have behind : ¬ (c + k < c + 3 ∨ c + k = c + 3 ∧ c < c) := by omega
    simp only [modeEntries, pipeIns, behind, if_false, List.cons_append, List.nil_append]
  | _ => rfl

/-! ## The cycles of an access -/

/-- The state in cycle `c` with `es` in the pipeline. -/
def inCycle (u : State) (c : Nat) (es : List PipeEntry) : State := { u with cycles := c, pipe := es }

variable {c : Nat}

theorem inCycle_quiet (quiet : Quiet u) : inCycle u c [] = { u with cycles := c } := by rw [inCycle, ← quiet.1]

theorem inCycle_here {es : List PipeEntry} (here : u.cycles = c) : { u with pipe := es } = inCycle u c es := by rw [inCycle, ← here]

theorem modeEntries_foldl (es : List PipeEntry) : (modeEntries c t th m).foldl landEntry (inCycle (setThr u t w) (c + 3) es) =
    inCycle (setThr u t (modeMoved th m w)) (c + 3) es := by
  cases m with
  | post pb o =>
    show inCycle (setThr (setThr u t w) t (setP (thr (setThr u t w) t) pb (getP th pb + o.signExtend 16))) (c + 3) es = _
    rw [thr_setThr_same, setThr_setThr]
    rfl
  | _ => rfl

/-- For three cycles nothing lands. -/
theorem cyclesPass_early {k : Nat} {es : List PipeEntry} (quiet : Quiet u) (later : ∀ e ∈ es, c + 3 ≤ e.land) (early : k ≤ 3) :
    cyclesPass k (inCycle u c es) = inCycle u (c + k) es :=
  cyclesPass_waiting (s := inCycle u c es) quiet.2.1 quiet.2.2 fun e he => Nat.le_trans (Nat.add_le_add_left early _) (later e he)

theorem cycleStep_inCycle {due rest : List PipeEntry} (quiet : Quiet u) (now : ∀ e ∈ due, e.land = c) (later : ∀ e ∈ rest, c < e.land) :
    cycleStep (inCycle u c (due ++ rest)) = let v := due.foldl landEntry (inCycle u c rest)
      slotDue { v with cycles := v.cycles + 1 } :=
  cycleStep_lands (s := inCycle u c (due ++ rest)) quiet.2.2 rfl (fun e he => (now e he).le) later

/-- At the end of the third cycle the pointer's update lands, with what stands right behind it; what is due later waits on. -/
theorem cyclesPass_moved {due rest : List PipeEntry} (quiet : Quiet u) (now : ∀ e ∈ due, e.land = c + 3)
    (later : ∀ e ∈ rest, c + 3 < e.land) :
    cyclesPass 4 (inCycle (setThr u t w) c (modeEntries c t th m ++ due ++ rest)) =
      let v := due.foldl landEntry (inCycle (setThr u t (modeMoved th m w)) (c + 3) rest)
      slotDue { v with cycles := v.cycles + 1 } := by
  have third : ∀ e ∈ modeEntries c t th m ++ due, e.land = c + 3 := fun e he =>
    (List.mem_append.1 he).elim (modeEntries_land c e) (now e)
  have waiting : ∀ e ∈ modeEntries c t th m ++ due ++ rest, c + 3 ≤ e.land := fun e he =>
    (List.mem_append.1 he).elim (fun h => (third e h).ge) fun h => (later e h).le
  have still : Quiet (setThr u t w) := quiet
  rw [cyclesPass_succ 3, cyclesPass_early still waiting (Nat.le_refl 3), cycleStep_inCycle still third later, List.foldl_append,
    modeEntries_foldl]

/-- An access on which nothing else waits only moves its pointer. -/
theorem cyclesPass_sent (quiet : Quiet u) : cyclesPass 4 (inCycle (setThr u t w) c (modeEntries c t th m)) =
    { setThr u t (modeMoved th m w) with cycles := c + 4 } := by
  have moved := cyclesPass_moved (t := t) (th := th) (w := w) (m := m) (c := c) (due := []) (rest := []) quiet (by simp) (by simp)
  have still : Quiet (setThr u t (modeMoved th m w)) := quiet
  rw [List.append_nil, List.append_nil] at moved
  exact moved.trans ((slotDue_free (s := inCycle (setThr u t (modeMoved th m w)) (c + 4) []) quiet.2.1).trans (inCycle_quiet still))

/-! ## The access in its slot -/

/-- The requester of what thread `t` issues. -/
def issuer (s : State) (t : Nat) : Who := ⟨t, (thr s t).world, rn s .TG_GRANT t⟩

/-- The address that thread `t` accesses. -/
def accessed (s : State) (t : Nat) (m : MemOp) : Nat := (memAddr (thr s t) m).toNat

/-- The thread with one access more outstanding (R361). -/
def outstanding (th : Thread) : Thread := { issued th with outX := th.outX + 1, outKX := th.outKX + b01 (!th.world) }

section
variable {t : Fin 8} {r : Fin 16}

theorem whoNow_thread (s : State) (t : Fin 8) : whoNow s t = issuer s t := by simp [whoNow, reqWorld, reqGrant, issuer]

theorem thr_issuing (s : State) (t : Nat) : thr (issuing s t) t = issued (thr s t) := thr_setThr_same ..

theorem thr_issued (s : State) (t : Nat) (es : List PipeEntry) : thr { issuing s t with pipe := es } t = issued (thr s t) := thr_issuing s t

/-- An issue leaves the requester's world and grant as they are. -/
theorem whoNow_issued (s : State) (t : Fin 8) (es : List PipeEntry) : whoNow { issuing s t with pipe := es } t = issuer s t := by
  rw [whoNow_thread, issuer, thr_issued]
  rfl

theorem accessed_issuing (s : State) (t : Nat) (m : MemOp) : (memAddr (thr (issuing s t) t) m).toNat = accessed s t m := by
  rw [thr_issuing]
  rfl

theorem modeUpdate_issuing (quiet : Quiet s) (t : Nat) (m : MemOp) :
    modeUpdate (issuing s t) t m = { issuing s t with pipe := modeEntries (issuing s t).cycles t (thr s t) m } := by
  rw [modeUpdate_entries (s := issuing s t) quiet.1, thr_issuing]
  rfl

/-- Another access of the thread is outstanding. -/
theorem inOut_issued (s : State) (t : Fin 8) (r : Fin 16) (es : List PipeEntry) :
    inOut { issuing s t with pipe := es } (.greg t r) = { setThr (atSlot s t) t (outstanding (thr s t)) with pipe := es } := by
  rw [inOut, thr_issued]
  exact congrArg (fun v : State => { v with pipe := es }) (setThr_setThr ..)

theorem landing_issued (s : State) (t : Fin 8) (r : Fin 16) (es : List PipeEntry) :
    landing { issuing s t with pipe := es } (.greg t r) = ⟨.greg t r, (issuing s t).cycles, !(thr s t).world⟩ := by
  rw [landing, thr_issued]
  rfl

section
variable (quiet : Quiet s) (here : (issuing s t).cycles = c)
include quiet here

theorem inByte_core (core : accessIsland (issuer s t) (accessed s t m) = .core) :
    inByte (issuing s t) t r (.greg t r) m = inCycle (issuing s t) c (modeEntries c t (thr s t) m ++
      [⟨c, c + 4, .inReg t (accessed s t m) r (thr s t).world (rn s .TG_GRANT t)⟩]) := by
  rw [inByte, modeUpdate_issuing quiet, whoNow_issued, accessed_issuing, if_pos core, ← here]
  exact congrArg (inCycle (issuing s t) (issuing s t).cycles) (pipeIns_modeEntries (by decide) _)

theorem inByte_far (far : accessIsland (issuer s t) (accessed s t m) ≠ .core) :
    inByte (issuing s t) t r (.greg t r) m =
      inCycle (send (setThr (atSlot s t) t (outstanding (thr s t))) (fromCore (accessIsland (issuer s t) (accessed s t m)))
        (.regRead t (accessed s t m) ⟨.greg t r, c, !(thr s t).world⟩ (thr s t).world (rn s .TG_GRANT t))) c (modeEntries c t (thr s t) m) := by
  rw [inByte, modeUpdate_issuing quiet, whoNow_issued, accessed_issuing, if_neg far, inOut_issued, landing_issued, ← here]
  rfl

theorem outByte_core (core : accessIsland (issuer s t) (accessed s t m) = .core) :
    outByte (issuing s t) t r m = inCycle (issuing s t) c (modeEntries c t (thr s t) m ++
      [⟨c, c + 3, .outReg t (accessed s t m) (getG (thr s t) r) (thr s t).world (rn s .TG_GRANT t)⟩]) := by
  rw [outByte, modeUpdate_issuing quiet, whoNow_issued, accessed_issuing, thr_issuing, if_pos core, ← here]
  exact congrArg (inCycle (issuing s t) (issuing s t).cycles) (pipeIns_modeEntries (by decide) _)

theorem outByte_far (far : accessIsland (issuer s t) (accessed s t m) ≠ .core) :
    outByte (issuing s t) t r m = inCycle (send (issuing s t) (fromCore (accessIsland (issuer s t) (accessed s t m)))
      (.regWrite t (accessed s t m) (getG (thr s t) r) (thr s t).world (rn s .TG_GRANT t))) c (modeEntries c t (thr s t) m) := by
  rw [outByte, modeUpdate_issuing quiet, whoNow_issued, accessed_issuing, thr_issuing, if_neg far, ← here]
  rfl

end

/-! ## The accesses of CORE in their cycles -/

theorem quiet_issuing (quiet : Quiet s) (t : Nat) : Quiet (issuing s t) := quiet

/-- The state with the word issued and the pointer moved. -/
def pointerMoved (s : State) (t : Nat) (m : MemOp) : State := setThr s t (modeMoved (thr s t) m (issued (thr s t)))

/-- The pointer has moved and an IN's read stands in the pipeline at the end of the cycle before it. -/
theorem inByte_four (quiet : Quiet s) {c : Nat} (op : PipeOp) :
    cyclesPass 4 (inCycle (issuing s t) c (modeEntries c t (thr s t) m ++ [⟨c, c + 4, op⟩])) =
      inCycle (pointerMoved s t m) (c + 4) [⟨c, c + 4, op⟩] := by
  have moved := cyclesPass_moved (u := atSlot s t) (t := t) (th := thr s t) (w := issued (thr s t)) (m := m) (c := c) (due := [])
    (rest := [⟨c, c + 4, op⟩]) quiet (by simp) (by simp)
  rw [List.append_nil] at moved
  exact moved.trans (slotDue_free (s := inCycle (pointerMoved s t m) (c + 4) [⟨c, c + 4, op⟩]) quiet.2.1)

/-- A read of CORE's I/O space in its cycle, and its value in the register a cycle later. -/
theorem inReg_two (quiet : Quiet u) {c issue a g : Nat} {w : Who} (thread : w.req < 8) (core : accessIsland w a = .core) :
    let got := readByte { u with cycles := c } w a
    cyclesPass 2 (inCycle u c [⟨issue, c, .inReg w.req a g w.world w.grant⟩]) =
      let v := { got.2 with cycles := c + 1 }
      { setThr v w.req (setG (thr v w.req) g got.1) with cycles := c + 2 } := by
  intro got
  have start : Quiet { u with cycles := c } := quiet
  obtain ⟨instant, left⟩ := readByte_core core thread { u with cycles := c }
  have still : Quiet got.2 := left.quiet start
  have read : cycleStep (inCycle u c [⟨issue, c, .inReg w.req a g w.world w.grant⟩]) =
      inCycle got.2 (c + 1) [⟨issue, c + 1, .greg w.req g got.1⟩] := by
    have lands : landEntry (inCycle u c []) ⟨issue, c, .inReg w.req a g w.world w.grant⟩ =
        inCycle got.2 c [⟨issue, c + 1, .greg w.req g got.1⟩] := by
      rw [inCycle_quiet quiet]
      show ({ got.2 with pipe := pipeIns ⟨issue, c + 1, .greg w.req g got.1⟩ got.2.pipe } : State) = _
      rw [still.1]
      exact inCycle_here instant.cycles
    refine (cycleStep_inCycle (due := [⟨issue, c, .inReg w.req a g w.world w.grant⟩]) (rest := []) quiet (by simp) (by simp)).trans ?_
    rw [List.foldl, List.foldl, lands]
    exact slotDue_free (s := inCycle got.2 (c + 1) [⟨issue, c + 1, .greg w.req g got.1⟩]) still.2.1
  let landed := setThr got.2 w.req (setG (thr got.2 w.req) g got.1)
  have quietly : Quiet landed := still
  calc cyclesPass 2 (inCycle u c [⟨issue, c, .inReg w.req a g w.world w.grant⟩])
    _ = cycleStep (inCycle got.2 (c + 1) [⟨issue, c + 1, .greg w.req g got.1⟩]) := congrArg cycleStep read
    _ = slotDue (inCycle landed (c + 2) []) :=
      cycleStep_inCycle (due := [⟨issue, c + 1, .greg w.req g got.1⟩]) (rest := []) still (by simp) (by simp)
    _ = inCycle landed (c + 2) [] := slotDue_free (s := inCycle landed (c + 2) []) still.2.1
    _ = _ := inCycle_quiet quietly

/-- An OUT's write of CORE's I/O space lands with the pointer's update. -/
theorem outByte_four (quiet : Quiet s) {c a : Nat} {v : Byte} {w : Who} (thread : w.req < 8) (core : accessIsland w a = .core) :
    cyclesPass 4 (inCycle (issuing s t) c (modeEntries c t (thr s t) m ++ [⟨c, c + 3, .outReg w.req a v w.world w.grant⟩])) =
      slotDue { writeByte { pointerMoved s t m with cycles := c + 3 } w a v with cycles := c + 4 } := by
  have moved := cyclesPass_moved (u := atSlot s t) (t := t) (th := thr s t) (w := issued (thr s t)) (m := m) (c := c)
    (due := [⟨c, c + 3, .outReg w.req a v w.world w.grant⟩]) (rest := []) quiet (by simp) (by simp)
  rw [List.append_nil] at moved
  have still : Quiet (pointerMoved s t m) := quiet
  have written := (SameInstant.refl { pointerMoved s t m with cycles := c + 3 }).writeByte_core core thread v
  have start : writeByte (inCycle (pointerMoved s t m) (c + 3) []) w a v = writeByte { pointerMoved s t m with cycles := c + 3 } w a v :=
    congrArg (writeByte · w a v) (inCycle_quiet still)
  refine moved.trans ?_
  show slotDue { writeByte (inCycle (pointerMoved s t m) (c + 3) []) w a v with
    cycles := (writeByte (inCycle (pointerMoved s t m) (c + 3) []) w a v).cycles + 1 } = _
  rw [start, written.cycles]

end

/-! ## The obligation -/

section
variable {t : Fin 8} {r : Fin 16} {v : State} {P : State → Prop}

theorem Calm.inCycle {t : Nat} (calm : Calm s t) (c : Nat) (es : List PipeEntry) : Calm (inCycle s c es) t := ⟨calm.1, calm.2, calm.3, calm.4⟩

/-- A sender whose thread has only counted the access is as calm as it was. -/
theorem Calm.issued {t : Nat} (calm : Calm (issuing s t) t) (u : State) (x : Thread) (held : x.stopHeld = (thr s t).stopHeld)
    (halt : x.haltPend = (thr s t).haltPend) (step : x.stepping = (thr s t).stepping) (same : u.dev = s.dev) : Calm (setThr u t x) t := by
  obtain ⟨running, unhalted, free, covered⟩ := calm
  rw [thr_issuing] at running unhalted free
  have mine : thr (setThr u t x) t = x := thr_setThr_same ..
  exact ⟨by rw [mine, held]; exact running, by rw [mine, halt]; exact unhalted, by rw [mine, step]; exact free,
    (congrArg Dev.romoffGo same).trans covered⟩

/-- An IN that issues plainly leaves what it does in its slot, where that holds back no stop, halt or step. -/
theorem does_inp (plain : Plain s (.inp t r m)) (effect : inByte (issuing s t) t r (.greg t r) m = v) (calm : Calm v t) (holds : P v) :
    Does (.inp t r m) s P := by
  subst effect
  exact Does.intro (issue_plain plain (op := fun s => inByte s t r (.greg t r) m) calm) holds

theorem does_out (plain : Plain s (.out t r m)) (effect : outByte (issuing s t) t r m = v) (calm : Calm v t) (holds : P v) :
    Does (.out t r m) s P := by
  subst effect
  exact Does.intro (issue_plain plain (op := fun s => outByte s t r m) calm) holds

end

/-- Settles O14: the access is followed through the pipeline, in which it stands behind its pointer's update. -/
theorem inAndOutEffects : Obligations.InAndOutEffects := by
  intro s t r m th s1 c upd a w s4 got
  have thread : w.req < 8 := t.isLt
  have here : (issuing s t).cycles = c := rfl
  clear_value c
  have moved : upd = modeMoved th m := by funext x; cases m <;> rfl
  have early (k : Nat) (op : PipeOp) : ∀ e ∈ modeEntries c t th m ++ [⟨c, c + (3 + k), op⟩], c + 3 ≤ e.land := fun e he =>
    (List.mem_append.1 he).elim (fun h => (modeEntries_land c e h).ge) fun h => by rw [List.mem_singleton.1 h]; simp
  refine ⟨fun plain core => ?_, fun plain far => ?_, fun plain core => ?_, fun plain far => ?_⟩
  · have quiet := plain.1
    have four := inByte_four (t := t) (m := m) quiet (c := c) (.inReg t a r th.world (rn s .TG_GRANT t))
    have still : Quiet s4 := quiet
    have calm : Calm (issuing s t) t := calm_issuing (i := .inp t r m) plain
    have two := inReg_two (u := s4) still (c := c + 4) (issue := c) (g := r) thread core
    rw [pointerMoved, ← moved] at four
    have effect : inByte s1 t r (.greg t r) m = inCycle s1 c (modeEntries c t th m ++
        [⟨c, c + 4, .inReg t a r th.world (rn s .TG_GRANT t)⟩]) := inByte_core quiet here core
    refine does_inp plain effect (calm.inCycle c _) ⟨fun j hj => ?_, ?_, ?_⟩
    · have waits := cyclesPass_early (k := j) (quiet_issuing quiet t) (early 1 (.inReg t a r th.world (rn s .TG_GRANT t))) (by omega)
      exact (congrArg State.thr waits :)
    · exact four.trans (by rw [four]; rfl)
    · exact (congrArg (cyclesPass 2) four).trans two
  · have quiet := plain.1
    let sent := send (atSlot s t) (fromCore (accessIsland w a)) (.regRead t a ⟨.greg t r, c, !th.world⟩ th.world (rn s .TG_GRANT t))
    have four := cyclesPass_sent (u := sent) quiet (c := c) (t := t) (th := th) (m := m) (w := outstanding th)
    have calm : Calm (setThr sent t (outstanding th)) t := Calm.issued (t := t) (calm_issuing (i := .inp t r m) plain) sent _ rfl rfl rfl rfl
    have effect : inByte s1 t r (.greg t r) m = inCycle (setThr sent t (outstanding th)) c (modeEntries c t th m) := inByte_far quiet here far
    refine does_inp plain effect (calm.inCycle c _) (Eq.trans four ?_)
    cases m <;> rfl
  · have quiet := plain.1
    have calm : Calm (issuing s t) t := calm_issuing (i := .out t r m) plain
    have four := outByte_four (t := t) (m := m) (c := c) (v := getG th r) quiet thread core
    rw [pointerMoved, ← moved] at four
    have effect : outByte s1 t r m = inCycle s1 c (modeEntries c t th m ++
        [⟨c, c + 3, .outReg t a (getG th r) th.world (rn s .TG_GRANT t)⟩]) := outByte_core quiet here core
    refine does_out plain effect (calm.inCycle c _) ⟨fun j hj => ?_, four⟩
    have waits := cyclesPass_early (k := j) (quiet_issuing quiet t) (early 0 (.outReg t a (getG th r) th.world (rn s .TG_GRANT t))) (by omega)
    exact ⟨(congrArg State.thr waits :), (congrArg State.io waits :)⟩
  · have quiet := plain.1
    let sent := send (atSlot s t) (fromCore (accessIsland w a)) (.regWrite t a (getG th r) th.world (rn s .TG_GRANT t))
    have four := cyclesPass_sent (u := sent) quiet (c := c) (t := t) (th := th) (m := m) (w := issued th)
    rw [← moved] at four
    have calm : Calm (setThr sent t (issued th)) t := Calm.issued (t := t) (calm_issuing (i := .out t r m) plain) sent _ rfl rfl rfl rfl
    have effect : outByte s1 t r m = inCycle (setThr sent t (issued th)) c (modeEntries c t th m) := outByte_far quiet here far
    exact does_out plain effect (calm.inCycle c _) four

end Sys2Proof.Proofs
end

section
/-!
# Chapter 05: the canonical form of the memories (R316)

The canonical form of the memories alone does not pass on. What a change of owners or tags replaced is kept in `Far.olds` for the accesses that
wait (R452, R507); it comes back into the memories while such an access is carried out, and need not be canonical itself.
-/
namespace Sys2Proof.Proofs
open Sys2Proof.Machine Sys2Proof.Laws

/-- Settles O7: no memory lists an entry at reset. -/
theorem resetMemoriesCanonical : Obligations.ResetMemoriesCanonical := by
  unfold Obligations.ResetMemoriesCanonical
  decide

theorem farBytes_canonical {s : State} (canonical : memoriesOk s = true) : mwf (fun _ => 0) s.far.byte = true := by
  simp only [memoriesOk, Bool.and_eq_true] at canonical
  obtain ⟨⟨⟨⟨-, byte⟩, -⟩, -⟩, -⟩ := canonical
  exact byte

/-- A record of no lines that holds a byte all the same, and holds it in an entry equal to what an unlisted byte reads as. -/
def strayRecord : FarOld := ⟨0, 0, 0, [], [], [], [(0, 0)], none⟩

/-- The device after reset, but that an answer that arrived before the stray record was made waits for the keys. -/
def strayState : State :=
  { State.reset with far := { Far.reset with wait := [⟨.spiReply 0 ⟨.debug, 0, false⟩ [], 0⟩], olds := [strayRecord] } }

/-- The stray byte enters far SRAM when the record is taken back for the answer; made again, the record of no lines takes nothing out. -/
theorem keysReady_stray : (keysReady strayState).far.byte = [(0, 0)] := rfl

/-- Refutes O6: when the keys are there the answer that waits is given, and the stray byte is left in far SRAM. -/
theorem not_stepKeepsMemoriesCanonical : ¬ Obligations.StepKeepsMemoriesCanonical := by
  unfold Obligations.StepKeepsMemoriesCanonical
  intro keeps
  have canonical : memoriesOk { strayState with pending := [.keysReady] } = true := by decide
  have after := farBytes_canonical (keeps { strayState with pending := [.keysReady] } (keysReady strayState) canonical rfl)
  rw [keysReady_stray] at after
  exact absurd after (by decide)

end Sys2Proof.Proofs
end

section
/-! # Chapters 05 and 06: bits updated and read back (R296, R297, R349, R396) -/
namespace Sys2Proof.Proofs
open Sys2Proof.Machine Sys2Proof.Laws

variable {s u : State} {a k issue : Nat} {w f0 f1 : Bool}

/-! ## The bits of bit space that the array holds (R296) -/

theorem bitIn_user (low : 0x20 ≤ a) (high : a < 0x800) (s : State) (t : Nat) (w : Bool) :
    bitIn s t a w = mget (fun _ => false) s.bits (bitKey t a w) := by
  simp only [bitIn, Nat.not_lt.2 low, high, if_true, if_false]

/-- The bits below are the thread's and the Tollgate's status. -/
theorem bitIn_status (low : a < 0x20) (thread : u.thr = s.thr) (io : u.io = s.io) (t : Nat) (w : Bool) : bitIn u t a w = bitIn s t a w := by
  simp only [bitIn, low, if_true, thr, rb, rd, thread, io]

theorem bitSet_user (low : 0x20 ≤ a) (high : a < 0x800) (s : State) (t : Nat) (w v : Bool) :
    bitSet s t a w v = { s with bits := mset (fun _ => false) s.bits (bitKey t a w) v } := by
  simp only [bitSet, Nat.not_lt.2 low, high, true_or, if_true, if_false]

/-- A thread reaches two bits of a world under two keys. -/
theorem bitKey_ne (t : Fin 8) (w : Bool) (low : 0x20 ≤ a) (also : 0x20 ≤ k) (other : k ≠ a) : bitKey t k w ≠ bitKey t a w := by
  have world : b01 w ≤ 1 := by cases w <;> decide
  have thread := t.isLt
  unfold bitKey
  split_ifs <;> omega

/-- What the bit array makes of an access to a bit that was `old`: the new value stands in the array, the old one among the writes that
not every thread sees yet. -/
def bitWritten (s : State) (issue t key : Nat) (old new : Bool) : State :=
  lagBit { s with bits := mset (fun _ => false) s.bits key new } t key issue old

theorem bitLand_user (low : 0x20 ≤ a) (high : a < 0x800) (s : State) (issue t : Nat) (w f0 f1 : Bool) :
    bitLand s issue t a w f0 f1 none =
      bitWritten s issue t (bitKey t a w) (bitIn s t a w) (if bitIn s t a w then f1 else f0) := by
  rw [bitLand, bitSet_user low high, bitWritten]

/-- A TSB has the old value in its register beside. -/
theorem bitLand_some (s : State) (issue t a : Nat) (w f0 f1 : Bool) (r : Nat) :
    bitLand s issue t a w f0 f1 (some r) = let s1 := bitLand s issue t a w f0 f1 none
      setThr s1 t (setG (thr s1 t) r (if bitIn s t a w then 1 else 0)) := rfl

variable {key t : Nat} {old new : Bool}

/-- The array where one of its bits has been written. -/
theorem bitIn_of_written (bits : u.bits = mset (fun _ => false) s.bits key new) (low : 0x20 ≤ a) (high : a < 0x800) (x : Nat) (v : Bool) :
    bitIn u x a v = if bitKey x a v = key then new else bitIn s x a v := by
  rw [bitIn_user low high, bitIn_user low high, bits, mget_mset]

/-! ## Who sees a write (R336, R396) -/

/-- Writes of other bits leave what is seen of a bit. -/
theorem seen_unwritten {l : List BitLag} (other : ∀ e ∈ l, e.key ≠ key) (x c : Nat) (now : Bool) :
    l.foldl (fun v e => if e.key = key ∧ e.thread ≠ x ∧ c < e.issue + 4 then e.old else v) now = now := by
  induction l with
  | nil => rfl
  | cons e l ih =>
    rw [List.foldl_cons, if_neg fun same => other e List.mem_cons_self same.1]
    exact ih fun e he => other e (List.mem_cons_of_mem _ he)

/-- Of a bit with no earlier write still unseen, another thread sees the old value until the writer's cycle 4. -/
theorem seenBit_bitWritten (unwritten : ∀ e ∈ s.lag, e.key ≠ key) (x c : Nat) (now : Bool) :
    seenBit { bitWritten s issue t key old new with cycles := c } x key now = if x ≠ t ∧ c < issue + 4 then old else now := by
  have kept : ∀ e ∈ s.lag.filter (fun e => decide (s.cycles < e.issue + 4)), e.key ≠ key := fun e he =>
    unwritten e (List.mem_of_mem_filter he)
  rw [seenBit]
  show List.foldl _ _ (_ :: s.lag.filter fun e => decide (s.cycles < e.issue + 4)) = _
  rw [List.foldl_cons, seen_unwritten kept]
  simp only [true_and, ne_comm]

/-! ## Accesses that are refused (R297) -/

theorem CountsOnly.pipe (h : CountsOnly s u) : u.pipe = s.pipe := by rw [h.others]

/-- A refused access that expects no value has its record only. -/
theorem bitAccess_refused {kind : Nat} (refused : bitRefusal s (thr s t).world a = some kind) (f : Bool → Bool) :
    bitAccess s t a f none = violate s kind t a := by
  simp only [bitAccess, bitEvents, refused, Option.isSome_some, if_true]

/-- The record of a refused access to a bit, where TG_VIOL holds none (R472). -/
theorem bitAccess_recorded {t : Fin 8} (refused : bitRefusal s (thr s t).world a = some 1) (free : rb s .TG_VIOL 0 31 = false)
    (f : Bool → Bool) : let s1 := bitAccess s t a f none
      s1.bits = s.bits ∧ s1.thr = s.thr ∧ s1.pipe = s.pipe ∧ rb s1 .TG_VIOL 0 31 = true ∧ rf s1 .TG_VIOL 0 15 0 = a % 65536 ∧
      rf s1 .TG_VIOL 0 19 16 = t.val ∧ rf s1 .TG_VIOL 0 23 20 = 1 := by
  have counted := violate_countsOnly free 1 t a
  have record := rd_violate free 1 t a
  have agent : t.val < 16 := by omega
  rw [bitAccess_refused refused]
  obtain ⟨-, bits, -⟩ := SameMemory.trans (wr_memory ..) counted.sameMemory
  have pipe : (violate s 1 t a).pipe = s.pipe := counted.pipe.trans (wr_pipe ..)
  refine ⟨bits, counted.thr.trans (wr_thr ..), pipe, ?_, ?_, ?_, ?_⟩
  · rw [rb, record, violRecord_valid (by decide) agent]
  · rw [rf, record, violRecord_addr]
  · rw [rf, record, violRecord_agent agent]
  · rw [rf, record, violRecord_kind (by decide) agent]

/-! ## The obligation -/

/-- Settles O12: an access to a bit writes one key of the bit array, and a refused one is recorded by `violate`, which only counts. -/
theorem bitUpdatesAndReadBack : Obligations.BitUpdatesAndReadBack := by
  refine ⟨fun s t a issue w f0 f1 low high => ?_, fun s t a f refused free => bitAccess_recorded refused free f⟩
  intro old new s1
  have tsb : ∀ r, bitLand s issue t a w f0 f1 (some r) = setThr s1 t (setG (thr s1 t) r (if old then 1 else 0)) :=
    bitLand_some s issue t a w f0 f1
  have written : s1 = bitWritten s issue t (bitKey t a w) old new := bitLand_user low high s issue t w f0 f1
  clear_value s1 new old
  subst written
  refine ⟨?_, fun k other inside => ?_, rfl, rfl, rfl, tsb, fun unwritten x v k same => ?_⟩
  · rw [bitIn_of_written rfl low high, if_pos rfl]
  · by_cases status : k < 0x20
    · refine bitIn_status status ?_ ?_ t w <;> rfl
    · rw [bitIn_of_written rfl (by omega) inside, if_neg (bitKey_ne t w low (by omega) other)]
  · intro s2
    have now : bitIn s2 x a v = new := by rw [bitIn_of_written rfl low high, if_pos same]
    rw [now, same]
    exact seenBit_bitWritten unwritten x _ new

end Sys2Proof.Proofs
end

section
/-! # Chapter 05: START, STOP and the release of parked threads (R303-R313, R368, R369, R413) -/
namespace Sys2Proof.Proofs
open Sys2Proof.Machine Sys2Proof.Laws

variable {s : State} {n : Nat}

theorem allLanded_iff (th : Thread) : allLanded th = true ↔ th.outW = 0 ∧ th.outX = 0 := by simp [allLanded]

/-! ## START -/

/-- A thread as START leaves it: RUNNING at STARTPC in its home world, its registers and flags 0 (R305, R307). -/
def started (s : State) (n : Nat) : Thread :=
  { thr s n with
    st := .running, park := .none, g := [], p := [], epc := 0, c := false, v := false, ie := false, inh := false,
    world := homeWorld s n, inToll := false, pc := BitVec.ofNat 16 (rn s .THR_STARTPC n), target := none, delivery := none,
    budget := none, stopHeld := false, forced := false, stepping := false }

theorem startThread_taken (stopped : (thr s n).st = .stopped) (may : n = 0 ∨ inRun s = true) (unasked : (thr s n).haltPend = none) :
    startThread s n = setThr (leaveDoze s) n (started s n) := by
  have free : ¬ ((thr s n).st ≠ .stopped ∨ n ≠ 0 ∧ inRun s = false) := by rcases may with rfl | run <;> simp [*]
  have set : thr (setThr (leaveDoze s) n (started s n)) n = started s n := thr_setThr_same ..
  rw [startThread, if_neg free]
  exact settleHalt_none ((congrArg Thread.haltPend set).trans unasked)

theorem startThread_ignored (ignored : (thr s n).st ≠ .stopped ∨ n ≠ 0 ∧ inRun s = false) : startThread s n = s := if_pos ignored

/-! ## STOP -/

theorem returnDelivery_none (free : (thr s n).delivery = none) : returnDelivery s n = s := by simp [returnDelivery, free]

/-- A thread as a STOP that takes effect leaves it (R312, R326). -/
def stopped (th : Thread) : Thread :=
  { th with st := if allLanded th then .stopped else .stopping, park := .none, target := none, stopHeld := false, stepping := false }

/-- A STOP waits for a delay slot (R310) and inside a TOLL (R311). -/
def stopWaits (th : Thread) : Bool := th.inToll || (th.target.isSome && th.st != .halted)

theorem stopThread_running (runs : (thr s n).st ≠ .stopped) (going : (thr s n).st ≠ .stopping) (free : (thr s n).delivery = none) :
    stopThread s n = setThr s n (if stopWaits (thr s n) then { thr s n with stopHeld := true } else stopped (thr s n)) := by
  unfold stopThread
  split
  · contradiction
  · contradiction
  · simp only [returnDelivery_none free, stopNow]
    exact (apply_ite (setThr s n) ..).symm

/-- STOP from outside, or by the thread itself at its own block (R294). -/
theorem exec_threadStop {n : Fin 8} {req : Nat} (may : MayWrite s req .THR_CTL n ∨ req = n ∧ Live s .core) :
    exec (.threadStop req n) s = .next (stopThread s n) := by
  have live : Live s .core := may.elim (fun h => h.1) fun h => h.2
  show (if req = n.val then liveIn s .core (fun s => stopThread s n.val) else writeReg s req .THR_CTL n fun s => stopThread s n.val) = _
  split
  · exact liveIn_live live _
  next other => exact writeReg_taken (may.resolve_right fun h => other h.1) _

theorem threadStopped_landed (stopping : (thr s n).st = .stopping) (landed : allLanded (thr s n) = true) :
    threadStopped s n = setThr s n { thr s n with st := .stopped } := if_pos ⟨stopping, landed⟩

theorem threadStopped_waits (waits : ¬ allLanded (thr s n) = true) : threadStopped s n = s := if_neg fun holds => waits holds.2

/-! ## Parked threads -/

/-- The condition that a parked thread waits for (R355, R361, R368, R369). -/
theorem parkOver_iff (s : State) (n : Nat) : parkOver s n = true ↔
    ((thr s n).park = .fence ∧ (thr s n).outW = 0 ∧ (thr s n).outX = 0) ∨ ((thr s n).park = .limitWindow ∧ (thr s n).outW < 4) ∨
      ((thr s n).park = .limitIn ∧ (thr s n).outX < 4) ∨ ∃ b v, (thr s n).park = .waitb b v ∧ bitSeen s n b = v := by
  cases parked : (thr s n).park with
  | waitb b v => simp [parkOver, parked, eq_comm (a := v)]
  | _ => simp [parkOver, parked, allLanded]

theorem parkRelease_over (parked : (thr s n).st = .parked) (holds : parkOver s n = true) (awake : s.dev.doze = false) :
    parkRelease s n = setThr s n { thr s n with st := .running, park := .none } := by
  have same : leaveDoze s = s := by simp [leaveDoze, awake]
  simp only [parkRelease, parked, holds, and_self, if_true, same]

theorem parkRelease_waits (waits : ¬ parkOver s n = true) : parkRelease s n = s := if_neg fun holds => waits holds.2

/-! ## The obligation -/

/-- Settles O26: each command is its operation on the thread, which replaces that thread and nothing else. -/
theorem threadsStartStopAndRelease : Obligations.ThreadsStartStopAndRelease := by
  refine ⟨fun s req n => ⟨?start, ?ignored, ?stop, ?landed, ?waits⟩, fun s n live awake parked => ⟨?holds, ?parks⟩⟩
  case start =>
    intro may still who unasked
    have taken := startThread_taken still (who.imp_left (congrArg Fin.val)) unasked
    refine Does.intro ((writeReg_taken may fun s => startThread s n).trans (congrArg _ taken)) ?_
    rw [thr_setThr_same]
    exact ⟨rfl, rfl, rfl, rfl, fun _ => rfl, fun _ => rfl, rfl, rfl, rfl, rfl, rfl, rfl⟩
  case ignored =>
    intro may other
    have ignored : startThread s n = s := startThread_ignored (other.imp_right fun h => ⟨fun zero => h.1 (Fin.ext zero), h.2⟩)
    exact (writeReg_taken may fun s => startThread s n).trans (congrArg _ ignored)
  case stop =>
    intro may runs going free
    refine Does.intro ((exec_threadStop may).trans (congrArg _ (stopThread_running runs going free))) ?_
    rw [thr_setThr_same]
    by_cases waits : stopWaits (thr s n) = true
    · rw [if_pos waits]
      refine ⟨rfl, rfl, rfl, rfl, fun home boundary => ?_, fun _ => ⟨rfl, rfl⟩⟩
      rcases boundary with none | halted <;> simp [stopWaits, *] at waits
    · rw [if_neg waits]
      refine ⟨rfl, rfl, rfl, rfl, fun _ _ => ?_, fun held => absurd ?_ waits⟩
      · simp only [stopped, allLanded_iff]
      · rcases held with toll | ⟨slot, unhalted⟩ <;> simp [stopWaits, *]
  case landed =>
    intro live stopping window io
    exact (liveIn_live live fun s => threadStopped s n).trans (congrArg _ (threadStopped_landed stopping ((allLanded_iff _).2 ⟨window, io⟩)))
  case waits =>
    intro live outstanding
    have waits : ¬ allLanded (thr s n) = true := fun landed => by
      obtain ⟨window, io⟩ := (allLanded_iff _).1 landed
      exact outstanding.elim (· window) (· io)
    exact (liveIn_live live fun s => threadStopped s n).trans (congrArg _ (threadStopped_waits waits))
  case holds =>
    exact fun free => (liveIn_live live fun s => parkRelease s n).trans (congrArg _ (parkRelease_over parked ((parkOver_iff s n).2 free) awake))
  case parks =>
    intro waits
    have still : parkRelease s n = s := parkRelease_waits fun holds => waits ((parkOver_iff s n).1 holds)
    exact (liveIn_live live fun s => parkRelease s n).trans (congrArg _ still)

end Sys2Proof.Proofs
end

section
/-! # Chapter 05: thread worlds, window owners and the IRAM port (R275, R286, R287, R308, R319, R320) -/
namespace Sys2Proof.Proofs
open Sys2Proof.Machine Sys2Proof.Laws

variable {s : State}

/-! ## THRn_WORLD (R308) -/

/-- From `s` to `t` one register differs, and no other, no thread and no memory. -/
structure WritesOnly (r : Rg) (i : Nat) (s t : State) : Prop where
  io : SameIoBut [regAddr r i] s t
  thr : t.thr = s.thr
  memory : SameMemory s t

namespace WritesOnly

variable {r : Rg} {i : Nat} {t : State}

theorem refl (s : State) : WritesOnly r i s s := ⟨sameIoBut_refl _ s, rfl, SameMemory.refl s⟩

theorem wr (h : WritesOnly r i s t) (v : Quad) : WritesOnly r i s (wr t r i v) :=
  ⟨sameIoBut_wr h.io (List.mem_singleton_self _) v, h.thr, SameMemory.trans h.memory (wr_memory ..)⟩

theorem wb (h : WritesOnly r i s t) (b : Nat) (x : Bool) : WritesOnly r i s (wb t r i b x) := h.wr _

end WritesOnly

/-- WORLD of a STOPPED thread is written, unless it is fixed; LOCK is set and never cleared. -/
theorem worldWrite_stopped {n : Nat} (stopped : (thr s n).st = .stopped) (v : Quad) : let t := worldWrite s n v
    rb t .THR_WORLD n 0 = (if n = 0 ∨ rb s .THR_WORLD n 1 = true then rb s .THR_WORLD n 0 else v.getLsbD 0) ∧
    rb t .THR_WORLD n 1 = (rb s .THR_WORLD n 1 || v.getLsbD 1) ∧ WritesOnly .THR_WORLD n s t := by
  let s1 := if n = 0 ∨ rb s .THR_WORLD n 1 = true then s else wb s .THR_WORLD n 0 (v.getLsbD 0)
  have world : rb s1 .THR_WORLD n 0 = (if n = 0 ∨ rb s .THR_WORLD n 1 = true then rb s .THR_WORLD n 0 else v.getLsbD 0) := by
    unfold s1
    split
    · rfl
    · exact rb_wb_same _ _ _ _ _ (by decide)
  have lock : rb s1 .THR_WORLD n 1 = rb s .THR_WORLD n 1 := by
    unfold s1
    split
    · rfl
    · exact rb_wb_other _ _ _ _ _ _ (by decide) (by decide)
  have written : WritesOnly .THR_WORLD n s s1 := by
    unfold s1
    split
    · exact .refl s
    · exact (WritesOnly.refl s).wb 0 _
  have result : worldWrite s n v = if v.getLsbD 1 then wb s1 .THR_WORLD n 1 true else s1 := if_neg (not_not.2 stopped)
  rw [result, ← world, ← lock]
  cases v.getLsbD 1
  · exact ⟨rfl, (Bool.or_false _).symm, written⟩
  · exact ⟨rb_wb_other _ _ _ _ _ _ (by decide) (by decide), (rb_wb_same _ _ _ _ _ (by decide)).trans (Bool.or_true _).symm, written.wb 1 true⟩

theorem worldWrite_ignored {n : Nat} (active : (thr s n).st ≠ .stopped) (v : Quad) : worldWrite s n v = s := if_pos active

/-! ## Refused accesses -/

theorem agentOf_lt (req : Nat) : agentOf req < 16 := by
  unfold agentOf
  split <;> omega

/-- A refused access leaves a valid record in TG_VIOL, an earlier one or its own, and beside it only counts (R472). -/
theorem violate_valid (s : State) {kind agent : Nat} (hk : kind < 16) (ha : agent < 16) (addr : Nat) :
    ∃ v : Quad, v.getLsbD 31 = true ∧ CountsOnly (wr s .TG_VIOL 0 v) (violate s kind agent addr) := by
  by_cases valid : rb s .TG_VIOL 0 31 = true
  · have held : (rd s .TG_VIOL 0).getLsbD 31 = true := valid
    refine ⟨putFld (rd s .TG_VIOL 0) 30 30 1, ?_, ?_⟩
    · rw [getLsbD_putFld _ _ _ _ _ (by decide) (by decide)]
      exact held
    · simp only [violate, held, if_true]
      exact (countsOnly_occur _ 0x10 1).trans (countsOnly_latchEdge _ 22)
  · exact ⟨_, violRecord_valid hk ha, violate_countsOnly (Bool.eq_false_iff.2 valid) kind agent addr⟩

/-! ## Window owners (R286, R287) -/

/-- A field apart from the one that is put stays. -/
theorem fld_putFld_apart (v : Quad) {hi lo hi' lo' : Nat} (x : Nat) (hi32 : hi < 32) (hl : lo ≤ hi) (apart : hi' < lo ∨ hi < lo') :
    fld (putFld v hi lo x) hi' lo' = fld v hi' lo' := by
  refine Nat.eq_of_testBit_eq fun i => ?_
  simp only [fld, Nat.testBit_mod_two_pow, Nat.testBit_div_two_pow, BitVec.testBit_toNat, getLsbD_putFld _ _ _ _ _ hi32 hl]
  by_cases inside : i < hi' + 1 - lo'
  · have outside : ¬ (lo ≤ i + lo' ∧ i + lo' ≤ hi) := by omega
    rw [if_neg outside]
  · simp only [inside, decide_false, Bool.false_and]

/-- An owner that a thread with a grant may give its window: none, or a granted one. -/
abbrev mayOwn (grant o : Nat) : Prop := o = 15 ∨ (1 ≤ o ∧ o ≤ 14 ∧ nbit grant o = true)

theorem nbit_eq_testBit (n k : Nat) : nbit n k = n.testBit k := (Nat.testBit_eq_decide_div_mod_eq ..).symm

theorem owners_testBit : ∀ o < 16, Nat.testBit 0x7FFE o = decide (1 ≤ o ∧ o ≤ 14) := by decide

theorem mayOwn_iff {grant o : Nat} (small : o < 16) : o = 15 ∨ nbit (grant &&& 0x7FFE) o = true ↔ mayOwn grant o := by
  rw [mayOwn, nbit_eq_testBit, nbit_eq_testBit, Nat.testBit_and, owners_testBit o small, Bool.and_eq_true, decide_eq_true_eq]
  tauto

/-- The owner nibble `k` of a value. -/
def nibble (v : Quad) (k : Nat) : Nat := fld v (4 * k + 3) (4 * k)

theorem nibble_lt (v : Quad) (k : Nat) : nibble v k < 16 := by
  have width : 4 * k + 3 + 1 - 4 * k = 4 := by omega
  rw [nibble, fld, width]
  exact Nat.mod_lt _ (by decide)

/-- What a commit makes of one nibble of a normal thread's window owners, and whether one has been refused. -/
def ownerStep (v m : Quad) (grant : Nat) (r : Quad × Bool) (k : Nat) : Quad × Bool :=
  if m.getLsbD (4 * k) = false then r
  else if nibble v k = 15 ∨ nbit (grant &&& 0x7FFE) (nibble v k) = true then (putFld r.1 (4 * k + 3) (4 * k) (nibble v k), r.2)
  else (r.1, true)

theorem winNibbles_eq (old v m : Quad) (grant : Nat) : winNibbles old v m grant = (List.range 3).foldl (ownerStep v m grant) (old, false) := rfl

variable {v m : Quad} {grant k : Nat} {l : List Nat}

theorem ownerStep_staged (staged : m.getLsbD (4 * k) = true) (r : Quad × Bool) : ownerStep v m grant r k =
    if mayOwn grant (nibble v k) then (putFld r.1 (4 * k + 3) (4 * k) (nibble v k), r.2) else (r.1, true) := by
  have taken : ¬ m.getLsbD (4 * k) = false := by simp [staged]
  simp only [ownerStep, if_neg taken, mayOwn_iff (nibble_lt v k)]

theorem nibble_ownerStep (staged : m.getLsbD (4 * k) = true) (r : Quad × Bool) (j : Nat) :
    nibble (ownerStep v m grant r k).1 j = if j = k ∧ mayOwn grant (nibble v j) then nibble v j else nibble r.1 j := by
  have low : 4 * k < 32 := by
    by_contra high
    simp [BitVec.getLsbD_of_ge _ _ (Nat.not_lt.1 high)] at staged
  have small := nibble_lt v k
  have width : 4 * k + 3 + 1 - 4 * k = 4 := by omega
  have put : nibble (putFld r.1 (4 * k + 3) (4 * k) (nibble v k)) k = nibble v k := by
    rw [nibble, fld_putFld _ _ (by omega) (by omega), width]
    exact Nat.mod_eq_of_lt small
  have kept (other : j ≠ k) : nibble (putFld r.1 (4 * k + 3) (4 * k) (nibble v k)) j = nibble r.1 j :=
    fld_putFld_apart _ _ (by omega) (by omega) (by omega)
  rw [ownerStep_staged staged]
  by_cases same : j = k
  · subst same
    by_cases may : mayOwn grant (nibble v j)
    · rw [if_pos may, if_pos ⟨rfl, may⟩, put]
    · rw [if_neg may, if_neg (not_and_of_not_right _ may)]
  · rw [if_neg (not_and_of_not_left _ same)]
    split
    · exact kept same
    · rfl

/-- A commit of whole window owners: each nibble that the thread may own is taken, each other stays and is reported. -/
theorem ownerSteps (staged : ∀ k ∈ l, m.getLsbD (4 * k) = true) (r : Quad × Bool) : let x := l.foldl (ownerStep v m grant) r
    (∀ j, nibble x.1 j = if j ∈ l ∧ mayOwn grant (nibble v j) then nibble v j else nibble r.1 j) ∧
    ((r.2 = true ∨ ∃ k ∈ l, ¬ mayOwn grant (nibble v k)) → x.2 = true) := by
  induction l generalizing r with
  | nil => simp
  | cons k l ih =>
    have first := staged k List.mem_cons_self
    obtain ⟨fields, refused⟩ := ih (fun j hj => staged j (List.mem_cons_of_mem _ hj)) (ownerStep v m grant r k)
    refine ⟨fun j => ?_, fun cause => refused ?_⟩
    · rw [List.foldl_cons, fields j, nibble_ownerStep first, ← ite_or]
      exact if_congr (by rw [List.mem_cons]; tauto) rfl rfl
    · rw [ownerStep_staged first]
      by_cases may : mayOwn grant (nibble v k)
      · rw [if_pos may]
        rcases cause with was | ⟨j, hj, refuses⟩
        · exact .inl was
        · rcases List.mem_cons.1 hj with rfl | hj
          · exact absurd may refuses
          · exact .inr ⟨j, hj, refuses⟩
      · rw [if_neg may]
        exact .inl rfl

/-- The registers of the windows lie below the counters'. -/
theorem notCounterReg_window {i : Nat} (_ : i < 16) : NotCounterReg (regAddr .WIN_OWN i) ∧ NotCounterReg (regAddr .WIN_STAT i) := by
  refine ⟨fun n => ?_, fun n => ?_⟩ <;> simp only [regAddr, regInfo] <;> omega

/-- Window owners that a normal thread commits (R286, R287). -/
theorem winOwnWrite_normal {i : Nat} (inside : i < 16) (req grant : Nat) (v : Quad) : let t := winOwnWrite s req i true grant v 0xFFFF
    t.thr = s.thr ∧ SameMemory s t ∧ ∀ k, k < 3 →
      nibble (rd t .WIN_OWN i) k = (if mayOwn grant (nibble v k) then nibble v k else nibble (rd s .WIN_OWN i) k) ∧
      (¬ mayOwn grant (nibble v k) → rb t .WIN_STAT i 0 = true ∧ rb t .TG_VIOL 0 31 = true) := by
  have staged : ∀ k ∈ List.range 3, (0xFFFF : Quad).getLsbD (4 * k) = true := by decide
  obtain ⟨fields, refused⟩ := ownerSteps (v := v) (grant := grant) staged (rd s .WIN_OWN i, false)
  rw [← winNibbles_eq] at fields refused
  have taken : ∀ k, k < 3 → nibble (winNibbles (rd s .WIN_OWN i) v 0xFFFF grant).1 k =
      if mayOwn grant (nibble v k) then nibble v k else nibble (rd s .WIN_OWN i) k := fun k hk =>
    (fields k).trans (if_congr (and_iff_right (List.mem_range.2 hk)) rfl rfl)
  obtain ⟨own, stat⟩ := notCounterReg_window inside
  intro t
  have result : t = if (winNibbles (rd s .WIN_OWN i) v 0xFFFF grant).2 then
      violate (wb (wr s .WIN_OWN i (winNibbles (rd s .WIN_OWN i) v 0xFFFF grant).1) .WIN_STAT i 0 true) 3 (agentOf req) (regAddr .WIN_OWN i)
      else wr s .WIN_OWN i (winNibbles (rd s .WIN_OWN i) v 0xFFFF grant).1 := rfl
  generalize winNibbles (rd s .WIN_OWN i) v 0xFFFF grant = x at taken refused result
  clear_value t
  by_cases anyRefused : x.2 = true
  · rw [if_pos anyRefused] at result
    obtain ⟨record, valid, counted⟩ := violate_valid (wb (wr s .WIN_OWN i x.1) .WIN_STAT i 0 true) (by decide : 3 < 16) (agentOf_lt req)
      (regAddr .WIN_OWN i)
    rw [← result] at counted
    have apartOwn : regAddr .WIN_OWN i ≠ regAddr .TG_VIOL 0 ∧ regAddr .WIN_OWN i ≠ regAddr .WIN_STAT i := by
      simp only [regAddr, regInfo]; omega
    have apartStat : regAddr .WIN_STAT i ≠ regAddr .TG_VIOL 0 := by simp only [regAddr, regInfo]; omega
    have stored : rd t .WIN_OWN i = x.1 := by
      rw [counted.rd own, rd_wr_ne _ _ _ _ _ _ apartOwn.1, rd_wb_ne _ _ _ _ _ _ _ apartOwn.2, rd_wr_same]
    have reported : rb t .WIN_STAT i 0 = true := by
      rw [rb, counted.rd stat, ← rb, rb_wr_ne _ _ _ apartStat, rb_wb_same _ _ _ _ _ (by decide)]
    have recorded : rb t .TG_VIOL 0 31 = true := by rw [rb, counted.rd notCounterReg_viol, rd_wr_same, valid]
    exact ⟨counted.thr, counted.sameMemory, fun k hk => ⟨by rw [stored, taken k hk], fun _ => ⟨reported, recorded⟩⟩⟩
  · rw [if_neg anyRefused] at result
    subst result
    refine ⟨rfl, wr_memory .., fun k hk => ⟨by rw [rd_wr_same, taken k hk], fun no => ?_⟩⟩
    exact absurd (refused (.inr ⟨k, List.mem_range.2 hk, no⟩)) anyRefused

/-- Window owners that the keeper commits are taken as they are (R286). -/
theorem fld_commitBits_winOwn (old v : Quad) : fld (commitBits .WIN_OWN old v 0xFFFF) 11 0 = fld v 11 0 := by
  have kept : fld (~~~(0xFFF &&& 0xFFFF)) 11 0 = 0 := by decide
  have taken : fld 0xFFF 11 0 = 2 ^ 12 - 1 ∧ fld 0xFFFF 11 0 = 2 ^ 12 - 1 := by decide
  have ones : fld (~~~0) 11 0 = 2 ^ 12 - 1 := by decide
  have zero : fld 0 11 0 = 0 := by decide
  have cleared : v &&& 0 &&& 0xFFFF = 0 := by simp
  have low : fld v 11 0 < 2 ^ 12 := Nat.mod_lt _ (by decide)
  simp only [commitBits, regInfo, cleared, fld_or, fld_and, kept, taken, ones, zero, Nat.and_zero, Nat.zero_or, Nat.or_zero,
    Nat.and_two_pow_sub_one_eq_mod, Nat.mod_eq_of_lt low]

/-! ## The IRAM port (R275, R319, R320) -/

/-- A requester's own TG_IRADDR (R321) lies at no counter's register and not at TG_VIOL. -/
theorem notCounterReg_irAddr (req : Nat) : NotCounterReg (regAddr .TG_IRADDR 0 + 2 ^ 20 * (req + 1)) ∧
    regAddr .TG_IRADDR 0 + 2 ^ 20 * (req + 1) ≠ regAddr .TG_VIOL 0 := by
  refine ⟨fun n => ?_, ?_⟩ <;> simp only [regAddr, regInfo] <;> omega

theorem rdReq_irNext (s : State) (req : Nat) : (rdReq (irNext s req) .TG_IRADDR req).toNat = ((rdReq s .TG_IRADDR req).toNat + 1) % 65536 := by
  have set : rdReq (irNext s req) .TG_IRADDR req = BitVec.ofNat 32 (((rdReq s .TG_IRADDR req).toNat + 1) % 65536) := mget_mset_same ..
  rw [set, BitVec.toNat_ofNat]
  omega

theorem rb_viol_irNext (s : State) (req b : Nat) : rb (irNext s req) .TG_VIOL 0 b = rb s .TG_VIOL 0 b := by
  have apart := (notCounterReg_irAddr req).2
  have kept : rd (irNext s req) .TG_VIOL 0 = rd s .TG_VIOL 0 := 
    mget_mset_ne (fun _ => regReset .TG_IRADDR 0) (fun _ => regReset .TG_VIOL 0) s.io _ apart.symm
  rw [rb, kept, rb]

/-- A refused access of the port still moves its address on, and changes no thread and no memory. -/
theorem violate_irNext (s : State) (req : Nat) {kind agent : Nat} (hk : kind < 16) (ha : agent < 16) (addr : Nat) :
    let t := violate (irNext s req) kind agent addr
    (rdReq t .TG_IRADDR req).toNat = ((rdReq s .TG_IRADDR req).toNat + 1) % 65536 ∧ t.thr = s.thr ∧ SameMemory s t := by
  obtain ⟨v, -, counted⟩ := violate_valid (irNext s req) hk ha addr
  obtain ⟨free, apart⟩ := notCounterReg_irAddr req
  have kept : rdReq (violate (irNext s req) kind agent addr) .TG_IRADDR req = rdReq (irNext s req) .TG_IRADDR req :=
    (counted.io _ _ free).trans (mget_wr_io_ne _ _ v apart)
  have memory : SameMemory (irNext s req) (violate (irNext s req) kind agent addr) := SameMemory.trans (wr_memory ..) counted.sameMemory
  exact ⟨by rw [kept, rdReq_irNext], counted.thr.trans (wr_thr ..), memory⟩

/-- The value of the port's word at its address, where the requester's world may read it. -/
theorem irFetch_word {req : Nat} {world : Bool} (may : world = false ∨ iwmWord s ≤ (rdReq s .TG_IRADDR req).toNat) :
    irFetch s req world = (iramAt s (rdReq s .TG_IRADDR req).toNat, irNext s req) := by
  have inside : (world && decide ((rdReq s .TG_IRADDR req).toNat < iwmWord s)) = false := by
    rcases may with rfl | above <;> simp [*]
  simp only [irFetch, inside, Bool.false_eq_true, if_false]

theorem irFetch_refused {req : Nat} (below : (rdReq s .TG_IRADDR req).toNat < iwmWord s) :
    irFetch s req true = (0, violate (irNext s req) 5 (agentOf req) (rdReq s .TG_IRADDR req).toNat) := by
  simp only [irFetch, below, decide_true, Bool.true_and, if_true]

/-- A read row of the port captures the word and gives its byte 0 to its requester. -/
theorem exec_iramPortRead {req : Nat} {dst : Dst} (may : MayRead s req .TG_IRDATA 0) :
    exec (.iramPortRead req dst) s = .next
      (landIn (capture (irFetch s req (reqWorld s req)).2 req .TG_IRDATA 0 (irFetch s req (reqWorld s req)).1) dst
        (byteOf (irFetch s req (reqWorld s req)).1 0)) :=
  readRegRow_taken may fun s ok =>
    if ok then landIn (capture (irFetch s req (reqWorld s req)).2 req .TG_IRDATA 0 (irFetch s req (reqWorld s req)).1) dst
      (byteOf (irFetch s req (reqWorld s req)).1 0)
    else landIn s dst 0

/-- What a read of the port gives a register, and what it leaves, is what the port's fetch leaves. -/
theorem landIn_captured {f : State} {t8 : Fin 8} {g : Fin 16} (thread : f.thr = s.thr) (memory : SameMemory s f) (req : Nat) (v : Quad) (b : Byte) :
    let t := landIn (capture f req .TG_IRDATA 0 v) (.greg t8 g) b
    getG (thr t t8) g = b ∧ (∀ k, k ≠ g.val → getG (thr t t8) k = getG (thr s t8) k) ∧ (∀ k, k ≠ t8.val → thr t k = thr s k) ∧
      t.io = f.io ∧ SameMemory s t := by
  have same (n : Nat) : thr (capture f req .TG_IRDATA 0 v) n = thr s n := by rw [thr, capture_thr, thread, thr]
  have mine : thr (landIn (capture f req .TG_IRDATA 0 v) (.greg t8 g) b) t8 = setG (thr s t8) g b := by rw [← same]; exact thr_setThr_same ..
  refine ⟨?_, fun k other => ?_, fun k other => ?_, rfl, memory⟩
  · rw [mine, getG_setG_same]
  · rw [mine, getG_setG_ne _ _ _ _ other]
  · exact (thr_setThr_ne _ _ _ _ other).trans (same k)

/-! ## The obligation -/

/-- Settles O27: each command is one operation, on one register or on the IRAM port, of which a refusal only counts beside its record. -/
theorem worldsWindowsAndIramPort : Obligations.WorldsWindowsAndIramPort := by
  refine ⟨fun s req n v w => ⟨?write, ?ignored, ?lock, ?keeper, ?normal⟩, fun s req t8 g v => ⟨?commit, ?refused, ?read, ?below⟩⟩
  case write =>
    intro may stopped
    obtain ⟨world, lock, io, thread, memory⟩ := worldWrite_stopped stopped (v.zeroExtend 32)
    refine Does.intro (writeReg_taken may fun s => worldWrite s n (v.zeroExtend 32)) ⟨?_, ?_, io, thread, memory⟩
    · rw [world, BitVec.getLsbD_setWidth]
      exact if_congr (or_congr_left Fin.val_eq_zero_iff) rfl rfl
    · rw [lock, BitVec.getLsbD_setWidth]
      rfl
  case ignored =>
    intro may active
    exact (writeReg_taken may fun s => worldWrite s n (v.zeroExtend 32)).trans (congrArg _ (worldWrite_ignored active _))
  case lock =>
    intro may stopped
    obtain ⟨world, lock, io, thread, memory⟩ := worldWrite_stopped stopped ((rd s .THR_WORLD n &&& 1) ||| 2)
    have kept : ((rd s .THR_WORLD n &&& 1) ||| 2).getLsbD 0 = rb s .THR_WORLD n 0 := by simp [rb]
    have set : ((rd s .THR_WORLD n &&& 1) ||| 2).getLsbD 1 = true := by simp
    refine Does.intro (writeReg_taken may fun s => worldWrite s n ((rd s .THR_WORLD n &&& 1) ||| 2)) ⟨?_, ?_, io, thread, memory⟩
    · rw [lock, set, Bool.or_true]
    · rw [world, kept, ite_self]
  case keeper =>
    intro normal may world
    have row : exec (.windowOwnerWrite req n normal w) s = .next (winOwnWrite s req (2 * n + b01 normal) (reqWorld s req) (reqGrant s req)
        (w.zeroExtend 32) 0xFFFF) :=
      (if_neg (by simp [world])).trans (writeReg_taken may fun s => winOwnWrite s req (2 * n + b01 normal) (reqWorld s req) (reqGrant s req)
        (w.zeroExtend 32) 0xFFFF)
    rw [world] at row
    obtain ⟨io, thread, memory⟩ := (WritesOnly.refl s).wr (r := .WIN_OWN) (i := 2 * n + b01 normal)
      (commitBits .WIN_OWN (rd s .WIN_OWN (2 * n + b01 normal)) (w.zeroExtend 32) 0xFFFF)
    refine Does.intro row ⟨?_, io, thread, memory⟩
    have value : fld (w.zeroExtend 32) 11 0 = w.toNat % 4096 := by simp [fld]
    exact (congrArg (fld · 11 0) (rd_wr_same ..)).trans ((fld_commitBits_winOwn ..).trans value)
  case normal =>
    intro mine live world
    have row : exec (.windowOwnerWrite req n true w) s = .next (winOwnWrite s req (2 * n + 1) true (reqGrant s req) (w.zeroExtend 32) 0xFFFF) := by
      refine (if_pos ⟨mine, rfl, world⟩).trans (liveIn_live live fun s => winOwnWrite s req (2 * n + 1) (reqWorld s req) (reqGrant s req)
        (w.zeroExtend 32) 0xFFFF) |>.trans ?_
      rw [world]
    have grant : reqGrant s req = rn s .TG_GRANT req := if_pos (mine ▸ n.isLt)
    rw [grant] at row
    obtain ⟨thread, memory, owners⟩ := winOwnWrite_normal (s := s) (i := 2 * n + 1) (by omega) req (rn s .TG_GRANT req) (w.zeroExtend 32)
    exact Does.intro row ⟨thread, memory, owners⟩
  case commit =>
    intro may world
    refine Does.intro (writeReg_taken may fun s => irCommit s req (reqWorld s req) v) ?_
    rw [world]
    exact ⟨fun k => mget_mset _ _ _ _ _, rdReq_irNext _ req, rfl, rfl, rfl⟩
  case refused =>
    intro may world free
    have commit : irCommit s req (reqWorld s req) v = violate (irNext s req) 5 (agentOf req) (rdReq s .TG_IRADDR req).toNat := if_pos world
    refine Does.intro ((writeReg_taken may fun s => irCommit s req (reqWorld s req) v).trans (congrArg _ commit)) ?_
    have unrecorded : rb (irNext s req) .TG_VIOL 0 31 = false := (rb_viol_irNext s req 31).trans free
    obtain ⟨moved, thread, memory⟩ := violate_irNext s req (by decide : 5 < 16) (agentOf_lt req) (rdReq s .TG_IRADDR req).toNat
    refine ⟨?_, moved, thread, memory⟩
    rw [rf, rd_violate unrecorded, violRecord_kind (by decide) (agentOf_lt req)]
  case read =>
    intro may word
    have fetched := irFetch_word word
    refine Does.intro (exec_iramPortRead may) ?_
    rw [fetched]
    obtain ⟨mine, others, threads, io, memory⟩ := landIn_captured (s := s) (f := irNext s req) (t8 := t8) (g := g) rfl (SameMemory.refl s) req
      (iramAt s (rdReq s .TG_IRADDR req).toNat) (byteOf (iramAt s (rdReq s .TG_IRADDR req).toNat) 0)
    exact ⟨mine, others, threads, rdReq_irNext s req, memory⟩
  case below =>
    intro may world low
    let f := violate (irNext s req) 5 (agentOf req) (rdReq s .TG_IRADDR req).toNat
    obtain ⟨record, valid, counted⟩ := violate_valid (irNext s req) (by decide : 5 < 16) (agentOf_lt req) (rdReq s .TG_IRADDR req).toNat
    have recorded : rb f .TG_VIOL 0 31 = true := by rw [rb, counted.rd notCounterReg_viol, rd_wr_same, valid]
    obtain ⟨moved, thread, kept⟩ := violate_irNext s req (by decide : 5 < 16) (agentOf_lt req) (rdReq s .TG_IRADDR req).toNat
    obtain ⟨mine, -, -, io, memory⟩ := landIn_captured (t8 := t8) (g := g) thread kept req 0 (byteOf 0 0)
    refine Does.intro (exec_iramPortRead may) ?_
    rw [world, irFetch_refused low]
    refine ⟨mine, ?_, ?_, memory⟩
    · rw [rb, rd_io f _ _ _ io]
      exact recorded
    · rw [rdReq, io]
      exact moved

end Sys2Proof.Proofs
end

section
/-!
SUPPORT. Counting an event and recording a refused access in CORE have nothing to do with the pipeline (R472, R1127): whatever stands in it
beforehand stands in it afterwards, and the rest is the same.
-/
namespace Sys2Proof.Proofs
open Sys2Proof.Machine Sys2Proof.Laws

/-- The state with another pipeline. -/
def withPipe (es : List PipeEntry) (s : State) : State := { s with pipe := es }

variable (es : List PipeEntry) (s : State)

@[simp] theorem rd_withPipe (r : Rg) (i : Nat) : rd (withPipe es s) r i = rd s r i := rfl
@[simp] theorem rb_withPipe (r : Rg) (i b : Nat) : rb (withPipe es s) r i b = rb s r i b := rfl
@[simp] theorem rf_withPipe (r : Rg) (i hi lo : Nat) : rf (withPipe es s) r i hi lo = rf s r i hi lo := rfl
@[simp] theorem rn_withPipe (r : Rg) (i : Nat) : rn (withPipe es s) r i = rn s r i := rfl
@[simp] theorem ecMode_withPipe (n : Nat) : ecMode (withPipe es s) n = ecMode s n := rfl
@[simp] theorem ctr_withPipe (n : Nat) : ctr (withPipe es s) n = ctr s n := rfl
@[simp] theorem icu_withPipe : (withPipe es s).icu = s.icu := rfl
@[simp] theorem time_withPipe : (withPipe es s).time = s.time := rfl
@[simp] theorem cycles_withPipe : (withPipe es s).cycles = s.cycles := rfl

@[simp] theorem wr_withPipe (r : Rg) (i : Nat) (v : Quad) : wr (withPipe es s) r i v = withPipe es (wr s r i v) := rfl
@[simp] theorem wb_withPipe (r : Rg) (i b : Nat) (x : Bool) : wb (withPipe es s) r i b x = withPipe es (wb s r i b x) := rfl
@[simp] theorem setCtr_withPipe (n : Nat) (c : Counter) : setCtr (withPipe es s) n c = withPipe es (setCtr s n c) := rfl
@[simp] theorem send_withPipe (c : Nat) (x : Xfer) : send (withPipe es s) c x = withPipe es (send s c x) := rfl
@[simp] theorem markEdge_withPipe (src : Nat) : markEdge (withPipe es s) src = withPipe es (markEdge s src) := rfl

@[simp] theorem openMeasures_withPipe (src : Nat) : openMeasures (withPipe es s) src = withPipe es (openMeasures s src) := by
  refine List.foldl_hom (withPipe es) fun s n => ?_
  simp only [rb_withPipe, ecMode_withPipe, rf_withPipe, ctr_withPipe, time_withPipe, cycles_withPipe, setCtr_withPipe, wb_withPipe]
  exact (apply_ite (withPipe es) ..).symm

@[simp] theorem latchBit_withPipe (src : Nat) : latchBit (withPipe es s) src = withPipe es (latchBit s src) := by
  rw [latchBit, latchBit, ← send_withPipe, ← openMeasures_withPipe]
  rfl

theorem bumpCount_withPipe (n k : Nat) : bumpCount (withPipe es s) n k = (withPipe es (bumpCount s n k).1, (bumpCount s n k).2) := by
  simp only [bumpCount, rn_withPipe, wr_withPipe, wb_withPipe, rb_withPipe, icu_withPipe, markEdge_withPipe, latchBit_withPipe]
  split
  · rfl
  · split
    · rfl
    · split <;> rfl

theorem occurUpTo_withPipe (fuel code k : Nat) : occurUpTo fuel (withPipe es s) code k = withPipe es (occurUpTo fuel s code k) := by
  induction fuel generalizing s code k with
  | zero => rfl
  | succ fuel ih =>
    rw [occurUpTo, occurUpTo, apply_ite (withPipe es)]
    refine if_congr Iff.rfl rfl (List.foldl_hom (withPipe es) fun s n => ?_)
    simp only [rb_withPipe, ecMode_withPipe, rf_withPipe, bumpCount_withPipe, ih]
    rw [← apply_ite (withPipe es), ← apply_ite (withPipe es)]

@[simp] theorem occur_withPipe (code k : Nat) : occur (withPipe es s) code k = withPipe es (occur s code k) := occurUpTo_withPipe ..

@[simp] theorem latchEdge_withPipe (src : Nat) : latchEdge (withPipe es s) src = withPipe es (latchEdge s src) := by
  simp only [latchEdge, icu_withPipe, markEdge_withPipe, occur_withPipe, latchBit_withPipe]
  rw [← apply_ite (withPipe es), ← apply_ite (withPipe es)]

@[simp] theorem violate_withPipe (kind agent addr : Nat) : violate (withPipe es s) kind agent addr = withPipe es (violate s kind agent addr) := by
  cases valid : (rd s .TG_VIOL 0).getLsbD 31 <;>
    simp only [violate, rd_withPipe, valid, if_true, Bool.false_eq_true, if_false, wr_withPipe, occur_withPipe, latchEdge_withPipe]

/-! ## Window accesses (R282-R288) -/

theorem winEvents_withPipe (t : Nat) (x : WinRef) : winEvents (withPipe es s) t x = withPipe es (winEvents s t x) := by
  simp only [winEvents, occur_withPipe, violate_withPipe]
  rw [← apply_ite (withPipe es), ← apply_ite (withPipe es)]

theorem winLoad_withPipe (t a n : Nat) (dst : Dst) : winLoad (withPipe es s) t a n dst = withPipe es (winLoad s t a n dst) := by
  have same : winRef (withPipe es s) t a = winRef s t a := rfl
  rw [winLoad, same, winEvents_withPipe]
  rfl

theorem winStore_withPipe (t a : Nat) (bs : List Byte) : winStore (withPipe es s) t a bs = withPipe es (winStore s t a bs) := by
  have same : winRef (withPipe es s) t a = winRef s t a := rfl
  rw [winStore, same, winEvents_withPipe]
  rfl

end Sys2Proof.Proofs
end

section
/-! # Chapters 05 and 06: loads, stores and pointer instructions (R277-R283, R334, R352-R357) -/
namespace Sys2Proof.Proofs
open Sys2Proof.Machine Sys2Proof.Laws

variable {s v : State} {t : Nat} {w : Thread} {m : MemOp} {c : Nat}

/-! ## What lands behind the pointer's update -/

/-- An operation of the pipeline replaces thread `t` by a function of it, and does nothing else. -/
def Replaces (p : PipeOp) (t : Nat) (f : Thread → Thread) : Prop :=
  ∀ u w c es i l, landEntry (inCycle (setThr u t w) c es) ⟨i, l, p⟩ = inCycle (setThr u t (f w)) c es

theorem replaces_greg (t r : Nat) (b : Byte) : Replaces (.greg t r b) t (setG · r b) := fun u w c es i l => by
  show inCycle (setThr (setThr u t w) t (setG (thr (setThr u t w) t) r b)) c es = _
  rw [thr_setThr_same, setThr_setThr]

theorem replaces_preg (t r : Nat) (b : Word) : Replaces (.preg t r b) t (setP · r b) := fun u w c es i l => by
  show inCycle (setThr (setThr u t w) t (setP (thr (setThr u t w) t) r b)) c es = _
  rw [thr_setThr_same, setThr_setThr]

theorem later_modeUpdate (quiet : Quiet s) (p : PipeOp) : later (modeUpdate (issuing s t) t m) 3 p =
    inCycle (issuing s t) (issuing s t).cycles (modeEntries (issuing s t).cycles t (thr s t) m ++
      [⟨(issuing s t).cycles, (issuing s t).cycles + 3, p⟩]) := by
  rw [modeUpdate_issuing quiet]
  exact congrArg (inCycle (issuing s t) (issuing s t).cycles) (pipeIns_modeEntries (by decide) p)

/-- An instruction that has only one operation of the third cycle in the pipeline behind its pointer's update. -/
theorem lands_fourth {i : Instr} {op : State → State} {p : PipeOp} {f : Thread → Thread} (plain : Plain s i) (row : exec i s = issue s i op)
    (effect : op (issuing s i.thread) = later (modeUpdate (issuing s i.thread) i.thread m) 3 p) (replaces : Replaces p i.thread f) :
    Lands i s 4 (f (modeMoved (thr s i.thread) m (issued (thr s i.thread)))) := by
  have quiet := plain.1
  rw [later_modeUpdate quiet] at effect
  have calm : Calm (op (issuing s i.thread)) i.thread := by rw [effect]; exact (calm_issuing plain).inCycle _ _
  refine Does.intro (row.trans (issue_plain plain calm)) ?_
  rw [effect]
  have here : (issuing s i.thread).cycles = (atSlot s i.thread).cycles := rfl
  generalize (issuing s i.thread).cycles = c at here ⊢
  have waits : ∀ e ∈ modeEntries c i.thread (thr s i.thread) m ++ [⟨c, c + 3, p⟩], c + 3 ≤ e.land := fun e he =>
    (List.mem_append.1 he).elim (fun h => (modeEntries_land c e h).ge) fun h => by rw [List.mem_singleton.1 h]
  refine ⟨here, fun j early => ?_, ?_⟩
  · exact (congrArg State.thr (cyclesPass_early (k := j) (quiet_issuing quiet i.thread) waits (by omega)) :)
  · have moved := cyclesPass_moved (u := atSlot s i.thread) (t := i.thread) (th := thr s i.thread) (w := issued (thr s i.thread)) (m := m) (c := c)
      (due := [⟨c, c + 3, p⟩]) (rest := []) quiet (by simp) (by simp)
    rw [List.append_nil, List.foldl_cons, List.foldl_nil, replaces] at moved
    refine moved.trans ?_
    generalize f (modeMoved (thr s i.thread) m (issued (thr s i.thread))) = x
    have still : Quiet (setThr (atSlot s i.thread) i.thread x) := quiet
    rw [← here]
    exact (slotDue_free (s := inCycle (setThr (atSlot s i.thread) i.thread x) (c + 4) []) quiet.2.1).trans (inCycle_quiet still)

/-! ## What is done in the slot, with the pointer's update left to land -/

/-- An instruction that has done `v` in its slot and only its pointer's update in the pipeline. -/
def Fourth (i : Instr) (s : State) (m : MemOp) (v : State) : Prop :=
  Does i s fun u => u.near = v.near ∧ u.cycles = (issuing s i.thread).cycles ∧ u.thr = v.thr ∧ (cyclesPass 3 u).thr = v.thr ∧
    cyclesPass 4 u = { setThr v i.thread (modeMoved (thr s i.thread) m (thr v i.thread)) with cycles := (issuing s i.thread).cycles + 4 }

theorem acts_fourth {i : Instr} {op : State → State} {u : State} (plain : Plain s i) (row : exec i s = issue s i op)
    (own : v = setThr u i.thread w) (quiet : Quiet v) (calm : Calm v i.thread) (here : v.cycles = (issuing s i.thread).cycles)
    (effect : op (issuing s i.thread) = withPipe (modeEntries (issuing s i.thread).cycles i.thread (thr s i.thread) m) v) : Fourth i s m v := by
  have inSlot : op (issuing s i.thread) =
      inCycle v (issuing s i.thread).cycles (modeEntries (issuing s i.thread).cycles i.thread (thr s i.thread) m) :=
    effect.trans (inCycle_here here)
  unfold Fourth
  refine Does.intro (row.trans (issue_plain plain (by rw [inSlot]; exact calm.inCycle _ _))) ?_
  rw [inSlot]
  generalize (issuing s i.thread).cycles = c
  have waits : ∀ e ∈ modeEntries c i.thread (thr s i.thread) m, c + 3 ≤ e.land := fun e he => (modeEntries_land c e he).ge
  refine ⟨rfl, rfl, rfl, (congrArg State.thr (cyclesPass_early quiet waits (Nat.le_refl 3)) :), ?_⟩
  subst own
  rw [thr_setThr_same, setThr_setThr]
  exact cyclesPass_sent (u := u) quiet

/-! ## Windows -/

/-- The thread with one window access more outstanding (R354). -/
def windowOut (th : Thread) : Thread := { th with outW := th.outW + 1, outKW := th.outKW + b01 (!th.world) }

theorem winLoad_thread (s : State) (t a n : Nat) (dst : Dst) : ∃ x, winLoad s t a n dst =
    setThr (send (winEvents s t (winRef s t a)) 0 x) t (windowOut (thr (winEvents s t (winRef s t a)) t)) := ⟨_, rfl⟩

theorem winStore_thread (s : State) (t a : Nat) (bs : List Byte) : ∃ x, winStore s t a bs =
    setThr (send (winEvents s t (winRef s t a)) 0 x) t (windowOut (thr (winEvents s t (winRef s t a)) t)) := ⟨_, rfl⟩

/-- The events of a window access take no time and leave the pipeline, the threads and the device's modes as they are. -/
theorem winEvents_leaves (s : State) {t : Nat} (thread : t < 16) (x : WinRef) : LeavesPipeline s (winEvents s t x) ∧
    SameInstant s (winEvents s t x) ∧ (winEvents s t x).thr = s.thr ∧ (winEvents s t x).dev = s.dev := by
  have counted := countsOnly_occur s 0x02 1
  obtain ⟨record, -, recorded⟩ := violate_valid s (by decide : 4 < 16) thread (x.far / 256)
  unfold winEvents
  split
  · exact ⟨.counted (.refl s) counted, .counted (.refl s) counted, counted.thr, counted.dev⟩
  · split
    · exact ⟨(LeavesPipeline.refl s).violate .., (SameInstant.refl s).violate .., recorded.thr.trans (wr_thr ..), recorded.dev.trans (wr_dev ..)⟩
    · exact ⟨.refl s, .refl s, rfl, rfl⟩

theorem window_fourth {i : Instr} {op : State → State} {a : Nat} (plain : Plain s i) (row : exec i s = issue s i op)
    (access : ∃ x, v = setThr (send (winEvents (issuing s i.thread) i.thread (winRef (issuing s i.thread) i.thread a)) 0 x) i.thread
      (windowOut (thr (winEvents (issuing s i.thread) i.thread (winRef (issuing s i.thread) i.thread a)) i.thread)))
    (effect : op (issuing s i.thread) = withPipe (modeEntries (issuing s i.thread).cycles i.thread (thr s i.thread) m) v) : Fourth i s m v := by
  obtain ⟨x, own⟩ := access
  obtain ⟨left, instant, thread, dev⟩ := winEvents_leaves (issuing s i.thread) (t := i.thread) (by omega)
    (winRef (issuing s i.thread) i.thread a)
  generalize winEvents (issuing s i.thread) i.thread (winRef (issuing s i.thread) i.thread a) = u at own left instant thread dev
  have quiet : Quiet u := left.quiet (quiet_issuing plain.1 _)
  have mine : thr u i.thread = issued (thr s i.thread) := by rw [← thr_issuing, thr, thread, thr]
  refine acts_fourth plain row own ?_ ?_ ?_ effect
  · subst own
    exact quiet
  · subst own
    rw [mine]
    exact Calm.issued (calm_issuing plain) _ _ rfl rfl rfl dev
  · subst own
    exact instant.cycles

/-! ## Near RAM (R277-R281) -/

theorem near_fourth {i : Instr} {op : State → State} {n : SMap Byte} (plain : Plain s i) (row : exec i s = issue s i op)
    (effect : op (issuing s i.thread) =
      withPipe (modeEntries (issuing s i.thread).cycles i.thread (thr s i.thread) m) { issuing s i.thread with near := n }) :
    Fourth i s m { issuing s i.thread with near := n } :=
  acts_fourth (u := { atSlot s i.thread with near := n }) plain row rfl plain.1
    ⟨(calm_issuing plain).1, (calm_issuing plain).2, (calm_issuing plain).3, (calm_issuing plain).4⟩ rfl effect

theorem nearRead_nearWrite (s : State) (k j : Nat) (b : Byte) : nearRead (nearWrite s k b) j = if j = k then b else nearRead s j :=
  mget_mset _ _ _ _ _

/-- Two bytes that have one key have one address and one world, and below 0x2000 one thread. -/
theorem nearKey_inj (t u : Fin 8) {x y : Bool} {a c : Nat} (inA : a < 0x4000) (inC : c < 0x4000) (same : nearKey t x a = nearKey u y c) :
    a = c ∧ x = y ∧ (a < 0x2000 → t = u) := by
  have world (z : Bool) : b01 z ≤ 1 := by cases z <;> decide
  have wx := world x
  have wy := world y
  have b01_inj : b01 x = b01 y → x = y := by cases x <;> cases y <;> simp [b01]
  unfold nearKey at same
  split_ifs at same
  · exact ⟨by omega, b01_inj (by omega), fun _ => Fin.ext (by omega)⟩
  · omega
  · omega
  · exact ⟨by omega, b01_inj (by omega), fun _ => by omega⟩

theorem joined_bytes (low high : Byte) : high.zeroExtend 16 <<< 8 ||| low.zeroExtend 16 = BitVec.ofNat 16 (low.toNat + 256 * high.toNat) := by
  have l := low.isLt
  have h := high.isLt
  have apart : 2 ^ 8 * high.toNat ||| low.toNat = 2 ^ 8 * high.toNat + low.toNat := (Nat.two_pow_add_eq_or_of_lt (i := 8) l _).symm
  refine BitVec.eq_of_toNat_eq ?_
  simp only [BitVec.toNat_or, BitVec.toNat_shiftLeft, BitVec.truncate_eq_setWidth, BitVec.toNat_setWidth, BitVec.toNat_ofNat, Nat.shiftLeft_eq]
  rw [Nat.mod_eq_of_lt (show low.toNat < 2 ^ 16 by omega), Nat.mod_eq_of_lt (show high.toNat < 2 ^ 16 by omega),
    Nat.mod_eq_of_lt (show high.toNat * 2 ^ 8 < 2 ^ 16 by omega), Nat.mod_eq_of_lt (show low.toNat + 256 * high.toNat < 2 ^ 16 by omega),
    Nat.mul_comm, apart]
  omega

/-! ## The operations in their slot -/

section
variable {r : Nat} {dst : Dst} (quiet : Quiet s)

theorem loadByte_near (near : accessed s t m < 0x4000) : loadByte (issuing s t) t r dst m =
    later (modeUpdate (issuing s t) t m) 3 (.greg t r (nearRead s (nearKey t (thr s t).world (accessed s t m)))) := by
  rw [loadByte, accessed_issuing, if_pos near, thr_issuing]
  rfl

theorem loadWord_near (near : accessed s t m / 2 * 2 < 0x4000) : loadWord (issuing s t) t r dst m =
    later (modeUpdate (issuing s t) t m) 3 (.preg t r (nearRead2 s (nearKey t (thr s t).world (accessed s t m / 2 * 2)))) := by
  rw [loadWord, evenAddr, accessed_issuing, if_pos near, thr_issuing]
  rfl

include quiet

theorem modeUpdate_withPipe : modeUpdate (issuing s t) t m = withPipe (modeEntries (issuing s t).cycles t (thr s t) m) (issuing s t) :=
  modeUpdate_issuing quiet t m

theorem loadByte_window (far : 0x4000 ≤ accessed s t m) : loadByte (issuing s t) t r dst m =
    withPipe (modeEntries (issuing s t).cycles t (thr s t) m) (winLoad (issuing s t) t (accessed s t m) 1 dst) := by
  rw [loadByte, accessed_issuing, if_neg (Nat.not_lt.2 far), modeUpdate_withPipe quiet, winLoad_withPipe]

theorem loadWord_window (far : 0x4000 ≤ accessed s t m / 2 * 2) : loadWord (issuing s t) t r dst m =
    withPipe (modeEntries (issuing s t).cycles t (thr s t) m) (winLoad (issuing s t) t (accessed s t m / 2 * 2) 2 dst) := by
  rw [loadWord, evenAddr, accessed_issuing, if_neg (Nat.not_lt.2 far), modeUpdate_withPipe quiet, winLoad_withPipe]

theorem storeByte_near (near : accessed s t m < 0x4000) : storeByte (issuing s t) t r m =
    withPipe (modeEntries (issuing s t).cycles t (thr s t) m)
      (nearWrite (issuing s t) (nearKey t (thr s t).world (accessed s t m)) (getG (thr s t) r)) := by
  rw [storeByte, accessed_issuing, if_pos near, thr_issuing, modeUpdate_withPipe quiet]
  rfl

theorem storeByte_window (far : 0x4000 ≤ accessed s t m) : storeByte (issuing s t) t r m =
    withPipe (modeEntries (issuing s t).cycles t (thr s t) m) (winStore (issuing s t) t (accessed s t m) [getG (thr s t) r]) := by
  rw [storeByte, accessed_issuing, if_neg (Nat.not_lt.2 far), thr_issuing, modeUpdate_withPipe quiet, winStore_withPipe]
  rfl

theorem storeWord_near (near : accessed s t m / 2 * 2 < 0x4000) : storeWord (issuing s t) t r m =
    withPipe (modeEntries (issuing s t).cycles t (thr s t) m)
      (nearWrite2 (issuing s t) (nearKey t (thr s t).world (accessed s t m / 2 * 2)) (getP (thr s t) r)) := by
  rw [storeWord, evenAddr, accessed_issuing, if_pos near, thr_issuing, modeUpdate_withPipe quiet]
  rfl

theorem storeWord_window (far : 0x4000 ≤ accessed s t m / 2 * 2) : storeWord (issuing s t) t r m =
    withPipe (modeEntries (issuing s t).cycles t (thr s t) m)
      (winStore (issuing s t) t (accessed s t m / 2 * 2) (leBytes 2 (getP (thr s t) r).toNat)) := by
  rw [storeWord, evenAddr, accessed_issuing, if_neg (Nat.not_lt.2 far), thr_issuing, modeUpdate_withPipe quiet, winStore_withPipe]
  rfl

end

/-! ## Pointer instructions (R357) -/

/-- An instruction whose only effect is on a pointer of its thread. -/
theorem lands_pointer {i : Instr} {t : Fin 8} {r : Nat} {op : State → State} {x y : Word} (thread : i.thread = t) (plain : Plain s i)
    (row : exec i s = issue s i op) (effect : op (issuing s t) = putP (issuing s t) t r x) (value : x = y) :
    Lands i s 4 (setP (issued (thr s t)) r y) := by
  subst value thread
  exact lands_fourth (m := .abs 0) plain row effect (replaces_preg i.thread r x)

/-- What PADDG adds. -/
theorem paddgAdds (low high : Byte) (wide sgn : Bool) :
    (if wide then BitVec.ofNat 16 (256 * high.toNat + low.toNat) else if sgn then low.signExtend 16 else low.zeroExtend 16 : Word) =
      BitVec.ofInt 16 (if wide then low.toNat + 256 * high.toNat else if sgn then low.toInt else low.toNat) := by
  cases wide
  · cases sgn
    · exact (BitVec.ofNat_toNat 16 low).symm
    · rfl
  · have sum : ((low.toNat : Int) + 256 * high.toNat) = ((256 * high.toNat + low.toNat : Nat) : Int) := by push_cast; ring
    simp only [if_true, sum]
    rfl

/-! ## The obligation -/

/-- Settles O13: what the instruction does in its slot is an equation above; what stands in the pipeline lands with its pointer's update. -/
theorem loadStoreAndPointerResults : Obligations.LoadStoreAndPointerResults := by
  refine ⟨fun s t r q m => ?_, ⟨nearRead_nearWrite, fun t u x y a c => nearKey_inj t u⟩, fun s t r p ga v k wide sgn => ⟨?_, ?_, ?_⟩⟩
  · intro th s1 upd a e at4
    have moved : upd = modeMoved th m := by funext x; cases m <;> rfl
    have fourth {i : Instr} {v : State} (thread : i.thread = t) (does : Fourth i s m v) : at4 i v := by
      unfold Fourth at does
      rw [thread, ← moved] at does
      exact does
    clear_value upd
    subst moved
    refine ⟨fun plain near => ?_, fun plain far => ?_, fun plain near => ?_, fun plain far => ?_, fun plain near => ?_, fun plain far => ?_,
      fun plain near => ?_, fun plain far => ?_⟩
    · exact lands_fourth plain rfl (loadByte_near near) (replaces_greg t r _)
    · exact fourth rfl (window_fourth plain rfl (winLoad_thread ..) (loadByte_window plain.1 far))
    · exact fourth rfl (near_fourth plain rfl (storeByte_near plain.1 near))
    · exact fourth rfl (window_fourth plain rfl (winStore_thread ..) (storeByte_window plain.1 far))
    · have lands := lands_fourth plain rfl (loadWord_near (r := q) near) (replaces_preg t q _)
      rw [nearRead2, joined_bytes] at lands
      exact lands
    · exact fourth rfl (window_fourth plain rfl (winLoad_thread ..) (loadWord_window plain.1 far))
    · exact fourth rfl (near_fourth plain rfl (storeWord_near plain.1 near))
    · exact fourth rfl (window_fourth plain rfl (winStore_thread ..) (storeWord_window plain.1 far))
  · exact fun plain => lands_pointer rfl plain rfl rfl rfl
  · exact fun plain => lands_pointer rfl plain rfl rfl (by rw [thr_issuing]; rfl)
  · exact fun plain => lands_pointer rfl plain rfl rfl (by rw [thr_issuing, paddgAdds]; rfl)

end Sys2Proof.Proofs
end

section
/-!
# Chapter 06: the encoding (R330-R335)

A word is its major opcode and the fields below it; each format of fields gives its operands back.
-/
namespace Sys2Proof.Proofs
open Sys2Proof.Machine Sys2Proof.Laws

/-! ## Fields -/

section
variable {w lo : Nat}

theorem bitNat_le (b : Bool) : bitNat b ≤ 1 := by cases b <;> decide

theorem g4_eq {g : Fin 16} (h : w / 2 ^ lo % 16 = g) : g4 w lo = g := Fin.ext h

theorem p2_eq {p : Fin 4} (h : w / 2 ^ lo % 4 = p) : p2 w lo = p := Fin.ext h

theorem flag_eq {b : Bool} (h : w / 2 ^ lo % 2 = bitNat b) : flag w lo = b := by
  rw [flag, h]
  cases b <;> rfl

theorem ofNat_field {n : Nat} {v : BitVec n} (h : w % 2 ^ n = v.toNat) : BitVec.ofNat n w = v :=
  BitVec.eq_of_toNat_eq (by rw [BitVec.toNat_ofNat, h])

theorem ofNat_bitsAt {n : Nat} {v : BitVec n} (h : w / 2 ^ lo % 2 ^ n = v.toNat) : BitVec.ofNat n (bitsAt w lo n) = v := by
  rw [bitsAt, h, BitVec.ofNat_toNat, BitVec.setWidth_eq]

theorem bitsAt_beq {n k : Nat} (h : w / 2 ^ lo % 2 ^ n = k) : (bitsAt w lo n == k) = true := by simp [bitsAt, h]

theorem only_true {c : Bool} {i j : Instr} (holds : c = true) (same : i = j) : only c i = some j := by rw [only, if_pos holds, same]

end

/-! ## Formats with an operand of their own -/

section
variable {w op : Nat}

section
variable {gd ga : Fin 16} {b : Operand} {s : Bool}

/-- Format A (R333). -/
theorem decOperand_encA (word : w = op * 2 ^ 26 + encA gd ga s b) :
    decOperand w = some b ∧ flag w 16 = s ∧ g4 w 22 = gd ∧ g4 w 18 = ga := by
  have single := bitNat_le s
  cases b with
  | reg gb =>
    simp only [encA] at word
    have upper : bitsAt w 8 8 = 0 := by unfold bitsAt; omega
    have register : flag w 17 = false := flag_eq (show _ = 0 by omega)
    have lower : bitsAt w 4 4 = 0 := by unfold bitsAt; omega
    have number : g4 w 0 = gb := g4_eq (by omega)
    exact ⟨by simp [decOperand, upper, register, lower, number], flag_eq (by omega), g4_eq (by omega), g4_eq (by omega)⟩
  | imm v =>
    simp only [encA] at word
    have upper : bitsAt w 8 8 = 0 := by unfold bitsAt; omega
    have immediate : flag w 17 = true := flag_eq (show _ = 1 by omega)
    have value : BitVec.ofNat 8 (bitsAt w 0 8) = v := ofNat_bitsAt (by omega)
    exact ⟨by simp [decOperand, upper, immediate, value], flag_eq (by omega), g4_eq (by omega), g4_eq (by omega)⟩

theorem decAlu_encA (f : Fin 16 → Fin 16 → Operand → Instr) (word : w = op * 2 ^ 26 + encA gd ga false b) :
    decAlu w f = some (f gd ga b) := by
  obtain ⟨operand, unsigned, first, second⟩ := decOperand_encA word
  simp [decAlu, operand, unsigned, first, second]

theorem decShift_encA (small : shiftOk b = true) (f : Fin 16 → Fin 16 → Operand → Instr) (word : w = op * 2 ^ 26 + encA gd ga false b) :
    decShift w f = some (f gd ga b) := by
  obtain ⟨operand, unsigned, first, second⟩ := decOperand_encA word
  simp [decShift, operand, unsigned, first, second, only, small]

end

section
variable {m : MemOp}

/-- Format M (R334). -/
theorem decMem_encM {r : Nat} (low : r < 16) (word : w = op * 2 ^ 26 + encM r m) : decMem w = some m ∧ bitsAt w 22 4 = r := by
  cases m with
  | off pb o =>
    simp only [encM] at word
    have upper : bitsAt w 16 2 = 0 := by unfold bitsAt; omega
    have mode : bitsAt w 18 2 = 0 := by unfold bitsAt; omega
    have zero : bitsAt w 10 6 = 0 := by unfold bitsAt; omega
    have base : p2 w 20 = pb := p2_eq (by omega)
    have offset : BitVec.ofNat 10 w = o := ofNat_field (by omega)
    exact ⟨by simp [decMem, upper, mode, zero, base, offset], by unfold bitsAt; omega⟩
  | post pb o =>
    simp only [encM] at word
    have upper : bitsAt w 16 2 = 0 := by unfold bitsAt; omega
    have mode : bitsAt w 18 2 = 1 := by unfold bitsAt; omega
    have zero : bitsAt w 10 6 = 0 := by unfold bitsAt; omega
    have base : p2 w 20 = pb := p2_eq (by omega)
    have offset : BitVec.ofNat 10 w = o := ofNat_field (by omega)
    exact ⟨by simp [decMem, upper, mode, zero, base, offset], by unfold bitsAt; omega⟩
  | idx pb gx =>
    simp only [encM] at word
    have upper : bitsAt w 16 2 = 0 := by unfold bitsAt; omega
    have mode : bitsAt w 18 2 = 2 := by unfold bitsAt; omega
    have zero : bitsAt w 4 12 = 0 := by unfold bitsAt; omega
    have base : p2 w 20 = pb := p2_eq (by omega)
    have index : g4 w 0 = gx := g4_eq (by omega)
    exact ⟨by simp [decMem, upper, mode, zero, base, index], by unfold bitsAt; omega⟩
  | abs a =>
    simp only [encM] at word
    have upper : bitsAt w 16 2 = 0 := by unfold bitsAt; omega
    have mode : bitsAt w 18 2 = 3 := by unfold bitsAt; omega
    have zero : bitsAt w 20 2 = 0 := by unfold bitsAt; omega
    have address : BitVec.ofNat 16 w = a := ofNat_field (by omega)
    exact ⟨by simp [decMem, upper, mode, zero, address], by unfold bitsAt; omega⟩

theorem decMem_map_encM {r : Fin 16} (f : Fin 16 → MemOp → Instr) (word : w = op * 2 ^ 26 + encM r m) :
    (decMem w).map (f (g4 w 22)) = some (f r m) := by
  obtain ⟨address, register⟩ := decMem_encM r.isLt word
  rw [address, g4_eq register, Option.map_some]

theorem decPtr_eq {r : Fin 5} (register : bitsAt w 22 4 = r) : decPtr w = some r := by simp [decPtr, register]

theorem decMemPtr_encM {r : Fin 5} (f : Fin 5 → MemOp → Instr) (word : w = op * 2 ^ 26 + encM r m) : decMemPtr w f = some (f r m) := by
  obtain ⟨address, register⟩ := decMem_encM (show r.val < 16 by omega) word
  simp [decMemPtr, address, decPtr_eq register]

end

/-- A pointer update (R357). -/
theorem decPadd_eq {ok : Bool} {p : Fin 4} {f : Fin 4 → Instr} (upper : bitsAt w 24 2 = 0) (pointer : p2 w 22 = p) (holds : ok = true) :
    decPadd w ok f = some (f p) := by simp [decPadd, upper, pointer, only, holds]

/-- BRX (R363). -/
theorem decBrx_index {t : Fin 8} {ga : Fin 16} {base : BitVec 16} {l : Bool}
    (word : w = op * 2 ^ 26 + (ga.val * 2 ^ 22 + bitNat l * 2 ^ 20 + base.toNat)) : decBrx t w = some (.brx t (.index ga base) l) := by
  have link := bitNat_le l
  have upper : bitsAt w 16 2 = 0 := by unfold bitsAt; omega
  have index : flag w 21 = false := flag_eq (show _ = 0 by omega)
  have zero : bitsAt w 18 2 = 0 := by unfold bitsAt; omega
  have register : g4 w 22 = ga := g4_eq (by omega)
  have address : BitVec.ofNat 16 w = base := ofNat_field (by omega)
  have links : flag w 20 = l := flag_eq (by omega)
  simp [decBrx, upper, index, zero, register, address, links, only]

theorem decBrx_pointer {t : Fin 8} {ps : Fin 4} {l : Bool}
    (word : w = op * 2 ^ 26 + (2 ^ 21 + bitNat l * 2 ^ 20 + ps.val * 2 ^ 18)) : decBrx t w = some (.brx t (.pointer ps) l) := by
  have link := bitNat_le l
  have upper : bitsAt w 16 2 = 0 := by unfold bitsAt; omega
  have pointer : flag w 21 = true := flag_eq (show _ = 1 by omega)
  have none : bitsAt w 22 4 = 0 := by unfold bitsAt; omega
  have zero : bitsAt w 0 16 = 0 := by unfold bitsAt; omega
  have register : p2 w 18 = ps := p2_eq (by omega)
  have links : flag w 20 = l := flag_eq (by omega)
  simp [decBrx, upper, pointer, none, zero, register, links, only]

end

/-! ## Formats whose fields stand by themselves -/

section
variable {w op : Nat}

theorem only_unused {i : Instr} (word : w = op * 2 ^ 26 + 0) : only (bitsAt w 0 26 == 0) i = some i :=
  only_true (bitsAt_beq (by omega)) rfl

theorem only_byte {n : BitVec 8} (f : BitVec 8 → Instr) (word : w = op * 2 ^ 26 + n.toNat) :
    only (bitsAt w 8 18 == 0) (f (BitVec.ofNat 8 w)) = some (f n) :=
  only_true (bitsAt_beq (by omega)) (by rw [ofNat_field (v := n) (by omega)])

theorem only_registers {gd ga : Fin 16} (f : Fin 16 → Fin 16 → Instr) (word : w = op * 2 ^ 26 + (gd.val * 2 ^ 22 + ga.val * 2 ^ 18)) :
    only (bitsAt w 0 18 == 0) (f (g4 w 22) (g4 w 18)) = some (f gd ga) :=
  only_true (bitsAt_beq (by omega)) (by rw [g4_eq (g := gd) (by omega), g4_eq (g := ga) (by omega)])

theorem only_immediate {gd : Fin 16} {n : BitVec 8} (f : Fin 16 → BitVec 8 → Instr)
    (word : w = op * 2 ^ 26 + (gd.val * 2 ^ 22 + 2 ^ 17 + n.toNat)) :
    only (bitsAt w 8 14 == 0x200) (f (g4 w 22) (BitVec.ofNat 8 w)) = some (f gd n) :=
  only_true (bitsAt_beq (by omega)) (by rw [g4_eq (g := gd) (by omega), ofNat_field (v := n) (by omega)])

theorem only_awaited {n : BitVec 12} {v : Bool} (f : BitVec 12 → Bool → Instr)
    (word : w = op * 2 ^ 26 + (n.toNat * 2 ^ 14 + bitNat v * 2 ^ 13)) :
    only (bitsAt w 0 13 == 0) (f (BitVec.ofNat 12 (bitsAt w 14 12)) (flag w 13)) = some (f n v) := by
  have single := bitNat_le v
  exact only_true (bitsAt_beq (by omega)) (by rw [ofNat_bitsAt (v := n) (by omega), flag_eq (b := v) (by omega)])

/-- Format B1 (R348). -/
theorem only_bits {bd bs : BitVec 12} {n : Bool} (f : BitVec 12 → BitVec 12 → Bool → Instr) (word : w = op * 2 ^ 26 + encB bd bs n) :
    only (bitsAt w 1 1 == 0) (f (BitVec.ofNat 12 (bitsAt w 14 12)) (BitVec.ofNat 12 (bitsAt w 2 12)) (flag w 0)) = some (f bd bs n) := by
  have single := bitNat_le n
  unfold encB at word
  refine only_true (bitsAt_beq (by omega)) ?_
  rw [ofNat_bitsAt (v := bd) (by omega), ofNat_bitsAt (v := bs) (by omega), flag_eq (b := n) (by omega)]

theorem only_bit {bd : BitVec 12} (f : BitVec 12 → Instr) (word : w = op * 2 ^ 26 + encB bd 0 false) :
    only (bitsAt w 0 14 == 0) (f (BitVec.ofNat 12 (bitsAt w 14 12))) = some (f bd) := by
  have plain : bitNat false = 0 := rfl
  have zero : (0 : BitVec 12).toNat = 0 := rfl
  unfold encB at word
  exact only_true (bitsAt_beq (by omega)) (by rw [ofNat_bitsAt (v := bd) (by omega)])

/-- Format B2. -/
theorem only_registerBit {g : Fin 16} {n : BitVec 12} (f : Fin 16 → BitVec 12 → Instr) (word : w = op * 2 ^ 26 + (g.val * 2 ^ 22 + n.toNat)) :
    only (bitsAt w 12 10 == 0) (f (g4 w 22) (BitVec.ofNat 12 w)) = some (f g n) :=
  only_true (bitsAt_beq (by omega)) (by rw [g4_eq (g := g) (by omega), ofNat_field (v := n) (by omega)])

theorem only_registerWord {g : Fin 16} {n : BitVec 16} (f : Fin 16 → BitVec 16 → Instr)
    (word : w = op * 2 ^ 26 + (g.val * 2 ^ 22 + n.toNat)) :
    only (bitsAt w 16 6 == 0) (f (g4 w 22) (BitVec.ofNat 16 w)) = some (f g n) :=
  only_true (bitsAt_beq (by omega)) (by rw [g4_eq (g := g) (by omega), ofNat_field (v := n) (by omega)])

theorem only_word {n : BitVec 16} (f : BitVec 16 → Instr) (word : w = op * 2 ^ 26 + n.toNat) :
    only (bitsAt w 16 10 == 0) (f (BitVec.ofNat 16 w)) = some (f n) :=
  only_true (bitsAt_beq (by omega)) (by rw [ofNat_field (v := n) (by omega)])

theorem some_bitOffset {n : BitVec 12} {o : BitVec 14} (f : BitVec 12 → BitVec 14 → Instr)
    (word : w = op * 2 ^ 26 + (n.toNat * 2 ^ 14 + o.toNat)) :
    some (f (BitVec.ofNat 12 (bitsAt w 14 12)) (BitVec.ofNat 14 w)) = some (f n o) := by
  rw [ofNat_bitsAt (v := n) (by omega), ofNat_field (v := o) (by omega)]

end

/-! ## Words -/

/-- The decoder's table of major opcodes. -/
def decodeMajor (t : Fin 8) (op w : Nat) : Option Instr :=
  if op < 0x10 then decode0 t op w else if op < 0x20 then decode1 t op w else if op < 0x30 then decode2 t op w else decode3 t op w

theorem decodeWord_fields (t : Fin 8) {op x : Nat} (major : op < 64) (fields : x < 2 ^ 26) :
    decodeWord t (BitVec.ofNat 32 (op * 2 ^ 26 + x)) = decodeMajor t op (op * 2 ^ 26 + x) := by
  have word : (BitVec.ofNat 32 (op * 2 ^ 26 + x)).toNat = op * 2 ^ 26 + x := by
    rw [BitVec.toNat_ofNat]
    omega
  have opcode : (op * 2 ^ 26 + x) / 2 ^ 26 = op := by omega
  simp only [decodeWord, decodeMajor, word, opcode]

theorem encA_lt (gd ga : Fin 16) (s : Bool) (b : Operand) : encA gd ga s b < 2 ^ 26 := by
  have single := bitNat_le s
  cases b <;> simp only [encA] <;> omega

theorem encM_lt {r : Nat} (low : r < 16) (m : MemOp) : encM r m < 2 ^ 26 := by cases m <;> simp only [encM] <;> omega

theorem encB_lt (bd bs : BitVec 12) (n : Bool) : encB bd bs n < 2 ^ 26 := by
  have single := bitNat_le n
  unfold encB
  omega

section
variable {t : Fin 8} {w : Nat}

/-- MUL: gd is even (R345). -/
theorem decMul_encA {gd ga : Fin 16} {b : Operand} {sgn : Bool} (even : (gd.val % 2 == 0) = true)
    (word : w = 0x17 * 2 ^ 26 + encA gd ga sgn b) : decodeMajor t 0x17 w = some (.mul t gd ga b sgn) := by
  obtain ⟨operand, signed, first, second⟩ := decOperand_encA word
  have number : w / 2 ^ 22 % 16 = gd.val := congrArg Fin.val first
  have whole : bitsAt w 22 1 = 0 := by
    rw [beq_iff_eq] at even
    unfold bitsAt
    omega
  show (match decOperand w with
    | some b => only (bitsAt w 22 1 == 0) (.mul t (g4 w 22) (g4 w 18) b (flag w 16))
    | none => none) = _
  simp [operand, whole, signed, first, second, only]

theorem decPset_eq {r : Fin 5} {n : BitVec 16} (word : w = 0x2E * 2 ^ 26 + (r.val * 2 ^ 22 + n.toNat)) :
    decodeMajor t 0x2E w = some (.pset t r n) := by
  have pointer : decPtr w = some r := decPtr_eq (by unfold bitsAt; omega)
  have upper : bitsAt w 16 6 = 0 := by unfold bitsAt; omega
  have value : BitVec.ofNat 16 w = n := ofNat_field (by omega)
  show (match decPtr w with
    | some r => only (bitsAt w 16 6 == 0) (.pset t r (BitVec.ofNat 16 w))
    | none => none) = _
  simp [pointer, upper, value, only]

theorem decPadd_signed {p : Fin 4} {n : BitVec 10} (word : w = 0x2F * 2 ^ 26 + (p.val * 2 ^ 22 + n.toNat)) :
    decodeMajor t 0x2F w = some (.padd t p n) := by
  have value : BitVec.ofNat 10 w = n := ofNat_field (by omega)
  show decPadd w (bitsAt w 10 12 == 0) (fun p => .padd t p (BitVec.ofNat 10 w)) = _
  rw [decPadd_eq (p := p) (by unfold bitsAt; omega) (p2_eq (by omega)) (bitsAt_beq (by omega)), value]

/-- PADDG (R357). -/
theorem decPadd_register {p : Fin 4} {ga : Fin 16} {wide sgn : Bool} (allowed : paddgOk ga wide sgn = true)
    (word : w = 0x30 * 2 ^ 26 + (p.val * 2 ^ 22 + ga.val * 2 ^ 18 + bitNat wide * 2 ^ 17 + bitNat sgn * 2 ^ 16)) :
    decodeMajor t 0x30 w = some (.paddg t p ga wide sgn) := by
  have := bitNat_le wide
  have := bitNat_le sgn
  have register : g4 w 18 = ga := g4_eq (by omega)
  have both : flag w 17 = wide := flag_eq (by omega)
  have signed : flag w 16 = sgn := flag_eq (by omega)
  have zero : (bitsAt w 0 16 == 0) = true := bitsAt_beq (by omega)
  show decPadd w (bitsAt w 0 16 == 0 && paddgOk (g4 w 18) (flag w 17) (flag w 16))
    (fun p => .paddg t p (g4 w 18) (flag w 17) (flag w 16)) = _
  rw [register, both, signed, zero, allowed, Bool.and_self, decPadd_eq (p := p) (by unfold bitsAt; omega) (p2_eq (by omega)) rfl]

end

/-- A word decodes where the arm of its major opcode answers the instruction. -/
theorem decodeWord_encoded {i : Instr} {w : BitVec 32} {op x : Nat} (encoded : encodeWord i = some w) (fields : encFields i = some (op, x))
    (major : op < 64) (low : x < 2 ^ 26) (arm : ∀ v, v = op * 2 ^ 26 + x → decodeMajor i.thread op v = some i) :
    decodeWord i.thread w = some i := by
  rw [encodeWord, fields, Option.some.injEq] at encoded
  rw [← encoded, decodeWord_fields _ major low]
  exact arm _ rfl

/-- Settles O4, instruction by instruction: the arm of its major opcode gives the operands of its format back. -/
theorem decodeInvertsEncode : Obligations.DecodeInvertsEncode := by
  intro i w legal encoded
  have decodes {op x : Nat} := decodeWord_encoded (op := op) (x := x) encoded
  cases i with
  | nop t | fence t | wait t | rtoll t | reti t | ret t => exact decodes rfl (by decide) (by omega) fun v word => only_unused word
  | trap t n | toll t n => exact decodes rfl (by decide) (by omega) fun v word => only_byte _ word
  | waitb t n v =>
    have awaits := bitNat_le v
    exact decodes rfl (by decide) (by omega) fun v word => only_awaited (.waitb t) word
  | mov t gd ga | notR t gd ga => exact decodes rfl (by decide) (by omega) fun v word => only_registers _ word
  | movi t gd n => exact decodes rfl (by decide) (by omega) fun v word => only_immediate (.movi t) word
  | add t gd ga b | adc t gd ga b | sub t gd ga b | sbc t gd ga b | andR t gd ga b | orR t gd ga b | xorR t gd ga b | seq t gd ga b
  | sne t gd ga b | slt t gd ga b | sltu t gd ga b | sgeu t gd ga b =>
    exact decodes rfl (by decide) (encA_lt ..) fun v word => decAlu_encA _ word
  | shl t gd ga b | shr t gd ga b | sar t gd ga b | rol t gd ga b | ror t gd ga b =>
    exact decodes rfl (by decide) (encA_lt ..) fun v word => decShift_encA legal _ word
  | mul t gd ga b sgn => exact decodes rfl (by decide) (encA_lt ..) fun v word => decMul_encA legal word
  | setb t bd | clrb t bd | cplb t bd => exact decodes rfl (by decide) (encB_lt ..) fun v word => only_bit _ word
  | movb t bd bs n | andb t bd bs n | orb t bd bs n | xorb t bd bs n => exact decodes rfl (by decide) (encB_lt ..) fun v word => only_bits _ word
  | ldb t g n | tsb t g n => exact decodes rfl (by decide) (by omega) fun v word => only_registerBit _ word
  | stb t n g => exact decodes rfl (by decide) (by omega) fun v word => only_registerBit (fun g n => .stb t n g) word
  | ld t r m | st t r m | inp t r m | out t r m => exact decodes rfl (by decide) (encM_lt r.isLt m) fun v word => decMem_map_encM _ word
  | ldp t r m | stp t r m => exact decodes rfl (by decide) (encM_lt (by omega) m) fun v word => decMemPtr_encM _ word
  | pset t r n => exact decodes rfl (by decide) (by omega) fun v word => decPset_eq word
  | padd t p n => exact decodes rfl (by decide) (by omega) fun v word => decPadd_signed word
  | paddg t p ga wide sgn =>
    have wides := bitNat_le wide
    have signs := bitNat_le sgn
    exact decodes rfl (by decide) (by omega) fun v word => decPadd_register legal word
  | bz t g n | bnz t g n => exact decodes rfl (by decide) (by omega) fun v word => only_registerWord _ word
  | jb t n o | jnb t n o => exact decodes rfl (by decide) (by omega) fun v word => some_bitOffset _ word
  | jmp t n | call t n => exact decodes rfl (by decide) (by omega) fun v word => only_word _ word
  | brx t x link =>
    have links := bitNat_le link
    cases x with
    | index ga base => exact decodes rfl (by decide) (by omega) fun v word => decBrx_index word
    | pointer ps => exact decodes rfl (by decide) (by omega) fun v word => decBrx_pointer word
  | _ => cases encoded

/-- Settles O5: the words are literals. -/
theorem writtenWordsDecode : Obligations.WrittenWordsDecode := by
  unfold Obligations.WrittenWordsDecode
  decide

end Sys2Proof.Proofs
end

section
/-!
SUPPORT. Instructions whose effect on their thread comes at the end of the third cycle (R393): registers and flags of ALU instructions, IE and INH.
-/
namespace Sys2Proof.Proofs
open Sys2Proof.Machine Sys2Proof.Laws

variable {s u : State} {i : Instr} {op : State → State} {es : List PipeEntry} {w x : Thread} {t : Nat}

/-! ## The third cycle -/

/-- What stands in the pipeline makes thread `t` from `w` to `x`, and does nothing else. -/
def Turns (es : List PipeEntry) (t : Nat) (w x : Thread) : Prop :=
  ∀ u c, es.foldl landEntry (inCycle (setThr u t w) c []) = inCycle (setThr u t x) c []

theorem turns_nil (t : Nat) (w : Thread) : Turns [] t w w := fun _ _ => rfl

theorem Turns.cons {p : PipeOp} {f : Thread → Thread} (replaces : Replaces p t f) (rest : Turns es t (f w) x) (k l : Nat) :
    Turns (⟨k, l, p⟩ :: es) t w x := fun u c => by
  rw [List.foldl_cons, replaces]
  exact rest u c

/-- For two cycles nothing lands. -/
theorem cyclesPass_two {c k : Nat} (quiet : Quiet u) (third : ∀ e ∈ es, e.land = c + 2) (early : k ≤ 2) :
    cyclesPass k (inCycle u c es) = inCycle u (c + k) es :=
  cyclesPass_waiting (s := inCycle u c es) quiet.2.1 quiet.2.2 fun e he => by
    rw [third e he]
    exact Nat.add_le_add_left early c

/-- At the end of the third cycle the pipeline empties. -/
theorem cyclesPass_three {c : Nat} (quiet : Quiet u) (third : ∀ e ∈ es, e.land = c + 2) : cyclesPass 3 (inCycle u c es) =
    let v := es.foldl landEntry (inCycle u (c + 2) [])
    slotDue { v with cycles := v.cycles + 1 } := by
  rw [cyclesPass_succ 2, cyclesPass_two quiet third (Nat.le_refl 2), ← cycleStep_inCycle quiet third (rest := []) (by simp),
    List.append_nil]

/-- An instruction leaves its thread `w` in its slot and in the pipeline what makes it `x`. -/
theorem moves_of_answer (quiet : Quiet s)
    (answer : exec i s = .next (inCycle (setThr (atSlot s i.thread) i.thread w) (issuing s i.thread).cycles es))
    (third : ∀ e ∈ es, e.land = (issuing s i.thread).cycles + 2) (turns : Turns es i.thread w x) : Moves i s w 3 x := by
  have start : Quiet (setThr (atSlot s i.thread) i.thread w) := quiet
  have still : Quiet (setThr (atSlot s i.thread) i.thread x) := quiet
  refine Does.intro answer ⟨rfl, fun j early => ?_, ?_⟩
  · exact (congrArg State.thr (cyclesPass_two start third (k := j) (by omega)) :)
  · rw [cyclesPass_three start third, turns]
    exact (slotDue_free (s := inCycle (setThr (atSlot s i.thread) i.thread x) ((issuing s i.thread).cycles + 3) []) still.2.1).trans
      (inCycle_quiet still)

theorem moves_third (plain : Plain s i) (row : exec i s = issue s i op)
    (effect : op (issuing s i.thread) = inCycle (setThr (atSlot s i.thread) i.thread w) (issuing s i.thread).cycles es)
    (calm : Calm (setThr (atSlot s i.thread) i.thread w) i.thread) (third : ∀ e ∈ es, e.land = (issuing s i.thread).cycles + 2)
    (turns : Turns es i.thread w x) : Moves i s w 3 x := by
  have issues := row.trans (issue_plain plain (by rw [effect]; exact calm.inCycle _ _))
  exact moves_of_answer plain.1 (issues.trans (congrArg _ effect)) third turns

/-! ## What stands in the pipeline -/

theorem later_empty (quiet : Quiet u) (k : Nat) (p : PipeOp) : later u k p = inCycle u u.cycles [⟨u.cycles, u.cycles + k, p⟩] := by
  rw [later, quiet.1]
  rfl

/-- An entry that lands with another of the same instruction stands behind it. -/
theorem later_behind (quiet : Quiet u) (k : Nat) (p q : PipeOp) :
    later (later u k p) k q = inCycle u u.cycles [⟨u.cycles, u.cycles + k, p⟩, ⟨u.cycles, u.cycles + k, q⟩] := by
  rw [later_empty quiet]
  simp [later, inCycle, pipeIns]

/-- The thread with C and V written; `none` leaves one as it is. -/
def setCV (c v : Option Bool) (th : Thread) : Thread := { th with c := c.getD th.c, v := v.getD th.v }

theorem replaces_flags (t : Nat) (c v : Option Bool) : Replaces (.flags t c v) t (setCV c v) := fun u w k es i l => by
  show inCycle (setThr (setThr u t w) t (setCV c v (thr (setThr u t w) t))) k es = _
  rw [thr_setThr_same, setThr_setThr]

/-- The thread with IE set, and INH clear where a handler returns. -/
def setIE (endInh : Bool) (th : Thread) : Thread := { th with ie := true, inh := th.inh && !endInh }

theorem replaces_setIe (t : Nat) (endInh : Bool) : Replaces (.setIe t endInh) t (setIE endInh) := fun u w k es i l => by
  show inCycle (setThr (setThr u t w) t (setIE endInh (thr (setThr u t w) t))) k es = _
  rw [thr_setThr_same, setThr_setThr]

/-! ## ALU instructions -/

/-- A thread that has only issued is as calm as it was. -/
theorem calm_issued (plain : Plain s i) : Calm (setThr (atSlot s i.thread) i.thread (issued (thr s i.thread))) i.thread := calm_issuing plain

/-- One operation of the pipeline. -/
theorem lands_one {p : PipeOp} {f : Thread → Thread} (plain : Plain s i) (row : exec i s = issue s i op)
    (effect : op (issuing s i.thread) = later (issuing s i.thread) 2 p) (replaces : Replaces p i.thread f) :
    Lands i s 3 (f (issued (thr s i.thread))) :=
  moves_third plain row (effect.trans (later_empty (quiet_issuing plain.1 _) 2 p)) (calm_issued plain) (by simp)
    (.cons replaces (turns_nil _ _) _ _)

/-- Two operations of the pipeline, the first before the second. -/
theorem lands_two {p q : PipeOp} {f g : Thread → Thread} (plain : Plain s i) (row : exec i s = issue s i op)
    (effect : op (issuing s i.thread) = later (later (issuing s i.thread) 2 p) 2 q) (first : Replaces p i.thread f)
    (second : Replaces q i.thread g) : Lands i s 3 (g (f (issued (thr s i.thread)))) :=
  moves_third plain row (effect.trans (later_behind (quiet_issuing plain.1 _) 2 p q)) (calm_issued plain) (by simp)
    (.cons first (.cons second (turns_nil _ _) _ _) _ _)

section
variable {t : Fin 8} {gd ga : Fin 16} {b : Operand} {r : Byte} {c v : Bool}

/-- A register is written. -/
theorem lands_putG {d : Nat} (thread : i.thread = t) (plain : Plain s i) (row : exec i s = issue s i op)
    (effect : op (issuing s t) = putG (issuing s t) t d r) : Lands i s 3 (setG (issued (thr s t)) d r) := by
  subst thread
  exact lands_one plain row effect (replaces_greg i.thread d r)

/-- Two registers are written. -/
theorem lands_putG_putG {d e : Nat} {r' : Byte} (thread : i.thread = t) (plain : Plain s i) (row : exec i s = issue s i op)
    (effect : op (issuing s t) = putG (putG (issuing s t) t d r) t e r') : Lands i s 3 (setG (setG (issued (thr s t)) d r) e r') := by
  subst thread
  exact lands_two plain row effect (replaces_greg i.thread d r) (replaces_greg i.thread e r')

theorem lands_alu {f : Byte → Byte → Byte} (thread : i.thread = t) (plain : Plain s i) (row : exec i s = issue s i op)
    (effect : op (issuing s t) = alu (issuing s t) t gd ga b f) (value : f (getG (thr s t) ga) (opVal (thr s t) b) = r) :
    Lands i s 3 (setG (issued (thr s t)) gd r) := by
  refine lands_putG thread plain row ?_
  rw [effect, alu, thr_issuing, ← value]
  rfl

/-- A register operation that writes C and V. -/
theorem lands_aluCV {f : Byte → Byte → Byte × Bool × Bool} (thread : i.thread = t) (plain : Plain s i) (row : exec i s = issue s i op)
    (effect : op (issuing s t) = aluCV (issuing s t) t gd ga b f) (value : f (getG (thr s t) ga) (opVal (thr s t) b) = (r, c, v)) :
    Lands i s 3 { setG (issued (thr s t)) gd r with c := c, v := v } := by
  subst thread
  refine lands_two plain row ?_ (replaces_greg i.thread gd r) (replaces_flags i.thread (some c) (some v))
  have same : f (getG (thr (issuing s i.thread) i.thread) ga) (opVal (thr (issuing s i.thread) i.thread) b) = (r, c, v) := by
    rw [thr_issuing]
    exact value
  rw [effect, aluCV, same]
  rfl

/-- A shift or rotate: a count of 0 leaves C. -/
theorem lands_aluShift {f : Byte → Nat → Byte × Bool} {k : Nat} (thread : i.thread = t) (plain : Plain s i) (row : exec i s = issue s i op)
    (effect : op (issuing s t) = aluShift (issuing s t) t gd ga b f) (count : k = (opVal (thr s t) b).toNat % 8)
    (result : (f (getG (thr s t) ga) k).1 = r) (carry : k ≠ 0 → k < 8 → (f (getG (thr s t) ga) k).2 = c) :
    Lands i s 3 { setG (issued (thr s t)) gd r with c := if k = 0 then (thr s t).c else c } := by
  subst thread
  have written : op (issuing s i.thread) = later (later (issuing s i.thread) 2 (.greg i.thread gd r)) 2
      (.flags i.thread (if k = 0 then none else some c) none) := by
    have counted : opCount (thr (issuing s i.thread) i.thread) b = k := by
      rw [thr_issuing, count]
      rfl
    have operand : getG (thr (issuing s i.thread) i.thread) ga = getG (thr s i.thread) ga := by
      rw [thr_issuing]
      rfl
    rw [effect, aluShift]
    simp only [counted, operand, result]
    by_cases zero : k = 0
    · rw [if_pos zero, if_pos zero]
      rfl
    · rw [if_neg zero, if_neg zero, carry zero (by omega)]
      rfl
  have lands := lands_two plain row written (replaces_greg i.thread gd r) (replaces_flags i.thread (if k = 0 then none else some c) none)
  by_cases zero : k = 0
  · simp only [if_pos zero] at lands ⊢
    exact lands
  · simp only [if_neg zero] at lands ⊢
    exact lands

end

end Sys2Proof.Proofs
end

section
/-! # Chapter 06: results of arithmetic, logic and moves (R342) -/
namespace Sys2Proof.Proofs
open Sys2Proof.Machine Sys2Proof.Laws

/-! ## Arithmetic -/

theorem addFlags_carry (x y : Byte) (c : Bool) : addFlags x y c = (x + y + BitVec.ofNat 8 (b01 c),
    decide (256 ≤ x.toNat + y.toNat + b01 c), decide (x.toInt + y.toInt + b01 c < -128 ∨ 127 < x.toInt + y.toInt + b01 c)) := by
  have sum : BitVec.ofNat 8 (x.toNat + y.toNat + b01 c) = x + y + BitVec.ofNat 8 (b01 c) := by
    rw [BitVec.ofNat_add, BitVec.ofNat_add, BitVec.ofNat_toNat, BitVec.ofNat_toNat, BitVec.setWidth_eq, BitVec.setWidth_eq]
  rw [← sum]
  rfl

theorem addFlags_plain (x y : Byte) : addFlags x y false =
    (x + y, decide (256 ≤ x.toNat + y.toNat), decide (x.toInt + y.toInt < -128 ∨ 127 < x.toInt + y.toInt)) := by
  rw [addFlags_carry]
  simp [b01]

theorem subFlags_borrow (x y : Byte) (c : Bool) : subFlags x y c = (x - y - BitVec.ofNat 8 (b01 c),
    decide (x.toNat < y.toNat + b01 c), decide (x.toInt - y.toInt - b01 c < -128 ∨ 127 < x.toInt - y.toInt - b01 c)) := by
  have single : b01 c ≤ 1 := by cases c <;> decide
  have difference : BitVec.ofNat 8 (x.toNat + 512 - y.toNat - b01 c) = x - y - BitVec.ofNat 8 (b01 c) := by
    apply BitVec.eq_of_toNat_eq
    simp only [BitVec.toNat_ofNat, BitVec.toNat_sub]
    omega
  rw [← difference]
  rfl

theorem subFlags_plain (x y : Byte) : subFlags x y false =
    (x - y, decide (x.toNat < y.toNat), decide (x.toInt - y.toInt < -128 ∨ 127 < x.toInt - y.toInt)) := by
  rw [subFlags_borrow]
  simp [b01]

/-! ## The obligation -/

/-- Settles O9: each instruction leaves its register and its flags in the pipeline, and the flags are those of exact arithmetic. -/
theorem arithmeticLogicAndMoveResults : Obligations.ArithmeticLogicAndMoveResults := by
  refine ⟨fun s t gd ga b => ⟨?add, ?adc, ?sub, ?sbc⟩, fun s t gd ga b v => ⟨?mov, ?movi, ?and, ?or, ?xor, ?not⟩⟩
  case add => exact fun plain => lands_aluCV rfl plain rfl rfl (addFlags_plain ..)
  case adc => exact fun plain => lands_aluCV rfl plain rfl rfl (by rw [thr_issuing]; exact addFlags_carry ..)
  case sub => exact fun plain => lands_aluCV rfl plain rfl rfl (subFlags_plain ..)
  case sbc => exact fun plain => lands_aluCV rfl plain rfl rfl (by rw [thr_issuing]; exact subFlags_borrow ..)
  case mov => exact fun plain => lands_putG rfl plain rfl (by rw [thr_issuing]; rfl)
  case movi => exact fun plain => lands_putG rfl plain rfl rfl
  case and | or | xor => exact fun plain => lands_alu rfl plain rfl rfl rfl
  case not => exact fun plain => lands_putG rfl plain rfl (by rw [thr_issuing]; rfl)

end Sys2Proof.Proofs
end

section
/-! # Chapter 06: shifts, rotates, products and comparisons (R342-R347) -/
namespace Sys2Proof.Proofs
open Sys2Proof.Machine Sys2Proof.Laws

/-! ## Shifts and rotates -/

section
variable {k : Nat} (x : Byte) (moved : k ≠ 0) (small : k < 8)
include moved small

theorem rolC_carry : (rolC x k).2 = x.getLsbD (8 - k) := by
  simp [rolC, Nat.mod_eq_of_lt small, Nat.pos_of_ne_zero moved]

theorem rorC_carry : (rorC x k).2 = x.getLsbD (k - 1) := by
  have high : ¬ 7 < 8 - k := by omega
  have bit : 7 - (8 - k) = k - 1 := by omega
  simp [rorC, BitVec.getLsbD_rotateRight, Nat.mod_eq_of_lt small, high, bit, -BitVec.getLsbD_eq_getElem]

end

/-! ## Products -/

/-- The product of MUL as a number. -/
def product (x y : Byte) (sgn : Bool) : Int := if sgn then x.toInt * y.toInt else x.toNat * y.toNat

theorem mulWord_product (x y : Byte) (sgn : Bool) : mulWord x y sgn = BitVec.ofInt 16 (product x y sgn) := by
  cases sgn
  · exact BitVec.eq_of_toNat_eq (by simp [mulWord, product, BitVec.toNat_ofInt]; omega)
  · rfl

theorem low_ofInt (p : Int) : BitVec.ofNat 8 (BitVec.ofInt 16 p).toNat = BitVec.ofInt 8 p := by
  apply BitVec.eq_of_toNat_eq
  simp only [BitVec.toNat_ofNat, BitVec.toNat_ofInt]
  omega

theorem high_ofInt (p : Int) : BitVec.ofNat 8 ((BitVec.ofInt 16 p).toNat / 256) = BitVec.ofInt 8 (p / 256) := by
  apply BitVec.eq_of_toNat_eq
  simp only [BitVec.toNat_ofNat, BitVec.toNat_ofInt]
  omega

/-! ## Comparisons -/

theorem flagByte_slt (x y : Byte) : flagByte (BitVec.slt x y) = if x.toInt < y.toInt then 1 else 0 := by simp [flagByte, BitVec.slt]

theorem flagByte_ult (x y : Byte) : flagByte (BitVec.ult x y) = if x.toNat < y.toNat then 1 else 0 := by simp [flagByte, BitVec.ult]

theorem flagByte_uge (x y : Byte) : flagByte (!(BitVec.ult x y)) = if y.toNat ≤ x.toNat then 1 else 0 := by simp [flagByte, BitVec.ult]

theorem flagByte_eq (x y : Byte) : flagByte (x == y) = if x = y then 1 else 0 := by simp [flagByte]

theorem flagByte_ne (x y : Byte) : flagByte (x != y) = if x = y then 0 else 1 := by simp [flagByte]

/-! ## The obligation -/

/-- Settles O10: the results and the carries are facts about bytes; C stays at a count of 0. -/
theorem shiftsProductsAndComparisons : Obligations.ShiftsProductsAndComparisons := by
  refine ⟨fun s t gd ga b => ⟨?shl, ?shr, ?sar, ?rol, ?ror⟩, fun s t gd ga b sgn => ⟨?mul, ?seq, ?sne, ?slt, ?sltu, ?sgeu⟩⟩
  case shl | shr | sar => exact fun plain => lands_aluShift rfl plain rfl rfl rfl rfl fun _ _ => rfl
  case rol => exact fun plain => lands_aluShift rfl plain rfl rfl rfl rfl (rolC_carry _)
  case ror => exact fun plain => lands_aluShift rfl plain rfl rfl rfl rfl (rorC_carry _)
  case mul =>
    refine fun plain => lands_putG_putG rfl plain rfl ?_
    dsimp only
    rw [thr_issuing, mulWord_product, low_ofInt, high_ofInt]
    rfl
  case seq => exact fun plain => lands_alu rfl plain rfl rfl (flagByte_eq ..)
  case sne => exact fun plain => lands_alu rfl plain rfl rfl (flagByte_ne ..)
  case slt => exact fun plain => lands_alu rfl plain rfl rfl (flagByte_slt ..)
  case sltu => exact fun plain => lands_alu rfl plain rfl rfl (flagByte_ult ..)
  case sgeu => exact fun plain => lands_alu rfl plain rfl rfl (flagByte_uge ..)

end Sys2Proof.Proofs
end

section
/-!
SUPPORT. The events of an access to a bit (R297, R298, R472), and what the bit array does with the access (R300, R349, R528), take no time and
leave the pipeline to the instruction.
-/
namespace Sys2Proof.Proofs
open Sys2Proof.Machine Sys2Proof.Laws

variable {s u v : State}

/-- From `s` to `u` events of CORE have been counted and recorded, and nothing else is done. -/
structure EventsOnly (s u : State) : Prop where
  others : u = { s with io := u.io, icu := u.icu, ctr := u.ctr, xwait := u.xwait }
  pipeline : LeavesPipeline s u

namespace EventsOnly

theorem refl (s : State) : EventsOnly s s := ⟨rfl, .refl s⟩

theorem trans (h : EventsOnly s u) (k : EventsOnly u v) : EventsOnly s v where
  others := k.others.trans (by rw [h.others])
  pipeline := h.pipeline.trans k.pipeline

theorem counted (h : EventsOnly s u) (k : CountsOnly u v) : EventsOnly s v := h.trans ⟨k.others, (LeavesPipeline.refl u).counted k⟩

theorem violate (h : EventsOnly s u) (kind agent addr : Nat) : EventsOnly s (violate u kind agent addr) := by
  have record (x : Quad) : EventsOnly u (wr u .TG_VIOL 0 x) := ⟨rfl, (LeavesPipeline.refl u).wr (by decide) x⟩
  unfold Machine.violate
  dsimp only
  split
  · exact ((h.trans (record _)).counted (countsOnly_occur ..)).counted (countsOnly_latchEdge ..)
  · exact ((h.trans (record _)).counted (countsOnly_occur ..)).counted (countsOnly_latchEdge ..)

theorem bitEvents (h : EventsOnly s u) (t a : Nat) : EventsOnly s (bitEvents u t a) := by
  unfold Machine.bitEvents
  split
  · exact h.violate ..
  · split
    · exact h.counted (countsOnly_occur u 1 1)
    · exact h

theorem thr (h : EventsOnly s u) : u.thr = s.thr := by rw [h.others]

theorem dev (h : EventsOnly s u) : u.dev = s.dev := by rw [h.others]

theorem cycles (h : EventsOnly s u) : u.cycles = s.cycles := by rw [h.others]

theorem sameMemory (h : EventsOnly s u) : SameMemory s u := by rw [h.others]; exact SameMemory.refl s

theorem thread (h : EventsOnly s u) (n : Nat) : Machine.thr u n = Machine.thr s n := by rw [Machine.thr, h.thr, Machine.thr]

theorem calm (h : EventsOnly s u) {t : Nat} (calm : Calm s t) : Calm u t := by
  obtain ⟨running, unhalted, free, covered⟩ := calm
  rw [← h.thread] at running unhalted free
  rw [← h.dev] at covered
  exact ⟨running, unhalted, free, covered⟩

end EventsOnly

/-! ## The bit array -/

theorem countsOnly_dropMeasures (s : State) (src : Nat) : CountsOnly s (dropMeasures s src) := by
  refine CountsOnly.foldl (fun s n => ?_) _ s
  split
  · exact (countsOnly_setCtr s n _).trans (countsOnly_wb_stat _ n 2 false)
  · exact .refl s

theorem countsOnly_discardEdge (s : State) (src : Nat) : CountsOnly s (discardEdge s src) := by
  have cleared : CountsOnly s { s with icu := { s.icu with pend := mset (fun _ => false) s.icu.pend src false } } := ⟨rfl, fun _ _ _ => rfl⟩
  unfold discardEdge
  split
  · exact (cleared.trans (countsOnly_dropMeasures _ src)).trans (countsOnly_send ..)
  · exact .refl s

/-- From `s` to `u` no cycle passes and the device's modes stay. -/
abbrev SameModes (s u : State) : Prop := u.cycles = s.cycles ∧ u.dev = s.dev

theorem CountsOnly.sameModes (h : CountsOnly s u) : SameModes s u := ⟨by rw [h.others], h.dev⟩

theorem bitSet_sameModes (s : State) (t a : Nat) (w x : Bool) : SameModes s (bitSet s t a w x) := by
  unfold bitSet
  dsimp only
  split
  · split <;> exact ⟨rfl, rfl⟩
  · split
    · exact ⟨rfl, rfl⟩
    · split
      · split
        · exact ⟨rfl, rfl⟩
        · split
          · exact (countsOnly_latchEdge ..).sameModes
          · exact (countsOnly_discardEdge ..).sameModes
      · exact ⟨rfl, rfl⟩

theorem bitLand_sameModes (s : State) (issue t a : Nat) (w f0 f1 : Bool) (g : Option Nat) : SameModes s (bitLand s issue t a w f0 f1 g) := by
  have set := bitSet_sameModes s t a w (if bitIn s t a w then f1 else f0)
  cases g <;> exact set

end Sys2Proof.Proofs
end

section
/-! # Chapter 06: bit instructions (R348-R351, R393, R396) -/
namespace Sys2Proof.Proofs
open Sys2Proof.Machine Sys2Proof.Laws

variable {s u e : State} {i : Instr} {op : State → State} {t : Fin 8} {c a : Nat} {f : Bool → Bool} {f0 f1 : Bool} {g : Option Nat} {bit : BitVec 12}

/-! ## The destination's access -/

/-- The access of an instruction issued in cycle `c` lands at the end of the third cycle. -/
theorem cyclesPass_bit (quiet : Quiet e) (w : Bool) : cyclesPass 3 (inCycle e c [⟨c, c + 2, .bit t a w f0 f1 g⟩]) =
    { bitLand { e with cycles := c + 2 } c t a w f0 f1 g with cycles := c + 3 } := by
  have landed : landEntry (inCycle e (c + 2) []) ⟨c, c + 2, .bit t a w f0 f1 g⟩ = bitLand { e with cycles := c + 2 } c t a w f0 f1 g := by
    rw [inCycle_quiet quiet]
    rfl
  obtain ⟨cycles, dev⟩ := bitLand_sameModes { e with cycles := c + 2 } c t a w f0 f1 g
  rw [cyclesPass_three quiet (by simp), List.foldl_cons, List.foldl_nil, landed]
  dsimp only
  rw [cycles]
  exact slotDue_free ((congrArg Dev.slotPend dev).trans quiet.2.1)

/-- A value lands in a register at the end of the third cycle. -/
theorem cyclesPass_greg (quiet : Quiet e) (r : Nat) (b : Byte) : cyclesPass 3 (inCycle e c [⟨c, c + 2, .greg t r b⟩]) =
    { setThr e t (setG (thr e t) r b) with cycles := c + 3 } := by
  have still : Quiet (setThr e t (setG (thr e t) r b)) := quiet
  rw [cyclesPass_three quiet (by simp), ← inCycle_quiet (c := c + 3) still]
  exact slotDue_free quiet.2.1

/-- The state once the access to bit `a` that issued in cycle `c` of state `s` has landed. -/
def bitDone (s : State) (c : Nat) (t : Fin 8) (a : Nat) (w f0 f1 : Bool) (g : Option Nat) : State :=
  let e := bitEvents s t a
  if bitRefusal s w a = none then { bitLand { e with cycles := c + 2 } c t a w f0 f1 g with cycles := c + 3 }
  else match g with
    | some r => { setThr e t (setG (thr e t) r 0) with cycles := c + 3 }
    | none => { e with cycles := c + 3 }

/-- The access has its events in its slot, and what it leaves in the pipeline lands together. -/
theorem bitAccess_entries (quiet : Quiet u) (here : u.cycles = c) : ∃ es : List PipeEntry,
    bitAccess u t a f g = inCycle (bitEvents u t a) c es ∧ (∀ x ∈ es, x.land = c + 2) ∧
    cyclesPass 3 (inCycle (bitEvents u t a) c es) = bitDone u c t a (thr u t).world (f false) (f true) g := by
  have events := (EventsOnly.refl u).bitEvents t a
  have still := events.pipeline.quiet quiet
  have now : (bitEvents u t a).cycles = c := events.cycles.trans here
  subst now
  unfold bitAccess bitDone
  cases refusal : bitRefusal u (thr u t).world a with
  | none => exact ⟨_, later_empty still 2 _, by simp, by rw [if_pos rfl]; exact cyclesPass_bit still _⟩
  | some kind =>
    have refused : ¬ (some kind = none) := by simp
    cases g with
    | none => exact ⟨[], (inCycle_quiet still).symm, by simp, by rw [if_neg refused, inCycle_quiet still]; exact cyclesPass_quiet still 3⟩
    | some r => exact ⟨_, later_empty still 2 _, by simp, by rw [if_neg refused]; exact cyclesPass_greg still r 0⟩

/-- What a bit instruction does beside its source's access, which left the state `u`. -/
def Puts (i : Instr) (s u : State) (t : Fin 8) (a : Nat) (f0 f1 : Bool) (g : Option Nat) : Prop := Does i s fun v =>
  v.thr = (issuing s t).thr ∧ (cyclesPass 2 v).thr = (issuing s t).thr ∧ (cyclesPass 2 v).bits = s.bits ∧
  cyclesPass 3 v = bitDone u (issuing s t).cycles t a (thr s t).world f0 f1 g

theorem puts_of {i : Instr} {s u : State} (thread : i.thread = t) (plain : Plain s i) (row : exec i s = issue s i op)
    (source : EventsOnly (issuing s t) u) (effect : op (issuing s t) = bitAccess u t a f g) (zero : f false = f0) (one : f true = f1) :
    Puts i s u t a f0 f1 g := by
  subst thread zero one
  have world : (thr u i.thread).world = (thr s i.thread).world := by rw [source.thread, thr_issuing]; rfl
  obtain ⟨es, entries, third, done⟩ := bitAccess_entries (f := f) (g := g) (a := a) (t := i.thread) (source.pipeline.quiet (quiet_issuing plain.1 _))
    source.cycles
  have events := source.bitEvents i.thread a
  have quiet := events.pipeline.quiet (quiet_issuing plain.1 _)
  obtain ⟨-, bits, -⟩ := events.sameMemory
  rw [entries] at effect
  unfold Puts
  refine Does.intro (row.trans (issue_plain plain ?_)) ?_
  · rw [effect]
    exact (events.calm (calm_issuing plain)).inCycle _ _
  · rw [effect, ← world]
    have two := cyclesPass_two quiet third (Nat.le_refl 2)
    exact ⟨events.thr, (congrArg State.thr two).trans events.thr, (congrArg State.bits two).trans bits, done⟩

/-! ## A bit loaded into a register -/

theorem ldb_lands {r : Fin 16} (plain : Plain s (.ldb t r bit)) : let s1 := issuing s t
    let s2 := bitEvents s1 t bit.toNat
    Does (.ldb t r bit) s fun u => u.thr = s1.thr ∧ (cyclesPass 2 u).thr = s1.thr ∧
      cyclesPass 3 u = { setThr s2 t (setG (thr s2 t) r (if bitSeen s1 t bit.toNat then 1 else 0)) with cycles := s1.cycles + 3 } := by
  intro s1 s2
  have events : EventsOnly s1 s2 := (EventsOnly.refl s1).bitEvents t bit.toNat
  have quiet : Quiet s2 := events.pipeline.quiet (quiet_issuing plain.1 _)
  let es : List PipeEntry := [⟨s1.cycles, s1.cycles + 2, .greg t r (flagByte (bitSeen s1 t bit.toNat))⟩]
  have effect : putG s2 t r (flagByte (bitSeen s1 t bit.toNat)) = inCycle s2 s1.cycles es := by
    rw [putG, later_empty quiet, events.cycles]
  have calm : Calm (putG s2 t r (flagByte (bitSeen s1 t bit.toNat))) t := by
    rw [effect]
    exact (events.calm (calm_issuing plain)).inCycle _ _
  have answer := issue_plain plain (op := fun s => putG (bitEvents s t bit.toNat) t r (flagByte (bitSeen s t bit.toNat))) calm
  refine Does.intro (answer.trans (congrArg _ effect)) ⟨events.thr, ?_, cyclesPass_greg quiet r _⟩
  exact (congrArg State.thr (cyclesPass_two (es := es) quiet (by simp [es]) (Nat.le_refl 2))).trans events.thr

/-! ## The obligation -/

/-- Settles O11: the source's access has events only, and the destination's lands as the bit array's. -/
theorem bitInstructionEffects : Obligations.BitInstructionEffects := by
  intro s t r bd bs neg s1 c w s2 x puts
  have puts_iff (i : Instr) (u : State) (f0 f1 : Bool) (g : Option Nat) : Puts i s u t bd.toNat f0 f1 g = puts i u f0 f1 g := rfl
  have source : EventsOnly s1 s2 := (EventsOnly.refl s1).bitEvents t bs.toNat
  clear_value puts
  simp only [← puts_iff]
  refine ⟨fun plain => ?_, fun plain => ?_, fun plain => ?_, fun plain => ?_, fun plain => ?_, fun plain => ?_, fun plain => ?_, ldb_lands,
    fun plain => ?_, fun plain => ?_⟩
  · exact puts_of (f := fun _ => true) rfl plain rfl (.refl s1) rfl rfl rfl
  · exact puts_of (f := fun _ => false) rfl plain rfl (.refl s1) rfl rfl rfl
  · exact puts_of (f := fun old => !old) rfl plain rfl (.refl s1) rfl rfl rfl
  · exact puts_of (f := fun _ => x) rfl plain rfl source rfl rfl rfl
  · exact puts_of (f := fun old => old && x) rfl plain rfl source rfl (Bool.false_and x) (Bool.true_and x)
  · exact puts_of (f := fun old => old || x) rfl plain rfl source rfl (Bool.false_or x) (Bool.true_or x)
  · exact puts_of (f := fun old => old != x) rfl plain rfl source rfl (Bool.false_bne x) (Bool.true_bne x)
  · have stored : (getG (thr s1 t) r != 0) = (getG (thr s t) r != 0) := by rw [thr_issuing]; rfl
    exact puts_of (f := fun _ => getG (thr s1 t) r != 0) rfl plain rfl (.refl s1) rfl stored stored
  · exact puts_of (f := fun _ => true) rfl plain rfl (.refl s1) rfl rfl rfl

end Sys2Proof.Proofs
end

section
/-! # Chapter 06: control transfers (R363, R364, R367) -/
namespace Sys2Proof.Proofs
open Sys2Proof.Machine Sys2Proof.Laws

variable {s u : State} {i : Instr} {op : State → State}

/-! ## Instructions that stand in no delay slot (R365) -/

theorem noTarget_of_plain (plain : Plain s i) (forbidden : notInSlot i = true) : (thr s i.thread).target = none := by
  obtain ⟨-, -, -, -, slot, -⟩ := plain
  exact slot.resolve_right (by simp [forbidden])

/-- No stop, halt or step of thread `t` waits for the end of an issue. -/
structure Unheld (s : State) (t : Nat) : Prop where
  running : (thr s t).stopHeld = false
  unhalted : (thr s t).haltPend = none
  free : (thr s t).stepping = false

/-- Outside a delay slot no release of the overlay takes effect (R168). -/
theorem issueEnd_unheld {t : Nat} (unheld : Unheld s t) : issueEnd s t false = s := by
  obtain ⟨running, unhalted, free⟩ := unheld
  simp [issueEnd, overlayOff, settleStop, stepEnd, settleHalt, running, unhalted, free]

theorem issue_first (plain : Plain s i) (first : (thr s i.thread).target = none) (unheld : Unheld (op (issuing s i.thread)) i.thread) :
    issue s i op = .next (op (issuing s i.thread)) := by
  obtain ⟨quiet, may, fetch, legal, slot, limit, -⟩ := plain
  have issues := issueNow_plain (fe := { s with cycles := (atSlot s i.thread).cycles - 1 }) (s := atSlot s i.thread) fetch legal slot limit op
  rw [issue_slot (issueSlot_quiet quiet may) op, issues]
  have outside : (thr (atSlot s i.thread) i.thread).target.isSome = false := congrArg Option.isSome first
  rw [outside]
  exact congrArg _ (issueEnd_unheld unheld)

/-! ## The transfer -/

/-- The thread once a transfer has issued: its delay slot is next, then the target or the word behind the slot (R364). -/
def bound (th : Thread) (yes : Bool) (tgt : Word) : Thread := { issued th with target := some (if yes then tgt else th.pc + 2) }

/-- A transfer binds its thread, and may let the overlay go (R168). -/
theorem transfer_issued {t : Nat} {w : Thread} (mine : thr u t = issued w) (yes : Bool) (tgt : Word) : ∃ d : Dev,
    d.slotPend = u.dev.slotPend ∧ transfer u t yes tgt = setThr (setDev u d) t (bound w yes tgt) := by
  rw [transfer, Machine.here, mine]
  split
  · exact ⟨{ u.dev with romoffGo := true }, rfl, rfl⟩
  · exact ⟨u.dev, rfl, rfl⟩

/-- What a transfer does in its slot. -/
def Goes (s : State) (t : Fin 8) (yes : Bool) (tgt : Word) (u : State) : Prop :=
  (thr u t).pc = (thr s t).pc + 1 ∧ (thr u t).target = some (if yes then tgt else (thr s t).pc + 2) ∧ (thr u t).g = (thr s t).g ∧
  (thr u t).p = (thr s t).p ∧ (thr u t).c = (thr s t).c ∧ (thr u t).v = (thr s t).v ∧ (∀ k, k ≠ t.val → thr u k = thr s k) ∧ SameMemory s u

/-- What of a transfer comes later: the link at the end of cycle 3, where it links (R367). -/
def Links (s : State) (t : Fin 8) (link : Bool) (u : State) : Prop :=
  (∀ j, j < 4 → (cyclesPass j u).thr = u.thr) ∧ cyclesPass 4 u =
    { (if link then setThr u t (setP (thr u t) 4 ((thr s t).pc + 2)) else u) with cycles := u.cycles + 4, pipe := s.pipe }

/-- What a transfer that links leaves in the pipeline. -/
def linkEntries (c : Nat) (t : Fin 8) (th : Thread) (link : Bool) : List PipeEntry :=
  if link then [⟨c, c + 3, .preg t 4 (th.pc + 2)⟩] else []

variable {t : Fin 8} {link yes : Bool} {tgt : Word}

theorem goes_bound (first : (thr s t).target = none) (events : EventsOnly (issuing s t) u) (d : Dev) (c : Nat) (es : List PipeEntry) :
    Goes s t yes tgt (inCycle (setThr (setDev u d) t (bound (thr s t) yes tgt)) c es) := by
  have mine : thr (inCycle (setThr (setDev u d) t (bound (thr s t) yes tgt)) c es) t = bound (thr s t) yes tgt := thr_setThr_same ..
  have next : (issued (thr s t)).pc = (thr s t).pc + 1 := by rw [issued, first]; rfl
  rw [Goes, mine]
  refine ⟨next, rfl, rfl, rfl, rfl, rfl, fun k other => ?_, events.sameMemory⟩
  have stays : thr (issuing s t) k = thr s k := thr_setThr_ne _ _ _ _ other
  rw [← stays, ← events.thread]
  exact thr_setThr_ne _ _ _ _ other

theorem links_bound (quiet : Quiet s) (still : Quiet u) (w : Thread) (c : Nat) :
    Links s t link (inCycle (setThr u t w) c (linkEntries c t (thr s t) link)) := by
  have waits : ∀ e ∈ linkEntries c t (thr s t) link, c + 3 ≤ e.land := fun e he => by
    cases link
    · cases he
    · rw [List.mem_singleton.1 he]
  refine ⟨fun j early => ?_, ?_⟩
  · exact (congrArg State.thr (cyclesPass_early (u := setThr u t w) (k := j) still waits (by omega)) :)
  · cases link with
    | false =>
      have passed := cyclesPass_quiet (s := inCycle (setThr u t w) c []) ⟨rfl, still.2⟩ 4
      rw [quiet.1]
      exact passed
    | true =>
      have moved := cyclesPass_moved (u := u) (t := t) (th := thr s t) (w := w) (m := .abs 0) (c := c)
        (due := [⟨c, c + 3, .preg t 4 ((thr s t).pc + 2)⟩]) (rest := []) still (by simp) (by simp)
      rw [List.append_nil, List.foldl_cons, List.foldl_nil, replaces_preg] at moved
      rw [quiet.1]
      have mine : thr (inCycle (setThr u t w) c (linkEntries c t (thr s t) true)) t = w := thr_setThr_same ..
      rw [mine, if_pos rfl]
      let linked := inCycle (setThr u t (setP w 4 ((thr s t).pc + 2))) (c + 4) []
      exact moved.trans ((slotDue_free (s := linked) still.2.1).trans
        (congrArg (fun v => inCycle v (c + 4) []) (setThr_setThr u t w (setP w 4 ((thr s t).pc + 2)))).symm)

/-! ## The transfers in their slot -/

/-- A transfer on its condition, with or without a link, after the events of a source bit. -/
theorem does_transfer (thread : i.thread = t) (plain : Plain s i) (forbidden : notInSlot i = true) (row : exec i s = issue s i op)
    (events : EventsOnly (issuing s t) u)
    (effect : op (issuing s t) = transfer (inCycle u u.cycles (linkEntries u.cycles t (thr s t) link)) t yes tgt) :
    Does i s fun v => Goes s t yes tgt v ∧ Links s t link v ∧ v.io = u.io := by
  subst thread
  have first := noTarget_of_plain plain forbidden
  have quiet : Quiet u := events.pipeline.quiet (quiet_issuing plain.1 _)
  have mine : thr (inCycle u u.cycles (linkEntries u.cycles i.thread (thr s i.thread) link)) i.thread = issued (thr s i.thread) :=
    (events.thread i.thread).trans (thr_issuing s i.thread)
  obtain ⟨d, slotPend, bound⟩ := transfer_issued mine yes tgt
  rw [bound] at effect
  have still : Quiet (setDev u d) := ⟨quiet.1, slotPend.trans quiet.2.1, quiet.2.2⟩
  have unheld : Unheld (op (issuing s i.thread)) i.thread := by
    obtain ⟨running, unhalted, free, -⟩ := calm_issuing plain
    rw [thr_issuing] at running unhalted free
    have mine : thr (op (issuing s i.thread)) i.thread = Proofs.bound (thr s i.thread) yes tgt := by
      rw [effect]
      exact thr_setThr_same ..
    exact ⟨by rw [mine]; exact running, by rw [mine]; exact unhalted, by rw [mine]; exact free⟩
  refine Does.intro (row.trans (issue_first plain first unheld)) ?_
  rw [effect]
  exact ⟨goes_bound first events d _ _, links_bound plain.1 still _ _, rfl⟩

/-- A transfer without a link. -/
theorem does_unlinked (thread : i.thread = t) (plain : Plain s i) (forbidden : notInSlot i = true) (row : exec i s = issue s i op)
    (events : EventsOnly (issuing s t) u) (effect : op (issuing s t) = transfer u t yes tgt) :
    Does i s fun v => Goes s t yes tgt v ∧ Links s t false v ∧ v.io = u.io := by
  have quiet : Quiet u := events.pipeline.quiet (quiet_issuing plain.1 _)
  exact does_transfer thread plain forbidden row events (effect.trans (congrArg (transfer · t yes tgt) (inCycle_quiet quiet).symm))

/-- A transfer that looks at no bit. -/
theorem does_bitless (thread : i.thread = t) (plain : Plain s i) (forbidden : notInSlot i = true) (row : exec i s = issue s i op)
    (effect : op (issuing s t) = transfer (if link then linkTo (issuing s t) t else issuing s t) t yes tgt) :
    Does i s fun v => Goes s t yes tgt v ∧ Links s t link v ∧ v.io = s.io := by
  cases link with
  | false => exact does_unlinked (u := issuing s t) thread plain forbidden row (.refl _) effect
  | true =>
    have linked : linkTo (issuing s t) t = inCycle (issuing s t) (issuing s t).cycles (linkEntries (issuing s t).cycles t (thr s t) true) := by
      rw [linkTo, putP, later_empty (quiet_issuing plain.1 _), Machine.here, thr_issuing]
      rfl
    exact does_transfer (u := issuing s t) thread plain forbidden row (.refl _) (effect.trans (congrArg (transfer · t yes tgt) linked))

/-! ## Transfers on a bit -/

/-- Whether a bit is assigned does not depend on the state. -/
theorem unitFlag_isNone (s u : State) (a : Nat) : (unitFlag s a).isNone = (unitFlag u a).isNone := by
  unfold unitFlag
  split
  all_goals rfl

/-- Which accesses to bits are refused is a matter of registers. -/
theorem bitRefusal_io (same : u.io = s.io) (w : Bool) (a : Nat) : bitRefusal u w a = bitRefusal s w a := by
  have bits (r : Rg) (i b : Nat) : rb u r i b = rb s r i b := by rw [rb, rd_io _ _ _ _ same, rb]
  have pin (n : Nat) : pinWorld u n = pinWorld s n := bits ..
  have source (n : Nat) : sourceWorld u n = sourceWorld s n := by
    unfold sourceWorld blockWorld
    simp only [bits]
  simp only [bitRefusal, pin, source]

theorem bitEvents_clean {t : Nat} {a : Nat} (permitted : bitRefusal s (thr s t).world a = none) (assigned : bitHole s a = false) :
    bitEvents (issuing s t) t a = issuing s t := by
  have allowed : bitRefusal (issuing s t) (thr (issuing s t) t).world a = none := by
    rw [thr_issuing, bitRefusal_io (s := s) (u := issuing s t) rfl]
    exact permitted
  have flag : bitHole (issuing s t) a = false := by rw [bitHole, unitFlag_isNone _ s, ← bitHole, assigned]
  simp only [bitEvents, allowed, flag, Bool.false_eq_true, if_false]

/-! ## The obligation -/

/-- Settles O15: a transfer binds its thread in its slot, and its link is a pointer's write of the third cycle. -/
theorem transferTargets : Obligations.TransferTargets := by
  intro s t ga bit off tgt o x link th a bv clean goes links brxTo
  have events : EventsOnly (issuing s t) (bitEvents (issuing s t) t bit.toNat) := (EventsOnly.refl _).bitEvents t _
  have unheard (isClean : clean) : (bitEvents (issuing s t) t bit.toNat).io = s.io := by
    obtain ⟨permitted, assigned⟩ := isClean
    rw [bitEvents_clean permitted assigned]
    rfl
  have onBit {i : Instr} {yes : Bool} {w : Word} (does : Does i s fun v =>
      Goes s t yes w v ∧ Links s t false v ∧ v.io = (bitEvents (issuing s t) t bit.toNat).io) :
      Does i s fun v => goes yes w v ∧ links false v ∧ (clean → v.io = s.io) :=
    Does.mono does fun v ⟨bound, linked, io⟩ => ⟨bound, linked, fun isClean => io.trans (unheard isClean)⟩
  have here : Machine.here (bitEvents (issuing s t) t bit.toNat) t = a := by rw [Machine.here, events.thread, thr_issuing]; rfl
  refine ⟨fun plain => ?bz, fun plain => ?bnz, fun plain => ?jb, fun plain => ?jnb, fun plain => ?jmp, fun plain => ?call, fun plain => ?ret,
    fun plain => ?brx⟩
  case bz => exact does_bitless (link := false) rfl plain rfl rfl (by rw [Machine.here, thr_issuing]; rfl)
  case bnz => exact does_bitless (link := false) rfl plain rfl rfl (by rw [Machine.here, thr_issuing]; rfl)
  case jb => exact onBit (does_unlinked rfl plain rfl rfl events (by rw [← here]; rfl))
  case jnb => exact onBit (does_unlinked rfl plain rfl rfl events (by rw [← here]; rfl))
  case jmp => exact does_bitless (link := false) rfl plain rfl rfl rfl
  case call => exact does_bitless (link := true) rfl plain rfl rfl rfl
  case ret => exact does_bitless (link := false) rfl plain rfl rfl (by rw [thr_issuing]; rfl)
  case brx =>
    have target : brxTo = (match x with | .index ga base => base + (getG th ga).zeroExtend 16 | .pointer ps => getP th ps : Word) := by
      cases x with
      | index gx base => exact congrArg (base + ·) (BitVec.ofNat_toNat 16 _)
      | pointer ps => rfl
    refine does_bitless rfl plain rfl rfl ?_
    rw [target, thr_issuing]
    cases x <;> rfl

end Sys2Proof.Proofs
end

section
/-!
SUPPORT. Deliveries committed by the interrupt controller (R536-R539), as the thread of a WAIT meets them (R559).
-/
namespace Sys2Proof.Proofs
open Sys2Proof.Machine Sys2Proof.Laws

variable {s u v : State}

/-- From `s` to `u` deliveries have been committed to threads that held none; of the threads nothing else differs. -/
def CommitsOnly (s u : State) : Prop := ∀ n, thr u n = { thr s n with delivery := (thr u n).delivery } ∧
  ((thr s n).delivery.isSome = true → thr u n = thr s n)

/-- A thread that is receptive holds no delivery (R534). -/
theorem receptive_free {t src : Nat} (may : receptive s t src = true) : (thr s t).delivery = none := by
  simp only [receptive, wouldReceive, Bool.and_eq_true, Option.isNone_iff_eq_none] at may
  obtain ⟨-, ⟨⟨⟨⟨⟨-, free⟩, -⟩, -⟩, -⟩, -⟩, -⟩ := may
  exact free

theorem pickTarget_free {x : Quad} {t src : Nat} (picked : pickTarget s x src = some t) : (thr s t).delivery = none := by
  have may := List.find?_some picked
  rw [Bool.and_eq_true] at may
  exact receptive_free may.2

namespace CommitsOnly

theorem of_thr (same : u.thr = s.thr) : CommitsOnly s u := fun n => by
  have thread : thr u n = thr s n := by rw [thr, same, thr]
  exact ⟨by rw [thread], fun _ => thread⟩

theorem refl (s : State) : CommitsOnly s s := of_thr rfl

theorem trans (h : CommitsOnly s u) (k : CommitsOnly u v) : CommitsOnly s v := fun n => by
  obtain ⟨own, held⟩ := h n
  obtain ⟨own', held'⟩ := k n
  refine ⟨?_, fun some => ?_⟩
  · rw [own', own]
  · have same := held some
    rw [held' (by rw [same]; exact some), same]

/-- A delivery is committed to a thread that holds none. -/
theorem delivered {t : Nat} (free : (thr s t).delivery = none) (src : Nat) :
    CommitsOnly s (setThr s t { thr s t with delivery := some src }) := fun n => by
  by_cases same : n = t
  · subst same
    rw [thr_setThr_same]
    exact ⟨rfl, fun held => by simp [free] at held⟩
  · rw [thr_setThr_ne _ _ _ _ same]
    exact ⟨rfl, fun _ => rfl⟩

theorem commitSource (h : CommitsOnly s u) (x : Quad) (src : Nat) : CommitsOnly s (commitSource u x src) := by
  unfold Machine.commitSource
  split
  · split
    · exact h
    next t picked => exact h.trans (delivered (pickTarget_free picked) src)
  · exact h

theorem icuCommitBy (view s : State) : CommitsOnly s (icuCommitBy view s) := by
  have sources (l : List Nat) (u : State) (h : CommitsOnly s u) :
      CommitsOnly s (l.foldl (fun s src => Machine.commitSource s (rd view .ICU_SRC src) src) u) := by
    induction l generalizing u with
    | nil => exact h
    | cons src l ih => exact ih _ (h.commitSource _ src)
  have committed := sources (sourceOrder view) s (.refl s)
  unfold Machine.icuCommitBy dozeExit leaveDoze
  dsimp only
  split
  · split
    · exact committed.trans (.of_thr rfl)
    · exact committed
  · exact committed

end CommitsOnly

/-- Before anything of the pipeline lands the ICU sees the registers as they are (R535). -/
theorem icuView_empty (empty : s.pipe = []) : icuView s = s := by rw [icuView, empty]; rfl

end Sys2Proof.Proofs
end

section
/-! # Chapter 06: system instructions (R368-R371, R387, R438, R441, R559) -/
namespace Sys2Proof.Proofs
open Sys2Proof.Machine Sys2Proof.Laws

variable {s u : State} {i : Instr} {op : State → State}

/-! ## The slot of a thread whose delivery is committed -/

/-- The first of a thread's slots to come. -/
theorem slotWait_first {t : Nat} (owns : ownsSlot s t = true) : ∃ k, k < 8 ∧ slotWait s t = k + 1 ∧
    slotThread (rd s .PMU_SLOTMAP 0) ((s.cycles + k + 1) % 8) = t ∧
    ∀ j, j < k → slotThread (rd s .PMU_SLOTMAP 0) ((s.cycles + j + 1) % 8) ≠ t := by
  simp only [ownsSlot, inMap, List.any_eq_true, List.mem_range, beq_iff_eq] at owns
  obtain ⟨n, low, owner⟩ := owns
  have comes : (s.cycles + (n + 7 - s.cycles % 8) % 8 + 1) % 8 = n := by omega
  cases first : (List.range 8).find? (fun k => slotThread (rd s .PMU_SLOTMAP 0) ((s.cycles + k + 1) % 8) == t) with
  | none =>
    have never := List.find?_range_eq_none.1 first ((n + 7 - s.cycles % 8) % 8) (by omega)
    rw [comes, owner] at never
    simp at never
  | some k =>
    have wait : slotWait s t = k + 1 := by rw [slotWait, first]; rfl
    rw [List.find?_range_eq_some] at first
    obtain ⟨here, low, before⟩ := first
    exact ⟨k, List.mem_range.1 low, wait, by simpa using here, fun j hj => by simpa using before j hj⟩

/-- A thread that issues does so in its next slot, whether a delivery is committed or not. -/
theorem nextSlot_issues {t : Nat} (quiet : Quiet s) (may : issues s t = true) :
    nextSlot issues t slotHorizon s = some ({ s with cycles := (atSlot s t).cycles - 1 }, atSlot s t) := by
  have owns : ownsSlot s t = true := by
    simp only [issues, Bool.and_eq_true] at may
    obtain ⟨⟨⟨⟨-, owns⟩, -⟩, -⟩, -⟩ := may
    exact owns
  obtain ⟨k, low, wait, here, before⟩ := slotWait_first owns
  have slot : atSlot s t = { s with cycles := s.cycles + k + 1 } := by rw [atSlot, wait, Nat.add_assoc]
  rw [slot]
  exact nextSlot_at quiet (Nat.lt_trans low (by decide)) before here may

/-- WAIT in its slot (R368, R559). -/
theorem exec_wait {t : Fin 8} (quiet : Quiet s) (may : issues s t = true) (fetch : fetchRefused s s t = false)
    (first : (thr s t).target = none) (unheld : Unheld (waitOp (issuing s t) t) t) :
    exec (.wait t) s = .next (waitOp (issuing s t) t) := by
  have issued := issueNow_plain (i := .wait t) (fe := { s with cycles := (atSlot s t).cycles - 1 }) (s := atSlot s t) fetch rfl (.inl first) rfl
    fun s => waitOp s t
  have outside : (thr (atSlot s t) (Instr.wait t).thread).target.isSome = false := congrArg Option.isSome first
  show Host.Outcome.next (match nextSlot issues t slotHorizon s with
    | some (fe, s1) => issueNow fe s1 (.wait t) fun s => waitOp s t
    | none => s) = _
  rw [nextSlot_issues quiet may]
  dsimp only
  rw [issued, outside]
  exact congrArg _ (issueEnd_unheld unheld)

/-! ## WAIT -/

/-- A thread that has parked. -/
def parkedFor (p : Park) (th : Thread) : Thread := { th with st := .parked, park := p }

/-- A WAIT of a thread whose IE is clear parks and sets IE as a bit is written. -/
theorem waitOp_clear {t : Fin 8} (quiet : Quiet s) (clear : (thr s t).ie = false) (free : (thr s t).delivery = none) :
    waitOp (issuing s t) t = inCycle (setThr (atSlot s t) t (parkedFor .wait (issued (thr s t)))) (issuing s t).cycles
      [⟨(issuing s t).cycles, (issuing s t).cycles + 2, .setIe t false⟩] := by
  have ie : (thr (issuing s t) t).ie = false := by rw [thr_issuing]; exact clear
  have mine : thr (inCycle (issuing s t) (issuing s t).cycles [⟨(issuing s t).cycles, (issuing s t).cycles + 2, .setIe t false⟩]) t =
      issued (thr s t) := thr_issuing s t
  have held : ¬ ((issued (thr s t)).delivery.isSome = true) := by simp [issued, free]
  rw [waitOp, ie, if_neg Bool.false_ne_true, later_empty (quiet_issuing quiet t)]
  rw [mine, if_neg held, park, mine]
  exact congrArg (fun v : State => inCycle v (issuing s t).cycles [⟨(issuing s t).cycles, (issuing s t).cycles + 2, .setIe t false⟩])
    (setThr_setThr (atSlot s t) t _ _)

/-- A WAIT of a thread whose IE is set lets the deliveries of its cycle commit first. -/
theorem waitOp_set {t : Fin 8} (quiet : Quiet s) (set : (thr s t).ie = true) : let com := icuCommitBy (issuing s t) (issuing s t)
    waitOp (issuing s t) t = { (if (thr com t).delivery.isSome then com else setThr com t (parkedFor .wait (thr com t))) with
      pipe := (waitOp (issuing s t) t).pipe } := by
  intro com
  have ie : (thr (issuing s t) t).ie = true := by rw [thr_issuing]; exact set
  have result : waitOp (issuing s t) t = if (thr com t).delivery.isSome then later com 2 (.setIe t false) else
      park (later com 2 (.setIe t false)) t .wait := by
    rw [waitOp, ie, if_pos rfl, icuCommit, icuView_empty (quiet_issuing quiet t).1]
    rfl
  rw [result]
  split <;> rfl

/-- A WAIT before it parks: the deliveries of its cycle are committed where IE is set, and IE is to be set. -/
def waitIssued (u : State) (t : Nat) : State := later (if (thr u t).ie then icuCommit u else u) 2 (.setIe t false)

theorem waitOp_issued (u : State) (t : Nat) : waitOp u t =
    if (thr (waitIssued u t) t).delivery.isSome then waitIssued u t else park (waitIssued u t) t .wait := rfl

theorem waitIssued_committed (u : State) (t : Nat) : CommitsOnly u (waitIssued u t) := by
  have committed : CommitsOnly u (if (thr u t).ie then icuCommit u else u) := by
    split
    · exact .icuCommitBy _ u
    · exact .refl u
  exact committed.trans (.of_thr rfl)

theorem EventsOnly.unheld {t : Nat} (h : EventsOnly s u) (unheld : Unheld s t) : Unheld u t := by
  obtain ⟨running, unhalted, free⟩ := unheld
  exact ⟨by rw [h.thread]; exact running, by rw [h.thread]; exact unhalted, by rw [h.thread]; exact free⟩

theorem Unheld.park {t : Nat} (unheld : Unheld u t) (p : Park) : Unheld (park u t p) t := by
  obtain ⟨running, unhalted, free⟩ := unheld
  unfold Machine.park
  exact ⟨by rw [thr_setThr_same]; exact running, by rw [thr_setThr_same]; exact unhalted, by rw [thr_setThr_same]; exact free⟩

theorem waitOp_unheld {t : Nat} (unheld : Unheld u t) : Unheld (waitOp u t) t := by
  obtain ⟨running, unhalted, free⟩ := unheld
  obtain ⟨own, -⟩ := waitIssued_committed u t t
  have kept : Unheld (waitIssued u t) t := ⟨by rw [own]; exact running, by rw [own]; exact unhalted, by rw [own]; exact free⟩
  rw [waitOp_issued]
  split
  · exact kept
  · exact kept.park .wait

/-- With a delivery committed the thread does not park. -/
theorem waitOp_delivery {t : Nat} (held : (thr u t).delivery.isSome = true) : thr (waitOp u t) t = thr u t := by
  obtain ⟨-, same⟩ := waitIssued_committed u t t
  rw [waitOp_issued, if_pos (by rw [same held]; exact held), same held]

theorem unheld_issuing {t : Nat} (running : (thr s t).stopHeld = false) (unhalted : (thr s t).haltPend = none) (free : (thr s t).stepping = false) :
    Unheld (issuing s t) t := ⟨by rw [thr_issuing]; exact running, by rw [thr_issuing]; exact unhalted, by rw [thr_issuing]; exact free⟩

theorem exec_wait_plain {t : Fin 8} (plain : Plain s (.wait t)) : exec (.wait t) s = .next (waitOp (issuing s t) t) := by
  have first := noTarget_of_plain plain rfl
  obtain ⟨quiet, may, fetch, -, -, -, running, unhalted, free, -⟩ := plain
  rw [canIssue, Bool.and_eq_true] at may
  exact exec_wait quiet may.1 fetch first (waitOp_unheld (unheld_issuing running unhalted free))

theorem noDelivery_of_plain (plain : Plain s i) (forbidden : notInSlot i = true) : (thr s i.thread).delivery = none := by
  have first := noTarget_of_plain plain forbidden
  obtain ⟨-, may, -⟩ := plain
  rw [canIssue, first, Option.isSome_none, Bool.or_false, Bool.and_eq_true, Option.isNone_iff_eq_none] at may
  exact may.2

/-! ## Instructions that take effect in their slot -/

/-- An instruction that has replaced its thread, and holds back no stop, halt or step. -/
theorem exec_replaced {x : Thread} (plain : Plain s i) (row : exec i s = issue s i op) (effect : op (issuing s i.thread) = setThr u i.thread x)
    (dev : u.dev = s.dev) (held : x.stopHeld = (thr s i.thread).stopHeld) (halt : x.haltPend = (thr s i.thread).haltPend)
    (step : x.stepping = (thr s i.thread).stepping) : exec i s = .next (setThr u i.thread x) := by
  have calm : Calm (op (issuing s i.thread)) i.thread := by
    rw [effect]
    exact Calm.issued (calm_issuing plain) u x held halt step dev
  rw [row, issue_plain plain calm, effect]

theorem fenceOp_issuing (s : State) (t : Nat) : fenceOp (issuing s t) t = setThr (issuing s t) t
    (if (thr s t).outW = 0 ∧ (thr s t).outX = 0 then issued (thr s t) else parkedFor .fence (issued (thr s t))) := by
  have landed : allLanded (issued (thr s t)) = allLanded (thr s t) := rfl
  rw [fenceOp, thr_issuing, landed]
  simp only [allLanded_iff]
  split
  · exact (setThr_setThr (atSlot s t) t _ _).symm
  · rw [park, thr_issuing]
    rfl

/-- A thread outside a TOLL or inside a handler as RTOLL and RETI leave it. -/
theorem rtollOp_inside {t : Nat} (inToll : (thr s t).inToll = true) : rtollOp (issuing s t) t =
    setThr (issuing s t) t { issued (thr s t) with budget := none, world := true, inToll := false, pc := (thr s t).ret } := by
  have inside : (issued (thr s t)).inToll = true := inToll
  rw [rtollOp, thr_issuing, if_pos inside]
  rfl

theorem retiOp_handler {t : Nat} (inh : (thr s t).inh = true) : retiOp (issuing s t) t =
    later (setThr (issuing s t) t { issued (thr s t) with pc := (thr s t).epc }) 2 (.setIe t true) := by
  have inside : (issued (thr s t)).inh = true := inh
  rw [retiOp, thr_issuing, if_pos inside]
  rfl

/-! ## TOLL -/

/-- The thread inside a TOLL: in keeper world at the keeper's vector, with the budget running (R371, R429). -/
def inKeeper (s : State) (th : Thread) : Thread :=
  { issued th with ret := (issued th).pc, inToll := true, world := false, pc := BitVec.ofNat 16 (rn s .TG_KVEC 0),
                   budget := some (24 * (if rn s .TG_BUDGET 0 = 0 then 1 else rn s .TG_BUDGET 0)) }

section
variable {t : Fin 8} {n : BitVec 8}

theorem tollOp_enters (normal : (thr s t).world = true) (opens : tollShut s = false) : tollOp (issuing s t) t n.toNat =
    putG (setThr (issuing s t) t (inKeeper s (thr s t))) t 0 n := by
  have world : ¬ ((issued (thr s t)).world = false) := by simp [issued, normal]
  have shut : ¬ (tollShut (issuing s t) = true) := by
    rw [Bool.not_eq_true]
    exact opens
  rw [tollOp, thr_issuing, if_neg world, if_neg shut, BitVec.ofNat_toNat, BitVec.setWidth_eq]
  rfl

theorem tollOp_returns (normal : (thr s t).world = true) (shut : tollShut s = true) :
    tollOp (issuing s t) t n.toNat = putG (issuing s t) t 1 0xFF := by
  have world : ¬ ((issued (thr s t)).world = false) := by simp [issued, normal]
  have closed : tollShut (issuing s t) = true := shut
  rw [tollOp, thr_issuing, if_neg world, if_pos closed]

/-- An instruction that replaces its thread in its slot and has one operation more in the pipeline. -/
theorem moves_one {p : PipeOp} {f : Thread → Thread} {w : Thread} (thread : i.thread = t) (plain : Plain s i) (row : exec i s = issue s i op)
    (effect : op (issuing s t) = later (setThr (issuing s t) t w) 2 p) (replaces : Replaces p t f) (held : w.stopHeld = (thr s t).stopHeld)
    (halt : w.haltPend = (thr s t).haltPend) (step : w.stepping = (thr s t).stepping) : Moves i s w 3 (f w) := by
  subst thread
  have quiet : Quiet (setThr (issuing s i.thread) i.thread w) := plain.1
  have calm : Calm (setThr (atSlot s i.thread) i.thread w) i.thread := Calm.issued (calm_issuing plain) _ w held halt step rfl
  refine moves_third plain row ?_ calm (es := [⟨(issuing s i.thread).cycles, (issuing s i.thread).cycles + 2, p⟩]) (by simp)
    (.cons replaces (turns_nil _ _) _ _)
  rw [effect, later_empty quiet]
  exact congrArg (fun v => inCycle v (issuing s i.thread).cycles [⟨(issuing s i.thread).cycles, (issuing s i.thread).cycles + 2, p⟩])
    (setThr_setThr (atSlot s i.thread) i.thread _ w)

end

/-! ## The obligation -/

/-- Settles O16: each instruction replaces its thread in its slot, and what it writes to registers and bits lands with the third cycle. -/
theorem systemInstructionEffects : Obligations.SystemInstructionEffects := by
  intro s t bit v n th s1 s2 com shut parked inside
  have quietly (quiet : Quiet s) : Quiet s1 := quiet_issuing quiet t
  refine ⟨fun plain => ?nop, fun plain => ?fence, fun plain => ?waitb, fun plain clear => ?park, fun plain set => ?commit, ?delivered,
    fun plain normal opens => ?toll, fun plain normal closed => ?shut, fun plain inToll => ?rtoll, fun plain inh => ?reti⟩
  case nop => exact issue_plain plain (calm_issuing plain)
  case fence =>
    refine exec_replaced (u := s1) plain rfl ?_ rfl ?_ ?_ ?_
    · exact fenceOp_issuing s t
    all_goals split <;> rfl
  case waitb =>
    obtain ⟨running, unhalted, free, -⟩ := calm_issuing plain
    have heard : Unheld s2 t := ((EventsOnly.refl s1).bitEvents t bit.toNat).unheld ⟨running, unhalted, free⟩
    have unheld : Unheld (waitbOp s1 t bit.toNat v) t := by
      unfold waitbOp bitRead
      dsimp only
      split
      · exact heard
      · exact heard.park _
    exact issue_first plain (noTarget_of_plain plain rfl) (op := fun s => waitbOp s t bit.toNat v) unheld
  case park =>
    have moved := moves_of_answer (i := .wait t) plain.1
      ((exec_wait_plain plain).trans (congrArg _ (waitOp_clear plain.1 clear (noDelivery_of_plain plain rfl)))) (by simp [Instr.thread])
      (.cons (replaces_setIe t false) (turns_nil _ _) _ _)
    rw [setIE, Bool.not_false, Bool.and_true] at moved
    exact moved
  case commit => exact Does.intro (exec_wait_plain plain) (waitOp_set plain.1 set)
  case delivered =>
    intro quiet may held fetch first running unhalted free _
    have delivered : (thr s1 t).delivery.isSome = true := by rw [thr_issuing]; exact held
    have next : (issued th).pc = th.pc + 1 := by rw [issued, first]; rfl
    have runs : th.st = .running := by
      simp only [issues, Bool.and_eq_true, beq_iff_eq] at may
      obtain ⟨⟨⟨-, runs⟩, -⟩, -⟩ := may
      exact runs
    refine Does.intro (exec_wait quiet may fetch first (waitOp_unheld (unheld_issuing running unhalted free))) ?_
    rw [waitOp_delivery delivered, thr_issuing]
    exact ⟨runs, next, rfl⟩
  case toll => exact moves_one rfl plain rfl (tollOp_enters normal opens) (replaces_greg t 0 n) rfl rfl rfl
  case shut => exact lands_putG rfl plain rfl (tollOp_returns normal closed)
  case rtoll => exact exec_replaced (u := s1) plain rfl (rtollOp_inside inToll) rfl rfl rfl rfl
  case reti =>
    have moved := moves_one rfl plain rfl (retiOp_handler inh) (replaces_setIe t true) rfl rfl rfl
    rw [setIE, Bool.not_true, Bool.and_false] at moved
    exact moved

end Sys2Proof.Proofs
end

section
/-! # Chapter 06: traps (R331, R365, R373-R376, R445) -/
namespace Sys2Proof.Proofs
open Sys2Proof.Machine Sys2Proof.Laws

variable {s u v : State} {i : Instr} {op : State → State} {t : Nat} {x : Thread} {cause code : Nat}

/-! ## The record (R375) -/

theorem b01_le_one (b : Bool) : b01 b ≤ 1 := by cases b <;> decide

/-- THRn_TRAP for a thread that traps at its latest issued instruction, `old` before it. -/
def trapRecord (old : Quad) (th : Thread) (cause code : Nat) : Quad :=
  BitVec.ofNat 32 (th.lastPc.toNat + 65536 * (code % 256) + 16777216 * cause + 134217728 * b01 th.world +
    1073741824 * b01 (old.getLsbD 31 || old.getLsbD 30) + 2147483648)

section
variable (old : Quad) (th : Thread)

theorem trapRecord_cause (small : cause < 8) : fld (trapRecord old th cause code) 26 24 = cause := by
  have world := b01_le_one th.world
  have overrun := b01_le_one (old.getLsbD 31 || old.getLsbD 30)
  rw [fld, trapRecord, BitVec.toNat_ofNat]
  omega

theorem trapRecord_code : fld (trapRecord old th cause code) 23 16 = code % 256 := by
  have world := b01_le_one th.world
  have overrun := b01_le_one (old.getLsbD 31 || old.getLsbD 30)
  rw [fld, trapRecord, BitVec.toNat_ofNat]
  omega

theorem trapRecord_address : fld (trapRecord old th cause code) 15 0 = th.lastPc.toNat := by
  have world := b01_le_one th.world
  have overrun := b01_le_one (old.getLsbD 31 || old.getLsbD 30)
  rw [fld, trapRecord, BitVec.toNat_ofNat]
  omega

end

/-! ## The stop (R376) -/

/-- From `s` to `u` thread `t` has become `x`; the pipeline, the modes, the memories and the registers that do not count stay. -/
structure Becomes (s u : State) (t : Nat) (x : Thread) : Prop where
  pipe : u.pipe = s.pipe
  dev : u.dev = s.dev
  memory : SameMemory s u
  thread : thr u t = x
  io : ∀ (d : Nat → Quad) (a : Nat), NotCounterReg a → mget d u.io a = mget d s.io a

namespace Becomes

theorem refl (s : State) (t : Nat) : Becomes s s t (thr s t) := ⟨rfl, rfl, SameMemory.refl s, rfl, fun _ _ _ => rfl⟩

theorem set (h : Becomes s u t x) (y : Thread) : Becomes s (setThr u t y) t y :=
  ⟨h.pipe, h.dev, h.memory, thr_setThr_same .., h.io⟩

theorem counted (h : Becomes s u t x) (k : CountsOnly u v) : Becomes s v t x where
  pipe := k.pipe.trans h.pipe
  dev := k.dev.trans h.dev
  memory := SameMemory.trans h.memory k.sameMemory
  thread := by rw [thr, k.thr, ← thr, h.thread]
  io d a ha := (k.io d a ha).trans (h.io d a ha)

theorem rd (h : Becomes s u t x) {r : Rg} {i : Nat} (ha : NotCounterReg (regAddr r i)) : rd u r i = rd s r i := h.io _ _ ha

end Becomes

/-- A delivery that has been committed returns (R313). -/
theorem Becomes.returned (h : Becomes s u t x) : Becomes s (returnDelivery u t) t { x with delivery := none } := by
  unfold returnDelivery
  rw [h.thread]
  split
  next free =>
    have same : ({ x with delivery := none } : Thread) = x := by rw [← free]
    rw [same]
    exact h
  next src held =>
    let back := setThr u t { x with delivery := none }
    have booked : CountsOnly back (setIcu back { back.icu with ret := mset (fun _ => false) back.icu.ret src true }) := ⟨rfl, fun _ _ _ => rfl⟩
    exact (((h.set _).counted booked).counted (countsOnly_occur _ 0x07 1)).counted (countsOnly_send _ 0 _)

/-- A thread that has stopped at once. -/
def stoppedAt (th : Thread) : Thread := stopped { th with delivery := none }

theorem Becomes.stopped (h : Becomes s u t x) : Becomes s (stopNow u t) t (stoppedAt x) := by
  have set := h.returned.set (stoppedAt x)
  unfold stopNow
  dsimp only
  rw [h.returned.thread]
  exact set

/-! ## The trap -/

theorem notCounterReg_trap (t : Fin 8) : NotCounterReg (regAddr .THR_TRAP t) := by
  intro n
  simp only [regAddr, regInfo]
  omega

/-- A trap outside a TOLL is recorded and counted, and stops its thread. -/
theorem trapThread_home (home : (thr u t).inToll = false) (cause code : Nat) : trapThread u t cause code =
    stopNow (latchEdge (occur (wr u .THR_TRAP t (trapRecord (rd u .THR_TRAP t) (thr u t) cause code)) 0x05 1) t) t := by
  have outside : ¬ ((thr u t).inToll = true) := by simp [home]
  unfold trapThread trapRecord
  exact if_neg outside

theorem trapThread_becomes (home : (thr u t).inToll = false) (cause code : Nat) :
    Becomes (wr u .THR_TRAP t (trapRecord (rd u .THR_TRAP t) (thr u t) cause code)) (trapThread u t cause code) t (stoppedAt (thr u t)) := by
  rw [trapThread_home home]
  generalize trapRecord (rd u .THR_TRAP t) (thr u t) cause code = record
  have start := Becomes.refl (wr u .THR_TRAP t record) t
  rw [thr_wr] at start
  exact ((start.counted (countsOnly_occur _ 0x05 1)).counted (countsOnly_latchEdge _ t)).stopped

/-- What a trap of thread `t` leaves of state `s`. -/
structure Traps (s : State) (t : Fin 8) (cause code : Nat) (u : State) : Prop where
  st : (thr u t).st = if (thr s t).outW = 0 ∧ (thr s t).outX = 0 then .stopped else .stopping
  g : (thr u t).g = (thr s t).g
  p : (thr u t).p = (thr s t).p
  pipe : u.pipe = s.pipe
  memory : SameMemory s u

section
variable {t : Fin 8}

/-- A thread that has issued, and whose fetch may have been recorded as refused, traps. -/
theorem trap_issued (events : EventsOnly (issuing s t) u) (home : (thr s t).inToll = false) (unhalted : (thr s t).haltPend = none)
    (covered : s.dev.romoffGo = false) (slot : Bool) (cause code : Nat) : let v := issueEnd (trapThread u t cause code) t slot
    Traps s t cause code v ∧ rd v .THR_TRAP t = trapRecord (rd u .THR_TRAP t) (issued (thr s t)) cause code ∧
      rd v .TG_VIOL 0 = rd u .TG_VIOL 0 := by
  have mine : thr u t = issued (thr s t) := (events.thread t).trans (thr_issuing s t)
  have becomes := trapThread_becomes (u := u) (t := t) (by rw [mine]; exact home) cause code
  rw [mine] at becomes
  have calm : Calm (trapThread u t cause code) t :=
    ⟨by rw [becomes.thread]; rfl, by rw [becomes.thread]; exact unhalted, by rw [becomes.thread]; rfl,
      by rw [becomes.dev, wr_dev, events.dev]; exact covered⟩
  have apart : regAddr .TG_VIOL 0 ≠ regAddr .THR_TRAP t := by
    simp only [regAddr, regInfo]
    omega
  rw [issueEnd_calm calm]
  refine ⟨⟨?_, ?_, ?_, ?_, ?_⟩, ?_, ?_⟩
  · rw [becomes.thread]
    simp only [← allLanded_iff]
    rfl
  · rw [becomes.thread]; rfl
  · rw [becomes.thread]; rfl
  · rw [becomes.pipe, wr_pipe, events.pipeline.pipe]; rfl
  · exact SameMemory.trans (SameMemory.trans events.sameMemory (wr_memory ..)) becomes.memory
  · rw [becomes.rd (notCounterReg_trap t), rd_wr_same]
  · rw [becomes.rd notCounterReg_viol, rd_wr_ne _ _ _ _ _ _ apart]

/-! ## Instructions that trap -/

/-- The record of a trap in the slot of the instruction that traps. -/
theorem trapRecord_issued (byte : code < 256) : trapRecord (rd (issuing s t) .THR_TRAP t) (issued (thr s t)) cause code =
    BitVec.ofNat 32 ((thr s t).pc.toNat + 65536 * code + 16777216 * cause + 134217728 * b01 (thr s t).world +
      1073741824 * b01 (rb s .THR_TRAP t 31 || rb s .THR_TRAP t 30) + 2147483648) := by
  rw [trapRecord, Nat.mod_eq_of_lt byte]
  rfl

/-- An instruction that traps in its slot. -/
theorem exec_trap (thread : i.thread = t) (plain : Plain s i) (home : (thr s t).inToll = false) (row : exec i s = issue s i op)
    (effect : op (issuing s t) = trapThread (issuing s t) t cause code) (byte : code < 256) : Does i s fun u => Traps s t cause code u ∧
      rd u .THR_TRAP t = BitVec.ofNat 32 ((thr s t).pc.toNat + 65536 * code + 16777216 * cause + 134217728 * b01 (thr s t).world +
        1073741824 * b01 (rb s .THR_TRAP t 31 || rb s .THR_TRAP t 30) + 2147483648) := by
  subst thread
  obtain ⟨quiet, may, fetch, legal, slot, limit, running, unhalted, free, covered⟩ := plain
  obtain ⟨traps, record, -⟩ := trap_issued (.refl (issuing s i.thread)) home unhalted covered (thr s i.thread).target.isSome cause code
  have issues := issueNow_plain (fe := { s with cycles := (atSlot s i.thread).cycles - 1 }) (s := atSlot s i.thread) fetch legal slot limit op
  refine Does.intro (row.trans ((issue_slot (issueSlot_quiet quiet may) op).trans (congrArg _ (issues.trans
    (congrArg (issueEnd · i.thread (thr s i.thread).target.isSome) effect))))) ⟨traps, record.trans (trapRecord_issued byte)⟩

/-- A word that no instruction encodes (R331). -/
theorem exec_illegal {w : Quad} (plain : Plain s (.nop t)) (unknown : decodeWord t w = none) : exec (.illegalInstruction t w) s =
    .next (issueEnd (trapThread (issuing s t) t 1 (w.toNat / 2 ^ 26)) t (thr s t).target.isSome) := by
  obtain ⟨quiet, may, fetch, -⟩ := plain
  have issuable : canIssue s t = true := may
  have permitted : ¬ (fetchRefused { s with cycles := (atSlot s t).cycles - 1 } (atSlot s t) t = true) := by
    rw [Bool.not_eq_true]
    exact fetch
  show execIllegalInstruction t w s = _
  rw [execIllegalInstruction, unknown, if_neg (by simp), issueSlot_quiet (t := t) quiet issuable]
  exact congrArg _ (if_neg permitted)

/-- An illegal word traps with its major opcode as the code. -/
theorem exec_unknown {w : Quad} (plain : Plain s (.nop t)) (home : (thr s t).inToll = false) (unknown : decodeWord t w = none) :
    Does (.illegalInstruction t w) s fun u => Traps s t 1 (w.toNat / 2 ^ 26) u ∧
      rd u .THR_TRAP t = BitVec.ofNat 32 ((thr s t).pc.toNat + 65536 * (w.toNat / 2 ^ 26) + 16777216 * 1 + 134217728 * b01 (thr s t).world +
        1073741824 * b01 (rb s .THR_TRAP t 31 || rb s .THR_TRAP t 30) + 2147483648) := by
  have answer := exec_illegal plain unknown
  obtain ⟨-, -, -, -, -, -, -, unhalted, -, covered⟩ := plain
  have byte : w.toNat / 2 ^ 26 < 256 := by omega
  obtain ⟨left, record, -⟩ := trap_issued (t := t) (.refl (issuing s t)) home unhalted covered (thr s t).target.isSome 1 (w.toNat / 2 ^ 26)
  exact Does.intro answer ⟨left, record.trans (trapRecord_issued byte)⟩

/-! ## Words that may not issue where they stand -/

/-- An instruction is issued in its thread's next slot. -/
theorem exec_nalti (nalti : isNalti i = true) (quiet : Quiet s) (may : canIssue s i.thread = true) : ∃ op : State → State,
    exec i s = .next (issueNow { s with cycles := (atSlot s i.thread).cycles - 1 } (atSlot s i.thread) i op) := by
  have plainly {op : State → State} (row : exec i s = issue s i op) : exec i s =
      .next (issueNow { s with cycles := (atSlot s i.thread).cycles - 1 } (atSlot s i.thread) i op) :=
    row.trans (issue_slot (issueSlot_quiet quiet may) op)
  unfold isNalti encFields at nalti
  split at nalti
  case h_4 t =>
    rw [canIssue, Bool.and_eq_true] at may
    have issuable : issues s t = true := may.1
    refine ⟨fun s => waitOp s t, ?_⟩
    show execWait t s = _
    rw [execWait, nextSlot_issues (t := t) quiet issuable]
    rfl
  case h_58 => cases nalti
  all_goals exact ⟨_, plainly rfl⟩

/-- A fetch that is refused is a violation, and traps (R445). -/
theorem issueNow_refused (fetch : fetchRefused s s i.thread = true) (op : State → State) :
    issueNow { s with cycles := (atSlot s i.thread).cycles - 1 } (atSlot s i.thread) i op =
      issueEnd (trapThread (violate (issuing s i.thread) 7 i.thread (thr s i.thread).pc.toNat) i.thread 0 0) i.thread
        (thr s i.thread).target.isSome := by
  have refused : fetchRefused { s with cycles := (atSlot s i.thread).cycles - 1 } (atSlot s i.thread) i.thread = true := fetch
  rw [issueNow]
  exact if_pos refused

/-- An instruction that breaks a rule of its own encoding traps (R331). -/
theorem issueNow_broken (fetch : fetchRefused s s i.thread = false) (broken : i.legal = false) (op : State → State) :
    issueNow { s with cycles := (atSlot s i.thread).cycles - 1 } (atSlot s i.thread) i op =
      issueEnd (trapThread (issuing s i.thread) i.thread 1 (majorOf i)) i.thread (thr s i.thread).target.isSome := by
  have permitted : ¬ (fetchRefused { s with cycles := (atSlot s i.thread).cycles - 1 } (atSlot s i.thread) i.thread = true) := by
    rw [Bool.not_eq_true]; exact fetch
  rw [issueNow]
  exact (if_neg permitted).trans (if_pos (by rw [broken]; rfl))

/-- An instruction that may not stand in a delay slot traps there (R365). -/
theorem issueNow_slot (fetch : fetchRefused s s i.thread = false) (legal : i.legal = true) (slot : (thr s i.thread).target.isSome = true)
    (forbidden : notInSlot i = true) (op : State → State) :
    issueNow { s with cycles := (atSlot s i.thread).cycles - 1 } (atSlot s i.thread) i op =
      issueEnd (trapThread (issuing s i.thread) i.thread 2 (majorOf i)) i.thread (thr s i.thread).target.isSome := by
  have permitted : ¬ (fetchRefused { s with cycles := (atSlot s i.thread).cycles - 1 } (atSlot s i.thread) i.thread = true) := by
    rw [Bool.not_eq_true]; exact fetch
  have delayed : ((thr (atSlot s i.thread) i.thread).target.isSome && notInSlot i) = true := by
    rw [forbidden, Bool.and_true]; exact slot
  rw [issueNow]
  exact (if_neg permitted).trans ((if_neg (by rw [legal]; decide)).trans (if_pos delayed))

/-- An instruction whose word traps where it stands (R331, R365, R445), `u` the state its fetch leaves. -/
theorem exec_trapped (nalti : isNalti i = true) (quiet : Quiet s) (may : canIssue s i.thread = true) (home : (thr s i.thread).inToll = false)
    (unhalted : (thr s i.thread).haltPend = none) (covered : s.dev.romoffGo = false) (events : EventsOnly (issuing s i.thread) u)
    (small : cause < 8) (traps : ∀ op : State → State, issueNow { s with cycles := (atSlot s i.thread).cycles - 1 } (atSlot s i.thread) i op =
      issueEnd (trapThread u i.thread cause code) i.thread (thr s i.thread).target.isSome) :
    Does i s fun v => Traps s i.thread cause code v ∧ rf v .THR_TRAP i.thread 15 0 = (thr s i.thread).pc.toNat ∧
      rf v .THR_TRAP i.thread 26 24 = cause ∧ rf v .THR_TRAP i.thread 23 16 = code % 256 ∧ rd v .TG_VIOL 0 = rd u .TG_VIOL 0 := by
  obtain ⟨op, answer⟩ := exec_nalti nalti quiet may
  obtain ⟨left, record, viol⟩ := trap_issued events home unhalted covered (thr s i.thread).target.isSome cause code
  refine Does.intro (answer.trans (congrArg _ (traps op))) ⟨left, ?_, ?_, ?_, viol⟩
  · rw [rf, record, trapRecord_address]; rfl
  · rw [rf, record, trapRecord_cause _ _ small]
  · rw [rf, record, trapRecord_code]

/-- A major opcode has six bits (R331). -/
theorem majorOf_lt (i : Instr) : majorOf i < 64 := by
  unfold majorOf encFields
  split
  next x fields =>
    split at fields
    all_goals cases fields
    all_goals dsimp only
    all_goals decide
  next => decide

end

/-! ## The obligation -/

/-- Settles O17: a trap writes its record, counts, and stops its thread; an instruction that may not issue where it stands traps before its effect. -/
theorem trapsStopTheThread : Obligations.TrapsStopTheThread := by
  unfold Obligations.TrapsStopTheThread
  refine And.intro ?_ ?_
  · intro s t n w th stops home _
    have trapped {i : Instr} {cause code : Nat} (does : Does i s fun u => Traps s t cause code u ∧
        rd u .THR_TRAP t = BitVec.ofNat 32 (th.pc.toNat + 65536 * code + 16777216 * cause + 134217728 * b01 th.world +
          1073741824 * b01 (rb s .THR_TRAP t 31 || rb s .THR_TRAP t 30) + 2147483648)) : Does i s (stops cause code) :=
      Does.mono does fun u ⟨left, record⟩ => ⟨record, left.st, left.g, left.p, left.pipe, left.memory⟩
    refine ⟨fun plain => ?trap, fun plain keeper => ?toll, fun plain => ?rtoll, fun plain outside => ?reti, fun plain unknown => ?illegal⟩
    case trap => exact trapped (exec_trap rfl plain home rfl rfl n.isLt)
    case toll =>
      have shut : (thr (issuing s t) t).world = false := by rw [thr_issuing]; exact keeper
      exact trapped (exec_trap rfl plain home rfl (if_pos shut) n.isLt)
    case rtoll =>
      have outside : ¬ ((thr (issuing s t) t).inToll = true) := by rw [thr_issuing, Bool.not_eq_true]; exact home
      exact trapped (exec_trap rfl plain home rfl (if_neg outside) (by decide))
    case reti =>
      have idle : ¬ ((thr (issuing s t) t).inh = true) := by rw [thr_issuing, Bool.not_eq_true]; exact outside
      exact trapped (exec_trap rfl plain home rfl (if_neg idle) (by decide))
    case illegal => exact trapped (exec_unknown plain home unknown)
  · intro s i nalti quiet may _ home unhalted _ covered th ends
    have ended {u : State} {cause code : Nat} (left : Traps s i.thread cause code u)
        (address : rf u .THR_TRAP i.thread 15 0 = (thr s i.thread).pc.toNat) : ends u := ⟨left.st, left.g, address, left.pipe, left.memory⟩
    have fetched := EventsOnly.refl (issuing s i.thread)
    refine ⟨fun fetch broken => ?own, fun fetch legal slot forbidden => ?delay, fun fetch free => ?keeper⟩
    case own =>
      have does := exec_trapped (cause := 1) (code := majorOf i) nalti quiet may home unhalted covered fetched (by decide)
        fun op => issueNow_broken fetch broken op
      exact Does.mono does fun u ⟨left, address, cause, _⟩ => ⟨ended left address, cause⟩
    case delay =>
      have does := exec_trapped (cause := 2) (code := majorOf i) nalti quiet may home unhalted covered fetched (by decide)
        fun op => issueNow_slot fetch legal slot forbidden op
      have byte := majorOf_lt i
      exact Does.mono does fun u ⟨left, address, cause, code, _⟩ => ⟨ended left address, cause, code.trans (by omega)⟩
    case keeper =>
      have does := exec_trapped (cause := 0) (code := 0) nalti quiet may home unhalted covered
        (fetched.violate 7 i.thread (thr s i.thread).pc.toNat) (by decide) fun op => issueNow_refused fetch op
      have unrecorded : rb (issuing s i.thread) .TG_VIOL 0 31 = false := free
      have agent : i.thread.val < 16 := by omega
      have bound := (thr s i.thread).pc.isLt
      refine Does.mono does fun u ⟨left, address, cause, _, viol⟩ => ⟨ended left address, cause, ?_, ?_⟩
      · rw [rf, viol, rd_violate unrecorded, violRecord_kind (by decide) agent]
      · rw [rf, viol, rd_violate unrecorded, violRecord_addr, Nat.mod_eq_of_lt bound]

end Sys2Proof.Proofs
end

section
/-! # Chapter 07: instructions issue in their threads' slots (R397, R398) -/
namespace Sys2Proof.Proofs
open Sys2Proof.Machine Sys2Proof.Laws

variable {s fe u : State} {i : Instr} {ready : State → Nat → Bool} {t n : Nat}

/-! ## The slot that comes -/

/-- A slot that is found is the first, after cycles fewer than the horizon, that is the thread's and in which it is ready. -/
theorem nextSlot_first (comes : nextSlot ready t n s = some (fe, u)) : ∃ k, k < n ∧ fe = cyclesPass k s ∧ u = cyclesPass (k + 1) s ∧
    slotOwner u = t ∧ ready u t = true ∧
    ∀ j, 1 ≤ j → j ≤ k → slotOwner (cyclesPass j s) ≠ t ∨ ready (cyclesPass j s) t = false := by
  induction n generalizing s with
  | zero => cases comes
  | succ n ih =>
    rw [nextSlot] at comes
    split at comes
    next here =>
      cases comes
      exact ⟨0, n.succ_pos, rfl, rfl, here.1, here.2, fun j low high => absurd low (by omega)⟩
    next passed =>
      obtain ⟨k, below, before, slot, owner, may, earlier⟩ := ih comes
      refine ⟨k + 1, Nat.succ_lt_succ below, before, slot, owner, may, fun j low high => ?_⟩
      match j, low with
      | 1, _ => rwa [not_and_or, Bool.not_eq_true] at passed
      | j + 2, _ => exact earlier (j + 1) (by omega) (by omega)

/-- In the cycle before it, a slot that was found is the next. -/
theorem nextSlot_before {m : Nat} (comes : nextSlot ready t n s = some (fe, u)) : nextSlot ready t (m + 1) fe = some (fe, u) := by
  obtain ⟨k, -, rfl, rfl, owner, may, -⟩ := nextSlot_first comes
  rw [cyclesPass_succ] at owner may ⊢
  exact if_pos ⟨owner, may⟩

/-- No slot is found where the thread is ready in none of the cycles. -/
theorem nextSlot_never (never : ∀ j, ready (cyclesPass j s) t = false) : nextSlot ready t n s = none := by
  cases found : nextSlot ready t n s with
  | none => rfl
  | some states =>
    obtain ⟨fe, u⟩ := states
    obtain ⟨k, -, -, rfl, -, may, -⟩ := nextSlot_first found
    exact absurd ((never (k + 1)).symm.trans may) Bool.false_ne_true

/-- With nothing in the pipeline a thread that may not issue now does not come to. -/
theorem issueSlot_never (quiet : Quiet s) (may : canIssue s t = false) : issueSlot s t = none :=
  nextSlot_never fun j => (congrArg (canIssue · t) (cyclesPass_quiet quiet j)).trans may

/-! ## The commands -/

/-- Every instruction but WAIT goes through the issue that all share, with an effect of its own (R393, R559). -/
theorem exec_issue (nalti : isNalti i = true) (other : i ≠ .wait i.thread) : ∃ op : State → State, ∀ s, exec i s = issue s i op := by
  unfold isNalti encFields at nalti
  split at nalti
  case h_4 => exact absurd rfl other
  case h_58 => cases nalti
  all_goals exact ⟨_, fun _ => rfl⟩

/-- An instruction whose slot comes does as it does given in the cycle before that slot. -/
theorem issue_before (comes : issueSlot s i.thread = some (fe, u)) (op : State → State) : issue s i op = issue fe i op := by
  rw [issue_slot comes, issue_slot (nextSlot_before comes)]

/-- Settles O60: the slot found is the first of its thread in which it may issue, and every instruction but WAIT is what `issue` makes of it there. -/
theorem instructionsIssueInTheirSlots : Obligations.InstructionsIssueInTheirSlots := by
  unfold Obligations.InstructionsIssueInTheirSlots
  intro s t
  refine ⟨?commands, fun fe s1 comes => nextSlot_first comes, issueSlot_quiet, fun may quiet => issueSlot_never quiet may⟩
  case commands =>
    rintro i nalti other rfl
    obtain ⟨op, row⟩ := exec_issue nalti other
    refine ⟨fun none => ?_, fun fe s1 comes => ?_⟩
    · rw [row, issue_none none]
    · rw [row, row, issue_before comes]

end Sys2Proof.Proofs
end

section
/-! # Chapters 08 and 09: the page table, the line tags and the store queue (R452, R507, R515, R517) -/
namespace Sys2Proof.Proofs
open Sys2Proof.Machine Sys2Proof.Laws

variable {s u : State} {p owner : Nat} {t8 : Fin 8} {g : Fin 16}

/-! ## A page gets an owner (R452, R507) -/

theorem keepOld_effects (s : State) (lo n : Nat) (strict : Option Quad) : let t := keepOld s lo n strict
    t = { s with far := t.far } ∧ t.far.owner = s.far.owner ∧ t.far.tag = s.far.tag ∧ t.far.written = s.far.written := by
  unfold keepOld
  dsimp only
  split <;> exact ⟨rfl, rfl, rfl, rfl⟩

theorem lineTag_retag (s : State) (lo n owner l : Nat) :
    lineTag (retag s lo n owner) l = if lo ≤ l ∧ l < lo + n then owner else lineTag s l := by
  obtain ⟨-, -, tag, -⟩ := keepOld_effects s lo n none
  refine (mget_foldl_mset _ _ lo n (fun _ => owner) l).trans ?_
  rw [tag, ← lineTag]

theorem lineW_retag (s : State) (lo n owner l : Nat) :
    lineW (retag s lo n owner) l = if lo ≤ l ∧ l < lo + n then false else lineW s l := by
  obtain ⟨-, -, -, written⟩ := keepOld_effects s lo n none
  refine (mget_filter (fun _ => false) _ (fun k => !(decide (lo ≤ k) && decide (k < lo + n))) l).trans ?_
  have outside : (!(decide (lo ≤ l) && decide (l < lo + n))) = !(decide (lo ≤ l ∧ l < lo + n)) := by rw [Bool.decide_and]
  rw [written, ← lineW, outside]
  by_cases inside : lo ≤ l ∧ l < lo + n <;> simp [inside]

/-- A change of the lines' tags is one of far memory, and none of its pages' owners. -/
theorem retag_effects (s : State) (lo n owner : Nat) : let t := retag s lo n owner
    t = { s with far := t.far } ∧ t.far.owner = s.far.owner := by
  obtain ⟨others, pages, -, -⟩ := keepOld_effects s lo n none
  exact ⟨by rw [retag, others], pages⟩

/-- A page's owner as SEAL_PTDATA writes it, before PAGE moves on. -/
def pageGiven (s : State) (p owner : Nat) : State :=
  setFar (retag s (128 * p) 128 owner) { (retag s (128 * p) 128 owner).far with
    owner := mset (fun _ => 0) (retag s (128 * p) 128 owner).far.owner p owner }

theorem ptWrite_eq (s : State) (owner : Nat) : ptWrite s owner = ptNext (pageGiven s (rf s .SEAL_PTIDX 0 9 0) owner) := rfl

theorem pageGiven_others (s : State) (p owner : Nat) : pageGiven s p owner = { s with far := (pageGiven s p owner).far } := by
  obtain ⟨others, -⟩ := retag_effects s (128 * p) 128 owner
  rw [pageGiven, others]
  rfl

theorem pageOwner_pageGiven (k : Nat) : pageOwner (pageGiven s p owner) k = if k = p then owner else pageOwner s k := by
  obtain ⟨-, pages⟩ := retag_effects s (128 * p) 128 owner
  refine (mget_mset (fun _ => 0) _ k p owner).trans ?_
  rw [pages, ← pageOwner]

/-- The lines of a page are those from its first to its 128th. -/
theorem line_of_page (k p : Nat) : (128 * p ≤ k ∧ k < 128 * p + 128) ↔ k / 128 = p := by omega

theorem lineTag_pageGiven (k : Nat) : lineTag (pageGiven s p owner) k = if k / 128 = p then owner else lineTag s k := by
  have tags : (pageGiven s p owner).far.tag = (retag s (128 * p) 128 owner).far.tag := rfl
  rw [lineTag, tags, ← lineTag, lineTag_retag]
  exact if_congr (line_of_page k p) rfl rfl

theorem lineW_pageGiven (k : Nat) : lineW (pageGiven s p owner) k = if k / 128 = p then false else lineW s k := by
  have bits : (pageGiven s p owner).far.written = (retag s (128 * p) 128 owner).far.written := rfl
  rw [lineW, bits, ← lineW, lineW_retag]
  exact if_congr (line_of_page k p) rfl rfl

theorem rf_ptNext (s : State) : rf (ptNext s) .SEAL_PTIDX 0 9 0 = (rf s .SEAL_PTIDX 0 9 0 + 1) % 1024 :=
  rf_wf_same _ _ _ _ (by decide) (by decide)

/-! ## A port's answer (R361, R517, R1248) -/

/-- A byte of a FABRIC register is on its way to register `g` of thread `t8`. -/
structure Answered (s : State) (t8 : Fin 8) (g : Fin 16) (b : Byte) (t : State) : Prop where
  sent : xwaitOf t 1 = xwaitOf s 1 ++ [.inReply ⟨.greg t8 g, s.cycles, !(thr s t8).world⟩ b]
  counted : (thr t t8).outX = (thr s t8).outX + 1
  registers : (thr t t8).g = (thr s t8).g
  others : ∀ k, k ≠ t8.val → thr t k = thr s k
  memory : SameMemory s t

theorem replyIn_fabric (s : State) (t8 : Fin 8) (g : Fin 16) (b : Byte) : Answered s t8 g b (replyIn s .fabric (.greg t8 g) b) := by
  have mine : thr (replyIn s .fabric (.greg t8 g) b) t8 =
      { thr s t8 with outX := (thr s t8).outX + 1, outKX := (thr s t8).outKX + b01 (!(thr s t8).world) } := thr_setThr_same ..
  exact ⟨xwaitOf_send_same .., by rw [mine], by rw [mine], fun k other => thr_setThr_ne _ _ _ _ other, SameMemory.refl s⟩

/-- A port that moves on as it is read answers as it stood. -/
theorem Answered.after_wf {t : State} {b : Byte} {r : Rg} {i hi lo x : Nat} (h : Answered (wf s r i hi lo x) t8 g b t) : Answered s t8 g b t :=
  ⟨h.sent, h.counted, h.registers, h.others, h.memory⟩

theorem exec_pageTableRead {req : Nat} (may : MayRead s req .SEAL_PTDATA 0) (thread : req < 8) :
    exec (.pageTableRead req (.greg t8 g)) s = .next
      (replyIn (ptNext s) .fabric (.greg t8 g) (BitVec.ofNat 8 (pageOwner s (rf s .SEAL_PTIDX 0 9 0)))) := by
  have unit : req ≠ 8 := by omega
  refine (readRegRow_taken may fun s ok =>
    if ok then replyIn (ptRead s req).2 .fabric (.greg t8 g) (ptRead s req).1 else replyIn s .fabric (.greg t8 g) 0).trans ?_
  rw [if_pos rfl, ptRead, if_neg unit]

theorem exec_lineTagRead {req : Nat} (may : MayRead s req .SEAL_LTDATA 0) (thread : req < 8) :
    exec (.lineTagRead req (.greg t8 g)) s = .next
      (replyIn (wf s .SEAL_LTIDX 0 16 0 (rf s .SEAL_LTIDX 0 16 0 + 1)) .fabric (.greg t8 g) (ltData s)) := by
  have unit : req ≠ 8 := by omega
  refine (readRegRow_taken may fun s ok =>
    if ok then replyIn (ltNext s req) .fabric (.greg t8 g) (ltData s) else replyIn s .fabric (.greg t8 g) 0).trans ?_
  rw [if_pos rfl, ltNext, if_neg unit]

/-! ## The store queue (R515) -/

/-- Where no access waits and no change is kept for one, the list of accesses has nothing to do. -/
theorem farPump_empty (empty : s.far.wait = []) (none : s.far.olds = []) : farPump s = s := by
  have same (f : Far) (waits : f.wait = []) (olds : f.olds = []) : ({ f with wait := [], olds := [] } : Far) = f := by rw [← waits, ← olds]
  rw [farPump, empty]
  exact congrArg (fun f => { s with far := f }) (same s.far empty none)

/-- An entry that frees, where no store waits for it. -/
theorem storeFree_idle (some : 1 ≤ s.far.stq) (free : storesHeld s < s.far.stq) (idle : s.far.stWait = []) :
    storeFree s = setFar s { s.far with stq := s.far.stq - 1 } := by
  have frees : ¬ (s.far.stq = 0 ∨ s.far.stq ≤ storesHeld s) := by omega
  rw [storeFree, if_neg frees, idle]

/-- An entry that frees is taken by the oldest store that waits. -/
theorem storeFree_waiting {q : Nat × Bool} {rest : List (Nat × Bool)} (some : 1 ≤ s.far.stq) (free : storesHeld s < s.far.stq)
    (waits : s.far.stWait = q :: rest) : storeFree s = farPump (send (setFar s { s.far with stWait := rest }) 1 (.accepted q.1 q.2)) := by
  have frees : ¬ (s.far.stq = 0 ∨ s.far.stq ≤ storesHeld s) := by omega
  rw [storeFree, if_neg frees, waits]
  rfl

/-! ## The obligation -/

/-- Settles O33: a write of a page's owner retags its lines, a port's read answers and moves its index on, an acceptance frees an entry. -/
theorem pageTableAndLineTags : Obligations.PageTableAndLineTags := by
  refine fun s req v t8 g => ⟨fun may => ?write, fun may thread => ?table, fun may thread => ?tags, fun live some free empty none => ?accept⟩
  case write =>
    have others := pageGiven_others s (rf s .SEAL_PTIDX 0 9 0) (v.toNat % 16)
    refine Does.intro ((writeReg_taken may fun s => ptWrite s (v.toNat % 16)).trans (congrArg _ (ptWrite_eq s (v.toNat % 16))))
      ⟨pageOwner_pageGiven, lineTag_pageGiven, lineW_pageGiven, ?_, ?_⟩
    · rw [rf_ptNext, rf, rd_io s _ _ _ (by rw [others]), ← rf]
    · rw [others]
      exact ⟨rfl, rfl, rfl, rfl, rfl⟩
  case table =>
    obtain ⟨sent, counted, registers, threads, memory⟩ := (replyIn_fabric (ptNext s) t8 g _).after_wf
    exact Does.intro (exec_pageTableRead may thread) ⟨⟨sent, counted, registers, threads, memory⟩, rf_ptNext s⟩
  case tags =>
    obtain ⟨sent, counted, registers, threads, memory⟩ := (replyIn_fabric _ t8 g (ltData s)).after_wf
    exact Does.intro (exec_lineTagRead may thread)
      ⟨⟨sent, counted, registers, threads, memory⟩, rf_wf_same s .SEAL_LTIDX 0 _ (by decide) (by decide)⟩
  case accept =>
    have row : exec .storeAccept s = .next (storeFree s) := liveIn_live live storeFree
    refine ⟨fun idle => row.trans (congrArg _ (storeFree_idle some free idle)), fun q rest waits => ?_⟩
    rw [row, storeFree_waiting some free waits]
    exact congrArg _ (farPump_empty empty none)

end Sys2Proof.Proofs
end

section
/-!
SUPPORT. Pending bits of the interrupt controller (R525, R526): whatever is counted, none clears; an edge leaves its own set.
-/
namespace Sys2Proof.Proofs
open Sys2Proof.Machine Sys2Proof.Laws

/-- From `s` to `t` no pending bit clears. -/
def KeepsPending (s t : State) : Prop := ∀ src, pendBit s src = true → pendBit t src = true

namespace KeepsPending

variable {s t u : State}

theorem of_icu (same : t.icu = s.icu) : KeepsPending s t := fun src h => by rw [pendBit, same]; exact h

theorem trans (h : KeepsPending s t) (k : KeepsPending t u) : KeepsPending s u := fun src hs => k src (h src hs)

theorem foldl {f : State → Nat → State} (hf : ∀ s n, KeepsPending s (f s n)) (l : List Nat) (s : State) : KeepsPending s (l.foldl f s) := by
  induction l generalizing s with
  | nil => exact of_icu rfl
  | cons n l ih => exact (hf s n).trans (ih (f s n))

end KeepsPending

variable (s : State)

theorem pendBit_latchBit (src k : Nat) : pendBit (latchBit s src) k = if k = src then true else pendBit s k := by
  have latched : (latchBit s src).icu.pend = mset (fun _ => false) s.icu.pend src true := congrArg Icu.pend (openMeasures_icu _ src)
  rw [pendBit, latched, mget_mset, ← pendBit]

theorem keepsPending_latchBit (src : Nat) : KeepsPending s (latchBit s src) := fun k h => by
  rw [pendBit_latchBit, h, ite_self]

theorem keepsPending_bumpCount (n k : Nat) : KeepsPending s (bumpCount s n k).1 := by
  have flagged : KeepsPending s (markEdge (wb (wr s .EC_COUNT n (BitVec.ofNat 32 (rn s .EC_COUNT n + k))) .EC_STAT n 0 true) (24 + n)) :=
    fun _ h => h
  unfold bumpCount
  dsimp only
  split
  · exact .of_icu rfl
  · split
    · exact .of_icu rfl
    · split
      · exact flagged
      · exact flagged.trans (keepsPending_latchBit _ _)

theorem keepsPending_occurUpTo (fuel code k : Nat) : KeepsPending s (occurUpTo fuel s code k) := by
  induction fuel generalizing s code k with
  | zero => exact .of_icu rfl
  | succ fuel ih =>
    unfold occurUpTo
    split
    · exact .of_icu rfl
    · refine KeepsPending.foldl (fun s n => ?_) _ s
      have bumped := keepsPending_bumpCount s n k
      split
      · dsimp only
        split
        · exact bumped.trans (ih _ 0x06 1)
        · exact bumped
      · exact .of_icu rfl

theorem keepsPending_occur (code k : Nat) : KeepsPending s (occur s code k) := keepsPending_occurUpTo s 9 code k

/-- An edge leaves its source pending, latched or met by an earlier one. -/
theorem pendBit_latchEdge {src : Nat} (used : srcReserved src = false) : pendBit (latchEdge s src) src = true := by
  unfold latchEdge
  rw [used, if_neg Bool.false_ne_true]
  split
  next pending => exact keepsPending_occur (markEdge s src) 0x06 1 src pending
  · rw [pendBit_latchBit, if_pos rfl]

end Sys2Proof.Proofs
end

section
/-!
SUPPORT. One thread replaced (R309, R434): a returned delivery, a stop and a forced return change the thread they name, beside what they count.
-/
namespace Sys2Proof.Proofs
open Sys2Proof.Machine Sys2Proof.Laws

variable {s u v : State} {n : Nat} {x : Thread}

/-- From `s` to `u` thread `n` has become `x`; the other threads, the memories and the registers that do not count stay. -/
structure Replaced (s u : State) (n : Nat) (x : Thread) : Prop where
  thread : thr u n = x
  others : ∀ k, k ≠ n → thr u k = thr s k
  memory : SameMemory s u
  io : ∀ (d : Nat → Quad) (a : Nat), NotCounterReg a → mget d u.io a = mget d s.io a

theorem leaveDoze_dev (s : State) : leaveDoze s = { s with dev := (leaveDoze s).dev } := by
  unfold leaveDoze
  split <;> rfl

theorem thr_returnDelivery_ne {k : Nat} (other : k ≠ n) (u : State) : thr (returnDelivery u n) k = thr u k := by
  unfold returnDelivery
  split
  · rfl
  · exact (thr_congr ((countsOnly_occur _ 0x07 1).thr) k).trans (thr_setThr_ne _ _ _ _ other)

namespace Replaced

theorem refl (s : State) (n : Nat) : Replaced s s n (thr s n) := ⟨rfl, fun _ _ => rfl, SameMemory.refl s, fun _ _ _ => rfl⟩

theorem set (h : Replaced s u n x) (y : Thread) : Replaced s (setThr u n y) n y :=
  ⟨thr_setThr_same .., fun k other => (thr_setThr_ne _ _ _ _ other).trans (h.others k other), h.memory, h.io⟩

theorem counted (h : Replaced s u n x) (c : CountsOnly u v) : Replaced s v n x :=
  ⟨(thr_congr c.thr n).trans h.thread, fun k other => (thr_congr c.thr k).trans (h.others k other),
    SameMemory.trans h.memory c.sameMemory, fun d a ha => (c.io d a ha).trans (h.io d a ha)⟩

theorem leaveDoze (h : Replaced s u n x) : Replaced s (leaveDoze u) n x := by
  rw [leaveDoze_dev]
  exact ⟨h.thread, h.others, h.memory, h.io⟩

theorem rd (h : Replaced s u n x) {r : Rg} {i : Nat} (ha : NotCounterReg (regAddr r i)) : rd u r i = rd s r i := h.io _ _ ha

theorem returnDelivery (h : Replaced s u n x) : Replaced s (returnDelivery u n) n { x with delivery := none } := by
  have back := (Becomes.refl u n).returned
  rw [h.thread] at back
  exact ⟨back.thread, fun k other => (thr_returnDelivery_ne other u).trans (h.others k other), SameMemory.trans h.memory back.memory,
    fun d a ha => (back.io d a ha).trans (h.io d a ha)⟩

end Replaced

/-- A thread that is forced back to its home world (R434, R437). -/
def forcedBack (th : Thread) : Thread :=
  { th with st := if th.st = .halted then .halted else .running, park := .none, target := none, delivery := none, forced := true }

theorem Replaced.forceBack (h : Replaced s u n x) : Replaced s (forceBack u n) n (forcedBack x) := by
  have back := h.returnDelivery.leaveDoze
  unfold Machine.forceBack
  dsimp only
  rw [back.thread]
  exact back.set _

/-- A thread as STOP leaves it, at once or with the stop held (R309-R312). -/
def stopAsked (th : Thread) : Thread :=
  if th.st = .stopped ∨ th.st = .stopping then th
  else if stopWaits th then { th with delivery := none, stopHeld := true } else stoppedAt th

theorem Replaced.stopThread (h : Replaced s u n x) : Replaced s (stopThread u n) n (stopAsked x) := by
  have back := h.returnDelivery
  have held := back.set { x with delivery := none, stopHeld := true }
  have stops : Replaced s (stopNow (Machine.returnDelivery u n) n) n (stoppedAt x) := by
    have twice := back.returnDelivery.set (stoppedAt x)
    unfold stopNow
    dsimp only
    rw [back.returnDelivery.thread]
    exact twice
  unfold Machine.stopThread stopAsked
  rw [h.thread]
  split
  next still => rwa [if_pos (.inl still)]
  next going => rwa [if_pos (.inr going)]
  next still going =>
    rw [if_neg (not_or.2 ⟨still, going⟩)]
    dsimp only
    rw [back.thread]
    unfold stopWaits
    split
    · exact held
    · exact stops

end Sys2Proof.Proofs
end

section
/-! # Chapter 08: TOLL expiry, the forced return, the keeper reset, the locks (R431, R434, R437, R440, R441, R450) -/
namespace Sys2Proof.Proofs
open Sys2Proof.Machine Sys2Proof.Laws

variable {s u v : State} {n : Nat}

theorem notCounterReg_low {r : Rg} {i : Nat} (low : regAddr r i < 0xA00) : NotCounterReg (regAddr r i) := by
  intro k
  have count : regAddr .EC_COUNT k = 0xA04 + 0x20 * k := rfl
  have stat : regAddr .EC_STAT k = 0xA03 + 0x20 * k := rfl
  omega

/-! ## Expiry (R434, R253) -/

theorem budgetExpiry_hung (inside : (thr s n).inToll = true) (going : (thr s n).forced = false) (out : (thr s n).budget = some 0) :
    budgetExpiry s n false = keeperHung s n false := by
  simp [budgetExpiry, inside, going, out]

/-- An RTOLL that issues on the expiry edge wins. -/
theorem budgetExpiry_tie (inside : (thr s n).inToll = true) (going : (thr s n).forced = false) (out : (thr s n).budget = some 0) :
    budgetExpiry s n true = occur (setThr s n { thr s n with budget := none }) 0x08 1 := by
  simp [budgetExpiry, inside, going, out]

theorem forceBack_icu (free : (thr u n).delivery = none) : (forceBack u n).icu = u.icu := by
  rw [forceBack, returnDelivery_none free, leaveDoze_dev]
  rfl

/-- A first expiry without KRAUTO is recorded and counted, its edge rises, and the thread is forced back. -/
theorem keeperHung_first (first : rb s .TG_STAT 0 0 = false) (manual : rb s .TG_CTL 0 0 = false) (free : (thr s n).delivery = none) :
    let t := keeperHung s n false
    Replaced (wr s .TG_STAT 0 (BitVec.ofNat 32 (1 + 2 * n))) t n (forcedBack (thr s n)) ∧ pendBit t 20 = true := by
  let s1 := wr s .TG_STAT 0 (BitVec.ofNat 32 (1 + 2 * n))
  let u := latchEdge (occur s1 0x11 1) 20
  have counted : CountsOnly s1 u := (countsOnly_occur s1 0x11 1).trans (countsOnly_latchEdge _ 20)
  have hung : Replaced s1 (forceBack u n) n (forcedBack (thr s n)) := ((Replaced.refl s1 n).counted counted).forceBack
  have unasked : rb (forceBack u n) .TG_CTL 0 0 = false := by
    rw [rb, hung.rd (notCounterReg_low (by decide)), rd_wr_ne _ _ _ _ _ _ (by decide), ← rb, manual]
  have row : keeperHung s n false = forceBack u n := by
    unfold keeperHung
    rw [first]
    exact if_neg (by rw [Bool.not_false, Bool.true_and]; exact Bool.eq_false_iff.1 unasked)
  have undelivered : (thr u n).delivery = none := by rw [thr_congr counted.thr]; exact free
  rw [row]
  refine ⟨hung, ?_⟩
  rw [pendBit, forceBack_icu undelivered, ← pendBit]
  exact pendBit_latchEdge _ rfl

/-! ## The forced return (R434, R437, R388) -/

/-- A thread where its TOLL's forced return leaves it: at Return in normal world, g1 0xFF, every other register and flag 0. -/
def returned (th : Thread) : Thread :=
  { th with g := mset (fun _ => 0) [] 1 0xFF, p := [], c := false, v := false, world := true, inToll := false, pc := th.ret,
            target := none, budget := none, forced := false }

theorem forcedReturn_landed (forced : (thr s n).forced = true) (empty : s.pipe = []) (window : (thr s n).outKW = 0) (io : (thr s n).outKX = 0)
    (going : (thr s n).stopHeld = false) (unhalted : (thr s n).haltPend = none) (free : (thr s n).stepping = false) :
    forcedReturn s n = setThr s n (returned (thr s n)) := by
  have landed : forcedLanded s n = true := by simp [forcedLanded, window, io, empty]
  have back : thr (setThr s n (returned (thr s n))) n = returned (thr s n) := thr_setThr_same ..
  have unstopped : settleStop (setThr s n (returned (thr s n))) n = setThr s n (returned (thr s n)) := by
    have held : (returned (thr s n)).stopHeld = false := going
    simp only [settleStop, back, held, Bool.false_and, Bool.false_eq_true, if_false]
  have same : ({ returned (thr s n) with haltPend := if (thr s n).stepping then some 2 else (thr s n).haltPend, stepping := false } : Thread) =
      returned (thr s n) := by
    rw [free, if_neg Bool.false_ne_true]
    exact congrArg (fun b => ({ returned (thr s n) with stepping := b } : Thread)) free.symm
  have row : forcedReturn s n = settleHalt (settleStop (setThr s n
      { returned (thr s n) with haltPend := if (thr s n).stepping then some 2 else (thr s n).haltPend, stepping := false }) n) n := by
    exact if_pos (by rw [forced, landed]; rfl)
  rw [row, same, unstopped]
  exact settleHalt_none ((congrArg Thread.haltPend back).trans unhalted)

/-- What the thread issued in keeper world is awaited. -/
theorem forcedReturn_waits (outstanding : (thr s n).outKW ≠ 0 ∨ (thr s n).outKX ≠ 0) : forcedReturn s n = s := by
  have waits : forcedLanded s n = false := by rcases outstanding with h | h <;> simp [forcedLanded, h]
  simp [forcedReturn, waits]

/-- With nothing in the pipeline the forced return comes at once. -/
theorem exec_forcedReturn {n : Fin 8} (live : Live s .core) (empty : s.pipe = []) : exec (.forcedReturn n) s = .next (forcedReturn s n) := by
  refine (liveIn_live live fun s =>
    forcedReturn (if (thr s n).forced && s.pipe.any fun e => e.ofThread n then cyclesPass 6 s else s) n).trans ?_
  rw [empty, List.any_nil, Bool.and_false, if_neg Bool.false_ne_true]

/-- No other register than g1 is set in a thread that has been forced back, and no pointer. -/
theorem returned_registers (th : Thread) : getG (returned th) 1 = 0xFF ∧ (∀ k, k ≠ 1 → getG (returned th) k = 0) ∧ ∀ k, getP (returned th) k = 0 :=
  ⟨mget_mset_same (fun _ => 0) [] 1 0xFF, fun _ other => mget_mset_ne (fun _ => 0) (fun _ => 0) [] 0xFF other, fun _ => rfl⟩

/-! ## The keeper reset (R440, R441) -/

/-- What Quiescing of a keeper reset leaves of thread `n`. -/
structure Quieted (s : State) (n : Nat) (x : Thread) : Prop where
  toll : (thr s n).inToll = true → x.forced = true
  home : (thr s n).inToll = false → homeWorld s n = false → (thr s n).target = none → x.st = .stopping ∨ x.st = .stopped
  other : (thr s n).inToll = false → homeWorld s n = true → x = thr s n

/-- Quiescing of one thread: out of its TOLL, then stopped where its home is keeper world. -/
def krstThread (s : State) (n : Nat) : State :=
  let s1 := if (thr s n).inToll && !(thr s n).forced then forceBack s n else s
  if homeWorld s1 n then s1 else stopThread s1 n

theorem krstQuiesce_eq (s : State) : krstQuiesce s = (List.range 8).foldl krstThread s := rfl

theorem stopAsked_forced (th : Thread) : (stopAsked th).forced = th.forced := by
  unfold stopAsked
  split
  · rfl
  · split <;> rfl

/-- A STOP that nothing holds takes effect. -/
theorem stopAsked_st {th : Thread} (outside : th.inToll = false) (boundary : th.target = none) :
    (stopAsked th).st = .stopping ∨ (stopAsked th).st = .stopped := by
  have unheld : stopWaits th = false := by simp [stopWaits, outside, boundary]
  unfold stopAsked
  rw [unheld]
  split
  next still => exact still.symm
  · show (if allLanded _ then ThState.stopped else ThState.stopping) = _ ∨ (if allLanded _ then ThState.stopped else ThState.stopping) = _
    split
    · exact .inr rfl
    · exact .inl rfl

/-- A thread after its part of Quiescing that takes it out of a TOLL. -/
def krstForced (th : Thread) : Thread := if th.inToll && !th.forced then forcedBack th else th

theorem krstForced_inside {th : Thread} (inside : th.inToll = true) : (krstForced th).forced = true := by
  unfold krstForced
  cases forced : th.forced with
  | false =>
    rw [inside]
    rfl
  | true =>
    rw [Bool.not_true, Bool.and_false, if_neg Bool.false_ne_true]
    exact forced

theorem krstForced_outside {th : Thread} (outside : th.inToll = false) : krstForced th = th := by
  rw [krstForced, outside, Bool.false_and, if_neg Bool.false_ne_true]

theorem Quieted.congr {x : Thread} (h : Quieted u n x) (thread : thr u n = thr s n) (world : homeWorld u n = homeWorld s n) : Quieted s n x :=
  ⟨thread ▸ h.toll, fun outside keeper boundary => h.home (thread ▸ outside) (world ▸ keeper) (thread ▸ boundary),
    fun outside normal => (h.other (thread ▸ outside) (world ▸ normal)).trans thread⟩

/-- A thread's home world stands where the registers that do not count stand. -/
theorem homeWorld_congr (same : ∀ (d : Nat → Quad) (a : Nat), NotCounterReg a → mget d u.io a = mget d s.io a) (low : n < 8) :
    homeWorld u n = homeWorld s n := by
  have below : regAddr .THR_WORLD n < 0xA00 := by simp only [regAddr, regInfo]; omega
  have kept : rd u .THR_WORLD n = rd s .THR_WORLD n := same _ _ (notCounterReg_low below)
  rw [homeWorld, rb, kept, ← rb, ← homeWorld]

theorem krstThread_quiets (s : State) (low : n < 8) : ∃ x, Replaced s (krstThread s n) n x ∧ Quieted s n x := by
  let s1 := if (thr s n).inToll && !(thr s n).forced then forceBack s n else s
  have forced : Replaced s s1 n (krstForced (thr s n)) := by
    unfold s1 krstForced
    split
    · exact (Replaced.refl s n).forceBack
    · exact Replaced.refl s n
  have home : homeWorld s1 n = homeWorld s n := homeWorld_congr forced.io low
  show ∃ x, Replaced s (if homeWorld s1 n then s1 else stopThread s1 n) n x ∧ Quieted s n x
  rw [home]
  cases keeper : homeWorld s n with
  | true =>
    refine ⟨_, forced, krstForced_inside, fun _ keeper' => ?_, fun outside _ => krstForced_outside outside⟩
    exact absurd (keeper.symm.trans keeper') (by decide)
  | false =>
    refine ⟨_, forced.stopThread, fun inside => ?_, fun outside _ boundary => ?_, fun _ normal => ?_⟩
    · rw [stopAsked_forced, krstForced_inside inside]
    · rw [krstForced_outside outside]
      exact stopAsked_st outside boundary
    · exact absurd (keeper.symm.trans normal) (by decide)

/-- Quiescing has gone over the threads below `m`. -/
structure Quiesced (s : State) (m : Nat) (u : State) : Prop where
  quieted : ∀ n, n < m → Quieted s n (thr u n)
  rest : ∀ n, m ≤ n → thr u n = thr s n
  memory : SameMemory s u
  io : ∀ (d : Nat → Quad) (a : Nat), NotCounterReg a → mget d u.io a = mget d s.io a

theorem quiesced_range (s : State) (m : Nat) (eight : m ≤ 8) : Quiesced s m ((List.range m).foldl krstThread s) := by
  induction m with
  | zero => exact ⟨fun n below => absurd below n.not_lt_zero, fun _ _ => rfl, SameMemory.refl s, fun _ _ _ => rfl⟩
  | succ m ih =>
    rw [List.range_succ, List.foldl_append, List.foldl_cons, List.foldl_nil]
    generalize (List.range m).foldl krstThread s = u at ih
    obtain ⟨quieted, rest, memory, io⟩ := ih (by omega)
    obtain ⟨x, next, quiet⟩ := krstThread_quiets u (n := m) (by omega)
    refine ⟨fun n below => ?_, fun n above => ?_, SameMemory.trans memory next.memory, fun d a ha => (next.io d a ha).trans (io d a ha)⟩
    · by_cases here : n = m
      · subst here
        rw [next.thread]
        exact quiet.congr (rest n (Nat.le_refl n)) (homeWorld_congr io (by omega))
      · rw [next.others n here]
        exact quieted n (by omega)
    · rw [next.others n (by omega)]
      exact rest n (by omega)

/-- A request for a keeper reset, where none runs (R440, R441). -/
theorem krstRequest_effects (idle : rf s .TG_KRST 0 2 1 = 0) : let t := krstRequest s
    rf t .TG_KRST 0 2 1 = 1 ∧ SameMemory s t ∧ ∀ n, n < 8 → Quieted s n (thr t n) := by
  have row : krstRequest s = (List.range 8).foldl krstThread (wf s .TG_KRST 0 2 1 1) := by
    simp only [krstRequest, krstBegin, idle, ne_eq, not_true_eq_false, if_false, krstQuiesce_eq]
  obtain ⟨quieted, -, memory, io⟩ := quiesced_range (wf s .TG_KRST 0 2 1 1) 8 (Nat.le_refl 8)
  rw [row]
  generalize (List.range 8).foldl krstThread (wf s .TG_KRST 0 2 1 1) = t at quieted memory io
  have kept : rd t .TG_KRST 0 = rd (wf s .TG_KRST 0 2 1 1) .TG_KRST 0 := io _ _ (notCounterReg_low (by decide))
  refine ⟨?_, SameMemory.trans (wr_memory ..) memory, fun n below => (quieted n below).congr rfl ?_⟩
  · rw [rf, kept]
    exact rf_wf_same _ _ _ _ (by decide) (by decide)
  · have apart : regAddr .THR_WORLD n ≠ regAddr .TG_KRST 0 := by simp only [regAddr, regInfo]; omega
    rw [homeWorld, rb, rd_wf_ne _ _ _ _ _ _ _ _ apart, ← rb, ← homeWorld]

theorem krstRequest_running (runs : rf s .TG_KRST 0 2 1 ≠ 0) : krstRequest s = s := if_pos runs

theorem krstQuiet_of (quiet : ∀ n, n < 8 → (thr s n).inToll = false ∧ (thr s n).forced = false ∧
    (rb s .THR_WORLD n 0 = true ∨ (thr s n).st = .stopped)) : krstQuiet s = true := by
  refine List.all_eq_true.2 fun n low => ?_
  obtain ⟨outside, back, rests⟩ := quiet n (List.mem_range.1 low)
  rw [outside, back]
  rcases rests with normal | still
  · simp [homeWorld, normal]
  · simp [still]

/-- Once Quiescing has ended T0 starts, TG_STAT clears and the reset is done (R441). -/
theorem krstRestart_effects (runs : rf s .TG_KRST 0 2 1 = 1) (quiet : krstQuiet s = true) (still : (thr s 0).st = .stopped)
    (unhalted : (thr s 0).haltPend = none) : let t := krstRestart s
    rf t .TG_KRST 0 2 1 = 0 ∧ rb t .TG_KRST 0 3 = true ∧ rd t .TG_STAT 0 = 0 ∧ pendBit t 21 = true ∧
      thr t 0 = started s 0 ∧ (∀ n, n ≠ 0 → thr t n = thr s n) ∧ SameMemory s t := by
  let s1 := wr (setThr (leaveDoze s) 0 (started s 0)) .TG_STAT 0 0
  let s2 := wb (wf s1 .TG_KRST 0 2 1 0) .TG_KRST 0 3 true
  have row : krstRestart s = latchEdge (occur s2 0x12 1) 21 := by
    unfold krstRestart
    rw [if_pos ⟨runs, quiet⟩, startThread_taken still (.inl rfl) unhalted]
  have counted : CountsOnly s2 (krstRestart s) := by
    rw [row]
    exact (countsOnly_occur s2 0x12 1).trans (countsOnly_latchEdge _ 21)
  have asleep : Replaced s (setThr (leaveDoze s) 0 (started s 0)) 0 (started s 0) := (Replaced.refl s 0).leaveDoze.set _
  have krst : rd (krstRestart s) .TG_KRST 0 = putFld (putFld (rd s1 .TG_KRST 0) 2 1 0) 3 3 1 := by
    rw [counted.rd (notCounterReg_low (by decide))]
    exact (rd_wr_same ..).trans (congrArg (putFld · 3 3 1) (rd_wr_same ..))
  have thread (n : Nat) : thr (krstRestart s) n = thr (setThr (leaveDoze s) 0 (started s 0)) n := thr_congr counted.thr n
  have written : SameMemory (setThr (leaveDoze s) 0 (started s 0)) s2 :=
    SameMemory.trans (SameMemory.trans (wr_memory _ .TG_STAT 0 _) (wr_memory s1 .TG_KRST 0 _))
      (wr_memory (wf s1 .TG_KRST 0 2 1 0) .TG_KRST 0 _)
  refine ⟨?_, ?_, ?_, ?_, (thread 0).trans asleep.thread, fun n other => (thread n).trans (asleep.others n other),
    SameMemory.trans (SameMemory.trans asleep.memory written) counted.sameMemory⟩
  · rw [rf, krst, fld_putFld_apart _ _ (by decide) (by decide) (.inl (by decide))]
    exact fld_putFld _ _ (by decide) (by decide)
  · rw [rb, krst, getLsbD_putFld _ _ _ _ _ (by decide) (by decide)]
    rfl
  · rw [counted.rd (notCounterReg_low (by decide)), rd_wb_ne _ _ _ _ _ _ _ (by decide), rd_wf_ne _ _ _ _ _ _ _ _ (by decide), rd_wr_same]
  · rw [row]
    exact pendBit_latchEdge _ rfl

theorem krstRestart_waits (inside : ∃ n, n < 8 ∧ (thr s n).inToll = true) : krstRestart s = s := by
  obtain ⟨n, low, toll⟩ := inside
  have unquiet : ¬ krstQuiet s = true := fun quiet => by
    have outside := List.all_eq_true.1 quiet n (List.mem_range.2 low)
    simp [toll] at outside
  exact if_neg fun holds => unquiet holds.2

/-! ## The obligation -/

/-- Settles O31: each command replaces the threads it names, and what it counts and latches leaves the Tollgate's registers as it wrote them. -/
theorem tollExpiryKeeperResetAndLocks : Obligations.TollExpiryKeeperResetAndLocks := by
  refine ⟨fun s n live => ⟨?expiry, ?tie, ?back, ?waits⟩, fun s req => ⟨?request, ?running, ?restart, ?toll, ?vectors, ?near, ?iram⟩⟩
  case expiry =>
    intro inside going out first manual free
    obtain ⟨hung, pending⟩ := keeperHung_first first manual free
    have row : exec (.tollBudgetExpiry n false) s = .next (keeperHung s n false) :=
      (liveIn_live live fun s => budgetExpiry s n false).trans (congrArg _ (budgetExpiry_hung inside going out))
    refine Does.intro row ⟨?_, ?_, ?_, ?_, pending, hung.others, SameMemory.trans (wr_memory ..) hung.memory⟩
    · rw [hung.rd (notCounterReg_low (by decide)), rd_wr_same]
    all_goals
      rw [hung.thread]
      rfl
  case tie =>
    intro inside going out
    have counted := countsOnly_occur (setThr s n { thr s n with budget := none }) 0x08 1
    refine Does.intro ((liveIn_live live fun s => budgetExpiry s n true).trans (congrArg _ (budgetExpiry_tie inside going out))) ⟨?_, ?_, ?_⟩
    · exact (thr_congr counted.thr n).trans (thr_setThr_same ..)
    · exact fun k other => (thr_congr counted.thr k).trans (thr_setThr_ne _ _ _ _ other)
    · exact SameMemory.trans (SameMemory.refl s) counted.sameMemory
  case back =>
    intro forced empty window io going unhalted free
    refine Does.intro ((exec_forcedReturn live empty).trans (congrArg _ (forcedReturn_landed forced empty window io going unhalted free))) ?_
    rw [thr_setThr_same]
    obtain ⟨g1, others, pointers⟩ := returned_registers (thr s n)
    exact ⟨rfl, g1, others, pointers, rfl, rfl, rfl, rfl, rfl, rfl, rfl, rfl⟩
  case waits =>
    intro empty outstanding
    exact (exec_forcedReturn live empty).trans (congrArg _ (forcedReturn_waits outstanding))
  case request =>
    intro may idle
    obtain ⟨phase, ⟨near, bits, iram, -⟩, quieted⟩ := krstRequest_effects idle
    exact Does.intro (writeReg_taken may krstRequest) ⟨phase, near, bits, iram, fun n low =>
      ⟨(quieted n low).toll, (quieted n low).home, (quieted n low).other⟩⟩
  case running =>
    intro may runs
    exact (writeReg_taken may krstRequest).trans (congrArg _ (krstRequest_running runs))
  case restart =>
    intro live runs quiet keeper unhalted
    obtain ⟨-, -, rests⟩ := quiet 0 (by decide)
    have still : (thr s 0).st = .stopped := rests.resolve_left (by rw [keeper]; decide)
    obtain ⟨phase, done, stat, pending, thread, others, memory⟩ := krstRestart_effects runs (krstQuiet_of quiet) still unhalted
    refine Does.intro (liveIn_live live krstRestart) ⟨phase, done, stat, ?_, ?_, pending, others, memory⟩
    all_goals
      rw [thread]
      rfl
  case toll =>
    intro live inside
    exact (liveIn_live live krstRestart).trans (congrArg _ (krstRestart_waits inside))
  case vectors => exact fun may => writeReg_taken may fun s => wb s .TG_CTL 0 1 true
  case near => exact fun may => writeReg_taken may fun s => wb s .TG_NWM 0 15 true
  case iram => exact fun may => writeReg_taken may fun s => wb s .TG_IWM 0 7 true

end Sys2Proof.Proofs
end

section
/-!
SUPPORT. What leaves the Tollgate's registers (0x500-0x5FF), every thread and every memory of CORE as they are: the units' states, the looks at
worlds, and the RESET of a ring channel (R598), which alone of these writes far SRAM.
-/
namespace Sys2Proof.Proofs
open Sys2Proof.Machine Sys2Proof.Laws

/-- From `s` to `t` no thread, no Tollgate register and no memory differs, far memory excepted unless `all`. -/
structure LeavesTollgate (all : Prop) (s t : State) : Prop where
  thr : t.thr = s.thr
  near : t.near = s.near
  bits : t.bits = s.bits
  iram : t.iram = s.iram
  nvByte : t.nvByte = s.nvByte
  memory : all → SameMemory s t
  io : ∀ (d : Nat → Quad) (a : Nat), 0x500 ≤ a → a < 0x600 → mget d t.io a = mget d s.io a

namespace LeavesTollgate

variable {all : Prop} {s t u : State}

/-- A change of other parts of the state than those named. -/
theorem of_same (thr : t.thr = s.thr) (memory : SameMemory s t) (io : t.io = s.io) : LeavesTollgate all s t := by
  obtain ⟨near, bits, iram, -, nvByte, -⟩ := id memory
  exact ⟨thr, near, bits, iram, nvByte, fun _ => memory, fun _ _ _ _ => by rw [io]⟩

theorem refl (s : State) : LeavesTollgate all s s := of_same rfl (SameMemory.refl s) rfl

theorem trans (h : LeavesTollgate all s t) (k : LeavesTollgate all t u) : LeavesTollgate all s u where
  thr := k.thr.trans h.thr
  near := k.near.trans h.near
  bits := k.bits.trans h.bits
  iram := k.iram.trans h.iram
  nvByte := k.nvByte.trans h.nvByte
  memory whole := SameMemory.trans (h.memory whole) (k.memory whole)
  io d a from500 to600 := (k.io d a from500 to600).trans (h.io d a from500 to600)

theorem of_eq (h : LeavesTollgate all s t) (same : t = u) : LeavesTollgate all s u := same ▸ h

theorem ite (h : LeavesTollgate all s t) (k : LeavesTollgate all s u) {p : Prop} [Decidable p] : LeavesTollgate all s (if p then t else u) := by
  split
  · exact h
  · exact k

theorem foldl {α : Type} {f : State → α → State} {l : List α} (h : LeavesTollgate all s t)
    (hf : ∀ u x, LeavesTollgate all s u → LeavesTollgate all s (f u x)) : LeavesTollgate all s (l.foldl f t) := by
  induction l generalizing t with
  | nil => exact h
  | cons x l ih => exact ih (hf t x h)

theorem leaves (h : LeavesTollgate all s t) (k : LeavesSystem t u) : LeavesTollgate all s u := by
  obtain ⟨near, bits, iram, -, nvByte, -⟩ := k.sameMemory
  exact h.trans ⟨k.thr, near, bits, iram, nvByte, fun _ => k.sameMemory, fun d a _ _ => k.io d a (by simp only [SystemAddr]; omega)⟩

theorem rd (h : LeavesTollgate all s t) (n : Fin 31) : rd t .TG_HO n = rd s .TG_HO n :=
  h.io _ _ (by simp only [regAddr, regInfo]; omega) (by simp only [regAddr, regInfo]; omega)

/-! ## One part of the state replaced -/

theorem wr (h : LeavesTollgate all s t) {r : Rg} (above : 0x600 ≤ (regInfo r).base) (i : Nat) (v : Quad) : LeavesTollgate all s (wr t r i v) :=
  h.trans ⟨rfl, rfl, rfl, rfl, rfl, fun _ => wr_memory .., fun d _ _ to600 => mget_wr_io_ne t d v (by simp only [regAddr]; omega)⟩

theorem wb (h : LeavesTollgate all s t) {r : Rg} (above : 0x600 ≤ (regInfo r).base) (i b : Nat) (x : Bool) :
    LeavesTollgate all s (wb t r i b x) := h.wr above i _

theorem resetRange (h : LeavesTollgate all s t) {lo : Nat} (above : 0x600 ≤ lo) (hi : Nat) : LeavesTollgate all s (resetRange t lo hi) := by
  refine h.trans ⟨rfl, rfl, rfl, rfl, rfl, fun _ => SameMemory.refl t, fun d a _ to600 => ?_⟩
  have kept : (!(decide (lo ≤ a % 2 ^ 20) && decide (a % 2 ^ 20 < hi))) = true := by
    rw [decide_eq_false (by omega : ¬ lo ≤ a % 2 ^ 20)]
    rfl
  exact (mget_filter d t.io (fun k => !(decide (lo ≤ k % 2 ^ 20) && decide (k % 2 ^ 20 < hi))) a).trans (if_pos kept)

theorem send (h : LeavesTollgate all s t) (c : Nat) (x : Xfer) : LeavesTollgate all s (send t c x) :=
  h.trans (of_same rfl (SameMemory.refl t) rfl)

theorem setChan (h : LeavesTollgate all s t) (c : Nat) (x : Chan) : LeavesTollgate all s (setChan t c x) :=
  h.trans (of_same rfl (SameMemory.refl t) rfl)

theorem setLedger (h : LeavesTollgate all s t) (l : Ledger) : LeavesTollgate all s { t with led := l } :=
  h.trans (of_same rfl (SameMemory.refl t) rfl)

theorem setCtr (h : LeavesTollgate all s t) (n : Nat) (x : Counter) : LeavesTollgate all s (setCtr t n x) :=
  h.trans (of_same rfl (SameMemory.refl t) rfl)

theorem setWp (h : LeavesTollgate all s t) (x : Wp) : LeavesTollgate all s (setWp t x) := h.trans (of_same rfl (SameMemory.refl t) rfl)

theorem setUsb (h : LeavesTollgate all s t) (x : Usb) : LeavesTollgate all s (setUsb t x) := h.trans (of_same rfl (SameMemory.refl t) rfl)

theorem startTimer (h : LeavesTollgate all s t) (k n : Nat) : LeavesTollgate all s (startTimer t k n) :=
  h.trans (of_same rfl (SameMemory.refl t) rfl)

theorem count (h : LeavesTollgate all s t) (i : Island) (code : Nat) : LeavesTollgate all s (count t i code) :=
  h.leaves ((LeavesSystem.refl t).count i code)

theorem raise (h : LeavesTollgate all s t) (i : Island) (src : Nat) : LeavesTollgate all s (raise t i src) :=
  h.leaves ((LeavesSystem.refl t).raise i src)

/-! ## The looks at worlds (R84, R459) and the states of units -/

theorem wmisUpdate (h : LeavesTollgate all s t) (n : Nat) : LeavesTollgate all s (wmisUpdate t n) := by
  have shown (x : Bool) := h.wb (r := .PIN_STAT) (by decide) n 3 x
  exact ite ((shown _).count _ _) (shown _)

theorem worldsLook (h : LeavesTollgate all s t) (c : Nat) : LeavesTollgate all s (worldsLook t c) := by
  have counted {p : Prop} [Decidable p] := ite (p := p) (h.count .fabric 0x20) h
  exact ite counted (counted.setChan _ _)

theorem setUnit (h : LeavesTollgate all s t) {n u : Nat} (unit : blockUnit n = some u) (m d : Nat) : LeavesTollgate all s (setUnit t u m d) := by
  have apart : ¬ SystemAddr (regAddr (unitReg u).1 (unitReg u).2) := by
    unfold blockUnit at unit
    split at unit <;> cases unit <;> decide
  exact h.leaves ((LeavesSystem.refl t).setUnit apart m d)

theorem ep0Flag (h : LeavesTollgate all s t) (bit : Nat) : LeavesTollgate all s (ep0Flag t bit) :=
  ite h ((h.wb (r := .USB_EP0CTL) (by decide) 0 bit true).raise .usb 96)

/-! ## Books (chapter 13) -/

theorem setTerm (h : LeavesTollgate all s t) (b k : Nat) (v : Quad) : LeavesTollgate all s (setTerm t b k v) := h.setLedger _

theorem touchBook (h : LeavesTollgate all s t) (b : Nat) : LeavesTollgate all s (touchBook t b) := by
  have touched : LeavesTollgate all s (setLastUpdate (Machine.wb t .LED_BAL 0 b false) b (some t.cycles)) :=
    (h.wb (by decide) 0 b false).setLedger _
  unfold Machine.touchBook
  dsimp only
  split
  · exact touched
  · exact touched.startTimer _ _

theorem book (h : LeavesTollgate all s t) (b src dst n : Nat) : LeavesTollgate all s (book t b src dst n) := by
  have taken : LeavesTollgate all s (debit t b src n) := ite (h.setTerm b src _) (h.setTerm b src _)
  have touched := (taken.setTerm b dst (term (debit t b src n) b dst + BitVec.ofNat 32 n)).touchBook b
  exact ite (touched.leaves ((LeavesSystem.refl _).imbalance b 2)) touched

theorem writeOff (h : LeavesTollgate all s t) (b src blk n : Nat) : LeavesTollgate all s (writeOff t b src blk n) := by
  have listed (l : Ledger) := ((h.book b src 2 n).setLedger l).wb (r := .LED_STAT) (by decide) 0 2 true
  exact ((ite ((listed _).wb (r := .LED_STAT) (by decide) 0 3 true) (listed _)).wr (r := .LED_WOCNT) (by decide) 0 _).count .fabric 0x30

/-! ## Far memory (chapter 09) -/

theorem countIf (h : LeavesTollgate all s t) (c : Bool) (code : Nat) : LeavesTollgate all s (countIf t c code) := ite (h.count _ _) h

theorem sealFault (h : LeavesTollgate all s t) (agent ch owner line kind : Nat) : LeavesTollgate all s (sealFault t agent ch owner line kind) := by
  have recorded (v w : Quad) := (h.wr (r := .SEAL_FAULT) (by decide) 0 v).wr (r := .SEAL_FAGENT) (by decide) 0 w
  exact ((ite (h.wr (r := .SEAL_FAULT) (by decide) 0 _) (recorded _ _)).count .fabric 0x1A).raise .fabric 58

/-- A refusal found in FABRIC is only reported. -/
theorem violateFrom_fabric (h : LeavesTollgate all s t) (kind agent addr : Nat) : LeavesTollgate all s (violateFrom t .fabric kind agent addr) :=
  h.send _ _

theorem farLoad (h : LeavesTollgate all s t) (kind agent ch owner : Nat) (world : Bool) (a n : Nat) :
    LeavesTollgate all s (farLoad t kind agent ch owner world a n).2.2.2 := by
  unfold Machine.farLoad
  extract_lets r bad good bytes s1 win s1' s2 keyless hits s3 strict s4 s5
  have holes : LeavesTollgate all s s1 := h.countIf _ _
  have windowed : LeavesTollgate all s s1' := ite (holes.count _ _) holes
  have drawn : LeavesTollgate all s s2 := ite (windowed.trans (u := { s1' with fresh := s1'.fresh + 32 }) (of_same rfl (SameMemory.refl _) rfl)) windowed
  have counted : LeavesTollgate all s s3 := ((drawn.countIf _ _).countIf _ _).countIf _ _
  have faulted : LeavesTollgate all s s4 := by
    unfold s4
    split
    · exact ite (counted.sealFault ..) counted
    · exact counted
  have told : LeavesTollgate all s s5 := by
    unfold s5
    split
    · exact ite (faulted.violateFrom_fabric ..) (faulted.violateFrom_fabric ..)
    · exact faulted
  split
  · exact h.violateFrom_fabric ..
  · exact told

theorem mergeByte (h : LeavesTollgate False s t) (a : Nat) (b : Byte) : LeavesTollgate False s (mergeByte t a b) :=
  h.trans ⟨rfl, rfl, rfl, rfl, rfl, False.elim, fun _ _ _ _ => rfl⟩

theorem farPut (h : LeavesTollgate False s t) (kind agent ch owner : Nat) (world : Bool) (a : Nat) (cells : List (Nat × Byte)) :
    LeavesTollgate False s (farPut t kind agent ch owner world a cells).2.2 := by
  unfold Machine.farPut
  extract_lets r bad good keyless miss hit s1 s2 s3 strict s4 s5 s6
  have counted : LeavesTollgate False s s3 := (((h.countIf _ _).countIf _ _).countIf _ _).countIf _ _
  have faulted : LeavesTollgate False s s4 := by
    unfold s4
    split
    · exact ite (counted.sealFault ..) counted
    · exact counted
  have merged : LeavesTollgate False s s5 := faulted.foldl fun _ _ hu => hu.mergeByte _ _
  have told : LeavesTollgate False s s6 := by
    unfold s6
    split
    · exact merged.violateFrom_fabric ..
    · exact merged
  split
  · exact h.violateFrom_fabric ..
  · exact told

/-! ## The RESET of a channel (R598) -/

theorem entryInfo (h : LeavesTollgate all s t) (c i : Nat) : LeavesTollgate all s (entryInfo t c i).2 := by
  unfold Machine.entryInfo
  split
  · exact h
  · exact h.farLoad ..

theorem retire (h : LeavesTollgate all s t) (c i : Nat) : LeavesTollgate all s (retire t c i) :=
  (((h.setChan c _).wr (r := .RING_NCOMPL) (by decide) c _).wr (r := .RING_RECL) (by decide) c _).wr (r := .RING_OUTST) (by decide) c _

/-- An access answers one of two states, where it is made and where it is left out. -/
theorem iteAt {α : Type} (state : α → State) {x y : α} (h : LeavesTollgate all s (state x)) (k : LeavesTollgate all s (state y)) {p : Prop}
    [Decidable p] : LeavesTollgate all s (state (if p then x else y)) := by
  split
  · exact h
  · exact k

theorem resetEntry (h : LeavesTollgate False s t) (c : Nat) (k : Compl) : LeavesTollgate False s (resetEntry t c k) := by
  have dropped {v : State} (hv : LeavesTollgate False s v) :
      LeavesTollgate False s (Machine.retire (Machine.count (Machine.writeOff v (4 + c) 5 (7 + c) 1) .fabric 0x27) c k.idx) :=
    ((hv.writeOff _ _ _ _).count _ _).retire _ _
  unfold Machine.resetEntry
  split
  next x s0 info =>
    have informed : LeavesTollgate False s s0 := (h.entryInfo c k.idx).of_eq (congrArg Prod.snd info)
    extract_lets cq
    split
    next ct r0 f0 s1 load =>
      have read := iteAt (p := cq = true) (fun r : List Byte × Bool × Bool × State => r.2.2.2) (x := chanLoad s0 c (cqSlot t c) 2)
        (y := ([], false, false, s0)) (informed.farLoad ..) informed
      have loaded : LeavesTollgate False s s1 := read.of_eq (congrArg (fun r => r.2.2.2) load)
      extract_lets k'
      split
      · exact dropped loaded
      · split
        next r1 f1 s2 store =>
          have put := iteAt (p := cq = true) (fun r : Bool × Bool × State => r.2.2) (x := chanStore s1 c (cqSlot t c) (complBytes x.tag k'))
            (y := (false, false, s1)) (loaded.farPut ..) loaded
          have stored : LeavesTollgate False s s2 := put.of_eq (congrArg (fun r => r.2.2) store)
          have advanced {p : Prop} [Decidable p] : LeavesTollgate False s (if p then cqAdvance s2 c else s2) :=
            ite (stored.wr (r := .RING_CQHEAD) (by decide) c _) stored
          split
          · exact dropped stored
          · split
            next r2 f2 s3 ending =>
              have ended : LeavesTollgate False s s3 := (advanced.farPut ..).of_eq (congrArg (fun r => r.2.2) ending)
              exact ite (dropped ended) ((ended.book _ _ _ _).retire _ _)

theorem ringReset (h : LeavesTollgate False s t) (c : Nat) : LeavesTollgate False s (ringReset t c) := by
  unfold Machine.ringReset
  extract_lets ch q b s1 s2 s3 compl s4 s5
  have purged : LeavesTollgate False s s1 := h.trans (of_same rfl (SameMemory.refl t) rfl)
  have taken : LeavesTollgate False s s2 := ite purged (purged.book _ _ _ _)
  have given : LeavesTollgate False s s4 := ((taken.setTerm _ _ _).setTerm _ _ _).setChan _ _
  have completed : LeavesTollgate False s s5 := given.foldl fun _ k hu => hu.resetEntry c k
  exact (completed.setChan _ _).resetRange (by omega) _

end LeavesTollgate
end Sys2Proof.Proofs
end

section
/-! # Chapter 08: the hand-over of a block (R462, R463, R468) -/
namespace Sys2Proof.Proofs
open Sys2Proof.Machine Sys2Proof.Laws

variable {s t u : State} {n : Nat}

/-! ## Request and QUIESCE (R462) -/

theorem hoRequest_idle (idle : hoPhase s n = 0) (free : rb s .TG_HO n 6 = false) : hoRequest s n = hoStart s n := if_pos ⟨idle, free⟩

theorem hoRequest_refused (refused : hoPhase s n ≠ 0 ∨ rb s .TG_HO n 6 = true) : hoRequest s n = occur s 0x13 1 :=
  if_neg fun holds => refused.elim (· holds.1) fun locked => Bool.false_ne_true (holds.2.symm.trans locked)

theorem LeavesTollgate.hoQuiesce {all : Prop} (h : LeavesTollgate all s t) (n : Nat) : LeavesTollgate all s (hoQuiesce t n) := by
  unfold Machine.hoQuiesce
  extract_lets s1
  have handed : LeavesTollgate all s s1 := by
    unfold s1
    split
    next unit => exact h.setUnit unit _ _
    · exact h
  have aborted : LeavesTollgate all s (wpAbort s1) := ite (handed.setWp _) handed
  have stopped : LeavesTollgate all s (ecStop s1 (n - 23)) :=
    ((handed.wb (r := .EC_CTL) (by decide) (n - 23) 0 false).setCtr _ _).wb (r := .EC_STAT) (by decide) (n - 23) _ _
  exact ite aborted (ite stopped handed)

/-- A block with work in progress waits for it, and for TG_HOLIMIT (R463 step 2). -/
theorem hoStart_busy (n : Fin 31) (busy : hoBusy (hoQuiesce (wf s .TG_HO n 3 2 1) n) n = true) :
    hoPhase (hoStart s n) n = 1 ∧ timerOn (hoStart s n) (tmrHo n) = true := by
  have row : hoStart s n = startTimer (hoQuiesce (wf s .TG_HO n 3 2 1) n) (tmrHo n)
      (usTicks (atLeast1 (rn (hoQuiesce (wf s .TG_HO n 3 2 1) n) .TG_HOLIMIT 0))) := if_pos busy
  have quiesced : LeavesTollgate True (wf s .TG_HO n 3 2 1) (hoStart s n) := by
    rw [row]
    exact ((LeavesTollgate.refl _).hoQuiesce n).startTimer _ _
  refine ⟨?_, by rw [row]; exact timerOn_startTimer ..⟩
  rw [hoPhase, rf, quiesced.rd n]
  exact rf_wf_same _ _ _ _ (by decide) (by decide)

/-! ## RESET of a counter's block (R463 step 3) -/

theorem hoBusy_counter (counter : 23 ≤ n) (s : State) : hoBusy s n = false := by
  unfold hoBusy
  split
  case h_8 =>
    rw [decide_eq_false (by omega), Bool.false_and]
  all_goals omega

theorem hoUnitReset_counter (counter : 23 ≤ n) (s : State) : hoUnitReset s n =
    resetRange (setCtr s (n - 23) Counter.reset) (0xA00 + 0x20 * (n - 23)) (0xA20 + 0x20 * (n - 23)) := by
  unfold hoUnitReset
  split
  case h_8 => rw [if_neg (by omega)]
  all_goals omega

theorem countsOnly_discardRet (s : State) (src : Nat) : CountsOnly s (discardRet s src) := by
  have cleared : CountsOnly s (setIcu s { s.icu with ret := mset (fun _ => false) s.icu.ret src false }) := ⟨rfl, fun _ _ _ => rfl⟩
  unfold discardRet
  split
  · exact (cleared.trans (countsOnly_dropMeasures _ src)).trans (countsOnly_send ..)
  · exact .refl s

theorem countsOnly_discardBlock (s : State) (n : Nat) : CountsOnly s (discardBlock s n) := by
  refine CountsOnly.foldl (fun s src => ?_) _ s
  split
  · exact (countsOnly_discardEdge s src).trans (countsOnly_discardRet _ src)
  · exact .refl s

/-- A register of a range that is reset reads its reset value (R19). -/
theorem rd_resetRange_inside (s : State) {lo hi : Nat} {r : Rg} {i : Nat} (small : hi ≤ 2 ^ 20) (above : lo ≤ regAddr r i)
    (below : regAddr r i < hi) : rd (resetRange s lo hi) r i = regReset r i := by
  have place : regAddr r i % 2 ^ 20 = regAddr r i := Nat.mod_eq_of_lt (by omega)
  have gone : ¬ (!(decide (lo ≤ regAddr r i % 2 ^ 20) && decide (regAddr r i % 2 ^ 20 < hi))) = true := by
    rw [place, decide_eq_true above, decide_eq_true below]
    decide
  exact (mget_filter (fun _ => regReset r i) s.io (fun k => !(decide (lo ≤ k % 2 ^ 20) && decide (k % 2 ^ 20 < hi))) _).trans (if_neg gone)

/-- A counter has no work in progress: its registers take their reset values at the request. -/
theorem hoStart_counter (n : Fin 31) (counter : 23 ≤ n.val) : let t := hoStart s n
    hoPhase t n = 2 ∧ rd t .EC_CTL (n - 23) = regReset .EC_CTL (n - 23) ∧ rd t .EC_COUNT (n - 23) = regReset .EC_COUNT (n - 23) ∧
      t.thr = s.thr ∧ SameMemory s t := by
  let s1 := hoQuiesce (wf s .TG_HO n 3 2 1) n
  let s2 := wf (stopTimer s1 (tmrHo n)) .TG_HO n 3 2 2
  let s3 := discardBlock s2 n
  have row : hoStart s n = resetRange (setCtr s3 (n - 23) Counter.reset) (0xA00 + 0x20 * (n - 23)) (0xA20 + 0x20 * (n - 23)) :=
    (if_neg (by rw [hoBusy_counter counter]; decide)).trans (hoUnitReset_counter counter s3)
  have quiesced : LeavesTollgate True (wf s .TG_HO n 3 2 1) s1 := (LeavesTollgate.refl _).hoQuiesce n
  have discarded : CountsOnly s2 s3 := countsOnly_discardBlock s2 n
  have reset : LeavesTollgate True s3 (hoStart s n) := by
    rw [row]
    exact ((LeavesTollgate.refl s3).setCtr _ _).resetRange (lo := 0xA00 + 0x20 * (n - 23)) (by omega) _
  have memory : SameMemory s s3 := SameMemory.trans (SameMemory.trans (wr_memory s .TG_HO n _) (quiesced.memory trivial))
    (SameMemory.trans (SameMemory.refl s2) discarded.sameMemory)
  refine ⟨?_, ?_, ?_, reset.thr.trans (discarded.thr.trans quiesced.thr), SameMemory.trans memory (reset.memory trivial)⟩
  · have low : regAddr .TG_HO n < 0xA00 := by simp only [regAddr, regInfo]; omega
    rw [hoPhase, rf, reset.rd n, discarded.rd (notCounterReg_low low)]
    exact rf_wf_same _ _ _ _ (by decide) (by decide)
  all_goals
    rw [row]
    exact rd_resetRange_inside _ (by omega) (by simp only [regAddr, regInfo]; omega) (by simp only [regAddr, regInfo]; omega)

/-! ## FLIP (R463 steps 4 and 5) -/

/-- TG_HOn as FLIP leaves it: the other world, no phase, DONE; a channel that turns normal has owner 15 for 0. -/
def turned (channel : Bool) (v : Quad) : Quad :=
  let v1 := putFld (putFld (putFld v 3 2 0) 0 0 (b01 (!v.getLsbD 0))) 4 4 1
  if channel = true ∧ v.getLsbD 0 = false ∧ fld v 11 8 = 0 then putFld v1 11 8 15 else v1

/-- Bits 0 to 4 are what they are whatever becomes of the owner. -/
theorem turned_low (channel : Bool) (v : Quad) {k : Nat} (low : k < 8) :
    (turned channel v).getLsbD k = (putFld (putFld (putFld v 3 2 0) 0 0 (b01 (!v.getLsbD 0))) 4 4 1).getLsbD k := by
  have apart : ¬ (8 ≤ k ∧ k ≤ 11) := by omega
  unfold turned
  dsimp only
  split
  · rw [getLsbD_putFld _ _ _ _ _ (by decide) (by decide), if_neg apart]
  · rfl

theorem turned_world (channel : Bool) (v : Quad) : (turned channel v).getLsbD 0 = !v.getLsbD 0 := by
  rw [turned_low _ _ (by decide), getLsbD_putFld _ _ _ _ _ (by decide) (by decide), if_neg (by decide),
    getLsbD_putFld _ _ _ _ _ (by decide) (by decide), if_pos (by decide)]
  cases v.getLsbD 0 <;> rfl

theorem turned_done (channel : Bool) (v : Quad) : (turned channel v).getLsbD 4 = true := by
  rw [turned_low _ _ (by decide), getLsbD_putFld _ _ _ _ _ (by decide) (by decide)]
  rfl

theorem turned_phase (channel : Bool) (v : Quad) : fld (turned channel v) 3 2 = 0 := by
  have phase (x : Nat) : fld (putFld (putFld (putFld v 3 2 0) 0 0 x) 4 4 1) 3 2 = 0 := by
    rw [fld_putFld_apart _ _ (by decide) (by decide) (.inl (by decide)), fld_putFld_apart _ _ (by decide) (by decide) (.inr (by decide))]
    exact fld_putFld _ _ (by decide) (by decide)
  unfold turned
  dsimp only
  split
  · rw [fld_putFld_apart _ _ (by decide) (by decide) (.inl (by decide)), phase]
  · rw [phase]

theorem turned_owner {v : Quad} (keeper : v.getLsbD 0 = false) (unowned : fld v 11 8 = 0) : fld (turned true v) 11 8 = 15 := by
  unfold turned
  rw [if_pos ⟨rfl, keeper, unowned⟩]
  exact fld_putFld _ _ (by decide) (by decide)

/-- FLIP's write of TG_HOn. -/
def hoTurned (s : State) (n : Nat) : State := wr s .TG_HO n (turned (decide (7 ≤ n ∧ n ≤ 22)) (rd s .TG_HO n))

/-- The state in which FLIP looks at the worlds: TG_HOn written, the block's unit DISABLED, the setup bytes told of. -/
def hoEnabled (s : State) (n : Nat) : State :=
  let s3 := match blockUnit n with
    | some u => setUnit s u 0 0
    | none => s
  if n = 5 ∧ s3.usb.setupKept = true then ep0Flag (setUsb s3 { s3.usb with setupKept := false }) 3 else s3

/-- A channel that turns normal without an owner has owner 15 in what FLIP writes. -/
theorem hoTurned_steps (s : State) (n : Nat) :
    let s1 := wb (wb (wf s .TG_HO n 3 2 0) .TG_HO n 0 (!(blockWorld s n))) .TG_HO n 4 true
    (if 7 ≤ n ∧ n ≤ 22 ∧ (!(blockWorld s n)) = true ∧ rf s1 .TG_HO n 11 8 = 0 then wf s1 .TG_HO n 11 8 15 else s1) = hoTurned s n := by
  let v := rd s .TG_HO n
  let v1 := putFld (putFld (putFld v 3 2 0) 0 0 (b01 (!v.getLsbD 0))) 4 4 1
  have written : wb (wb (wf s .TG_HO n 3 2 0) .TG_HO n 0 (!(blockWorld s n))) .TG_HO n 4 true = wr s .TG_HO n v1 := by
    simp only [wb, wf, rd_wr_same, wr_wr]
    rfl
  have owner : fld v1 11 8 = fld v 11 8 := by
    rw [fld_putFld_apart _ _ (by decide) (by decide) (.inr (by decide)), fld_putFld_apart _ _ (by decide) (by decide) (.inr (by decide)),
      fld_putFld_apart _ _ (by decide) (by decide) (.inr (by decide))]
  have keeper : (!(blockWorld s n)) = true ↔ v.getLsbD 0 = false := by rw [Bool.not_eq_true']; rfl
  have unowned : rf (wr s .TG_HO n v1) .TG_HO n 11 8 = 0 ↔ fld v 11 8 = 0 := by rw [rf, rd_wr_same, owner]
  have channel : decide (7 ≤ n ∧ n ≤ 22) = true ↔ 7 ≤ n ∧ n ≤ 22 := decide_eq_true_iff
  dsimp only
  rw [written, hoTurned, turned]
  simp only [keeper, unowned, channel, ← and_assoc]
  split
  · rw [wf, rd_wr_same, wr_wr]
  · rfl

theorem hoFlip_eq (reset : hoPhase s n = 2) (quiet : hoQuiet s n = true) : hoFlip s n =
    latchEdge (occur (forN 16 (wmisAll (hoEnabled (hoTurned (hoSettle s n) n) n)) worldsLook) 0x14 1) 23 := by
  have ready : ¬ (hoPhase s n ≠ 2 ∨ hoQuiet s n = false) := by simp [reset, quiet]
  rw [hoFlip, if_neg ready, ← hoTurned_steps]
  rfl

/-- What follows FLIP's write of TG_HOn leaves the Tollgate alone. -/
theorem hoFlip_leaves (reset : hoPhase s n = 2) (quiet : hoQuiet s n = true) :
    LeavesTollgate True (hoTurned (hoSettle s n) n) (hoFlip s n) := by
  have enabled (s : State) : LeavesTollgate True s (hoEnabled s n) := by
    unfold hoEnabled
    extract_lets s3
    have disabled : LeavesTollgate True s s3 := by
      unfold s3
      split
      next unit => exact (LeavesTollgate.refl s).setUnit unit 0 0
      · exact .refl s
    exact .ite ((disabled.setUsb _).ep0Flag 3) disabled
  have pins := (enabled (hoTurned (hoSettle s n) n)).foldl (l := List.range 96)
    (f := fun s n => if (pinBlock n (pinFunc s n)).isSome then wmisUpdate s n else s) fun _ k hu => .ite (hu.wmisUpdate k) hu
  have rings := pins.foldl (l := List.range 16) fun _ c hu => hu.worldsLook c
  rw [hoFlip_eq reset quiet]
  exact (rings.count .core 0x14).raise .core 23

theorem hoSettle_other (other : n < 7 ∨ 22 < n) (s : State) : hoSettle s n = s := if_neg (by omega)

/-- The RESET of a channel that FLIP runs leaves the Tollgate alone. -/
theorem hoSettle_leaves (s : State) (n : Nat) : LeavesTollgate False s (hoSettle s n) := .ite ((LeavesTollgate.refl s).ringReset _) (.refl s)

theorem rd_hoFlip (n : Fin 31) (reset : hoPhase s n = 2) (quiet : hoQuiet s n = true) :
    rd (hoFlip s n) .TG_HO n = turned (decide (7 ≤ n.val ∧ n.val ≤ 22)) (rd s .TG_HO n) := by
  rw [(hoFlip_leaves reset quiet).rd n, hoTurned, rd_wr_same, (hoSettle_leaves s n).rd n]

/-! ## The obligation -/

/-- Settles O32: a request begins QUIESCE or RESET or only counts, and FLIP's write of TG_HOn is what the block's register reads from then on. -/
theorem handOverProtocol : Obligations.HandOverProtocol := by
  refine fun s req n => ⟨fun may refused => ?refused, fun may idle free => ?request, fun live waits done => ?done, fun live other => ?stays,
    fun live waits due => ?forced, fun live reset quiet => ?flip, fun may => ?lock⟩
  case refused => exact (writeReg_taken may fun s => hoRequest s n).trans (congrArg _ (hoRequest_refused refused))
  case request =>
    have row : exec (.handoverRequest req n) s = .next (hoStart s n) :=
      (writeReg_taken may fun s => hoRequest s n).trans (congrArg _ (hoRequest_idle idle free))
    exact ⟨row, fun busy => Does.intro row (hoStart_busy n busy), fun counter => Does.intro row (hoStart_counter n counter)⟩
  case done => exact (liveIn_live live fun s => hoDone s n).trans (congrArg _ (if_pos ⟨waits, done⟩))
  case stays =>
    have still : hoDone s n = s := if_neg fun holds => other.elim (· holds.1) fun busy => Bool.false_ne_true (holds.2.symm.trans busy)
    exact (liveIn_live live fun s => hoDone s n).trans (congrArg _ still)
  case forced =>
    have row (tie : Bool) : exec (.handoverForced n tie) s = .next (expire s .core (tmrHo n) tie fun s => hoForce s n) :=
      (liveIn_live live fun s => if hoPhase s n = 1 then expire s .core (tmrHo n) tie fun s => hoForce s n else s).trans
        (congrArg _ (if_pos waits))
    exact ⟨(row false).trans (congrArg _ (expire_due .core due _)), (row true).trans (congrArg _ (expire_tie .core due _))⟩
  case flip =>
    have value := rd_hoFlip n reset quiet
    have told := hoFlip_leaves reset quiet
    have settled := hoSettle_leaves s n
    refine Does.intro (liveIn_live live fun s => hoFlip s n) ⟨?_, ?_, ?_, ?_, fun from7 to22 keeper unowned => ?_, told.thr.trans settled.thr,
      told.near.trans settled.near, told.bits.trans settled.bits, told.iram.trans settled.iram, told.nvByte.trans settled.nvByte,
      fun other => ?_⟩
    · rw [blockWorld, rb, value, turned_world]
      rfl
    · rw [hoPhase, rf, value, turned_phase]
    · rw [rb, value, turned_done]
    · show pendBit (hoFlip s n) 23 = true
      rw [hoFlip_eq reset quiet]
      exact pendBit_latchEdge _ rfl
    · rw [rf, value, decide_eq_true ⟨from7, to22⟩]
      exact turned_owner keeper unowned
    · have memory := told.memory trivial
      rw [hoSettle_other other] at memory
      exact SameMemory.trans (wr_memory ..) memory
  case lock => exact writeReg_taken may fun s => wb s .TG_HO n 6 true

end Sys2Proof.Proofs
end

section
/-! # Chapter 09: what a store leaves of a line whose W is 0 (R498, R510) -/
namespace Sys2Proof.Proofs
open Sys2Proof.Machine Sys2Proof.Laws

variable {s : State}

/-- A store into a line whose W is 0 merges its byte into a line of zeros (R498): every other byte of the line is 0 afterwards, whatever the
line was left holding when its W was cleared. -/
theorem byte_mergeByte_unwritten {a k : Nat} (unwritten : lineW s (a / 32) = false) (line : k / 32 = a / 32) (other : k ≠ a) (b : Byte) :
    mget (fun _ => (0 : Byte)) (mergeByte s a b).far.byte k = 0 := by
  have inside : 32 * (a / 32) ≤ k ∧ k < 32 * (a / 32) + 32 := by omega
  have erased : mget (fun _ => (0 : Byte)) (merase s.far.byte (32 * (a / 32)) (32 * (a / 32) + 32)) k = 0 := by
    refine (mget_filter _ _ (fun k => !(decide (32 * (a / 32) ≤ k) && decide (k < 32 * (a / 32) + 32))) k).trans ?_
    simp [inside]
  simp only [mergeByte, unwritten, Bool.false_eq_true, if_false]
  rw [mget_mset_ne _ _ _ _ other, erased]

/-- A store of one byte of far SRAM that passes the page check, by the owner of its line and with that owner's key there, is a merge of the
byte into its line and nothing else (R498). -/
theorem farStore_own {kind agent ch o a : Nat} {world : Bool} (sram : a < 0x400000) (unit : kind ≠ 8) (may : pageRefuses s world o a = false)
    (key : noKey s o = false) (own : lineTag s (a / 32) = o) (b : Byte) :
    farStore s kind agent ch o world a [b] = (false, false, mergeByte s a b) := by
  have cell : (farRange a [b].length).zip [b] = [(a, b)] := by
    have unwrapped : a < 0x1000000 := by omega
    simp [farRange, unwrapped]
  have region : farRegion a = 0 := if_pos sram
  rw [farStore, cell, farPut]
  simp [unit, region, may, key, own, countIf]

/-- The device with its keys, after owner 0's store of a byte at far address 1. -/
def storedState : State := (farStore (keysReady State.reset) 4 0 0 0 false 1 [0x5A]).2.2

/-- The same after a REKEY of owner 0. -/
def sweptState : State := rekeyDone (rekeyGo storedState 0)

/-- The sweep clears the line's W and takes no stored byte away (R510): the byte reads 0 from then on, but stays in the model's map. -/
theorem sweptState_line : lineW sweptState 0 = false ∧ mget (fun _ => (0 : Byte)) sweptState.far.byte 1 = 0x5A := ⟨rfl, rfl⟩

theorem farStore_sweptState (b : Byte) : farStore sweptState 4 0 0 0 false 0 [b] = (false, false, mergeByte sweptState 0 b) :=
  farStore_own (by decide) (by decide) rfl rfl rfl b

/-- Refutes O34: that no stored byte but the one written differs fails for a line whose W is 0. A REKEY of owner 0 leaves 0x5A stored at
address 1; owner 0's next store, at address 0, merges into a line of zeros (R498), and 0 is stored at address 1. -/
theorem not_keysAndSealedMemory : ¬ Obligations.KeysAndSealedMemory := by
  unfold Obligations.KeysAndSealedMemory
  rintro ⟨-, far⟩
  obtain ⟨own, -⟩ := far sweptState 4 0 0 0 0 7 false (by decide) (by decide)
  obtain ⟨-, -, -, -, others, -⟩ := own rfl rfl rfl
  obtain ⟨unwritten, stored⟩ := sweptState_line
  have zeroed : mget (fun _ => (0 : Byte)) (mergeByte sweptState 0 7).far.byte 1 = 0 :=
    byte_mergeByte_unwritten (a := 0) (k := 1) unwritten rfl (by decide) 7
  have kept := others 1 (by decide)
  rw [farStore_sweptState, zeroed, stored] at kept
  exact absurd kept (by decide)

end Sys2Proof.Proofs
end

section
/-! # Chapter 07: a committed slot map comes into force (R399, R400, R421) -/
namespace Sys2Proof.Proofs
open Sys2Proof.Machine Sys2Proof.Laws

variable {s : State} {v : Quad} {f : State → Nat → State} {l : List Nat}

/-- Steps that each leave a state as it is leave it so one after another. -/
theorem foldl_unchanged (still : ∀ x ∈ l, f s x = s) : l.foldl f s = s := by
  induction l with
  | nil => rfl
  | cons x l ih =>
    rw [List.foldl_cons, still x List.mem_cons_self]
    exact ih fun y hy => still y (List.mem_cons_of_mem x hy)

/-! ## The write (R400) -/

theorem slotWrite_taken (gives : inMap v 0 = true) : slotWrite s v =
    wb (setDev s { s.dev with slotPend := some (v &&& 0xFFFFFF), slotAt := (s.cycles / 8 + 1) * 8 }) .PMU_SLOTSTAT 0 0 true := if_pos gives

/-- A map without T0 is rejected and counted. -/
theorem slotWrite_refused (lacks : inMap v 0 = false) : CountsOnly (wb s .PMU_SLOTSTAT 0 1 true) (slotWrite s v) := by
  rw [slotWrite, lacks, if_neg Bool.false_ne_true]
  exact countsOnly_occur _ 0x15 1

/-! ## The slot-0 cycle (R399) -/

/-- With nothing in the pipeline only a committed map can come into force at the end of a cycle. -/
theorem cycleStep_empty (empty : s.pipe = []) (unwatched : levelsWatched s = false) : cycleStep s = slotDue { s with cycles := s.cycles + 1 } := by
  have passes := cycleStep_lands (due := []) (rest := []) unwatched empty (by simp) (by simp)
  exact passes.trans (congrArg (fun u : State => slotDue { u with cycles := u.cycles + 1 }) (pipe_emptied empty))

theorem slotDue_before (before : s.cycles < s.dev.slotAt) : slotDue s = s := by simp [slotDue, Nat.not_le.2 before]

theorem slotDue_reached (pending : s.dev.slotPend.isSome = true) (reached : s.dev.slotAt ≤ s.cycles) : slotDue s = slotApply s := by
  simp [slotDue, pending, reached]

/-- Until its slot-0 cycle a committed map waits, and nothing but cycles passes. -/
theorem cyclesPass_mapWaits {k : Nat} (empty : s.pipe = []) (unwatched : levelsWatched s = false) (before : s.cycles + k < s.dev.slotAt) :
    cyclesPass k s = { s with cycles := s.cycles + k } := by
  induction k with
  | zero => rfl
  | succ k ih =>
    rw [cyclesPass_succ, ih (by omega), cycleStep_empty (s := { s with cycles := s.cycles + k }) empty unwatched]
    exact slotDue_before (s := { s with cycles := s.cycles + k + 1 }) before

/-- The slot-0 cycle itself puts the map in force. -/
theorem cyclesPass_mapApplies {m : Quad} (empty : s.pipe = []) (unwatched : levelsWatched s = false) (pending : s.dev.slotPend = some m)
    (ahead : s.cycles < s.dev.slotAt) : cyclesPass (s.dev.slotAt - s.cycles) s = slotApply { s with cycles := s.dev.slotAt } := by
  obtain ⟨k, wait⟩ : ∃ k, s.dev.slotAt = s.cycles + k + 1 := ⟨s.dev.slotAt - s.cycles - 1, by omega⟩
  have cycles : s.dev.slotAt - s.cycles = k + 1 := by omega
  rw [cycles, cyclesPass_succ, cyclesPass_mapWaits empty unwatched (by omega),
    cycleStep_empty (s := { s with cycles := s.cycles + k }) empty unwatched, wait]
  exact slotDue_reached (s := { s with cycles := s.cycles + k + 1 }) (by rw [pending]; rfl) (by rw [wait])

/-- Where no delivery is committed none returns with the map. -/
theorem slotApply_undelivered {m : Quad} (pending : s.dev.slotPend = some m) (free : ∀ k, k < 8 → (thr s k).delivery = none) :
    slotApply s = wb (wr (setDev s { s.dev with slotPend := none }) .PMU_SLOTMAP 0 m) .PMU_SLOTSTAT 0 0 false := by
  let u := wb (wr (setDev s { s.dev with slotPend := none }) .PMU_SLOTMAP 0 m) .PMU_SLOTSTAT 0 0 false
  have kept (k : Nat) (low : k ∈ List.range 8) : (if ownsSlot u k then u else returnDelivery u k) = u := by
    rw [returnDelivery_none (s := u) (free k (List.mem_range.1 low)), ite_self]
  rw [slotApply, pending]
  exact foldl_unchanged kept

end Sys2Proof.Proofs
end

section
/-! # Chapter 10: commit and handler entry (R533, R536-R539, R541) -/
namespace Sys2Proof.Proofs
open Sys2Proof.Machine Sys2Proof.Laws

variable {s t u : State} {x : Quad} {n src : Nat}

/-! ## The commit (R536-R539) -/

theorem commitSource_idle (x : Quad) (unpended : pendBit s src = false ∧ retBit s src = false) : commitSource s x src = s := by
  obtain ⟨pend, ret⟩ := unpended
  simp [commitSource, pend, ret]

/-- A pending source's delivery is committed to a thread, and its edge's movement booked. -/
def committed (s : State) (src n : Nat) : State :=
  send (setThr (setIcu s { s.icu with pend := mset (fun _ => false) s.icu.pend src false, rr := mset (fun _ => 7) s.icu.rr src n }) n
    { thr s n with delivery := some src }) 0 (.book 23 3 5 1)

theorem inDelivery_none (free : ∀ k, k < 8 → (thr s k).delivery ≠ some src) : inDelivery s src = false :=
  List.any_eq_false.2 fun k low => by simpa using free k (List.mem_range.1 low)

theorem commitSource_picked (used : srcReserved src = false) (enabled : x.getLsbD 0 = true) (pend : pendBit s src = true)
    (ret : retBit s src = false) (free : ∀ k, k < 8 → (thr s k).delivery ≠ some src) (picked : pickTarget s x src = some n) :
    commitSource s x src = committed s src n := by
  simp only [commitSource, used, enabled, pend, ret, inDelivery_none free, picked]
  rfl

theorem pendBit_committed (s : State) (src n k : Nat) : pendBit (committed s src n) k = if k = src then false else pendBit s k :=
  mget_mset (fun _ => false) s.icu.pend k src false

/-- A lone source that is reached in the order of the sources commits, and after it none. -/
theorem foldl_commitSource_lone {view : State} {l : List Nat} (listed : src ∈ l)
    (commits : commitSource s (rd view .ICU_SRC src) src = committed s src n) (ret : retBit s src = false)
    (lone : ∀ k ∈ l, k ≠ src → pendBit s k = false ∧ retBit s k = false) :
    l.foldl (fun s k => commitSource s (rd view .ICU_SRC k) k) s = committed s src n := by
  induction l with
  | nil => cases listed
  | cons k l ih =>
    rw [List.foldl_cons]
    by_cases here : k = src
    · subst here
      rw [commits]
      refine foldl_unchanged fun j rest => commitSource_idle _ ?_
      rw [pendBit_committed]
      by_cases again : j = k
      · rw [if_pos again, again]
        exact ⟨rfl, ret⟩
      · rw [if_neg again]
        exact lone j (List.mem_cons_of_mem k rest) again
    · rw [commitSource_idle _ (lone k List.mem_cons_self here)]
      exact ih ((List.mem_cons.1 listed).resolve_left (Ne.symm here)) fun j rest => lone j (List.mem_cons_of_mem k rest)

theorem sourceOrder_lt {view : State} {k : Nat} (listed : k ∈ sourceOrder view) : k < 128 := by
  simp only [sourceOrder, List.mem_flatMap, List.mem_filter, List.mem_range] at listed
  obtain ⟨-, -, low, -⟩ := listed
  exact low

/-- Every source has its place by its PRIO (R537). -/
theorem mem_sourceOrder (view : State) (low : src < 128) : src ∈ sourceOrder view := by
  have prio : rf view .ICU_SRC src 2 1 < 4 := Nat.mod_lt _ (by decide)
  simp only [sourceOrder, List.mem_flatMap, List.mem_filter, List.mem_range, beq_iff_eq, List.mem_cons, List.not_mem_nil, or_false]
  exact ⟨rf view .ICU_SRC src 2 1, by omega, low, rfl⟩

theorem dozeExit_awake (awake : s.dev.doze = false) : dozeExit s = s := by
  have same : leaveDoze s = s := by simp [leaveDoze, awake]
  rw [dozeExit, same, ite_self]

theorem icuCommitBy_idle (view : State) (awake : s.dev.doze = false) (idle : ∀ k, k < 128 → pendBit s k = false ∧ retBit s k = false) :
    icuCommitBy view s = s := by
  have unchanged : (sourceOrder view).foldl (fun s k => commitSource s (rd view .ICU_SRC k) k) s = s :=
    foldl_unchanged fun k listed => commitSource_idle _ (idle k (sourceOrder_lt listed))
  rw [icuCommitBy, unchanged, dozeExit_awake awake]

theorem icuCommitBy_lone {view : State} (low : src < 128) (awake : s.dev.doze = false)
    (commits : commitSource s (rd view .ICU_SRC src) src = committed s src n) (ret : retBit s src = false)
    (lone : ∀ k, k < 128 → k ≠ src → pendBit s k = false ∧ retBit s k = false) : icuCommitBy view s = committed s src n := by
  have commit := foldl_commitSource_lone (mem_sourceOrder view low) commits ret fun k listed => lone k (sourceOrder_lt listed)
  rw [icuCommitBy, commit]
  exact dozeExit_awake awake

/-! ## Handler entry (R533, R541) -/

/-- From `s` to `t` measurements have closed (R1130): but for the counters and their registers (chapter 22) nothing differs. -/
structure ClosesOnly (s t : State) : Prop where
  others : t = { s with io := t.io, ctr := t.ctr }
  io : ∀ (d : Nat → Quad) (a : Nat), a < 0xA00 → mget d t.io a = mget d s.io a

namespace ClosesOnly

theorem refl (s : State) : ClosesOnly s s := ⟨rfl, fun _ _ _ => rfl⟩

theorem wr (h : ClosesOnly s t) {r : Rg} (counters : 0xA00 ≤ (regInfo r).base) (i : Nat) (v : Quad) : ClosesOnly s (wr t r i v) where
  others := congrArg (fun u : State => Machine.wr u r i v) h.others
  io d a low := (mget_wr_io_ne t d v (by simp only [regAddr]; omega)).trans (h.io d a low)

theorem wb (h : ClosesOnly s t) {r : Rg} (counters : 0xA00 ≤ (regInfo r).base) (i b : Nat) (x : Bool) : ClosesOnly s (wb t r i b x) :=
  h.wr counters i _

theorem setCtr (h : ClosesOnly s t) (i : Nat) (c : Counter) : ClosesOnly s (setCtr t i c) :=
  ⟨congrArg (fun u : State => Machine.setCtr u i c) h.others, h.io⟩

theorem ite (h : ClosesOnly s t) (k : ClosesOnly s u) {p : Prop} [Decidable p] : ClosesOnly s (if p then t else u) := by
  split
  · exact h
  · exact k

theorem closeMeasure (h : ClosesOnly s t) (i src : Nat) : ClosesOnly s (closeMeasure t i src) := by
  unfold Machine.closeMeasure
  split
  next o opened =>
    let v := BitVec.ofNat 32 (min (latencyOf t i o) 0xFFFFFFFF)
    have last := ((h.setCtr i { ctr t i with opened := none }).wb (r := .EC_STAT) (by decide) i 2 false).wr (r := .EC_LAST) (by decide) i v
    have count {p : Prop} [Decidable p] := ite (p := p) (last.wr (r := .EC_COUNT) (by decide) i v) last
    exact ite (ite (count.wb (by decide) i 0 true) count) h
  · exact h

theorem foldl {f : State → Nat → State} {l : List Nat} (h : ClosesOnly s t) (hf : ∀ u i, ClosesOnly s u → ClosesOnly s (f u i)) :
    ClosesOnly s (l.foldl f t) := by
  induction l generalizing t with
  | nil => exact h
  | cons i l ih => exact ih (hf t i h)

theorem closeMeasures (s : State) (src : Nat) : ClosesOnly s (closeMeasures s src) := (refl s).foldl fun _ i h => h.closeMeasure i src

theorem thr (h : ClosesOnly s t) : t.thr = s.thr := by rw [h.others]

theorem sameMemory (h : ClosesOnly s t) : SameMemory s t := by rw [h.others]; exact SameMemory.refl s

end ClosesOnly

/-- A thread as handler entry leaves it (R541, R1251). -/
def inHandler (s : State) (n src : Nat) : Thread :=
  { thr s n with st := .running, park := .none, epc := entryEpc (thr s n), inh := true, delivery := none, pc := vectorOf s n src }

/-- The thread enters its handler, ICU_CURn has the source, the edge is booked and the measurements of the source close. -/
theorem handlerEntry_closes (held : (thr s n).delivery = some src) :
    ClosesOnly (send (wr (setThr s n (inHandler s n src)) .ICU_CUR n (BitVec.ofNat 32 (src + 128))) 0 (.book 23 5 1 1)) (handlerEntry s n) := by
  have row : handlerEntry s n = closeMeasures
      (send (wr (setThr s n (inHandler s n src)) .ICU_CUR n (BitVec.ofNat 32 (src + 128))) 0 (.book 23 5 1 1)) src := by
    unfold handlerEntry
    dsimp only
    rw [held]
    rfl
  rw [row]
  exact .closeMeasures _ src

theorem handlerEntry_effects (low : n < 8) (held : (thr s n).delivery = some src) : let t := handlerEntry s n
    thr t n = inHandler s n src ∧ (∀ k, k ≠ n → thr t k = thr s k) ∧ rd t .ICU_CUR n = BitVec.ofNat 32 (src + 128) ∧ SameMemory s t := by
  have closes := handlerEntry_closes held
  have below : regAddr .ICU_CUR n < 0xA00 := by simp only [regAddr, regInfo]; omega
  refine ⟨(thr_congr closes.thr n).trans (thr_setThr_same ..), fun k other => (thr_congr closes.thr k).trans (thr_setThr_ne _ _ _ _ other),
    (closes.io _ _ below).trans (rd_wr_same ..), ?_⟩
  exact SameMemory.trans (wr_memory (setThr s n (inHandler s n src)) .ICU_CUR n (BitVec.ofNat 32 (src + 128))) closes.sameMemory

/-- A thread with a slot that is ready there is so in its next slot, and nothing but cycles has passed until then. -/
theorem nextSlot_owned {ready : State → Nat → Bool} (quiet : Quiet s) (owns : ownsSlot s n = true) (may : ready (atSlot s n) n = true) :
    nextSlot ready n slotHorizon s = some ({ s with cycles := (atSlot s n).cycles - 1 }, atSlot s n) ∧ s.cycles < (atSlot s n).cycles := by
  obtain ⟨k, low, wait, here, before⟩ := slotWait_first owns
  have slot : atSlot s n = { s with cycles := s.cycles + k + 1 } := by rw [atSlot, wait, Nat.add_assoc]
  rw [slot] at may ⊢
  exact ⟨nextSlot_at quiet (Nat.lt_trans low (by decide)) before here may, by dsimp only; omega⟩

theorem canEnter_of (issues : coreIssues s = true) (owns : ownsSlot s n = true) (able : (thr s n).st = .running ∨ (thr s n).st = .parked)
    (boundary : (thr s n).target = none) (free : (thr s n).forced = false) (held : (thr s n).delivery = some src) : canEnter s n = true := by
  rcases able with able | able <;> simp [canEnter, issues, owns, able, boundary, free, held]

/-- The handler is entered in the thread's next slot, and that cycle is left to the handler's first instruction. -/
theorem exec_handlerEntry {n : Fin 8} (quiet : Quiet s) (owns : ownsSlot s n = true) (may : canEnter s n = true) :
    exec (.handlerEntry n) s = .next { handlerEntry (atSlot s n) n with cycles := (atSlot s n).cycles - 1 } := by
  obtain ⟨found, -⟩ := nextSlot_owned (ready := canEnter) quiet owns may
  show Host.Outcome.next (match nextSlot canEnter n slotHorizon s with
    | some (_, s1) => { handlerEntry s1 n with cycles := s1.cycles - 1 }
    | none => s) = _
  rw [found]

/-! ## The obligation -/

/-- Settles O30: a committed map waits for its slot-0 cycle, the lone source is the one that the arbitration commits, and a handler is entered as
its thread's next slot comes. -/
theorem slotMapAndInterruptDelivery : Obligations.SlotMapAndInterruptDelivery := by
  intro s req v n src
  refine ⟨fun may gives => ?taken, fun may lacks => ?refused, fun live empty unwatched pending ahead free => ?applies, ?commit, ?idle, ?entry,
    fun may => ?lock⟩
  case taken =>
    refine Does.intro (writeReg_taken may fun s => slotWrite s v) ?_
    rw [slotWrite_taken gives]
    exact ⟨rfl, rb_wb_same _ _ _ _ _ (by decide), rd_wb_ne _ _ _ _ _ _ _ (by decide), rfl, wr_memory ..⟩
  case refused =>
    have counted := slotWrite_refused (s := s) lacks
    refine Does.intro (writeReg_taken may fun s => slotWrite s v)
      ⟨by rw [counted.dev]; rfl, ?_, ?_, counted.thr, SameMemory.trans (wr_memory ..) counted.sameMemory⟩
    · rw [rb, counted.rd (notCounterReg_low (by decide))]
      exact rb_wb_same s .PMU_SLOTSTAT 0 1 true (by decide)
    · rw [counted.rd (notCounterReg_low (by decide)), rd_wb_ne _ _ _ _ _ _ _ (by decide)]
  case applies =>
    have row : exec .slotmapApply s = .next (if s.dev.slotPend.isSome then cyclesPass (s.dev.slotAt - s.cycles) s else s) := liveIn_live live _
    rw [pending, Option.isSome_some, if_pos rfl, cyclesPass_mapApplies empty unwatched pending ahead,
      slotApply_undelivered (s := { s with cycles := s.dev.slotAt }) pending free] at row
    refine Does.intro row ⟨rfl, ?_, rb_wb_same _ _ _ _ _ (by decide), rfl, rfl, SameMemory.trans (wr_memory _ .PMU_SLOTMAP 0 v) (wr_memory ..)⟩
    rw [rd_wb_ne _ _ _ _ _ _ _ (by decide), rd_wr_same]
  case commit =>
    intro live empty awake used enabled pend ret lone free picked
    have row : exec .icuCommit s = .next (icuCommitBy (icuView s) s) := liveIn_live live icuCommit
    rw [icuView_empty empty, icuCommitBy_lone src.isLt awake (commitSource_picked used enabled pend ret free picked) ret lone] at row
    refine Does.intro row ⟨thr_setThr_same .., fun k other => thr_setThr_ne _ _ _ _ other, ?_, ?_, rfl, SameMemory.refl s⟩
    · rw [pendBit_committed, if_pos rfl]
    · exact mget_mset_same (fun _ => 7) s.icu.rr src n.val
  case idle =>
    intro idle live awake
    exact (liveIn_live live icuCommit).trans (congrArg _ (icuCommitBy_idle (icuView s) awake idle))
  case entry =>
    intro quiet issues owns able boundary unforced held
    have may := canEnter_of issues owns able boundary unforced held
    obtain ⟨-, ahead⟩ := nextSlot_owned (ready := canEnter) quiet owns may
    obtain ⟨thread, others, current, memory⟩ := handlerEntry_effects (s := atSlot s n) n.isLt held
    refine Does.intro (exec_handlerEntry quiet owns may) ⟨?epc, by dsimp only; omega, ?st, ?inh, ?delivery, ?pc, ?g, ?p, current, others,
      SameMemory.trans (SameMemory.refl s) memory⟩
    all_goals
      refine (congrArg _ thread).trans ?_
      rfl
  case lock => exact writeReg_taken may fun s => wb s .ICU_CTL 0 0 true

end Sys2Proof.Proofs
end

section
/-!
SUPPORT. What far accesses, books and error reports leave of the channels (chapter 11): the channels themselves, their registers and every thread.
-/
namespace Sys2Proof.Proofs
open Sys2Proof.Machine Sys2Proof.Laws

/-! ## The registers of a channel -/

/-- A register that each of the sixteen channels has. -/
abbrev OfChannel (r : Rg) : Prop := (regInfo r).stride = 0x40 ∧ 0x1000 ≤ (regInfo r).base ∧ (regInfo r).base < 0x1040

theorem regAddr_channel_ne {q r : Rg} (hq : OfChannel q) (hr : OfChannel r) (apart : (regInfo q).base ≠ (regInfo r).base) (c : Nat) :
    regAddr q c ≠ regAddr r c := by
  rw [regAddr, regAddr, hq.1, hr.1]
  omega

theorem rd_wr_channel (s : State) {q r : Rg} (hq : OfChannel q) (hr : OfChannel r) (apart : (regInfo q).base ≠ (regInfo r).base) (c : Nat)
    (v : Quad) : rd (wr s r c v) q c = rd s q c := rd_wr_ne _ _ _ _ _ _ (regAddr_channel_ne hq hr apart c)

theorem rd_wb_channel (s : State) {q r : Rg} (hq : OfChannel q) (hr : OfChannel r) (apart : (regInfo q).base ≠ (regInfo r).base) (c b : Nat)
    (x : Bool) : rd (wb s r c b x) q c = rd s q c := rd_wr_channel s hq hr apart c _

/-- A bit outside a field that is written stays. -/
theorem rb_wf_apart (s : State) (r : Rg) (i x : Nat) {hi lo b : Nat} (hi32 : hi < 32) (hl : lo ≤ hi) (apart : b < lo ∨ hi < b) :
    rb (wf s r i hi lo x) r i b = rb s r i b := by
  rw [rb, wf, rd_wr_same, getLsbD_putFld _ _ _ _ _ hi32 hl, if_neg (by omega), rb]

theorem rb_congr {s t : State} {r : Rg} {i : Nat} (same : rd t r i = rd s r i) (b : Nat) : rb t r i b = rb s r i b := by rw [rb, same, rb]

theorem rf_congr {s t : State} {r : Rg} {i : Nat} (same : rd t r i = rd s r i) (hi lo : Nat) : rf t r i hi lo = rf s r i hi lo := by
  rw [rf, same, rf]

theorem rn_congr {s t : State} {r : Rg} {i : Nat} (same : rd t r i = rd s r i) : rn t r i = rn s r i := by rw [rn, same, rn]

theorem chanOf_congr {s t : State} (same : t.chan = s.chan) (c : Nat) : chanOf t c = chanOf s c := by rw [chanOf, same, chanOf]

@[simp] theorem chanOf_setChan (s : State) (c : Nat) (x : Chan) : chanOf (setChan s c x) c = x := mget_mset_same _ _ _ _

theorem term_congr {s t : State} (same : t.led = s.led) (b k : Nat) : term t b k = term s b k := by rw [term, same, term]

@[simp] theorem count_fabric (s : State) (code : Nat) : count s .fabric code = send s 1 (.count code 1) := count_send (by decide) s code

/-! ## The state around the channels -/

/-- From `s` to `t` no channel, no register of a channel and no thread differs; nor the Ledger where `books`, nor far memory
where `sram`. -/
structure LeavesChannels (books sram : Prop) (s t : State) : Prop where
  chan : t.chan = s.chan
  thr : t.thr = s.thr
  near : t.near = s.near
  led : books → t.led = s.led
  far : sram → t.far = s.far
  io : ∀ (d : Nat → Quad) (a : Nat), 0x1000 ≤ a → a < 0x1400 → mget d t.io a = mget d s.io a

namespace LeavesChannels

variable {books sram : Prop} {s t u : State}

theorem refl (s : State) : LeavesChannels books sram s s := ⟨rfl, rfl, rfl, fun _ => rfl, fun _ => rfl, fun _ _ _ _ => rfl⟩

theorem trans (h : LeavesChannels books sram s t) (k : LeavesChannels books sram t u) : LeavesChannels books sram s u where
  chan := k.chan.trans h.chan
  thr := k.thr.trans h.thr
  near := k.near.trans h.near
  led kept := (k.led kept).trans (h.led kept)
  far kept := (k.far kept).trans (h.far kept)
  io d a above below := (k.io d a above below).trans (h.io d a above below)

theorem ite (h : LeavesChannels books sram s t) (k : LeavesChannels books sram s u) {p : Prop} [Decidable p] :
    LeavesChannels books sram s (if p then t else u) := by
  split
  · exact h
  · exact k

theorem foldl {α : Type} {f : State → α → State} {l : List α} (h : LeavesChannels books sram s t)
    (hf : ∀ u x, LeavesChannels books sram s u → LeavesChannels books sram s (f u x)) : LeavesChannels books sram s (l.foldl f t) := by
  induction l generalizing t with
  | nil => exact h
  | cons x l ih => exact ih (hf t x h)

theorem chanOf (h : LeavesChannels books sram s t) (c : Nat) : chanOf t c = chanOf s c := chanOf_congr h.chan c

theorem rd (h : LeavesChannels books sram s t) {r : Rg} (channel : OfChannel r) (c : Fin 16) : rd t r c = rd s r c := by
  obtain ⟨stride, above, below⟩ := channel
  exact h.io _ _ (by rw [regAddr]; omega) (by rw [regAddr, stride]; omega)

theorem rb (h : LeavesChannels books sram s t) {r : Rg} (channel : OfChannel r) (c : Fin 16) (b : Nat) : rb t r c b = rb s r c b :=
  rb_congr (h.rd channel c) b

/-! ### One part of the state replaced -/

theorem wr (h : LeavesChannels books sram s t) {r : Rg} {i : Nat} (below : regAddr r i < 0x1000) (v : Quad) :
    LeavesChannels books sram s (wr t r i v) :=
  h.trans ⟨rfl, rfl, rfl, fun _ => rfl, fun _ => rfl, fun d _ _ _ => mget_wr_io_ne t d v (by omega)⟩

theorem wb (h : LeavesChannels books sram s t) {r : Rg} {i : Nat} (below : regAddr r i < 0x1000) (b : Nat) (x : Bool) :
    LeavesChannels books sram s (wb t r i b x) := h.wr below _

theorem send (h : LeavesChannels books sram s t) (c : Nat) (x : Xfer) : LeavesChannels books sram s (send t c x) :=
  h.trans ⟨rfl, rfl, rfl, fun _ => rfl, fun _ => rfl, fun _ _ _ _ => rfl⟩

theorem count (h : LeavesChannels books sram s t) (code : Nat) : LeavesChannels books sram s (count t .fabric code) := h.send _ _

theorem raise (h : LeavesChannels books sram s t) (src : Nat) : LeavesChannels books sram s (raise t .fabric src) := h.send _ _

theorem drawFree (h : LeavesChannels books sram s t) (n : Nat) : LeavesChannels books sram s { t with fresh := n } :=
  h.trans ⟨rfl, rfl, rfl, fun _ => rfl, fun _ => rfl, fun _ _ _ _ => rfl⟩

theorem startTimer (h : LeavesChannels books sram s t) (k n : Nat) : LeavesChannels books sram s (startTimer t k n) :=
  h.trans ⟨rfl, rfl, rfl, fun _ => rfl, fun _ => rfl, fun _ _ _ _ => rfl⟩

theorem stopTimer (h : LeavesChannels books sram s t) (k : Nat) : LeavesChannels books sram s (stopTimer t k) :=
  h.trans ⟨rfl, rfl, rfl, fun _ => rfl, fun _ => rfl, fun _ _ _ _ => rfl⟩

theorem setLedger (h : LeavesChannels False sram s t) (l : Ledger) : LeavesChannels False sram s { t with led := l } :=
  h.trans ⟨rfl, rfl, rfl, False.elim, fun _ => rfl, fun _ _ _ _ => rfl⟩

theorem mergeByte (h : LeavesChannels books False s t) (a : Nat) (b : Byte) : LeavesChannels books False s (mergeByte t a b) :=
  h.trans ⟨rfl, rfl, rfl, fun _ => rfl, False.elim, fun _ _ _ _ => rfl⟩

/-! ### Reports -/

theorem countIf (h : LeavesChannels books sram s t) (p : Bool) (code : Nat) : LeavesChannels books sram s (countIf t p code) :=
  ite (h.count _) h

theorem violateFrom_fabric (h : LeavesChannels books sram s t) (kind agent addr : Nat) :
    LeavesChannels books sram s (violateFrom t .fabric kind agent addr) := h.send _ _

theorem sealFault (h : LeavesChannels books sram s t) (agent ch owner line kind : Nat) :
    LeavesChannels books sram s (sealFault t agent ch owner line kind) := by
  have recorded (v w : Quad) := (h.wr (r := .SEAL_FAULT) (i := 0) (by decide) v).wr (r := .SEAL_FAGENT) (i := 0) (by decide) w
  exact ((ite (h.wr (r := .SEAL_FAULT) (i := 0) (by decide) _) (recorded _ _)).count 0x1A).raise 58

/-! ### Far accesses -/

theorem farLoad (h : LeavesChannels books sram s t) (kind agent ch owner : Nat) (world : Bool) (a n : Nat) :
    LeavesChannels books sram s (farLoad t kind agent ch owner world a n).2.2.2 := by
  unfold Machine.farLoad
  extract_lets r bad good bytes s1 win s1' s2 keyless hits s3 strict s4 s5
  have windowed : LeavesChannels books sram s s1' := ite ((h.countIf _ _).send _ _) (h.countIf _ _)
  have drawn : LeavesChannels books sram s s2 := ite (windowed.drawFree _) windowed
  have counted : LeavesChannels books sram s s3 := ((drawn.countIf _ _).countIf _ _).countIf _ _
  have faulted : LeavesChannels books sram s s4 := by
    unfold s4
    split
    · exact ite (counted.sealFault ..) counted
    · exact counted
  have told : LeavesChannels books sram s s5 := by
    unfold s5
    split
    · exact ite (faulted.violateFrom_fabric ..) (faulted.violateFrom_fabric ..)
    · exact faulted
  split
  · exact h.violateFrom_fabric ..
  · exact told

theorem farPut (h : LeavesChannels books False s t) (kind agent ch owner : Nat) (world : Bool) (a : Nat) (cells : List (Nat × Byte)) :
    LeavesChannels books False s (farPut t kind agent ch owner world a cells).2.2 := by
  unfold Machine.farPut
  extract_lets r bad good keyless miss hit s1 s2 s3 strict s4 s5 s6
  have counted : LeavesChannels books False s s3 := (((h.countIf _ _).countIf _ _).countIf _ _).countIf _ _
  have faulted : LeavesChannels books False s s4 := by
    unfold s4
    split
    · exact ite (counted.sealFault ..) counted
    · exact counted
  have merged : LeavesChannels books False s s5 := faulted.foldl fun _ _ hu => hu.mergeByte _ _
  have told : LeavesChannels books False s s6 := by
    unfold s6
    split
    · exact merged.violateFrom_fabric ..
    · exact merged
  split
  · exact h.violateFrom_fabric ..
  · exact told

theorem entryInfo (h : LeavesChannels books sram s t) (c i : Nat) : LeavesChannels books sram s (entryInfo t c i).2 := by
  unfold Machine.entryInfo
  split
  · exact h
  · exact h.farLoad ..

/-! ### Books -/

theorem touchBook (h : LeavesChannels False sram s t) (b : Nat) : LeavesChannels False sram s (touchBook t b) := by
  have touched : LeavesChannels False sram s (setLastUpdate (Machine.wb t .LED_BAL 0 b false) b (some t.cycles)) :=
    (h.wb (by decide) b false).setLedger _
  unfold Machine.touchBook
  dsimp only
  split
  · exact touched
  · exact touched.startTimer _ _

theorem clearBook (h : LeavesChannels False sram s t) (b : Nat) : LeavesChannels False sram s (clearBook t b) := by
  have emptied := h.foldl (l := List.range 7) (f := fun s k => setToward (setTerm s b k 0) b k 0) fun _ _ hu => (hu.setLedger _).setLedger _
  exact (emptied.setLedger _).stopTimer _

theorem imbalance (h : LeavesChannels False sram s t) (b kind : Nat) : LeavesChannels False sram s (imbalance t b kind) := by
  have recorded : LeavesChannels False sram s (imbRecord t b kind) :=
    ite ((h.setLedger _).wr (r := .LED_IMB) (i := 0) (by decide) _)
      (ite (h.wr (r := .LED_IMB) (i := 0) (by decide) _) (h.wr (r := .LED_IMB) (i := 0) (by decide) _))
  have marked := ((recorded.wb (r := .LED_FAILED) (i := 0) (by decide) b true).wb (r := .LED_STAT) (i := 0) (by decide) 0 true).wb
    (r := .LED_STAT) (i := 0) (by decide) 1 true
  have told (l : Ledger) := ((marked.setLedger l).count 0x2E).raise 57
  exact ite ((told _).send _ _) (told _)

theorem book (h : LeavesChannels False sram s t) (b src dst n : Nat) : LeavesChannels False sram s (book t b src dst n) := by
  have taken : LeavesChannels False sram s (debit t b src n) := ite (h.setLedger _) (h.setLedger _)
  have touched := (taken.setLedger (credit (debit t b src n) b dst n).led).touchBook b
  exact ite (touched.imbalance b 2) touched

end LeavesChannels

/-! ## Flags and reports -/

/-- From `s` to `t` nothing differs but transfers that have been sent, ERRIDX of channel `c` and the bits of its STAT, of these not CQSTALL. -/
structure FlagsOnly (c : Nat) (s t : State) : Prop where
  others : t = { s with io := t.io, xwait := t.xwait }
  io : ∀ (d : Nat → Quad) (a : Nat), a ≠ regAddr .RING_STAT c → a ≠ regAddr .RING_ERRIDX c → mget d t.io a = mget d s.io a
  stall : rb t .RING_STAT c 2 = rb s .RING_STAT c 2

namespace FlagsOnly

variable {c : Nat} {s t u : State}

theorem refl (c : Nat) (s : State) : FlagsOnly c s s := ⟨rfl, fun _ _ _ _ => rfl, rfl⟩

theorem trans (h : FlagsOnly c s t) (k : FlagsOnly c t u) : FlagsOnly c s u where
  others := k.others.trans (by rw [h.others])
  io d a stat erridx := (k.io d a stat erridx).trans (h.io d a stat erridx)
  stall := k.stall.trans h.stall

theorem ite (h : FlagsOnly c s t) (k : FlagsOnly c s u) {p : Prop} [Decidable p] : FlagsOnly c s (if p then t else u) := by
  split
  · exact h
  · exact k

theorem thr (h : FlagsOnly c s t) : t.thr = s.thr := by rw [h.others]

theorem near (h : FlagsOnly c s t) : t.near = s.near := by rw [h.others]

theorem far (h : FlagsOnly c s t) : t.far = s.far := by rw [h.others]

theorem led (h : FlagsOnly c s t) : t.led = s.led := by rw [h.others]

theorem chan (h : FlagsOnly c s t) : t.chan = s.chan := by rw [h.others]

theorem sameMemory (h : FlagsOnly c s t) : SameMemory s t := by rw [h.others]; exact SameMemory.refl s

theorem chanOf (h : FlagsOnly c s t) (k : Nat) : chanOf t k = chanOf s k := chanOf_congr h.chan k

theorem rd (h : FlagsOnly c s t) {r : Rg} (channel : OfChannel r) (stat : (regInfo r).base ≠ (regInfo .RING_STAT).base)
    (erridx : (regInfo r).base ≠ (regInfo .RING_ERRIDX).base) : rd t r c = rd s r c :=
  h.io _ _ (regAddr_channel_ne channel (by decide) stat c) (regAddr_channel_ne channel (by decide) erridx c)

/-! ### What sets them -/

theorem send (h : FlagsOnly c s t) (k : Nat) (x : Xfer) : FlagsOnly c s (send t k x) := h.trans ⟨rfl, fun _ _ _ _ => rfl, rfl⟩

theorem wb (h : FlagsOnly c s t) {b : Nat} (small : b < 32) (other : b ≠ 2) (x : Bool) : FlagsOnly c s (wb t .RING_STAT c b x) :=
  h.trans ⟨rfl, fun d _ stat _ => mget_wr_io_ne t d _ stat, rb_wb_other _ _ _ _ _ _ small other.symm⟩

theorem ringErr (h : FlagsOnly c s t) (code : Nat) : FlagsOnly c s (ringErr t c code) :=
  (h.wb (b := 3) (by decide) (by decide) true).trans
    ⟨rfl, fun d _ stat _ => mget_wr_io_ne _ d _ stat, rb_wf_apart _ _ _ _ (by decide) (by decide) (.inl (by decide))⟩

theorem errIdx (h : FlagsOnly c s t) (i : Nat) : FlagsOnly c s (errIdx t c i) := by
  have written (v : Quad) : FlagsOnly c t (wr t .RING_ERRIDX c v) :=
    ⟨rfl, fun d _ _ erridx => mget_wr_io_ne t d v erridx, rb_congr (rd_wr_channel t (by decide) (by decide) (by decide) c v) 2⟩
  unfold Machine.errIdx
  exact ite h (h.trans (written _))

theorem endStop (h : FlagsOnly c s t) : FlagsOnly c s (endStop t c) :=
  ite ((h.wb (b := 1) (by decide) (by decide) false).wb (b := 0) (by decide) (by decide) false) h

end FlagsOnly

/-! ## The error code -/

theorem rb_ringErr_err (s : State) (c code : Nat) : rb (ringErr s c code) .RING_STAT c 3 = true := by
  rw [ringErr, rb_wf_apart _ _ _ _ (by decide) (by decide) (.inl (by decide)), rb_wb_same _ _ _ _ _ (by decide)]

theorem rb_ringErr_enabled (s : State) (c code : Nat) : rb (ringErr s c code) .RING_STAT c 0 = rb s .RING_STAT c 0 := by
  rw [ringErr, rb_wf_apart _ _ _ _ (by decide) (by decide) (.inl (by decide)), rb_wb_other _ _ _ _ _ _ (by decide) (by decide)]

theorem rf_ringErr_code (s : State) (c : Nat) {code : Nat} (small : code < 8) : rf (ringErr s c code) .RING_STAT c 6 4 = code :=
  (rf_wf_same _ _ _ _ (by decide) (by decide)).trans (Nat.mod_eq_of_lt small)

theorem ringErr_sameIoBut (s : State) (c code : Nat) : SameIoBut [regAddr .RING_STAT c] s (ringErr s c code) :=
  sameIoBut_wr (sameIoBut_wr (sameIoBut_refl _ s) (List.mem_singleton.2 rfl) _) (List.mem_singleton.2 rfl) _

/-! ## Terms of a book -/

theorem imbRecord_term (s : State) (b kind : Nat) : (imbRecord s b kind).led.term = s.led.term := by
  unfold imbRecord
  extract_lets v here
  split
  · rw [wr_led]
  · split <;> rw [wr_led]

theorem imbalance_term (s : State) (b kind : Nat) : (imbalance s b kind).led.term = s.led.term := by
  unfold imbalance
  extract_lets s1 s2 s3 snap s4 s5
  have told : s5.led.term = s.led.term := imbRecord_term s b kind
  split
  · exact told
  · exact told

theorem touchBook_term (s : State) (b : Nat) : (touchBook s b).led.term = s.led.term := by
  unfold touchBook
  dsimp only
  split <;> rfl

/-- A booking changes the two terms it names. -/
theorem term_book (s : State) (b src dst n j k : Nat) : term (book s b src dst n) j k = term (credit (debit s b src n) b dst n) j k := by
  have touched := touchBook_term (credit (debit s b src n) b dst n) b
  rw [term, book, underflow]
  split
  · rw [imbalance_term, touched, ← term]
  · rw [touched, ← term]

theorem term_book_to (s : State) (b n : Nat) {src dst : Nat} (other : src ≠ dst) :
    term (book s b src dst n) b dst = term s b dst + BitVec.ofNat 32 n := by
  rw [term_book, credit, term_setTerm_same, term_debit_ne _ other.symm]

theorem term_book_from (s : State) (b n : Nat) {src dst : Nat} (other : src ≠ dst) (position : src ≠ 0) :
    term (book s b src dst n) b src = term s b src - BitVec.ofNat 32 n := by
  have outflow : isInflow src = false := beq_false_of_ne position
  rw [term_book, credit, term_setTerm_ne _ _ _ other, debit, outflow, if_neg Bool.false_ne_true, term_setTerm_same]

/-- A booking from an inflow term counts the amount in. -/
theorem term_book_inflow (s : State) (b n : Nat) {dst : Nat} (other : dst ≠ 0) :
    term (book s b 0 dst n) b 0 = term s b 0 + BitVec.ofNat 32 n := by
  rw [term_book, credit, term_setTerm_ne _ _ _ other.symm, debit, if_pos (by rfl), term_setTerm_same]

/-- A book that opens has every term 0 (R652). -/
theorem term_clearBook (s : State) (b : Nat) {k : Nat} (low : k < 7) : term (clearBook s b) b k = 0 := by
  have cleared (n : Nat) : k < n → term ((List.range n).foldl (fun s t => setToward (setTerm s b t 0) b t 0) s) b k = 0 := by
    induction n with
    | zero => exact fun none => absurd none (Nat.not_lt_zero k)
    | succ n ih =>
      intro below
      rw [List.range_succ, List.foldl_append]
      obtain rfl | other := eq_or_ne k n
      · exact term_setTerm_same _ b k 0
      · exact (term_setTerm_ne _ b 0 other).trans (ih (by omega))
  have closed (u : State) : term (stopTimer (setLastUpdate u b none) (tmrSettle b)) b k = term u b k := rfl
  simp only [clearBook]
  exact (closed _).trans (cleared 7 low)

end Sys2Proof.Proofs
end

section
/-! # Chapter 11: control of a channel (R564, R565, R577, R578, R594, R595, R597) -/
namespace Sys2Proof.Proofs
open Sys2Proof.Machine Sys2Proof.Laws

variable {s t : State} {c : Fin 16}

/-! ## What stays -/

namespace LeavesTollgate

variable {all : Prop} {s t : State}

theorem stopTimer (h : LeavesTollgate all s t) (k : Nat) : LeavesTollgate all s (stopTimer t k) :=
  h.trans (of_same rfl (SameMemory.refl t) rfl)

theorem clearBook (h : LeavesTollgate all s t) (b : Nat) : LeavesTollgate all s (clearBook t b) := by
  have emptied := h.foldl (l := List.range 7) (f := fun s k => setToward (Machine.setTerm s b k 0) b k 0) fun _ _ hu => (hu.setTerm _ _ _).setLedger _
  exact (emptied.setLedger _).stopTimer _

theorem flags {u : State} (h : LeavesTollgate all s t) {c : Fin 16} (k : FlagsOnly c t u) : LeavesTollgate all s u := by
  obtain ⟨near, bits, iram, -, nvByte, -⟩ := k.sameMemory
  refine h.trans ⟨k.thr, near, bits, iram, nvByte, fun _ => k.sameMemory, fun d a from500 to600 => k.io d a ?_ ?_⟩ <;>
    (simp only [regAddr, regInfo]; omega)

theorem ringStop (h : LeavesTollgate all s t) (c : Fin 16) : LeavesTollgate all s (ringStop t c) := by
  have stopping := h.wb (r := .RING_STAT) (by decide) c 1 true
  unfold Machine.ringStop
  extract_lets l s1 s2 x s3 idle
  have flushed : LeavesTollgate all s s3 := (ite stopping (stopping.book _ _ _ _)).setChan _ _
  have fetched := (ite (p := idle = true) (flushed.raise .serial 90) flushed).wr (r := .RING_FETCH) (by decide) c (Machine.rd s3 .RING_TAIL c)
  exact ite h (fetched.flags (FlagsOnly.refl c _).endStop)

theorem frame (h : LeavesTollgate True s t) : t.thr = s.thr ∧ SameMemory s t := ⟨h.thr, h.memory trivial⟩

end LeavesTollgate

/-! ## ENABLE (R564, R565, R597) -/

theorem ringEnable_refused (idle : rb s .RING_STAT c 0 = false) (free : hoPhase s (7 + c) = 0) (bad : ringCfgOk s c = false) :
    ringEnable s c = ringErr s c 1 := by
  have may : ¬ (rb s .RING_STAT c 0 = true ∨ hoPhase s (7 + c) ≠ 0) := by simp [idle, free]
  rw [ringEnable, if_neg may, if_pos bad]

/-- The channel as ENABLE leaves it, its world not yet looked at. -/
def ringOpened (s : State) (c : Nat) : State :=
  let s1 := [Rg.RING_TAIL, .RING_FETCH, .RING_RECL, .RING_CQHEAD, .RING_HELD, .RING_OUTST, .RING_NCOMPL].foldl
    (fun s r => wr s r c 0) (wb s .RING_STAT c 0 true)
  clearBook (setChan s1 c Chan.reset) (4 + c)

theorem ringEnable_taken (idle : rb s .RING_STAT c 0 = false) (free : hoPhase s (7 + c) = 0) (good : ringCfgOk s c = true)
    (unbound : rf s .RING_CFG c 4 0 = 0 ∨ channelOf s (rf s .RING_CFG c 4 0) = none) : ringEnable s c = worldsLook (ringOpened s c) c := by
  have may : ¬ (rb s .RING_STAT c 0 = true ∨ hoPhase s (7 + c) ≠ 0) := by simp [idle, free]
  have single : ¬ (rf s .RING_CFG c 4 0 ≠ 0 ∧ (channelOf s (rf s .RING_CFG c 4 0)).isSome = true) := by
    rintro ⟨unit, bound⟩
    rcases unbound with soft | none
    · exact unit soft
    · rw [none] at bound
      exact Bool.false_ne_true bound
  rw [ringEnable, if_neg may, if_neg (by simp [good]), if_neg single]
  rfl

theorem ringOpened_leaves (s : State) (c : Fin 16) : LeavesTollgate True s (ringOpened s c) := by
  have enabled := (LeavesTollgate.refl (all := True) s).wb (r := .RING_STAT) (by decide) c 0 true
  have zeroed := ((((((enabled.wr (r := .RING_TAIL) (by decide) c 0).wr (r := .RING_FETCH) (by decide) c 0).wr (r := .RING_RECL) (by decide) c 0).wr
    (r := .RING_CQHEAD) (by decide) c 0).wr (r := .RING_HELD) (by decide) c 0).wr (r := .RING_OUTST) (by decide) c 0).wr
    (r := .RING_NCOMPL) (by decide) c 0
  exact (zeroed.setChan c _).clearBook _

/-- The registers of the channel after ENABLE. -/
theorem ringOpened_registers (s : State) (c : Fin 16) : let t := ringOpened s c
    rb t .RING_STAT c 0 = true ∧ rd t .RING_TAIL c = 0 ∧ rd t .RING_FETCH c = 0 ∧ rd t .RING_RECL c = 0 ∧ rd t .RING_CQHEAD c = 0 ∧
      rd t .RING_HELD c = 0 ∧ rd t .RING_CFG c = rd s .RING_CFG c ∧ chanOf t c = Chan.reset := by
  let s1 := [Rg.RING_TAIL, .RING_FETCH, .RING_RECL, .RING_CQHEAD, .RING_HELD, .RING_OUTST, .RING_NCOMPL].foldl
    (fun s r => wr s r c 0) (wb s .RING_STAT c 0 true)
  have cleared : LeavesChannels False True (setChan s1 c Chan.reset) (ringOpened s c) := (LeavesChannels.refl _).clearBook (4 + c)
  have now {r : Rg} (channel : OfChannel r) : rd (ringOpened s c) r c = rd s1 r c := cleared.rd channel c
  refine ⟨?_, ?_, ?_, ?_, ?_, ?_, ?_, (cleared.chanOf c).trans (chanOf_setChan ..)⟩
  · rw [rb_congr (now (by decide)) 0]
    have kept : rd s1 .RING_STAT c = rd (wb s .RING_STAT c 0 true) .RING_STAT c := by
      simp (disch := decide) only [s1, List.foldl, rd_wr_channel]
    rw [rb_congr kept 0, rb_wb_same _ _ _ _ _ (by decide)]
  all_goals
    rw [now (by decide)]
    simp (disch := decide) only [s1, List.foldl, rd_wr_channel, rd_wr_same, rd_wb_channel]

theorem blockOfNumber_lt {u b : Nat} (some : blockOfNumber u = some b) : b < 31 := by
  unfold blockOfNumber at some
  repeat' split at some
  all_goals cases some
  all_goals decide

/-- The worlds of a channel and its unit are those of the channel's UNIT and of the Tollgate's registers. -/
theorem worldsDiffer_congr (cfg : rd t .RING_CFG c = rd s .RING_CFG c) (tollgate : ∀ n : Fin 31, rd t .TG_HO n = rd s .TG_HO n) :
    worldsDiffer t c = worldsDiffer s c := by
  have world {n : Nat} (small : n < 31) : blockWorld t n = blockWorld s n := rb_congr (tollgate ⟨n, small⟩) 0
  unfold worldsDiffer chanWorld
  rw [rf_congr cfg]
  split
  next b some => rw [world (blockOfNumber_lt some), world (by omega)]
  · rfl

/-- The channel whose latest look at the worlds found them unequal or not. -/
def withMismatch (x : Chan) (differ : Bool) : Chan := { x with mismatch := differ }

/-- The look at the worlds leaves whether they differ (R459), and changes no register and no book. -/
theorem worldsLook_effects (s : State) (c : Nat) : let t := worldsLook s c
    chanOf t c = withMismatch (chanOf s c) (rb s .RING_STAT c 0 && worldsDiffer s c) ∧ t.io = s.io ∧ t.led = s.led := by
  unfold worldsLook
  extract_lets now s1 x t
  have counted : chanOf s1 c = chanOf s c ∧ s1.io = s.io ∧ s1.led = s.led := by
    unfold s1
    rw [count_fabric]
    split <;> exact ⟨rfl, rfl, rfl⟩
  obtain ⟨chan, io, led⟩ := counted
  unfold t
  split
  next same =>
    have still : withMismatch (chanOf s c) now = chanOf s c := by rw [← same]; rfl
    exact ⟨chan.trans still.symm, io, led⟩
  · exact ⟨(chanOf_setChan ..).trans (congrArg (withMismatch · now) chan), io, led⟩

/-- A channel that is enabled starts empty, with its book open and every term 0. -/
theorem ringEnable_effects (s : State) (c : Fin 16) : let t := worldsLook (ringOpened s c) c
    rb t .RING_STAT c 0 = true ∧ rd t .RING_TAIL c = 0 ∧ rd t .RING_FETCH c = 0 ∧ rd t .RING_RECL c = 0 ∧ rd t .RING_CQHEAD c = 0 ∧
      rd t .RING_HELD c = 0 ∧ (∀ k, k < 7 → term t (4 + c) k = 0) ∧ chanOf t c = { Chan.reset with mismatch := worldsDiffer s c } ∧
      t.thr = s.thr ∧ SameMemory s t := by
  obtain ⟨enabled, tail, fetch, recl, cqhead, held, cfg, chan⟩ := ringOpened_registers s c
  obtain ⟨looked, io, led⟩ := worldsLook_effects (ringOpened s c) c
  have leaves := ringOpened_leaves s c
  have differ := worldsDiffer_congr cfg leaves.rd
  rw [enabled, differ, chan, Bool.true_and] at looked
  have now (r : Rg) := rd_io _ _ r c io
  exact ⟨(rb_congr (now _) 0).trans enabled, (now _).trans tail, (now _).trans fetch, (now _).trans recl, (now _).trans cqhead,
    (now _).trans held, fun k low => (term_congr led _ k).trans (term_clearBook _ _ low), looked, (leaves.worldsLook c).frame⟩

/-! ## STOP (R594) -/

/-- A channel that is STOPPING is disabled once nothing is outstanding, and not before. -/
theorem endStop_stopping (enabled : rb s .RING_STAT c 0 = true) (stopping : rb s .RING_STAT c 1 = true) :
    rb (endStop s c) .RING_STAT c 0 = (!(chanOf s c).out.isEmpty) ∧ rb (endStop s c) .RING_STAT c 1 = !(chanOf s c).out.isEmpty := by
  unfold endStop
  rw [stopping, Bool.true_and]
  split
  next empty =>
    rw [empty]
    exact ⟨rb_wb_same _ _ _ _ _ (by decide), (rb_wb_other _ _ _ _ _ _ (by decide) (by decide)).trans (rb_wb_same _ _ _ _ _ (by decide))⟩
  next outstanding =>
    rw [Bool.not_eq_true] at outstanding
    rw [outstanding]
    exact ⟨enabled, stopping⟩

/-- The channel with other completions that wait to be written. -/
def withDone (x : Chan) (l : List Compl) : Chan := { x with done := l }

/-- The completions waiting as STOP leaves them: every posted entry that is not fetched ends with FLUSHED. -/
def flushed (s : State) (c : Nat) : List Compl := (chanOf s c).done ++ (unfetched s c).map fun i => ⟨i, 4, 0, 0⟩

theorem ringStop_effects (enabled : rb s .RING_STAT c 0 = true) (going : rb s .RING_STAT c 1 = false) : let t := ringStop s c
    chanOf t c = withDone (chanOf s c) (flushed s c) ∧ rd t .RING_FETCH c = rd s .RING_TAIL c ∧
      rb t .RING_STAT c 0 = (!(chanOf s c).out.isEmpty) ∧ rb t .RING_STAT c 1 = (!(chanOf s c).out.isEmpty) ∧
      rd t .RING_CFG c = rd s .RING_CFG c := by
  have takes : ¬ (rb s .RING_STAT c 0 = false ∨ rb s .RING_STAT c 1 = true) := by simp [enabled, going]
  unfold ringStop
  rw [if_neg takes]
  extract_lets l s1 s2 x s3 idle
  have booked : LeavesChannels False True s1 s2 := .ite (.refl s1) ((LeavesChannels.refl s1).book _ _ _ _)
  let s4 := if idle = true then raise s3 .serial 90 else s3
  have told : FlagsOnly c s3 s4 := .ite ((FlagsOnly.refl c s3).send _ _) (.refl c s3)
  let s5 := wr s4 .RING_FETCH c (rd s3 .RING_TAIL c)
  have chan : chanOf s5 c = withDone (chanOf s c) (flushed s c) := by
    refine (told.chanOf c).trans ((chanOf_setChan ..).trans ?_)
    show withDone (chanOf s2 c) ((chanOf s2 c).done ++ l.map fun i => ⟨i, 4, 0, 0⟩) = _
    rw [booked.chanOf c]
    rfl
  have stat : rd s5 .RING_STAT c = rd s1 .RING_STAT c := by
    have sent : s4.io = s3.io := by
      unfold s4
      split <;> rfl
    exact (rd_wr_channel _ (by decide) (by decide) (by decide) c _).trans ((rd_io _ _ _ _ sent).trans (booked.rd (by decide) c))
  have tail : rd s3 .RING_TAIL c = rd s .RING_TAIL c :=
    (booked.rd (by decide) c).trans (rd_wb_channel s (by decide) (by decide) (by decide) c 1 true)
  have cfg : rd s5 .RING_CFG c = rd s .RING_CFG c :=
    (rd_wr_channel _ (by decide) (by decide) (by decide) c _).trans ((told.rd (by decide) (by decide) (by decide)).trans
      ((booked.rd (by decide) c).trans (rd_wb_channel s (by decide) (by decide) (by decide) c 1 true)))
  have en : rb s5 .RING_STAT c 0 = true := (rb_congr stat 0).trans ((rb_wb_other _ _ _ _ _ _ (by decide) (by decide)).trans enabled)
  have stopping : rb s5 .RING_STAT c 1 = true := (rb_congr stat 1).trans (rb_wb_same _ _ _ _ _ (by decide))
  have ended : FlagsOnly c s5 (endStop s5 c) := (FlagsOnly.refl c s5).endStop
  obtain ⟨ends, ends'⟩ := endStop_stopping en stopping
  rw [chan] at ends ends'
  exact ⟨(ended.chanOf c).trans chan, (ended.rd (by decide) (by decide) (by decide)).trans ((rd_wr_same ..).trans tail), ends, ends',
    (ended.rd (by decide) (by decide) (by decide)).trans cfg⟩

/-- STOP changes what is completed and nothing else of the channel behind its registers. -/
theorem ringStop_keeps (s : State) (c : Fin 16) :
    (∃ l, chanOf (ringStop s c) c = withDone (chanOf s c) l) ∧ rd (ringStop s c) .RING_CFG c = rd s .RING_CFG c := by
  by_cases takes : rb s .RING_STAT c 0 = true ∧ rb s .RING_STAT c 1 = false
  · obtain ⟨chan, -, -, -, cfg⟩ := ringStop_effects takes.1 takes.2
    exact ⟨⟨_, chan⟩, cfg⟩
  · have still : ringStop s c = s := by
      refine if_pos ?_
      by_contra other
      rw [not_or, Bool.not_eq_false, Bool.not_eq_true] at other
      exact takes other
    rw [still]
    exact ⟨⟨_, rfl⟩, rfl⟩

theorem ringStop_disabled (disabled : rb s .RING_STAT c 0 = false) : ringStop s c = s := if_pos (.inl disabled)

/-! ## ABORT (R595) -/

theorem ringAbort_disabled (disabled : rb s .RING_STAT c 0 = false) : ringAbort s c = s := if_pos disabled

/-- ABORT acts as STOP and asks the unit to abandon what it holds. -/
theorem ringAbort_asks (enabled : rb s .RING_STAT c 0 = true) (first : (chanOf s c).aborting = false) (holds : (chanOf s c).given ≠ [])
    (unit : rf s .RING_CFG c 4 0 ≠ 0) : ringAbort s c =
      send (setChan (ringStop s c) c { chanOf (ringStop s c) c with aborting := true }) (fromFabric (islandOfNumber (rf s .RING_CFG c 4 0)))
        (.ringAbort c) := by
  obtain ⟨⟨l, chan⟩, cfg⟩ := ringStop_keeps s c
  unfold ringAbort
  rw [if_neg (by simp [enabled])]
  extract_lets s1 u x s2
  have number : u = rf s .RING_CFG c 4 0 := rf_congr cfg 4 0
  have asked : (chanOf s2 c).given = (chanOf s1 c).given := (congrArg Chan.given (chanOf_setChan s1 c _) :)
  have given : (chanOf s1 c).given = (chanOf s c).given := (congrArg Chan.given chan :)
  have aborting : (chanOf s1 c).aborting = false := by
    rw [chan]
    exact first
  have waits : ¬ ((chanOf s2 c).given.isEmpty = true ∨ u = 0) := by simp [asked, given, number, holds, unit]
  rw [if_neg (by rw [aborting]; decide), if_neg waits, number]

/-! ## POST (R577, R578) -/

theorem ringPost_refused {n : Nat} (enabled : rb s .RING_STAT c 0 = true) (going : rb s .RING_STAT c 1 = false)
    (bad : n = 0 ∨ n > 4096 ∨ n > ringFree s c) : ringPost s c n = count (ringErr s c 3) .fabric 0x22 := by
  rw [ringPost, if_neg (by simp [enabled, going]), if_pos bad]

theorem ringPost_disabled (n : Nat) (disabled : rb s .RING_STAT c 0 = false) : ringPost s c n = count (ringErr s c 4) .fabric 0x22 :=
  if_pos (.inl disabled)

/-- A POST that is not taken sets ERR with its code and changes nothing else but the report. -/
theorem postRefused_effects (s : State) (c : Fin 16) {code : Nat} (small : code < 8) : let t := count (ringErr s c code) .fabric 0x22
    rf t .RING_STAT c 6 4 = code ∧ rb t .RING_STAT c 3 = true ∧ t.chan = s.chan ∧ t.led = s.led ∧ SameIoBut [regAddr .RING_STAT c] s t ∧
      t.thr = s.thr ∧ SameMemory s t := by
  have flags : FlagsOnly c s (count (ringErr s c code) .fabric 0x22) := ((FlagsOnly.refl c s).ringErr code).send _ _
  exact ⟨rf_ringErr_code s c small, rb_ringErr_err s c code, flags.chan, flags.led, ringErr_sameIoBut s c code, flags.thr, flags.sameMemory⟩

theorem showOut_leaves (s : State) (c : Fin 16) : LeavesTollgate True s (showOut s c) :=
  ((LeavesTollgate.refl s).wr (r := .RING_RECL) (by decide) c _).wr (r := .RING_OUTST) (by decide) c _

theorem rd_showOut (s : State) {r : Rg} (channel : OfChannel r) (recl : (regInfo r).base ≠ (regInfo .RING_RECL).base)
    (outst : (regInfo r).base ≠ (regInfo .RING_OUTST).base) (c : Nat) : rd (showOut s c) r c = rd s r c :=
  (rd_wr_channel _ channel (by decide) outst c _).trans (rd_wr_channel _ channel (by decide) recl c _)

theorem ringPost_taken {n : Nat} (enabled : rb s .RING_STAT c 0 = true) (going : rb s .RING_STAT c 1 = false) (some : 1 ≤ n) (most : n ≤ 4096)
    (room : n ≤ ringFree s c) : let t := ringPost s c n
    rd t .RING_TAIL c = BitVec.ofNat 32 ((rn s .RING_TAIL c + n) % ringSize s c) ∧
      (chanOf t c).out = (chanOf s c).out ++ (List.range n).map (fun j => (rn s .RING_TAIL c + j) % ringSize s c) ∧
      term t (4 + c) 0 = term s (4 + c) 0 + BitVec.ofNat 32 n ∧ term t (4 + c) 3 = term s (4 + c) 3 + BitVec.ofNat 32 n ∧
      t.thr = s.thr ∧ SameMemory s t := by
  have good : ¬ (n = 0 ∨ n > 4096 ∨ n > ringFree s c) := by omega
  unfold ringPost
  rw [if_neg (by simp [enabled, going]), if_neg good]
  extract_lets tail l x s1 s2
  have booked : LeavesChannels False True s2 (book s2 (4 + c) 0 3 n) := (LeavesChannels.refl s2).book _ _ _ _
  have kept : LeavesTollgate True s s2 := ((LeavesTollgate.refl s).setChan c _).wr (r := .RING_TAIL) (by decide) c _
  exact ⟨(rd_showOut _ (by decide) (by decide) (by decide) c).trans ((booked.rd (by decide) c).trans (rd_wr_same ..)),
    congrArg Chan.out ((booked.chanOf c).trans (chanOf_setChan ..)), term_book_inflow s2 _ n (by decide), term_book_to s2 _ n (by decide),
    ((kept.book _ _ _ _).trans (showOut_leaves _ c)).frame⟩

/-! ## The obligation -/

/-- Settles O35: each command of a channel is its operation, and each operation its error code alone, or the channel it leaves. -/
theorem ringControl : Obligations.RingControl := by
  intro s req c n may
  have enable : exec (.ringEnable req c) s = .next (ringEnable s c) := writeReg_taken may fun s => ringEnable s c
  have stop : exec (.ringStop req c) s = .next (ringStop s c) := writeReg_taken may fun s => ringStop s c
  have abort : exec (.ringAbort req c) s = .next (ringAbort s c) := writeReg_taken may fun s => ringAbort s c
  have post (may : MayWrite s req .RING_POST c) : exec (.ringPost req c n) s = .next (ringPost s c (n.toNat % 8192)) :=
    writeReg_taken may fun s => ringPost s c (n.toNat % 8192)
  refine ⟨fun idle free good unbound => ?enabled, fun idle free bad => ?unfit, fun enabled going => ?stopped,
    fun enabled first holds unit => ?aborted, fun disabled => ?still,
    fun may enabled going => ⟨fun some most room => ?posted, fun bad => ?refused⟩, fun may disabled => ?closed⟩
  case enabled =>
    rw [ringEnable_taken idle free good unbound] at enable
    exact Does.intro enable (ringEnable_effects s c)
  case unfit =>
    rw [ringEnable_refused idle free bad] at enable
    have flags : FlagsOnly c s (ringErr s c 1) := (FlagsOnly.refl c s).ringErr 1
    exact Does.intro enable ⟨(rb_ringErr_enabled s c 1).trans idle, rb_ringErr_err s c 1, rf_ringErr_code s c (by decide),
      ringErr_sameIoBut s c 1, flags.thr, flags.sameMemory⟩
  case stopped =>
    obtain ⟨chan, fetch, en, stopping, -⟩ := ringStop_effects enabled going
    exact Does.intro stop ⟨(congrArg Chan.done chan :), (congrArg Chan.out chan :), fetch, en, stopping,
      ((LeavesTollgate.refl s).ringStop c).frame⟩
  case aborted =>
    obtain ⟨⟨l, chan⟩, -⟩ := ringStop_keeps s c
    rw [ringAbort_asks enabled first holds unit] at abort
    refine Does.intro abort ⟨?_, ?_, ?_, ((((LeavesTollgate.refl s).ringStop c).setChan c _).send _ _).frame⟩
    · exact congrArg Chan.aborting (chanOf_setChan ..)
    · exact (congrArg Chan.given (chanOf_setChan ..)).trans ((congrArg Chan.given chan :))
    · rw [xwaitOf_send_same, List.getLast?_append, List.getLast?_singleton]
      rfl
  case still => exact ⟨stop.trans (congrArg _ (ringStop_disabled disabled)), abort.trans (congrArg _ (ringAbort_disabled disabled))⟩
  case posted => exact Does.intro (post may) (ringPost_taken enabled going some most room)
  case refused =>
    have row := post may
    rw [ringPost_refused enabled going bad] at row
    exact Does.intro row (postRefused_effects s c (by decide))
  case closed =>
    have row := post may
    rw [ringPost_disabled _ disabled] at row
    exact Does.intro row (postRefused_effects s c (by decide))

end Sys2Proof.Proofs
end

section
/-! # Chapter 11: fetch (R581-R583, R592) -/
namespace Sys2Proof.Proofs
open Sys2Proof.Machine Sys2Proof.Laws

variable {s t u : State} {c : Fin 16} {i : Nat} {x : EntryInfo} {bs : List Byte}

/-! ## A load behind a register write -/

/-- What a far load answers does not hang on a channel's register: of the registers it looks at SEAL_STRICT, SPI_WINCFG and TG_NWM. -/
theorem farLoad_wr_answer (s : State) {r : Rg} {i : Nat} (v : Quad) (channel : 0x1000 ≤ regAddr r i ∧ regAddr r i < 0x1400)
    (kind agent ch owner : Nat) (world : Bool) (a n : Nat) :
    let l := farLoad (wr s r i v) kind agent ch owner world a n
    let l' := farLoad s kind agent ch owner world a n
    l.1 = l'.1 ∧ l.2.1 = l'.2.1 ∧ l.2.2.1 = l'.2.2.1 := by
  have low {q : Rg} (h : regAddr q 0 < 0x1000 ∨ 0x1400 ≤ regAddr q 0) : regAddr q 0 ≠ regAddr r i := by omega
  have stricts (o : Nat) : isStrict (wr s r i v) o = isStrict s o := rb_wr_ne s v o (low (.inl (by decide)))
  have mapped (a : Nat) : nvRefuses (wr s r i v) world a = nvRefuses s world a := by
    rw [nvRefuses, nwm, rf_congr (rd_wr_ne _ _ _ _ _ _ (low (.inl (by decide)))), nvRefuses, nwm]
  have flash (a : Nat) : flashByte (wr s r i v) a = flashByte s a := by
    unfold flashByte
    rw [rb_wr_ne s v 0 (low (.inr (by decide)))]
    rfl
  by_cases closed : kind = 8 ∧ ringClosed world owner = true
  · simp only [farLoad, if_pos closed, and_self]
  · simp only [farLoad, if_neg closed, stricts, mapped, flash]
    exact ⟨rfl, rfl, rfl⟩

/-! ## Fetch -/

/-- FETCH past the next posted entry. -/
def fetching (s : State) (c : Nat) : State := wr s .RING_FETCH c (BitVec.ofNat 32 ((rn s .RING_FETCH c + 1) % ringSize s c))

theorem rd_fetching {r : Rg} (channel : OfChannel r) (apart : (regInfo r).base ≠ (regInfo .RING_FETCH).base) (c : Fin 16) :
    rd (fetching s c) r c = rd s r c := rd_wr_channel s channel (by decide) apart c _

/-- The load of the next posted entry answers the same before FETCH has moved on and after. -/
theorem chanLoad_fetching (s : State) (c : Fin 16) : let a := entryAddr s c i
    let l := chanLoad (fetching s c) c (entryAddr (fetching s c) c i) 16
    l.1 = (chanLoad s c a 16).1 ∧ l.2.1 = (chanLoad s c a 16).2.1 ∧ l.2.2.1 = (chanLoad s c a 16).2.2.1 := by
  have low (n : Fin 31) : regAddr .TG_HO n ≠ regAddr .RING_FETCH c := by simp only [regAddr, regInfo]; omega
  have block : rd (fetching s c) .TG_HO (7 + c) = rd s .TG_HO (7 + c) := rd_wr_ne _ _ _ _ _ _ (low ⟨7 + c, by omega⟩)
  have owner : chanOwner (fetching s c) c = chanOwner s c := rf_congr block 11 8
  have world : chanWorld (fetching s c) c = chanWorld s c := rb_congr block 0
  have place : entryAddr (fetching s c) c i = entryAddr s c i := by
    rw [entryAddr, rn_congr (rd_fetching (by decide) (by decide) c), entryAddr]
  unfold chanLoad
  rw [owner, world, place]
  exact farLoad_wr_answer s _ (by simp only [regAddr, regInfo]; omega) ..

/-- The channel takes the next entry where one is posted, nothing stops it and nothing has to be waited for. -/
theorem ringFetch_takes (enabled : rb s .RING_STAT c 0 = true) (going : rb s .RING_STAT c 1 = false) (posted : unfetched s c ≠ [])
    (agree : worldsDiffer s c = false) (room : unitReady s c = true) (now : fetchWaits s c (rn s .RING_FETCH c) = false) :
    ringFetch s c = fetchEntry (fetching s c) c (rn s .RING_FETCH c) := by
  unfold ringFetch
  exact if_neg (by simp [enabled, going, posted, agree, room, now])

theorem ringFetch_still (idle : rb s .RING_STAT c 0 = false ∨ rb s .RING_STAT c 1 = true ∨ unfetched s c = [] ∨ worldsDiffer s c = true) :
    ringFetch s c = s := by
  unfold ringFetch
  refine if_pos ?_
  rcases idle with h | h | h | h <;> simp [h]

/-- An entry of one fragment that keeps to R570: OWN 1, IND 0, every reserved bit 0. -/
def DirectEntry (bs : List Byte) : Prop :=
  (bs.getD 0 0 = 1 ∨ bs.getD 0 0 = 5) ∧ leNat ((bs.drop 10).take 2) < 4096 ∧ bs.getD 15 0 = 0

theorem DirectEntry.ctl (direct : DirectEntry bs) :
    (bs.getD 0 0).toNat % 2 ≠ 0 ∧ (bs.getD 0 0).toNat / 8 = 0 ∧ nbit (bs.getD 0 0).toNat 1 = false := by
  obtain ⟨own | own, -⟩ := direct <;> rw [own] <;> decide

/-- A well-formed entry passes every check of R570 that comes before its fragments are looked at. -/
theorem DirectEntry.fits (direct : DirectEntry bs) :
    ¬ ((bs.getD 0 0).toNat / 8 ≠ 0 ∨ leNat ((bs.drop 10).take 2) / 4096 ≠ 0 ∨ bs.getD 15 0 ≠ 0) := by
  obtain ⟨-, small, reserved⟩ := id direct
  have tag : leNat ((bs.drop 10).take 2) / 4096 = 0 := Nat.div_eq_of_lt small
  rintro (high | high | high)
  · exact high direct.ctl.2.1
  · exact high tag
  · exact high reserved

theorem fetchEntry_direct (load : chanLoad s c (entryAddr s c i) 16 = (bs, false, false, u)) (direct : DirectEntry bs)
    (some : leNat ((bs.drop 2).take 2) ≠ 0) (unit : rf s .RING_CFG c 4 0 ≠ 0) : fetchEntry s c i =
      passEntry (keepInfo u c i (infoOf bs)) c i (bs.getD 1 0).toNat (bs.getD 7 0).toNat false
        [(leNat ((bs.drop 4).take 3), leNat ((bs.drop 2).take 2))] := by
  obtain ⟨owned, -, single⟩ := direct.ctl
  have bound : ¬ (rf s .RING_CFG c 4 0 == 0) = true := by simpa using unit
  unfold fetchEntry
  rw [load]
  dsimp only
  rw [if_neg (by decide), if_neg owned, if_neg direct.fits, if_neg bound, if_pos single, if_neg some]

theorem fetchEntry_soft (load : chanLoad s c (entryAddr s c i) 16 = (bs, false, false, u)) (direct : DirectEntry bs)
    (soft : rf s .RING_CFG c 4 0 = 0) : fetchEntry s c i =
      passEntry (keepInfo u c i (infoOf bs)) c i (bs.getD 1 0).toNat (bs.getD 7 0).toNat false [] := by
  have unbound : (rf s .RING_CFG c 4 0 == 0) = true := by simpa using soft
  unfold fetchEntry
  rw [load]
  dsimp only
  rw [if_neg (by decide), if_neg direct.ctl.1, if_neg direct.fits, if_pos unbound]

theorem fetchEntry_unowned (load : chanLoad s c (entryAddr s c i) 16 = (bs, false, false, u)) (unowned : (bs.getD 0 0).toNat % 2 = 0) :
    fetchEntry s c i = badFetch (keepInfo u c i (infoOf bs)) c i 5 5 0x23 := by
  unfold fetchEntry
  rw [load]
  dsimp only
  rw [if_neg (by decide), if_pos unowned]

/-! ### What a fetch leaves -/

/-- From `s` to `t` the channel has taken its next entry and keeps of it what it read; no thread and nothing of far memory differs. -/
structure Fetched (s : State) (c : Fin 16) (x : EntryInfo) (t : State) : Prop where
  fetch : rd t .RING_FETCH c = BitVec.ofNat 32 ((rn s .RING_FETCH c + 1) % ringSize s c)
  thr : t.thr = s.thr
  far : t.far = s.far
  info : mget (fun _ => none) (chanOf t c).info (rn s .RING_FETCH c) = some x
  cfg : rd t .RING_CFG c = rd s .RING_CFG c

namespace Fetched

theorem load (h : LeavesChannels True True (fetching s c) u) (x : EntryInfo) : Fetched s c x (keepInfo u c (rn s .RING_FETCH c) x) where
  fetch := (h.rd (by decide) c).trans (rd_wr_same ..)
  thr := h.thr
  far := h.far trivial
  info := by
    rw [keepInfo, chanOf_setChan]
    exact mget_mset_same (fun _ => none) (chanOf u c).info _ (some x)
  cfg := (h.rd (by decide) c).trans (rd_fetching (by decide) (by decide) c)

theorem setChan (h : Fetched s c x t) {y : Chan} (info : y.info = (chanOf t c).info) : Fetched s c x (setChan t c y) :=
  ⟨h.fetch, h.thr, h.far, by rw [chanOf_setChan, info, h.info], h.cfg⟩

theorem send (h : Fetched s c x t) (n : Nat) (m : Xfer) : Fetched s c x (send t n m) := ⟨h.fetch, h.thr, h.far, h.info, h.cfg⟩

theorem leaves (h : Fetched s c x t) {books : Prop} (k : LeavesChannels books True t u) : Fetched s c x u :=
  ⟨(k.rd (by decide) c).trans h.fetch, k.thr.trans h.thr, (k.far trivial).trans h.far, by rw [k.chanOf c, h.info],
    (k.rd (by decide) c).trans h.cfg⟩

theorem flags (h : Fetched s c x t) (k : FlagsOnly c t u) : Fetched s c x u :=
  ⟨(k.rd (by decide) (by decide) (by decide)).trans h.fetch, k.thr.trans h.thr, k.far.trans h.far, by rw [k.chanOf c, h.info],
    (k.rd (by decide) (by decide) (by decide)).trans h.cfg⟩

end Fetched

/-- An entry completed at fetch joins the completions that wait (R583). -/
theorem chanOf_doneAtFetch (s : State) (c : Fin 16) (i status : Nat) :
    chanOf (doneAtFetch s c i status) c = withDone (chanOf s c) ((chanOf s c).done ++ [⟨i, status, 0, 0⟩]) := by
  have booked : LeavesChannels False True s (book s (4 + c) 3 5 1) := (LeavesChannels.refl s).book _ _ _ _
  refine (chanOf_setChan ..).trans ?_
  rw [booked.chanOf c]
  rfl

theorem Fetched.doneAtFetch (h : Fetched s c x t) (i status : Nat) : Fetched s c x (doneAtFetch t c i status) :=
  (h.leaves ((LeavesChannels.refl t).book _ _ _ _)).setChan rfl

/-- Without STOPERR an erring fetch completes the entry, sets flags and goes on. -/
theorem badFetch_going (going : rb s .RING_CFG c 11 = false) (i status code ev : Nat) : badFetch s c i status code ev =
    count (errIdx (ringErr (doneAtFetch s c i status) c code) c i) .fabric ev := by
  have booked : LeavesChannels False True s (book s (4 + c) 3 5 1) := (LeavesChannels.refl s).book _ _ _ _
  have flags : FlagsOnly c (doneAtFetch s c i status) (count (errIdx (ringErr (doneAtFetch s c i status) c code) c i) .fabric ev) :=
    (((FlagsOnly.refl c _).ringErr code).errIdx i).send _ _
  have goes : rb (doneAtFetch s c i status) .RING_CFG c 11 = false := (booked.rb (by decide) c 11).trans going
  have stays : ¬ rb (count (errIdx (ringErr (doneAtFetch s c i status) c code) c i) .fabric ev) .RING_CFG c 11 = true := by
    rw [rb_congr (flags.rd (by decide) (by decide) (by decide)) 11, goes]
    decide
  exact if_neg stays

theorem rd_errIdx_stat (s : State) (c i : Nat) : rd (errIdx s c i) .RING_STAT c = rd s .RING_STAT c := by
  unfold errIdx
  split
  · rfl
  · exact rd_wr_channel s (by decide) (by decide) (by decide) c _

/-- An erring fetch completes the entry with its status and sets ERR (R583, R596). -/
theorem badFetch_effects (h : Fetched s c x t) (going : rb s .RING_CFG c 11 = false) (i status code ev : Nat) :
    let u := badFetch t c i status code ev
    Fetched s c x u ∧ (chanOf u c).done = (chanOf t c).done ++ [⟨i, status, 0, 0⟩] ∧ (chanOf u c).given = (chanOf t c).given ∧
      rb u .RING_STAT c 3 = true := by
  have flags : FlagsOnly c (doneAtFetch t c i status) (count (errIdx (ringErr (doneAtFetch t c i status) c code) c i) .fabric ev) :=
    (((FlagsOnly.refl c _).ringErr code).errIdx i).send _ _
  have chan := (flags.chanOf c).trans (chanOf_doneAtFetch t c i status)
  rw [badFetch_going ((rb_congr h.cfg 11).trans going)]
  exact ⟨(h.doneAtFetch i status).flags flags, (congrArg Chan.done chan :), (congrArg Chan.given chan :),
    (rb_congr (rd_errIdx_stat _ c i) 3).trans (rb_ringErr_err _ c code)⟩

/-! ### An entry that is passed on -/

/-- The channel as an entry is given to its unit. -/
def withGiven (x : Chan) (i : Nat) : Chan := { x with given := x.given ++ [i], moved := 0, bad := false }

/-- An entry goes to its unit by a transfer (R644). -/
theorem passEntry_unit (h : Fetched s c x t) (unit : rf s .RING_CFG c 4 0 ≠ 0) (i uflags uarg : Nat) (ind : Bool) (frags : List (Nat × Nat)) :
    let u := passEntry t c i uflags uarg ind frags
    Fetched s c x u ∧ (chanOf u c).given = (chanOf t c).given ++ [i] ∧
      (xwaitOf u (fromFabric (islandOfNumber (rf s .RING_CFG c 4 0)))).getLast? =
        some (.ringGive c i (uflags + 256 * b01 ind) uarg frags) := by
  have given : Fetched s c x (setChan t c (withGiven (chanOf t c) i)) := h.setChan rfl
  have row : passEntry t c i uflags uarg ind frags = send (setChan t c (withGiven (chanOf t c) i))
      (fromFabric (islandOfNumber (rf s .RING_CFG c 4 0))) (.ringGive c i (uflags + 256 * b01 ind) uarg frags) := by
    rw [passEntry, rf_congr h.cfg]
    exact if_neg unit
  rw [row]
  refine ⟨given.send _ _, (congrArg Chan.given (chanOf_setChan t c _) :), ?_⟩
  rw [xwaitOf_send_same, List.getLast?_append, List.getLast?_singleton]
  rfl

/-- A SOFT channel's entry completes with OK as it is fetched (R592). -/
theorem passEntry_soft (h : Fetched s c x t) (soft : rf s .RING_CFG c 4 0 = 0) (i uflags uarg : Nat) (ind : Bool) (frags : List (Nat × Nat)) :
    let u := passEntry t c i uflags uarg ind frags
    Fetched s c x u ∧ (chanOf u c).given = (chanOf t c).given ++ [i] ∧ (chanOf u c).done = (chanOf t c).done ++ [⟨i, 0, 0, 0⟩] := by
  have given : Fetched s c x (setChan t c (withGiven (chanOf t c) i)) := h.setChan rfl
  have row : passEntry t c i uflags uarg ind frags = doneAtFetch (setChan t c (withGiven (chanOf t c) i)) c i 0 := by
    rw [passEntry, rf_congr h.cfg]
    exact if_pos soft
  have chan := chanOf_doneAtFetch (setChan t c (withGiven (chanOf t c) i)) c i 0
  rw [chanOf_setChan] at chan
  rw [row]
  exact ⟨given.doneAtFetch i 0, (congrArg Chan.given chan :), (congrArg Chan.done chan :)⟩

/-- The channel with what it keeps of an entry. -/
def withInfo (y : Chan) (i : Nat) (x : EntryInfo) : Chan := { y with info := mset (fun _ => none) y.info i (some x) }

theorem chanOf_keepInfo (s : State) (c i : Nat) (x : EntryInfo) : chanOf (keepInfo s c i x) c = withInfo (chanOf s c) i x :=
  chanOf_setChan s c _

/-- A channel that is ready to fetch takes the entry that its load shows, and keeps it. -/
theorem ringFetch_reads (enabled : rb s .RING_STAT c 0 = true) (going : rb s .RING_STAT c 1 = false) (posted : unfetched s c ≠ [])
    (agree : worldsDiffer s c = false) (room : unitReady s c = true) (now : fetchWaits s c (rn s .RING_FETCH c) = false)
    (taken : (chanLoad s c (entryAddr s c (rn s .RING_FETCH c)) 16).2.1 = false)
    (sound : (chanLoad s c (entryAddr s c (rn s .RING_FETCH c)) 16).2.2.1 = false) :
    let i := rn s .RING_FETCH c
    let bs := (chanLoad s c (entryAddr s c i) 16).1
    ∃ u, ringFetch s c = fetchEntry (fetching s c) c i ∧ chanLoad (fetching s c) c (entryAddr (fetching s c) c i) 16 = (bs, false, false, u) ∧
      Fetched s c (infoOf bs) (keepInfo u c i (infoOf bs)) ∧ chanOf (keepInfo u c i (infoOf bs)) c = withInfo (chanOf s c) i (infoOf bs) := by
  obtain ⟨bytes, refused, fault⟩ := chanLoad_fetching (i := rn s .RING_FETCH c) s c
  rw [taken] at refused
  rw [sound] at fault
  have leaves : LeavesChannels True True (fetching s c)
      (chanLoad (fetching s c) c (entryAddr (fetching s c) c (rn s .RING_FETCH c)) 16).2.2.2 := (LeavesChannels.refl _).farLoad ..
  refine ⟨_, ringFetch_takes enabled going posted agree room now, Prod.ext bytes (Prod.ext refused (Prod.ext fault rfl)), .load leaves _, ?_⟩
  rw [chanOf_keepInfo, leaves.chanOf c]
  rfl

end Sys2Proof.Proofs
end

section
/-! # Chapter 11: completion, and fetch and completion together (R581-R583, R587-R589, R592) -/
namespace Sys2Proof.Proofs
open Sys2Proof.Machine Sys2Proof.Laws

variable {s t u : State} {c : Fin 16} {i : Nat} {k : Compl} {x : EntryInfo}

/-! ## An entry ends -/

/-- The next completion that waits has been written: its entry is no longer outstanding and one credit has returned. -/
structure Completed (s : State) (c : Fin 16) (i : Nat) (t : State) : Prop where
  done : (chanOf t c).done = (chanOf s c).done.drop 1
  out : (chanOf t c).out = (chanOf s c).out.erase i
  returned : term t (4 + c) 1 = term s (4 + c) 1 + 1
  waiting : term t (4 + c) 5 = term s (4 + c) 5 - 1
  ncompl : rd t .RING_NCOMPL c = rd s .RING_NCOMPL c + 1
  cqhead : rd t .RING_CQHEAD c = rd s .RING_CQHEAD c
  stall : rb t .RING_STAT c 2 = rb s .RING_STAT c 2
  thr : t.thr = s.thr
  near : t.near = s.near
  far : t.far = s.far

/-- The channel without an entry that has ended. -/
def retired (x : Chan) (i : Nat) : Chan :=
  { x with out := x.out.erase i, given := x.given.erase i, done := x.done.drop 1, info := mset (fun _ => none) x.info i none }

theorem chanOf_retire (s : State) (c i : Nat) : chanOf (retire s c i) c = retired (chanOf s c) i := chanOf_setChan s c _

theorem retire_keeps (s : State) (c i : Nat) :
    (retire s c i).led = s.led ∧ (retire s c i).thr = s.thr ∧ (retire s c i).near = s.near ∧ (retire s c i).far = s.far := by
  simp [retire, showOut]

theorem rd_retire (s : State) (c i : Nat) {r : Rg} (channel : OfChannel r) (ncompl : (regInfo r).base ≠ (regInfo .RING_NCOMPL).base)
    (recl : (regInfo r).base ≠ (regInfo .RING_RECL).base) (outst : (regInfo r).base ≠ (regInfo .RING_OUTST).base) :
    rd (retire s c i) r c = rd s r c :=
  (rd_showOut _ channel recl outst c).trans (rd_wr_channel _ channel (by decide) ncompl c _)

/-- The credit of an entry returns from where its completion waited, and the entry is retired. -/
theorem retire_completed (s : State) (c : Fin 16) (i : Nat) : Completed s c i (retire (book s (4 + c) 5 1 1) c i) := by
  have booked : LeavesChannels False True s (book s (4 + c) 5 1 1) := (LeavesChannels.refl s).book _ _ _ _
  have chan := chanOf_retire (book s (4 + c) 5 1 1) c i
  rw [booked.chanOf c] at chan
  have other {r : Rg} (channel : OfChannel r) (ncompl : (regInfo r).base ≠ (regInfo .RING_NCOMPL).base)
      (recl : (regInfo r).base ≠ (regInfo .RING_RECL).base) (outst : (regInfo r).base ≠ (regInfo .RING_OUTST).base) :
      rd (retire (book s (4 + c) 5 1 1) c i) r c = rd s r c :=
    (rd_retire _ c i channel ncompl recl outst).trans (booked.rd channel c)
  have counted : rd (retire (book s (4 + c) 5 1 1) c i) .RING_NCOMPL c = rd (book s (4 + c) 5 1 1) .RING_NCOMPL c + 1 :=
    (rd_showOut _ (by decide) (by decide) (by decide) c).trans (rd_wr_same ..)
  obtain ⟨led, thr, near, far⟩ := retire_keeps (book s (4 + c) 5 1 1) c i
  exact {
    done := (congrArg Chan.done chan :)
    out := (congrArg Chan.out chan :)
    returned := (term_congr led _ _).trans (term_book_to s (4 + c) 1 (by decide))
    waiting := (term_congr led _ _).trans (term_book_from s (4 + c) 1 (by decide) (by decide))
    ncompl := by rw [counted, booked.rd (by decide) c]
    cqhead := other (by decide) (by decide) (by decide) (by decide)
    stall := rb_congr (other (by decide) (by decide) (by decide) (by decide)) 2
    thr := thr.trans booked.thr
    near := near.trans booked.near
    far := far.trans (booked.far trivial) }

theorem Completed.flags (h : Completed s c i t) (k : FlagsOnly c t u) : Completed s c i u where
  done := by rw [k.chanOf c, h.done]
  out := by rw [k.chanOf c, h.out]
  returned := (term_congr k.led _ _).trans h.returned
  waiting := (term_congr k.led _ _).trans h.waiting
  ncompl := (k.rd (by decide) (by decide) (by decide)).trans h.ncompl
  cqhead := (k.rd (by decide) (by decide) (by decide)).trans h.cqhead
  stall := k.stall.trans h.stall
  thr := k.thr.trans h.thr
  near := k.near.trans h.near
  far := k.far.trans h.far

/-- Without STOPERR what ends with a completion is flags and reports beside the entry's retirement. -/
theorem finishCompl_completed (going : rb s .RING_CFG c 11 = false) (irq bad : Bool) : Completed s c k.idx (finishCompl s c k irq bad) := by
  have ended := retire_completed s c k.idx
  unfold finishCompl
  extract_lets s1 s2 s3
  have erring : FlagsOnly c s1 s2 := .ite ((((FlagsOnly.refl c s1).ringErr 7).errIdx k.idx).send _ _) (.refl c s1)
  have told : FlagsOnly c s1 s3 := .ite (erring.send _ _) erring
  have goes : rb s1 .RING_CFG c 11 = false := by
    rw [rb_congr (rd_retire _ c k.idx (by decide) (by decide) (by decide) (by decide)) 11,
      ((LeavesChannels.refl (books := False) (sram := True) s).book _ _ _ _).rb (by decide) c 11, going]
  have stays : ¬ (bad && rb s3 .RING_CFG c 11) = true := by
    rw [rb_congr (told.rd (by decide) (by decide) (by decide)) 11, goes, Bool.and_false]
    decide
  rw [if_neg stays]
  exact ended.flags told.endStop

/-! ## The completion that is due -/

theorem ringCompleteDue_none (none : (chanOf s c).done = []) : ringCompleteDue s c = s := by
  rw [ringCompleteDue, none]

theorem ringCompleteDue_now {rest : List Compl} (done : (chanOf s c).done = k :: rest) (entry : chanWaits s c (entryAddr s c k.idx) 16 = false)
    (slot : rb s .RING_CFG c 9 = false ∨ chanWaits s c (cqSlot s c) 8 = false) : ringCompleteDue s c = ringComplete s c := by
  have now : ¬ (chanWaits s c (entryAddr s c k.idx) 16 || (rb s .RING_CFG c 9 && chanWaits s c (cqSlot s c) 8)) = true := by
    rcases slot with h | h <;> simp [entry, h]
  rw [ringCompleteDue, done]
  exact if_neg now

/-- A completion in place (R587): the one line store, then the end of the entry. -/
theorem ringComplete_inPlace {rest : List Compl} (done : (chanOf s c).done = k :: rest) (place : rb s .RING_CFG c 9 = false) :
    ringComplete s c =
      let e := entryInfo s c k.idx
      let w := endEntry e.2 c e.1 k
      finishCompl w.2.2 c k (nbit e.1.ctl 2) (w.1 || w.2.1) := by
  rw [ringComplete, done]
  exact if_pos place

/-- What the read of the completion slot's CTAG answers (R588). -/
def slotRead (s : State) (c : Nat) (k : Compl) : List Byte × Bool × Bool × State := chanLoad (entryInfo s c k.idx).2 c (cqSlot s c) 2

/-- The slot at CQHEAD is still taken: its CTAG was read and has VALID 1 (R589). -/
abbrev SlotFull (s : State) (c : Nat) (k : Compl) : Prop := (slotRead s c k).2.1 = false ∧ nbit (leNat (slotRead s c k).1) 15 = true

theorem slotRead_leaves (s : State) (c : Nat) (k : Compl) : LeavesChannels True True s (slotRead s c k).2.2.2 :=
  ((LeavesChannels.refl s).entryInfo c k.idx).farLoad ..

/-- A full completion ring holds the completion; the first time sets CQSTALL and is counted (R589). -/
theorem ringComplete_full {rest : List Compl} (done : (chanOf s c).done = k :: rest) (ring : rb s .RING_CFG c 9 = true) (full : SlotFull s c k) :
    ringComplete s c =
      let v := (slotRead s c k).2.2.2
      if rb v .RING_STAT c 2 then v else count (wb v .RING_STAT c 2 true) .fabric 0x26 := by
  have taken : (!(slotRead s c k).2.1 && nbit (leNat (slotRead s c k).1) 15) = true := by rw [full.1, full.2]; rfl
  rw [ringComplete, done]
  exact (if_neg (by simp [ring])).trans (if_pos taken)

/-- The state with a completion in its slot, CQHEAD moved on and the ring's entry ended (R588): channel, books and threads are as before. -/
structure SlotWritten (s : State) (c : Fin 16) (u : State) : Prop where
  chan : u.chan = s.chan
  thr : u.thr = s.thr
  near : u.near = s.near
  led : u.led = s.led
  cfg : rd u .RING_CFG c = rd s .RING_CFG c
  stall : rb u .RING_STAT c 2 = false
  cqhead : rd u .RING_CQHEAD c = BitVec.ofNat 32 ((rn s .RING_CQHEAD c + 1) % 2 ^ rf s .RING_CQCFG c 3 0)

/-- The slot at CQHEAD is written between loads and stores of far memory. -/
theorem slotWritten_of (before : LeavesChannels True False s t) (after : LeavesChannels True False (cqAdvance (wb t .RING_STAT c 2 false) c) u) :
    SlotWritten s c u where
  chan := after.chan.trans before.chan
  thr := after.thr.trans before.thr
  near := after.near.trans before.near
  led := (after.led trivial).trans (before.led trivial)
  cfg := (after.rd (by decide) c).trans ((rd_wr_channel _ (by decide) (by decide) (by decide) c _).trans
    ((rd_wb_channel _ (by decide) (by decide) (by decide) c _ _).trans (before.rd (by decide) c)))
  stall := (after.rb (by decide) c 2).trans ((rb_congr (rd_wr_channel _ (by decide) (by decide) (by decide) c _) 2).trans
    (rb_wb_same _ _ _ _ _ (by decide)))
  cqhead := by
    have kept {r : Rg} (channel : OfChannel r) (stat : (regInfo r).base ≠ (regInfo .RING_STAT).base) :
        rd (wb t .RING_STAT c 2 false) r c = rd s r c := (rd_wb_channel t channel (by decide) stat c 2 false).trans (before.rd channel c)
    rw [after.rd (by decide) c, cqAdvance, rd_wr_same, rn_congr (kept (by decide) (by decide)), rf_congr (kept (by decide) (by decide))]

/-- A slot that is free, or that is not told to be taken, is written and the entry ends. -/
theorem ringComplete_writes {rest : List Compl} (done : (chanOf s c).done = k :: rest) (ring : rb s .RING_CFG c 9 = true)
    (free : ¬ SlotFull s c k) : ∃ (u : State) (k' : Compl) (irq bad : Bool),
      ringComplete s c = finishCompl u c k' irq bad ∧ k'.idx = k.idx ∧ SlotWritten s c u := by
  have takes : ¬ (!(slotRead s c k).2.1 && nbit (leNat (slotRead s c k).1) 15) = true := by simpa [SlotFull] using free
  let e := entryInfo s c k.idx
  let r := slotRead s c k
  let k' := softCompl s c e.1 (if r.2.2.1 then { k with status := 7 } else k)
  let w := chanStore r.2.2.2 c (cqSlot s c) (complBytes e.1.tag k')
  let v := endEntry (cqAdvance (wb w.2.2 .RING_STAT c 2 false) c) c e.1 k'
  have read : LeavesChannels True False s r.2.2.2 := ((LeavesChannels.refl s).entryInfo c k.idx).farLoad ..
  refine ⟨v.2.2, k', nbit e.1.ctl 2, r.2.2.1 || w.1 || w.2.1 || v.1 || v.2.1, ?_, ?_,
    slotWritten_of (read.farPut ..) ((LeavesChannels.refl _).farPut ..)⟩
  · rw [ringComplete, done]
    exact (if_neg (by simp [ring])).trans (if_neg takes)
  · unfold k' softCompl
    split <;> split <;> rfl

/-! ## The line store (R587) -/

theorem byte_mergeByte {a : Nat} (written : lineW s (a / 32) = true) (b : Byte) (j : Nat) :
    mget (fun _ => (0 : Byte)) (mergeByte s a b).far.byte j = if j = a then b else mget (fun _ => 0) s.far.byte j := by
  simp only [mergeByte, written, if_true]
  exact mget_mset ..

theorem lineW_mergeByte {l : Nat} (written : lineW s l = true) (a : Nat) (b : Byte) : lineW (mergeByte s a b) l = true := by
  refine (mget_mset (fun _ => false) s.far.written l (a / 32) true).trans ?_
  split
  · rfl
  · exact written

/-- Cells merged into lines that are written change the bytes they name, the last one last. -/
theorem byte_mergeCells {cells : List (Nat × Byte)} (written : ∀ e ∈ cells, lineW s (e.1 / 32) = true) (j : Nat) :
    mget (fun _ => (0 : Byte)) (cells.foldl (fun s e => mergeByte s e.1 e.2) s).far.byte j =
      cells.foldl (fun b e => if j = e.1 then e.2 else b) (mget (fun _ => 0) s.far.byte j) := by
  induction cells generalizing s with
  | nil => rfl
  | cons e cells ih =>
    rw [List.forall_mem_cons] at written
    rw [List.foldl_cons, List.foldl_cons, ih fun d hd => lineW_mergeByte (written.2 d hd) _ _, byte_mergeByte written.1]

/-- A store in far SRAM whose every cell passes the page check and lies in a line of the owner, whose key is there, merges its
cells and does nothing else (R498). -/
theorem farPut_own {kind agent ch o a : Nat} {world : Bool} {cells : List (Nat × Byte)} (opened : ringClosed world o = false)
    (key : noKey s o = false)
    (own : ∀ e ∈ cells, e.1 < 0x400000 ∧ pageRefuses s world o e.1 = false ∧ lineTag s (e.1 / 32) = o) :
    farPut s kind agent ch o world a cells = (false, false, cells.foldl (fun s e => mergeByte s e.1 e.2) s) := by
  have opens : ¬ (kind = 8 ∧ ringClosed world o = true) := by simp [opened]
  have region {e : Nat × Byte} (he : e ∈ cells) : farRegion e.1 = 0 := if_pos (own e he).1
  have bad : (cells.map fun e => e.1).filter (fun x => farRegion x == 0 && pageRefuses s world o x) = [] := by
    simp only [List.filter_eq_nil_iff, List.forall_mem_map]
    intro e he
    rw [(own e he).2.1, Bool.and_false]
    exact Bool.false_ne_true
  have good : cells.filter (fun e => farRegion e.1 == 0 && !(pageRefuses s world o e.1)) = cells := by
    refine List.filter_eq_self.2 fun e he => ?_
    rw [region he, (own e he).2.1]
    rfl
  have miss : cells.filter (fun e => !(lineTag s (e.1 / 32) == o)) = [] := by
    refine List.filter_eq_nil_iff.2 fun e he => ?_
    rw [(own e he).2.2, beq_self_eq_true]
    exact Bool.false_ne_true
  have hit : cells.filter (fun e => lineTag s (e.1 / 32) == o) = cells := by
    refine List.filter_eq_self.2 fun e he => ?_
    rw [(own e he).2.2, beq_self_eq_true]
  have elsewhere {p : Nat → Bool} (h : ∀ x, farRegion x = 0 → p x = false) : (cells.map fun e => e.1).any p = false := by
    simp only [List.any_eq_false, List.forall_mem_map]
    intro e he
    rw [h _ (region he)]
    exact Bool.false_ne_true
  have readOnly : (cells.map fun e => e.1).any (fun x => farRegion x == 1 || farRegion x == 2 || farRegion x == 3) = false :=
    elsewhere fun x h => by rw [h]; rfl
  have hole : (cells.map fun e => e.1).any (fun x => farRegion x == 4) = false := elsewhere fun x h => by rw [h]; rfl
  simp only [farPut, if_neg opens, bad, good, key, Bool.and_false, Bool.false_eq_true, if_false, miss, hit, readOnly, hole, countIf,
    List.isEmpty_nil, Bool.not_true, List.head?_nil]

/-- The line store that ends an entry whose line is the owner's leaves CTL with OWN 0, DONE and STATUS, and every other byte (R587). -/
theorem byte_endEntry {o : Nat} (owner : chanOwner s c = o) (unit : rf s .RING_CFG c 4 0 ≠ 0) (sram : entryAddr s c k.idx + 15 < 0x400000)
    (opened : ringClosed (chanWorld s c) o = false) (key : noKey s o = false)
    (own : ∀ j, j < 16 → pageRefuses s (chanWorld s c) o (entryAddr s c k.idx + j) = false ∧ lineTag s ((entryAddr s c k.idx + j) / 32) = o ∧
      lineW s ((entryAddr s c k.idx + j) / 32) = true) (j : Nat) :
    let a := entryAddr s c k.idx
    mget (fun _ => (0 : Byte)) (endEntry s c x k).2.2.far.byte j =
      if j = a then BitVec.ofNat 8 (x.ctl / 2 * 2) else if j = a + 12 then BitVec.ofNat 8 k.done else if j = a + 13 then BitVec.ofNat 8 (k.done / 256)
      else if j = a + 14 then BitVec.ofNat 8 k.status else mget (fun _ => 0) s.far.byte j := by
  intro a
  let cells : List (Nat × Byte) := [(a, BitVec.ofNat 8 (x.ctl / 2 * 2)), (a + 12, BitVec.ofNat 8 k.done), (a + 13, BitVec.ofNat 8 (k.done / 256)),
    (a + 14, BitVec.ofNat 8 k.status)]
  have stored : endEntry s c x k = farPut s 8 8 c o (chanWorld s c) a cells := by
    rw [endEntry, owner, if_neg unit]
    rfl
  have inside : ∀ e ∈ cells, ∃ j, j < 16 ∧ e.1 = a + j := by
    simp only [cells, List.forall_mem_cons, List.not_mem_nil, false_implies, implies_true, and_true]
    exact ⟨⟨0, by decide, rfl⟩, ⟨12, by decide, rfl⟩, ⟨13, by decide, rfl⟩, ⟨14, by decide, rfl⟩⟩
  rw [stored, farPut_own opened key fun e he => ?fits, byte_mergeCells fun e he => ?written]
  case fits =>
    obtain ⟨j, small, place⟩ := inside e he
    obtain ⟨page, tag, -⟩ := own j small
    rw [place]
    exact ⟨by omega, page, tag⟩
  case written =>
    obtain ⟨j, small, place⟩ := inside e he
    rw [place]
    exact (own j small).2.2
  simp only [cells, List.foldl_cons, List.foldl_nil]
  grind

/-! ## The rows -/

/-- The completions that the channel's commands write, each held back by CQSTALL or waiting for it (R588, R589). -/
theorem exec_ringCompletion (live : Live s .fabric) (c : Fin 16) :
    exec (.ringCompletion c) s = .next (if rb s .RING_STAT c 2 then s else ringCompleteDue s c) :=
  liveIn_live live fun s => if rb s .RING_STAT c 2 then s else ringCompleteDue s c

theorem exec_ringCqRetry (live : Live s .fabric) (c : Fin 16) :
    exec (.ringCqRetry c) s = .next (if rb s .RING_STAT c 2 then ringCompleteDue s c else s) :=
  liveIn_live live fun s => if rb s .RING_STAT c 2 then ringCompleteDue s c else s

theorem exec_ringFetch (live : Live s .fabric) (c : Fin 16) : exec (.ringFetch c) s = .next (ringFetch s c) :=
  liveIn_live live fun s => ringFetch s c

/-- Where nothing waits to be written neither command does anything. -/
theorem completions_none (live : Live s .fabric) (none : (chanOf s c).done = []) :
    exec (.ringCompletion c) s = .next s ∧ exec (.ringCqRetry c) s = .next s := by
  have still := ringCompleteDue_none none
  rw [exec_ringCompletion live, exec_ringCqRetry live, still]
  exact ⟨by rw [ite_self], by rw [ite_self]⟩

/-- A completion in place ends its entry; where its line is the owner's the line store changes four bytes (R587). -/
theorem inPlace_effects {rest : List Compl} (done : (chanOf s c).done = k :: rest) (place : rb s .RING_CFG c 9 = false)
    (going : rb s .RING_CFG c 11 = false) : let t := ringComplete s c
    (chanOf t c).done = rest ∧ (chanOf t c).out = (chanOf s c).out.erase k.idx ∧ term t (4 + c) 1 = term s (4 + c) 1 + 1 ∧
      term t (4 + c) 5 = term s (4 + c) 5 - 1 ∧ rd t .RING_NCOMPL c = rd s .RING_NCOMPL c + 1 ∧ t.thr = s.thr ∧ t.near = s.near ∧
      t.far = (endEntry (entryInfo s c k.idx).2 c (entryInfo s c k.idx).1 k).2.2.far := by
  let e := entryInfo s c k.idx
  let w := endEntry e.2 c e.1 k
  have stored : LeavesChannels True False s w.2.2 := ((LeavesChannels.refl s).entryInfo c k.idx).farPut ..
  have ended := finishCompl_completed (k := k) ((stored.rb (by decide) c 11).trans going) (nbit e.1.ctl 2) (w.1 || w.2.1)
  rw [ringComplete_inPlace done place]
  exact ⟨by rw [ended.done, stored.chanOf c, done]; rfl, by rw [ended.out, stored.chanOf c],
    ended.returned.trans (by rw [term_congr (stored.led trivial)]), ended.waiting.trans (by rw [term_congr (stored.led trivial)]),
    ended.ncompl.trans (by rw [stored.rd (by decide) c]), ended.thr.trans stored.thr, ended.near.trans stored.near, ended.far⟩

/-- A completion written to its slot ends its entry and moves CQHEAD on (R588). -/
theorem slot_effects {rest : List Compl} (done : (chanOf s c).done = k :: rest) (ring : rb s .RING_CFG c 9 = true)
    (going : rb s .RING_CFG c 11 = false) (free : ¬ SlotFull s c k) : let t := ringComplete s c
    (chanOf t c).done = rest ∧ (chanOf t c).out = (chanOf s c).out.erase k.idx ∧ rb t .RING_STAT c 2 = false ∧
      rd t .RING_CQHEAD c = BitVec.ofNat 32 ((rn s .RING_CQHEAD c + 1) % 2 ^ rf s .RING_CQCFG c 3 0) ∧
      term t (4 + c) 1 = term s (4 + c) 1 + 1 ∧ t.thr = s.thr ∧ t.near = s.near := by
  obtain ⟨u, k', irq, bad, writes, same, written⟩ := ringComplete_writes done ring free
  have ended := finishCompl_completed (k := k') ((rb_congr written.cfg 11).trans going) irq bad
  rw [same] at ended
  rw [writes]
  exact ⟨by rw [ended.done, chanOf_congr written.chan, done]; rfl, by rw [ended.out, chanOf_congr written.chan], ended.stall.trans written.stall,
    ended.cqhead.trans written.cqhead, ended.returned.trans (by rw [term_congr written.led]), ended.thr.trans written.thr,
    ended.near.trans written.near⟩

/-- A full slot leaves the channel and its book as they are, with CQSTALL set (R589). -/
theorem full_effects {rest : List Compl} (done : (chanOf s c).done = k :: rest) (ring : rb s .RING_CFG c 9 = true) (full : SlotFull s c k) :
    let t := ringComplete s c
    chanOf t c = chanOf s c ∧ rb t .RING_STAT c 2 = true ∧ t.led = s.led ∧ t.thr = s.thr := by
  have read := slotRead_leaves s c k
  rw [ringComplete_full done ring full]
  dsimp only
  generalize (slotRead s c k).2.2.2 = v at read ⊢
  split
  next stalled => exact ⟨read.chanOf c, stalled, read.led trivial, read.thr⟩
  · have marked : rb (wb v .RING_STAT c 2 true) .RING_STAT c 2 = true := rb_wb_same _ _ _ _ _ (by decide)
    rw [count_fabric, send_led, send_thr, wb_led, wb_thr, rb_congr (rd_send ..), chanOf_congr (send_chan ..), chanOf_congr (wb_chan ..)]
    exact ⟨read.chanOf c, marked, read.led trivial, read.thr⟩

/-! ## The obligation -/

/-- Settles O36: a fetch takes the entry that its load shows and passes it on, completes it or errs; a completion writes its one line, or waits
for its slot. -/
theorem ringFetchAndCompletion : Obligations.RingFetchAndCompletion := by
  intro s c live ch i ld bs u o ready len good taken
  have fetch := exec_ringFetch live c
  have reads : ready → ∃ v, ringFetch s c = fetchEntry (fetching s c) c i ∧
      chanLoad (fetching s c) c (entryAddr (fetching s c) c i) 16 = (bs, false, false, v) ∧
      Fetched s c (infoOf bs) (keepInfo v c i (infoOf bs)) ∧ chanOf (keepInfo v c i (infoOf bs)) c = withInfo ch i (infoOf bs) :=
    fun ⟨enabled, going, posted, agree, room, now, taken, sound⟩ => ringFetch_reads enabled going posted agree room now taken sound
  have number : rf (fetching s c) .RING_CFG c 4 0 = u := rf_congr (rd_fetching (by decide) (by decide) c) 4 0
  have takes {t : State} (h : Fetched s c (infoOf bs) t) : taken t := ⟨h.fetch, h.thr, h.far, h.info⟩
  refine ⟨fun posted fits some unit => ?direct, fun posted fits soft => ?soft, fun posted unowned going => ?unowned,
    fun idle => fetch.trans (congrArg _ (ringFetch_still idle)), fun k rest done free place going now => ?inPlace,
    fun none => completions_none live none, fun k rest done ring entry slot => ?slots⟩
  case direct =>
    obtain ⟨v, row, load, kept, chan⟩ := reads posted
    obtain ⟨fetched, given, handed⟩ := passEntry_unit kept unit i (bs.getD 1 0).toNat (bs.getD 7 0).toNat false
      [(leNat ((bs.drop 4).take 3), len)]
    rw [row, fetchEntry_direct load fits some (number.trans_ne unit)] at fetch
    rw [chan] at given
    exact Does.intro fetch ⟨takes fetched, given, handed⟩
  case soft =>
    obtain ⟨v, row, load, kept, chan⟩ := reads posted
    obtain ⟨fetched, given, done⟩ := passEntry_soft kept soft i (bs.getD 1 0).toNat (bs.getD 7 0).toNat false []
    rw [row, fetchEntry_soft load fits (number.trans soft)] at fetch
    rw [chan] at given done
    exact Does.intro fetch ⟨takes fetched, given, done⟩
  case unowned =>
    obtain ⟨v, row, load, kept, chan⟩ := reads posted
    obtain ⟨fetched, done, given, err⟩ := badFetch_effects kept going i 5 5 0x23
    rw [row, fetchEntry_unowned load unowned] at fetch
    rw [chan] at given done
    exact Does.intro fetch ⟨takes fetched, done, given, err⟩
  case inPlace =>
    have row := (exec_ringCompletion live c).trans (congrArg _ (if_neg (by rw [free]; decide)))
    rw [ringCompleteDue_now done now (.inl place)] at row
    obtain ⟨waiting, out, returned, held, ncompl, thr, near, far⟩ := inPlace_effects done place going
    refine Does.intro row ⟨waiting, out, returned, held, ncompl, thr, near, fun x unit known sram opened key own j => ?_⟩
    have info : entryInfo s c k.idx = (x, s) := by rw [entryInfo, known]
    rw [far, info]
    exact byte_endEntry rfl unit sram opened key own j
  case slots =>
    have due : ringCompleteDue s c = ringComplete s c := ringCompleteDue_now done entry (.inr slot)
    have completion := exec_ringCompletion live c
    have retry := exec_ringCqRetry live c
    rw [due] at completion retry
    refine ⟨fun stalled => ?_, fun free => ?_⟩
    · rw [stalled, if_pos rfl] at completion retry
      exact ⟨completion, fun full => Does.intro retry (full_effects done ring full),
        fun free going => Does.intro retry (slot_effects done ring going free)⟩
    · rw [free, if_neg Bool.false_ne_true] at completion retry
      exact ⟨retry, fun full => Does.intro completion (full_effects done ring full),
        fun free going => Does.intro completion (slot_effects done ring going free)⟩

end Sys2Proof.Proofs
end

section
/-! # What every command answers, and what a step is -/
namespace Sys2Proof.Proofs
open Sys2Proof.Machine Sys2Proof.Laws

/-- A command that takes one of two rows answers where each does. -/
theorem answers_ite {p : Prop} [Decidable p] {x y : Host.Outcome State Fault Refusal} (hx : ∃ t, x = .next t) (hy : ∃ t, y = .next t) :
    ∃ t, (if p then x else y) = .next t := by
  split
  · exact hx
  · exact hy

/-- Settles O1: a step with a command waiting takes it from the front of the queue. -/
theorem stepRunsFrontCommand : Obligations.StepRunsFrontCommand := fun _ _ _ => rfl

/-- Settles O3: a command's row answers its effect on the state or the state itself; a row that depends on an operand, or on who asks, is one
of two such rows. -/
theorem everyCommandAnswersNext : Obligations.EveryCommandAnswersNext := by
  intro c s
  cases c with
  | threadStop | watermarkLock | linkNoclkClear | windowOwnerWrite | debugHalt | debugResume | debugStep =>
    exact answers_ite ⟨_, rfl⟩ ⟨_, rfl⟩
  | nvBufferAccess req w wr dst => cases wr <;> exact ⟨_, rfl⟩
  | nvMaskAccess req wr dst => cases wr <;> exact ⟨_, rfl⟩
  | retentionDataAccess req normalPort wr dst => cases wr <;> exact ⟨_, rfl⟩
  | debugRegisterAccess req wr dst =>
    cases wr with
    | none => exact ⟨_, rfl⟩
    | some v => exact answers_ite ⟨_, rfl⟩ ⟨_, rfl⟩
  | _ => exact ⟨_, rfl⟩

end Sys2Proof.Proofs
end

section
/-!
SUPPORT. What the operations of units leave as they are: every thread, every memory, the instant, and the registers at the addresses of a set that
each statement chooses. With the empty set this is the frame of a command; with one address it says that a register stays.
-/
namespace Sys2Proof.Proofs
open Sys2Proof.Machine Sys2Proof.Laws

/-- From `s` to `t` no thread, no memory, neither clock and no register at an address of `A` differs. -/
structure Keeps (A : Nat → Prop) (s t : State) : Prop where
  thr : t.thr = s.thr
  memory : SameMemory s t
  time : t.time = s.time
  cycles : t.cycles = s.cycles
  io : ∀ (d : Nat → Quad) (a : Nat), A a → mget d t.io a = mget d s.io a

/-- No address: what `Keeps` then says is the frame alone. -/
abbrev Nowhere : Nat → Prop := fun _ => False

/-- The address of one register. -/
abbrev At (r : Rg) (i : Nat) : Nat → Prop := (· = regAddr r i)

/-- The parts of a state that are a register, a thread, a memory or a clock. -/
def heldParts (s : State) :=
  (s.thr, s.near, s.bits, s.iram, s.retain, s.nvByte, s.far.byte, s.far.tag, s.far.written, s.far.owner, s.pads, s.pending, s.time, s.cycles, s.io)

namespace Keeps

variable {A : Nat → Prop} {s t u : State}

/-- A change of other parts of the state than those named. -/
theorem of_same (thr : t.thr = s.thr) (memory : SameMemory s t) (time : t.time = s.time) (cycles : t.cycles = s.cycles) (io : t.io = s.io) :
    Keeps A s t := ⟨thr, memory, time, cycles, fun _ _ _ => by rw [io]⟩

theorem refl (s : State) : Keeps A s s := of_same rfl (SameMemory.refl s) rfl rfl rfl

theorem trans (h : Keeps A s t) (k : Keeps A t u) : Keeps A s u where
  thr := k.thr.trans h.thr
  memory := SameMemory.trans h.memory k.memory
  time := k.time.trans h.time
  cycles := k.cycles.trans h.cycles
  io d a inside := (k.io d a inside).trans (h.io d a inside)

theorem of_eq (h : Keeps A s t) (same : t = u) : Keeps A s u := same ▸ h

theorem ite (h : Keeps A s t) (k : Keeps A s u) {p : Prop} [Decidable p] : Keeps A s (if p then t else u) := by
  split
  · exact h
  · exact k

theorem foldl {α : Type} {f : State → α → State} {l : List α} (h : Keeps A s t) (hf : ∀ u x, Keeps A s u → Keeps A s (f u x)) :
    Keeps A s (l.foldl f t) := by
  induction l generalizing t with
  | nil => exact h
  | cons x l ih => exact ih (hf t x h)

theorem frame (h : Keeps A s t) : t.thr = s.thr ∧ SameMemory s t := ⟨h.thr, h.memory⟩

theorem rd (h : Keeps A s t) {r : Rg} {i : Nat} (inside : A (regAddr r i)) : rd t r i = rd s r i := h.io _ _ inside

theorem rb (h : Keeps A s t) {r : Rg} {i : Nat} (inside : A (regAddr r i)) (b : Nat) : rb t r i b = rb s r i b := rb_congr (h.rd inside) b

theorem rf (h : Keeps A s t) {r : Rg} {i : Nat} (inside : A (regAddr r i)) (hi lo : Nat) : rf t r i hi lo = rf s r i hi lo :=
  rf_congr (h.rd inside) hi lo

theorem mgmt (h : Keeps A s t) {u : Nat} (inside : A (regAddr (unitReg u).1 (unitReg u).2)) : mgmt t u = mgmt s u := h.rf inside 1 0

theorem dstate (h : Keeps A s t) {u : Nat} (inside : A (regAddr (unitReg u).1 (unitReg u).2)) : dstate t u = dstate s u := h.rf inside 3 2

/-! ## One part of the state replaced -/

theorem wr (h : Keeps A s t) {r : Rg} {i : Nat} (apart : ¬ A (regAddr r i)) (v : Quad) : Keeps A s (wr t r i v) :=
  h.trans ⟨rfl, wr_memory .., rfl, rfl, fun d _ inside => mget_wr_io_ne t d v fun same => apart (same ▸ inside)⟩

theorem wb (h : Keeps A s t) {r : Rg} {i : Nat} (apart : ¬ A (regAddr r i)) (b : Nat) (x : Bool) : Keeps A s (wb t r i b x) := h.wr apart _

theorem wf (h : Keeps A s t) {r : Rg} {i : Nat} (apart : ¬ A (regAddr r i)) (hi lo x : Nat) : Keeps A s (wf t r i hi lo x) := h.wr apart _

/-- A change of parts of the state that are no register, thread, memory or clock. -/
theorem part (h : Keeps A s t) (same : heldParts u = heldParts t) : Keeps A s u := by
  simp only [heldParts, Prod.mk.injEq] at same
  obtain ⟨thr, near, bits, iram, retain, nvByte, byte, tag, written, owner, pads, pending, time, cycles, io⟩ := same
  exact h.trans (of_same thr ⟨near, bits, iram, retain, nvByte, byte, tag, written, owner, pads, pending⟩ time cycles io)

theorem send (h : Keeps A s t) (c : Nat) (x : Xfer) : Keeps A s (send t c x) := h.part rfl

theorem startTimer (h : Keeps A s t) (k n : Nat) : Keeps A s (startTimer t k n) := h.part rfl

theorem stopTimer (h : Keeps A s t) (k : Nat) : Keeps A s (stopTimer t k) := h.part rfl

theorem setLedger (h : Keeps A s t) (x : Ledger) : Keeps A s { t with led := x } := h.part rfl

theorem setDev (h : Keeps A s t) (x : Dev) : Keeps A s (setDev t x) := h.part rfl

theorem setSlot (h : Keeps A s t) (u : Nat) (x : Option Slot) : Keeps A s (setSlot t u x) := h.part rfl

theorem setMover (h : Keeps A s t) (c i : Nat) (x : Option Mover) : Keeps A s (setMover t c i x) := h.part rfl

theorem setMr (h : Keeps A s t) (x : Mr) : Keeps A s (setMr t x) := h.part rfl

theorem setPp (h : Keeps A s t) (x : Paper) : Keeps A s (setPp t x) := h.part rfl

theorem setFd (h : Keeps A s t) (x : Feeder) : Keeps A s (setFd t x) := h.part rfl

theorem setUsb (h : Keeps A s t) (x : Usb) : Keeps A s (setUsb t x) := h.part rfl

theorem setEth (h : Keeps A s t) (x : Eth) : Keeps A s (setEth t x) := h.part rfl

theorem setUart (h : Keeps A s t) (n : Nat) (x : Uart) : Keeps A s (setUart t n x) := h.part rfl

theorem setKx (h : Keeps A s t) (x : Kx) : Keeps A s (setKx t x) := h.part rfl

theorem setSpi (h : Keeps A s t) (x : Spi) : Keeps A s (setSpi t x) := h.part rfl

theorem setNv (h : Keeps A s t) (x : Nv) : Keeps A s (setNv t x) := h.part rfl

theorem setDbg (h : Keeps A s t) (x : Dbg) : Keeps A s (setDbg t x) := h.part rfl

theorem setMon (h : Keeps A s t) (x : Mon) : Keeps A s (setMon t x) := h.part rfl

theorem drawFree (h : Keeps A s t) (n : Nat) : Keeps A s { t with fresh := n } := h.part rfl

/-! ## Reports to CORE and FABRIC -/

theorem count (h : Keeps A s t) {i : Island} (away : i ≠ .core) (code : Nat) : Keeps A s (count t i code) := by
  rw [count_send away]
  exact h.send _ _

theorem raise (h : Keeps A s t) {i : Island} (away : i ≠ .core) (src : Nat) : Keeps A s (raise t i src) := by
  rw [raise_send away]
  exact h.send _ _

theorem report (h : Keeps A s t) {i : Island} (away : i ≠ .fabric) (b src dst n : Nat) : Keeps A s (report t i b src dst n) := by
  unfold Machine.report
  rw [if_neg away]
  exact ite h (h.send _ _)

/-! ## States of units and the entries they hold -/

theorem setUnit (h : Keeps A s t) {u : Nat} (apart : ¬ A (regAddr (unitReg u).1 (unitReg u).2)) (m d : Nat) :
    Keeps A s (setUnit t u m d) := by
  have shown := h.wr apart (BitVec.ofNat 32 (m + 4 * d + 16 * b01 (agreeOf m d)))
  have agreed {p : Prop} [Decidable p] (c : Nat) (x : Xfer) := ite (p := p) shown (shown.send c x)
  unfold Machine.setUnit
  dsimp only
  split
  · exact h
  · split
    · exact (agreed _ _).raise (unitIsland_ne_core u) _
    · exact agreed _ _

theorem follow (h : Keeps A s t) {u : Nat} (apart : ¬ A (regAddr (unitReg u).1 (unitReg u).2)) (active : Bool) :
    Keeps A s (follow t u active) := ite (h.setUnit apart _ _) h

theorem unitComplete (h : Keeps A s t) (i : Island) (c idx status done cflags : Nat) : Keeps A s (unitComplete t i c idx status done cflags) :=
  (h.setMover _ _ _).send _ _

theorem slotComplete (h : Keeps A s t) (u status done cflags : Nat) : Keeps A s (slotComplete t u status done cflags) := by
  unfold Machine.slotComplete
  split
  · exact h
  · exact (h.setSlot u none).unitComplete _ _ _ _ _ _

end Keeps
end Sys2Proof.Proofs
end

section
/-! # Chapters 22 and 23: event counters and disagreement (R1126, R1134, R1135, R1153, R1154) -/
namespace Sys2Proof.Proofs
open Sys2Proof.Machine Sys2Proof.Laws

variable {s : State} {n : Fin 8}

/-- CLR written with the other fields of CTL as they are clears the counter on CTL with its RW bits alone. -/
theorem ecCtl_clear (s : State) (n : Nat) : ∃ v : Quad, (∀ b, b < 6 → v.getLsbD b = rb s .EC_CTL n b) ∧
    ecCtl s n (rd s .EC_CTL n ||| 0x40) = ecClear (wr s .EC_CTL n v) n := by
  have enable : (rd s .EC_CTL n ||| 0x40).getLsbD 0 = rb s .EC_CTL n 0 := by simp [rb]
  have clear : (rd s .EC_CTL n ||| 0x40).getLsbD 6 = true := by simp
  unfold ecCtl
  extract_lets was kept s1 c s2
  have unchanged : s2 = s1 := if_pos enable
  refine ⟨_, fun b low => ?_, by rw [clear, if_pos rfl, unchanged]⟩
  have chosen : kept.getLsbD b = (rb s .EC_CTL n b && (0x1E : Quad).getLsbD b) := by
    unfold kept
    split
    · simp [rb]
    · interval_cases b <;> simp [rb]
  rw [BitVec.getLsbD_or, chosen]
  interval_cases b <;> simp [rb]

theorem ecClear_effects (s : State) (n : Fin 8) : let t := ecClear s n
    rd t .EC_COUNT n = 0 ∧ rd t .EC_LAST n = 0 ∧ (ctr t n).opened = none ∧ rb t .EC_STAT n 2 = false ∧ rd t .EC_CTL n = rd s .EC_CTL n ∧
      (∀ k, k ≠ n.val → ctr t k = ctr s k) ∧ rd t .EC_SEL n = rd s .EC_SEL n := by
  have apart {q r : Rg} (strides : (regInfo q).stride = (regInfo r).stride) (bases : (regInfo q).base ≠ (regInfo r).base) :
      regAddr q n ≠ regAddr r n := by
    rw [regAddr, regAddr, strides]
    omega
  have still {r : Rg} (stride : (regInfo r).stride = 0x20) (stat : (regInfo r).base ≠ (regInfo .EC_STAT).base)
      (count : (regInfo r).base ≠ (regInfo .EC_COUNT).base) (last : (regInfo r).base ≠ (regInfo .EC_LAST).base) :
      rd (ecClear s n) r n = rd s r n := by
    rw [ecClear, rd_wr_ne _ _ _ _ _ _ (apart stride last), rd_wr_ne _ _ _ _ _ _ (apart stride count), ecDrop,
      rd_wb_ne _ _ _ _ _ _ _ (apart stride stat)]
    rfl
  refine ⟨?count, rd_wr_same .., congrArg Counter.opened (mget_mset_same ..), ?stat, still (by decide) (by decide) (by decide) (by decide),
    fun k other => (mget_mset_ne (fun _ => Counter.reset) _ s.ctr _ other :), still (by decide) (by decide) (by decide) (by decide)⟩
  case count => rw [ecClear, rd_wr_ne _ _ _ _ _ _ (apart (by decide) (by decide)), rd_wr_same]
  case stat =>
    rw [ecClear, rb_wr_ne _ _ _ (apart (by decide) (by decide)), rb_wr_ne _ _ _ (apart (by decide) (by decide))]
    exact rb_wb_same _ _ _ _ _ (by decide)

theorem ecClear_keeps (s : State) (n : Nat) : Keeps Nowhere s (ecClear s n) :=
  ((((Keeps.refl s).part (u := setCtr s n _) rfl).wb id _ _).wr id _).wr id _

theorem fld_byte (v : Byte) : fld (v.zeroExtend 32) 7 0 = v.toNat := by
  have small := v.isLt
  simp only [fld, BitVec.toNat_setWidth]
  omega

theorem zeroExtend_byte_low (v : Byte) : v.zeroExtend 32 &&& 0xFF = (v.zeroExtend 32 : Quad) := by
  have small := v.isLt
  have whole : v.toNat % 2 ^ 32 = v.toNat := Nat.mod_eq_of_lt (by omega)
  refine BitVec.eq_of_toNat_eq ?_
  rw [BitVec.toNat_and, BitVec.toNat_setWidth, whole]
  exact (Nat.and_two_pow_sub_one_eq_mod v.toNat 8).trans (Nat.mod_eq_of_lt small)

/-- A report of AGREE = 1 captured on the expiry edge ends the episode (R1154); otherwise the expiry marks the unit and raises source 33. -/
theorem disagreeHeld_effects (s : State) (u : Fin 11) : let t := disagreeHeld s u
    rb t .PMU_DISF 0 u = true ∧ mget (fun _ => false) t.icu.pend 33 = true ∧ t.timers = s.timers ∧ t.thr = s.thr ∧ SameMemory s t := by
  have counted : CountsOnly (wb s .PMU_DISF 0 u true) (disagreeHeld s u) := (countsOnly_occur _ 0x31 1).trans (countsOnly_latchEdge _ 33)
  refine ⟨?_, pendBit_latchEdge _ (by decide), by rw [counted.others]; rfl, counted.thr, SameMemory.trans (wr_memory ..) counted.sameMemory⟩
  rw [rb, counted.rd (notCounterReg_low (by decide))]
  exact rb_wb_same _ _ _ _ _ (by omega)

/-- Settles O59: SEL and COUNT are the counter's register, CLR its clearing, the expiry the mark or the tie's count. -/
theorem counterEffects : Obligations.CounterEffects := by
  intro s req n v x u
  refine ⟨fun may => ?sel, fun may => writeReg_taken may fun s => ecCount s n x, fun may => ?clear, fun live due => ?expiry⟩
  case sel =>
    have row : exec (.counterSelWrite req n v) s = .next (ecSel s n (v.zeroExtend 32)) := writeReg_taken may fun s => ecSel s n (v.zeroExtend 32)
    rw [row, ecSel, fld_byte]
    refine ⟨fun on => by rw [if_pos on], fun off listed => ?_, fun off unlisted => ?_⟩
    · rw [off, if_neg Bool.false_ne_true, if_pos listed, zeroExtend_byte_low]
    · rw [off, if_neg Bool.false_ne_true, unlisted, if_neg Bool.false_ne_true]
  case clear =>
    obtain ⟨c, kept, row⟩ := ecCtl_clear s n
    obtain ⟨count, last, opened, stat, ctl, others, sel⟩ := ecClear_effects (wr s .EC_CTL n c) n
    rw [rd_wr_ne _ _ _ _ _ _ (by simp only [regAddr, regInfo]; omega)] at sel
    have taken : exec (.counterClear req n) s = .next (ecCtl s n (rd s .EC_CTL n ||| 0x40)) :=
      writeReg_taken may fun s => ecCtl s n (rd s .EC_CTL n ||| 0x40)
    rw [row] at taken
    refine Does.intro taken ⟨count, last, opened, stat, fun b low => ?_, others, sel, ((Keeps.refl s).wr id _ |>.trans (ecClear_keeps _ n)).frame⟩
    rw [rb_congr ctl, rb, rd_wr_same, kept b low]
  case expiry =>
    obtain ⟨flag, pending, timers, thr, memory⟩ := disagreeHeld_effects (stopTimer s (tmrDisagree u)) u
    have row (tie : Bool) : exec (.disagreeHoldExpiry u tie) s = .next (expire s .core (tmrDisagree u) tie fun s => disagreeHeld s u) :=
      liveIn_live live _
    refine ⟨Does.intro ((row false).trans (congrArg _ (expire_due .core due _))) ⟨flag, pending, ?_, thr, memory⟩,
      (row true).trans (congrArg _ (expire_tie .core due _))⟩
    rw [timerOn, timers]
    exact timerOn_stopTimer s (tmrDisagree u)

end Sys2Proof.Proofs
end

section
/-! # Chapter 21: accesses of the debug bus master (R1088, R1103-R1105) -/
namespace Sys2Proof.Proofs
open Sys2Proof.Machine Sys2Proof.Laws

variable {s : State} {r : DbgRun}

/-! ## One turn of the command in progress -/

/-- An access outside CORE goes out, and the command waits for it. -/
theorem dbgGo_waits (n : Nat) (run : s.dbg.run = some r) (more : dbgAllDone r = false)
    (outside : (!r.far && accessIsland (dbgWho r.world) r.addr == .core) = false) : dbgGo (n + 1) s = dbgIssue s r := by
  simp only [dbgGo, run, more, outside, Bool.false_eq_true, if_false]

theorem dbgGo_ends (n : Nat) (run : s.dbg.run = some r) (done : dbgAllDone r = true) : dbgGo (n + 1) s = dbgFinish s 0 := by
  simp only [dbgGo, run, done, if_true]

/-- A read in CORE is carried out at once, and the command goes on behind it. -/
theorem dbgGo_coreRead (n : Nat) (run : s.dbg.run = some r) (more : dbgAllDone r = false)
    (inside : (!r.far && accessIsland (dbgWho r.world) r.addr == .core) = true) (read : r.write = false) :
    let x := dbgAccess s r.world r.addr none
    dbgGo (n + 1) s = dbgGo n (dbgAdvance x.2.2 x.1 x.2.1) := by
  simp only [dbgGo, run, more, inside, read, Bool.false_eq_true, if_false, if_true]

/-- The command behind an access that has brought byte `b`. -/
def nextAccess (r : DbgRun) (b : Byte) : DbgRun :=
  { r with addr := (r.addr + 1) % (if r.far then 2 ^ 24 else 2 ^ 16), data := r.data.drop 1, left := r.left - 1, got := r.got ++ [b] }

theorem dbgAdvance_next (run : s.dbg.run = some r) (b : Byte) : (dbgAdvance s 0 b).dbg.run = some (nextAccess r b) := by
  simp only [dbgAdvance, run, ne_eq, not_true_eq_false, if_false]
  rfl

/-! ## The end of a command -/

/-- A command that ends leaves the bus master free, and its status and payload with the link or at its port of the monitor. -/
theorem dbgFinish_answers {status : Nat} (run : s.dbg.run = some r) : let t := dbgFinish s status
    t.dbg.run = none ∧ t.io = s.io ∧ (r.mon = false → t.dbg.last = (status, dbgPayload r status)) ∧
      (r.mon = true → (if r.usb then t.mon.usb else t.mon.uart) = some (status, dbgPayload r status)) := by
  simp only [dbgFinish, run]
  cases monitor : r.mon with
  | false => exact ⟨rfl, rfl, fun _ => rfl, fun h => absurd h Bool.false_ne_true⟩
  | true =>
    refine ⟨rfl, rfl, fun h => absurd h.symm Bool.false_ne_true, fun _ => ?_⟩
    cases port : r.usb <;> simp [monAnswer]

theorem Keeps.dbgFinish {A : Nat → Prop} {t : State} (h : Keeps A s t) (status : Nat) : Keeps A s (dbgFinish t status) := by
  unfold Machine.dbgFinish
  split
  · exact h
  · exact ite ((h.setDbg _).stopTimer _ |>.setMon _) ((h.setDbg _).stopTimer _ |>.setDbg _)

/-- A refused access sets DENIEDF (R1105) and is reported. -/
theorem Keeps.dbgDenied {A : Nat → Prop} {t : State} (h : Keeps A s t) (apart : ¬ A (regAddr .DBG_STAT 0)) : Keeps A s (dbgDenied t) :=
  ((h.wb apart 3 true).count (by decide) _).raise (by decide) _

theorem rb_dbgDenied (s : State) : rb (dbgDenied s) .DBG_STAT 0 3 = true := by
  have sent : Keeps (At .DBG_STAT 0) (wb s .DBG_STAT 0 3 true) (dbgDenied s) := ((Keeps.refl _).count (by decide) _).raise (by decide) _
  rw [sent.rb rfl]
  exact rb_wb_same _ _ _ _ _ (by decide)

theorem dbgDenied_dbg (s : State) : (dbgDenied s).dbg = s.dbg := by
  rw [dbgDenied, count_fabric, raise_send (by decide)]
  rfl

/-- A far access that the enables refuse ends the command with DENIED. -/
theorem dbgIssue_denied (run : s.dbg.run = some r) (far : r.far = true) (refused : dbgFarOk s r = false) : let t := dbgIssue s r
    t.dbg.run = none ∧ rb t .DBG_STAT 0 3 = true ∧ SameMemory s t ∧ t.thr = s.thr ∧ (r.mon = false → t.dbg.last = (5, dbgPayload r 5)) ∧
      (r.mon = true → (if r.usb then t.mon.usb else t.mon.uart) = some (5, dbgPayload r 5)) := by
  let told := violateFrom (startTimer s tmrDbg (usTicks (atLeast1 (rn s .DBG_TMO 0)))) .fabric 9 9 (r.addr / 256)
  have row : dbgIssue s r = dbgFinish (dbgDenied told) 5 := (if_pos far).trans (if_pos refused)
  rw [row]
  have kept : Keeps Nowhere s (dbgFinish (dbgDenied told) 5) :=
    ((((Keeps.refl s).startTimer _ _).send _ _).dbgDenied id).dbgFinish 5
  obtain ⟨ended, io, link, monitor⟩ := dbgFinish_answers (s := dbgDenied told) (status := 5) ((congrArg Dbg.run (dbgDenied_dbg told)).trans run)
  refine ⟨ended, ?_, kept.memory, kept.thr, link, monitor⟩
  rw [rb_congr (rd_io _ _ _ _ io)]
  exact rb_dbgDenied told

/-- Settles O57: the first turn of the command sends its access out, ends the command as DENIED, or carries out the read in CORE. -/
theorem debugBusAccesses : Obligations.DebugBusAccesses := by
  intro s r more t s0 timed b
  have run : s0.dbg.run = some r := rfl
  have outside (h : r.far = true ∨ accessIsland (dbgWho r.world) r.addr ≠ .core) : t = dbgIssue s0 r := by
    refine dbgGo_waits 1025 run more ?_
    rcases h with far | away
    · rw [far]; rfl
    · rw [beq_eq_false_iff_ne.mpr away, Bool.and_false]
  have far (h : r.far = true) (ok : dbgFarOk s r = true) : t = farArrive timed (if r.write then .farStore 8 r.addr [b] r.owner r.world false false
      else .farLoad 8 r.addr 1 r.owner r.world false false (landing timed .debug)) := by
    have passes : ¬ dbgFarOk s0 r = false := by
      rw [Bool.not_eq_false]
      exact ok
    rw [outside (.inl h)]
    unfold dbgIssue
    rw [if_pos h, if_neg passes]
    rfl
  refine ⟨fun near away => ?io, fun distant refused => ?denied, fun distant ok read => ?load, fun distant ok write => ?store,
    fun near inside read one => ?core⟩
  case io =>
    have goes : t = send timed (dbgCross r) (if r.write then .regWrite 8 r.addr b r.world 0x7FFE
        else .regRead 8 r.addr (landing timed .debug) r.world 0x7FFE) := by
      rw [outside (.inr away)]
      unfold dbgIssue
      rw [near, if_neg Bool.false_ne_true]
      rfl
    rw [goes]
    exact ⟨rfl, rfl, timerOn_startTimer .., rfl, xwaitOf_send_same .., SameMemory.refl s, rfl⟩
  case denied =>
    rw [outside (.inl distant)]
    exact dbgIssue_denied run distant refused
  case load =>
    rw [far distant ok, read]
    rfl
  case store =>
    rw [far distant ok, write]
    rfl
  case core =>
    intro x success same
    have row : t = dbgGo 1025 (dbgAdvance x.2.2 x.1 x.2.1) := dbgGo_coreRead 1025 run more (by rw [near, inside]; rfl) read
    have advanced : (dbgAdvance x.2.2 x.1 x.2.1).dbg.run = some (nextAccess r x.2.1) := by
      rw [success]
      exact dbgAdvance_next ((congrArg Dbg.run same).trans run) x.2.1
    have done : dbgAllDone (nextAccess r x.2.1) = true := by simp [dbgAllDone, nextAccess, read, one]
    have payload : dbgPayload (nextAccess r x.2.1) 0 = r.got ++ [x.2.1] := by simp [dbgPayload, nextAccess, read]
    rw [row, dbgGo_ends 1024 advanced done]
    obtain ⟨ended, -, link, monitor⟩ := dbgFinish_answers (status := 0) advanced
    rw [payload] at link monitor
    exact ⟨ended, link, monitor⟩

end Sys2Proof.Proofs
end

section
/-!
SUPPORT. The end of a debug session (R1077): breakpoints and watchpoints off, halted threads resumed, SESSION clear.
-/
namespace Sys2Proof.Proofs
open Sys2Proof.Machine Sys2Proof.Laws

variable {s : State}

/-- A thread as the end of a session leaves it: no halt waits, no step is under way, and where it was halted it runs. -/
def unhalted (th : Thread) : Thread :=
  { th with haltPend := none, stepping := false, st := if th.st = .halted then .running else th.st }

/-- The end of a session for one thread. -/
def releaseThread (s : State) (n : Nat) : State := resumeThread (setThr s n { thr s n with haltPend := none, stepping := false }) n

theorem releaseThread_replaced (s : State) (n : Nat) : Replaced s (releaseThread s n) n (unhalted (thr s n)) := by
  have dropped := (Replaced.refl s n).set { thr s n with haltPend := none, stepping := false }
  unfold releaseThread resumeThread
  rw [dropped.thread]
  by_cases halted : (thr s n).st = .halted
  · have awake := dropped.leaveDoze.set { thr s n with haltPend := none, stepping := false, st := .running }
    have same : unhalted (thr s n) = { thr s n with haltPend := none, stepping := false, st := .running } := by rw [unhalted, if_pos halted]
    rw [if_pos halted, same]
    exact awake
  · have same : unhalted (thr s n) = { thr s n with haltPend := none, stepping := false } := by rw [unhalted, if_neg halted]
    rw [if_neg halted, same]
    exact dropped

theorem releaseThread_io (s : State) (n : Nat) : (releaseThread s n).io = s.io := by
  unfold releaseThread resumeThread
  split
  · rw [setThr_io, leaveDoze_dev]
    rfl
  · rfl

theorem unhalted_st (th : Thread) : (unhalted th).st ≠ .halted := by
  unfold unhalted
  split
  · exact nofun
  · assumption

/-- A thread once released stays so while others are. -/
theorem releaseThreads_effects (l : List Nat) (s : State) : let t := l.foldl releaseThread s
    (∀ n, n ∈ l ∨ (thr s n).st ≠ .halted → (thr t n).st ≠ .halted) ∧ SameMemory s t ∧ t.io = s.io := by
  induction l generalizing s with
  | nil => exact ⟨fun n h => h.resolve_left List.not_mem_nil, SameMemory.refl s, rfl⟩
  | cons k l ih =>
    have first := releaseThread_replaced s k
    obtain ⟨threads, memory, io⟩ := ih (releaseThread s k)
    refine ⟨fun n h => threads n ?_, SameMemory.trans first.memory memory, io.trans (releaseThread_io s k)⟩
    by_cases here : n = k
    · rw [here, first.thread]
      exact .inr (unhalted_st _)
    · rw [first.others n here]
      exact h.imp_left fun mem => (List.mem_cons.1 mem).resolve_left here

/-- What the end of a session leaves. -/
structure SessionOver (s t : State) : Prop where
  active : t.dbg.active = false
  req : t.dbg.req = none
  session : rb t .DBG_STAT 0 0 = false
  breakpoints : ∀ k, k < 4 → rb t .DBG_BP k 31 = false
  watchpoints : ∀ k, k < 2 → rb t .DBG_WPA k 31 = false
  threads : ∀ n, n < 8 → (thr t n).st ≠ .halted
  memory : SameMemory s t

/-- Breakpoints and watchpoints off. -/
def comparatorsOff (s : State) : State := forN 2 (forN 4 s fun s k => wb s .DBG_BP k 31 false) fun s k => wb s .DBG_WPA k 31 false

theorem comparatorsOff_effects (s : State) : let t := comparatorsOff s
    (∀ k, k < 4 → rb t .DBG_BP k 31 = false) ∧ (∀ k, k < 2 → rb t .DBG_WPA k 31 = false) ∧ SameMemory s t := by
  let bp (s : State) (k : Nat) : State := wb s .DBG_BP k 31 false
  let wp (s : State) (k : Nat) : State := wb s .DBG_WPA k 31 false
  have row : comparatorsOff s = wp (wp (bp (bp (bp (bp s 0) 1) 2) 3) 0) 1 := rfl
  refine ⟨fun k low => ?_, fun k low => ?_, ?_⟩
  · rw [row]
    interval_cases k <;> simp (disch := decide) [bp, wp, rb_wb_ne, rb_wb_same]
  · rw [row]
    interval_cases k <;> simp (disch := decide) [bp, wp, rb_wb_ne, rb_wb_same]
  · have kept : Keeps Nowhere s (comparatorsOff s) := ((Keeps.refl s).foldl fun _ _ h => h.wb id _ _).foldl fun _ _ h => h.wb id _ _
    exact kept.memory

/-- The session's registers and the link closed. -/
def sessionClosed (d : Dbg) (s : State) : State :=
  wb (setDbg s { Dbg.reset with run := d.run.filter fun r => r.mon, stale := d.stale, pcNext := d.pcNext }) .DBG_STAT 0 0 false

theorem sessionEnd_eq (s : State) : sessionEnd s = sessionClosed s.dbg ((List.range 8).foldl releaseThread (comparatorsOff s)) := rfl

theorem rb_sessionClosed (d : Dbg) (s : State) {r : Rg} {k : Nat} (apart : regAddr r k ≠ regAddr .DBG_STAT 0) (b : Nat) :
    rb (sessionClosed d s) r k b = rb s r k b := rb_wb_ne _ _ _ _ _ _ _ _ apart

theorem sessionClosed_memory (d : Dbg) (s : State) : SameMemory s (sessionClosed d s) := (((Keeps.refl s).setDbg _).wb (A := Nowhere) id _ _).memory

theorem thr_sessionClosed (d : Dbg) (s : State) (n : Nat) : thr (sessionClosed d s) n = thr s n := rfl

theorem sessionEnd_over (s : State) : SessionOver s (sessionEnd s) := by
  obtain ⟨bp, wp, off⟩ := comparatorsOff_effects s
  obtain ⟨threads, released, io⟩ := releaseThreads_effects (List.range 8) (comparatorsOff s)
  rw [sessionEnd_eq]
  generalize (List.range 8).foldl releaseThread (comparatorsOff s) = u at threads released io ⊢
  have apart (k : Nat) (h : k < 4) : regAddr .DBG_BP k ≠ regAddr .DBG_STAT 0 ∧ regAddr .DBG_WPA k ≠ regAddr .DBG_STAT 0 := by
    simp only [regAddr, regInfo]
    omega
  have stays (r : Rg) (k : Nat) : rb u r k 31 = rb (comparatorsOff s) r k 31 := rb_congr (rd_io _ _ _ _ io) 31
  refine ⟨rfl, rfl, rb_wb_same _ _ _ _ _ (by decide), fun k low => ?_, fun k low => ?_, fun n low => ?_, ?_⟩
  · rw [rb_sessionClosed _ _ (apart k low).1, stays, bp k low]
  · rw [rb_sessionClosed _ _ (apart k (by omega)).2, stays, wp k low]
  · rw [thr_sessionClosed]
    exact threads n (.inl (List.mem_range.2 low))
  · exact SameMemory.trans (SameMemory.trans off released) (sessionClosed_memory ..)

theorem endSession_over (s : State) : SessionOver s (endSession s) := by
  have forsaken : SameMemory s (stopTimer (dbgForsake s) tmrDbg) := by
    unfold dbgForsake
    split <;> exact SameMemory.refl s
  have ended := sessionEnd_over (stopTimer (dbgForsake s) tmrDbg)
  unfold endSession
  split
  · split
    · exact sessionEnd_over s
    · exact { ended with memory := SameMemory.trans forsaken ended.memory }
  · exact sessionEnd_over s

end Sys2Proof.Proofs
end

section
/-! # Chapter 21: link commands (R1079, R1083, R1086-R1090) -/
namespace Sys2Proof.Proofs
open Sys2Proof.Machine Sys2Proof.Laws

variable {s : State} {c : Nat} {p : List Byte}

/-! ## The row of a command -/

/-- The request in hand, of the CMD the row serves, is taken and carried out in a device that is awake. -/
theorem linkRow_awake {is : Nat → Bool} {bus awake : Bool} {f : State → List Byte → State} (req : s.dbg.req = some (c, p)) (free : s.dbg.run = none)
    (named : is c = true) (up : s.dev.phase = .awake) : linkRow s is bus awake f = f (dropReq s) p := by
  simp [linkRow, req, named, free, up]

/-- In STANDBY a command that needs the device awake answers ASLEEP. -/
theorem linkRow_asleep {is : Nat → Bool} {bus : Bool} {f : State → List Byte → State} (req : s.dbg.req = some (c, p)) (free : s.dbg.run = none)
    (named : is c = true) (asleep : s.dev.phase = .standby) : linkRow s is bus true f = linkAnswer (dropReq s) 8 [] := by
  simp [linkRow, req, named, free, asleep]

/-- STATUS, RESET and END are carried out in STANDBY too (R1079). -/
theorem linkRow_up {is : Nat → Bool} {bus : Bool} {f : State → List Byte → State} (req : s.dbg.req = some (c, p)) (free : s.dbg.run = none)
    (named : is c = true) (up : s.dev.phase = .awake ∨ s.dev.phase = .standby) : linkRow s is bus false f = f (dropReq s) p := by
  rcases up with up | up <;> simp [linkRow, req, named, free, up]

/-! ## RESET -/

/-- A reset other than AO POR leaves the link's session, and what RESULT repeats where no command is in progress (R1078). -/
theorem resetBy_dbg (s : State) (cause : Nat) (free : s.dbg.run = none) :
    (resetBy s cause).dbg = { s.dbg with pended := false, pcNext := 0, stale := [] } := by
  have lost : (nvPowerLoss (setDev s { s.dev with waking := false })).dbg = s.dbg := by
    rw [(nvPowerLoss_nvOnly _).others]
    rfl
  have ends : dbgOver s.dbg = { s.dbg with pended := false, pcNext := 0, stale := [] } := by simp only [dbgOver, free]
  have held : (resetHeld s cause).dbg = dbgOver (nvPowerLoss (setDev s { s.dev with waking := false })).dbg := rfl
  rw [(resetBy_releaseOnly s cause).dbg, held, lost, ends]

/-! ## The obligation -/

/-- Settles O56: the request is dropped, and what is left is the row's answer, its access or its effect. -/
theorem linkCommands : Obligations.LinkCommands := by
  intro s c p req free d ans took up asleep bus
  have buses {cmd : Nat} {far write : Bool} {row : Instr} (this : c = cmd)
      (runs : exec row s = .next (linkRow s (· == cmd) true true (linkBus far write))) : bus far write row := by
    have named : (c == cmd) = true := beq_iff_eq.2 this
    refine ⟨fun awake bad => ?_, fun r awake good => ?_, fun sleeps => ?_⟩
    · rw [runs, linkRow_awake req free named awake, linkBus, bad]
      rfl
    · rw [runs, linkRow_awake req free named awake, linkBus, good]
      rfl
    · rw [runs, linkRow_asleep req free named sleeps]
      rfl
  have plain {cmd : Nat} {row : Instr} {f : State → State} (this : c = cmd) (up : up)
      (runs : exec row s = .next (linkRow s (· == cmd) false false (noPayload f))) :
      exec row s = .next (if p.isEmpty then f took else ans 3 []) := by
    have named : (c == cmd) = true := beq_iff_eq.2 this
    rw [runs, linkRow_up req free named up]
    rfl
  refine ⟨fun this up => plain (cmd := 1) (f := fun s => linkAnswer s 0 (statusBytes s)) this up rfl,
    fun this up some => ?bad, fun this up none => ?reset, fun this => buses this rfl,
    fun this => buses this rfl, fun this => buses this rfl, fun this => buses this rfl, fun this up none => ?ends, fun this awake => ?result,
    fun this sleeps => ?_, fun unknown awake => ?_, fun unknown sleeps => ?_⟩
  case bad =>
    rw [plain (cmd := 2) this up rfl, if_neg (by rwa [List.isEmpty_iff])]
  case reset =>
    have row : exec .glogonReset s = .next (resetBy (ans 0 []) 2) := by
      rw [plain (cmd := 2) this up rfl, none]
      rfl
    obtain ⟨cause, -, thr, near, iram, retain, pads, -, -, -⟩ := resetBy_resetBy (ans 0 []) 2
    have link := resetBy_dbg (ans 0 []) 2 free
    refine Does.intro row ⟨cause, ?_, ?_, ?_, thr, near, iram, retain, pads⟩
    all_goals
      rw [link]
      rfl
  case ends =>
    let t := endSession took
    have row : exec .glogonEnd s = .next (setDbg t { t.dbg with resp := some (0, []), last := (0, []) }) := by
      rw [plain (cmd := 0x3E) this up rfl, none]
      rfl
    have ended := endSession_over took
    exact Does.intro row ⟨ended.active, rfl, rfl, ended.req, ended.threads, ended.session, ended.memory⟩
  case result =>
    have runs : exec .glogonResult s = .next (linkRow s (· == 0x3F) false true (noPayload fun s => linkAnswer s s.dbg.last.1 s.dbg.last.2)) := rfl
    have named : (c == 0x3F) = true := beq_iff_eq.2 this
    rw [runs, linkRow_awake req free named awake]
    rfl
  · have runs : exec .glogonResult s = .next (linkRow s (· == 0x3F) false true (noPayload fun s => linkAnswer s s.dbg.last.1 s.dbg.last.2)) := rfl
    have named : (c == 0x3F) = true := beq_iff_eq.2 this
    rw [runs, linkRow_asleep req free named sleeps]
    rfl
  · have runs : exec .glogonBadcmd s = .next (linkRow s badCmd false true fun s _ => linkAnswer s 2 []) := rfl
    rw [runs, linkRow_awake req free unknown awake]
    rfl
  · have runs : exec .glogonBadcmd s = .next (linkRow s badCmd false true fun s _ => linkAnswer s 2 []) := rfl
    rw [runs, linkRow_asleep req free unknown sleeps]
    rfl

end Sys2Proof.Proofs
end

section
/-! # Chapter 21: symbols on RSTN and the timeouts of the link (R1072-R1085, R1106, R1120) -/
namespace Sys2Proof.Proofs
open Sys2Proof.Machine Sys2Proof.Laws

variable {s : State} {w k : Nat} {b late : Bool}

/-! ## The class of a low (R1072) -/

theorem lowClass_filtered (active : Bool) (narrow : w < 200) : lowClass active w k = .filtered := by
  rw [lowClass, if_pos narrow]

theorem lowClass_symbol (active : Bool) (width : if b then 2500 ≤ w ∧ w ≤ 3500 else 500 ≤ w ∧ w ≤ 1500) : lowClass active w k = .sym b := by
  cases b
  · obtain ⟨least, most⟩ : 500 ≤ w ∧ w ≤ 1500 := width
    rw [lowClass, if_neg (by omega), if_neg (by omega), if_pos most]
  · obtain ⟨least, most⟩ : 2500 ≤ w ∧ w ≤ 3500 := width
    rw [lowClass, if_neg (by omega), if_neg (by omega), if_neg (by omega), if_neg (by omega), if_pos most]

theorem lowClass_mark (active : Bool) (least : 6000 ≤ w) (most : w ≤ 8000) : lowClass active w k = .mark := by
  rw [lowClass, if_neg (by omega), if_neg (by omega), if_neg (by omega), if_neg (by omega), if_neg (by omega), if_neg (by omega), if_pos most]

/-- What a low of 50 us or more is taken for. -/
theorem lowClass_long (active : Bool) (least : 50000 ≤ w) :
    lowClass active w k = if w < 500000 then (if active then .error else .reset) else if active then .ends else .reset := by
  rw [lowClass, if_neg (by omega), if_neg (by omega), if_neg (by omega), if_neg (by omega), if_neg (by omega), if_neg (by omega),
    if_neg (by omega), if_neg (by omega), if_neg (by omega)]

/-! ## The row -/

/-- The state with the free value of a low drawn. -/
def lowDrawn (s : State) : State := { s with fresh := s.fresh + 1 }

/-- What a low of a class does. -/
def lowDoes (s : State) (late : Bool) (c : Low) : State :=
  match c with
  | .filtered => s
  | .reset => rstnUp (if s.dev.rstnLow then s else rstnDown s)
  | .ends => endSession s
  | .sym b => if s.dbg.active then dataSymbol s b else wakeSymbol s b late
  | .mark => if s.dbg.active then setDbg s { s.dbg with frame := some [] } else setDbg s { s.dbg with wake := 0 }
  | .error => if s.dbg.active then frameError s else setDbg s { s.dbg with wake := 0 }

theorem aoLives_supplied (supplied : s.dev.vddao = true) (f : State → State) : aoLives s f = .next (f s) := by rw [aoLives, if_pos supplied]

theorem exec_glogonLow (supplied : s.dev.vddao = true) {c : Low} (class_ : ∀ k, lowClass s.dbg.active w k = c) :
    exec (.glogonLow w late) s = .next (lowDoes (lowDrawn s) late c) := by
  have row : exec (.glogonLow w late) s = .next (glogonLow s w late) := aoLives_supplied supplied fun s => glogonLow s w late
  rw [row, glogonLow]
  dsimp only [freeVal]
  rw [class_]
  cases c <;> rfl

/-! ## Data symbols (R1080, R1081, R1083, R1085) -/

theorem dataSymbol_outside (none : s.dbg.frame = none) : dataSymbol s b = s := by
  rw [dataSymbol, none]

variable {l : List Bool}

/-- A frame's symbols make up its LEN and CRC. -/
abbrev FrameWhole (l : List Bool) : Prop := 16 ≤ l.length ∧ l.length = 8 * (3 + ((frameBytes l).getD 1 0).toNat)

theorem dataSymbol_partial (open_ : s.dbg.frame = some l) (more : ¬ FrameWhole (l ++ [b])) :
    dataSymbol s b = setDbg s { s.dbg with frame := some (l ++ [b]) } := by
  simp only [dataSymbol, open_]
  rw [if_neg more]

theorem dataSymbol_last (open_ : s.dbg.frame = some l) (whole : FrameWhole (l ++ [b])) :
    dataSymbol s b = frameDone (setDbg s { s.dbg with frame := none }) (frameBytes (l ++ [b])) := by
  simp only [dataSymbol, open_]
  rw [if_pos whole]

variable {bs : List Byte}

/-- The CRC of a frame's bytes agrees with its last byte. -/
abbrev FrameCrc (bs : List Byte) : Prop := crc8 (bs.take (bs.length - 1)) = (bs.getD (bs.length - 1) 0).toNat

theorem frameDone_badCrc (bad : ¬ FrameCrc bs) : frameDone s bs = dbgCount (setDbg s { s.dbg with resp := some (4, []), last := (4, []) }) 0xA9 :=
  if_pos bad

theorem frameDone_pending (good : FrameCrc bs) (busy : s.dbg.req ≠ none ∨ linkRuns s = true) : frameDone s bs = linkPending s := by
  have waits : (s.dbg.req.isSome || linkRuns s) = true := by
    rw [Bool.or_eq_true, Option.isSome_iff_ne_none]
    exact busy
  rw [frameDone, if_neg (not_not.2 good), if_pos waits]

theorem frameDone_request (good : FrameCrc bs) (idle : s.dbg.req = none) (free : linkRuns s = false) (short : (bs.getD 1 0).toNat ≤ 40) :
    frameDone s bs = setDbg s { s.dbg with req := some ((bs.getD 0 0).toNat, (bs.take (bs.length - 1)).drop 2), pended := false } := by
  have takes : ¬ (s.dbg.req.isSome || linkRuns s) = true := by simp [idle, free]
  rw [frameDone, if_neg (not_not.2 good), if_neg takes, if_neg (by omega)]

/-- An event of the front end is counted, and changes nothing else. -/
theorem dbgCount_effects (s : State) (code : Nat) : (dbgCount s code).dbg = s.dbg ∧ (dbgCount s code).io = s.io ∧
    (dbgCount s code).thr = s.thr ∧ SameMemory s (dbgCount s code) := by
  unfold dbgCount
  rw [count_send (by decide)]
  split <;> exact ⟨rfl, rfl, rfl, SameMemory.refl s⟩

theorem dbgCount_awake (awake : s.dev.phase = .awake) (code : Nat) : dbgCount s code = send s 11 (.count code 1) := by
  rw [dbgCount, if_pos awake, count_send (by decide)]
  rfl

/-- An error discards the frame and is counted where there was one. -/
theorem frameError_effects (s : State) : (frameError s).dbg = { s.dbg with frame := none } ∧ (frameError s).io = s.io ∧
    (frameError s).thr = s.thr ∧ SameMemory s (frameError s) := by
  unfold frameError
  split
  next some =>
    obtain ⟨dbg, io, thr, memory⟩ := dbgCount_effects (setDbg s { s.dbg with frame := none }) 0xA8
    exact ⟨dbg, io, thr, memory⟩
  next none =>
    rw [Bool.not_eq_true, Option.isSome_eq_false_iff, Option.isNone_iff_eq_none] at none
    exact ⟨by rw [← none], rfl, rfl, SameMemory.refl s⟩

/-! ## A reset by RSTN (R136, R1074) -/

/-- A low of 50 us or more outside a session resets the device, and its end releases it. -/
theorem lowReset_effects (inactive : s.dbg.active = false) (supplied : s.dev.vddao = true) (high : s.dev.rstnLow = false) :
    let t := lowDoes s late .reset
    rd t .PMU_RSTCAUSE 0 = 4 ∧ t.thr = [] ∧ t.near = [] ∧ t.iram = [] ∧ t.retain = s.retain ∧ t.pads = s.pads ∧
      t.dev.phase = (if s.dev.vdd33 then .clearing else .held) := by
  let u := resetBy (setDev s { s.dev with rstnLow := true }) 2
  have down : rstnDown s = u := if_neg (by simp [inactive, supplied])
  have reset := resetBy_resetBy (setDev s { s.dev with rstnLow := true }) 2
  obtain ⟨-, -, -, -, -, -, vdd33, vddao, rstnLow, -⟩ :=
    islandsReset_fields (setDev (setDev s { s.dev with rstnLow := true }) { (setDev s { s.dev with rstnLow := true }).dev with waking := false })
      false false false
  have modes : u.dev.vdd33 = s.dev.vdd33 ∧ u.dev.vddao = true ∧ u.dev.rstnLow = true := by
    have dev := (resetBy_releaseOnly (setDev s { s.dev with rstnLow := true }) 2).dev
    refine ⟨?_, ?_, ?_⟩ <;> rw [show u.dev = _ from dev]
    · exact vdd33
    · exact vddao.trans supplied
    · exact rstnLow
  obtain ⟨modes33, modesAo, modesLow⟩ := modes
  have row : lowDoes s late .reset = leaveReset (setDev u { u.dev with rstnLow := false }) := by
    show rstnUp (if s.dev.rstnLow = true then s else rstnDown s) = _
    rw [high, if_neg Bool.false_ne_true, down]
    exact if_pos modesLow
  obtain ⟨phase, -, -, -, io, near, -, iram, retain, -, -, -, -, -, pads, -⟩ := leaveReset_effects (setDev u { u.dev with rstnLow := false })
  have thr := (leaveReset_releaseOnly (setDev u { u.dev with rstnLow := false })).thr
  rw [row]
  refine ⟨(rd_io _ _ _ _ io).trans reset.cause, thr.trans reset.thr, near.trans reset.near, iram.trans reset.iram, retain.trans reset.retain,
    pads.trans reset.pads, phase.trans ?_⟩
  simp [releasePhase, modes33, modesAo]

/-! ## An access given up (R1106) -/

/-- The end of a command withdraws its timeout, and forgets no completion that is still to come. -/
theorem dbgFinish_leaves {r : DbgRun} (status : Nat) (run : s.dbg.run = some r) :
    (dbgFinish s status).dbg.stale = s.dbg.stale ∧ timerOn (dbgFinish s status) tmrDbg = false := by
  simp only [dbgFinish, run]
  split <;> exact ⟨rfl, timerOn_stopTimer s tmrDbg⟩

/-- The command in progress ends with TIMEOUT, and the completion still to come is noted. -/
theorem dbgTimeout_effects {r : DbgRun} (run : s.dbg.run = some r) : let t := dbgTimeout s
    t.dbg.run = none ∧ rb t .DBG_STAT 0 3 = true ∧ timerOn t tmrDbg = false ∧ staleOf t (dbgCross r) = staleOf s (dbgCross r) + 1 ∧
      (r.mon = false → t.dbg.last = (7, dbgPayload r 7)) ∧ t.thr = s.thr ∧ SameMemory s t := by
  let noted := setDbg s { s.dbg with stale := mset (fun _ => 0) s.dbg.stale (dbgCross r) (staleOf s (dbgCross r) + 1) }
  have forsakes : dbgForsake s = noted := by
    unfold dbgForsake
    split
    next none => rw [none] at run; cases run
    next r' some => rw [some] at run; cases run; rfl
  have row : dbgTimeout s = dbgFinish (dbgDenied noted) 7 := by
    rw [dbgTimeout, run, forsakes]
    rfl
  have held : (dbgDenied noted).dbg = noted.dbg := dbgDenied_dbg noted
  have kept : Keeps Nowhere s (dbgFinish (dbgDenied noted) 7) := (((Keeps.refl s).setDbg _).dbgDenied id).dbgFinish 7
  obtain ⟨ended, io, last, -⟩ := dbgFinish_answers (s := dbgDenied noted) (r := r) (status := 7) ((congrArg Dbg.run held).trans run)
  obtain ⟨stale, off⟩ := dbgFinish_leaves (s := dbgDenied noted) (r := r) 7 ((congrArg Dbg.run held).trans run)
  rw [row]
  refine ⟨ended, ?_, off, ?_, last, kept.thr, kept.memory⟩
  · rw [rb_congr (rd_io _ _ _ _ io)]
    exact rb_dbgDenied noted
  · rw [staleOf, stale, held]
    exact mget_mset_same (fun _ => 0) s.dbg.stale (dbgCross r) (staleOf s (dbgCross r) + 1)

/-! ## The obligation -/

/-- Settles O55: a low does what its class does; the timeouts end a frame, a session or an access, or leave PENDING to be driven. -/
theorem linkSymbolsAndTimeouts : Obligations.LinkSymbolsAndTimeouts := by
  intro s w b late supplied d drawn frame symbol closed
  have low {c : Low} (class_ : ∀ k, lowClass d.active w k = c) : exec (.glogonLow w late) s = .next (lowDoes drawn late c) :=
    exec_glogonLow supplied class_
  have data (active : d.active = true) (width : symbol) : exec (.glogonLow w late) s = .next (dataSymbol drawn b) :=
    (low fun k => lowClass_symbol _ width).trans (congrArg _ (if_pos active))
  have ends {t : State} (over_ : SessionOver s t) : closed t :=
    ⟨over_.active, over_.session, over_.breakpoints, over_.watchpoints, over_.threads, over_.memory⟩
  refine ⟨fun narrow => low fun k => lowClass_filtered _ narrow, fun active width none => ?outside, fun l active width open_ => ?frame,
    fun least most => ?mark, fun inactive width => ?wake, fun active least most => ?error, fun inactive high least => ?reset,
    fun active least => ?ends, fun active => ?timeout, fun inactive => ?idle, fun some awake => ?frameTimeout, fun fresh busy => ?pending,
    fun answer => ?response, fun r live due run => ?access⟩
  case outside => rw [data active width, dataSymbol_outside (s := drawn) none]
  case frame =>
    intro bs n whole
    have wholeIff : whole ↔ FrameWhole (l ++ [b]) := by
      simp only [whole, FrameWhole, List.length_append, List.length_singleton]
      rfl
    let emptied := setDbg drawn { d with frame := none }
    have last (done : whole) : exec (.glogonLow w late) s = .next (frameDone emptied bs) :=
      (data active width).trans (congrArg _ (dataSymbol_last (s := drawn) open_ (wholeIff.1 done)))
    refine ⟨fun more => ?_, fun done bad => ?_, fun done good busy => ?_, fun done good idle free short => ?_⟩
    · exact (data active width).trans (congrArg _ (dataSymbol_partial (s := drawn) open_ fun h => more (wholeIff.2 h)))
    · have row := last done
      rw [frameDone_badCrc bad] at row
      exact Does.intro row (dbgCount_effects _ 0xA9)
    · exact (last done).trans (congrArg _ (frameDone_pending (s := emptied) good busy))
    · exact (last done).trans (congrArg _ (frameDone_request (s := emptied) good idle free short))
  case mark =>
    refine (low fun k => lowClass_mark _ least most).trans (congrArg _ ?_)
    show (if d.active = true then _ else _) = setDbg drawn (if d.active = true then _ else _)
    split <;> rfl
  case wake =>
    intro n
    have row : exec (.glogonLow w late) s = .next (wakeSymbol drawn b late) :=
      (low fun k => lowClass_symbol _ width).trans (congrArg _ (if_neg (by rw [show drawn.dbg.active = false from inactive]; decide)))
    rw [row]
    refine ⟨fun other => congrArg _ (if_pos other), fun same more => congrArg _ ?_, fun same last => congrArg _ ?_⟩
    · exact (if_neg (not_not.2 same)).trans (if_pos more)
    · exact (if_neg (not_not.2 same)).trans (if_neg (not_lt_of_ge last.ge))
  case error =>
    have row : exec (.glogonLow w late) s = .next (frameError drawn) := by
      refine (low (c := .error) fun k => ?_).trans (congrArg _ (if_pos active))
      rw [lowClass_long _ least, if_pos most, if_pos active]
    exact Does.intro row (frameError_effects drawn)
  case reset =>
    refine Does.intro (low (c := .reset) fun k => ?_) (lowReset_effects (s := drawn) inactive supplied high)
    rw [lowClass_long _ least, inactive]
    split <;> rfl
  case ends =>
    refine Does.intro (low (c := .ends) fun k => ?_) (ends (t := endSession drawn) { endSession_over drawn with })
    rw [lowClass_long _ (by omega), if_neg (by omega), if_pos active]
  case timeout =>
    have row : exec .glogonSessionTimeout s = .next (if s.dbg.active then endSession s else s) := aoLives_supplied supplied _
    rw [if_pos active] at row
    exact Does.intro row (ends (endSession_over s))
  case idle =>
    have row : exec .glogonSessionTimeout s = .next (if s.dbg.active then endSession s else s) := aoLives_supplied supplied _
    rwa [if_neg (by rw [show s.dbg.active = false from inactive]; decide)] at row
  case frameTimeout =>
    have row : exec .glogonFrameTimeout s = .next (frameError s) := aoLives_supplied supplied frameError
    rw [row, frameError, if_pos (Option.isSome_iff_ne_none.2 some)]
    exact congrArg _ (dbgCount_awake (s := setDbg s { d with frame := none }) awake _)
  case pending =>
    have waits : ((s.dbg.req.isSome || linkRuns s) && !s.dbg.pended) = true := by
      rw [show s.dbg.pended = false from fresh, Bool.not_false, Bool.and_true, Bool.or_eq_true, Option.isSome_iff_ne_none]
      exact busy
    exact congrArg _ (if_pos waits)
  case response =>
    have some : ¬ s.dbg.resp.isNone = true := by rwa [Option.isNone_iff_eq_none]
    refine ⟨congrArg _ (if_neg some), fun awake => ?_⟩
    have row : exec (.glogonResponse true) s = .next (dbgCount (setDbg s { d with resp := none }) 0xAA) := congrArg _ (if_neg some)
    exact row.trans (congrArg _ (dbgCount_awake (s := setDbg s { d with resp := none }) awake _))
  case access =>
    have row (tie : Bool) : exec (.debugAccessTimeout tie) s = .next (expire s .fabric tmrDbg tie dbgTimeout) := liveIn_live live _
    refine ⟨Does.intro ((row false).trans (congrArg _ (expire_due .fabric due dbgTimeout))) ?_,
      (row true).trans (congrArg _ ((expire_tie .fabric due dbgTimeout).trans (count_fabric _ _)))⟩
    exact dbgTimeout_effects (s := stopTimer s tmrDbg) run

end Sys2Proof.Proofs
end

section
/-!
SUPPORT. A halt that takes effect at once (R1093), and a run-control command that names one thread.
-/
namespace Sys2Proof.Proofs
open Sys2Proof.Machine Sys2Proof.Laws

variable {s : State} {n : Nat}

/-- A thread that runs, at an instruction boundary with no delivery committed: a halt takes effect at once. -/
structure AtRest (th : Thread) : Prop where
  st : th.st = .running
  target : th.target = none
  forced : th.forced = false
  delivery : th.delivery = none

/-- The thread halted where it stands. -/
def haltedAt (th : Thread) : Thread := { th with st := .halted, park := .none, haltPend := none, stepping := false }

/-- The state with thread `n` halted and its cause shown. -/
def haltedWith (s : State) (n cause : Nat) : State :=
  wr (setThr (leaveDoze s) n (haltedAt (thr s n))) .DBG_HCAUSE n (BitVec.ofNat 32 cause)

theorem leaveDoze_io (s : State) : (leaveDoze s).io = s.io := by rw [leaveDoze_dev]

theorem leaveDoze_thr (s : State) : (leaveDoze s).thr = s.thr := by rw [leaveDoze_dev]

theorem leaveDoze_memory (s : State) : SameMemory s (leaveDoze s) := by
  rw [leaveDoze_dev]
  exact SameMemory.refl s

theorem leaveDoze_setThr (s : State) (n : Nat) (th : Thread) : leaveDoze (setThr s n th) = setThr (leaveDoze s) n th := by
  unfold leaveDoze
  rw [setThr_dev]
  split <;> rfl

/-- A halt asked of such a thread halts it at once where it is permitted. -/
theorem settleHalt_atRest (rest : AtRest (thr s n)) (permitted : haltPermitted s n = true) (cause : Nat) :
    settleHalt (setThr s n { thr s n with haltPend := some cause }) n = haltedWith s n cause := by
  obtain ⟨st, target, forced, delivery⟩ := rest
  let u := setThr s n { thr s n with haltPend := some cause }
  have thread : thr u n = { thr s n with haltPend := some cause } := thr_setThr_same ..
  have boundary : (atBoundary (thr u n) && haltPermitted u n) = true := by
    have scope : haltPermitted u n = haltPermitted s n := by
      rw [haltPermitted, thread]
      rfl
    rw [scope, permitted, thread, atBoundary]
    simp [st, target, forced]
  have free : (thr u n).delivery = none := by rw [thread]; exact delivery
  have awake : leaveDoze u = setThr (leaveDoze s) n { thr s n with haltPend := some cause } := leaveDoze_setThr ..
  have parks : unpark { thr s n with haltPend := some cause } = { thr s n with haltPend := some cause, park := .none } := by
    simp only [unpark, st]
  have now : settleHalt u n = haltNow u n cause := by
    unfold settleHalt
    rw [congrArg Thread.haltPend thread]
    exact if_pos boundary
  show settleHalt u n = _
  rw [now, haltNow, returnDelivery_none free]
  dsimp only
  rw [awake, thr_setThr_same, setThr_setThr, parks]
  rfl

theorem haltedWith_effects (s : State) (n : Fin 8) (cause : Nat) : let t := haltedWith s n cause
    thr t n = haltedAt (thr s n) ∧ rd t .DBG_HCAUSE n = BitVec.ofNat 32 cause ∧ (∀ k, k ≠ n.val → thr t k = thr s k) ∧
      SameIoBut [regAddr .DBG_HCAUSE n] s t ∧ SameMemory s t := by
  refine ⟨thr_setThr_same .., rd_wr_same .., fun k other => ?_, fun d k apart => ?_, ?_⟩
  · exact (thr_setThr_ne _ _ _ _ other).trans (thr_congr (leaveDoze_thr s) k)
  · exact (mget_wr_io_ne _ d _ fun same => apart (List.mem_singleton.2 same)).trans (congrArg (mget d · k) (leaveDoze_io s))
  · exact SameMemory.trans (leaveDoze_memory s) (wr_memory ..)

/-- A mask of one bit names one thread. -/
theorem eachThread_one (s : State) (n : Fin 8) (f : State → Nat → State) : eachThread s (BitVec.ofNat 8 (2 ^ n.val)).toNat f = f s n := by
  fin_cases n <;> rfl

end Sys2Proof.Proofs
end

section
/-! # Chapter 21: run control (R1091-R1098) -/
namespace Sys2Proof.Proofs
open Sys2Proof.Machine Sys2Proof.Laws

variable {s : State} {n : Fin 8} {r : Fin 16}

/-- The fields of DBG_REGSEL. -/
theorem regsel_fields (named : rd s .DBG_REGSEL 0 = BitVec.ofNat 32 (n.val + 8 * r.val)) :
    rf s .DBG_REGSEL 0 2 0 = n ∧ rf s .DBG_REGSEL 0 7 3 = r := by
  rw [rf, rf, named, fld, fld, BitVec.toNat_ofNat]
  omega

theorem selHalted_named (named : rd s .DBG_REGSEL 0 = BitVec.ofNat 32 (n.val + 8 * r.val)) (halted : (thr s n).st = .halted) :
    selHalted s = true := by
  rw [selHalted, (regsel_fields named).1, halted]
  rfl

theorem regdataWrite_general {v : Quad} (named : rd s .DBG_REGSEL 0 = BitVec.ofNat 32 (n.val + 8 * r.val)) (halted : (thr s n).st = .halted)
    (enabled : invasive s (keeperScope (thr s n)) = true) : regdataWrite s v = setThr s n (setG (thr s n) r (BitVec.ofNat 8 v.toNat)) := by
  obtain ⟨thread, register⟩ := regsel_fields named
  unfold regdataWrite
  dsimp only
  rw [selHalted_named named halted, thread, register, enabled]
  exact if_pos r.isLt

theorem regdataRead_general (named : rd s .DBG_REGSEL 0 = BitVec.ofNat 32 (n.val + 8 * r.val)) (halted : (thr s n).st = .halted)
    (enabled : observing s (keeperScope (thr s n)) = true) : regdataRead s = (BitVec.ofNat 32 (getG (thr s n) r).toNat, s) := by
  obtain ⟨thread, register⟩ := regsel_fields named
  have general : dbgReg s n r = (getG (thr s n) r).toNat := if_pos r.isLt
  unfold regdataRead
  dsimp only
  rw [selHalted_named named halted, thread, register, enabled, general]
  rfl

theorem stepWrite_go (n : Fin 8) (s : State) : stepWrite s ((BitVec.ofNat 8 (n.val + 8)).zeroExtend 32) =
    stepThread (wr s .DBG_STEP 0 ((BitVec.ofNat 8 (n.val + 8)).zeroExtend 32 &&& 0x17)) n := by
  have fields : ((BitVec.ofNat 8 (n.val + 8)).zeroExtend 32 : Quad).getLsbD 3 = true ∧
      fld ((BitVec.ofNat 8 (n.val + 8)).zeroExtend 32) 2 0 = n := by
    revert n
    decide
  rw [stepWrite, if_pos fields.1, fields.2]

theorem byteOf_low (x : Nat) : byteOf (BitVec.ofNat 32 x) 0 = BitVec.ofNat 8 x := by
  refine BitVec.eq_of_toNat_eq ?_
  simp only [byteOf, BitVec.toNat_ofNat, Nat.mul_zero, Nat.pow_zero, Nat.div_one]
  omega

/-- Settles O28: each command of run control is its operation on the one thread it names. -/
theorem runControlEffects : Obligations.RunControlEffects := by
  intro s n r w t8 g m th
  have master {r : Rg} (may : MayWrite s 8 r 0) (f : State → State) : dbgWrite s 8 r f = .next (f s) := by
    rw [dbgWrite, if_neg (by decide)]
    exact writeReg_taken may f
  refine ⟨fun may st target forced delivery permitted never => ?halt, fun may halted => ?resume, fun may halted permitted => ?step,
    fun may named halted enabled => ?write, fun may named halted enabled => ?read, fun req thread => ⟨if_pos thread, if_pos thread, if_pos thread⟩⟩
  case halt =>
    have row : exec (.debugHalt 8 m) s = .next (haltRequest s n 1) :=
      (master may fun s => eachThread s m.toNat fun s t => haltRequest s t 1).trans (congrArg _ (eachThread_one s n fun s t => haltRequest s t 1))
    have request : haltRequest s n 1 = haltedWith s n 1 := by
      rw [haltRequest, if_neg (by rw [st]; exact nofun), never, if_neg Bool.false_ne_true]
      exact settleHalt_atRest ⟨st, target, forced, delivery⟩ permitted 1
    obtain ⟨thread, cause, others, io, memory⟩ := haltedWith_effects s n 1
    rw [request] at row
    exact Does.intro row ⟨by rw [thread]; rfl, cause, by rw [thread]; rfl, by rw [thread]; rfl, others, io, memory⟩
  case resume =>
    exact (master may fun s => eachThread s m.toNat resumeThread).trans (congrArg _ ((eachThread_one s n resumeThread).trans (if_pos halted)))
  case step =>
    let u := wr s .DBG_STEP 0 ((BitVec.ofNat 8 (n.val + 8)).zeroExtend 32 &&& 0x17)
    have scope : haltPermitted u n = true := by
      rw [haltPermitted, invasive, rb_wr_ne _ _ _ (by decide)]
      exact permitted
    have row : exec (.debugStep 8 (BitVec.ofNat 8 (n.val + 8))) s =
        .next (setThr (leaveDoze u) n { thr s n with st := .running, stepping := true }) :=
      (master may fun s => stepWrite s _).trans (congrArg _ ((stepWrite_go n s).trans (if_pos ⟨halted, scope⟩)))
    refine Does.intro row ⟨thr_setThr_same .., fun k other => ?_, ?_⟩
    · exact (thr_setThr_ne _ _ _ _ other).trans (thr_congr (leaveDoze_thr u) k)
    · exact SameMemory.trans (wr_memory ..) (leaveDoze_memory u)
  case write =>
    have low : BitVec.ofNat 8 (w.zeroExtend 32).toNat = BitVec.ofNat 8 w.toNat := by
      rw [BitVec.zeroExtend, BitVec.toNat_setWidth, Nat.mod_eq_of_lt (by omega)]
    refine (master may fun s => regdataWrite s (w.zeroExtend 32)).trans (congrArg _ ((regdataWrite_general named halted enabled).trans ?_))
    rw [low]
  case read =>
    let v : Quad := BitVec.ofNat 32 (getG th r).toNat
    have row : exec (.debugRegisterAccess 8 none (.greg t8 g)) s =
        .next (setThr (capture s 8 .DBG_REGDATA 0 v) t8 (setG (thr s t8) g (byteOf v 0))) := by
      refine (readRegRow_taken may fun s ok =>
        if ok = false then landIn s (.greg t8 g) 0 else landIn (capture (regdataRead s).2 8 .DBG_REGDATA 0 (regdataRead s).1) (.greg t8 g)
          (byteOf (regdataRead s).1 0)).trans (congrArg _ ?_)
      rw [if_neg (by decide), regdataRead_general named halted enabled]
      rfl
    refine Does.intro row ⟨?_, SameMemory.refl s⟩
    rw [thr_setThr_same, getG_setG_same, byteOf_low, BitVec.ofNat_toNat, BitVec.setWidth_eq]

end Sys2Proof.Proofs
end

section
/-! # Chapter 21: breakpoints, watchpoints and PC samples (R1094, R1099, R1100, R1107) -/
namespace Sys2Proof.Proofs
open Sys2Proof.Machine Sys2Proof.Laws

variable {s : State} {n : Fin 8}

/-- A thread that can issue runs and no forced return is under way. -/
theorem running_of_canIssue {n : Nat} (can : canIssue s n = true) : (thr s n).st = .running ∧ (thr s n).forced = false := by
  simp only [canIssue, issues, Bool.and_eq_true, beq_iff_eq, Bool.not_eq_true'] at can
  exact ⟨can.1.1.1.2, can.1.1.2⟩

/-- WMATCH 0 and 3 accept both worlds. -/
theorem worldMatches_any {m : Nat} (small : m < 4) (any : m % 3 = 0) (world : Bool) : worldMatches m world = true := by
  obtain rfl | rfl : m = 0 ∨ m = 3 := by omega
  · rfl
  · cases world <;> rfl

theorem breakMatch_halts {k : Nat} (enabled : (rd s .DBG_BP k).getLsbD 31 = true) (watches : (rd s .DBG_BP k).getLsbD (16 + n) = true)
    (here : fld (rd s .DBG_BP k) 15 0 = (thr s n).pc.toNat) (any : fld (rd s .DBG_BP k) 25 24 % 3 = 0)
    (single : (rd s .DBG_BP k).getLsbD 26 = false) (can : canIssue s n = true) (target : (thr s n).target = none)
    (delivery : (thr s n).delivery = none) (permitted : haltPermitted s n = true) : breakMatch s n k = haltedWith s n (3 + 16 * k) := by
  obtain ⟨st, forced⟩ := running_of_canIssue can
  have accepts : worldMatches (fld (rd s .DBG_BP k) 25 24) (thr s n).world = true :=
    worldMatches_any (Nat.mod_lt (_ / 2 ^ 24) (by decide)) any (thr s n).world
  have halts := settleHalt_atRest ⟨st, target, forced, delivery⟩ permitted (3 + 16 * k)
  have cause : 3 + 16 * k + 64 * b01 (thr s n).target.isSome = 3 + 16 * k := by rw [target]; rfl
  refine (if_pos ?_).trans ((if_pos permitted).trans ((if_neg ?_).trans ?_))
  · rw [can, enabled, watches, here, accepts, beq_self_eq_true]
    rfl
  · rw [single]
    exact Bool.false_ne_true
  · rw [cause]
    exact halts

theorem breakMatch_disabled {k : Nat} (disabled : (rd s .DBG_BP k).getLsbD 31 = false) : breakMatch s n k = s := by
  unfold breakMatch
  dsimp only
  rw [disabled, if_neg (by simp)]

/-- The bits of the address that the mask names agree. -/
theorem watched_address {a m : Quad} {addr : BitVec 24} (agree : ∀ i, i < 24 → m.getLsbD i = true → a.getLsbD i = addr.getLsbD i) :
    fld ((a ^^^ addr.zeroExtend 32) &&& m) 23 0 = 0 := by
  refine Nat.eq_of_testBit_eq fun i => ?_
  rw [fld, Nat.testBit_mod_two_pow, Nat.testBit_div_two_pow, BitVec.testBit_toNat, Nat.zero_testBit]
  by_cases low : i < 24
  · cases masked : m.getLsbD i with
    | false => simp only [BitVec.getLsbD_and, Nat.add_zero, masked, Bool.and_false]
    | true =>
      simp only [BitVec.getLsbD_and, BitVec.getLsbD_xor, BitVec.zeroExtend, Nat.add_zero, BitVec.getLsbD_setWidth, masked, agree i low masked,
        show i < 32 by omega, decide_true, Bool.true_and, Bool.xor_self, Bool.false_and,
        Bool.and_false]
  · simp [low]

theorem watchMatch_halts {k space : Nat} {addr : BitVec 24} {write : Bool} (rest : AtRest (thr s n))
    (enabled : (rd s .DBG_WPA k).getLsbD 31 = true) (watches : (rd s .DBG_WPM k).getLsbD (24 + n) = true)
    (here : fld (rd s .DBG_WPA k) 25 24 = space) (kind : (rd s .DBG_WPA k).getLsbD (if write then 27 else 26) = true)
    (agree : ∀ i, i < 24 → (rd s .DBG_WPM k).getLsbD i = true → (rd s .DBG_WPA k).getLsbD i = addr.getLsbD i)
    (permitted : haltPermitted s n = true) : watchMatch s n k space addr write = haltedWith s n (4 + 16 * k) := by
  refine (if_pos ?_).trans ((if_pos permitted).trans (settleHalt_atRest rest permitted (4 + 16 * k)))
  rw [enabled, watches, here, kind, watched_address agree, rest.st, beq_self_eq_true, beq_self_eq_true]
  rfl

theorem watchMatch_disabled {k space : Nat} {addr : BitVec 24} {write : Bool} (disabled : (rd s .DBG_WPA k).getLsbD 31 = false) :
    watchMatch s n k space addr write = s := by
  unfold watchMatch
  dsimp only
  rw [disabled, if_neg (by simp)]

/-- The next thread that may be observed is the one whose turn it is where it may be. -/
theorem sampleThread_next (turn : s.dbg.pcNext = n.val) (may : observing s (keeperScope (thr s n)) = true) : sampleThread s = some n.val := by
  have first : (s.dbg.pcNext + 0) % 8 = n.val := by omega
  have found : observing s (keeperScope (thr s ((s.dbg.pcNext + 0) % 8))) = true := by rw [first]; exact may
  have split_ : (List.range 8).map (fun i => (s.dbg.pcNext + i) % 8) =
      (s.dbg.pcNext + 0) % 8 :: (List.range' 1 7).map fun i => (s.dbg.pcNext + i) % 8 := rfl
  rw [sampleThread, split_, List.find?_cons_of_pos (p := fun t => observing s (keeperScope (thr s t))) found, first]

/-- Settles O29: a match halts its thread with the comparator's cause, a disabled comparator does nothing, and a sample lands. -/
theorem breakpointsWatchpointsSamples : Obligations.BreakpointsWatchpointsSamples := by
  intro s n k j space a write req t8 g th b wa wm
  have bp : exec (.breakpointMatch n k) s = liveIn s .core fun s => breakMatch s n k := rfl
  have wp : exec (.watchpointMatch n j space a write) s = liveIn s .core fun s => watchMatch s n j space a write := rfl
  refine ⟨fun live enabled watches here any single can target delivery permitted => ?breaks, fun live disabled => ?noBreak,
    fun live st enabled watches here kind agree target forced delivery permitted => ?watch, fun live disabled => ?noWatch,
    fun may turn enabled => ?sample⟩
  case breaks =>
    obtain ⟨thread, cause, others, -, memory⟩ := haltedWith_effects s n (3 + 16 * k)
    rw [liveIn_live live, breakMatch_halts enabled watches here any single can target delivery permitted] at bp
    exact Does.intro bp ⟨by rw [thread]; rfl, cause, by rw [thread]; rfl, others, memory⟩
  case noBreak => rw [bp, liveIn_live live, breakMatch_disabled disabled]
  case watch =>
    obtain ⟨thread, cause, others, -, memory⟩ := haltedWith_effects s n (4 + 16 * j)
    rw [liveIn_live live, watchMatch_halts ⟨st, target, forced, delivery⟩ enabled watches here kind agree permitted] at wp
    exact Does.intro wp ⟨by rw [thread]; rfl, cause, others, memory⟩
  case noWatch => rw [wp, liveIn_live live, watchMatch_disabled disabled]
  case sample =>
    let v : Quad := BitVec.ofNat 32 (th.lastPc.toNat + 65536 * n + 524288 * b01 th.world + 2147483648)
    let u : State := { s with dbg := { s.dbg with pcNext := (n + 1) % 8 } }
    have row : exec (.pcSampleRead req (.greg t8 g)) s =
        .next (setThr (capture u req .DBG_PCSAMP 0 v) t8 (setG (thr s t8) g (byteOf v 0))) := by
      refine (readRegRow_taken may fun s ok =>
        if ok then landIn (capture (pcSample s).2 req .DBG_PCSAMP 0 (pcSample s).1) (.greg t8 g) (byteOf (pcSample s).1 0)
        else landIn s (.greg t8 g) 0).trans (congrArg _ ?_)
      rw [if_pos rfl, pcSample, sampleThread_next turn enabled]
      rfl
    refine Does.intro row ⟨?_, rfl, SameMemory.refl s⟩
    rw [thr_setThr_same, getG_setG_same, byteOf_low]
    refine BitVec.eq_of_toNat_eq ?_
    rw [BitVec.toNat_ofNat, BitVec.toNat_ofNat]
    omega

end Sys2Proof.Proofs
end

section
/-!
SUPPORT. A pool replaced, the lines of a buffer retagged and a booking, each of which leaves the registers of the device as a whole (chapter 12).
-/
namespace Sys2Proof.Proofs
open Sys2Proof.Machine Sys2Proof.Laws

variable {s t u : State} {p : Fin 4}

namespace LeavesSystem

theorem touchBook (h : LeavesSystem s t) (b : Nat) : LeavesSystem s (touchBook t b) := by
  have touched : LeavesSystem s (setLastUpdate (Machine.wb t .LED_BAL 0 b false) b (some t.cycles)) := (h.wb (by decide) b false).setLedger _
  unfold Machine.touchBook
  dsimp only
  split
  · exact touched
  · exact touched.startTimer _ _

theorem book (h : LeavesSystem s t) (b src dst n : Nat) : LeavesSystem s (book t b src dst n) := by
  have taken : LeavesSystem s (debit t b src n) := ite (h.setLedger _) (h.setLedger _)
  have touched := LeavesSystem.touchBook (t := credit (debit t b src n) b dst n) (taken.setLedger _) b
  exact ite (touched.imbalance b 2) touched

theorem clearBook (h : LeavesSystem s t) (b : Nat) : LeavesSystem s (clearBook t b) :=
  ((h.foldl fun _ _ hu => (hu.setLedger _).setLedger _).setLedger _).stopTimer _

theorem showPool (h : LeavesSystem s t) (p : Fin 4) : LeavesSystem s (showPool t p) :=
  (h.wr (by simp only [regAddr, regInfo]; omega) _).wb (by simp only [regAddr, regInfo]; omega) _ _

theorem cfgRej (h : LeavesSystem s t) (code : Nat) : LeavesSystem s (cfgRej t code) := (h.wb (by decide) _ _).wf (by decide) _ _ _

theorem pool (h : LeavesSystem s t) : t.pool = s.pool := by rw [h.others]

theorem frame (h : LeavesSystem s t) : t.thr = s.thr ∧ t.near = s.near ∧ t.bits = s.bits ∧ t.iram = s.iram ∧ t.nvByte = s.nvByte := by
  rw [h.others]
  exact ⟨rfl, rfl, rfl, rfl, rfl⟩

theorem poolOf (h : LeavesSystem s t) (k : Nat) : poolOf t k = poolOf s k := by rw [Machine.poolOf, h.pool, Machine.poolOf]

theorem lineTag (h : LeavesSystem s t) (k : Nat) : lineTag t k = lineTag s k := by rw [h.others]; rfl

end LeavesSystem

theorem poolOf_setPool_same (s : State) (p : Nat) (x : Pool) : poolOf (setPool s p x) p = x := mget_mset_same ..

theorem poolOf_setPool_ne (s : State) {p k : Nat} (x : Pool) (other : k ≠ p) : poolOf (setPool s p x) k = poolOf s k :=
  mget_mset_ne (fun _ => Pool.reset) _ _ _ other

/-- FREE of an enabled pool shows the length of its free list. -/
theorem rd_showPool (enabled : (poolOf s p).enabled = true) : rd (showPool s p) .HOP_PFREE p = BitVec.ofNat 32 (poolOf s p).free.length := by
  have apart : regAddr .HOP_PFREE p ≠ regAddr .HOP_PSTAT p := by simp only [regAddr, regInfo]; omega
  rw [showPool, rd_wb_ne _ _ _ _ _ _ _ apart, rd_wr_same, enabled]
  rfl

/-- The pool's control register stays. -/
theorem rb_showPool (s : State) (p : Fin 4) (b : Nat) : rb (showPool s p) .HOP_PCTL p b = rb s .HOP_PCTL p b := by
  have status : regAddr .HOP_PCTL p ≠ regAddr .HOP_PSTAT p := by simp only [regAddr, regInfo]; omega
  have free : regAddr .HOP_PCTL p ≠ regAddr .HOP_PFREE p := by simp only [regAddr, regInfo]; omega
  rw [showPool, rb_wb_ne _ _ _ _ _ _ _ _ status, rb_wr_ne _ _ _ free]

theorem cfgRej_code {code : Nat} (small : code < 8) : rb (cfgRej s code) .HOP_STAT 0 0 = true ∧ rf (cfgRej s code) .HOP_STAT 0 3 1 = code := by
  refine ⟨?_, ?_⟩
  · rw [cfgRej, rb_wf_apart _ _ _ _ (by decide) (by decide) (by decide), rb_wb_same _ _ _ _ _ (by decide)]
  · rw [cfgRej, rf_wf_same _ _ _ _ (by decide) (by decide)]
    omega

theorem poolCheck_small (s : State) (p : Nat) : poolCheck s p < 8 := by
  unfold poolCheck
  dsimp only
  repeat' split
  all_goals decide

/-! ## A buffer changes its owner (R618, R628) -/

/-- Pool `p` replaced by `x`, the lines of its buffer `i` tagged with `o`, and one buffer booked from one term of the pool's book to another. -/
def rebooked (s : State) (p i o src dst : Nat) (x : Pool) : State :=
  book (retag (setPool s p x) ((poolBase s p + i * bufSize p) / 32) (bufSize p / 32) o) p src dst 1

theorem rebooked_effects (s : State) (p i o : Nat) {src dst : Nat} (x : Pool) (other : src ≠ dst) (position : src ≠ 0) :
    let t := rebooked s p i o src dst x
    poolOf t p = x ∧ (∀ k, k ≠ p → poolOf t k = poolOf s k) ∧ term t p src = term s p src - 1 ∧ term t p dst = term s p dst + 1 ∧
      (∀ k, lineTag t k =
        if (poolBase s p + i * bufSize p) / 32 ≤ k ∧ k < (poolBase s p + i * bufSize p) / 32 + bufSize p / 32 then o else lineTag s k) ∧
      t.thr = s.thr ∧ t.near = s.near ∧ t.bits = s.bits ∧ t.iram = s.iram ∧ t.nvByte = s.nvByte := by
  let u := setPool s p x
  let v := retag u ((poolBase s p + i * bufSize p) / 32) (bufSize p / 32) o
  obtain ⟨others, -⟩ := retag_effects u ((poolBase s p + i * bufSize p) / 32) (bufSize p / 32) o
  have booked : LeavesSystem v (rebooked s p i o src dst x) := (LeavesSystem.refl v).book p src dst 1
  have pool (k : Nat) : poolOf v k = poolOf u k := by
    show poolOf (retag u _ _ _) k = _
    rw [others]
    rfl
  have led : v.led = s.led := by
    show (retag u _ _ _).led = _
    rw [others]
    rfl
  have kept : v.thr = s.thr ∧ v.near = s.near ∧ v.bits = s.bits ∧ v.iram = s.iram ∧ v.nvByte = s.nvByte := by
    show (retag u _ _ _).thr = _ ∧ (retag u _ _ _).near = _ ∧ (retag u _ _ _).bits = _ ∧ (retag u _ _ _).iram = _ ∧ (retag u _ _ _).nvByte = _
    rw [others]
    exact ⟨rfl, rfl, rfl, rfl, rfl⟩
  refine ⟨((booked.poolOf p).trans (pool p)).trans (poolOf_setPool_same ..),
    fun k ne => ((booked.poolOf k).trans (pool k)).trans (poolOf_setPool_ne _ _ ne), ?_, ?_,
    fun k => (booked.lineTag k).trans (lineTag_retag ..), ?_⟩
  · exact (term_book_from v p 1 other position).trans (congrArg (· - 1) (term_congr led p src))
  · exact (term_book_to v p 1 other).trans (congrArg (· + 1) (term_congr led p dst))
  · obtain ⟨a, b, c, d, e⟩ := booked.frame
    obtain ⟨a', b', c', d', e'⟩ := kept
    exact ⟨a.trans a', b.trans b', c.trans c', d.trans d', e.trans e'⟩

/-- What follows a booking of a buffer: reports and the pool's registers. -/
structure Reported (s t : State) : Prop where
  system : LeavesSystem s t
  led : t.led = s.led

theorem Reported.showPool (h : Reported s t) (p : Fin 4) : Reported s (showPool t p) := ⟨h.system.showPool p, h.led⟩

theorem Reported.term (h : Reported s t) (b k : Nat) : term t b k = term s b k := term_congr h.led b k

end Sys2Proof.Proofs
end

section
/-! # Chapter 12: buffer pools -/
namespace Sys2Proof.Proofs
open Sys2Proof.Machine Sys2Proof.Laws

variable {s t u : State} {p : Fin 4}

/-! ## Carving (R609, R610, R612) -/

theorem poolEnable_checked (idle : (poolOf s p).configured = false) :
    poolEnable s p = if poolCheck s p ≠ 0 then cfgRej s (poolCheck s p) else setPool s p { Pool.reset with configured := true } := by
  rw [poolEnable, idle, if_neg Bool.false_ne_true]

/-- A pool whose free list is placed. -/
def placedPool (x : Pool) (n : Nat) : Pool := { x with enabled := true, free := List.range n, owner := [] }

theorem poolPlaced_effects (configured : (poolOf s p).configured = true) (off : (poolOf s p).enabled = false) :
    let n := rn s .HOP_PCOUNT p
    let t := poolPlaced s p
    poolOf t p = placedPool (poolOf s p) n ∧ rb t .HOP_PCTL p 2 = true ∧ term t p 0 = BitVec.ofNat 32 n ∧ term t p 1 = BitVec.ofNat 32 n ∧
      term t p 2 = 0 ∧ rd t .HOP_PFREE p = BitVec.ofNat 32 n ∧ (∀ k, k ≠ p.val → poolOf t k = poolOf s k) ∧
      t.thr = s.thr ∧ t.near = s.near ∧ t.bits = s.bits ∧ t.iram = s.iram ∧ t.nvByte = s.nvByte := by
  intro n
  let s1 := setPool s p (placedPool (poolOf s p) n)
  let s2 := setTerm (setTerm (clearBook s1 p) p 0 (BitVec.ofNat 32 n)) p 1 (BitVec.ofNat 32 n)
  let s3 := wb s2 .HOP_PCTL p 2 true
  have placed : poolPlaced s p = showPool s3 p := if_pos ⟨configured, off⟩
  have system3 : LeavesSystem s1 s3 :=
    LeavesSystem.wb (t := s2) ((((LeavesSystem.refl s1).clearBook p).setLedger _).setLedger _) (by simp only [regAddr, regInfo]; omega) _ _
  have system : LeavesSystem s1 (showPool s3 p) := system3.showPool p
  have pool : poolOf s1 p = placedPool (poolOf s p) n := poolOf_setPool_same ..
  have terms (k : Nat) : term (showPool s3 p) p k = term s2 p k := rfl
  rw [placed]
  refine ⟨(system.poolOf p).trans pool, ?_, ?_, ?_, ?_, ?_, fun k other => (system.poolOf k).trans (poolOf_setPool_ne _ _ other), system.frame⟩
  · rw [rb_showPool, rb_wb_same _ _ _ _ _ (by decide)]
  · rw [terms, term_setTerm_ne _ _ _ (by decide), term_setTerm_same]
  · rw [terms, term_setTerm_same]
  · rw [terms, term_setTerm_ne _ _ _ (by decide), term_setTerm_ne _ _ _ (by decide), term_clearBook _ _ (by decide)]
  · rw [rd_showPool (by rw [system3.poolOf, pool]; rfl), system3.poolOf, pool]
    exact congrArg _ List.length_range

theorem poolDisable_effects (configured : (poolOf s p).configured = true) (enabled : (poolOf s p).enabled = true) (empty : (poolOf s p).owner = []) :
    let t := poolDisable s p
    poolOf t p = Pool.reset ∧ rb t .HOP_PCTL p 2 = false ∧ (∀ k, k < 7 → term t p k = 0) ∧ (∀ k, k ≠ p.val → poolOf t k = poolOf s k) ∧
      t.thr = s.thr ∧ t.near = s.near ∧ t.bits = s.bits ∧ t.iram = s.iram ∧ t.nvByte = s.nvByte := by
  let s1 := setPool s p Pool.reset
  let s2 := wb (clearBook s1 p) .HOP_PCTL p 2 false
  have off : poolDisable s p = showPool s2 p := by
    refine (if_neg ?_).trans (if_neg ?_)
    · rw [configured]
      exact nofun
    · rw [enabled, empty]
      exact fun bad => bad.elim nofun fun held => held rfl
  have system : LeavesSystem s1 (showPool s2 p) :=
    (((LeavesSystem.refl s1).clearBook p).wb (by simp only [regAddr, regInfo]; omega) _ _).showPool p
  rw [off]
  refine ⟨(system.poolOf p).trans (poolOf_setPool_same ..), ?_, fun k low => term_clearBook s1 p low,
    fun k other => (system.poolOf k).trans (poolOf_setPool_ne _ _ other), system.frame⟩
  rw [rb_showPool, rb_wb_same _ _ _ _ _ (by decide)]

theorem poolDisable_held (configured : (poolOf s p).configured = true) (held : (poolOf s p).owner ≠ []) : poolDisable s p = cfgRej s 7 :=
  (if_neg (by rw [configured]; exact nofun)).trans (if_pos (.inr held))

/-! ## Allocating (R617, R618) -/

/-- Pool `x` without the buffer `i` at the head of its free list, which owner `o` holds. -/
def takenFrom (x : Pool) (rest : List Nat) (i o : Nat) : Pool := { x with free := rest, owner := mset (fun _ => 15) x.owner i o }

theorem takeBuffer_reported {i o : Nat} {rest : List Nat} (head : (poolOf s p).free = i :: rest) :
    (takeBuffer s o p).1 = 16384 * p + i ∧ Reported (rebooked s p i o 1 2 (takenFrom (poolOf s p) rest i o)) (takeBuffer s o p).2 := by
  let b := rebooked s p i o 1 2 (takenFrom (poolOf s p) rest i o)
  have kept : Reported b b := ⟨LeavesSystem.refl b, rfl⟩
  have low : Reported b (raise (count (wb b .HOP_PSTAT p 1 true) .fabric 0x2C) .fabric 56) := by
    have shown : Reported b (wb b .HOP_PSTAT p 1 true) := ⟨kept.system.wb (by simp only [regAddr, regInfo]; omega) _ _, rfl⟩
    exact ⟨(shown.system.count _ _).raise _ _, shown.led⟩
  have taken : takeBuffer s o p = (16384 * p + i, showPool (if ((poolOf s p).free.length == rn s .HOP_PLOW p + 1) = true then
      raise (count (wb b .HOP_PSTAT p 1 true) .fabric 0x2C) .fabric 56 else b) p) := by
    rw [takeBuffer, head]
    rfl
  rw [taken]
  refine ⟨rfl, ?_⟩
  dsimp only
  split
  · exact low.showPool p
  · exact kept.showPool p

theorem pools_split : ∀ p : Fin 4, List.range 4 = List.range p ++ p.val :: List.range' (p + 1) (3 - p) := by decide

/-- The smallest enabled pool that the size fits is tried first. -/
theorem fits_first {size : Nat} (enabled : (poolOf s p).enabled = true) (fits : size ≤ bufSize p)
    (smaller : ∀ k, k < p.val → (poolOf s k).enabled = false ∨ bufSize k < size) :
    ∃ rest, (List.range 4).filter (fun p => (poolOf s p).enabled && decide (size ≤ bufSize p)) = p.val :: rest := by
  have none : (List.range p).filter (fun p => (poolOf s p).enabled && decide (size ≤ bufSize p)) = [] := by
    refine List.filter_eq_nil_iff.2 fun k below => ?_
    rcases smaller k (List.mem_range.1 below) with off | small
    · simp [off]
    · simp [show ¬ size ≤ bufSize k by omega]
  rw [pools_split p, List.filter_append, List.filter_cons_of_pos (by simp [enabled, fits]), none, List.nil_append]
  exact ⟨_, rfl⟩

theorem areq_fields {o size : Nat} (small : o < 16) (most : size ≤ 8192) : fld (BitVec.ofNat 32 (size + 65536 * o)) 13 0 = size ∧
    fld (BitVec.ofNat 32 (size + 65536 * o)) 19 16 = o := by
  rw [fld, fld, BitVec.toNat_ofNat]
  omega

theorem bufSize_le (p : Fin 4) : bufSize p ≤ 8192 := by revert p; decide

/-- An allocation that every rule permits takes the head of the first pool's free list (R617). -/
theorem hopAlloc_taken {req o size : Nat} {world : Bool} {grant : Nat} (thread : req < 8) (asked : mget (fun _ => false) s.areq req = true)
    (request : rdReq s .HOP_AREQ req = BitVec.ofNat 32 (size + 65536 * o)) (some : 1 ≤ size) (fit : size ≤ bufSize p) (owner : o < 15)
    (right : world = true → o ≠ 0 ∧ nbit grant o = true) (enabled : (poolOf s p).enabled = true)
    (smaller : ∀ k, k < p.val → (poolOf s k).enabled = false ∨ bufSize k < size) (may : mayTake s o p = true) :
    hopAlloc s req world grant = (aresVal (takeBuffer s o p).1 0 o, (takeBuffer s o p).2) := by
  have most := bufSize_le p
  obtain ⟨sizeField, ownerField⟩ := areq_fields (o := o) (size := size) (by omega) (by omega)
  obtain ⟨rest, first⟩ := fits_first enabled fit smaller
  have refused : ¬ (o = 15 ∨ (world = true ∧ (o = 0 ∨ nbit grant o = false))) := by
    rintro (none | ⟨app, keeper | outside⟩)
    · omega
    · exact (right app).1 keeper
    · exact Bool.false_ne_true (outside.symm.trans (right app).2)
  have unasked : ¬ (req = 8 ∨ mget (fun _ => false) s.areq req = false) := by
    rintro (bus | none)
    · omega
    · exact Bool.false_ne_true (none.symm.trans asked)
  have sized : ¬ (size = 0 ∨ size > 8192) := by omega
  unfold hopAlloc
  dsimp only
  rw [if_neg unasked, request, sizeField, ownerField, first, if_neg sized, if_neg refused]
  dsimp only
  rw [if_pos may]

/-! ## Freeing (R626, R628) -/

/-- Pool `x` with buffer `i` at its free list's tail. -/
def givenBack (x : Pool) (i : Nat) : Pool := { x with free := x.free ++ [i], owner := mset (fun _ => 15) x.owner i 15 }

theorem bufOwner_of_pool {x : Pool} {i o : Nat} (pool : poolOf t p = x) (owners : x.owner = mset (fun _ => 15) (poolOf s p).owner i o) (k : Nat) :
    bufOwner t p k = if k = i then o else bufOwner s p k := by
  rw [bufOwner, pool, owners, mget_mset, bufOwner]

section
variable {req i h grant : Nat} {world : Bool} (named : h = 16384 * p.val + i) (small : i < 8192) (held : i < poolCount s p)
  (enabled : (poolOf s p).enabled = true)

/-- The handle names a buffer of an enabled pool. -/
theorem handle_fields {p : Fin 4} (named : h = 16384 * p.val + i) (small : i < 8192) : h / 16384 % 4 = p ∧ h % 8192 = i ∧ nbit h 13 = false := by
  exact ⟨by omega, by omega, decide_eq_false (by omega)⟩

include named small held enabled

theorem hopFree_given (owned : bufOwner s p i ≠ 15) (right : world = false ∨ nbit grant (bufOwner s p i) = true) :
    hopFree s req h world grant = showPool (rebooked s p i 15 2 1 (givenBack (poolOf s p) i)) p := by
  obtain ⟨pool, index, bit⟩ := handle_fields named small
  have refused : ¬ (world = true ∧ nbit grant (bufOwner s p i) = false) := by
    rintro ⟨app, outside⟩
    rcases right with keeper | granted
    · exact Bool.false_ne_true (keeper.symm.trans app)
    · exact Bool.false_ne_true (outside.symm.trans granted)
  have valid : ¬ (nbit h 13 = true ∨ (poolOf s p).enabled = false ∨ poolCount s p ≤ i) := by
    rw [bit, enabled]
    simp only [Bool.false_eq_true, Bool.true_eq_false, false_or]
    omega
  unfold hopFree
  dsimp only
  rw [pool, index, if_neg valid, if_neg owned, if_neg refused]
  rfl

theorem hopFree_double (free : bufOwner s p i = 15) : hopFree s req h world grant = freeRefused s req h world 2 0x2B := by
  obtain ⟨pool, index, bit⟩ := handle_fields named small
  unfold hopFree
  dsimp only
  have valid : ¬ (nbit h 13 = true ∨ (poolOf s p).enabled = false ∨ poolCount s p ≤ i) := by
    rw [bit, enabled]
    simp only [Bool.false_eq_true, Bool.true_eq_false, false_or]
    omega
  rw [← pool, ← index] at valid free
  exact (if_neg valid).trans (if_pos free)

end

/-- OVR of HOP_FERR leaves the fields below it. -/
theorem fld_below_ovr (n : Nat) (v : Quad) {hi lo : Nat} (below : hi < 22) :
    fld (BitVec.ofNat 32 n ||| (v &&& 0x40000000)) hi lo = n / 2 ^ lo % 2 ^ (hi + 1 - lo) := by
  refine Nat.eq_of_testBit_eq fun i => ?_
  rw [fld, Nat.testBit_mod_two_pow, Nat.testBit_div_two_pow, Nat.testBit_mod_two_pow, Nat.testBit_div_two_pow, BitVec.testBit_toNat]
  by_cases inside : i < hi + 1 - lo
  · have mask : (0x40000000 : Quad).getLsbD (i + lo) = false := by
      have low : i + lo < 22 := by omega
      generalize i + lo = k at low ⊢
      interval_cases k <;> rfl
    rw [BitVec.getLsbD_or, BitVec.getLsbD_and, mask, Bool.and_false, Bool.or_false, BitVec.getLsbD_ofNat, decide_eq_true (by omega : i + lo < 32),
      Bool.true_and]
  · rw [decide_eq_false inside, Bool.false_and, Bool.false_and]

/-- HOP_FERR as a refused free fills it, but for OVR. -/
def ferrVal (req h w code : Nat) : Nat :=
  h + 65536 * (if req = 8 then 0 else req) + 524288 * w + 1048576 * code + 4194304 * b01 (req == 8) + 2147483648

theorem ferrVal_fields {req h w : Nat} (handle : h < 65536) (agent : req ≤ 8) (world : w < 2) :
    ferrVal req h w 2 / 2 ^ 20 % 2 ^ 2 = 2 ∧ ferrVal req h w 2 / 2 ^ 0 % 2 ^ 16 = h := by
  have number : (if req = 8 then 0 else req) < 8 := by split <;> omega
  have sum {n b : Nat} (small : n < 8) : (h + 65536 * n + 524288 * w + 1048576 * 2 + 4194304 * b + 2147483648) / 1048576 % 4 = 2 ∧
      (h + 65536 * n + 524288 * w + 1048576 * 2 + 4194304 * b + 2147483648) / 1 % 65536 = h := by omega
  exact sum number

theorem freeRefused_first {req h code ev : Nat} {world : Bool} (clear : rb s .HOP_FERR 0 31 = false) : freeRefused s req h world code ev =
    count (wr s .HOP_FERR 0 (BitVec.ofNat 32 (ferrVal req h (b01 world) code) ||| (rd s .HOP_FERR 0 &&& 0x40000000))) .fabric ev := by
  unfold freeRefused ferrVal
  dsimp only
  rw [← rb, clear, if_neg Bool.false_ne_true]

theorem ferr_filled {n : Nat} (code : n / 2 ^ 20 % 2 ^ 2 = 2) :
    let t := count (wr s .HOP_FERR 0 (BitVec.ofNat 32 n ||| (rd s .HOP_FERR 0 &&& 0x40000000))) .fabric 0x2B
    LeavesSystem s t ∧ rf t .HOP_FERR 0 21 20 = 2 ∧ rf t .HOP_FERR 0 15 0 = n / 2 ^ 0 % 2 ^ 16 := by
  let w := BitVec.ofNat 32 n ||| (rd s .HOP_FERR 0 &&& 0x40000000)
  have kept : rd (count (wr s .HOP_FERR 0 w) .fabric 0x2B) .HOP_FERR 0 = w := by
    rw [count_fabric]
    exact rd_wr_same ..
  refine ⟨((LeavesSystem.refl s).wr (by decide) w).count _ _, ?_, ?_⟩
  · rw [rf, kept]
    exact (fld_below_ovr _ _ (by decide)).trans code
  · rw [rf, kept]
    exact fld_below_ovr _ _ (by decide)

theorem freeRefused_double {req h : Nat} {world : Bool} (handle : h < 65536) (agent : req ≤ 8) (clear : rb s .HOP_FERR 0 31 = false) :
    let t := freeRefused s req h world 2 0x2B
    LeavesSystem s t ∧ rf t .HOP_FERR 0 21 20 = 2 ∧ rf t .HOP_FERR 0 15 0 = h := by
  have flag : b01 world < 2 := by cases world <;> decide
  obtain ⟨code, number⟩ := ferrVal_fields handle agent flag
  obtain ⟨system, refused, named⟩ := ferr_filled (s := s) code
  rw [freeRefused_first clear]
  exact ⟨system, refused, named.trans number⟩

/-- The answer to a read of HOP_ARES. -/
def aresAnswer (s : State) (req : Nat) (v : Quad) (t8 : Fin 8) (g : Fin 16) : State :=
  replyIn (capture s req .HOP_ARES 0 v) .fabric (.greg t8 g) (byteOf v 0)

/-- The answer captures the value for the requester, and changes no pool, no far memory and no book. -/
theorem aresAnswer_effects (s : State) (req : Nat) (v : Quad) (t8 : Fin 8) (g : Fin 16) : let t := aresAnswer s req v t8 g
    t.pool = s.pool ∧ t.far = s.far ∧ t.led = s.led ∧ mget (fun _ => none) t.shadow (2 ^ 20 * (req + 1) + regAddr .HOP_ARES 0) = some v :=
  ⟨rfl, rfl, rfl, mget_mset_same (fun _ => none) s.shadow _ (some v)⟩

theorem exec_allocate {req : Nat} {t8 : Fin 8} {g : Fin 16} (live : Live s .fabric) : exec (.allocate req (.greg t8 g)) s =
    .next (aresAnswer (hopAlloc s req (reqWorld s req) (reqGrant s req)).2 req (hopAlloc s req (reqWorld s req) (reqGrant s req)).1 t8 g) :=
  liveIn_live live fun s => replyIn (aresRead s req (reqWorld s req) (reqGrant s req)).2 .fabric (.greg t8 g)
    (aresRead s req (reqWorld s req) (reqGrant s req)).1

/-- Settles O37: each operation on a pool changes that pool, the lines of one buffer and the pool's book, or what it refuses. -/
theorem bufferPools : Obligations.BufferPools := by
  intro s req p v t8 g x n frame others
  refine ⟨fun may idle good => ?enable, fun may idle bad => ?refuse, fun live configured off => ?placed,
    fun may enabled configured empty => ?disable, fun may configured held => ?busy,
    fun o size i rest live thread asked request some fit owner right enabled smaller head take => ?allocate,
    fun live thread unasked => ?unasked, fun i below small named live enabled => ⟨fun owned right => ?free, fun free agent clear => ?double⟩,
    fun may owner => ⟨fun configured much => ?tooMuch, fun little => ?reserve⟩, fun may thread named index => ?status⟩
  case enable =>
    refine (writeReg_taken may fun s => poolEnable s p).trans (congrArg _ ?_)
    rw [poolEnable_checked idle, if_neg (not_not.2 good)]
  case refuse =>
    have row : exec (.poolEnable req p) s = .next (cfgRej s (poolCheck s p)) := by
      refine (writeReg_taken may fun s => poolEnable s p).trans (congrArg _ ?_)
      rw [poolEnable_checked idle, if_pos bad]
    have system := (LeavesSystem.refl s).cfgRej (poolCheck s p)
    obtain ⟨flag, code⟩ := cfgRej_code (s := s) (poolCheck_small s p)
    exact Does.intro row ⟨system.pool, flag, code, system.frame⟩
  case placed =>
    obtain ⟨pool, shown, all, free, held, left, rest, kept⟩ := poolPlaced_effects configured off
    refine Does.intro (liveIn_live live fun s => poolPlaced s p) ⟨?_, ?_, ?_, shown, all, free, held, left, rest, kept⟩
    all_goals
      rw [pool]
      rfl
  case disable => exact Does.intro (writeReg_taken may fun s => poolDisable s p) (poolDisable_effects configured enabled empty)
  case busy =>
    have row : exec (.poolDisable req p) s = .next (cfgRej s 7) :=
      (writeReg_taken may fun s => poolDisable s p).trans (congrArg _ (poolDisable_held configured held))
    have system := (LeavesSystem.refl s).cfgRej 7
    exact Does.intro row ⟨system.pool, (cfgRej_code (by decide)).2, system.frame⟩
  case allocate =>
    have taken := hopAlloc_taken thread asked request some fit owner right enabled smaller take
    have row := exec_allocate (req := req) (t8 := t8) (g := g) live
    rw [taken] at row
    obtain ⟨handle, reported⟩ := takeBuffer_reported (o := o) head
    obtain ⟨pool, rest', free, used, tags, -⟩ := rebooked_effects s p i o (src := 1) (dst := 2) (takenFrom x rest i o) (by decide) (by decide)
    have after (k : Nat) : bufOwner (takeBuffer s o p).2 p k = if k = i then o else bufOwner s p k :=
      bufOwner_of_pool ((reported.system.poolOf p).trans pool) rfl k
    dsimp only at row
    rw [handle] at row
    generalize (takeBuffer s o p).2 = u at row reported after
    obtain ⟨pools, far, led, value⟩ := aresAnswer_effects u req (aresVal (16384 * p + i) 0 o) t8 g
    have shown (k : Nat) : poolOf (aresAnswer u req (aresVal (16384 * p + i) 0 o) t8 g) k = poolOf u k := by rw [poolOf, pools, poolOf]
    have owners (k : Nat) : bufOwner (aresAnswer u req (aresVal (16384 * p + i) 0 o) t8 g) p k = bufOwner u p k := by
      rw [bufOwner, shown, bufOwner]
    refine Does.intro row ⟨?_, ?_, fun k other => ?_, value, fun k => ?_, ?_, ?_, fun k other => ?_⟩
    · rw [shown, reported.system.poolOf, pool]
      rfl
    · rw [owners, after, if_pos rfl]
    · rw [owners, after, if_neg other]
    · rw [lineTag, far, ← lineTag, reported.system.lineTag, tags]
    · rw [term_congr led, reported.term, free]
    · rw [term_congr led, reported.term, used]
    · rw [shown, reported.system.poolOf, rest' k other]
  case unasked =>
    have row := exec_allocate (req := req) (t8 := t8) (g := g) live
    rw [hopAlloc, if_pos (.inr unasked)] at row
    exact Does.intro row (aresAnswer_effects s req (aresVal 0xFFFF 7 15) t8 g)
  case free =>
    have row : exec (.free req v) s = .next (showPool (rebooked s p i 15 2 1 (givenBack x i)) p) :=
      (liveIn_live live fun s => hopFree s req v.toNat (reqWorld s req) (reqGrant s req)).trans
        (congrArg _ (hopFree_given named small below enabled owned right))
    obtain ⟨pool, rest, used, free, -, thr, near, bits, iram, nvByte⟩ :=
      rebooked_effects s p i 15 (src := 2) (dst := 1) (givenBack x i) (by decide) (by decide)
    have system : LeavesSystem (rebooked s p i 15 2 1 (givenBack x i)) (showPool (rebooked s p i 15 2 1 (givenBack x i)) p) :=
      (LeavesSystem.refl _).showPool p
    have given := (system.poolOf p).trans pool
    obtain ⟨thr', near', bits', iram', nvByte'⟩ := system.frame
    exact Does.intro row ⟨congrArg Pool.free given, bufOwner_of_pool given rfl, free, used, fun k other => (system.poolOf k).trans (rest k other),
      thr'.trans thr, near'.trans near, bits'.trans bits, iram'.trans iram, nvByte'.trans nvByte⟩
  case double =>
    have row : exec (.free req v) s = .next (freeRefused s req v.toNat (reqWorld s req) 2 0x2B) :=
      (liveIn_live live fun s => hopFree s req v.toNat (reqWorld s req) (reqGrant s req)).trans
        (congrArg _ (hopFree_double named small below enabled free))
    obtain ⟨system, code, handle⟩ := freeRefused_double (world := reqWorld s req) v.isLt agent clear
    have far : (freeRefused s req v.toNat (reqWorld s req) 2 0x2B).far = s.far := by rw [system.others]
    exact Does.intro row ⟨system.pool, far, code, handle, system.frame⟩
  case tooMuch =>
    have row : exec (.reservationWrite req v) s = .next (wb s .HOP_STAT 0 4 true) :=
      (writeReg_taken may fun s => rsvWrite s (v.toNat % 8192)).trans (congrArg _ ((if_neg owner).trans (if_pos ⟨configured, much⟩)))
    exact Does.intro row ⟨rfl, rb_wb_same _ _ _ _ _ (by decide), rfl, rfl, rfl, rfl, rfl⟩
  case reserve =>
    refine Does.intro ((writeReg_taken may fun s => rsvWrite s (v.toNat % 8192)).trans
      (congrArg _ ((if_neg owner).trans (if_neg fun much => ?_)))) ⟨mget_mset_same .., rfl, rfl, rfl, rfl, rfl, rfl⟩
    exact Nat.not_lt.2 little much.2
  case status =>
    let i := rn s .HOP_BUFIDX 0 % 8192
    have unit : req ≠ 8 := by omega
    have pool : rn s .HOP_BUFIDX 0 / 16384 % 4 = p := by omega
    let u := wf s .HOP_BUFIDX 0 12 0 (if i + 1 = n then 0 else i + 1)
    have row : exec (.bufferStatusRead req (.greg t8 g)) s = .next (replyIn u .fabric (.greg t8 g)
        (BitVec.ofNat 8 (bufOwner s p i + 16 * b01 (bufOwner s p i != 15)))) := by
      refine (readRegRow_taken may fun s ok =>
        if ok then replyIn (bufStatNext s req) .fabric (.greg t8 g) (bufStat s) else replyIn s .fabric (.greg t8 g) 0).trans (congrArg _ ?_)
      have moved : ¬ (req = 8 ∨ bufNamed s = false) := by
        rw [named]
        exact fun bad => bad.elim unit nofun
      rw [if_pos rfl, bufStatNext, if_neg moved, bufStat, named, pool]
      rfl
    have shown : rf u .HOP_BUFIDX 0 12 0 = (if i + 1 = n then 0 else i + 1) % 8192 := rf_wf_same _ _ _ _ (by decide) (by decide)
    refine Does.intro row ⟨shown, rfl, ?_⟩
    exact (replyIn_fabric u t8 g _).after_wf.sent

end Sys2Proof.Proofs
end

section
/-! # Chapter 13: the checks of the books, rebase and the read ports -/
namespace Sys2Proof.Proofs
open Sys2Proof.Machine Sys2Proof.Laws

variable {s t : State} {b : Nat}

/-! ## What a check shows (R655, R665) -/

theorem imbalance_rd (s : State) (b kind : Nat) (r : Rg) (i : Nat) : rd (imbalance s b kind) r i =
    rd (wb (wb (wb (imbRecord s b kind) .LED_FAILED 0 b true) .LED_STAT 0 0 true) .LED_STAT 0 1 true) r i := by
  unfold imbalance
  dsimp only
  rw [raise_send (by decide), count_fabric]
  split <;> rfl

namespace Keeps

variable {A : Nat → Prop} {u : State}

theorem imbRecord (h : Keeps A s t) (apart : ¬ A (regAddr .LED_IMB 0)) (b kind : Nat) : Keeps A s (imbRecord t b kind) :=
  ite ((h.setLedger _).wr apart _) (ite (h.wr apart _) (h.wr apart _))

theorem imbalance (h : Keeps A s t) (imb : ¬ A (regAddr .LED_IMB 0)) (failed : ¬ A (regAddr .LED_FAILED 0)) (stat : ¬ A (regAddr .LED_STAT 0))
    (b kind : Nat) : Keeps A s (imbalance t b kind) := by
  have shown := (((h.imbRecord imb b kind).wb failed b true).wb stat 0 true).wb stat 1 true
  have told (l : Ledger) := ((shown.setLedger l).count (i := .fabric) (by decide) 0x2E).raise (i := .fabric) (by decide) 57
  exact ite ((told _).send _ _) (told _)

theorem settled (h : Keeps A s t) (apart : ¬ A (regAddr .LED_UNSET 0)) (b : Nat) : Keeps A s (settled t b) :=
  ((h.setLedger _).wb apart b false).stopTimer _

theorem rebaseNow (h : Keeps A s t) (apart : ¬ A (regAddr .LED_FAILED 0)) (b : Nat) : Keeps A s (rebaseNow t b) :=
  Keeps.setLedger ((h.setLedger _).wb apart b false) _

end Keeps

/-- A book that settles: a rebase waits for none, and its update is old enough. -/
structure Settles (s : State) (b : Nat) : Prop where
  quiet : quietEnds s b = true
  rebase : mget (fun _ => false) s.led.rebase b = false
  sound : rb s .LED_FAILED 0 b = false

theorem settles_of_quiet (transit : term s b (termT b) = 0) (waits : reportWaits s b = false) (free : suspended s b = false)
    (old : ∃ k, lastUpdate s b = some k ∧ k + 64 ≤ s.cycles) (rebase : mget (fun _ => false) s.led.rebase b = false)
    (sound : rb s .LED_FAILED 0 b = false) : Settles s b := by
  obtain ⟨k, update, past⟩ := old
  refine ⟨?_, rebase, sound⟩
  rw [quietEnds, update, transit, waits, free]
  simp [past]

theorem quietEnds_not (busy : term s b (termT b) ≠ 0 ∨ ∀ k, lastUpdate s b = some k → s.cycles < k + 64) : quietEnds s b = false := by
  unfold quietEnds
  rcases busy with transit | recent
  · rw [decide_eq_false transit, Bool.and_false, Bool.false_and, Bool.false_and]
  · split
    next k update => rw [decide_eq_false (Nat.not_le.2 (recent k update)), Bool.false_and, Bool.false_and, Bool.false_and]
    · rfl

theorem settleBook_now (h : Settles s b) : settleBook s b = settled (checkBook s b) b := by
  rw [settleBook, h.quiet, h.rebase, if_neg Bool.false_ne_true.symm, if_neg Bool.false_ne_true]

/-- A snapshot holds each term of its book (R655). -/
theorem snapBook_snap (s : State) {b k : Nat} (small : k ≤ termT b) : mget (fun _ => 0) (snapBook s b).led.snap (8 * b + k) = term s b k := by
  refine (mget_foldl_mset _ _ (8 * b) (termT b + 1) (fun t => term s b t) (8 * b + k)).trans ?_
  rw [if_pos ⟨by omega, by omega⟩]
  congr 1
  omega

theorem lastUpdate_set (s : State) (b : Nat) (x : Option Nat) : lastUpdate (setLastUpdate s b x) b = x := mget_mset_same (fun _ => none) _ _ _

theorem settled_last (s : State) (b : Nat) : lastUpdate (settled s b) b = none := lastUpdate_set s b none

theorem settled_unset (s : State) {b : Nat} (small : b < 32) : rb (settled s b) .LED_UNSET 0 b = false :=
  rb_wb_same (setLastUpdate s b none) _ _ _ _ small

theorem settled_rd (s : State) (b : Nat) {r : Rg} {i : Nat} (apart : regAddr r i ≠ regAddr .LED_UNSET 0) : rd (settled s b) r i = rd s r i :=
  rd_wb_ne (setLastUpdate s b none) .LED_UNSET r 0 i b false apart

/-- A check that passes shows the book balanced, keeps its terms and holds them in the snapshot. -/
theorem settleBook_balanced (b : Fin 24) (h : Settles s b) (equation : term s b 0 = rhs s b) (structureHolds : structureOk s b = true) :
    let t := settleBook s b
    rb t .LED_BAL 0 b = true ∧ rb t .LED_UNSET 0 b = false ∧ lastUpdate t b = none ∧ rb t .LED_FAILED 0 b = false ∧
      t.led.term = s.led.term ∧ (∀ k, k ≤ termT b → mget (fun _ => 0) t.led.snap (8 * b + k) = term s b k) ∧ Keeps Nowhere s t := by
  have passes : checkBook s b = wb (snapBook s b) .LED_BAL 0 b true := by
    rw [checkBook, h.sound, equationOk, equation, beq_self_eq_true, structureHolds, if_neg Bool.false_ne_true, if_neg Bool.false_ne_true.symm,
      if_neg Bool.false_ne_true.symm]
  rw [settleBook_now h, passes]
  refine ⟨?_, settled_unset _ (by omega), settled_last _ b, ?_, rfl, fun k small => snapBook_snap s small,
    (((Keeps.refl s).setLedger _).wb id _ _).settled id _⟩
  · rw [rb_congr (settled_rd _ _ (by decide)) b, rb_wb_same _ _ _ _ _ (by omega)]
  · rw [rb_congr (settled_rd _ _ (by decide)) b, rb_wb_ne _ _ _ _ _ _ _ _ (by decide)]
    exact h.sound

/-- BOOK and KIND of the record of an imbalance of kind EQUATION. -/
theorem imb_fields (b : Fin 24) (d : Nat) :
    (b + 256 * d + 2147483648) / 2 ^ 0 % 2 ^ 5 = b ∧ (b + 256 * d + 2147483648) / 2 ^ 5 % 2 ^ 2 = 0 := by omega

/-- The record of an imbalance of kind EQUATION where VALID is 0 (R665). -/
theorem imbRecord_first (free : rb s .LED_IMB 0 31 = false) (b : Fin 24) : ∃ u, u.io = s.io ∧
    imbRecord s b 0 = wr u .LED_IMB 0 (BitVec.ofNat 32 (b + 256 * imbDiff s b + 2147483648) ||| (rd s .LED_IMB 0 &&& 0x40000000)) := by
  refine ⟨{ s with led := { s.led with imbAt := s.cycles + 1 } }, rfl, ?_⟩
  refine (if_pos free).trans ?_
  rw [if_neg (by decide : ¬ 0 = 1), Nat.mul_zero, Nat.add_zero]
  rfl

/-- A check whose equation fails marks the book and records it. -/
theorem settleBook_failed (b : Fin 24) (h : Settles s b) (equation : term s b 0 ≠ rhs s b) (free : rb s .LED_IMB 0 31 = false) :
    let t := settleBook s b
    rb t .LED_FAILED 0 b = true ∧ rb t .LED_STAT 0 0 = true ∧ rf t .LED_IMB 0 4 0 = b ∧ rf t .LED_IMB 0 6 5 = 0 ∧
      t.led.term = s.led.term ∧ Keeps Nowhere s t := by
  have fails : checkBook s b = imbalance s b 0 := by
    rw [checkBook, h.sound, equationOk, beq_eq_false_iff_ne.2 equation, if_neg Bool.false_ne_true, if_pos rfl]
  have shown {r : Rg} (apart : regAddr r 0 ≠ regAddr .LED_UNSET 0) : rd (settleBook s b) r 0 =
      rd (wb (wb (wb (imbRecord s b 0) .LED_FAILED 0 b true) .LED_STAT 0 0 true) .LED_STAT 0 1 true) r 0 := by
    rw [settleBook_now h, fails, ← imbalance_rd]
    exact settled_rd _ _ apart
  obtain ⟨u, -, record⟩ := imbRecord_first free b
  have imb : rd (settleBook s b) .LED_IMB 0 = BitVec.ofNat 32 (b + 256 * imbDiff s b + 2147483648) ||| (rd s .LED_IMB 0 &&& 0x40000000) := by
    rw [shown (by decide), record]
    simp (disch := decide) only [rd_wb_ne, rd_wr_same]
  obtain ⟨number, kind⟩ := imb_fields b (imbDiff s b)
  generalize b + 256 * imbDiff s b + 2147483648 = n at imb number kind
  refine ⟨?_, ?_, ?_, ?_, ?_, ?_⟩
  · rw [rb_congr (shown (by decide)) b, rb_wb_ne _ _ _ _ _ _ _ _ (by decide), rb_wb_ne _ _ _ _ _ _ _ _ (by decide), rb_wb_same _ _ _ _ _ (by omega)]
  · rw [rb_congr (shown (by decide)) 0, rb_wb_other _ _ _ _ _ _ (by decide) (by decide), rb_wb_same _ _ _ _ _ (by decide)]
  · exact ((congrArg (fld · 4 0) imb).trans (fld_below_ovr _ _ (by decide))).trans number
  · exact ((congrArg (fld · 6 5) imb).trans (fld_below_ovr _ _ (by decide))).trans kind
  · rw [settleBook_now h, fails]
    exact imbalance_term s b 0
  · rw [settleBook_now h, fails]
    exact ((Keeps.refl s).imbalance id id id b 0).settled id b

theorem rhs_congr {s t : State} {b : Nat} (same : ∀ k, k ≠ 0 → term t b k = term s b k) : rhs t b = rhs s b :=
  congrArg (fun f => (List.range (termT b)).foldl f 0) (funext fun a => funext fun k => congrArg (a + ·) (same (k + 1) (Nat.succ_ne_zero k)))

/-- After a rebase the equation holds (R669). -/
theorem rebaseNow_effects (s : State) {b : Nat} (small : b < 32) : let t := rebaseNow s b
    term t b 0 = rhs s b ∧ rhs t b = rhs s b ∧ rb t .LED_FAILED 0 b = false ∧ Keeps Nowhere s t :=
  ⟨term_setTerm_same s b 0 _, rhs_congr fun _ other => term_setTerm_ne s b _ other, rb_wb_same (setTerm s b 0 (rhs s b)) _ _ _ _ small,
    (Keeps.refl s).rebaseNow id b⟩

/-! ## The read ports (R671) -/

/-- A port answers the lowest byte of a captured value and moves its index on. -/
def portAnswer (s : State) (req : Nat) (port : Rg) (index : Rg) (hi lo next : Nat) (v : Quad) (t8 : Fin 8) (g : Fin 16) : State :=
  replyIn (wf (capture s req port 0 v) index 0 hi lo next) .fabric (.greg t8 g) (byteOf v 0)

theorem portAnswer_effects (s : State) (req : Nat) (port index : Rg) {hi lo : Nat} (next : Nat) (v : Quad) (t8 : Fin 8) (g : Fin 16) (hi32 : hi < 32)
    (order : lo ≤ hi) : let t := portAnswer s req port index hi lo next v t8 g
    xwaitOf t 1 = xwaitOf s 1 ++ [.inReply ⟨.greg t8 g, s.cycles, !(thr s t8).world⟩ (byteOf v 0)] ∧
      rf t index 0 hi lo = next % 2 ^ (hi + 1 - lo) ∧ mget (fun _ => none) t.shadow (2 ^ 20 * (req + 1) + regAddr port 0) = some v ∧
      SameMemory s t := by
  have answered := replyIn_fabric (wf (capture s req port 0 v) index 0 hi lo next) t8 g (byteOf v 0)
  exact ⟨answered.sent, rf_wf_same (capture s req port 0 v) _ _ _ hi32 order, mget_mset_same (fun _ => none) s.shadow _ (some v),
    SameMemory.trans (wr_memory (capture s req port 0 v) index 0 _) answered.memory⟩

/-- Settles O38: a settled book passes or fails its check, an update begins the interval again, a rebase restores the equation, a port answers. -/
theorem ledgerChecks : Obligations.LedgerChecks := by
  intro s req b t8 g quiet frame
  have settle (live : Live s .fabric) : exec (.bookSettle b false) s = .next (settleBook s b) := liveIn_live live fun s =>
    if false = true then (if quietEnds s b.val then count (setLastUpdate s b.val (some s.cycles)) .fabric 0x08 else s) else settleBook s b.val
  have again (live : Live s .fabric) : exec (.bookSettle b true) s =
      .next (if quietEnds s b then count (setLastUpdate s b (some s.cycles)) .fabric 0x08 else s) := liveIn_live live fun s =>
    if true = true then (if quietEnds s b.val then count (setLastUpdate s b.val (some s.cycles)) .fabric 0x08 else s) else settleBook s b.val
  have now (q : quiet) : Settles s b := by
    obtain ⟨transit, waits, free, old, rebase, sound⟩ := q
    exact settles_of_quiet transit waits free old rebase sound
  have number : (BitVec.ofNat 5 b).toNat = b := by
    rw [BitVec.toNat_ofNat]
    omega
  refine ⟨fun live q equation holds => ?balanced, fun live q equation free => ?failed, fun live busy => ?busy, fun live q => ?tie,
    fun live due => ?unsettled, fun may failed transit idle => ?rebase, fun may sound => ?unfailed, fun may thread book small => ?term,
    fun may thread => ?log⟩
  case balanced =>
    obtain ⟨balance, unset, last, sound, terms, snap, kept⟩ := settleBook_balanced b (now q) equation holds
    exact Does.intro (settle live) ⟨balance, unset, last, sound, terms, snap, kept.frame⟩
  case failed =>
    obtain ⟨mark, status, number, kind, terms, kept⟩ := settleBook_failed b (now q) equation free
    exact Does.intro (settle live) ⟨mark, status, number, kind, terms, kept.frame⟩
  case busy =>
    have none := quietEnds_not busy
    refine ⟨(settle live).trans (congrArg _ (if_pos none)), (again live).trans (congrArg _ ?_)⟩
    rw [none, if_neg Bool.false_ne_true]
  case tie =>
    have row := again live
    rw [(now q).quiet, if_pos rfl, count_fabric] at row
    exact Does.intro row ⟨lastUpdate_set s b _, rfl, rfl, rfl, SameMemory.refl s⟩
  case unsettled =>
    have row : exec (.bookUnsettled b false) s = .next (count (wb (stopTimer s (tmrSettle b)) .LED_UNSET 0 b true) .fabric 0x2F) :=
      (liveIn_live live fun s => expire s .fabric (tmrSettle b) false fun s => count (wb s .LED_UNSET 0 b true) .fabric 0x2F).trans
        (congrArg _ (expire_due .fabric due _))
    rw [count_fabric] at row
    refine Does.intro row ⟨rb_wb_same _ _ _ _ _ (by omega), rfl, fun d k outside => ?_, rfl, SameMemory.refl s⟩
    exact mget_wr_io_ne (stopTimer s (tmrSettle b)) d _ fun same => outside (List.mem_singleton.2 same)
  case rebase =>
    let u := wf s .LED_REBASE 0 4 0 b
    have row : exec (.rebase req (BitVec.ofNat 5 b)) s = .next (rebaseNow u b) := by
      refine (writeReg_taken may fun s => rebaseGo (wf s .LED_REBASE 0 4 0 (BitVec.ofNat 5 b).toNat) (BitVec.ofNat 5 b).toNat).trans (congrArg _ ?_)
      rw [number]
      refine (if_neg ?_).trans (if_pos ⟨transit, idle⟩)
      rintro (high | sound)
      · omega
      · rw [rb, rd_wf_ne _ _ _ _ _ _ _ _ (by decide), ← rb, failed] at sound
        exact Bool.false_ne_true sound.symm
    obtain ⟨term, sum, sound, kept⟩ := rebaseNow_effects u (b := b) (by omega)
    exact Does.intro row ⟨term, sum, sound, kept.frame⟩
  case unfailed =>
    let u := wf s .LED_REBASE 0 4 0 b
    have row : exec (.rebase req (BitVec.ofNat 5 b)) s = .next u := by
      refine (writeReg_taken may fun s => rebaseGo (wf s .LED_REBASE 0 4 0 (BitVec.ofNat 5 b).toNat) (BitVec.ofNat 5 b).toNat).trans (congrArg _ ?_)
      rw [number]
      refine if_pos (.inr ?_)
      rw [rb, rd_wf_ne _ _ _ _ _ _ _ _ (by decide), ← rb, sound]
    refine Does.intro row ⟨rfl, fun d k outside => ?_, rfl, SameMemory.refl s⟩
    exact mget_wr_io_ne s d _ fun same => outside (List.mem_singleton.2 same)
  case term =>
    let k := rf s .LED_TIDX 0 10 8
    have unit : req ≠ 8 := by omega
    have value : tdata s = mget (fun _ => 0) s.led.snap (8 * b + k) := by
      rw [tdata, book, if_neg (by omega)]
    have row : exec (.termRead req (.greg t8 g)) s = .next (portAnswer s req .LED_TDATA .LED_TIDX 10 8 (k + 1) (tdata s) t8 g) := by
      refine (readRegRow_taken may fun s ok =>
        if ok then replyIn (tdataNext (capture s req .LED_TDATA 0 (tdata s)) req) .fabric (.greg t8 g) (byteOf (tdata s) 0)
        else replyIn s .fabric (.greg t8 g) 0).trans (congrArg _ ?_)
      rw [if_pos rfl, tdataNext, if_neg unit]
      rfl
    obtain ⟨sent, index, shadow, memory⟩ :=
      portAnswer_effects s req .LED_TDATA .LED_TIDX (k + 1) (tdata s) t8 g (by decide : 10 < 32) (by decide : 8 ≤ 10)
    rw [value] at row sent index shadow memory
    exact Does.intro row ⟨sent, index, shadow, memory⟩
  case log =>
    have unit : req ≠ 8 := by omega
    let k := rf s .LED_WOIDX 0 3 0
    have row : exec (.writeoffLogRead req (.greg t8 g)) s = .next (portAnswer s req .LED_WODATA .LED_WOIDX 3 0 (k + 1) (wodata s) t8 g) := by
      refine (readRegRow_taken may fun s ok =>
        if ok then replyIn (wodataNext (capture s req .LED_WODATA 0 (wodata s)) req) .fabric (.greg t8 g) (byteOf (wodata s) 0)
        else replyIn s .fabric (.greg t8 g) 0).trans (congrArg _ ?_)
      rw [if_pos rfl, wodataNext, if_neg unit]
      rfl
    obtain ⟨sent, index, -, memory⟩ :=
      portAnswer_effects s req .LED_WODATA .LED_WOIDX (k + 1) (wodata s) t8 g (by decide : 3 < 32) (by decide : 0 ≤ 3)
    exact Does.intro row ⟨sent, index, memory⟩

end Sys2Proof.Proofs
end

section
/-! # Chapter 14: rows read ahead (R691, R735) -/
namespace Sys2Proof.Proofs
open Sys2Proof.Machine Sys2Proof.Laws

/-- An entry of one line, not BLANK, held by Millrace. -/
def unreadEntry : MrEntry := ⟨⟨0, 0, 0, false, []⟩, 1, 0, 0⟩

/-- Millrace enabled while a schedule runs whose latest line start took 0 for MR_ROWAHEAD, with the row of its first line there. -/
def rowlessState : State :=
  { wr (wr State.reset .MR_DOTS 0 0) .MR_STATE 0 1 with
    mr := { Mr.reset with held := [unreadEntry], running := true, rowAhead := 0 }, mover := [(0, some ⟨[], 0, 0, [], 0, false⟩)] }

/-- Of no row read ahead none lands. -/
theorem rowLanded_rowlessState : exec .millraceRowLanded rowlessState = .next rowlessState := by
  have none : nextRow rowlessState = none := by decide
  refine (liveIn_live (i := .print) (by decide) rowLanded).trans (congrArg _ ?_)
  rw [rowLanded, none]

/-- Refutes O39: the statement lets a row that has reached Millrace land whatever MR_ROWAHEAD the latest line start took (R735). Where the
state holds 0 for it, a value no line start takes, no row is asked for and none lands. -/
theorem not_millraceTakesWork : ¬ Obligations.MillraceTakesWork := by
  unfold Obligations.MillraceTakesWork
  intro holds
  obtain ⟨-, -, -, -, lands, -⟩ := holds rowlessState 0 0 (by decide)
  obtain ⟨t, row, ahead, -⟩ := lands unreadEntry [] ⟨[], 0, 0, [], 0, false⟩ rfl rfl (by decide) (by decide) rfl rfl (by decide)
  rw [rowLanded_rowlessState] at row
  cases row
  exact absurd ahead (by decide)

end Sys2Proof.Proofs
end

section
/-!
SUPPORT. What a unit's states are after they are set (R1146), what of the state an operation that only shows and reports leaves, and timers
other than the one started or withdrawn.
-/
namespace Sys2Proof.Proofs
open Sys2Proof.Machine Sys2Proof.Laws

variable {s t u : State}

/-! ## Only registers and transfers -/

/-- From `s` to `t` nothing differs but stored registers and the transfers that wait. -/
structure Shows (s t : State) : Prop where
  others : t = { s with io := t.io, xwait := t.xwait }

namespace Shows

theorem refl (s : State) : Shows s s := ⟨rfl⟩

theorem trans (h : Shows s t) (k : Shows t u) : Shows s u := ⟨k.others.trans (by rw [h.others])⟩

theorem ite (h : Shows s t) (k : Shows s u) {p : Prop} [Decidable p] : Shows s (if p then t else u) := by
  split
  · exact h
  · exact k

theorem foldl {α : Type} {f : State → α → State} {l : List α} (h : Shows s t) (hf : ∀ u x, Shows s u → Shows s (f u x)) :
    Shows s (l.foldl f t) := by
  induction l generalizing t with
  | nil => exact h
  | cons x l ih => exact ih (hf t x h)

theorem wr (h : Shows s t) (r : Rg) (i : Nat) (v : Quad) : Shows s (wr t r i v) := h.trans ⟨rfl⟩

theorem wb (h : Shows s t) (r : Rg) (i b : Nat) (x : Bool) : Shows s (wb t r i b x) := h.trans ⟨rfl⟩

theorem wf (h : Shows s t) (r : Rg) (i hi lo x : Nat) : Shows s (wf t r i hi lo x) := h.trans ⟨rfl⟩

theorem send (h : Shows s t) (c : Nat) (x : Xfer) : Shows s (send t c x) := h.trans ⟨rfl⟩

theorem count (h : Shows s t) {i : Island} (away : i ≠ .core) (code : Nat) : Shows s (count t i code) := by
  rw [count_send away]
  exact h.send _ _

theorem raise (h : Shows s t) {i : Island} (away : i ≠ .core) (src : Nat) : Shows s (raise t i src) := by
  rw [raise_send away]
  exact h.send _ _

theorem report (h : Shows s t) {i : Island} (away : i ≠ .fabric) (b src dst n : Nat) : Shows s (report t i b src dst n) := by
  unfold Machine.report
  rw [if_neg away]
  exact ite h (h.send _ _)

theorem setUnit (h : Shows s t) (u m d : Nat) : Shows s (setUnit t u m d) := by
  have shown := h.wr (unitReg u).1 (unitReg u).2 (BitVec.ofNat 32 (m + 4 * d + 16 * b01 (agreeOf m d)))
  have agreed {p : Prop} [Decidable p] (c : Nat) (x : Xfer) := ite (p := p) shown (shown.send c x)
  unfold Machine.setUnit
  dsimp only
  split
  · exact h
  · split
    · exact (agreed _ _).raise (unitIsland_ne_core u) _
    · exact agreed _ _

theorem setData (h : Shows s t) (u d : Nat) : Shows s (setData t u d) := h.setUnit u _ d

theorem setMgmt (h : Shows s t) (u m : Nat) : Shows s (setMgmt t u m) := h.setUnit u m _

theorem thr (h : Shows s t) : t.thr = s.thr := by rw [h.others]

theorem memory (h : Shows s t) : SameMemory s t := by rw [h.others]; exact SameMemory.refl s

theorem frame (h : Shows s t) : t.thr = s.thr ∧ SameMemory s t := ⟨h.thr, h.memory⟩

theorem timers (h : Shows s t) : t.timers = s.timers := by rw [h.others]

theorem timerOn (h : Shows s t) (k : Nat) : timerOn t k = timerOn s k := by rw [Machine.timerOn, h.timers, Machine.timerOn]

theorem mr (h : Shows s t) : t.mr = s.mr := by rw [h.others]

theorem pp (h : Shows s t) : t.pp = s.pp := by rw [h.others]

theorem eth (h : Shows s t) : t.eth = s.eth := by rw [h.others]

theorem kx (h : Shows s t) : t.kx = s.kx := by rw [h.others]

theorem spi (h : Shows s t) : t.spi = s.spi := by rw [h.others]

theorem nv (h : Shows s t) : t.nv = s.nv := by rw [h.others]

theorem dev (h : Shows s t) : t.dev = s.dev := by rw [h.others]

theorem slotOf (h : Shows s t) (u : Nat) : slotOf t u = slotOf s u := by rw [h.others]; rfl

end Shows

/-! ## Timers -/

theorem timers_startTimer_ne (s : State) {j k : Nat} (n : Nat) (apart : j ≠ k) :
    mget (fun _ => (none : Option Nat)) (startTimer s k n).timers j = mget (fun _ => none) s.timers j :=
  mget_mset_ne (fun _ => (none : Option Nat)) (fun _ => none) s.timers (some (s.time + n)) apart

theorem timers_startTimer (s : State) (k n : Nat) : mget (fun _ => (none : Option Nat)) (startTimer s k n).timers k = some (s.time + n) :=
  mget_mset_same (fun _ => (none : Option Nat)) s.timers k (some (s.time + n))

theorem timerOn_startTimer_ne (s : State) {j k : Nat} (n : Nat) (apart : j ≠ k) : timerOn (startTimer s k n) j = timerOn s j := by
  rw [timerOn, timers_startTimer_ne s n apart, timerOn]

/-! ## The states of a unit -/

/-- The state register after both states are set. -/
theorem setUnit_shown (s : State) (u : Nat) {m d : Nat} (change : ¬ (mgmt s u = m ∧ dstate s u = d)) :
    rd (setUnit s u m d) (unitReg u).1 (unitReg u).2 = BitVec.ofNat 32 (m + 4 * d + 16 * b01 (agreeOf m d)) := by
  unfold setUnit
  dsimp only
  rw [if_neg change]
  split
  · rw [raise_send (unitIsland_ne_core u)]
    split <;> exact rd_wr_same ..
  · split <;> exact rd_wr_same ..

theorem setUnit_states (s : State) (u : Nat) {m d : Nat} (m4 : m < 4) (d4 : d < 4) :
    mgmt (setUnit s u m d) u = m ∧ dstate (setUnit s u m d) u = d := by
  by_cases same : mgmt s u = m ∧ dstate s u = d
  · have stays : setUnit s u m d = s := by
      unfold setUnit
      exact if_pos same
    rwa [stays]
  · rw [mgmt, dstate, rf, rf, setUnit_shown s u same, fld, fld, BitVec.toNat_ofNat]
    have flag : b01 (agreeOf m d) < 2 := by cases agreeOf m d <;> decide
    omega

theorem mgmt_lt (s : State) (u : Nat) : mgmt s u < 4 := Nat.mod_lt _ (by decide)

theorem dstate_lt (s : State) (u : Nat) : dstate s u < 4 := Nat.mod_lt _ (by decide)

theorem dstate_setData (s : State) (u : Nat) {d : Nat} (d4 : d < 4) : dstate (setData s u d) u = d := (setUnit_states s u (mgmt_lt s u) d4).2

theorem mgmt_setData (s : State) (u : Nat) {d : Nat} (d4 : d < 4) : mgmt (setData s u d) u = mgmt s u := (setUnit_states s u (mgmt_lt s u) d4).1

theorem mgmt_setMgmt (s : State) (u : Nat) {m : Nat} (m4 : m < 4) : mgmt (setMgmt s u m) u = m := (setUnit_states s u m4 (dstate_lt s u)).1

theorem dstate_setMgmt (s : State) (u : Nat) {m : Nat} (m4 : m < 4) : dstate (setMgmt s u m) u = dstate s u :=
  (setUnit_states s u m4 (dstate_lt s u)).2

/-- A register that is no unit's state register is left by the setting of one. -/
theorem rd_setUnit_ne (s : State) (u m d : Nat) {r : Rg} {i : Nat} (apart : regAddr r i ≠ regAddr (unitReg u).1 (unitReg u).2) :
    rd (setUnit s u m d) r i = rd s r i :=
  ((Keeps.refl (A := At r i) s).setUnit (fun same => apart same.symm) m d).rd rfl

namespace Keeps

variable {A : Nat → Prop}

theorem setData (h : Keeps A s t) {u : Nat} (apart : ¬ A (regAddr (unitReg u).1 (unitReg u).2)) (d : Nat) : Keeps A s (setData t u d) :=
  h.setUnit apart _ d

theorem setMgmt (h : Keeps A s t) {u : Nat} (apart : ¬ A (regAddr (unitReg u).1 (unitReg u).2)) (m : Nat) : Keeps A s (setMgmt t u m) :=
  h.setUnit apart m _

/-- Every register left as it is: the map of stored registers is read alike. -/
theorem weaken {B : Nat → Prop} (h : Keeps A s t) (sub : ∀ a, B a → A a) : Keeps B s t :=
  ⟨h.thr, h.memory, h.time, h.cycles, fun d a inside => h.io d a (sub a inside)⟩

end Keeps

end Sys2Proof.Proofs
end

section
/-!
SUPPORT. What Millrace does between lines on its own account (R691, R692, R694): it computes the next line, shifts its pattern, asks for rows,
and gives up entries whose row was refused. No stored register and no line in progress differs.
-/
namespace Sys2Proof.Proofs
open Sys2Proof.Machine Sys2Proof.Laws

variable {s t u : State}

/-- From `s` to `t` Millrace has only looked ahead: of its own state the next line, the rows and the entries may differ, beside it only
transfers, the movers of entries and the shift's timer. -/
structure LooksAhead (s t : State) : Prop where
  others : t = { s with xwait := t.xwait, mover := t.mover, timers := t.timers, armed := t.armed, mr := t.mr }
  mr : t.mr = { s.mr with
    held := t.mr.held, ahead := t.mr.ahead, next := t.mr.next, nextShifted := t.mr.nextShifted, nextRan := t.mr.nextRan,
    nextHoff := t.mr.nextHoff, rate := t.mr.rate, req := t.mr.req }
  timers : ∀ k, k ≠ tmrShift → mget (fun _ => (none : Option Nat)) t.timers k = mget (fun _ => none) s.timers k

namespace LooksAhead

theorem refl (s : State) : LooksAhead s s := ⟨rfl, rfl, fun _ _ => rfl⟩

theorem trans (h : LooksAhead s t) (k : LooksAhead t u) : LooksAhead s u where
  others := k.others.trans (by rw [h.others])
  mr := k.mr.trans (by rw [h.mr])
  timers j other := (k.timers j other).trans (h.timers j other)

theorem ite (h : LooksAhead s t) (k : LooksAhead s u) {p : Prop} [Decidable p] : LooksAhead s (if p then t else u) := by
  split
  · exact h
  · exact k

theorem foldl {α : Type} {f : State → α → State} {l : List α} (h : LooksAhead s t) (hf : ∀ u x, LooksAhead s u → LooksAhead s (f u x)) :
    LooksAhead s (l.foldl f t) := by
  induction l generalizing t with
  | nil => exact h
  | cons x l ih => exact ih (hf t x h)

theorem send (h : LooksAhead s t) (c : Nat) (x : Xfer) : LooksAhead s (send t c x) := h.trans ⟨rfl, rfl, fun _ _ => rfl⟩

theorem raise (h : LooksAhead s t) (src : Nat) : LooksAhead s (raise t .print src) := by
  rw [raise_send (by decide)]
  exact h.send _ _

theorem setMover (h : LooksAhead s t) (c i : Nat) (x : Option Mover) : LooksAhead s (setMover t c i x) := h.trans ⟨rfl, rfl, fun _ _ => rfl⟩

theorem moverAsk (h : LooksAhead s t) (c i : Nat) : LooksAhead s (moverAsk t c i) := by
  unfold Machine.moverAsk
  split
  · exact h
  · dsimp only
    exact ite h ((h.setMover c i _).foldl fun _ _ hu => hu.send _ _)

theorem unitComplete (h : LooksAhead s t) (c idx status done cflags : Nat) : LooksAhead s (unitComplete t .print c idx status done cflags) :=
  (h.setMover _ _ _).send _ _

/-- A change of the next line, the rows, the entries or the line request. -/
theorem setMr (h : LooksAhead s t) (m : Mr)
    (same : m = { t.mr with
      held := m.held, ahead := m.ahead, next := m.next, nextShifted := m.nextShifted, nextRan := m.nextRan, nextHoff := m.nextHoff, rate := m.rate,
      req := m.req }) : LooksAhead s (setMr t m) := h.trans ⟨rfl, same, fun _ _ => rfl⟩

theorem shiftStart (h : LooksAhead s t) : LooksAhead s (shiftStart t) :=
  (h.setMr { t.mr with rate := if settingsHeld t then t.mr.rate else shRate t } rfl).trans
    ⟨rfl, rfl, fun _ other => timers_startTimer_ne _ _ other⟩

theorem mrReq (h : LooksAhead s t) : LooksAhead s (mrReq t) := by
  have asked := h.setMr { t.mr with req := reqLevel t } rfl
  exact ite (asked.raise 64) asked

theorem prepareOnce (h : LooksAhead s t) : LooksAhead s (prepareOnce t) := by
  unfold Machine.prepareOnce
  dsimp only
  split
  · exact h
  · split
    · exact h
    · exact h.setMr _ rfl
    · exact h
    · split
      · exact h
      · split
        · exact h.setMr _ rfl
        · exact (h.setMr _ rfl).shiftStart
    · split
      · exact h
      · split
        · exact ((h.setMr _ rfl).unitComplete ..).mrReq
        · exact h

theorem rowAsk (h : LooksAhead s t) : LooksAhead s (rowAsk t) := by
  unfold Machine.rowAsk
  split
  · exact h
  · split
    · exact (h.setMover ..).moverAsk _ _
    · exact h.moverAsk _ _

theorem prepareNext (h : LooksAhead s t) : LooksAhead s (prepareNext t) := (h.foldl fun _ _ hu => hu.prepareOnce).rowAsk

theorem redoNext (h : LooksAhead s t) : LooksAhead s (redoNext t) := ite (h.setMr _ rfl).prepareNext h

/-! ## What stays -/

theorem io (h : LooksAhead s t) : t.io = s.io := by rw [h.others]

theorem keeps {A : Nat → Prop} (h : LooksAhead s t) : Keeps A s t := by
  refine ⟨by rw [h.others], ?_, by rw [h.others], by rw [h.others], fun d a _ => by rw [h.io]⟩
  rw [h.others]
  exact SameMemory.refl s

theorem timerOn (h : LooksAhead s t) {k : Nat} (other : k ≠ tmrShift) : timerOn t k = timerOn s k := by
  rw [Machine.timerOn, h.timers k other, Machine.timerOn]

theorem running (h : LooksAhead s t) : t.mr.running = s.mr.running := by rw [h.mr]

theorem line (h : LooksAhead s t) : t.mr.line = s.mr.line := by rw [h.mr]

theorem drawn (h : LooksAhead s t) : t.mr.drawn = s.mr.drawn := by rw [h.mr]

theorem avail (h : LooksAhead s t) : t.mr.avail = s.mr.avail := by rw [h.mr]

theorem strobeAt (h : LooksAhead s t) : t.mr.strobeAt = s.mr.strobeAt := by rw [h.mr]

theorem aPrev (h : LooksAhead s t) : t.mr.aPrev = s.mr.aPrev := by rw [h.mr]

end LooksAhead

end Sys2Proof.Proofs
end

section
/-! # Chapter 14: the start of a line (R694, R709) -/
namespace Sys2Proof.Proofs
open Sys2Proof.Machine Sys2Proof.Laws

variable {s t u : State} {A : Nat → Prop}

/-! ## What a line's start shows -/

/-- The registers that a line's start writes. -/
def startRegs : List Rg := [.MR_LATEACC, .MR_STAT, .MR_TEMP, .MR_VHEAD, .MR_KT, .MR_KV, .MR_K, .MR_HOFF, .MR_DRAW]

theorem Shows.countLate (h : Shows s t) : Shows s (countLate t) := by
  have late := h.count (i := .print) (by decide) 0x38
  unfold Machine.countLate
  dsimp only
  split
  · exact h
  · split
    · exact ite (late.count (by decide) _) late
    · exact late

theorem Keeps.countLate (h : Keeps A s t) : Keeps A s (countLate t) := by
  have late := h.count (i := .print) (by decide) 0x38
  unfold Machine.countLate
  dsimp only
  split
  · exact h
  · split
    · exact ite (late.count (by decide) _) late
    · exact late

theorem Shows.lateAcc (h : Shows s t) : Shows s (lateAcc t) :=
  ite (((h.wr ..).count (by decide) _).raise (by decide) _) (h.wr ..)

theorem Keeps.lateAcc (h : Keeps A s t) (apart : ¬ A (regAddr .MR_LATEACC 0)) : Keeps A s (lateAcc t) :=
  ite (((h.wr apart _).count (by decide) _).raise (by decide) _) (h.wr apart _)

theorem Shows.headLimits (h : Shows s t) (x : Int) : Shows s (headLimits t x) := by
  have slow : Shows s _ := ite (p := rb t .MR_STAT 0 4 = false ∧ 4 * signedOf 8 (rn t .MR_TSLOW 0) ≤ x)
    (((h.wb .MR_STAT 0 4 true).count (i := .print) (by decide) 0x3C).raise (i := .print) (by decide) 65)
    (ite (p := rb t .MR_STAT 0 4 = true ∧ x ≤ 4 * signedOf 8 (rn t .MR_TSLOW 0) - headHyst t)
      ((h.wb .MR_STAT 0 4 false).raise (i := .print) (by decide) 65) h)
  exact ite (((slow.wb ..).count (by decide) _).raise (by decide) _) slow

theorem Keeps.headLimits (h : Keeps A s t) (apart : ¬ A (regAddr .MR_STAT 0)) (x : Int) : Keeps A s (headLimits t x) := by
  have slow : Keeps A s _ := ite (p := Machine.rb t .MR_STAT 0 4 = false ∧ 4 * signedOf 8 (Machine.rn t .MR_TSLOW 0) ≤ x)
    (((h.wb apart 4 true).count (i := .print) (by decide) 0x3C).raise (i := .print) (by decide) 65)
    (ite (p := Machine.rb t .MR_STAT 0 4 = true ∧ x ≤ 4 * signedOf 8 (Machine.rn t .MR_TSLOW 0) - headHyst t)
      ((h.wb apart 4 false).raise (i := .print) (by decide) 65) h)
  exact ite (((slow.wb apart ..).count (by decide) _).raise (by decide) _) slow

theorem Shows.showStart (h : Shows s t) (x : Int) (v hoff draw : Nat) : Shows s (showStart t x v hoff draw) :=
  ((((((h.wr ..).wr ..).wr ..).wr ..).wr ..).wr ..).wr ..

theorem Keeps.showStart (h : Keeps A s t) (apart : ∀ r ∈ startRegs, ¬ A (regAddr r 0)) (x : Int) (v hoff draw : Nat) :
    Keeps A s (showStart t x v hoff draw) :=
  ((((((h.wr (apart .MR_TEMP (by decide)) _).wr (apart .MR_VHEAD (by decide)) _).wr (apart .MR_KT (by decide)) _).wr (apart .MR_KV (by decide)) _).wr
    (apart .MR_K (by decide)) _).wr (apart .MR_HOFF (by decide)) _).wr (apart .MR_DRAW (by decide)) _

/-- A draw that no register gives is a free value. -/
theorem drawOf_state (s : State) (v : Nat) : (drawOf s v).2 = s ∨ (drawOf s v).2 = { s with fresh := s.fresh + 1 } := by
  unfold drawOf
  dsimp only
  split
  · exact .inr rfl
  · exact .inl rfl

/-! ## The line in progress stays -/

/-- Of Millrace: whether a schedule runs, the latest line's start, and which entry's line it is and whether it is BLANK. -/
def lineCore (s : State) : Bool × Nat × Option (Nat × Bool) := (s.mr.running, s.mr.aPrev, s.mr.line.map fun l => (l.idx, l.blank))

/-- From `s` to `t` the schedule and its latest line stay, with the unit's states. -/
structure LineStays (s t : State) : Prop where
  keeps : Keeps (At .MR_STATE 0) s t
  core : lineCore t = lineCore s

namespace LineStays

theorem refl (s : State) : LineStays s s := ⟨Keeps.refl s, rfl⟩

theorem trans (h : LineStays s t) (k : LineStays t u) : LineStays s u := ⟨h.keeps.trans k.keeps, k.core.trans h.core⟩

theorem ite (h : LineStays s t) (k : LineStays s u) {p : Prop} [Decidable p] : LineStays s (if p then t else u) := by
  split
  · exact h
  · exact k

theorem looks (h : LineStays s t) (k : LooksAhead t u) : LineStays s u :=
  h.trans ⟨k.keeps, by rw [lineCore, k.running, k.aPrev, k.line, lineCore]⟩

theorem same (h : LineStays s t) (keeps : Keeps (At .MR_STATE 0) t u) (mr : u.mr = t.mr) : LineStays s u :=
  h.trans ⟨keeps, by rw [lineCore, mr, lineCore]⟩

end LineStays

theorem Keeps.adcStart (h : Keeps A s t) : Keeps A s (adcStart t) := by
  unfold Machine.adcStart
  split
  · exact h.part rfl
  · exact h

theorem Keeps.adcRequest (h : Keeps A s t) (level input : Nat) (who : AdcWho) : Keeps A s (adcRequest t level input who) := by
  have asked : Keeps A s { t with pp := { t.pp with adcWait := t.pp.adcWait ++ [⟨level, input, who, t.cycles⟩] } } := h.part rfl
  exact asked.adcStart

theorem adcStart_mr (s : State) : (adcStart s).mr = s.mr := by
  unfold adcStart
  split <;> rfl

theorem headPair_mr (s : State) : (headPair s).mr = s.mr := by
  rw [headPair, adcRequest, adcStart_mr]
  exact adcStart_mr _

theorem Keeps.headPair (h : Keeps A s t) : Keeps A s (headPair t) := (h.adcRequest ..).adcRequest ..

/-! ## The end of a line (R694 step 6) -/

/-- Line `l` when it has ended. -/
def endedLine (s : State) (l : MrLine) : MrLine := { l with stage := .ended, strobes := [], endAt := s.time }

/-- The entries with one more line of `l`'s done. -/
def heldDone (s : State) (l : MrLine) : List MrEntry := s.mr.held.map fun e => if e.e.idx = l.idx then { e with done := e.done + 1 } else e

/-- AVAIL is retired, the line has ended and its entry counts it. -/
def lineClosed (s : State) (l : MrLine) : State :=
  let t := setMr (retireTokens s) { (retireTokens s).mr with line := some (endedLine s l), held := heldDone s l }
  if l.blank then t else wr t .MR_LINES 0 (rd t .MR_LINES 0 + 1)

/-- Entry `e` is the one of line `l`, and all its lines are done. -/
def entryFull (l : MrLine) (e : MrEntry) : Bool := e.e.idx == l.idx && e.done == e.lines

/-- The entries whose lines are all done complete. -/
def entriesDone (s : State) (l : MrLine) : State :=
  (s.mr.held.filter (entryFull l)).foldl (fun s e => unitComplete s .print s.mr.chan e.e.idx 0 e.done 0)
    (setMr s { s.mr with held := s.mr.held.filter fun e => !(entryFull l e) })

theorem lineEnd_eq {l : MrLine} (line : s.mr.line = some l) :
    lineEnd s = prepareNext (headIdle (mrReq (entriesDone (lineClosed s l) l))) := by
  have time : (retireTokens s).time = s.time := ((Keeps.refl (A := Nowhere) s).report (i := .print) (by decide) 20 2 1 s.mr.avail).time
  unfold lineEnd
  rw [line]
  dsimp only
  rw [time]
  rfl

theorem LooksAhead.entriesDone (h : LooksAhead s t) (l : MrLine) : LooksAhead s (entriesDone t l) :=
  (h.setMr _ (by rfl)).foldl fun _ _ hu => hu.unitComplete ..

theorem Keeps.retireTokens (h : Keeps A s t) : Keeps A s (retireTokens t) := by
  have reported := h.report (i := .print) (by decide) 20 2 1 t.mr.avail
  exact reported.part rfl

theorem Keeps.lineClosed (h : Keeps A s t) (apart : ¬ A (regAddr .MR_LINES 0)) (l : MrLine) : Keeps A s (lineClosed t l) :=
  ite (h.retireTokens.setMr _) ((h.retireTokens.setMr _).wr apart _)

theorem lineClosed_mr (s : State) (l : MrLine) :
    (lineClosed s l).mr = { s.mr with avail := 0, grant := 0, line := some (endedLine s l), held := heldDone s l } := by
  unfold lineClosed
  dsimp only
  split <;> rfl

theorem headIdle_running (running : s.mr.running = true) : headIdle s = s := by
  rw [headIdle, running]
  rfl

/-- The end of the line's own printing leaves the schedule and which line it is. -/
theorem lineEnd_stays {l : MrLine} (line : s.mr.line = some l) (running : s.mr.running = true) : LineStays s (lineEnd s) := by
  have closed : LineStays s (lineClosed s l) := ⟨(Keeps.refl s).lineClosed (by decide) l, by rw [lineCore, lineClosed_mr, lineCore, line]; rfl⟩
  have asked : LooksAhead (lineClosed s l) (mrReq (entriesDone (lineClosed s l) l)) := ((LooksAhead.refl _).entriesDone l).mrReq
  have runs : (mrReq (entriesDone (lineClosed s l) l)).mr.running = true := by rw [asked.running, lineClosed_mr, running]
  rw [lineEnd_eq line, headIdle_running runs]
  exact closed.looks asked.prepareNext

end Sys2Proof.Proofs
end

section
/-! # Chapter 14: a ready line starts (R694, R709) -/
namespace Sys2Proof.Proofs
open Sys2Proof.Machine Sys2Proof.Laws

variable {s t u : State} {A : Nat → Prop}

/-! ## The feeder takes the line's half-steps -/

/-- The registers that tell whether the cutter's interlock is closed (R781). -/
abbrev InterlockAddr : Nat → Prop := fun a => a = regAddr .PP_CSTATE 0 ∨ a = regAddr .PP_FSAFE 0

theorem feedLocked_kept (h : Keeps InterlockAddr s t) : feedLocked t = feedLocked s := by
  rw [feedLocked, h.dstate (u := 2) (.inl rfl), h.rb (.inr rfl), feedLocked]

theorem Shows.feedShow (h : Shows s t) : Shows s (feedShow t) := by
  have shown (n : Nat) (x : Bool) := ((h.wr .PP_PEND 0 (BitVec.ofNat 32 (feedPend t % 2 ^ 20))).wf .PP_MOVESTAT 0 2 0 n).wb .PP_FSTAT 0 5 x
  exact ite ((shown _ _).setData _ _) (shown _ _)

/-- The registers that show the feeder. -/
def feedRegs : List Rg := [.PP_PEND, .PP_MOVESTAT, .PP_FSTAT, .PP_FSTATE]

theorem Keeps.feedShow (h : Keeps A s t) (apart : ∀ r ∈ feedRegs, ¬ A (regAddr r 0)) : Keeps A s (feedShow t) := by
  have shown (n : Nat) (x : Bool) := ((h.wr (apart .PP_PEND (by decide)) (BitVec.ofNat 32 (feedPend t % 2 ^ 20))).wf
    (apart .PP_MOVESTAT (by decide)) 2 0 n).wb (apart .PP_FSTAT (by decide)) 5 x
  exact ite ((shown _ _).setData (u := 1) (apart .PP_FSTATE (by decide)) _) (shown _ _)

/-- The state with a segment of half-steps queued, before the interlock is looked at. -/
def segQueued (s : State) (g : Seg) : State :=
  feedShow (setFd (report s .print 21 0 3 g.count) { s.pp.feed with segs := s.pp.feed.segs ++ [g] })

theorem Keeps.segQueued (h : Keeps A s t) (apart : ∀ r ∈ feedRegs, ¬ A (regAddr r 0)) (g : Seg) : Keeps A s (segQueued t g) :=
  ((h.report (by decide) 21 0 3 g.count).setFd _).feedShow apart

/-- Half-steps that the interlock does not forbid are queued. -/
theorem feedAccept_queued (unlocked : feedLocked s = false) (g : Seg) : feedAccept s g = if g.count = 0 then s else segQueued s g := by
  have free : feedLocked (segQueued s g) = false :=
    (feedLocked_kept ((Keeps.refl s).segQueued (by decide) g)).trans unlocked
  unfold feedAccept
  split
  · rfl
  · refine if_neg ?_
    rw [← segQueued, free]
    exact Bool.false_ne_true

theorem segQueued_mr (s : State) (g : Seg) : (segQueued s g).mr = s.mr := by
  have shown : Shows (setFd (report s .print 21 0 3 g.count) { s.pp.feed with segs := s.pp.feed.segs ++ [g] }) (segQueued s g) :=
    (Shows.refl _).feedShow
  have reported : Shows s (report s .print 21 0 3 g.count) := (Shows.refl s).report (by decide) _ _ _ _
  exact shown.mr.trans reported.mr

theorem feedLine_stays (unlocked : feedLocked s = false) (a q : Nat) : LineStays s (feedLine s a q) := by
  rw [feedLine, feedAccept_queued unlocked]
  exact .ite (LineStays.refl s) ((LineStays.refl s).same ((Keeps.refl s).segQueued (by decide) _) (segQueued_mr _ _))

/-! ## The start itself -/

/-- The line that starts is entered, its state is ACTIVE and the request level is looked at. -/
def lineEntered (s : State) (i : Nat) (e : MrEntry) (l : MrLine) (p q : Nat) : State :=
  mrReq (setData (enterLine (stopTimer s tmrHeadAdc) i e l p q) 0 1)

theorem lineEntered_core (s : State) (i : Nat) (e : MrEntry) (l : MrLine) (p q : Nat) :
    lineCore (lineEntered s i e l p q) = (true, s.time, some (l.idx, l.blank)) ∧ dstate (lineEntered s i e l p q) 0 = 1 := by
  let t := enterLine (stopTimer s tmrHeadAdc) i e l p q
  have shown : Shows t (setData t 0 1) := (Shows.refl t).setData 0 1
  have asked : LooksAhead (setData t 0 1) (lineEntered s i e l p q) := (LooksAhead.refl _).mrReq
  refine ⟨?_, ?_⟩
  · rw [lineCore, asked.running, asked.aPrev, asked.line, shown.mr]
    rfl
  · exact (asked.keeps (A := At .MR_STATE 0)).dstate (u := 0) rfl |>.trans (dstate_setData t 0 (by decide))

theorem Keeps.lineEntered (h : Keeps A s t) (apart : ¬ A (regAddr .MR_STATE 0)) (i : Nat) (e : MrEntry) (l : MrLine) (p q : Nat) :
    Keeps A s (lineEntered t i e l p q) := by
  have entered : Keeps A s (enterLine (Machine.stopTimer t tmrHeadAdc) i e l p q) := (h.stopTimer tmrHeadAdc).part rfl
  exact (entered.setData (u := 0) apart 1).trans ((LooksAhead.refl _).mrReq).keeps

/-- What follows the entry of a line: its conversions, its tokens, its half-steps and, where nothing of it is to fire, its end. -/
def lineGoes (s : State) (l : MrLine) (pats : List (List Bool)) (a q : Nat) : State :=
  let s5 := headPair s
  let s6 := if l.blank then s5
    else report (setMr s5 { s5.mr with avail := rn s5 .MR_TOKPOOL 0, grant := rn s5 .MR_TOKPOOL 0 }) .print 20 0 2 (rn s5 .MR_TOKPOOL 0)
  let s7 := feedLine s6 a q
  rowAsk (if s7.mr.line = some l ∧ dstate s7 0 = 1 ∧ (l.blank ∨ pats.all patEmpty) then lineEnd s7 else s7)

theorem lineGoes_stays (unlocked : feedLocked s = false) (running : s.mr.running = true) (l : MrLine) (pats : List (List Bool)) (a q : Nat) :
    LineStays s (lineGoes s l pats a q) := by
  unfold lineGoes
  extract_lets s5 m s6 s7
  have pair : LineStays s s5 := (LineStays.refl s).same (Keeps.refl s).headPair (headPair_mr s)
  have tokens : LineStays s s6 := by
    refine .ite pair (pair.trans ⟨Keeps.report (i := .print) (Keeps.setMr (Keeps.refl s5) _) (by decide) .., ?_⟩)
    exact congrArg (fun m : Mr => (m.running, m.aPrev, m.line.map fun l => (l.idx, l.blank)))
      ((Shows.refl (setMr s5 _)).report (i := .print) (by decide) 20 0 2 (rn s5 .MR_TOKPOOL 0)).mr
  have interlock : Keeps InterlockAddr s s6 :=
    .ite (Keeps.refl s).headPair (((Keeps.refl s).headPair.setMr _).report (i := .print) (by decide) ..)
  have fed : LineStays s s7 := tokens.trans (feedLine_stays ((feedLocked_kept interlock).trans unlocked) a q)
  have runs : s7.mr.running = true := (congrArg (fun c => c.1) fed.core).trans running
  refine LineStays.looks ?_ (LooksAhead.refl _).rowAsk
  split
  next goes => exact fed.trans (lineEnd_stays goes.1 runs)
  · exact fed

/-- The addresses of registers that no line's start shows. -/
abbrev NotStartAddr : Nat → Prop := fun a => ∀ r ∈ startRegs, a ≠ regAddr r 0

/-- A start enters the line of the entry that it is given, after it has shown its readings. -/
theorem startLine_goes (s : State) (i : Nat) (e : MrEntry) (pats : List (List Bool)) : ∃ u l p q, Keeps NotStartAddr s u ∧ u.mr = s.mr ∧
    l.idx = e.e.idx ∧ l.blank = isBlank e ∧ startLine s i e pats = lineGoes (lineEntered u i e l p q) l pats s.time q := by
  let x := headTemp s
  let v := headVolts s
  let s1 := headLimits (lateAcc (countLate s)) x
  let d := drawOf s1 v
  let s3 := showStart d.2 x v s.mr.nextHoff d.1
  have apart (r : Rg) (shown : r ∈ startRegs) : ¬ NotStartAddr (regAddr r 0) := fun inside => inside r shown rfl
  have shows1 : Shows s s1 := (Shows.refl s).countLate.lateAcc.headLimits x
  have keeps1 : Keeps NotStartAddr s s1 :=
    (((Keeps.refl s).countLate).lateAcc (apart .MR_LATEACC (by decide))).headLimits (apart .MR_STAT (by decide)) x
  have drawn : Keeps NotStartAddr s d.2 ∧ d.2.mr = s.mr := by
    rcases drawOf_state s1 v with same | free
    · exact ⟨keeps1.of_eq same.symm, (congrArg State.mr same).trans shows1.mr⟩
    · exact ⟨(keeps1.drawFree _).of_eq free.symm, (congrArg State.mr free).trans shows1.mr⟩
  have shown : Shows d.2 s3 := (Shows.refl _).showStart ..
  exact ⟨s3, newLine s3 e pats (rn s3 .MR_K 0) d.1, headPeriod s1, headPlan s1 (headPeriod s1) (rn s1 .MR_LATEACC 0),
    drawn.1.showStart apart .., shown.mr.trans drawn.2, rfl, rfl, rfl⟩

theorem startLine_effects (unlocked : feedLocked s = false) (i : Nat) (e : MrEntry) (pats : List (List Bool)) :
    lineCore (startLine s i e pats) = (true, s.time, some (e.e.idx, isBlank e)) ∧ dstate (startLine s i e pats) 0 = 1 ∧
      Keeps Nowhere s (startLine s i e pats) := by
  obtain ⟨u, l, p, q, shown, mr, idx, blank, goes⟩ := startLine_goes s i e pats
  have entered : Keeps InterlockAddr s (lineEntered u i e l p q) :=
    (shown.weaken fun a inside => by rcases inside with rfl | rfl <;> decide).lineEntered (by decide) i e l p q
  obtain ⟨core, active⟩ := lineEntered_core u i e l p q
  have stays := lineGoes_stays ((feedLocked_kept entered).trans unlocked) (congrArg (fun c => c.1) core) l pats s.time q
  rw [goes]
  refine ⟨stays.core.trans ?_, (stays.keeps.dstate (u := 0) rfl).trans active,
    (entered.weaken fun _ => False.elim).trans (stays.keeps.weaken fun _ => False.elim)⟩
  rw [core, shown.time, idx, blank]

/-- A state that shows the head's readings and its unit's state only. -/
theorem headClears_idle (hot : rb s .MR_STAT 0 5 = false) (hold : rb s .MR_STAT 0 6 = false) : headClears s = headIdle s := by
  unfold headClears
  dsimp only
  rw [hot, Bool.false_and, if_neg Bool.false_ne_true, hold, Bool.false_and, Bool.false_and, if_neg Bool.false_ne_true]

theorem Shows.headIdle (h : Shows s t) : Shows s (headIdle t) := ite h (h.setData 0 0)

theorem Keeps.headIdle (h : Keeps A s t) (apart : ¬ A (regAddr .MR_STATE 0)) : Keeps A s (headIdle t) := ite h (h.setData (u := 0) apart 0)

/-- The addresses other than that of the head's states. -/
abbrev NotHeadState : Nat → Prop := fun a => a ≠ regAddr .MR_STATE 0

/-- What lets the ready line start (R709, R718, R719, R729). -/
structure Startable (s : State) : Prop where
  runs : headRuns s = true
  ready : lineReady s = true
  powered : s.mr.powered = true
  due : if s.mr.running then s.mr.aPrev + s.mr.qPrev ≤ s.time else s.mr.pairOk = true
  fed : feedOk s = true
  cool : rb s .MR_STAT 0 5 = false
  steady : rb s .MR_STAT 0 6 = false
  least : rn s .MR_VMIN 0 ≤ headVolts s
  most : headVolts s ≤ rn s .MR_VMAX 0

/-- The state in which the line starts: readings of temperature and voltage shown. -/
def readingsShown (s : State) : State :=
  wr (wr (headIdle s) .MR_TEMP 0 (BitVec.ofNat 32 (headTemp (headIdle s) % 65536).toNat)) .MR_VHEAD 0
    (BitVec.ofNat 32 (headVolts (headIdle s) % 65536))

theorem readingsShown_mr (s : State) : (readingsShown s).mr = s.mr := ((((Shows.refl s).headIdle).wr ..).wr ..).mr

theorem lineStart_starts (may : Startable s) {i j : Nat} {b : Bool} {more : List (Nat × Nat × Bool)} {e : MrEntry}
    (first : toCome s = (i, j, b) :: more) (held : s.mr.held[i]? = some e) : ∃ pats, lineStart s = startLine (readingsShown s) i e pats := by
  have idle : Keeps NotHeadState s (headIdle s) := (Keeps.refl s).headIdle (fun inside => inside rfl)
  have mr := readingsShown_mr s
  have limit {r : Rg} (apart : regAddr r 0 ≠ regAddr .MR_STATE 0) : rd (headIdle s) r 0 = rd s r 0 := idle.rd apart
  have volts : headVolts (headIdle s) = headVolts s := by
    rw [headVolts, ((Shows.refl s).headIdle).mr, rn, limit (by decide), headVolts, rn]
  have inside : decide (headVolts (headIdle s) < rn (headIdle s) .MR_VMIN 0 ∨ rn (headIdle s) .MR_VMAX 0 < headVolts (headIdle s)) = false := by
    have least := may.least
    have most := may.most
    rw [rn] at least most
    rw [volts, rn, rn, limit (by decide), limit (by decide)]
    exact decide_eq_false (by omega)
  have stat : rd (readingsShown s) .MR_STAT 0 = rd s .MR_STAT 0 := by
    rw [readingsShown, rd_wr_ne _ _ _ _ _ _ (by decide), rd_wr_ne _ _ _ _ _ _ (by decide), limit (by decide)]
  have cool : (rb (readingsShown s) .MR_STAT 0 5 || rb (readingsShown s) .MR_STAT 0 6) = false := by
    rw [rb_congr stat, rb_congr stat, may.cool, may.steady]
    rfl
  have coming : toCome (readingsShown s) = (i, j, b) :: more := by rw [toCome, mr, ← first, toCome]
  have ready := may.ready
  rw [lineReady, Bool.and_eq_true, Bool.and_eq_true] at ready
  obtain ⟨pats, next⟩ := Option.isSome_iff_exists.1 ready.1.2
  refine ⟨pats, ?_⟩
  have accepts : ¬ (headRuns s = false ∨ lineReady s = false ∨ s.mr.powered = false) := by
    rw [may.runs, may.ready, may.powered]
    simp
  have due : ¬ (s.mr.running = true ∧ s.time < s.mr.aPrev + s.mr.qPrev) := by
    rintro ⟨running, early⟩
    have late := may.due
    rw [running, if_pos rfl] at late
    omega
  have paired : ¬ (s.mr.running = false ∧ s.mr.pairOk = false) := by
    rintro ⟨running, none⟩
    have pair := may.due
    rw [running, if_neg Bool.false_ne_true, none] at pair
    exact Bool.false_ne_true pair
  have fed : ¬ feedOk s = false := by
    rw [may.fed]
    exact Bool.false_ne_true.symm
  unfold lineStart
  dsimp only
  rw [if_neg accepts, if_neg due, if_neg paired, if_neg fed, headClears_idle may.cool may.steady, inside, Bool.false_and, if_neg Bool.false_ne_true,
    ← readingsShown, cool, if_neg Bool.false_ne_true, coming, mr, next]
  dsimp only
  rw [held]

end Sys2Proof.Proofs
end

section
/-!
SUPPORT. Millrace's work cut short (R726, R727, R729): the entries complete, the tokens return, and nothing but Millrace, its registers, timers
and transfers differs.
-/
namespace Sys2Proof.Proofs
open Sys2Proof.Machine Sys2Proof.Laws

variable {s t u : State} {A : Nat → Prop}

/-- From `s` to `t` nothing differs but Millrace's state, stored registers, transfers, the movers of entries and timers. -/
structure HeadOnly (s t : State) : Prop where
  others : t = { s with io := t.io, xwait := t.xwait, mover := t.mover, timers := t.timers, armed := t.armed, mr := t.mr }

namespace HeadOnly

theorem refl (s : State) : HeadOnly s s := ⟨rfl⟩

theorem trans (h : HeadOnly s t) (k : HeadOnly t u) : HeadOnly s u := ⟨k.others.trans (by rw [h.others])⟩

theorem ite (h : HeadOnly s t) (k : HeadOnly s u) {p : Prop} [Decidable p] : HeadOnly s (if p then t else u) := by
  split
  · exact h
  · exact k

theorem foldl {α : Type} {f : State → α → State} {l : List α} (h : HeadOnly s t) (hf : ∀ u x, HeadOnly s u → HeadOnly s (f u x)) :
    HeadOnly s (l.foldl f t) := by
  induction l generalizing t with
  | nil => exact h
  | cons x l ih => exact ih (hf t x h)

theorem shows (h : HeadOnly s t) (k : Shows t u) : HeadOnly s u := h.trans ⟨by rw [k.others]⟩

theorem looks (h : HeadOnly s t) (k : LooksAhead t u) : HeadOnly s u := h.trans ⟨by rw [k.others]⟩

theorem setMr (h : HeadOnly s t) (m : Mr) : HeadOnly s (setMr t m) := h.trans ⟨rfl⟩

theorem startTimer (h : HeadOnly s t) (k n : Nat) : HeadOnly s (startTimer t k n) := h.trans ⟨rfl⟩

theorem stopTimer (h : HeadOnly s t) (k : Nat) : HeadOnly s (stopTimer t k) := h.trans ⟨rfl⟩

theorem unitComplete (h : HeadOnly s t) (i : Island) (c idx status done cflags : Nat) : HeadOnly s (unitComplete t i c idx status done cflags) :=
  h.trans ⟨rfl⟩

theorem dev (h : HeadOnly s t) : t.dev = s.dev := by rw [h.others]

theorem pp (h : HeadOnly s t) : t.pp = s.pp := by rw [h.others]

theorem retireTokens (h : HeadOnly s t) : HeadOnly s (retireTokens t) :=
  (h.shows ((Shows.refl t).report (i := .print) (by decide) 20 2 1 t.mr.avail)).setMr _

theorem returnTokens (h : HeadOnly s t) : HeadOnly s (returnTokens t) :=
  (h.shows ((Shows.refl t).report (i := .print) (by decide) 20 3 2 t.mr.drawn)).setMr _

theorem headPower (h : HeadOnly s t) : HeadOnly s (headPower t) := by
  have shown (x : Bool) := (h.shows ((Shows.refl t).wb .MR_STAT 0 7 x)).setMr { t.mr with powered := false }
  exact ite h (ite ((shown _).startTimer _ _) ((shown _).stopTimer _))

end HeadOnly

/-! ## The head dropped (R726) -/

theorem Keeps.returnTokens (h : Keeps A s t) : Keeps A s (returnTokens t) := by
  have reported := h.report (i := .print) (by decide) 20 3 2 t.mr.drawn
  exact reported.part rfl

/-- Every held entry completes. -/
def entriesDropped (s : State) (cur : Option Nat) (status rest : Nat) : State :=
  s.mr.held.foldl (fun s e => unitComplete s .print s.mr.chan e.e.idx (if cur = some e.e.idx then status else rest) e.done 0) s

/-- Millrace with nothing to print. -/
def emptied (m : Mr) : Mr :=
  { m with held := [], ahead := [], next := none, nextShifted := false, line := none, running := false, hold := false,
           keepHist := false, hist1 := [], hist2 := [], cut := none }

/-- The entry of the line in progress. -/
def curEntry (s : State) : Option Nat :=
  match s.mr.line with
  | some l => if lineLive l then some l.idx else none
  | none => none

/-- The state of Millrace when its work has been dropped, before its conversions and its request level are looked at. -/
def dropped (s : State) (status rest : Nat) : State :=
  let t := entriesDropped (retireTokens (returnTokens s)) (curEntry s) status rest
  stopTimer (stopTimer (stopTimer (stopTimer (setMr t (emptied t.mr)) tmrPhase) tmrPulse) tmrStrobe) tmrShift

theorem headDrop_eq (s : State) (status rest : Nat) : headDrop s status rest =
    mrReq (if rb (dropped s status rest) .MR_CTL 0 0 then startTimer (dropped s status rest) tmrHeadAdc (msTicks 1) else dropped s status rest) := rfl

theorem entriesDropped_mr (s : State) (cur : Option Nat) (status rest : Nat) : (entriesDropped s cur status rest).mr = s.mr := by
  unfold entriesDropped
  generalize s.mr.held = l
  induction l generalizing s with
  | nil => rfl
  | cons e l ih => exact ih _

theorem Keeps.dropped (h : Keeps A s t) (status rest : Nat) : Keeps A s (dropped t status rest) := by
  have tokens := h.returnTokens.retireTokens
  exact (((((tokens.foldl fun _ _ hu => hu.unitComplete ..).setMr _).stopTimer _).stopTimer _).stopTimer _).stopTimer _

theorem HeadOnly.dropped (h : HeadOnly s t) (status rest : Nat) : HeadOnly s (dropped t status rest) := by
  have tokens := h.returnTokens.retireTokens
  exact (((((tokens.foldl fun _ _ hu => hu.unitComplete ..).setMr _).stopTimer _).stopTimer _).stopTimer _).stopTimer _

theorem Keeps.headDrop (h : Keeps A s t) (status rest : Nat) : Keeps A s (headDrop t status rest) := by
  have cut := h.dropped status rest
  exact (ite (cut.startTimer tmrHeadAdc (msTicks 1)) cut).trans (LooksAhead.refl _).mrReq.keeps

theorem HeadOnly.headDrop (h : HeadOnly s t) (status rest : Nat) : HeadOnly s (headDrop t status rest) := by
  have cut := h.dropped status rest
  exact (ite (cut.startTimer tmrHeadAdc (msTicks 1)) cut).looks (LooksAhead.refl _).mrReq

theorem mrReq_mr (s : State) : (mrReq s).mr = { s.mr with req := reqLevel s } := by
  unfold mrReq
  dsimp only
  split
  · rw [raise_send (by decide)]
    rfl
  · rfl

/-- Nothing of Millrace's work is left. -/
structure Emptied (m : Mr) : Prop where
  held : m.held = []
  line : m.line = none
  running : m.running = false
  drawn : m.drawn = 0

theorem headDrop_emptied (s : State) (status rest : Nat) : Emptied (headDrop s status rest).mr := by
  have core : (dropped s status rest).mr = emptied (retireTokens (returnTokens s)).mr := congrArg emptied (entriesDropped_mr ..)
  have timed : (if rb (dropped s status rest) .MR_CTL 0 0 then startTimer (dropped s status rest) tmrHeadAdc (msTicks 1)
      else dropped s status rest).mr = emptied (retireTokens (returnTokens s)).mr := by
    split <;> exact core
  rw [headDrop_eq, mrReq_mr, timed]
  exact ⟨rfl, rfl, rfl, rfl⟩

/-! ## Faults (R723, R727) -/

theorem Keeps.headPower (h : Keeps A s t) (apart : ¬ A (regAddr .MR_STAT 0)) : Keeps A s (headPower t) := by
  have shown (x : Bool) := (h.wb apart 7 x).setMr { t.mr with powered := false }
  exact ite h (ite ((shown _).startTimer _ _) ((shown _).stopTimer _))

/-- The power of a head that is FAULTED is off. -/
theorem headPower_faulted (faulted : dstate s 0 = 3) : rb (headPower s) .MR_STAT 0 7 = false := by
  have want : (rb s .MR_CTL 0 0 && dstate s 0 != 3) = false := by
    rw [faulted]
    exact Bool.and_false _
  unfold headPower
  dsimp only
  rw [want]
  split
  next same => exact same.symm
  · rw [if_neg Bool.false_ne_true]
    exact rb_wb_same s _ _ _ _ (by decide)

theorem headPower_emptied (h : Emptied s.mr) : Emptied (headPower s).mr := by
  obtain ⟨held, line, running, drawn⟩ := h
  unfold headPower
  dsimp only
  split
  · exact ⟨held, line, running, drawn⟩
  · split <;> exact ⟨held, line, running, drawn⟩

/-- What a fault of the head leaves: the fault shown, its power off, nothing of its work. -/
structure HeadFaulted (s : State) (bit : Nat) (t : State) : Prop where
  fault : rb t .MR_FAULT 0 bit = true
  kill : t.dev.kill = true
  state : dstate t 0 = 3
  power : rb t .MR_STAT 0 7 = false
  work : Emptied t.mr
  keeps : Keeps Nowhere s t

theorem headFault_kill (s : State) {bit : Nat} (small : bit < 32) (status : Nat) : HeadFaulted s bit (headFault s bit status true) := by
  let s0 := setDev s { s.dev with kill := s.dev.kill || true }
  let s1 := headDrop s0 status (if dstate s 0 = 2 then status else 2)
  let s2 := wb s1 .MR_FAULT 0 bit true
  let s3 := setData s2 0 3
  have fault : headFault s bit status true = raise (headPower s3) .print 65 := rfl
  have states : dstate s3 0 = 3 := dstate_setData s2 0 (by decide)
  have shown : Shows s2 s3 := (Shows.refl s2).setData 0 3
  have dropped : HeadOnly s0 s1 := (HeadOnly.refl s0).headDrop ..
  have work : Emptied s3.mr := by
    rw [shown.mr]
    exact headDrop_emptied s0 status _
  have marked : rb s3 .MR_FAULT 0 bit = true :=
    (((Keeps.refl (A := At .MR_FAULT 0) s2).setData (u := 0) (by decide) 3).rb rfl bit).trans (rb_wb_same s1 _ _ _ _ small)
  rw [fault, raise_send (by decide)]
  refine ⟨?_, ?_, ?_, headPower_faulted states, headPower_emptied work, ?_⟩
  · exact (((Keeps.refl (A := At .MR_FAULT 0) s3).headPower (by decide)).rb rfl bit).trans marked
  · have powered := ((HeadOnly.refl s3).headPower).dev
    refine (congrArg Dev.kill (powered.trans (shown.dev.trans dropped.dev))).trans ?_
    exact Bool.or_true _
  · exact (((Keeps.refl (A := At .MR_STATE 0) s3).headPower (by decide)).dstate (u := 0) rfl).trans states
  · exact (((((((Keeps.refl s).setDev _).headDrop ..).wb id bit true).setData (u := 0) id 3).headPower id).send _ _)

theorem HeadFaulted.after {s0 : State} {bit : Nat} (h : HeadFaulted s0 bit t) (counted : Keeps Nowhere s s0) : HeadFaulted s bit t :=
  ⟨h.fault, h.kill, h.state, h.power, h.work, counted.trans h.keeps⟩

theorem headKill_faulted (s : State) {bit : Nat} (small : bit < 32) (status : Nat) : HeadFaulted s bit (headKill s bit status) :=
  (headFault_kill (count s .print 0x3F) small status).after ((Keeps.refl s).count (by decide) _)

end Sys2Proof.Proofs
end

section
/-! # Chapter 14: Millrace prints (R695, R704, R709, R714, R721, R722, R727) -/
namespace Sys2Proof.Proofs
open Sys2Proof.Machine Sys2Proof.Laws

variable {s t u : State} {A : Nat → Prop} {l : MrLine}

/-! ## The end of a schedule (R714) -/

theorem scheduleEnd_ends (running : s.mr.running = true) (due : s.mr.aPrev + s.mr.qPrev ≤ s.time) (unready : lineReady s = false)
    (stops : ∀ l, s.mr.line = some l → l.cont = false) : scheduleEnd s = headIdle (scheduleStop s) := by
  unfold scheduleEnd
  dsimp only
  refine if_pos ⟨running, due, unready, ?_⟩
  split
  next l line => exact stops l line
  · rfl

theorem scheduleStop_effects (s : State) : let t := headIdle (scheduleStop s)
    t.mr.running = false ∧ timerOn t tmrHeadAdc = true ∧ Keeps Nowhere s t := by
  let u := startTimer (setMr s { s.mr with running := false }) tmrHeadAdc (msTicks 1)
  have looks : LooksAhead u (scheduleStop s) := ((LooksAhead.refl u).mrReq).redoNext
  have shown : Shows (scheduleStop s) (headIdle (scheduleStop s)) := (Shows.refl _).headIdle
  refine ⟨?_, ?_, ?_⟩
  · rw [shown.mr, looks.running]
    rfl
  · rw [shown.timerOn, looks.timerOn (by decide), timerOn_startTimer]
  · exact (((Keeps.refl s).setMr _).startTimer _ _).trans (looks.keeps.headIdle id)

/-! ## Phases (R704) -/

/-- Dots of a group of the line's sub-pulse. -/
def lineDots (s : State) (l : MrLine) (g : Nat) : Nat := groupCount s (l.pats.getD l.sp []) g

/-- The groups of the line's sub-pulse that have dots. -/
def lineGroups (s : State) (l : MrLine) : List Nat := (List.range (headGroups s)).filter fun g => decide (lineDots s l g ≠ 0)

/-- The groups of the sub-pulse's first phase. -/
def firstPhase (s : State) (l : MrLine) : List Nat := packGroups (lineDots s l) l.draw s.mr.avail l.maxDots (lineGroups s l) 0

/-- The line as its first phase fires. -/
def firingLine (s : State) (l : MrLine) : MrLine :=
  { l with stage := .firing, groups := (lineGroups s l).drop (firstPhase s l).length, strobes := firstPhase s l,
           shifted := (nextSub l.pats (l.sp + 1)).isNone }

/-- The tokens of the first phase. -/
def firstNeed (s : State) (l : MrLine) : Nat := ((firstPhase s l).map (lineDots s l)).sum * l.draw

/-- The state in which the first phase's strobes rise, its timers not yet running. -/
def phaseDrawn (s : State) (l : MrLine) : State :=
  let s1 := if !((lineGroups s l).drop (firstPhase s l).length).isEmpty then count s .print 0x3B else s
  let s2 := report s1 .print 20 2 3 (firstNeed s l)
  setMr s2 { s2.mr with
    avail := s2.mr.avail - firstNeed s l, drawn := firstNeed s l, strobeAt := some s2.time, line := some (firingLine s l) }

theorem phaseStart_first (line : s.mr.line = some l) (latching : l.stage = .latching) (due : timerDue s tmrPhase = true) (active : dstate s 0 = 1) :
    phaseStart s = prepareNext (startTimer (startTimer (stopTimer
      (if (nextSub l.pats (l.sp + 1)).isSome then shiftStart (phaseDrawn s l) else phaseDrawn s l) tmrPhase) tmrPulse (l.width.getD l.sp 0))
      tmrStrobe l.stbMax) := by
  have first : (l.stage == .latching) = true := by rw [latching]; rfl
  have goes : ¬ ((l.stage ≠ .latching ∧ l.stage ≠ .gap) ∨ timerDue s tmrPhase = false ∨ dstate s 0 ≠ 1) := by
    rw [due, latching, active]
    simp
  unfold phaseStart
  rw [line]
  dsimp only
  rw [if_neg goes, first]
  rfl

theorem phaseDrawn_keeps (s : State) (l : MrLine) : Keeps Nowhere s (phaseDrawn s l) := by
  have counted : Keeps Nowhere s (if !((lineGroups s l).drop (firstPhase s l).length).isEmpty then count s .print 0x3B else s) :=
    .ite ((Keeps.refl s).count (by decide) _) (Keeps.refl s)
  exact (counted.report (by decide) 20 2 3 (firstNeed s l)).setMr _

theorem phaseDrawn_time (s : State) (l : MrLine) : (phaseDrawn s l).mr.strobeAt = some s.time := by
  have time := (phaseDrawn_keeps s l).time
  exact congrArg some time

theorem phaseStart_effects (line : s.mr.line = some l) (latching : l.stage = .latching) (due : timerDue s tmrPhase = true)
    (active : dstate s 0 = 1) : let t := phaseStart s
    t.mr.line = some (firingLine s l) ∧ t.mr.drawn = firstNeed s l ∧ timerOn t tmrPulse = true ∧ t.mr.strobeAt = some s.time ∧ Keeps Nowhere s t := by
  rw [phaseStart_first line latching due active]
  let v := if (nextSub l.pats (l.sp + 1)).isSome then shiftStart (phaseDrawn s l) else phaseDrawn s l
  let w := startTimer (startTimer (stopTimer v tmrPhase) tmrPulse (l.width.getD l.sp 0)) tmrStrobe l.stbMax
  have shifts : LooksAhead (phaseDrawn s l) v := .ite ((LooksAhead.refl _).shiftStart) (LooksAhead.refl _)
  have looks : LooksAhead w (prepareNext w) := (LooksAhead.refl w).prepareNext
  refine ⟨looks.line.trans shifts.line, looks.drawn.trans shifts.drawn, ?_, (looks.strobeAt.trans shifts.strobeAt).trans (phaseDrawn_time s l), ?_⟩
  · rw [looks.timerOn (by decide), timerOn_startTimer_ne _ _ (by decide), timerOn_startTimer]
  · exact ((((phaseDrawn_keeps s l).trans shifts.keeps).stopTimer _).startTimer _ _).startTimer _ _ |>.trans looks.keeps

/-- The strobes have fallen and the tokens are back. -/
def strobesFallen (s : State) : State := returnTokens (stopTimer (stopTimer s tmrPulse) tmrStrobe)

theorem strobesFallen_keeps (s : State) : Keeps A s (strobesFallen s) := (((Keeps.refl s).stopTimer _).stopTimer _).returnTokens

theorem strobesFallen_io (s : State) : (strobesFallen s).io = s.io := by
  have reported (t : State) (n : Nat) : (report t .print 20 3 2 n).io = t.io := by
    unfold report
    split <;> rfl
  exact reported _ _

theorem phaseEnd_uncut (line : s.mr.line = some l) (firing : l.stage = .firing) (due : timerDue s tmrPulse = true) (uncut : s.mr.cut = none) :
    phaseEnd s = if l.groups ≠ [] then startTimer (setLine (strobesFallen s) { l with stage := .gap, strobes := [] }) tmrPhase l.gap
      else match nextSub l.pats (l.sp + 1) with
        | some k => setLine (strobesFallen s) { l with stage := .waiting, strobes := [], sp := k }
        | none => lineEnd (setLine (strobesFallen s) { l with strobes := [] }) := by
  have goes : ¬ (l.stage ≠ .firing ∨ timerDue s tmrPulse = false) := by
    rw [firing, due]
    simp
  have cut : (strobesFallen s).mr.cut = none := uncut
  unfold phaseEnd
  rw [line]
  dsimp only
  rw [if_neg goes, ← strobesFallen, cut] <;> rfl

/-- The last phase of a line: its tokens are gone, the line has ended and counts. -/
theorem phaseEnd_last (line : s.mr.line = some l) (firing : l.stage = .firing) (due : timerDue s tmrPulse = true) (uncut : s.mr.cut = none)
    (groups : l.groups = []) (last : nextSub l.pats (l.sp + 1) = none) : let t := phaseEnd s
    t.mr.line = some { l with stage := .ended, strobes := [], endAt := s.time } ∧ t.mr.drawn = 0 ∧ t.mr.avail = 0 ∧
      rd t .MR_LINES 0 = (if l.blank then rd s .MR_LINES 0 else rd s .MR_LINES 0 + 1) ∧ Keeps Nowhere s t := by
  let l' : MrLine := { l with strobes := [] }
  let u := setLine (strobesFallen s) l'
  have ends : phaseEnd s = lineEnd u := by
    rw [phaseEnd_uncut line firing due uncut, if_neg (not_not.2 groups), last]
  have closed := lineClosed_mr u l'
  have asked : LooksAhead (lineClosed u l') (mrReq (entriesDone (lineClosed u l') l')) := ((LooksAhead.refl _).entriesDone l').mrReq
  have idle : Shows (mrReq (entriesDone (lineClosed u l') l')) (headIdle (mrReq (entriesDone (lineClosed u l') l'))) := (Shows.refl _).headIdle
  have looks := (LooksAhead.refl (headIdle (mrReq (entriesDone (lineClosed u l') l')))).prepareNext
  have fallen : Keeps (fun _ => True) s u := (strobesFallen_keeps s).setMr _
  have time : u.time = s.time := fallen.time
  have counted : rd (lineClosed u l') .MR_LINES 0 = if l.blank then rd s .MR_LINES 0 else rd s .MR_LINES 0 + 1 := by
    have before : rd u .MR_LINES 0 = rd s .MR_LINES 0 := fallen.rd trivial
    unfold lineClosed
    dsimp only
    have kept : rd (setMr (retireTokens u) { (retireTokens u).mr with line := some (endedLine u l'), held := heldDone u l' }) .MR_LINES 0 =
        rd u .MR_LINES 0 := ((Keeps.refl (A := At .MR_LINES 0) u).retireTokens.setMr _).rd rfl
    split
    next blank => rw [kept, before]
    next blank => rw [rd_wr_same, kept, before]
  rw [ends, lineEnd_eq (l := l') rfl]
  refine ⟨?_, ?_, ?_, ?_, ?_⟩
  · rw [looks.line, idle.mr, asked.line, closed, endedLine, time]
  · rw [looks.drawn, idle.mr, asked.drawn, closed]
    rfl
  · rw [looks.avail, idle.mr, asked.avail, closed]
  · rw [looks.keeps.rd (A := At .MR_LINES 0) rfl, ((Keeps.refl (A := At .MR_LINES 0) _).headIdle (by decide)).rd rfl,
      asked.keeps.rd (A := At .MR_LINES 0) rfl, counted]
  · exact ((((fallen.weaken fun _ => False.elim).lineClosed id l').trans asked.keeps).headIdle id).trans looks.keeps

/-! ## Trips (R721, R722) -/

theorem currentTrip_kills {mv : Nat} (clear : rb s .MR_FAULT 0 0 = false) (past : ∀ t0, s.mr.strobeAt = some t0 → 3000 ≤ (s.time - t0) * 125)
    (printing : ∀ l, s.mr.line = some l → lineLive l = true → l.hcTrip < mv ∧ l.hcBlank ≤ 50)
    (between : lineOver s = true → 4 * max 13 (rn s .MR_HCTRIP 0) < mv) : currentTrip s mv = headKill s 0 0x80 := by
  unfold currentTrip
  extract_lets lim blank blanked
  have over_limit : lim < mv := by
    unfold lim
    split
    next l line =>
      split
      next live => exact (printing l line live).1
      next ended => exact between (by rw [lineOver, line]; simpa using ended)
    next none => exact between (by rw [lineOver, none])
  have short : blank ≤ 50 := by
    unfold blank
    split
    next l line =>
      split
      next live => exact (printing l line live).2
      · exact Nat.min_le_right _ _
    · exact Nat.min_le_right _ _
  have unblanked : blanked = false := by
    unfold blanked
    split
    next t0 rose =>
      have elapsed := past t0 rose
      exact decide_eq_false (by omega)
    · rfl
  refine if_neg ?_
  rw [unblanked, clear]
  simp only [Bool.false_eq_true, or_false]
  omega

theorem strobeLong_kills (line : s.mr.line = some l) (firing : l.stage = .firing) (long : l.stbMax < l.width.getD l.sp 0)
    (due : timerDue s tmrStrobe = true) (clear : rb s .MR_FAULT 0 1 = false) : strobeLong s = headKill (count s .print 0x40) 1 0x81 := by
  unfold strobeLong
  rw [line]
  exact if_pos ⟨firing, long, due, clear⟩

/-- Settles O40: a ready line starts, is latched, fires phase by phase and ends; a schedule ends; a trip and a strobe too long kill the strobes. -/
theorem millracePrints : Obligations.MillracePrints := by
  intro s live m frame killed
  refine ⟨fun i j b more e runs ready powered due fed unlocked cool steady least most first held => ?start, fun running early => ?early,
    fun running due unready stops => ?schedule, fun l line waiting shifted active => ?latch, fun l line latching due active => ?phase,
    fun l line firing due uncut => ⟨fun groups => ?gap, fun groups last => ?last⟩, fun mv clear past printing between => ?trip,
    fun l line firing long due clear => ?overtime⟩
  case start =>
    obtain ⟨pats, starts⟩ := lineStart_starts ⟨runs, ready, powered, due, fed, cool, steady, least, most⟩ first held
    have shown : Keeps InterlockAddr s (readingsShown s) := (((Keeps.refl s).headIdle (by decide)).wr (by decide) _).wr (by decide) _
    obtain ⟨core, active, kept⟩ := startLine_effects ((feedLocked_kept shown).trans unlocked) i e pats
    have row : exec .lineStart s = .next (startLine (readingsShown s) i e pats) := (liveIn_live live lineStart).trans (congrArg _ starts)
    obtain ⟨running, at_, line⟩ : _ ∧ _ ∧ _ := by simpa only [lineCore, Prod.mk.injEq] using core
    obtain ⟨l, here, which⟩ := Option.map_eq_some_iff.1 line
    obtain ⟨idx, blank⟩ := Prod.mk.inj which
    exact Does.intro row ⟨running, at_.trans shown.time, active, ⟨l, here, idx, blank⟩, ((shown.weaken fun _ => False.elim).trans kept).frame⟩
  case early =>
    refine ⟨(liveIn_live live lineStart).trans (congrArg _ ?_), (liveIn_live live scheduleEnd).trans (congrArg _ ?_)⟩
    · by_cases accepts : headRuns s = false ∨ lineReady s = false ∨ s.mr.powered = false
      · exact if_pos accepts
      · exact (if_neg accepts).trans (if_pos ⟨running, early⟩)
    · exact if_neg fun holds => Nat.not_le.2 early holds.2.1
  case schedule =>
    obtain ⟨stopped, adc, kept⟩ := scheduleStop_effects s
    exact Does.intro ((liveIn_live live scheduleEnd).trans (congrArg _ (scheduleEnd_ends running due unready stops))) ⟨stopped, adc, kept.frame⟩
  case latch =>
    refine (liveIn_live live latch).trans (congrArg _ ?_)
    unfold latch
    rw [line]
    exact if_pos ⟨waiting, shifted, active⟩
  case phase =>
    obtain ⟨fires, drawn, pulse, rose, kept⟩ := phaseStart_effects line latching due active
    exact Does.intro (liveIn_live live phaseStart) ⟨⟨firingLine s l, fires, rfl, rfl, rfl, drawn⟩, pulse, rose, kept.frame⟩
  case gap =>
    have row : exec .millracePhaseEnd s = .next (startTimer (setLine (strobesFallen s) { l with stage := .gap, strobes := [] }) tmrPhase l.gap) :=
      (liveIn_live live phaseEnd).trans (congrArg _ ((phaseEnd_uncut line firing due uncut).trans (if_pos groups)))
    have kept : Keeps Nowhere s (startTimer (setLine (strobesFallen s) { l with stage := .gap, strobes := [] }) tmrPhase l.gap) :=
      ((strobesFallen_keeps s).setMr _).startTimer _ _
    exact Does.intro row ⟨rfl, rfl, rfl, timerOn_startTimer _ _ _, strobesFallen_io s, kept.frame⟩
  case last =>
    obtain ⟨ended, drawn, avail, lines, kept⟩ := phaseEnd_last line firing due uncut groups last
    exact Does.intro (liveIn_live live phaseEnd) ⟨ended, drawn, avail, lines, kept.frame⟩
  case trip =>
    have row : exec (.headCurrentTrip mv) s = .next (headKill s 0 0x80) :=
      (liveIn_live live fun s => currentTrip s mv).trans (congrArg _ (currentTrip_kills clear past printing between))
    obtain ⟨fault, kill, state, power, ⟨held, line, running, drawn⟩, kept⟩ := headKill_faulted s (bit := 0) (by decide) 0x80
    exact Does.intro row ⟨fault, kill, state, power, held, line, running, drawn, kept.frame⟩
  case overtime =>
    have row : exec .strobeOvertime s = .next (headKill (count s .print 0x40) 1 0x81) :=
      (liveIn_live live strobeLong).trans (congrArg _ (strobeLong_kills line firing long due clear))
    obtain ⟨fault, kill, state, power, ⟨held, line, running, drawn⟩, kept⟩ :=
      (headKill_faulted (count s .print 0x40) (bit := 1) (by decide) 0x81).after ((Keeps.refl s).count (by decide) _)
    exact Does.intro row ⟨fault, kill, state, power, held, line, running, drawn, kept.frame⟩

end Sys2Proof.Proofs
end

section
/-!
SUPPORT. The feeder's shared operations (chapter 15): its windings, its cancellation, its hold and its faults, each with the registers it writes
and what of the feeder's state it leaves.
-/
namespace Sys2Proof.Proofs
open Sys2Proof.Machine Sys2Proof.Laws

variable {s t u : State} {A : Nat → Prop}

/-! ## Work of the head cut by the feeder (R726, R729) -/

/-- The registers that a cut of the head's work writes. -/
def headRegs : List Rg := [.MR_STATE, .MR_STAT]

theorem Keeps.headCutEnd (h : Keeps A s t) (apart : ∀ r ∈ headRegs, ¬ A (regAddr r 0)) (status : Nat) : Keeps A s (headCutEnd t status) :=
  (((h.headDrop _ _).setData (u := 0) (apart .MR_STATE (by decide)) 0)).headPower (apart .MR_STAT (by decide))

theorem HeadOnly.headCutEnd (h : HeadOnly s t) (status : Nat) : HeadOnly s (headCutEnd t status) :=
  ((h.headDrop _ _).shows ((Shows.refl _).setData 0 0)).headPower

theorem Keeps.headCut (h : Keeps A s t) (apart : ∀ r ∈ headRegs, ¬ A (regAddr r 0)) (status : Nat) : Keeps A s (headCut t status) := by
  have state := apart .MR_STATE (by decide)
  have drains (m : Mr) : Keeps A s (Machine.setData (Machine.setMr t m) 0 2) := (h.setMr m).setData (u := 0) state 2
  have now := (ite (p := Machine.dstate t 0 = 1) (h.setData (u := 0) state 2) h).headCutEnd apart status
  exact ite h (ite (drains _) (ite (h.headPower (apart .MR_STAT (by decide))) now))

theorem HeadOnly.headCut (h : HeadOnly s t) (status : Nat) : HeadOnly s (headCut t status) := by
  have drains (m : Mr) : HeadOnly s (setData (Machine.setMr t m) 0 2) := (h.setMr m).shows ((Shows.refl _).setData 0 2)
  have now := (ite (p := dstate t 0 = 1) (h.shows ((Shows.refl t).setData 0 2)) h).headCutEnd status
  exact ite h (ite (drains _) (ite h.headPower now))

theorem Keeps.headFeedStop (h : Keeps A s t) (apart : ∀ r ∈ headRegs, ¬ A (regAddr r 0)) : Keeps A s (headFeedStop t) := by
  unfold Machine.headFeedStop
  split
  · exact ite (h.headCut apart _) h
  · exact h

theorem HeadOnly.headFeedStop (h : HeadOnly s t) : HeadOnly s (headFeedStop t) := by
  unfold Machine.headFeedStop
  split
  · exact ite (h.headCut _) h
  · exact h

/-! ## Windings (R747) -/

theorem windOf_setWind_same (s : State) (w : Nat) (x : Winding) : windOf (setWind s w x) w = x := by
  unfold windOf setWind
  split <;> rfl

theorem windOf_setWind_ne (s : State) (w : Fin 2) (x : Winding) : windOf (setWind s w x) (1 - w) = windOf s (1 - w) := by
  fin_cases w <;> rfl

/-- From `s` to `t` only the windings and timers differ. -/
structure WindsOnly (s t : State) : Prop where
  others : t = { s with timers := t.timers, armed := t.armed, pp := { s.pp with feed := { s.pp.feed with
    windA := t.pp.feed.windA, windB := t.pp.feed.windB } } }

namespace WindsOnly

theorem refl (s : State) : WindsOnly s s := ⟨rfl⟩

theorem trans (h : WindsOnly s t) (k : WindsOnly t u) : WindsOnly s u := ⟨k.others.trans (by rw [h.others])⟩

theorem setWind (h : WindsOnly s t) (w : Nat) (x : Winding) : WindsOnly s (setWind t w x) := by
  refine h.trans ?_
  unfold Machine.setWind
  split <;> exact ⟨rfl⟩

theorem startTimer (h : WindsOnly s t) (k n : Nat) : WindsOnly s (startTimer t k n) := h.trans ⟨rfl⟩

theorem stopTimer (h : WindsOnly s t) (k : Nat) : WindsOnly s (stopTimer t k) := h.trans ⟨rfl⟩

theorem windOff (h : WindsOnly s t) (w : Nat) : WindsOnly s (windOff t w) := by
  unfold Machine.windOff
  dsimp only
  split
  · exact (h.setWind w _).stopTimer _
  · exact h

theorem windOn (h : WindsOnly s t) (w : Nat) : WindsOnly s (windOn t w) := by
  unfold Machine.windOn
  dsimp only
  split
  · exact h.setWind w _
  · exact (h.setWind w _).startTimer _ _

theorem io (h : WindsOnly s t) : t.io = s.io := by rw [h.others]

theorem keeps (h : WindsOnly s t) : Keeps A s t := by
  refine ⟨by rw [h.others], ?_, by rw [h.others], by rw [h.others], fun d a _ => by rw [h.io]⟩
  rw [h.others]
  exact SameMemory.refl s

theorem feed (h : WindsOnly s t) : t.pp.feed = { s.pp.feed with windA := t.pp.feed.windA, windB := t.pp.feed.windB } := by
  have same := congrArg (fun u => u.pp.feed) h.others
  exact same

theorem pp (h : WindsOnly s t) : t.pp = { s.pp with feed := t.pp.feed } := by
  have same := congrArg State.pp h.others
  exact same.trans (congrArg (fun f => { s.pp with feed := f }) h.feed.symm)

end WindsOnly

theorem windOff_off (s : State) (w : Nat) : (windOf (windOff s w) w).on = false := by
  unfold windOff
  dsimp only
  split
  · exact congrArg Winding.on (windOf_setWind_same s w _)
  next off => exact Bool.not_eq_true _ ▸ off

theorem windOff_other (s : State) (w : Fin 2) : windOf (windOff s w) (1 - w) = windOf s (1 - w) := by
  unfold windOff
  dsimp only
  split
  · exact windOf_setWind_ne s w _
  · rfl

/-- Both windings low. -/
def windsOff (s : State) : State := windOff (windOff s 0) 1

theorem windsOff_only (s : State) : WindsOnly s (windsOff s) := ((WindsOnly.refl s).windOff 0).windOff 1

theorem windsOff_off (s : State) {k : Nat} (two : k < 2) : (windOf (windsOff s) k).on = false := by
  obtain rfl | rfl : k = 0 ∨ k = 1 := by omega
  · exact (congrArg Winding.on (windOff_other (windOff s 0) 1)).trans (windOff_off s 0)
  · exact windOff_off (windOff s 0) 1

/-! ## Floating and holding (R747, R756, R763) -/

/-- From `s` to `t` only the feeder and timers differ, and its queue, its half-step and its latest end stay. -/
structure StepsStay (s t : State) : Prop where
  others : t = { s with timers := t.timers, armed := t.armed, pp := { s.pp with feed := t.pp.feed } }
  segs : t.pp.feed.segs = s.pp.feed.segs
  cur : t.pp.feed.cur = s.pp.feed.cur
  lastEnd : t.pp.feed.lastEnd = s.pp.feed.lastEnd

namespace StepsStay

theorem refl (s : State) : StepsStay s s := ⟨rfl, rfl, rfl, rfl⟩

theorem trans (h : StepsStay s t) (k : StepsStay t u) : StepsStay s u :=
  ⟨k.others.trans (by rw [h.others]), k.segs.trans h.segs, k.cur.trans h.cur, k.lastEnd.trans h.lastEnd⟩

theorem winds (h : StepsStay s t) (k : WindsOnly t u) : StepsStay s u := by
  refine h.trans ⟨?_, by rw [k.feed], by rw [k.feed], by rw [k.feed]⟩
  rw [← k.pp]
  exact k.others.trans (by rw [← k.feed, ← k.pp])

theorem stopTimer (h : StepsStay s t) (k : Nat) : StepsStay s (stopTimer t k) := h.trans ⟨rfl, rfl, rfl, rfl⟩

theorem startTimer (h : StepsStay s t) (k n : Nat) : StepsStay s (startTimer t k n) := h.trans ⟨rfl, rfl, rfl, rfl⟩

theorem setFd (h : StepsStay s t) (f : Feeder) (segs : f.segs = t.pp.feed.segs) (cur : f.cur = t.pp.feed.cur)
    (lastEnd : f.lastEnd = t.pp.feed.lastEnd) : StepsStay s (setFd t f) := h.trans ⟨rfl, segs, cur, lastEnd⟩

theorem feedFloat (h : StepsStay s t) : StepsStay s (feedFloat t) := by
  have low := ((h.winds (windsOff_only t)).stopTimer tmrChop).stopTimer tmrHold
  unfold Machine.feedFloat
  dsimp only
  split
  · exact low
  · exact (low.setFd _ (by rfl) (by rfl) (by rfl)).startTimer _ _

theorem feedHold (h : StepsStay s t) : StepsStay s (feedHold t) := by
  unfold Machine.feedHold
  dsimp only
  split
  · exact h
  · split
    · exact h.feedFloat
    · exact (h.setFd _ (by rfl) (by rfl) (by rfl)).startTimer _ _

theorem io (h : StepsStay s t) : t.io = s.io := by rw [h.others]

theorem keeps (h : StepsStay s t) : Keeps A s t := by
  refine ⟨by rw [h.others], ?_, by rw [h.others], by rw [h.others], fun d a _ => by rw [h.io]⟩
  rw [h.others]
  exact SameMemory.refl s

end StepsStay

/-- Both windings are low once the feeder floats. -/
theorem feedFloat_off (s : State) {k : Nat} (two : k < 2) : (windOf (feedFloat s) k).on = false := by
  have low := windsOff_off s two
  unfold feedFloat
  dsimp only
  rw [← windsOff]
  generalize windsOff s = v at low ⊢
  split
  · exact low
  · unfold windOf at low ⊢
    split
    next first =>
      rw [if_pos first] at low
      exact low
    next second =>
      rw [if_neg second] at low
      exact low

theorem feedFloat_chop (s : State) : timerOn (feedFloat s) tmrChop = false := by
  have stopped : timerOn (stopTimer (stopTimer (windsOff s) tmrChop) tmrHold) tmrChop = false := by
    rw [timerOn_stopTimer_ne _ (by decide), timerOn_stopTimer]
  unfold feedFloat
  dsimp only
  rw [← windsOff]
  split
  · exact stopped
  · exact (timerOn_startTimer_ne _ _ (by decide)).trans stopped

/-- A feeder that did not float floats and holds no more. -/
theorem feedFloat_floats (grounded : s.pp.feed.floating = false) : (feedFloat s).pp.feed.floating = true ∧ (feedFloat s).pp.feed.holding = false := by
  have same : (windsOff s).pp.feed.floating = false := by rw [(windsOff_only s).feed, grounded]
  unfold feedFloat
  dsimp only
  rw [← windsOff]
  have off : ¬ (stopTimer (stopTimer (windsOff s) tmrChop) tmrHold).pp.feed.floating = true := by
    rw [stopTimer_pp, stopTimer_pp, same]
    exact Bool.false_ne_true
  rw [if_neg off]
  exact ⟨rfl, rfl⟩

/-! ## Cancelling (R758, R759) -/

theorem Shows.moveEnds (h : Shows s t) (irq cancelled : Bool) : Shows s (moveEnds t irq cancelled) :=
  ite ((h.wb ..).raise (by decide) 72) (h.wb ..)

theorem Keeps.moveEnds (h : Keeps A s t) (apart : ¬ A (regAddr .PP_MOVESTAT 0)) (irq cancelled : Bool) : Keeps A s (moveEnds t irq cancelled) :=
  ite ((h.wb apart 4 cancelled).raise (by decide) 72) (h.wb apart 4 cancelled)

/-- The feeder's own state once it is cancelled. -/
def cancelled (s : State) : Feeder :=
  let f := s.pp.feed
  { f with segs := [], cur := none, contDue := none, lastEnd := (if f.cur.isSome then s.time else f.lastEnd), lastStop := f.cur.isSome || f.lastStop }

/-- The interrupt bits of the moves that a cancellation ends. -/
def movesEnded (f : Feeder) : List Bool :=
  let moves := (f.segs.filter fun g => g.isMove).map fun g => g.irq
  match f.cur with
  | some h => if h.moveLast then h.irq :: moves else moves
  | none => moves

/-- The state in which the cancelled moves have ended, before the feeder is shown. -/
def movesCancelled (s : State) : State :=
  (movesEnded s.pp.feed).foldl (fun s irq => moveEnds s irq true) (setFd (report s .print 21 3 2 (feedPend s)) (cancelled s))

theorem feedCancel_eq (s : State) : feedCancel s = feedShow (movesCancelled s) := by
  unfold feedCancel
  rfl

theorem movesCancelled_shows (s : State) : Shows (setFd (report s .print 21 3 2 (feedPend s)) (cancelled s)) (movesCancelled s) :=
  (Shows.refl _).foldl fun _ _ hu => hu.moveEnds _ _

theorem feedCancel_feed (s : State) : (feedCancel s).pp.feed = cancelled s := by
  rw [feedCancel_eq, ((movesCancelled_shows s).feedShow).pp]
  rfl

theorem Keeps.feedCancel (h : Keeps A s t) (apart : ∀ r ∈ feedRegs, ¬ A (regAddr r 0)) : Keeps A s (feedCancel t) := by
  rw [feedCancel_eq]
  exact ((((h.report (by decide) 21 3 2 (feedPend t)).setFd (cancelled t)).foldl fun _ _ hu =>
    hu.moveEnds (apart .PP_MOVESTAT (by decide)) _ true)).feedShow apart

/-- PP_PEND as the feeder shows it (R757). -/
theorem feedShow_pend (s : State) : rd (feedShow s) .PP_PEND 0 = BitVec.ofNat 32 (feedPend s % 2 ^ 20) := by
  have shown (u : State) : rd (setData u 1 (b01 (u.pp.feed.cur.isSome || decide (feedPend u ≠ 0)))) .PP_PEND 0 = rd u .PP_PEND 0 :=
    rd_setUnit_ne _ _ _ _ (by decide)
  unfold feedShow
  dsimp only
  split
  · rw [shown, rd_wb_ne _ _ _ _ _ _ _ (by decide), rd_wf_ne _ _ _ _ _ _ _ _ (by decide), rd_wr_same]
  · rw [rd_wb_ne _ _ _ _ _ _ _ (by decide), rd_wf_ne _ _ _ _ _ _ _ _ (by decide), rd_wr_same]

/-! ## Faults, yanks and windows (R748, R760, R765) -/

/-- The registers that a fault of the feeder writes. -/
def faultRegs : List Rg := [.PP_FFAULT, .PP_PEND, .PP_MOVESTAT, .PP_FSTAT, .PP_FSTATE, .MR_STATE, .MR_STAT]

section
variable (apart : ∀ r ∈ faultRegs, ¬ A (regAddr r 0))
include apart

theorem feedRegs_apart : ∀ r ∈ feedRegs, ¬ A (regAddr r 0) := fun r inside => apart r (by revert r; decide)

theorem headRegs_apart : ∀ r ∈ headRegs, ¬ A (regAddr r 0) := fun r inside => apart r (by revert r; decide)

theorem Keeps.feedFault (h : Keeps A s t) (bit : Nat) : Keeps A s (feedFault t bit) := by
  have marked := h.wb (apart .PP_FFAULT (by decide)) bit true
  have floats (f : Feeder) := (((marked.setFd f).feedCancel (feedRegs_apart apart)).trans ((StepsStay.refl _).feedFloat).keeps).feedShow (feedRegs_apart apart)
  exact ite marked (((floats _).setData (u := 1) (apart .PP_FSTATE (by decide)) 3).headFeedStop (headRegs_apart apart))

theorem Keeps.feedYank (h : Keeps A s t) : Keeps A s (feedYank t) := by
  have marked := ((h.count (i := .print) (by decide) 0x48).wb (apart .PP_FFAULT (by decide)) 0 true).raise (i := .print) (by decide) 68
  exact ite (marked.feedFault apart 0) marked

theorem Keeps.judge (h : Keeps A s t) (base : ¬ A (regAddr .PP_RIPBASE 0)) (e : Nat) : Keeps A s (judge t e) := by
  have kept (f : Feeder) := h.setFd f
  exact ite (kept _) (ite (ite ((kept _).wr base _) (kept _))
    (ite (ite ((kept _).feedYank apart) (kept _)) ((kept _).wr base _)))

theorem Keeps.windowEnd (h : Keeps A s t) (base : ¬ A (regAddr .PP_RIPBASE 0)) (last : ¬ A (regAddr .PP_RIPLAST 0)) : Keeps A s (windowEnd t) := by
  have judged (f : Feeder) (v : Quad) (e : Nat) := (((h.setFd f).wr last v).judge apart base e).feedShow (feedRegs_apart apart)
  exact ite h (judged _ _ _)

end

end Sys2Proof.Proofs
end

section
/-! # Chapter 15: the feeder -/
namespace Sys2Proof.Proofs
open Sys2Proof.Machine Sys2Proof.Laws

variable {s t u : State} {A : Nat → Prop}

/-! ## Enable and disable (R790, R792) -/

theorem feedEnable_enabled (off : rb s .PP_FCTL 0 0 = false) (good : feedCfgCode s = 0) (closed : s.pp.cover = false) :
    feedEnable s = setMgmt (wb s .PP_FCTL 0 0 true) 1 1 := by
  have shown : Shows s (setMgmt (wb s .PP_FCTL 0 0 true) 1 1) := ((Shows.refl s).wb ..).setMgmt _ _
  have cover : (setMgmt (wb s .PP_FCTL 0 0 true) 1 1).pp.cover = false := by rw [shown.pp, closed]
  unfold feedEnable feedCover
  rw [off, if_neg Bool.false_ne_true, good, if_neg (not_not.2 rfl), cover, Bool.false_and, if_neg Bool.false_ne_true]

theorem feedEnable_effects (s : State) : let t := setMgmt (wb s .PP_FCTL 0 0 true) 1 1
    rb t .PP_FCTL 0 0 = true ∧ mgmt t 1 = 1 ∧ dstate t 1 = dstate s 1 ∧ t.pp = s.pp ∧ Keeps Nowhere s t := by
  have shown : Shows s (setMgmt (wb s .PP_FCTL 0 0 true) 1 1) := ((Shows.refl s).wb ..).setMgmt _ _
  refine ⟨?_, mgmt_setMgmt _ 1 (by decide), (dstate_setMgmt _ 1 (by decide)).trans ?_, shown.pp, ((Keeps.refl s).wb id 0 true).setMgmt (u := 1) id 1⟩
  · exact (rb_congr (rd_setUnit_ne _ _ _ _ (by decide)) 0).trans (rb_wb_same _ _ _ _ _ (by decide))
  · exact ((Keeps.refl (A := At .PP_FSTATE 0) s).wb (by decide) 0 true).dstate (u := 1) rfl

theorem feedEnable_refused (off : rb s .PP_FCTL 0 0 = false) (bad : feedCfgCode s ≠ 0) :
    feedEnable s = wf (wb s .PP_FSTAT 0 0 true) .PP_FSTAT 0 2 1 (feedCfgCode s) := by
  unfold feedEnable
  rw [off, if_neg Bool.false_ne_true, if_pos bad]

theorem feedCfgCode_small (s : State) : feedCfgCode s < 4 := by
  unfold feedCfgCode
  repeat' split
  all_goals decide

/-- The feeder's registers but its states, as they follow the feeder. -/
def feedShown (s : State) : State :=
  let s1 := wr s .PP_PEND 0 (BitVec.ofNat 32 (feedPend s % 2 ^ 20))
  wb (wf s1 .PP_MOVESTAT 0 2 0 (feedMoves s)) .PP_FSTAT 0 5 (feedLearns s)

theorem feedShow_eq (s : State) : feedShow s = if dstate (feedShown s) 1 ≤ 1 then
    setData (feedShown s) 1 (b01 ((feedShown s).pp.feed.cur.isSome || decide (feedPend (feedShown s) ≠ 0))) else feedShown s := rfl

theorem mgmt_feedShow (s : State) : mgmt (feedShow s) 1 = mgmt s 1 := by
  have shown : Keeps (At .PP_FSTATE 0) s (feedShown s) :=
    (((Keeps.refl s).wr (by decide) _).wf (by decide) 2 0 _).wb (by decide) 5 _
  rw [← shown.mgmt (u := 1) rfl, feedShow_eq]
  split
  · refine mgmt_setData _ 1 ?_
    cases (feedShown s).pp.feed.cur.isSome || decide (feedPend (feedShown s) ≠ 0) <;> decide
  · rfl

theorem mgmt_feedCancel (s : State) : mgmt (feedCancel s) 1 = mgmt s 1 := by
  have moves : Keeps (At .PP_FSTATE 0) s (movesCancelled s) :=
    (((Keeps.refl s).report (by decide) 21 3 2 (feedPend s)).setFd (cancelled s)).foldl fun _ _ hu => hu.moveEnds (by decide) _ true
  rw [feedCancel_eq, mgmt_feedShow, moves.mgmt (u := 1) rfl]

/-- The registers of a disable but for the enable bit. -/
theorem Keeps.feedStopped (h : Keeps A s t) (apart : ∀ r ∈ faultRegs, ¬ A (regAddr r 0)) :
    Keeps A s (Machine.headFeedStop (Machine.setData (Machine.feedHold (Machine.feedCancel (Machine.setUnit t 1 0 2))) 1 0)) := by
  have state := apart .PP_FSTATE (by decide)
  exact ((((h.setUnit (u := 1) state 0 2).feedCancel (feedRegs_apart apart)).trans (StepsStay.refl _).feedHold.keeps).setData (u := 1) state 0).headFeedStop
    (headRegs_apart apart)

theorem feedDisable_on (on : rb s .PP_FCTL 0 0 = true) : feedDisable s =
    if dstate (wb s .PP_FCTL 0 0 false) 1 = 3 then setMgmt (wb s .PP_FCTL 0 0 false) 1 0
    else if dstate (wb s .PP_FCTL 0 0 false) 1 = 0 then headFeedStop (setMgmt (wb s .PP_FCTL 0 0 false) 1 0)
    else headFeedStop (setData (feedHold (feedCancel (setUnit (wb s .PP_FCTL 0 0 false) 1 0 2))) 1 0) :=
  if_neg (by rw [on]; exact Bool.false_ne_true.symm)

theorem feedDisable_effects (on : rb s .PP_FCTL 0 0 = true) : let t := feedDisable s
    rb t .PP_FCTL 0 0 = false ∧ mgmt t 1 = 0 ∧ dstate t 1 = (if dstate s 1 = 3 then 3 else 0) ∧
      (dstate s 1 = 1 → t.pp.feed.segs = [] ∧ t.pp.feed.cur = none) ∧ Keeps Nowhere s t := by
  let s1 := wb s .PP_FCTL 0 0 false
  have off : rb s1 .PP_FCTL 0 0 = false := rb_wb_same _ _ _ _ _ (by decide)
  have state : dstate s1 1 = dstate s 1 := ((Keeps.refl (A := At .PP_FSTATE 0) s).wb (by decide) 0 false).dstate (u := 1) rfl
  have kept : Keeps Nowhere s s1 := (Keeps.refl s).wb id 0 false
  rw [feedDisable_on on]
  change let t := if dstate s1 1 = 3 then setMgmt s1 1 0 else if dstate s1 1 = 0 then headFeedStop (setMgmt s1 1 0)
    else headFeedStop (setData (feedHold (feedCancel (setUnit s1 1 0 2))) 1 0); _
  rw [state]
  by_cases faulted : dstate s 1 = 3
  · rw [if_pos faulted, if_pos faulted]
    refine ⟨(rb_congr (rd_setUnit_ne _ _ _ _ (by decide)) 0).trans off, mgmt_setMgmt _ 1 (by decide),
      (dstate_setMgmt _ 1 (by decide)).trans (state.trans faulted), fun active => ?_, kept.setMgmt (u := 1) id 0⟩
    rw [faulted] at active
    exact absurd active (by decide)
  rw [if_neg faulted, if_neg faulted]
  by_cases idle : dstate s 1 = 0
  · rw [if_pos idle]
    have stopped {B : Nat → Prop} (apart : ∀ r ∈ headRegs, ¬ B (regAddr r 0)) : Keeps B (setMgmt s1 1 0) (headFeedStop (setMgmt s1 1 0)) :=
      (Keeps.refl _).headFeedStop apart
    refine ⟨?_, ?_, ?_, fun active => ?_, (kept.setMgmt (u := 1) id 0).headFeedStop (fun _ _ => id)⟩
    · exact ((stopped (B := At .PP_FCTL 0) (by decide)).rb rfl 0).trans ((rb_congr (rd_setUnit_ne _ _ _ _ (by decide)) 0).trans off)
    · exact ((stopped (B := At .PP_FSTATE 0) (by decide)).mgmt (u := 1) rfl).trans (mgmt_setMgmt _ 1 (by decide))
    · exact ((stopped (B := At .PP_FSTATE 0) (by decide)).dstate (u := 1) rfl).trans
        ((dstate_setMgmt _ 1 (by decide)).trans (state.trans idle))
    · rw [idle] at active
      exact absurd active (by decide)
  · rw [if_neg idle]
    let s2 := setUnit s1 1 0 2
    let s3 := feedHold (feedCancel s2)
    let s4 := setData s3 1 0
    have held : StepsStay (feedCancel s2) s3 := (StepsStay.refl _).feedHold
    have stopped {B : Nat → Prop} (apart : ∀ r ∈ headRegs, ¬ B (regAddr r 0)) : Keeps B s4 (headFeedStop s4) := (Keeps.refl _).headFeedStop apart
    have shown : Shows s3 s4 := (Shows.refl s3).setData 1 0
    have drained : mgmt s3 1 = 0 := by
      rw [held.keeps.mgmt (A := At .PP_FSTATE 0) (u := 1) rfl, mgmt_feedCancel]
      exact (setUnit_states s1 1 (by decide) (by decide)).1
    have emptied : s4.pp.feed.segs = [] ∧ s4.pp.feed.cur = none := by
      rw [shown.pp, held.segs, held.cur, feedCancel_feed]
      exact ⟨rfl, rfl⟩
    have enable : Keeps (At .PP_FCTL 0) s1 (headFeedStop s4) := (Keeps.refl s1).feedStopped (by decide)
    refine ⟨(enable.rb rfl 0).trans off, ?_, ?_, fun _ => ?_, kept.feedStopped (fun _ _ => id)⟩
    · exact ((stopped (B := At .PP_FSTATE 0) (by decide)).mgmt (u := 1) rfl).trans ((mgmt_setData s3 1 (by decide)).trans drained)
    · exact ((stopped (B := At .PP_FSTATE 0) (by decide)).dstate (u := 1) rfl).trans (dstate_setData s3 1 (by decide))
    · rw [((HeadOnly.refl s4).headFeedStop).pp]
      exact emptied

/-! ## Moves (R752, R757, R759) -/

theorem feedCtlCancel_effects (s : State) : let t := feedCtlCancel s
    t.pp.feed.segs = [] ∧ t.pp.feed.cur = none ∧ rd t .PP_PEND 0 = 0 ∧ rd t .PP_POS 0 = rd s .PP_POS 0 ∧ Keeps Nowhere s t := by
  have held : StepsStay (feedCancel s) (feedCtlCancel s) := (StepsStay.refl _).feedHold
  have none : feedPend (movesCancelled s) = 0 := by
    rw [feedPend, (movesCancelled_shows s).pp]
    rfl
  refine ⟨?_, ?_, ?_, ?_, ((Keeps.refl s).feedCancel fun _ _ => id).trans held.keeps⟩
  · rw [held.segs, feedCancel_feed]
    rfl
  · rw [held.cur, feedCancel_feed]
    rfl
  · rw [held.keeps.rd (A := At .PP_PEND 0) rfl, feedCancel_eq, feedShow_pend, none]
    rfl
  · exact (((Keeps.refl (A := At .PP_POS 0) s).feedCancel (by decide)).trans held.keeps).rd rfl

theorem segQueued_effects (s : State) (g : Seg) (unstarted : g.started = 0) (move : g.isMove = true) : let t := segQueued s g
    feedPend t = feedPend s + g.count ∧ feedMoves t = feedMoves s + 1 ∧
      rd t .PP_PEND 0 = BitVec.ofNat 32 ((feedPend s + g.count) % 2 ^ 20) ∧ rd t .PP_POS 0 = rd s .PP_POS 0 ∧ Keeps Nowhere s t := by
  let u := setFd (report s .print 21 0 3 g.count) { s.pp.feed with segs := s.pp.feed.segs ++ [g] }
  have shown : Shows u (segQueued s g) := (Shows.refl u).feedShow
  have pend : feedPend u = feedPend s + g.count := by
    show (List.map _ (s.pp.feed.segs ++ [g])).sum = _
    rw [List.map_append, List.sum_append, List.map_singleton, List.sum_singleton, unstarted]
    rfl
  have moves : feedMoves u = feedMoves s + 1 := by
    have segs : u.pp.feed.segs = s.pp.feed.segs ++ [g] := rfl
    have cur : u.pp.feed.cur = s.pp.feed.cur := rfl
    rw [feedMoves, feedMoves, segs, cur, List.countP_append, List.countP_singleton, move, if_pos rfl]
    omega
  refine ⟨?_, ?_, ?_, ?_, (Keeps.refl s).segQueued (fun _ _ => id) g⟩
  · rw [feedPend, shown.pp, ← feedPend, pend]
  · rw [feedMoves, shown.pp, ← feedMoves, moves]
  · exact (feedShow_pend u).trans (by rw [pend])
  · exact ((Keeps.refl (A := At .PP_POS 0) s).segQueued (by decide) g).rd rfl

/-! ## Chopping (R746, R747, R756) -/

theorem feedSetp_winds (h : WindsOnly s t) (w : Nat) : feedSetp t w = feedSetp s w := by
  rw [h.others]
  rfl

theorem feedSign_winds (h : WindsOnly s t) (w : Nat) : feedSign t w = feedSign s w := by
  rw [h.others]
  rfl

theorem windOn_other (s : State) (w : Fin 2) : windOf (windOn s w) (1 - w) = windOf s (1 - w) := by
  unfold windOn
  dsimp only
  split
  · exact windOf_setWind_ne s w _
  · exact windOf_setWind_ne s w _

/-- A winding that starts a period is driven where its setpoint is not 0. -/
theorem windOn_effects {w : Nat} (off : (windOf s w).on = false) : (windOf (windOn s w) w).on = decide (feedSetp s w ≠ 0) ∧
    (feedSetp s w ≠ 0 → (windOf (windOn s w) w).plus = feedSign s w) := by
  unfold windOn
  dsimp only
  split
  next zero =>
    rw [zero, windOf_setWind_same, off]
    exact ⟨rfl, fun some => absurd rfl some⟩
  next some =>
    have same (x : Winding) (k n : Nat) : windOf (startTimer (setWind s w x) k n) w = x := windOf_setWind_same s w x
    rw [same, decide_eq_true some]
    exact ⟨rfl, fun _ => rfl⟩

theorem chopWind_eq (s : State) : chopWind s = startTimer (windOn (windOn (windsOff s) 0) 1) tmrChop (usTicks (chopUs s)) := rfl

theorem windOf_startTimer (s : State) (k n w : Nat) : windOf (startTimer s k n) w = windOf s w := rfl

theorem chopWind_effects (s : State) : let t := chopWind s
    (∀ k, k < 2 → (windOf t k).on = decide (feedSetp s k ≠ 0) ∧ (feedSetp s k ≠ 0 → (windOf t k).plus = feedSign s k)) ∧
      timerOn t tmrChop = true ∧ WindsOnly s t := by
  have low := windsOff_only s
  have off {k : Nat} (two : k < 2) := windsOff_off s two
  rw [chopWind_eq]
  generalize windsOff s = v at low off ⊢
  have first : WindsOnly s (windOn v 0) := low.windOn 0
  refine ⟨fun k two => ?_, timerOn_startTimer .., (first.windOn 1).startTimer _ _⟩
  rw [windOf_startTimer]
  obtain rfl | rfl : k = 0 ∨ k = 1 := by omega
  · have kept : windOf (windOn (windOn v 0) 1) 0 = windOf (windOn v 0) 0 := windOn_other (windOn v 0) 1
    rw [kept, ← feedSetp_winds low, ← feedSign_winds low]
    exact windOn_effects (off (by decide))
  · have kept : windOf (windOn v 0) 1 = windOf v 1 := windOn_other v 0
    rw [← feedSetp_winds first, ← feedSign_winds first]
    refine windOn_effects ?_
    rw [kept]
    exact off (by decide)

theorem StepsStay.chopStart (h : StepsStay s t) : StepsStay s (chopStart t) := by
  unfold Machine.chopStart
  split
  · exact h.feedFloat
  · exact h.winds (chopWind_effects t).2.2

end Sys2Proof.Proofs
end

section
/-! # Chapters 14 and 15: conversions requested (R793) -/
namespace Sys2Proof.Proofs
open Sys2Proof.Machine Sys2Proof.Laws

variable {s t u : State} {A : Nat → Prop}

/-- A request made while the ADC is idle starts at once. -/
theorem adcRequest_idle (none : s.pp.adcCur = none) (empty : s.pp.adcWait = []) (level input : Nat) (who : AdcWho) :
    adcRequest s level input who = startTimer (setPp s { s.pp with adcCur := some ⟨level, input, who, s.cycles⟩, adcWait := [] }) tmrAdc 12 := by
  unfold adcRequest adcStart
  dsimp only
  rw [none, empty, List.nil_append]
  simp [adcPick, setPp]

/-- A request made while a conversion runs waits. -/
theorem adcRequest_busy {r : AdcReq} (busy : s.pp.adcCur = some r) (level input : Nat) (who : AdcWho) :
    adcRequest s level input who = setPp s { s.pp with adcWait := s.pp.adcWait ++ [⟨level, input, who, s.cycles⟩] } := by
  unfold adcRequest adcStart
  dsimp only
  rw [busy]
  rfl

/-- Requests of one level made together. -/
def adcRequests (level offset : Nat) (who : Nat → AdcWho) (l : List Nat) (s : State) : State :=
  l.foldl (fun s k => adcRequest s level (offset + k) (who k)) s

theorem adcRequests_busy {level offset : Nat} {who : Nat → AdcWho} {r : AdcReq} (l : List Nat) (busy : s.pp.adcCur = some r) :
    adcRequests level offset who l s =
      setPp s { s.pp with adcWait := s.pp.adcWait ++ l.map fun k => ⟨level, offset + k, who k, s.cycles⟩ } := by
  induction l generalizing s with
  | nil =>
    rw [List.map_nil, List.append_nil]
    rfl
  | cons k l ih =>
    have next : adcRequests level offset who (k :: l) s = adcRequests level offset who l (adcRequest s level (offset + k) (who k)) := rfl
    rw [next, adcRequest_busy busy, ih (by exact busy), List.map_cons]
    simp only [setPp, List.append_assoc, List.singleton_append]

/-- The paper path with a conversion in progress and others that wait. -/
def adcQueued (s : State) (r : AdcReq) (l : List AdcReq) : Paper := { s.pp with adcCur := some r, adcWait := l }

/-- Requests made together while the ADC is idle: the first starts, the others wait in their order. -/
theorem adcRequests_idle {level offset : Nat} {who : Nat → AdcWho} (none : s.pp.adcCur = none) (empty : s.pp.adcWait = []) (k : Nat) (l : List Nat) :
    let t := adcRequests level offset who (k :: l) s
    t.pp = adcQueued s ⟨level, offset + k, who k, s.cycles⟩ (l.map fun k => ⟨level, offset + k, who k, s.cycles⟩) ∧ t.io = s.io := by
  constructor
  all_goals
    have next : adcRequests level offset who (k :: l) s = adcRequests level offset who l (adcRequest s level (offset + k) (who k)) := rfl
    rw [next, adcRequest_idle none empty, adcRequests_busy (r := ⟨level, offset + k, who k, s.cycles⟩) l rfl]
    rfl

theorem Keeps.adcRequests (h : Keeps A s t) (level offset : Nat) (who : Nat → AdcWho) (l : List Nat) :
    Keeps A s (adcRequests level offset who l t) := h.foldl fun _ _ hu => hu.adcRequest ..

end Sys2Proof.Proofs
end

section
/-! # Chapter 15: half-steps, windows and fault bits of the feeder -/
namespace Sys2Proof.Proofs
open Sys2Proof.Machine Sys2Proof.Laws

variable {s t u : State} {A : Nat → Prop}

/-! ## Half-steps (R746, R750, R751) -/

/-- The step that starts, before chopping is looked at. -/
def stepShown (s : State) (h : HalfStep) : State :=
  let f := s.pp.feed
  let d := 8 / h.res
  let s1 := setFd s { windowStep f s.time h.period with
    cur := some h, holding := false, contDue := none, floating := false,
    phi := (if h.dir then f.phi + d else f.phi + 64 - d) % 64 }
  let s2 := wr s1 .PP_POS 0 (if h.dir then rd s1 .PP_POS 0 + 1 else rd s1 .PP_POS 0 - 1)
  feedShow (stopTimer (report s2 .print 21 3 1 1) tmrHold)

theorem stepStart_eq (s : State) (h : HalfStep) : stepStart s h =
    if s.pp.feed.floating then chopStart (setFd (stopTimer (stepShown s h) tmrBemf) { (stepShown s h).pp.feed with
      windA := { (stepShown s h).pp.feed.windA with overN := 0 }, windB := { (stepShown s h).pp.feed.windB with overN := 0 } })
    else stepShown s h := rfl

theorem stepStart_stays (s : State) (h : HalfStep) : StepsStay (stepShown s h) (stepStart s h) := by
  rw [stepStart_eq]
  generalize stepShown s h = v
  split
  · exact (((StepsStay.refl v).stopTimer tmrBemf).setFd _ (by rfl) (by rfl) (by rfl)).chopStart
  · exact StepsStay.refl v

theorem stepStart_effects (s : State) (h : HalfStep) : let t := stepStart s h
    t.pp.feed.cur = some h ∧ t.pp.feed.segs = s.pp.feed.segs ∧
      rd t .PP_POS 0 = (if h.dir then rd s .PP_POS 0 + 1 else rd s .PP_POS 0 - 1) ∧ Keeps Nowhere s t := by
  let f := s.pp.feed
  let s1 := setFd s { windowStep f s.time h.period with
    cur := some h, holding := false, contDue := none, floating := false,
    phi := (if h.dir then f.phi + 8 / h.res else f.phi + 64 - 8 / h.res) % 64 }
  let s2 := wr s1 .PP_POS 0 (if h.dir then rd s1 .PP_POS 0 + 1 else rd s1 .PP_POS 0 - 1)
  have shown : Shows s2 (report s2 .print 21 3 1 1) := (Shows.refl s2).report (by decide) ..
  have showsTwo : Shows (stopTimer (report s2 .print 21 3 1 1) tmrHold) (stepShown s h) := (Shows.refl _).feedShow
  have stays := stepStart_stays s h
  refine ⟨?_, ?_, ?_, ?_⟩
  · rw [stays.cur, showsTwo.pp, stopTimer_pp, shown.pp]
    rfl
  · rw [stays.segs, showsTwo.pp, stopTimer_pp, shown.pp]
    rfl
  · have kept : Keeps (At .PP_POS 0) s2 (stepStart s h) :=
      ((((Keeps.refl s2).report (by decide) 21 3 1 1).stopTimer tmrHold).feedShow (by decide)).trans stays.keeps
    exact (kept.rd rfl).trans (rd_wr_same ..)
  · exact ((((((Keeps.refl s).setFd _).wr id _).report (by decide) 21 3 1 1).stopTimer tmrHold).feedShow (fun _ _ => id)).trans stays.keeps

theorem windowEnd_short (short : s.pp.feed.floating = true ∨ (s.pp.feed.cur = none ∧ s.pp.feed.holding = false) ∨
    s.time - s.pp.feed.winAt < s.pp.feed.winLen) : windowEnd s = s := by
  refine if_pos ?_
  rcases short with floats | ⟨none, loose⟩ | early
  · exact .inl floats
  · exact .inr (.inl ⟨by rw [none]; rfl, loose⟩)
  · exact .inr (.inr (.inr early))

/-- What a queued half-step's start shows, whichever segment it is of. -/
structure StepTaken (s : State) (g : Seg) (rest : List Seg) (t : State) : Prop where
  cur : ∃ h, t.pp.feed.cur = some h ∧ h.dir = g.dir ∧ h.micro = 1
  pos : rd t .PP_POS 0 = if g.dir then rd s .PP_POS 0 + 1 else rd s .PP_POS 0 - 1
  segs : t.pp.feed.segs = if g.started + 1 = g.count then rest else { g with started := g.started + 1 } :: rest
  keeps : Keeps Nowhere s t

theorem stepTaken_of {g : Seg} {rest : List Seg} {h : HalfStep} (kept : Keeps (At .PP_POS 0) s u) (dir : h.dir = g.dir)
    (first : h.micro = 1) : StepTaken s g rest (stepStart (setFd u (takeStep u.pp.feed g rest)) h) := by
  obtain ⟨cur, segs, pos, keeps⟩ := stepStart_effects (setFd u (takeStep u.pp.feed g rest)) h
  have before : rd (setFd u (takeStep u.pp.feed g rest)) .PP_POS 0 = rd s .PP_POS 0 := kept.rd rfl
  refine ⟨⟨h, cur, dir, first⟩, ?_, segs, ((kept.weaken fun _ => False.elim).setFd _).trans keeps⟩
  rw [pos, dir, before]

theorem lineStepDue_taken {g : Seg} {rest : List Seg} (due : g.a + g.started * g.q / g.count ≤ s.time) : StepTaken s g rest (lineStepDue s g rest) := by
  unfold lineStepDue
  extract_lets d k s1
  have late : ¬ s.time < d k := Nat.not_lt.2 due
  rw [if_neg late]
  have kept : Keeps (At .PP_POS 0) s s1 := .ite ((Keeps.refl s).count (by decide) 0x49) (Keeps.refl s)
  exact stepTaken_of kept rfl rfl

theorem moveStepDue_taken (s : State) (g : Seg) (rest : List Seg) : ∃ still, StepTaken s { g with still := still } rest (moveStepDue s g rest) := by
  unfold moveStepDue
  extract_lets f still acc0 acc1 rebase s1 acc g' p cut q s2 last
  have kept : Keeps (At .PP_POS 0) s s1 := .ite (((Keeps.refl s).count (by decide) 0x4A).wb (by decide) 3 true) (Keeps.refl s)
  exact ⟨still, stepTaken_of (g := g') (kept.wr (by decide) _) rfl rfl⟩

/-! ## Fault bits (R791) -/

/-- The fault bits that still hold. -/
def feedKeep (s : State) : Quad := BitVec.ofNat 32 (2 * b01 s.pp.cover + 4 * b01 (paperAbsent s))

theorem feedKeep_bits (s : State) {k : Nat} (small : k < 5) : (feedKeep s).getLsbD k = ((k == 1 && s.pp.cover) || (k == 2 && paperAbsent s)) := by
  unfold feedKeep
  cases s.pp.cover <;> cases paperAbsent s <;> (interval_cases k <;> rfl)

/-- PP_FFAULT with the bits of a byte cleared that no longer hold. -/
def feedCleared (s : State) (v : Byte) : State :=
  wr s .PP_FFAULT 0 (rd s .PP_FFAULT 0 &&& ~~~(BitVec.ofNat 32 v.toNat &&& ~~~(feedKeep s)))

theorem feedClear_eq (s : State) (v : Byte) : feedClear s v =
    if dstate (feedCleared s v) 1 = 3 ∧ rf (feedCleared s v) .PP_FFAULT 0 4 0 = 0 then setData (feedCleared s v) 1 0 else feedCleared s v := rfl

/-- The bits of a byte in a word. -/
theorem byte_bit (v : Byte) {k : Nat} (small : k < 8) : (BitVec.ofNat 32 v.toNat).getLsbD k = v.getLsbD k := by
  have byte : v.toNat < 2 ^ 8 := v.isLt
  rw [BitVec.getLsbD_ofNat, decide_eq_true (by omega : k < 32), Bool.true_and, BitVec.testBit_toNat]

theorem feedCleared_bits (s : State) (v : Byte) {k : Nat} (small : k < 5) : rb (feedCleared s v) .PP_FFAULT 0 k =
    (rb s .PP_FFAULT 0 k && !(v.getLsbD k && !(k == 1 && s.pp.cover) && !(k == 2 && paperAbsent s))) := by
  have wide : decide (k < 32) = true := decide_eq_true (by omega)
  rw [feedCleared, rb, rd_wr_same, BitVec.getLsbD_and, BitVec.getLsbD_not, BitVec.getLsbD_and, BitVec.getLsbD_not, byte_bit v (by omega),
    feedKeep_bits s small, wide, Bool.true_and, Bool.true_and, Bool.not_or, Bool.and_assoc, ← rb]

/-- A field whose bits are all 0 is 0. -/
theorem fld_zero {v : Quad} {hi : Nat} (clear : ∀ k, k < hi + 1 → v.getLsbD k = false) : fld v hi 0 = 0 := by
  refine Nat.eq_of_testBit_eq fun k => ?_
  rw [fld, Nat.testBit_mod_two_pow, Nat.testBit_div_two_pow, BitVec.testBit_toNat, Nat.zero_testBit, Nat.sub_zero]
  by_cases inside : k < hi + 1
  · exact (congrArg _ (clear k inside)).trans (Bool.and_false _)
  · rw [decide_eq_false inside, Bool.false_and]

theorem feedClear_effects (s : State) (v : Byte) : let t := feedClear s v
    (∀ k, k < 5 → rb t .PP_FFAULT 0 k = (rb s .PP_FFAULT 0 k && !(v.getLsbD k && !(k == 1 && s.pp.cover) && !(k == 2 && paperAbsent s)))) ∧
      (dstate s 1 = 3 → (∀ k, k < 5 → rb t .PP_FFAULT 0 k = false) → dstate t 1 = 0) ∧ Keeps Nowhere s t := by
  let s1 := feedCleared s v
  have kept : Keeps Nowhere s s1 := (Keeps.refl s).wr id _
  have state : dstate s1 1 = dstate s 1 := ((Keeps.refl (A := At .PP_FSTATE 0) s).wr (by decide) _).dstate (u := 1) rfl
  have bits (k : Nat) : rb (feedClear s v) .PP_FFAULT 0 k = rb s1 .PP_FFAULT 0 k := by
    rw [feedClear_eq]
    split
    · exact rb_congr (rd_setUnit_ne _ _ _ _ (by decide)) k
    · rfl
  refine ⟨fun k small => (bits k).trans (feedCleared_bits s v small), fun faulted clear => ?_, ?_⟩
  · have none : rf s1 .PP_FFAULT 0 4 0 = 0 := fld_zero fun k small => (bits k).symm.trans (clear k small)
    rw [feedClear_eq, if_pos ⟨state.trans faulted, none⟩]
    exact dstate_setData s1 1 (by decide)
  · rw [feedClear_eq]
    exact .ite (kept.setData (u := 1) id 0) kept

end Sys2Proof.Proofs
end

section
/-! # Chapter 15: the feeder's effects -/
namespace Sys2Proof.Proofs
open Sys2Proof.Machine Sys2Proof.Laws

variable {s t u : State} {A : Nat → Prop}

theorem halfStepDue_next {g : Seg} {rest : List Seg} (still : windowEnd s = s) (none : s.pp.feed.cur = none) (queue : s.pp.feed.segs = g :: rest) :
    halfStepDue s = if dstate s 1 = 3 then s else if g.isMove then moveStepDue s g rest else lineStepDue s g rest := by
  unfold halfStepDue
  rw [still]
  dsimp only
  rw [none, queue]

theorem halfStepDue_taken {g : Seg} {rest : List Seg} (still : windowEnd s = s) (none : s.pp.feed.cur = none) (queue : s.pp.feed.segs = g :: rest)
    (sound : dstate s 1 ≠ 3) (due : g.isMove = true ∨ g.a + g.started * g.q / g.count ≤ s.time) :
    ∃ x, StepTaken s { g with still := x } rest (halfStepDue s) := by
  rw [halfStepDue_next still none queue, if_neg sound]
  by_cases move : g.isMove = true
  · rw [if_pos move]
    exact moveStepDue_taken s g rest
  · rw [if_neg move]
    exact ⟨g.still, lineStepDue_taken (due.resolve_left move)⟩

/-- The feeder between two half-steps. -/
def stepEnded (s : State) (h : HalfStep) : Feeder :=
  let f := s.pp.feed
  let late := h.moveLast && h.cont && !(f.segs.any fun g => g.isMove)
  { f with cur := none, lastEnd := s.time, lastStop := h.moveLast && !h.cont, contDue := (if late then some s.time else f.contDue) }

theorem microStep_ends {h : HalfStep} (cur : s.pp.feed.cur = some h) (whole : h.res ≤ h.micro) (due : h.at_ + h.period ≤ s.time)
    (still : windowEnd s = s) (sound : dstate s 1 ≠ 3) : microStep s =
      feedHold (feedShow (if h.moveLast then moveEnds (setFd s (stepEnded s h)) h.irq false else setFd s (stepEnded s h))) := by
  unfold microStep
  dsimp only
  rw [cur]
  dsimp only
  rw [if_neg (Nat.not_lt.2 whole), if_neg (Nat.not_lt.2 due), still, if_neg sound]
  rfl

/-- PP_MOVESTAT's LAST is not what the feeder shows. -/
theorem feedShow_last (s : State) : rb (feedShow s) .PP_MOVESTAT 0 4 = rb s .PP_MOVESTAT 0 4 := by
  have shown : rb (feedShown s) .PP_MOVESTAT 0 4 = rb s .PP_MOVESTAT 0 4 := by
    rw [feedShown, rb_wb_ne _ _ _ _ _ _ _ _ (by decide), rb_wf_apart _ _ _ _ (by decide) (by decide) (by decide), rb_wr_ne _ _ _ (by decide)]
  rw [feedShow_eq]
  split
  · exact (rb_congr (rd_setUnit_ne _ _ _ _ (by decide)) 4).trans shown
  · exact shown

theorem microStep_ended {h : HalfStep} (cur : s.pp.feed.cur = some h) (whole : h.res ≤ h.micro) (due : h.at_ + h.period ≤ s.time)
    (still : windowEnd s = s) (sound : dstate s 1 ≠ 3) : let t := microStep s
    t.pp.feed.cur = none ∧ t.pp.feed.lastEnd = s.time ∧ (h.moveLast = true → rb t .PP_MOVESTAT 0 4 = false) ∧
      rd t .PP_POS 0 = rd s .PP_POS 0 ∧ Keeps Nowhere s t := by
  let s1 := setFd s (stepEnded s h)
  let s2 := if h.moveLast then moveEnds s1 h.irq false else s1
  have ended : Shows s1 s2 := .ite ((Shows.refl s1).moveEnds ..) (Shows.refl s1)
  have kept {B : Nat → Prop} (apart : ¬ B (regAddr .PP_MOVESTAT 0)) : Keeps B s s2 :=
    .ite (((Keeps.refl s).setFd (stepEnded s h)).moveEnds apart ..) ((Keeps.refl s).setFd _)
  have shown : Shows s2 (feedShow s2) := (Shows.refl s2).feedShow
  have held : StepsStay (feedShow s2) (feedHold (feedShow s2)) := (StepsStay.refl _).feedHold
  rw [microStep_ends cur whole due still sound]
  refine ⟨?_, ?_, fun last => ?_, ?_, ((kept id).feedShow (fun _ _ => id)).trans held.keeps⟩
  · rw [held.cur, shown.pp, ended.pp]
    rfl
  · rw [held.lastEnd, shown.pp, ended.pp]
    rfl
  · have here : s2 = moveEnds s1 h.irq false := if_pos last
    rw [held.keeps.rb (A := At .PP_MOVESTAT 0) rfl, feedShow_last, here]
    have marked : rb (wb s1 .PP_MOVESTAT 0 4 false) .PP_MOVESTAT 0 4 = false := rb_wb_same _ _ _ _ _ (by decide)
    unfold moveEnds
    split
    · rw [raise_send (by decide)]
      exact marked
    · exact marked
  · exact (((kept (B := At .PP_POS 0) (by decide)).feedShow (by decide)).trans held.keeps).rd rfl

theorem windowEnd_judged (grounded : s.pp.feed.floating = false) (holds : s.pp.feed.holding = true) (whole : s.pp.feed.winLen ≤ s.time - s.pp.feed.winAt)
    (some : s.time - s.pp.feed.winAt ≠ 0) : rd (windowEnd s) .PP_RIPLAST 0 =
      BitVec.ofNat 32 (effort (windowOn s) (s.time - s.pp.feed.winAt) % 256) := by
  have ends : ¬ (s.pp.feed.floating = true ∨ (s.pp.feed.cur.isNone = true ∧ s.pp.feed.holding = false) ∨ s.time - s.pp.feed.winAt = 0 ∨
      s.time - s.pp.feed.winAt < s.pp.feed.winLen) := by
    rw [grounded, holds]
    simp only [Bool.false_eq_true, Bool.true_eq_false, and_false, false_or]
    omega
  unfold windowEnd
  dsimp only
  rw [if_neg ends]
  generalize effort (windowOn s) (s.time - s.pp.feed.winAt) = e
  exact ((((Keeps.refl (A := At .PP_RIPLAST 0) _).judge (by decide) (by decide) e).feedShow (by decide)).rd rfl).trans (rd_wr_same ..)

/-- Settles O41: the feeder's commands and timers, one equation or frame for each. -/
theorem feederEffects : Obligations.FeederEffects := by
  intro s req v b w live f frame idleAdc
  refine ⟨fun may off good closed => ?enable, fun may off bad => ?refused, fun may on => ?disable, fun may => ?cancel, fun may bad => ?badMove,
    fun may some few fed free => ?move, fun g rest none queue loose sound => ⟨fun due => ?step, fun line early => ?early⟩,
    fun h cur more due => ?micro, fun h cur whole due short sound => ?ended, fun due holds none => ?floats, fun due drives => ?chop,
    fun d period near => ?limit, fun on due idle => ?convert, fun due holds => ⟨fun stops grounded => ?timeout, fun stays => ?keep⟩,
    fun floats => ?window, fun grounded holds whole some past => ?judged, fun floats due idle => ?bemf, fun may => ?clear⟩
  case enable =>
    obtain ⟨bit, management, state, paper, kept⟩ := feedEnable_effects s
    exact Does.intro ((writeReg_taken may feedEnable).trans (congrArg _ (feedEnable_enabled off good closed))) ⟨bit, management, state, paper, kept.frame⟩
  case refused =>
    have code := feedCfgCode_small s
    have row : exec (.feederEnable req) s = .next (wf (wb s .PP_FSTAT 0 0 true) .PP_FSTAT 0 2 1 (feedCfgCode s)) :=
      (writeReg_taken may feedEnable).trans (congrArg _ (feedEnable_refused off bad))
    refine Does.intro row ⟨?_, ?_, ?_, (((Keeps.refl (A := Nowhere) s).wb id 0 true).wf id 2 1 _).frame⟩
    · exact (((Keeps.refl (A := At .PP_FCTL 0) s).wb (by decide) 0 true).wf (by decide) 2 1 _).rb rfl 0 |>.trans off
    · rw [rb_wf_apart _ _ _ _ (by decide) (by decide) (by decide), rb_wb_same _ _ _ _ _ (by decide)]
    · rw [rf_wf_same _ _ _ _ (by decide) (by decide)]
      omega
  case disable =>
    obtain ⟨bit, management, state, work, kept⟩ := feedDisable_effects on
    exact Does.intro (writeReg_taken may feedDisable) ⟨bit, management, state, work, kept.frame⟩
  case cancel =>
    obtain ⟨segs, cur, pend, pos, kept⟩ := feedCtlCancel_effects s
    exact Does.intro (writeReg_taken may feedCtlCancel) ⟨segs, cur, pend, pos, kept.frame⟩
  case badMove => exact (writeReg_taken may fun s => feedMove s v).trans (congrArg _ (if_pos bad))
  case move =>
    let g : Seg := { isMove := true, dir := !(v.getLsbD 16), count := fld v 15 0, started := 0, a := 0, q := 0,
                     tstep := rf s .PP_TSTEP 0 19 0, tstart := rf s .PP_TSTART 0 19 0, rampn := rn s .PP_RAMPN 0,
                     ramp := v.getLsbD 19, cont := v.getLsbD 17, irq := v.getLsbD 18, still := false }
    have accepts : ¬ (fld v 15 0 = 0 ∨ 4 ≤ feedMoves s ∨ feedOk s = false) := by
      rw [fed]
      simp only [Bool.true_eq_false, or_false]
      omega
    have row : exec (.feedMove req v) s = .next (segQueued s g) := by
      refine (writeReg_taken may fun s => feedMove s v).trans (congrArg _ ((if_neg accepts).trans ?_))
      exact (feedAccept_queued free g).trans (if_neg some)
    obtain ⟨pend, moves, shown, pos, kept⟩ := segQueued_effects s g rfl rfl
    exact Does.intro row ⟨pend, moves, shown, pos, kept.frame⟩
  case step =>
    obtain ⟨x, ⟨h, cur, dir, first⟩, pos, segs, kept⟩ := halfStepDue_taken (windowEnd_short (.inr (.inl ⟨none, loose⟩))) none queue sound due
    refine Does.intro (liveIn_live live halfStepDue) ⟨⟨h, cur, dir, first⟩, pos, ?_, kept.frame⟩
    split
    next last => exact segs.trans (if_pos last)
    · rfl
  case early =>
    refine (liveIn_live live halfStepDue).trans (congrArg _ ?_)
    rw [halfStepDue_next (windowEnd_short (.inr (.inl ⟨none, loose⟩))) none queue, if_neg sound, line, if_neg Bool.false_ne_true]
    exact if_pos early
  case micro =>
    refine (liveIn_live live microStep).trans (congrArg _ ?_)
    unfold microStep
    dsimp only
    rw [cur]
    exact (if_pos more).trans (if_neg (Nat.not_lt.2 due))
  case ended =>
    obtain ⟨none, last, cleared, pos, kept⟩ := microStep_ended cur whole due (windowEnd_short (.inr (.inr short))) sound
    exact Does.intro (liveIn_live live microStep) ⟨none, last, cleared, pos, kept.frame⟩
  case floats =>
    have row : exec .chopPeriodStart s = .next (feedFloat s) := by
      refine (liveIn_live live fun s => if timerDue s tmrChop then chopStart s else s).trans (congrArg _ ((if_pos due).trans (if_pos ?_)))
      rw [holds, none]
      rfl
    have stays : StepsStay s (feedFloat s) := (StepsStay.refl s).feedFloat
    exact Does.intro row ⟨fun k two => feedFloat_off s two, feedFloat_chop s, feedFloat_floats, stays.io, (stays.keeps (A := Nowhere)).frame⟩
  case chop =>
    have row : exec .chopPeriodStart s = .next (chopWind s) := by
      refine (liveIn_live live fun s => if timerDue s tmrChop then chopStart s else s).trans (congrArg _ ((if_pos due).trans (if_neg ?_)))
      rcases drives with loose | some
      · rw [loose, Bool.false_and]
        exact Bool.false_ne_true
      · rw [beq_false_of_ne some, Bool.and_false]
        exact Bool.false_ne_true
    obtain ⟨driven, chops, only⟩ := chopWind_effects s
    exact Does.intro row ⟨driven, chops, only.io, (only.keeps (A := Nowhere)).frame⟩
  case limit =>
    have row : exec (.chopOntimeLimit w) s = .next (windOff s w) := by
      refine (liveIn_live live fun s => match mget (fun _ => (none : Option Nat)) s.timers tmrChop with
        | some d => if d ≤ s.time + usTicks 4 then windOff s w else s
        | none => s).trans (congrArg _ ?_)
      rw [period]
      exact if_pos near
    have only : WindsOnly s (windOff s w) := (WindsOnly.refl s).windOff w
    exact Does.intro row ⟨windOff_off s w, windOff_other s w, only.io, (only.keeps (A := Nowhere)).frame⟩
  case convert =>
    have row : exec (.windingCurrentConversion w) s = .next (adcRequest (startTimer s (tmrConv w) (usTicks 2)) 0 (2 + w) (.chop w)) :=
      (liveIn_live live fun s => if (windOf s w).on ∧ timerDue s (tmrConv w) then
        adcRequest (startTimer s (tmrConv w) (usTicks 2)) 0 (2 + w) (.chop w) else s).trans (congrArg _ (if_pos ⟨on, due⟩))
    rw [adcRequest_idle (by exact idle.1) (by exact idle.2)] at row
    exact Does.intro row ⟨rfl, rfl, rfl, rfl, SameMemory.refl s⟩
  case timeout =>
    let s1 := stopTimer s tmrHold
    have row : exec .holdTimeout s = .next (feedShow (feedFloat s1)) :=
      (liveIn_live live fun s => if timerDue s tmrHold ∧ s.pp.feed.holding then
        (if rb (stopTimer s tmrHold) .PP_FCFG 0 7 then feedShow (feedFloat (stopTimer s tmrHold)) else stopTimer s tmrHold) else s).trans
        (congrArg _ ((if_pos ⟨due, holds⟩).trans (if_pos stops)))
    have shown : Shows (feedFloat s1) (feedShow (feedFloat s1)) := (Shows.refl _).feedShow
    have stays : StepsStay s1 (feedFloat s1) := (StepsStay.refl s1).feedFloat
    obtain ⟨floating, holding⟩ := feedFloat_floats (s := s1) grounded
    have off (k : Nat) (two : k < 2) := feedFloat_off s1 two
    refine Does.intro row ⟨?_, ?_, ?_, ?_, ((((Keeps.refl s).stopTimer tmrHold).trans stays.keeps).feedShow (A := Nowhere) (fun _ _ => id)).frame⟩
    · rw [shown.pp, floating]
    · rw [shown.pp, holding]
    · rw [shown.pp]
      exact off 0 (by decide)
    · rw [shown.pp]
      exact off 1 (by decide)
  case keep =>
    refine (liveIn_live live fun s => if timerDue s tmrHold ∧ s.pp.feed.holding then
      (if rb (stopTimer s tmrHold) .PP_FCFG 0 7 then feedShow (feedFloat (stopTimer s tmrHold)) else stopTimer s tmrHold) else s).trans
      (congrArg _ ((if_pos ⟨due, holds⟩).trans (if_neg ?_)))
    intro stops
    exact Bool.false_ne_true (stays.symm.trans stops)
  case window => exact (liveIn_live live windowEnd).trans (congrArg _ (windowEnd_short (.inl floats)))
  case judged =>
    have length : s.time - s.pp.feed.winAt ≠ 0 := fun nothing => some (Nat.le_antisymm (Nat.le_of_sub_eq_zero nothing) past)
    exact Does.intro (liveIn_live live windowEnd) ⟨windowEnd_judged grounded holds whole length,
      ((Keeps.refl (A := Nowhere) s).windowEnd (fun _ _ => id) id id).frame⟩
  case bemf =>
    let s1 := startTimer s tmrBemf (usTicks 250)
    have row : exec .bemfSample s = .next (adcRequests 2 4 (fun k => .bemf (4 + k)) [0, 1, 2, 3] s1) :=
      (liveIn_live live fun s => if s.pp.feed.floating ∧ (timerDue s tmrBemf ∨ timerOn s tmrBemf = false) then
        [4, 5, 6, 7].foldl (fun s i => adcRequest s 2 i (.bemf i)) (startTimer s tmrBemf (usTicks 250)) else s).trans
        (congrArg _ (if_pos ⟨floats, .inl due⟩))
    obtain ⟨queue, io⟩ := adcRequests_idle (s := s1) (level := 2) (offset := 4) (who := fun k => .bemf (4 + k)) idle.1 idle.2 0 [1, 2, 3]
    refine Does.intro row ⟨?_, ?_, io, (((Keeps.refl (A := Nowhere) s).startTimer tmrBemf (usTicks 250)).adcRequests 2 4 _ _).frame⟩
    · rw [queue]
      rfl
    · rw [queue]
      rfl
  case clear =>
    obtain ⟨bits, idle, kept⟩ := feedClear_effects s b
    exact Does.intro (writeReg_taken may fun s => feedClear s b) ⟨bits, idle, kept.frame⟩

end Sys2Proof.Proofs
end

section
/-! # Chapter 15: the cutter (R776-R779, R790, R791) -/
namespace Sys2Proof.Proofs
open Sys2Proof.Machine Sys2Proof.Laws

variable {s t u : State} {A : Nat → Prop}

theorem Keeps.setCut (h : Keeps A s t) (c : CutPhase) (drv brake : Bool) : Keeps A s (setCut t c drv brake) := h.setPp _

theorem Keeps.cutTimersOff (h : Keeps A s t) : Keeps A s (cutTimersOff t) := h.foldl fun _ k hu => hu.stopTimer k

theorem Keeps.cutLast (h : Keeps A s t) (apart : ¬ A (regAddr .PP_CSTAT 0)) (n : Nat) : Keeps A s (cutLast t n) := h.wf apart ..

theorem pp_stopTimers (l : List Nat) (s : State) : (l.foldl stopTimer s).pp = s.pp := by
  induction l generalizing s with
  | nil => rfl
  | cons k l ih => exact ih (stopTimer s k)

/-- Every address: what `Keeps` then says is that no register differs. -/
abbrev Everywhere : Nat → Prop := fun _ => True

theorem rf_cutLast (s : State) {n : Nat} (small : n < 8) : rf (cutLast s n) .PP_CSTAT 0 2 0 = n :=
  (rf_wf_same _ _ _ _ (by decide) (by decide)).trans (Nat.mod_eq_of_lt small)

theorem cutRefusal_lt (s : State) : cutRefusal s < 8 := by
  unfold cutRefusal
  repeat' split
  all_goals decide

/-! ## The cycle -/

/-- The cutter's states after a phase begins. -/
structure CutDrives (s t : State) (c : CutPhase) (drv brake : Bool) : Prop where
  pp : t.pp = { s.pp with cut := c, cutDrv := drv, brake := brake }
  keeps : Keeps Nowhere s t

theorem CutDrives.drive {c : CutPhase} {drv brake : Bool} (h : CutDrives s t c drv brake) :
    t.pp.cut = c ∧ t.pp.cutDrv = drv ∧ t.pp.brake = brake ∧ t.thr = s.thr ∧ SameMemory s t := by
  refine ⟨?_, ?_, ?_, h.keeps.frame⟩ <;> rw [h.pp]

theorem CutDrives.of_setCut (h : Keeps Nowhere s t) (same : t.pp = s.pp) (c : CutPhase) (drv brake : Bool) :
    CutDrives s (setCut t c drv brake) c drv brake := ⟨by rw [← same]; rfl, h.setCut ..⟩

theorem CutDrives.startTimer {c : CutPhase} {drv brake : Bool} (h : CutDrives s t c drv brake) (k n : Nat) :
    CutDrives s (startTimer t k n) c drv brake := ⟨h.pp, h.keeps.startTimer ..⟩

theorem CutDrives.shows {c : CutPhase} {drv brake : Bool} (h : CutDrives s t c drv brake) (shown : Shows t u) (keeps : Keeps Nowhere t u) :
    CutDrives s u c drv brake := ⟨shown.pp.trans h.pp, h.keeps.trans keeps⟩

theorem CutDrives.setData {c : CutPhase} {drv brake : Bool} (h : CutDrives s t c drv brake) (d : Nat) :
    CutDrives s (setData t 2 d) c drv brake := h.shows ((Shows.refl t).setData 2 d) ((Keeps.refl t).setData (u := 2) id d)

theorem cutGo_starts (ready : cutRefusal s = 0) : let t := cutGo s
    CutDrives s t .starting false false ∧ dstate t 2 = 1 ∧ timerOn t tmrCutRise = true ∧ timerOn t tmrCutLeave = true ∧ timerOn t tmrCutTmo = true := by
  let s1 := setData s 2 1
  have active : dstate s1 2 = 1 := dstate_setData s 2 (by decide)
  have drives : CutDrives s (setCut s1 .starting false false) .starting false false :=
    .of_setCut ((Keeps.refl s).setData (u := 2) id 1) ((Shows.refl s).setData 2 1).pp ..
  unfold cutGo
  rw [if_neg (not_not_intro ready)]
  have still : Keeps Everywhere s1 (setCut s1 .starting false false) := (Keeps.refl s1).setCut ..
  refine ⟨((drives.startTimer ..).startTimer ..).startTimer .., ?_, ?_, timerOn_startTimer .., ?_⟩
  · exact ((((still.startTimer ..).startTimer ..).startTimer ..).dstate (u := 2) trivial).trans active
  · rw [timerOn_startTimer_ne _ _ (by decide), timerOn_startTimer_ne _ _ (by decide), timerOn_startTimer]
  · rw [timerOn_startTimer_ne _ _ (by decide), timerOn_startTimer]

theorem cutGo_refused (refused : cutRefusal s ≠ 0) : let t := cutGo s
    rf t .PP_CSTAT 0 2 0 = cutRefusal s ∧ t.pp = s.pp ∧ dstate t 2 = dstate s 2 ∧ Keeps Nowhere s t := by
  unfold cutGo
  rw [if_pos refused, raise_send (by decide)]
  exact ⟨rf_cutLast s (cutRefusal_lt s), rfl, ((Keeps.refl (A := At .PP_CSTATE 0) s).cutLast (by decide) _).dstate (u := 2) rfl,
    ((Keeps.refl s).cutLast id _).send ..⟩

/-! ## Faults (R778) -/

/-- LAST and the fault's bit. -/
def cutFaulted (s : State) (bit last : Nat) : State := wb (cutLast s last) .PP_CFAULT 0 bit true

/-- The drive's fall while the cutter moves. -/
def cutFalls (s : State) (bit last : Nat) : State :=
  startTimer (setCut (cutTimersOff (cutFaulted s bit last)) .coasting false s.pp.brake) tmrCutBrake (usTicks 50)

theorem cutFault_moving (moving : s.pp.cut ≠ .idle) (bit last : Nat) :
    cutFault s bit last = raise (setData (cutFalls s bit last) 2 3) .print 74 := by
  have moves : (s.pp.cut != .idle) = true := by simpa using moving
  have falls : (if (s.pp.cut != .idle) = true then
      startTimer (setCut (cutTimersOff (cutFaulted s bit last)) .coasting false s.pp.brake) tmrCutBrake (usTicks 50)
      else cutFaulted s bit last) = cutFalls s bit last := if_pos moves
  rw [← falls]
  rfl

theorem cutFault_effects (moving : s.pp.cut ≠ .idle) {bit last : Nat} (b32 : bit < 32) (small : last < 8) : let t := cutFault s bit last
    CutDrives s t .coasting false s.pp.brake ∧ rb t .PP_CFAULT 0 bit = true ∧ rf t .PP_CSTAT 0 2 0 = last ∧ dstate t 2 = 3 := by
  let s1 := cutFaulted s bit last
  have still : Keeps Everywhere (cutFaulted s bit last) (cutFalls s bit last) :=
    (((Keeps.refl (cutFaulted s bit last)).cutTimersOff).setCut .coasting false s.pp.brake).startTimer tmrCutBrake (usTicks 50)
  have after {B : Nat → Prop} (state : ¬ B (regAddr .PP_CSTATE 0)) : Keeps B (cutFalls s bit last) (setData (cutFalls s bit last) 2 3) :=
    (Keeps.refl _).setData (u := 2) state 3
  have same : (cutTimersOff (cutFaulted s bit last)).pp = s.pp := pp_stopTimers _ _
  have falls : CutDrives s (cutFalls s bit last) .coasting false s.pp.brake :=
    (CutDrives.of_setCut (((Keeps.refl s).cutLast id last).wb id bit true).cutTimersOff same ..).startTimer ..
  rw [cutFault_moving moving, raise_send (by decide)]
  refine ⟨(falls.setData 3).shows ((Shows.refl _).send ..) ((Keeps.refl _).send ..), ?_, ?_, dstate_setData _ 2 (by decide)⟩
  · exact ((after (B := At .PP_CFAULT 0) (by decide)).rb rfl bit).trans ((still.rb trivial bit).trans (rb_wb_same (cutLast s last) _ _ _ _ b32))
  · refine ((after (B := At .PP_CSTAT 0) (by decide)).rf rfl 2 0).trans ((still.rf trivial 2 0).trans ?_)
    exact (rf_congr (rd_wb_ne (cutLast s last) _ _ _ _ _ _ (by decide)) 2 0).trans (rf_cutLast s small)

/-! ## Disable and fault bits (R790, R791) -/

theorem cutDisable_running (on : rb s .PP_CCTL 0 0 = true) (active : dstate s 2 = 1) : let t := cutDisable s
    CutDrives s t .braking false true ∧ rb t .PP_CCTL 0 0 = false ∧ mgmt t 2 = 0 ∧ rf t .PP_CSTAT 0 2 0 = 7 := by
  let s1 := wb s .PP_CCTL 0 0 false
  let s2 := setUnit s1 2 0 2
  let s3 := setCut (cutTimersOff s2) .braking false true
  have still : dstate s1 2 = 1 := ((Keeps.refl (A := At .PP_CSTATE 0) s).wb (by decide) 0 false).dstate (u := 2) rfl |>.trans active
  have row : cutDisable s = startTimer (cutLast s3 7) tmrCutEnd (msTicks (atLeast1 (rn s1 .PP_BRKT 0))) := by
    unfold cutDisable
    exact (if_neg (ne_false_of_eq_true on)).trans (if_neg (not_not_intro still))
  have same : (cutTimersOff s2).pp = s.pp := (pp_stopTimers _ s2).trans (((Shows.refl s).wb .PP_CCTL 0 0 false).setUnit 2 0 2).pp
  have kept : Keeps Nowhere s s2 := ((Keeps.refl s).wb id 0 false).setUnit (u := 2) id 0 2
  have drives : CutDrives s s3 .braking false true := .of_setCut kept.cutTimersOff same ..
  rw [row]
  refine ⟨(drives.shows ((Shows.refl _).wf ..) ((Keeps.refl _).wf id ..)).startTimer .., ?_, ?_, ?_⟩
  · have later : Keeps (At .PP_CCTL 0) s1 (cutLast s3 7) :=
      ((((Keeps.refl s1).setUnit (u := 2) (by decide) 0 2).cutTimersOff).setCut .braking false true).cutLast (by decide) 7
    exact ((later.startTimer ..).rb rfl 0).trans (rb_wb_same s _ _ _ _ (by decide))
  · have later : Keeps (At .PP_CSTATE 0) s2 (cutLast s3 7) :=
      (((Keeps.refl s2).cutTimersOff).setCut .braking false true).cutLast (by decide) 7
    exact ((later.startTimer ..).mgmt (u := 2) rfl).trans (setUnit_states s1 2 (by decide) (by decide)).1
  · exact (((Keeps.refl (A := Everywhere) _).startTimer ..).rf trivial 2 0).trans (rf_cutLast s3 (by decide))

theorem cutDisable_still (on : rb s .PP_CCTL 0 0 = true) (still : dstate s 2 ≠ 1) : let t := cutDisable s
    t.pp = s.pp ∧ rb t .PP_CCTL 0 0 = false ∧ mgmt t 2 = 0 ∧ dstate t 2 = dstate s 2 ∧ Keeps Nowhere s t := by
  let s1 := wb s .PP_CCTL 0 0 false
  have same : dstate s1 2 = dstate s 2 := ((Keeps.refl (A := At .PP_CSTATE 0) s).wb (by decide) 0 false).dstate (u := 2) rfl
  have row : cutDisable s = setMgmt s1 2 0 := by
    unfold cutDisable
    exact (if_neg (ne_false_of_eq_true on)).trans (if_pos (same ▸ still))
  rw [row]
  refine ⟨((Shows.refl s1).setMgmt 2 0).pp, ?_, mgmt_setMgmt s1 2 (by decide), (dstate_setMgmt s1 2 (by decide)).trans same,
    ((Keeps.refl s).wb id 0 false).setMgmt (u := 2) id 0⟩
  exact (rb_congr (rd_setUnit_ne s1 2 0 _ (by decide)) 0).trans (rb_wb_same s _ _ _ _ (by decide))

/-- PP_CFAULT with the bits of a byte cleared that no longer hold. -/
def cutCleared (s : State) (v : Byte) : State :=
  wr s .PP_CFAULT 0 (rd s .PP_CFAULT 0 &&& ~~~(BitVec.ofNat 32 v.toNat &&& ~~~(BitVec.ofNat 32 (4 * b01 s.pp.cover))))

theorem cutClear_eq (s : State) (v : Byte) : cutClear s v =
    if dstate (cutCleared s v) 2 = 3 ∧ rf (cutCleared s v) .PP_CFAULT 0 2 0 = 0 then setData (cutCleared s v) 2 0 else cutCleared s v := rfl

theorem cutCleared_bits (s : State) (v : Byte) {k : Nat} (small : k < 3) : rb (cutCleared s v) .PP_CFAULT 0 k =
    (rb s .PP_CFAULT 0 k && !(v.getLsbD k && !(k == 2 && s.pp.cover))) := by
  have wide : decide (k < 32) = true := decide_eq_true (by omega)
  have held : (BitVec.ofNat 32 (4 * b01 s.pp.cover)).getLsbD k = (k == 2 && s.pp.cover) := by
    cases s.pp.cover <;> (interval_cases k <;> rfl)
  rw [cutCleared, rb, rd_wr_same, BitVec.getLsbD_and, BitVec.getLsbD_not, BitVec.getLsbD_and, BitVec.getLsbD_not, byte_bit v (by omega),
    held, wide, Bool.true_and, Bool.true_and, ← rb]

theorem cutClear_effects (s : State) (v : Byte) : let t := cutClear s v
    (∀ k, k < 3 → rb t .PP_CFAULT 0 k = (rb s .PP_CFAULT 0 k && !(v.getLsbD k && !(k == 2 && s.pp.cover)))) ∧
      (dstate s 2 = 3 → (∀ k, k < 3 → rb t .PP_CFAULT 0 k = false) → dstate t 2 = 0) ∧ t.pp = s.pp ∧ Keeps Nowhere s t := by
  let s1 := cutCleared s v
  have kept : Keeps Nowhere s s1 := (Keeps.refl s).wr id _
  have state : dstate s1 2 = dstate s 2 := ((Keeps.refl (A := At .PP_CSTATE 0) s).wr (by decide) _).dstate (u := 2) rfl
  have bits (k : Nat) : rb (cutClear s v) .PP_CFAULT 0 k = rb s1 .PP_CFAULT 0 k := by
    rw [cutClear_eq]
    split
    · exact rb_congr (rd_setUnit_ne _ _ _ _ (by decide)) k
    · rfl
  refine ⟨fun k small => (bits k).trans (cutCleared_bits s v small), fun faulted clear => ?_, ?_, ?_⟩
  · have none : rf s1 .PP_CFAULT 0 2 0 = 0 := fld_zero fun k small => (bits k).symm.trans (clear k small)
    rw [cutClear_eq, if_pos ⟨state.trans faulted, none⟩]
    exact dstate_setData s1 2 (by decide)
  · have shown : Shows s1 (cutClear s v) := by
      rw [cutClear_eq]
      exact .ite ((Shows.refl s1).setData 2 0) (Shows.refl s1)
    exact shown.pp
  · rw [cutClear_eq]
    exact .ite (kept.setData (u := 2) id 0) kept

end Sys2Proof.Proofs
end

section
/-! # Chapter 15: drawers, bell and LEDs (R782-R787, R790) -/
namespace Sys2Proof.Proofs
open Sys2Proof.Machine Sys2Proof.Laws

variable {s t u : State} {A : Nat → Prop}

/-! ## Drawers -/

/-- The state register of a drawer is apart from a register that is no drawer's. -/
theorem drawerReg (k : Fin 2) : unitReg (3 + k) = (.PP_DSTATE, k.val) := by
  fin_cases k <;> rfl

theorem drawerState_apart : ∀ k : Fin 2, regAddr .PP_DSTATE k ≠ regAddr .PP_DCTL 0 := by decide

theorem Keeps.setDrawer (h : Keeps A s t) {k : Fin 2} (apart : ¬ A (regAddr .PP_DSTATE k)) (x : Drawer) : Keeps A s (setDrawer t k x) :=
  (h.setPp _).setData (u := 3 + k) (by rwa [drawerReg]) _

/-- The paper path with a drawer replaced. -/
def withDrawer (p : Paper) (k : Nat) (x : Drawer) : Paper := { p with drw := mset (fun _ => Drawer.reset) p.drw k x }

theorem Shows.setDrawer (s : State) (k : Nat) (x : Drawer) : Shows (setPp s (withDrawer s.pp k x)) (setDrawer s k x) :=
  (Shows.refl _).setData _ _

theorem drawerOf_setDrawer (s : State) (k : Nat) (x : Drawer) : drawerOf (setDrawer s k x) k = x := by
  rw [drawerOf, (Shows.setDrawer s k x).pp]
  exact mget_mset_same (fun _ => Drawer.reset) s.pp.drw k x

theorem timers_setDrawer (s : State) (k : Nat) (x : Drawer) : (setDrawer s k x).timers = s.timers := (Shows.setDrawer s k x).timers

theorem mgmt_setDrawer (s : State) (k : Nat) (x : Drawer) : mgmt (setDrawer s k x) (3 + k) = mgmt s (3 + k) := by
  have flag : b01 (x.high.isSome || x.held.isSome) < 4 := by cases x.high.isSome || x.held.isSome <;> decide
  exact mgmt_setData (setPp s (withDrawer s.pp k x)) (3 + k) flag

/-- A pulse's effects, whichever way it came to be. -/
theorem drawerFire_effects (s : State) (k : Fin 2) (w : Nat) : let t := drawerFire s k w
    drawerOf t k = { high := some (s.time, w), held := none } ∧
      mget (fun _ => (none : Option Nat)) t.timers (tmrPulseDrw k) = some (s.time + 24000 * w) ∧ Keeps Nowhere s t := by
  have kept : Keeps Nowhere s (setDrawer s k { high := some (s.time, w), held := none }) := (Keeps.refl s).setDrawer id _
  refine ⟨drawerOf_setDrawer s k _, ?_, kept.startTimer ..⟩
  rw [drawerFire, timers_startTimer, kept.time]
  rfl

theorem drawerPulse_fires (k : Fin 2) (v : Byte) (on : mgmt s (3 + k) = 1) (low : (drawerOf s k).high = none) (cool : timerOn s (tmrCool k) = false) :
    drawerPulse s k v = drawerFire s k (max 10 v.toNat) := by
  have ready : ((drawerOf s k).high.isNone && !(timerOn s (tmrCool k))) = true := by rw [low, cool]; rfl
  exact (if_neg (not_not_intro on)).trans (if_pos ready)

theorem drawerPulse_held (k : Fin 2) (v : Byte) (on : mgmt s (3 + k) = 1) (busy : (drawerOf s k).high ≠ none ∨ timerOn s (tmrCool k) = true) :
    let t := drawerPulse s k v
    drawerOf t k = { drawerOf s k with held := some (max 10 v.toNat) } ∧ t.timers = s.timers ∧ Keeps Nowhere s t := by
  let x : Drawer := { drawerOf s k with held := some (max 10 v.toNat) }
  have later : ¬ ((drawerOf s k).high.isNone && !(timerOn s (tmrCool k))) = true := by
    rw [Bool.and_eq_true, Option.isNone_iff_eq_none]
    rintro ⟨low, cool⟩
    rcases busy with high | cooling
    · exact high low
    · rw [cooling] at cool
      exact Bool.false_ne_true cool
  have row : drawerPulse s k v = count (setDrawer s k x) .print 0x51 := (if_neg (not_not_intro on)).trans (if_neg later)
  rw [row, count_send (by decide)]
  exact ⟨drawerOf_setDrawer s k x, timers_setDrawer s k x, ((Keeps.refl s).setDrawer id x).send ..⟩

theorem drawerEnds_effects (s : State) (k : Fin 2) (n : Nat) : let t := drawerEnds s k n
    drawerOf t k = { drawerOf s k with high := none } ∧ mget (fun _ => (none : Option Nat)) t.timers (tmrCool k) = some (s.time + 4 * n) ∧
      mgmt t (3 + k) = mgmt s (3 + k) ∧ ∀ {B : Nat → Prop}, ¬ B (regAddr .PP_DSTATE k) → Keeps B s t := by
  let s1 := startTimer (stopTimer s (tmrPulseDrw k)) (tmrCool k) (4 * n)
  have same : Keeps Everywhere s s1 := ((Keeps.refl s).stopTimer _).startTimer ..
  unfold drawerEnds
  rw [raise_send (by decide)]
  refine ⟨drawerOf_setDrawer s1 k _, ?_, ?_, fun apart => ((same.weaken fun _ _ => trivial).setDrawer apart _).send ..⟩
  · exact (congrArg (fun m => mget (fun _ => (none : Option Nat)) m (tmrCool k)) (timers_setDrawer s1 k _)).trans (timers_startTimer ..)
  · exact (mgmt_setDrawer s1 k _).trans (same.mgmt trivial)

/-- A drawer disabled, before its pulse ends: nothing is held. -/
def drawerOffShown (s : State) (k : Nat) : State :=
  let s1 := wb s .PP_DCTL 0 k false
  setUnit (setPp s1 (withDrawer s1.pp k { drawerOf s1 k with held := none })) (3 + k) 0 0

theorem drawerDisable_on (k : Fin 2) (on : rb s .PP_DCTL 0 k = true) : drawerDisable s k = match (drawerOf s k).high with
    | some (a, _) => drawerEnds (drawerOffShown s k) k ((drawerOffShown s k).time - a)
    | none => drawerOffShown s k := by
  unfold drawerDisable
  rw [if_neg (ne_false_of_eq_true on)] <;> rfl

theorem drawerOffShown_effects (s : State) (k : Fin 2) : let t := drawerOffShown s k
    rb t .PP_DCTL 0 k = false ∧ mgmt t (3 + k) = 0 ∧ drawerOf t k = { high := (drawerOf s k).high, held := none } ∧ Keeps Nowhere s t := by
  let s1 := wb s .PP_DCTL 0 k false
  let s2 := setPp s1 (withDrawer s1.pp k { drawerOf s1 k with held := none })
  have apart : ¬ At .PP_DCTL 0 (regAddr (unitReg (3 + k)).1 (unitReg (3 + k)).2) := by
    rw [drawerReg]
    exact drawerState_apart k
  have shown : Shows s2 (setUnit s2 (3 + k) 0 0) := (Shows.refl s2).setUnit ..
  refine ⟨?_, (setUnit_states s2 (3 + k) (by decide) (by decide)).1, ?_, ?_⟩
  · exact (((Keeps.refl s2).setUnit apart 0 0).rb rfl k).trans (rb_wb_same s _ _ _ _ (by omega))
  · rw [drawerOffShown, drawerOf, shown.pp]
    exact mget_mset_same (fun _ => Drawer.reset) s.pp.drw k.val { high := (drawerOf s k).high, held := none }
  · exact (((Keeps.refl s).wb id k false).setPp _).setUnit id 0 0

theorem drawerDisable_effects (k : Fin 2) (on : rb s .PP_DCTL 0 k = true) : let t := drawerDisable s k
    rb t .PP_DCTL 0 k = false ∧ mgmt t (3 + k) = 0 ∧ drawerOf t k = { high := none, held := none } ∧ Keeps Nowhere s t := by
  obtain ⟨off, disabled, cleared, kept⟩ := drawerOffShown_effects s k
  rw [drawerDisable_on k on]
  cases high : (drawerOf s k).high with
  | none => exact ⟨off, disabled, cleared.trans (by rw [high]), kept⟩
  | some a =>
    obtain ⟨low, -, same, keeps⟩ := drawerEnds_effects (drawerOffShown s k) k ((drawerOffShown s k).time - a.1)
    have apart : ¬ At .PP_DCTL 0 (regAddr .PP_DSTATE k) := drawerState_apart k
    exact ⟨((keeps apart).rb rfl k).trans off, same.trans disabled, low.trans (congrArg (fun x : Drawer => { x with high := none }) cleared), kept.trans (keeps id)⟩

/-! ## The bell -/

theorem bellStop_effects (s : State) : let t := bellStop s
    t.pp.bell = false ∧ rb t .PP_BELLCTL 0 2 = false ∧ timerOn t tmrBell = false ∧ Keeps Nowhere s t :=
  ⟨rfl, rb_wb_same (setPp s { s.pp with bell := false, bellLeft := 0 }) _ _ _ _ (by decide), timerOn_stopTimer .., (((Keeps.refl s).setPp _).wb id 2 false).stopTimer _⟩

theorem bellOn_effects (s : State) : let t := bellOn s
    t.pp.bell = true ∧ t.pp.bellLeft = s.pp.bellLeft ∧ timerOn t tmrBell = true ∧ ∀ {B : Nat → Prop}, Keeps B s t :=
  ⟨rfl, rfl, timerOn_startTimer .., ((Keeps.refl s).setPp _).startTimer ..⟩

theorem bellTick_effects (due : timerDue s tmrBell = true) : let t := bellTick s
    t.pp.bell = (!s.pp.bell && decide (1 < s.pp.bellLeft)) ∧ timerOn t tmrBell = (s.pp.bell || decide (1 < s.pp.bellLeft)) ∧ Keeps Nowhere s t := by
  unfold bellTick
  rw [if_neg (ne_false_of_eq_true due)]
  cases bell : s.pp.bell with
  | true =>
    rw [if_pos rfl]
    exact ⟨rfl, timerOn_startTimer .., ((Keeps.refl s).setPp _).startTimer ..⟩
  | false =>
    rw [if_neg Bool.false_ne_true]
    by_cases last : s.pp.bellLeft ≤ 1
    · obtain ⟨off, -, stopped, kept⟩ := bellStop_effects s
      rw [if_pos last, decide_eq_false (Nat.not_lt.2 last)]
      exact ⟨off, stopped, kept⟩
    · obtain ⟨on, -, runs, kept⟩ := bellOn_effects (setPp s { s.pp with bellLeft := s.pp.bellLeft - 1 })
      rw [if_neg last, decide_eq_true (Nat.not_le.1 last)]
      exact ⟨on, runs, ((Keeps.refl s).setPp _).trans kept⟩

/-! ## LED generators -/

theorem ledOf_setLed (s : State) (k : Nat) (x : LedGen) : ledOf (setLed s k x) k = x :=
  mget_mset_same (fun _ => LedGen.reset) s.pp.leds k x

theorem Keeps.setLed (h : Keeps A s t) (k : Nat) (x : LedGen) : Keeps A s (setLed t k x) := h.setPp _

theorem ledStart_off (s : State) (k : Nat) (mode : rn s .PP_LEDMODE k = 0) : (ledOf (ledStart s k) k).out = false := by
  have row : ledStart s k = stopTimer (setLed s k ⟨false, 0, s.time⟩) (tmrLed k) := by
    unfold ledStart
    rw [mode] <;> rfl
  rw [row]
  exact congrArg LedGen.out (ledOf_setLed s k _)

theorem ledStart_on (s : State) (k : Nat) (mode : rn s .PP_LEDMODE k = 1) : (ledOf (ledStart s k) k).out = true := by
  have row : ledStart s k = stopTimer (setLed s k ⟨true, 0, s.time⟩) (tmrLed k) := by
    unfold ledStart
    rw [mode] <;> rfl
  rw [row]
  exact congrArg LedGen.out (ledOf_setLed s k _)

theorem ledStart_blinks (s : State) (k : Nat) (mode : rn s .PP_LEDMODE k = 2) : let t := ledStart s k
    (ledOf t k).out = true ∧ timerOn t (tmrLed k) = true := by
  have row : ledStart s k = startTimer (setLed s k ⟨true, 0, s.time⟩) (tmrLed k) (ledTicks (rn s .PP_LEDON k)) := by
    unfold ledStart
    rw [mode] <;> rfl
  rw [row]
  exact ⟨congrArg LedGen.out (ledOf_setLed s k _), timerOn_startTimer ..⟩

/-- No register changes as a pattern starts. -/
theorem Keeps.ledStart (h : Keeps A s t) (k : Nat) : Keeps A s (ledStart t k) := by
  unfold Machine.ledStart
  split
  · exact (h.setLed ..).stopTimer _
  · exact (h.setLed ..).startTimer ..
  · exact .ite ((h.setLed ..).startTimer ..) ((h.setLed ..).startTimer ..)
  · exact (h.setLed ..).stopTimer _

theorem ledStart_io (s : State) (k : Nat) : (ledStart s k).io = s.io := by
  unfold ledStart
  split
  · rfl
  · rfl
  · split <;> rfl
  · rfl

end Sys2Proof.Proofs
end

section
/-! # Chapter 15: what the cutter, the drawers, the bell and the LEDs do -/
namespace Sys2Proof.Proofs
open Sys2Proof.Machine Sys2Proof.Laws

variable {s t u : State}

/-! ## The cutter's timers and JOG -/

theorem cutterBrake_effects (s : State) : let s1 := stopTimer s tmrCutBrake
    let t := if dstate s1 2 = 3 then setCut s1 .idle false true
      else startTimer (setCut s1 .braking false true) tmrCutEnd (msTicks (atLeast1 (rn s1 .PP_BRKT 0)))
    CutDrives s t (if dstate s 2 = 3 then .idle else .braking) false true ∧ (dstate s 2 ≠ 3 → timerOn t tmrCutEnd = true) ∧ t.io = s.io := by
  intro s1 t
  have kept : Keeps Nowhere s s1 := (Keeps.refl s).stopTimer _
  by_cases faulted : dstate s 2 = 3
  · have ends : t = setCut s1 .idle false true := if_pos faulted
    rw [if_pos faulted, ends]
    exact ⟨.of_setCut kept rfl .., fun sound => absurd faulted sound, rfl⟩
  · have brakes : t = startTimer (setCut s1 .braking false true) tmrCutEnd (msTicks (atLeast1 (rn s1 .PP_BRKT 0))) := if_neg faulted
    rw [if_neg faulted, brakes]
    exact ⟨(CutDrives.of_setCut kept rfl ..).startTimer .., fun _ => timerOn_startTimer .., rfl⟩

/-- The cutter at rest after a brake time. -/
def cutRests (s : State) : State := setData (setCut (stopTimer s tmrCutEnd) .idle false true) 2 0

theorem cutRests_effects (s : State) : CutDrives s (cutRests s) .idle false true ∧ dstate (cutRests s) 2 = 0 :=
  ⟨(CutDrives.of_setCut ((Keeps.refl s).stopTimer _) rfl ..).setData 0, dstate_setData _ 2 (by decide)⟩

theorem jogGo_starts (on : mgmt s 2 = 1) (idle : dstate s 2 = 0) : let t := jogGo s
    CutDrives s t .jogging true false ∧ dstate t 2 = 1 ∧ timerOn t tmrJog = true := by
  let s1 := setData s 2 1
  have row : jogGo s = startTimer (setCut s1 .jogging true false) tmrJog (msTicks (atLeast1 (rn s .PP_JOGT 0))) :=
    if_neg fun refused => refused.elim (fun off => off on) fun busy => busy idle
  have drives : CutDrives s (setCut s1 .jogging true false) .jogging true false :=
    .of_setCut ((Keeps.refl s).setData (u := 2) id 1) ((Shows.refl s).setData 2 1).pp ..
  have still : Keeps Everywhere s1 (setCut s1 .jogging true false) := (Keeps.refl s1).setCut ..
  rw [row]
  exact ⟨drives.startTimer .., ((still.startTimer ..).dstate (u := 2) trivial).trans (dstate_setData s 2 (by decide)), timerOn_startTimer ..⟩

/-! ## LED registers -/

/-- The mode of a generator after a write of one of its registers, and the register written. -/
theorem ledWrite_effects (s : State) (k f : Nat) (v : Byte) : let t := ledWrite s k f v
    rd t (ledReg f) k = BitVec.ofNat 32 v.toNat ∧ (rn t .PP_LEDMODE k = 0 → (ledOf t k).out = false) ∧
      (rn t .PP_LEDMODE k = 1 → (ledOf t k).out = true) ∧
      (rn t .PP_LEDMODE k = 2 → (ledOf t k).out = true ∧ timerOn t (tmrLed k) = true) ∧ Keeps Nowhere s t := by
  let s1 := wr s (ledReg f) k (BitVec.ofNat 32 v.toNat)
  have same {r : Rg} (i : Nat) : rd (ledStart s1 k) r i = rd s1 r i := rd_io _ _ _ _ (ledStart_io s1 k)
  have mode : rn (ledStart s1 k) .PP_LEDMODE k = rn s1 .PP_LEDMODE k := rn_congr (same k)
  refine ⟨(same k).trans (rd_wr_same ..), fun off => ledStart_off s1 k (mode.symm.trans off), fun on => ledStart_on s1 k (mode.symm.trans on),
    fun blinks => ledStart_blinks s1 k (mode.symm.trans blinks), ((Keeps.refl s).wr id _).ledStart k⟩

theorem ledTick_falls {k : Nat} (due : timerDue s (tmrLed k) = true) (high : (ledOf s k).out = true) : let t := ledTick s k
    (ledOf t k).out = false ∧ timerOn t (tmrLed k) = true ∧ t.io = s.io ∧ Keeps Nowhere s t := by
  have row : ledTick s k = startTimer (setLed s k { ledOf s k with out := false }) (tmrLed k) (ledTicks (rn s .PP_LEDOFF k)) :=
    (if_neg (ne_false_of_eq_true due)).trans (if_pos high)
  rw [row]
  exact ⟨congrArg LedGen.out (ledOf_setLed s k _), timerOn_startTimer .., rfl, ((Keeps.refl s).setLed ..).startTimer ..⟩

theorem ledTick_rises {k : Nat} (due : timerDue s (tmrLed k) = true) (low : (ledOf s k).out = false) (mode : rn s .PP_LEDMODE k = 2) :
    let t := ledTick s k
    (ledOf t k).out = true ∧ timerOn t (tmrLed k) = true ∧ t.io = s.io ∧ Keeps Nowhere s t := by
  have row : ledTick s k = ledStart s k :=
    (if_neg (ne_false_of_eq_true due)).trans ((if_neg (ne_true_of_eq_false low)).trans (if_neg (by rw [mode]; decide)))
  obtain ⟨out, on⟩ := ledStart_blinks s k mode
  rw [row]
  exact ⟨out, on, ledStart_io s k, (Keeps.refl s).ledStart k⟩

/-- Settles O43: the cutter's, the drawers', the bell's and the generators' commands and timers, one equation for each. -/
theorem cutterDrawersBellLeds : Obligations.CutterDrawersBellLeds := by
  intro s req k j v live p frame x drive
  refine ⟨fun may ready => ?cut, fun may refused => ?refused, fun due starting => ?rise, fun due moving => ?leave, fun due moving => ?timeout,
    fun due coasting => ?brake, fun due braking => ?rests, fun due braking => ?jogRests, fun may on idle => ?jog, fun may closed => ?noJog,
    fun due jogging => ?jogEnd, fun may on active => ?disable, fun may on still => ?off, fun may => ?clear,
    fun may on => ⟨fun low cool => ?fire, fun busy => ?hold⟩, fun may off => ?noPulse, fun a w due high => ?pulseEnd,
    fun due => ⟨fun w held => ?next, fun none => ?cooled⟩, fun may on => ?drawerOff, fun may => ?bell, fun may => ?bellStop, fun due => ?bellTick,
    fun f may => ?led, fun due => ⟨fun high => ?falls, fun low mode => ?rises⟩⟩
  case cut =>
    obtain ⟨drives, active, timers⟩ := cutGo_starts ready
    exact Does.intro (writeReg_taken may cutGo) ⟨drives.drive, active, timers⟩
  case refused =>
    obtain ⟨last, same, state, kept⟩ := cutGo_refused refused
    exact Does.intro (writeReg_taken may cutGo) ⟨last, same, state, kept.frame⟩
  case rise =>
    have row : exec .cutterDriveRise s = .next (setCut (stopTimer s tmrCutRise) .driving true false) :=
      (liveIn_live live fun s => if timerDue s tmrCutRise ∧ (s.pp.cut = .starting ∨ s.pp.cut = .away) then
        setCut (stopTimer s tmrCutRise) (if s.pp.cut = .starting then .driving else .away) true false else s).trans
        (congrArg _ ((if_pos ⟨due, .inl starting⟩).trans (by rw [if_pos starting])))
    exact Does.intro row ⟨(CutDrives.of_setCut ((Keeps.refl s).stopTimer _) rfl ..).drive, rfl⟩
  case leave =>
    let s1 := count (stopTimer s tmrCutLeave) .print 0x50
    have shown : Shows (stopTimer s tmrCutLeave) s1 := (Shows.refl _).count (by decide) _
    have kept : Keeps Nowhere s s1 := ((Keeps.refl s).stopTimer _).count (by decide) _
    obtain ⟨drives, bit, last, state⟩ := cutFault_effects (s := s1) (bit := 1) (last := 6) (by rw [shown.pp]; exact moving) (by decide) (by decide)
    have whole : CutDrives s (cutFault s1 1 6) .coasting false p.brake :=
      ⟨drives.pp.trans (by rw [shown.pp]; rfl), kept.trans drives.keeps⟩
    exact Does.intro ((liveIn_live live fun s => expire s .print tmrCutLeave false fun s => cutFault (count s .print 0x50) 1 6).trans
      (congrArg _ (expire_due _ due _))) ⟨whole.drive, bit, last, state⟩
  case timeout =>
    let s1 := count (stopTimer s tmrCutTmo) .print 0x4F
    have shown : Shows (stopTimer s tmrCutTmo) s1 := (Shows.refl _).count (by decide) _
    have kept : Keeps Nowhere s s1 := ((Keeps.refl s).stopTimer _).count (by decide) _
    obtain ⟨drives, bit, last, state⟩ := cutFault_effects (s := s1) (bit := 0) (last := 5) (by rw [shown.pp]; exact moving) (by decide) (by decide)
    have whole : CutDrives s (cutFault s1 0 5) .coasting false p.brake :=
      ⟨drives.pp.trans (by rw [shown.pp]; rfl), kept.trans drives.keeps⟩
    exact Does.intro ((liveIn_live live fun s => expire s .print tmrCutTmo false fun s => cutFault (count s .print 0x4F) 0 5).trans
      (congrArg _ (expire_due _ due _))) ⟨whole.drive, bit, last, state⟩
  case brake =>
    obtain ⟨drives, ends, io⟩ := cutterBrake_effects s
    exact Does.intro ((liveIn_live live fun s => if timerDue s tmrCutBrake ∧ s.pp.cut = .coasting then
      (if dstate (stopTimer s tmrCutBrake) 2 = 3 then setCut (stopTimer s tmrCutBrake) .idle false true
       else startTimer (setCut (stopTimer s tmrCutBrake) .braking false true) tmrCutEnd (msTicks (atLeast1 (rn (stopTimer s tmrCutBrake) .PP_BRKT 0))))
      else s).trans (congrArg _ (if_pos ⟨due, coasting⟩))) ⟨drives.drive, ends, io⟩
  case rests =>
    obtain ⟨drives, idle⟩ := cutRests_effects s
    exact Does.intro ((liveIn_live live fun s => if timerDue s tmrCutEnd ∧ (s.pp.cut = .braking ∨ s.pp.cut = .jogBraking) then
      (if s.pp.cut = .jogBraking then raise (cutLast (cutRests s) 0) .print 73 else cutRests s) else s).trans
      (congrArg _ ((if_pos ⟨due, .inl braking⟩).trans (if_neg (by rw [braking]; decide))))) ⟨drives.drive, idle⟩
  case jogRests =>
    obtain ⟨drives, idle⟩ := cutRests_effects s
    have row : exec .cutterBrakeEnd s = .next (raise (cutLast (cutRests s) 0) .print 73) :=
      (liveIn_live live fun s => if timerDue s tmrCutEnd ∧ (s.pp.cut = .braking ∨ s.pp.cut = .jogBraking) then
        (if s.pp.cut = .jogBraking then raise (cutLast (cutRests s) 0) .print 73 else cutRests s) else s).trans
        (congrArg _ ((if_pos ⟨due, .inr braking⟩).trans (if_pos braking)))
    refine Does.intro row ?_
    rw [raise_send (by decide)]
    exact ⟨(drives.shows ((Shows.refl _).wf ..) ((Keeps.refl _).cutLast id 0)).drive,
      (((Keeps.refl (A := At .PP_CSTATE 0) _).cutLast (by decide) 0).dstate (u := 2) rfl).trans idle, rf_cutLast _ (by decide)⟩
  case jog =>
    obtain ⟨drives, active, runs⟩ := jogGo_starts on idle
    exact Does.intro (writeReg_taken may jogGo) ⟨drives.drive, active, runs⟩
  case noJog => exact (writeReg_taken may jogGo).trans (congrArg _ (if_pos closed))
  case jogEnd =>
    have row : exec .jogEnd s = .next (startTimer (setCut (stopTimer s tmrJog) .jogBraking false true) tmrCutEnd (msTicks (atLeast1 (rn s .PP_BRKT 0)))) :=
      (liveIn_live live fun s => if timerDue s tmrJog ∧ s.pp.cut = .jogging then
        startTimer (setCut (stopTimer s tmrJog) .jogBraking false true) tmrCutEnd (msTicks (atLeast1 (rn s .PP_BRKT 0))) else s).trans
        (congrArg _ (if_pos ⟨due, jogging⟩))
    exact Does.intro row ⟨((CutDrives.of_setCut ((Keeps.refl s).stopTimer _) rfl ..).startTimer ..).drive, timerOn_startTimer .., rfl⟩
  case disable =>
    obtain ⟨drives, off, disabled, last⟩ := cutDisable_running on active
    exact Does.intro (writeReg_taken may cutDisable) ⟨drives.drive, off, disabled, last⟩
  case off =>
    obtain ⟨same, off, disabled, state, kept⟩ := cutDisable_still on still
    exact Does.intro (writeReg_taken may cutDisable) ⟨same, off, disabled, state, kept.frame⟩
  case clear =>
    obtain ⟨bits, idle, same, kept⟩ := cutClear_effects s v
    exact Does.intro (writeReg_taken may fun s => cutClear s v) ⟨bits, idle, same, kept.frame⟩
  case fire =>
    obtain ⟨fires, ends, kept⟩ := drawerFire_effects s k (max 10 v.toNat)
    exact Does.intro ((writeReg_taken may fun s => drawerPulse s k v).trans (congrArg _ (drawerPulse_fires k v on low cool))) ⟨fires, ends, kept.frame⟩
  case hold =>
    obtain ⟨held, timers, kept⟩ := drawerPulse_held k v on busy
    exact Does.intro (writeReg_taken may fun s => drawerPulse s k v) ⟨held, timers, kept.frame⟩
  case noPulse => exact (writeReg_taken may fun s => drawerPulse s k v).trans (congrArg _ (if_pos off))
  case pulseEnd =>
    obtain ⟨low, cools, -, kept⟩ := drawerEnds_effects s k (msTicks w)
    have row : exec (.drawerPulseEnd k) s = .next (drawerEnds s k (msTicks w)) := by
      refine (liveIn_live live _).trans (congrArg _ ((if_pos due).trans ?_))
      rw [show (drawerOf s k).high = some (a, w) from high]
    exact Does.intro row ⟨low, cools, (kept (B := Nowhere) id).frame⟩
  case next =>
    obtain ⟨fires, ends, kept⟩ := drawerFire_effects (stopTimer s (tmrCool k)) k w
    have row : exec (.drawerCooldownEnd k) s = .next (drawerFire (stopTimer s (tmrCool k)) k w) := by
      refine (liveIn_live live _).trans (congrArg _ ((if_pos due).trans ?_))
      dsimp only
      rw [show (drawerOf (stopTimer s (tmrCool k)) k).held = some w from held]
    exact Does.intro row ⟨fires, timerOn_startTimer .., (((Keeps.refl s).stopTimer _).trans kept).frame⟩
  case cooled =>
    refine (liveIn_live live _).trans (congrArg _ ((if_pos due).trans ?_))
    dsimp only
    rw [show (drawerOf (stopTimer s (tmrCool k)) k).held = Option.none from none]
  case drawerOff =>
    obtain ⟨off, disabled, cleared, kept⟩ := drawerDisable_effects k on
    exact Does.intro (writeReg_taken may fun s => drawerDisable s k) ⟨off, disabled, cleared, kept.frame⟩
  case bell =>
    let s1 := setPp s { s.pp with bellLeft := atLeast1 (rn s .PP_BELLCNT 0) }
    obtain ⟨bell, left, runs, kept⟩ := bellOn_effects (wb s1 .PP_BELLCTL 0 2 true)
    exact Does.intro (writeReg_taken may bellGo) ⟨bell, left, (kept (B := At .PP_BELLCTL 0).rb rfl 2).trans (rb_wb_same s1 _ _ _ _ (by decide)), runs,
      ((((Keeps.refl s).setPp _).wb id 2 true).trans (kept (B := Nowhere))).frame⟩
  case bellStop =>
    obtain ⟨bell, ringing, stopped, kept⟩ := bellStop_effects s
    exact Does.intro (writeReg_taken may Machine.bellStop) ⟨bell, ringing, stopped, kept.frame⟩
  case bellTick =>
    obtain ⟨bell, runs, kept⟩ := bellTick_effects due
    exact Does.intro (liveIn_live live Machine.bellTick) ⟨bell, runs, kept.frame⟩
  case led =>
    obtain ⟨written, off, on, blinks, kept⟩ := ledWrite_effects s j f v
    exact Does.intro (writeReg_taken may fun s => ledWrite s j f v) ⟨written, off, on, blinks, kept.frame⟩
  case falls =>
    obtain ⟨out, runs, io, kept⟩ := ledTick_falls due high
    exact Does.intro (liveIn_live live fun s => ledTick s j) ⟨out, runs, io, kept.frame⟩
  case rises =>
    obtain ⟨out, runs, io, kept⟩ := ledTick_rises due low mode
    exact Does.intro (liveIn_live live fun s => ledTick s j) ⟨out, runs, io, kept.frame⟩

end Sys2Proof.Proofs
end

section
/-! # Chapter 15: what a conversion's end leaves of the other codes (R793) -/
namespace Sys2Proof.Proofs
open Sys2Proof.Machine Sys2Proof.Laws

variable {s t u : State} {A : Nat → Prop}

/-- The addresses of the ADC's results and last codes. -/
def Codes (a : Nat) : Prop := 0x2620 ≤ a ∧ a < 0x2660

theorem lastCode_inside {i : Nat} (small : i < 16) : Codes (regAddr .ADC_LAST i) := by
  change 0x2620 ≤ 0x2640 + 0x2 * i ∧ 0x2640 + 0x2 * i < 0x2660
  omega

/-- A register of Millrace or the paper path that stands once. -/
theorem single_outside {r : Rg} (below : regAddr r 0 < 0x2620) : ¬ Codes (regAddr r 0) := fun inside => Nat.not_lt.2 inside.1 below

/-- A register of a sensor. -/
theorem sensorReg_outside {r : Rg} {k : Nat} (low : (regInfo r).base < 0x2600) (stride : (regInfo r).stride = 8) (four : k < 4) :
    ¬ Codes (regAddr r k) := by
  rintro ⟨above, -⟩
  rw [regAddr, stride] at above
  omega

theorem window_outside (k : Nat) : ¬ Codes (regAddr .ADC_WINSTAT k) := by
  rintro ⟨-, below⟩
  change 0x2666 + 0x8 * k < 0x2660 at below
  omega

/-! ## Window comparators (R796) -/

/-- What one window comparator does with a code. -/
def windowStep (input code : Nat) (s : State) (k : Nat) : State :=
  if rb s .ADC_WININ k 7 && rf s .ADC_WININ k 3 0 == input then
    let out := decide (code < rf s .ADC_WINLO k 11 0) || decide (rf s .ADC_WINHI k 11 0 < code)
    if out && !(rb s .ADC_WINSTAT k 0) then raise (count (wr s .ADC_WINSTAT k 3) .print 0x53) .print 79
    else wb s .ADC_WINSTAT k 0 out
  else s

theorem adcWindows_eq (s : State) (input code : Nat) : adcWindows s input code = (List.range 4).foldl (windowStep input code) s := rfl

theorem Shows.adcWindows (h : Shows s t) (input code : Nat) : Shows s (adcWindows t input code) := by
  rw [adcWindows_eq]
  refine h.foldl fun u k hu => ite ?_ hu
  exact ite (((hu.wr ..).count (by decide) _).raise (by decide) _) (hu.wb ..)

theorem Keeps.adcWindows (h : Keeps A s t) (apart : ∀ k, ¬ A (regAddr .ADC_WINSTAT k)) (input code : Nat) : Keeps A s (adcWindows t input code) := by
  rw [adcWindows_eq]
  refine h.foldl fun u k hu => ite ?_ hu
  exact ite (((hu.wr (apart k) _).count (by decide) _).raise (by decide) _) (hu.wb (apart k) ..)

/-! ## Requesters (R701, R747, R763, R767) -/

theorem Keeps.setWind (h : Keeps A s t) (w : Nat) (x : Winding) : Keeps A s (setWind t w x) := h.trans ((WindsOnly.refl t).setWind w x).keeps

theorem Keeps.windCode (h : Keeps A s t) (apart : ∀ r ∈ faultRegs, ¬ A (regAddr r 0)) (base : ¬ A (regAddr .PP_RIPBASE 0))
    (last : ¬ A (regAddr .PP_RIPLAST 0)) (w code : Nat) : Keeps A s (windCode t w code) := by
  have tripped (x : Winding) := (((h.setWind w x).windowEnd apart base last).count (i := .print) (by decide) 0x4B).feedFault apart 3
  have noted (x : Winding) := h.setWind w x
  exact ite h (ite (tripped _) (ite ((noted _).trans ((WindsOnly.refl _).windOff w).keeps) (noted _)))

theorem Keeps.bemfCode (h : Keeps A s t) (apart : ∀ r ∈ faultRegs, ¬ A (regAddr r 0)) (i code : Nat) : Keeps A s (bemfCode t i code) := by
  have noted (f : Feeder) := h.setFd f
  have again (f g : Feeder) := (noted f).setFd g
  exact ite (noted _) (ite (ite ((again _ _).feedYank apart) (again _ _)) (again _ _))

theorem Keeps.headFault (h : Keeps A s t) (apart : ∀ r ∈ headRegs, ¬ A (regAddr r 0)) (fault : ¬ A (regAddr .MR_FAULT 0)) (bit status : Nat)
    (kill : Bool) : Keeps A s (headFault t bit status kill) :=
  (((((h.setDev _).headDrop ..).wb fault bit true).setData (u := 0) (apart .MR_STATE (by decide)) 3).headPower
    (apart .MR_STAT (by decide))).raise (by decide) 65

theorem Keeps.headClears (h : Keeps A s t) (apart : ∀ r ∈ headRegs, ¬ A (regAddr r 0)) : Keeps A s (headClears t) := by
  have stat := apart .MR_STAT (by decide)
  have cooled {p : Prop} [Decidable p] : Keeps A s (if p then Machine.wb t .MR_STAT 0 5 false else t) := ite (h.wb stat 5 false) h
  exact (ite (cooled.wb stat 6 false) cooled).headIdle (apart .MR_STATE (by decide))

theorem Keeps.headCode (h : Keeps A s t) (apart : ∀ r ∈ headRegs, ¬ A (regAddr r 0)) (fault : ¬ A (regAddr .MR_FAULT 0)) (i code : Nat) :
    Keeps A s (headCode t i code) := by
  have noted (m : Mr) := h.setMr m
  exact ite h (ite (ite (((noted _).count (i := .print) (by decide) 0x41).headFault apart fault 2 0x82 false) (noted _)) ((noted _).headClears apart))

theorem Keeps.setSensor (h : Keeps A s t) (k : Nat) (x : Sensor) : Keeps A s (setSensor t k x) := h.setPp _

theorem Keeps.emitterOn (h : Keeps A s t) : Keeps A s (emitterOn t) := (h.setPp _).startTimer ..

theorem Keeps.sensorDark (h : Keeps A s t) (k code : Nat) : Keeps A s (sensorDark t k code) :=
  ite (h.setSensor ..) (h.setSensor ..).emitterOn

/-! ## A sensor's lit code (R767-R771) -/

theorem Keeps.sensorIrq (h : Keeps A s t) (k : Nat) : Keeps A s (sensorIrq t k) := ite (h.raise (by decide) 69) h

theorem faultRegs_outside : ∀ r ∈ faultRegs, ¬ Codes (regAddr r 0) := fun r inside => single_outside (by revert r; decide)

section
variable {k : Nat} (four : k < 4)
include four

theorem stat_outside : ¬ Codes (regAddr .PP_SNSSTAT k) := sensorReg_outside (by decide) rfl four

theorem base_outside : ¬ Codes (regAddr .PP_SNSBASE k) := sensorReg_outside (by decide) rfl four

theorem Keeps.sensorDirty (h : Keeps Codes s t) : Keeps Codes s (sensorDirty t k) :=
  ite h (((h.wb (stat_outside four) 1 true).count (by decide) 0x4E).sensorIrq k)

theorem Keeps.sensorCal (h : Keeps Codes s t) (v : Nat) : Keeps Codes s (sensorCal t k v) := by
  have noted (x : Sensor) (b : Quad) := (h.setSensor k x).wr (base_outside four) b
  exact ite h (ite ((noted _ _).sensorDirty four) (noted _ _))

theorem Keeps.sensorTest (h : Keeps Codes s t) (v : Nat) : Keeps Codes s (sensorTest t k v) := by
  have noted (x : Sensor) := h.setSensor k x
  have shown (x : Sensor) (b : Bool) := ((noted x).wb (stat_outside four) 0 b).sensorIrq k
  exact ite (ite ((shown _ _).feedFault faultRegs_outside 2) (shown _ _)) (ite (shown _ _) (noted _))

theorem Keeps.sensorTrack (h : Keeps Codes s t) (v : Nat) : Keeps Codes s (sensorTrack t k v) := by
  have noted (x : Sensor) := h.setSensor k x
  have moved (x : Sensor) (b : Quad) := (noted x).wr (base_outside four) b
  exact ite (noted _) (ite (noted _) (ite (ite ((moved _ _).sensorDirty four) (moved _ _)) (ite (moved _ _) (noted _))))

theorem Keeps.sensorLit (h : Keeps Codes s t) (code : Nat) : Keeps Codes s (sensorLit t k code) := by
  have shown (v : Quad) := h.wr (sensorReg_outside (r := .PP_SNSS) (by decide) rfl four) v
  have tested (w : Quad) (v : Nat) {p : Prop} [Decidable p] := ite (p := p) (shown w)
    ((((shown w).sensorCal four v).sensorTest four v).sensorTrack four v)
  exact ite (tested _ _) ((tested _ _).setPp _)

end

end Sys2Proof.Proofs
end

section
/-! # Chapter 15: inputs taken (R772) and conversions that end (R793, R795) -/
namespace Sys2Proof.Proofs
open Sys2Proof.Machine Sys2Proof.Laws

variable {s t u : State} {A : Nat → Prop}

/-! ## The inputs' levels -/

/-- The levels of the four inputs. -/
def levels (p : Paper) : Bool × Bool × Bool × Bool := (p.cover, p.button, p.drawerOpen, p.home)

theorem inputLevel_congr (same : levels t.pp = levels s.pp) (i : InputName) : inputLevel t i = inputLevel s i := by
  simp only [levels, Prod.mk.injEq] at same
  obtain ⟨cover, button, drawer, home⟩ := same
  cases i with
  | cover => exact cover
  | feedButton => exact button
  | drawerSense => exact drawer
  | cutHome => exact home

theorem levels_stays (h : StepsStay s t) : levels t.pp = levels s.pp := by rw [h.others]; rfl

theorem levels_feedFault (s : State) (bit : Nat) : levels (feedFault s bit).pp = levels s.pp := by
  let s1 := wb s .PP_FFAULT 0 bit true
  let f := s1.pp.feed
  let s2 := setFd s1 { f with trip := some (s1.time, f.windA.on, f.windB.on) }
  have cancels : levels (feedCancel s2).pp = levels s.pp := by
    have reported : Shows s2 (report s2 .print 21 3 2 (feedPend s2)) := (Shows.refl s2).report (by decide) ..
    rw [feedCancel_eq, (Shows.refl (movesCancelled s2)).feedShow.pp, (movesCancelled_shows s2).pp]
    have same : levels (report s2 .print 21 3 2 (feedPend s2)).pp = levels s2.pp := congrArg levels reported.pp
    exact same
  have floats : levels (feedFloat (feedCancel s2)).pp = levels s.pp := (levels_stays (StepsStay.refl _).feedFloat).trans cancels
  have shows_ (x : State) : Shows x (setData (feedShow x) 1 3) := ((Shows.refl x).feedShow).setData 1 3
  have row : feedFault s bit = if dstate s1 1 = 3 then s1 else headFeedStop (setData (feedShow (feedFloat (feedCancel s2))) 1 3) := rfl
  rw [row]
  split
  · rfl
  · rw [(HeadOnly.refl _).headFeedStop.pp, (shows_ _).pp]
    exact floats

theorem levels_feedCover (s : State) : levels (feedCover s).pp = levels s.pp := by
  unfold feedCover
  split
  · exact levels_feedFault s 1
  · rfl

theorem levels_cutFault (s : State) (bit last : Nat) : levels (cutFault s bit last).pp = levels s.pp := by
  by_cases moving : s.pp.cut = .idle
  · have row : cutFault s bit last = raise (setData (cutFaulted s bit last) 2 3) .print 74 := by
      unfold cutFault
      rw [moving]
      rfl
    have shown : Shows s (cutFault s bit last) := by
      rw [row]
      exact ((((Shows.refl s).wf ..).wb ..).setData 2 3).raise (by decide) 74
    rw [shown.pp]
  · have shown : Shows (cutFalls s bit last) (cutFault s bit last) := by
      rw [cutFault_moving moving]
      exact ((Shows.refl _).setData 2 3).raise (by decide) 74
    have same : levels (cutTimersOff (cutFaulted s bit last)).pp = levels s.pp := congrArg levels (pp_stopTimers _ (cutFaulted s bit last))
    rw [shown.pp]
    exact same

theorem levels_cutCover (s : State) : levels (cutCover s).pp = levels s.pp := by
  unfold cutCover
  split
  · exact levels_cutFault s 2 3
  · rfl

theorem levels_cutHome (s : State) (atHome : Bool) : levels (cutHome s atHome).pp = levels s.pp := by
  have coasts (x : State) (n : Nat) : Shows x (raise (cutLast x n) .print 73) := ((Shows.refl x).wf ..).raise (by decide) 73
  unfold cutHome
  split
  · rfl
  · split
    · have same : levels (cutTimersOff s).pp = levels s.pp := congrArg levels (pp_stopTimers _ s)
      have coasted := congrArg levels (coasts (setCut (cutTimersOff s) .coasting false false) 0).pp
      exact coasted.trans same
    · rfl

theorem Keeps.feedCover (h : Keeps Nowhere s t) : Keeps Nowhere s (feedCover t) := ite (h.feedFault (fun _ _ => id) 1) h

theorem Keeps.cutFault (h : Keeps Nowhere s t) (bit last : Nat) : Keeps Nowhere s (cutFault t bit last) := by
  have shown := (h.cutLast id last).wb (r := .PP_CFAULT) (i := 0) id bit true
  have falls {p : Prop} [Decidable p] (b : Bool) (n : Nat) := ite (p := p) ((shown.cutTimersOff.setCut .coasting false b).startTimer tmrCutBrake n) shown
  exact ((falls _ _).setData (u := 2) id 3).raise (by decide) 74

theorem Keeps.cutCover (h : Keeps Nowhere s t) : Keeps Nowhere s (cutCover t) := ite (h.cutFault 2 3) h

theorem Keeps.cutHome (h : Keeps Nowhere s t) (atHome : Bool) : Keeps Nowhere s (cutHome t atHome) :=
  ite ((h.setCut ..).stopTimer _) (ite ((((h.cutTimersOff.setCut ..).cutLast id 0).raise (by decide) 73).startTimer ..) h)

/-- The paper path with an input's level taken. -/
def levelTaken (p : Paper) (i : InputName) (x : Bool) : Paper :=
  match i with
  | .cover => { p with cover := x }
  | .feedButton => { p with button := x, feed := { p.feed with safeSteps := 0 } }
  | .drawerSense => { p with drawerOpen := x }
  | .cutHome => { p with home := x }

theorem levels_levelTaken_same {i : InputName} {x : Bool} (same : inputLevel s i = x) : levels (levelTaken s.pp i x) = levels s.pp := by
  cases i <;> (subst same; rfl)

/-- What an input's level taken leaves: the levels with that one taken. -/
theorem inputTaken_effects (s : State) (i : InputName) (x : Bool) :
    levels (inputTaken s i x).pp = levels (levelTaken s.pp i x) ∧ Keeps Nowhere s (inputTaken s i x) := by
  by_cases same : inputLevel s i = x
  · have stays : inputTaken s i x = s := by
      cases i <;> exact if_pos same
    rw [stays, levels_levelTaken_same same]
    exact ⟨rfl, Keeps.refl s⟩
  · let s1 := setPp s (levelTaken s.pp i x)
    have kept : Keeps Nowhere s s1 := (Keeps.refl s).setPp _
    cases i with
    | cover =>
      let s2 := raise s1 .print 70
      have raised : Shows s1 s2 := (Shows.refl s1).raise (by decide) 70
      have counted : Shows s1 (count s2 .print 0x4D) := raised.count (by decide) _
      have row : inputTaken s .cover x = if x then cutCover (feedCover (count s2 .print 0x4D)) else s2 := if_neg same
      rw [row]
      refine ⟨?_, .ite (((kept.raise (by decide) 70).count (by decide) _).feedCover).cutCover (kept.raise (by decide) 70)⟩
      split
      · rw [levels_cutCover, levels_feedCover, counted.pp]
        rfl
      · rw [raised.pp]
        rfl
    | feedButton =>
      have row : inputTaken s .feedButton x = raise s1 .print 71 := if_neg same
      rw [row]
      exact ⟨by rw [((Shows.refl s1).raise (by decide) 71).pp]; rfl, kept.raise (by decide) 71⟩
    | drawerSense =>
      have row : inputTaken s .drawerSense x = raise s1 .print 77 := if_neg same
      rw [row]
      exact ⟨by rw [((Shows.refl s1).raise (by decide) 77).pp]; rfl, kept.raise (by decide) 77⟩
    | cutHome =>
      have row : inputTaken s .cutHome x = cutHome s1 x := if_neg same
      rw [row]
      exact ⟨levels_cutHome s1 x, kept.cutHome x⟩

theorem inputLevel_levelTaken (s : State) (i : InputName) (x : Bool) : inputLevel (setPp s (levelTaken s.pp i x)) i = x := by
  cases i <;> rfl

theorem inputLevel_levelTaken_ne (s : State) {i j : InputName} (apart : j ≠ i) (x : Bool) :
    inputLevel (setPp s (levelTaken s.pp i x)) j = inputLevel s j := by
  cases i with
  | cover => cases j with
    | cover => exact absurd rfl apart
    | cutHome | drawerSense | feedButton => rfl
  | cutHome => cases j with
    | cutHome => exact absurd rfl apart
    | cover | drawerSense | feedButton => rfl
  | drawerSense => cases j with
    | drawerSense => exact absurd rfl apart
    | cover | cutHome | feedButton => rfl
  | feedButton => cases j with
    | feedButton => exact absurd rfl apart
    | cover | cutHome | drawerSense => rfl

end Sys2Proof.Proofs
end

section
/-! # Chapter 15: the ADC's conversions and its firmware sequence (R793, R795) -/
namespace Sys2Proof.Proofs
open Sys2Proof.Machine Sys2Proof.Laws

variable {s t u : State} {A : Nat → Prop}

/-! ## A conversion's end -/

/-- What the requester of a conversion does with its code. -/
def codeTaken (s : State) (r : AdcReq) (code : Nat) : State :=
  match r.who with
  | .chop w => windCode s w code
  | .head i => headCode s i code
  | .bemf i => bemfCode s i code
  | .dark k => sensorDark s k code
  | .lit k => sensorLit s k code
  | .sequence k => seqCode s k code
  | .nobody => s

/-- The code of a conversion shown and compared. -/
def codeShown (s : State) (r : AdcReq) (code : Nat) : State :=
  adcWindows (wr (setPp (stopTimer s tmrAdc) { s.pp with adcCur := none }) .ADC_LAST r.input (BitVec.ofNat 32 code)) r.input code

theorem adcDone_taken {r : AdcReq} (cur : s.pp.adcCur = some r) (due : timerDue s tmrAdc = true) (code : Nat) :
    adcDone s code = adcStart (codeTaken (codeShown s r code) r code) := by
  unfold adcDone
  rw [cur, due] <;> rfl

theorem adcDone_none {code : Nat} (idle : s.pp.adcCur = none ∨ timerDue s tmrAdc = false) : adcDone s code = s := by
  unfold adcDone
  rcases idle with none | early
  · rw [none]
  · rw [early]
    cases s.pp.adcCur <;> rfl

theorem codeShown_effects (s : State) (r : AdcReq) (code : Nat) (small : r.input < 12) : let t := codeShown s r code
    rd t .ADC_LAST r.input = BitVec.ofNat 32 code ∧ t.pp = { s.pp with adcCur := none } ∧ Keeps Nowhere s t := by
  let s1 := wr (setPp (stopTimer s tmrAdc) { s.pp with adcCur := none }) .ADC_LAST r.input (BitVec.ofNat 32 code)
  have kept : Keeps Codes s1 (codeShown s r code) := (Keeps.refl s1).adcWindows window_outside ..
  refine ⟨?_, ((Shows.refl s1).adcWindows ..).pp, ?_⟩
  · exact (kept.rd (lastCode_inside (by omega))).trans (rd_wr_same ..)
  · exact ((((Keeps.refl s).stopTimer _).setPp _).wr id _).trans (kept.weaken fun _ => False.elim)

theorem adcStart_seqLeft (s : State) : (adcStart s).pp.seqLeft = s.pp.seqLeft := by
  unfold adcStart
  split <;> rfl

theorem adcRequest_seqLeft (s : State) (level input : Nat) (who : AdcWho) : (adcRequest s level input who).pp.seqLeft = s.pp.seqLeft :=
  adcStart_seqLeft _

/-- The code's result shown, before the sequence goes on. -/
def resultShown (s : State) (k code : Nat) : State :=
  setPp (wr s .ADC_RES k (BitVec.ofNat 32 code)) { s.pp with seqLeft := s.pp.seqLeft - 1 }

theorem seqCode_goes (k code : Nat) (more : s.pp.seqLeft ≠ 0) : seqCode s k code =
    if s.pp.seqLeft - 1 ≠ 0 then adcRequest (resultShown s k code) 3 (rf (resultShown s k code) .ADC_SEQ (k + 1) 3 0) (.sequence (k + 1))
    else if timerOn (raise (resultShown s k code) .print 78) tmrSeq then raise (resultShown s k code) .print 78
      else wb (raise (resultShown s k code) .print 78) .ADC_SEQCTL 0 2 false := if_neg more

theorem seqCode_after (k code : Nat) (more : s.pp.seqLeft ≠ 0) (apart : ¬ A (regAddr .ADC_SEQCTL 0)) :
    Keeps A (resultShown s k code) (seqCode s k code) ∧ (seqCode s k code).pp.seqLeft = s.pp.seqLeft - 1 := by
  rw [seqCode_goes k code more]
  generalize shown : resultShown s k code = v
  have left : v.pp.seqLeft = s.pp.seqLeft - 1 := by
    rw [← shown]
    rfl
  have raised : Shows v (raise v .print 78) := (Shows.refl v).raise (by decide) 78
  have kept : Keeps A v (raise v .print 78) := (Keeps.refl v).raise (by decide) 78
  constructor
  · exact .ite ((Keeps.refl v).adcRequest ..) (.ite kept (kept.wb apart 2 false))
  · split
    · rw [adcRequest_seqLeft, left]
    · split
      · rw [raised.pp, left]
      · rw [(raised.wb ..).pp, left]

theorem Keeps.seqCode (h : Keeps A s t) (k code : Nat) (control : ¬ A (regAddr .ADC_SEQCTL 0)) (result : ¬ A (regAddr .ADC_RES k)) :
    Keeps A s (seqCode t k code) := by
  by_cases none : t.pp.seqLeft = 0
  · exact h.of_eq (if_pos none).symm
  · exact ((h.wr result _).setPp _).trans (seqCode_after k code none control).1

/-- A requester's use of a code leaves every last code. -/
theorem codeTaken_last (s : State) {r : AdcReq} (code : Nat) (lit : ∀ j, r.who = .lit j → j < 4) (seq : ∀ j, r.who = .sequence j → j < 16)
    (small : r.input < 12) : Keeps (At .ADC_LAST r.input) s (codeTaken s r code) := by
  have inside : ∀ a, At .ADC_LAST r.input a → Codes a := fun a here => here ▸ lastCode_inside (by omega)
  have heads : ∀ q ∈ headRegs, ¬ Codes (regAddr q 0) := headRegs_apart faultRegs_outside
  unfold codeTaken
  cases who : r.who with
  | chop w => exact ((Keeps.refl s).windCode faultRegs_outside (single_outside (by decide)) (single_outside (by decide)) w code).weaken inside
  | head i => exact ((Keeps.refl s).headCode heads (single_outside (by decide)) i code).weaken inside
  | bemf i => exact ((Keeps.refl s).bemfCode faultRegs_outside i code).weaken inside
  | dark k => exact (Keeps.refl s).sensorDark k code
  | lit k => exact ((Keeps.refl s).sensorLit (lit k who) code).weaken inside
  | sequence k =>
    have k16 := seq k who
    refine (Keeps.refl s).seqCode k code ?_ ?_
    · change ¬ (0x2600 : Nat) = 0x2640 + 0x2 * r.input
      omega
    · change ¬ (0x2620 + 0x2 * k : Nat) = 0x2640 + 0x2 * r.input
      omega
  | nobody => exact Keeps.refl s

theorem adcDone_effects {r : AdcReq} (cur : s.pp.adcCur = some r) (due : timerDue s tmrAdc = true) (code : Nat) (small : r.input < 12)
    (seq : ∀ j, r.who = .sequence j → j < 16) (lit : ∀ j, r.who = .lit j → j < 4) : let t := adcDone s code
    rd t .ADC_LAST r.input = BitVec.ofNat 32 code ∧
      (∀ j, r.who = .sequence j → s.pp.seqLeft ≠ 0 → rd t .ADC_RES j = BitVec.ofNat 32 code ∧ t.pp.seqLeft = s.pp.seqLeft - 1) ∧
      Keeps Nowhere s t := by
  obtain ⟨last, pp, kept⟩ := codeShown_effects s r code small
  have taken := codeTaken_last (codeShown s r code) code lit seq small
  rw [adcDone_taken cur due]
  refine ⟨(taken.adcStart.rd rfl).trans last, fun j who more => ?_, kept.trans (taken.adcStart.weaken fun _ => False.elim)⟩
  have same : codeTaken (codeShown s r code) r code = seqCode (codeShown s r code) j code := by
    unfold codeTaken
    rw [who]
  have before : (codeShown s r code).pp.seqLeft = s.pp.seqLeft := by rw [pp]
  have apart : ¬ At .ADC_RES j (regAddr .ADC_SEQCTL 0) := by
    change ¬ (0x2600 : Nat) = 0x2620 + 0x2 * j
    omega
  obtain ⟨after, left⟩ := seqCode_after (s := codeShown s r code) j code (before ▸ more) apart
  rw [same, adcStart_seqLeft, left, before]
  exact ⟨(after.adcStart.rd rfl).trans (rd_wr_same ..), rfl⟩

/-! ## The firmware sequence (R795) -/

/-- A pass begun while the ADC is idle. -/
theorem seqPass_idle (left : s.pp.seqLeft = 0) (none : s.pp.adcCur = none) (empty : s.pp.adcWait = []) : let t := seqPass s
    t.pp = { s.pp with seqLeft := seqLen s, adcCur := some ⟨3, rf s .ADC_SEQ 0 3 0, .sequence 0, s.cycles⟩, adcWait := [] } ∧ t.io = s.io ∧
      Keeps Nowhere s t := by
  let s1 := setPp s { s.pp with seqLeft := seqLen s }
  have row : seqPass s = adcRequest s1 3 (rf s .ADC_SEQ 0 3 0) (.sequence 0) := if_neg (not_not_intro left)
  have starts := adcRequest_idle (s := s1) none empty 3 (rf s .ADC_SEQ 0 3 0) (.sequence 0)
  rw [row, starts]
  exact ⟨rfl, rfl, ((((Keeps.refl s).setPp _).setPp _).startTimer ..)⟩

/-- A pass skipped while the previous one is unfinished. -/
theorem seqPass_busy (left : s.pp.seqLeft ≠ 0) : let t := seqPass s
    rb t .ADC_SEQCTL 0 3 = true ∧ t.pp = s.pp ∧ Keeps Nowhere s t := by
  have row : seqPass s = count (wb s .ADC_SEQCTL 0 3 true) .print 0x52 := if_pos left
  rw [row, count_send (by decide)]
  exact ⟨rb_wb_same s _ _ _ _ (by decide), rfl, ((Keeps.refl s).wb id 3 true).send ..⟩

theorem seqGo_effects (left : s.pp.seqLeft = 0) (none : s.pp.adcCur = none) (empty : s.pp.adcWait = []) : let t := seqGo s
    rb t .ADC_SEQCTL 0 2 = true ∧ t.pp.seqLeft = rf s .ADC_SEQLEN 0 3 0 + 1 ∧
      t.pp.adcCur = some ⟨3, rf s .ADC_SEQ 0 3 0, .sequence 0, s.cycles⟩ ∧ timerOn t tmrSeq = decide (rn s .ADC_SEQPER 0 ≠ 0) ∧ Keeps Nowhere s t := by
  let s1 := wb (seqPass s) .ADC_SEQCTL 0 2 true
  obtain ⟨pp, io, kept⟩ := seqPass_idle left none empty
  have period : rn s1 .ADC_SEQPER 0 = rn s .ADC_SEQPER 0 :=
    rn_congr ((rd_wb_ne _ _ _ _ _ _ _ (by decide)).trans (rd_io _ _ _ _ io))
  have marked : rb s1 .ADC_SEQCTL 0 2 = true := rb_wb_same (seqPass s) _ _ _ _ (by decide)
  have shown : Keeps Nowhere s s1 := kept.wb id 2 true
  have same : s1.pp = (seqPass s).pp := rfl
  by_cases once : rn s .ADC_SEQPER 0 = 0
  · have row : seqGo s = stopTimer s1 tmrSeq := if_pos (period.trans once)
    rw [row, decide_eq_false (not_not_intro once)]
    refine ⟨marked, ?_, ?_, timerOn_stopTimer .., shown.stopTimer _⟩
    · exact congrArg Paper.seqLeft (same.trans pp)
    · exact congrArg Paper.adcCur (same.trans pp)
  · have row : seqGo s = startTimer s1 tmrSeq (usTicks (rn s1 .ADC_SEQPER 0)) := if_neg (period ▸ once)
    rw [row, decide_eq_true once]
    refine ⟨marked, ?_, ?_, timerOn_startTimer .., shown.startTimer ..⟩
    · exact congrArg Paper.seqLeft (same.trans pp)
    · exact congrArg Paper.adcCur (same.trans pp)

theorem seqStop_effects (s : State) : let t := seqStop s
    rb t .ADC_SEQCTL 0 2 = false ∧ t.pp.seqLeft = 0 ∧ timerOn t tmrSeq = false ∧ (∀ r, r ∈ t.pp.adcWait → ∀ j, r.who ≠ .sequence j) ∧
      t.pp.adcCur = s.pp.adcCur.map (fun r => if ofSeq r then { r with who := .nobody } else r) ∧ Keeps Nowhere s t := by
  refine ⟨rb_wb_same (setPp s _) _ _ _ _ (by decide), rfl, timerOn_stopTimer .., fun r waits j who => ?_, rfl,
    (((Keeps.refl s).setPp _).wb id 2 false).stopTimer _⟩
  have other : (!(ofSeq r)) = true := (List.mem_filter.1 waits).2
  rw [ofSeq, who] at other
  exact Bool.false_ne_true other

/-! ## The obligation -/

/-- Conversions asked for by each sensor with a function. -/
theorem sensors_ask {who : Nat → AdcWho} {n : Nat} {ns : List Nat} (s : State) (on : sensorsOn s = n :: ns) (none : s.pp.adcCur = none)
    (empty : s.pp.adcWait = []) : let t := adcRequests 2 8 who (sensorsOn s) s
    t.pp = adcQueued s ⟨2, 8 + n, who n, s.cycles⟩ (ns.map fun k => ⟨2, 8 + k, who k, s.cycles⟩) ∧ t.io = s.io ∧ Keeps Nowhere s t := by
  obtain ⟨pp, io⟩ := adcRequests_idle (level := 2) (offset := 8) (who := who) none empty n ns
  rw [on]
  exact ⟨pp, io, (Keeps.refl s).adcRequests ..⟩

/-- The start of a sensor period. -/
def sensorPeriod (s : State) : State :=
  if timerOn s tmrSensor = true ∧ timerDue s tmrSensor = false then s
  else
    let s1 := startTimer s tmrSensor (msTicks (atLeast1 (rn s .PP_SNSPER 0)))
    if (sensorsOn s1).isEmpty then emitterOn s1 else adcRequests 2 8 .dark (sensorsOn s1) s1

theorem sensorPeriod_open (open_ : timerOn s tmrSensor = false ∨ timerDue s tmrSensor = true) :
    ¬ (timerOn s tmrSensor = true ∧ timerDue s tmrSensor = false) := by
  rintro ⟨on, early⟩
  rcases open_ with off | due
  · exact Bool.false_ne_true (off.symm.trans on)
  · exact Bool.false_ne_true (early.symm.trans due)

/-- Settles O42: the sensors', the inputs' and the ADC's commands and timers, one equation for each. -/
theorem sensorsInputsAdc : Obligations.SensorsInputsAdc := by
  intro s req k code live frame idleAdc
  refine ⟨fun open_ => ⟨fun none => ?dark, fun n ns on idle => ?asksDark⟩, fun emits due => ⟨fun none => ?lit, fun n ns on idle => ?asksLit⟩,
    fun may => writeReg_taken may fun s => setSensor s k { sensorOf s k with cal := true }, fun i level due held => ?taken,
    fun i level early => ?early, fun r cur due small seq lit => ?done, fun idle => ?noCode, fun may left idle => ?go, fun may => ?stop,
    fun due => ⟨fun left => ?skip, fun left idle => ?pass⟩, fun may => writeReg_taken may fun s => wb s .PP_LIMLOCK 0 0 true⟩
  case dark =>
    let s1 := startTimer s tmrSensor (msTicks (atLeast1 (rn s .PP_SNSPER 0)))
    have row : exec .sensorPeriod s = .next (emitterOn s1) := by
      refine (liveIn_live live sensorPeriod).trans (congrArg _ ((if_neg (sensorPeriod_open open_)).trans (if_pos ?_)))
      rw [show sensorsOn s1 = [] from none]
      rfl
    exact Does.intro row ⟨rfl, timerOn_startTimer .., ((Keeps.refl (A := Nowhere) s).startTimer ..).emitterOn.frame⟩
  case asksDark =>
    let s1 := startTimer s tmrSensor (msTicks (atLeast1 (rn s .PP_SNSPER 0)))
    have row : exec .sensorPeriod s = .next (adcRequests 2 8 .dark (sensorsOn s1) s1) := by
      refine (liveIn_live live sensorPeriod).trans (congrArg _ ((if_neg (sensorPeriod_open open_)).trans (if_neg ?_)))
      rw [show sensorsOn s1 = n :: ns from on]
      exact Bool.false_ne_true
    obtain ⟨pp, io, kept⟩ := sensors_ask (who := .dark) s1 on idle.1 idle.2
    refine Does.intro row ⟨?_, ?_, ?_, io, (((Keeps.refl s).startTimer ..).trans kept).frame⟩ <;> (rw [pp]; rfl)
  case lit =>
    have row : exec .sensorEmitSettle s = .next (emitterOff (stopTimer s tmrEmit)) := by
      refine (liveIn_live live _).trans (congrArg _ ((if_pos ⟨emits, due⟩).trans (if_pos ?_)))
      rw [show sensorsOn (stopTimer s tmrEmit) = [] from none]
      rfl
    exact Does.intro row ⟨rfl, (((Keeps.refl (A := Nowhere) s).stopTimer _).setPp _).frame⟩
  case asksLit =>
    let s1 := stopTimer s tmrEmit
    have row : exec .sensorEmitSettle s = .next (adcRequests 2 8 .lit (sensorsOn s1) s1) := by
      refine (liveIn_live live _).trans (congrArg _ ((if_pos ⟨emits, due⟩).trans (if_neg ?_)))
      rw [show sensorsOn (stopTimer s tmrEmit) = n :: ns from on]
      exact Bool.false_ne_true
    obtain ⟨pp, io, kept⟩ := sensors_ask (who := .lit) s1 on idle.1 idle.2
    refine Does.intro row ⟨?_, ?_, io, (((Keeps.refl s).stopTimer _).trans kept).frame⟩ <;> (rw [pp]; rfl)
  case taken =>
    let s1 := stopTimer s (tmrDeb i)
    have holds : (timerDue s (tmrDeb i) && (level == (inputLine s (inputFn i)).getD level)) = true := by rw [due, held]; rfl
    obtain ⟨same, kept⟩ := inputTaken_effects s1 i (inputSeen s i)
    have same : levels (inputTaken s1 i (inputSeen s i)).pp = levels (setPp s1 (levelTaken s1.pp i (inputSeen s i))).pp := same
    refine Does.intro ((liveIn_live live _).trans (congrArg _ (if_pos holds))) ⟨?_, fun j apart => ?_, (((Keeps.refl s).stopTimer _).trans kept).frame⟩
    · exact (inputLevel_congr same i).trans (inputLevel_levelTaken ..)
    · exact (inputLevel_congr same j).trans (inputLevel_levelTaken_ne s1 apart _)
  case early =>
    refine (liveIn_live live _).trans (congrArg _ (if_neg ?_))
    rw [early, Bool.false_and]
    exact Bool.false_ne_true
  case done =>
    obtain ⟨last, result, kept⟩ := adcDone_effects cur due code.toNat small seq lit
    exact Does.intro (liveIn_live live fun s => adcDone s code.toNat) ⟨last, result, kept.frame⟩
  case noCode => exact (liveIn_live live fun s => adcDone s code.toNat).trans (congrArg _ (adcDone_none idle))
  case go =>
    obtain ⟨runs, length, first, period, kept⟩ := seqGo_effects left idle.1 idle.2
    exact Does.intro (writeReg_taken may seqGo) ⟨runs, length, first, period, kept.frame⟩
  case stop =>
    obtain ⟨stopped, none, off, waits, cur, kept⟩ := seqStop_effects s
    exact Does.intro (writeReg_taken may seqStop) ⟨stopped, none, off, waits, cur, kept.frame⟩
  case skip =>
    obtain ⟨overrun, same, kept⟩ := seqPass_busy (s := startTimer s tmrSeq (usTicks (rn s .ADC_SEQPER 0))) left
    exact Does.intro ((liveIn_live live _).trans (congrArg _ (if_pos due)))
      ⟨overrun, congrArg Paper.seqLeft same, (((Keeps.refl s).startTimer ..).trans kept).frame⟩
  case pass =>
    obtain ⟨pp, io, kept⟩ := seqPass_idle (s := startTimer s tmrSeq (usTicks (rn s .ADC_SEQPER 0))) left idle.1 idle.2
    exact Does.intro ((liveIn_live live _).trans (congrArg _ (if_pos due)))
      ⟨congrArg Paper.seqLeft pp, congrArg Paper.adcCur pp, io, (((Keeps.refl s).startTimer ..).trans kept).frame⟩

end Sys2Proof.Proofs
end

section
/-!
SUPPORT. What an operation of a link unit that reports, shows and times leaves (`Tells`), and what the end of entries leaves (`Ends`), with the slots
that end.
-/
namespace Sys2Proof.Proofs
open Sys2Proof.Machine Sys2Proof.Laws

variable {s t u : State} {A : Nat → Prop}

/-! ## Registers, transfers and timers -/

/-- From `s` to `t` nothing differs but stored registers, the transfers that wait and timers. -/
structure Tells (s t : State) : Prop where
  others : t = { s with io := t.io, xwait := t.xwait, timers := t.timers, armed := t.armed }

namespace Tells

theorem refl (s : State) : Tells s s := ⟨rfl⟩

theorem trans (h : Tells s t) (k : Tells t u) : Tells s u := ⟨k.others.trans (by rw [h.others])⟩

theorem ite (h : Tells s t) (k : Tells s u) {p : Prop} [Decidable p] : Tells s (if p then t else u) := by
  split
  · exact h
  · exact k

theorem shows (h : Tells s t) (k : Shows t u) : Tells s u := h.trans ⟨by rw [k.others]⟩

theorem wr (h : Tells s t) (r : Rg) (i : Nat) (v : Quad) : Tells s (wr t r i v) := h.trans ⟨rfl⟩

theorem wb (h : Tells s t) (r : Rg) (i b : Nat) (x : Bool) : Tells s (wb t r i b x) := h.trans ⟨rfl⟩

theorem wf (h : Tells s t) (r : Rg) (i hi lo x : Nat) : Tells s (wf t r i hi lo x) := h.trans ⟨rfl⟩

theorem count (h : Tells s t) {i : Island} (away : i ≠ .core) (code : Nat) : Tells s (count t i code) := h.shows ((Shows.refl t).count away code)

theorem raise (h : Tells s t) {i : Island} (away : i ≠ .core) (src : Nat) : Tells s (raise t i src) := h.shows ((Shows.refl t).raise away src)

theorem setUnit (h : Tells s t) (u m d : Nat) : Tells s (setUnit t u m d) := h.shows ((Shows.refl t).setUnit u m d)

theorem setData (h : Tells s t) (u d : Nat) : Tells s (setData t u d) := h.setUnit u _ d

theorem follow (h : Tells s t) (u : Nat) (active : Bool) : Tells s (follow t u active) := ite (h.setData ..) h

theorem startTimer (h : Tells s t) (k n : Nat) : Tells s (startTimer t k n) := h.trans ⟨rfl⟩

theorem stopTimer (h : Tells s t) (k : Nat) : Tells s (stopTimer t k) := h.trans ⟨rfl⟩

theorem foldl {α : Type} {f : State → α → State} {l : List α} (h : Tells s t) (hf : ∀ u x, Tells s u → Tells s (f u x)) :
    Tells s (l.foldl f t) := by
  induction l generalizing t with
  | nil => exact h
  | cons x l ih => exact ih (hf t x h)

theorem time (h : Tells s t) : t.time = s.time := by rw [h.others]

theorem usb (h : Tells s t) : t.usb = s.usb := by rw [h.others]

theorem eth (h : Tells s t) : t.eth = s.eth := by rw [h.others]

theorem kx (h : Tells s t) : t.kx = s.kx := by rw [h.others]

theorem uart (h : Tells s t) (n : Nat) : uartOf t n = uartOf s n := by rw [h.others]; rfl

theorem spi (h : Tells s t) : t.spi = s.spi := by rw [h.others]

theorem dev (h : Tells s t) : t.dev = s.dev := by rw [h.others]

theorem slotOf (h : Tells s t) (u : Nat) : slotOf t u = slotOf s u := by rw [h.others]; rfl

end Tells

/-! ## Entries that end -/

/-- From `s` to `t` nothing differs but slots, movers and the transfers that wait. -/
structure Ends (s t : State) : Prop where
  others : t = { s with slot := t.slot, mover := t.mover, xwait := t.xwait }

theorem slotOf_setSlot (s : State) (u : Nat) (x : Option Slot) : slotOf (setSlot s u x) u = x :=
  mget_mset_same (fun _ => (none : Option Slot)) s.slot u x

theorem slotOf_setSlot_ne (s : State) {u v : Nat} (apart : v ≠ u) (x : Option Slot) : slotOf (setSlot s u x) v = slotOf s v :=
  mget_mset_ne (fun _ => (none : Option Slot)) (fun _ => none) s.slot x apart

namespace Ends

theorem refl (s : State) : Ends s s := ⟨rfl⟩

theorem trans (h : Ends s t) (k : Ends t u) : Ends s u := ⟨k.others.trans (by rw [h.others])⟩

theorem ite (h : Ends s t) (k : Ends s u) {p : Prop} [Decidable p] : Ends s (if p then t else u) := by
  split
  · exact h
  · exact k

theorem send (h : Ends s t) (c : Nat) (x : Xfer) : Ends s (send t c x) := h.trans ⟨rfl⟩

theorem setSlot (h : Ends s t) (v : Nat) (x : Option Slot) : Ends s (setSlot t v x) := h.trans ⟨rfl⟩

theorem setMover (h : Ends s t) (c i : Nat) (x : Option Mover) : Ends s (setMover t c i x) := h.trans ⟨rfl⟩

theorem unitComplete (h : Ends s t) (i : Island) (c idx status done cflags : Nat) : Ends s (unitComplete t i c idx status done cflags) := h.trans ⟨rfl⟩

theorem slotComplete (h : Ends s t) (v status done cflags : Nat) : Ends s (slotComplete t v status done cflags) := by
  unfold Machine.slotComplete
  split
  · exact h
  · exact (h.setSlot ..).unitComplete ..

theorem endSlot (h : Ends s t) (v status : Nat) : Ends s (endSlot t v status) := by
  unfold Machine.endSlot
  split
  · exact h.slotComplete ..
  · exact h

theorem abandon (h : Ends s t) (v : Nat) : Ends s (abandon t v) := h.endSlot v 2

theorem moverTake (h : Ends s t) (c i n : Nat) : Ends s (moverTake t c i n).2.2 := by
  unfold Machine.moverTake
  split
  · exact h
  · exact h.setMover ..

theorem foldl {α : Type} {f : State → α → State} {l : List α} (h : Ends s t) (hf : ∀ u x, Ends s u → Ends s (f u x)) : Ends s (l.foldl f t) := by
  induction l generalizing t with
  | nil => exact h
  | cons x l ih => exact ih (hf t x h)

theorem moverAsk (h : Ends s t) (c i : Nat) : Ends s (moverAsk t c i) := by
  unfold Machine.moverAsk
  split
  · exact h
  · dsimp only
    exact ite h ((h.setMover ..).foldl fun _ _ hu => hu.send ..)

theorem unitSend (h : Ends s t) (c i : Nat) (l : List (Nat × Nat)) (o : Nat) (bs : List Byte) : Ends s (unitSend t c i l o bs) := by
  unfold Machine.unitSend
  generalize fragPieces l o bs.length = pieces
  induction pieces generalizing t bs with
  | nil => exact h
  | cons p pieces ih => exact ih (h.send ..) _

theorem keeps (h : Ends s t) : Keeps A s t := by
  refine .of_same ?_ ?_ ?_ ?_ ?_ <;> rw [h.others]
  exact SameMemory.refl s

theorem io (h : Ends s t) : t.io = s.io := by rw [h.others]

theorem time (h : Ends s t) : t.time = s.time := by rw [h.others]

theorem timers (h : Ends s t) : t.timers = s.timers := by rw [h.others]

theorem usb (h : Ends s t) : t.usb = s.usb := by rw [h.others]

theorem eth (h : Ends s t) : t.eth = s.eth := by rw [h.others]

theorem kx (h : Ends s t) : t.kx = s.kx := by rw [h.others]

theorem uart (h : Ends s t) (n : Nat) : uartOf t n = uartOf s n := by rw [h.others]; rfl

theorem spi (h : Ends s t) : t.spi = s.spi := by rw [h.others]

theorem dev (h : Ends s t) : t.dev = s.dev := by rw [h.others]

end Ends

/-! ### Slots after an end -/

theorem slotOf_slotComplete (s : State) (u status done cflags : Nat) : slotOf (slotComplete s u status done cflags) u = none := by
  unfold slotComplete
  split
  next empty => exact empty
  · exact slotOf_setSlot s u none

theorem slotOf_slotComplete_ne (s : State) {u v : Nat} (apart : v ≠ u) (status done cflags : Nat) :
    slotOf (slotComplete s u status done cflags) v = slotOf s v := by
  unfold slotComplete
  split
  · rfl
  · exact slotOf_setSlot_ne s apart none

theorem slotOf_endSlot (s : State) (u status : Nat) : slotOf (endSlot s u status) u = none := by
  unfold endSlot
  split
  · exact slotOf_slotComplete ..
  next empty => exact empty

theorem slotOf_endSlot_ne (s : State) {u v : Nat} (apart : v ≠ u) (status : Nat) : slotOf (endSlot s u status) v = slotOf s v := by
  unfold endSlot
  split
  · exact slotOf_slotComplete_ne s apart ..
  · rfl

/-- A slot that is empty stays so as others end. -/
theorem slotOf_endSlot_none {v : Nat} (empty : slotOf s v = none) (u status : Nat) : slotOf (endSlot s u status) v = none := by
  by_cases same : v = u
  · rw [same]
    exact slotOf_endSlot s u status
  · rw [slotOf_endSlot_ne s same, empty]

/-- Several slots that end. -/
theorem slotOf_endSlots (status : Nat) {v : Nat} (l : List Nat) (s : State) (ends : v ∈ l ∨ slotOf s v = none) :
    slotOf (l.foldl (fun s u => endSlot s u status) s) v = none := by
  induction l generalizing s with
  | nil => exact ends.resolve_left List.not_mem_nil
  | cons u l ih =>
    refine ih (endSlot s u status) ?_
    rcases ends with inside | empty
    · rcases List.mem_cons.1 inside with here | later
      · rw [here]
        exact .inr (slotOf_endSlot s u status)
      · exact .inl later
    · exact .inr (slotOf_endSlot_none empty u status)

theorem endSlots_ends (status : Nat) (l : List Nat) (s : State) : Ends s (l.foldl (fun s u => endSlot s u status) s) :=
  (Ends.refl s).foldl fun _ u hu => hu.endSlot u status

end Sys2Proof.Proofs
end

section
/-! # Chapter 16: USB attach, reset and suspend (R806, R807, R812-R816) -/
namespace Sys2Proof.Proofs
open Sys2Proof.Machine Sys2Proof.Laws

variable {s t u : State} {A : Nat → Prop}

/-! ## The bus heard and shown -/

theorem Tells.usbHeard (h : Tells s t) : Tells s (usbHeard t) := ite ((ite (h.count (by decide) 0x08) h).startTimer _ _) h

theorem Keeps.usbHeard (h : Keeps A s t) : Keeps A s (usbHeard t) := ite ((ite (h.count (by decide) 0x08) h).startTimer _ _) h

theorem Tells.usbShow (h : Tells s t) : Tells s (usbShow t) := by
  have shown := h.follow 5 (Machine.rb t .USB_CTL 0 0 && usbPull t && !(Machine.rb t .USB_STAT 0 1))
  exact ite (shown.stopTimer tmrIdle) (ite shown shown.usbHeard)

theorem Keeps.usbShow (h : Keeps A s t) (apart : ¬ A (regAddr .USB_STATE 0)) : Keeps A s (usbShow t) := by
  have shown := h.follow (u := 5) apart (Machine.rb t .USB_CTL 0 0 && usbPull t && !(Machine.rb t .USB_STAT 0 1))
  exact ite (shown.stopTimer tmrIdle) (ite shown shown.usbHeard)

/-- The registers that the pull-up follows. -/
def PullAddr (a : Nat) : Prop := a = regAddr .USB_CTL 0 ∨ a = regAddr .USB_STAT 0

theorem usbPull_kept (h : Keeps PullAddr s t) (same : t.usb.keepPull = s.usb.keepPull) : usbPull t = usbPull s := by
  rw [usbPull, h.rb (.inl rfl), h.rb (.inl rfl), h.rb (.inr rfl), same, usbPull]

/-- The bus heard while it is pulled up and not suspended: its idle time begins again. -/
theorem usbHeard_idle (pulled : usbPull s = true) (awake : rb s .USB_STAT 0 1 = false) :
    mget (fun _ => (none : Option Nat)) (usbHeard s).timers tmrIdle = some (s.time + 72000) := by
  have on : (usbPull s && !(rb s .USB_STAT 0 1)) = true := by rw [pulled, awake]; rfl
  have row : usbHeard s = startTimer (if timerDue s tmrIdle then count s .usb 0x08 else s) tmrIdle (msTicks 3) := if_pos on
  have time : (if timerDue s tmrIdle then count s .usb 0x08 else s).time = s.time := (Tells.ite ((Tells.refl s).count (by decide) _) (.refl s)).time
  rw [row, timers_startTimer, time]
  rfl

/-- DATA_STATE after it follows the bus is no fault where it was none. -/
theorem dstate_follow {v : Nat} (sound : dstate s v ≠ 3) (active : Bool) : dstate (follow s v active) v ≠ 3 := by
  unfold follow
  split
  · have flag : b01 active < 3 := by cases active <;> decide
    rw [dstate_setData s v (by omega)]
    omega
  · exact sound

theorem dstate_usbShow (sound : dstate s 5 ≠ 3) : dstate (usbShow s) 5 ≠ 3 := by
  let s1 := follow s 5 (rb s .USB_CTL 0 0 && usbPull s && !(rb s .USB_STAT 0 1))
  have timed : Keeps (At .USB_STATE 0) s1 (usbShow s) :=
    .ite ((Keeps.refl s1).stopTimer tmrIdle) (.ite (Keeps.refl s1) (Keeps.refl s1).usbHeard)
  rw [timed.dstate (u := 5) rfl]
  exact dstate_follow sound _

/-! ## Resume and bus reset -/

theorem Tells.usbResume (h : Tells s t) : Tells s (usbResume t) := ite (((h.wb ..).wb ..).raise (by decide) 100).usbShow h

theorem Keeps.usbResume (h : Keeps A s t) (stat : ¬ A (regAddr .USB_STAT 0)) (state : ¬ A (regAddr .USB_STATE 0)) : Keeps A s (usbResume t) :=
  ite ((((h.wb stat 1 false).wb stat 4 true).raise (by decide) 100).usbShow state) h

/-- USB_STAT as a resume leaves it. -/
theorem usbResume_stat (suspended : rb s .USB_STAT 0 1 = true) :
    rd (usbResume s) .USB_STAT 0 = rd (wb (wb s .USB_STAT 0 1 false) .USB_STAT 0 4 true) .USB_STAT 0 := by
  have row : usbResume s = usbShow (raise (wb (wb s .USB_STAT 0 1 false) .USB_STAT 0 4 true) .usb 100) := if_pos suspended
  rw [row]
  exact ((((Keeps.refl (A := At .USB_STAT 0) _).raise (by decide) 100)).usbShow (by decide)).rd rfl

theorem usbResume_awake (s : State) : rb (usbResume s) .USB_STAT 0 1 = false := by
  by_cases suspended : rb s .USB_STAT 0 1 = true
  · rw [rb_congr (usbResume_stat suspended), rb_wb_other _ _ _ _ _ _ (by decide) (by decide), rb_wb_same _ _ _ _ _ (by decide)]
  · have row : usbResume s = s := if_neg suspended
    rw [row]
    exact Bool.eq_false_iff.2 suspended

theorem usbResume_pull (s : State) (i : Nat) (apart : i ≠ 1 ∧ i ≠ 4) : rb (usbResume s) .USB_STAT 0 i = rb s .USB_STAT 0 i := by
  by_cases suspended : rb s .USB_STAT 0 1 = true
  · rw [rb_congr (usbResume_stat suspended), rb_wb_other _ _ _ _ _ _ (by decide) apart.2, rb_wb_other _ _ _ _ _ _ (by decide) apart.1]
  · have row : usbResume s = s := if_neg suspended
    rw [row]

/-- The device after a bus reset, before its entries end. -/
def usbCleared (s : State) : State :=
  usbArm (forN 3 (wr (setUsb s { s.usb with addr := 0, staged := none, toggle := [], sent := none }) .USB_ADDR 0 0)
    fun s k => wf s .USB_EPCFG k 3 0 0) false false

/-- The entries of a device reset have ended. -/
def usbEmptied (s : State) : State := usbUnits.foldl (fun s u => endSlot s u 0x85) (usbCleared s)

theorem usbBusReset_eq (s : State) : usbBusReset s = raise (count (wb (usbEmptied s) .USB_STAT 0 2 true) .usb 0x58) .usb 100 := rfl

theorem usbCleared_usb (s : State) : (usbCleared s).usb = { s.usb with addr := 0, staged := none, toggle := [], sent := none, armIn := false, armOut := false } := rfl

theorem Keeps.usbArm (h : Keeps A s t) (apart : ¬ A (regAddr .USB_EP0CTL 0)) (i o : Bool) : Keeps A s (usbArm t i o) := (h.setUsb _).wb apart ..

theorem Keeps.usbCleared (h : Keeps A s t) (ctl : ¬ A (regAddr .USB_EP0CTL 0)) (addr : ¬ A (regAddr .USB_ADDR 0))
    (cfg : ∀ k, ¬ A (regAddr .USB_EPCFG k)) : Keeps A s (usbCleared t) :=
  (((h.setUsb _).wr addr 0).foldl fun _ k hu => hu.wf (cfg k) 3 0 0).usbArm ctl false false

theorem usbBusReset_from (s : State) (apart : ¬ A (regAddr .USB_STAT 0)) : Keeps A (usbCleared s) (usbBusReset s) := by
  rw [usbBusReset_eq]
  exact ((((endSlots_ends 0x85 usbUnits (usbCleared s)).keeps).wb apart 2 true).count (by decide) _).raise (by decide) 100

/-- What a bus reset shows. -/
structure BusReset (s t : State) : Prop where
  usb : t.usb = { s.usb with addr := 0, staged := none, toggle := [], sent := none, armIn := false, armOut := false }
  idle : ∀ u, u ∈ usbUnits → slotOf t u = none
  address : rd t .USB_ADDR 0 = 0
  configs : ∀ k, k < 3 → rf t .USB_EPCFG k 3 0 = 0
  flag : rb t .USB_STAT 0 2 = true
  stat : ∀ i, i ≠ 2 → rb t .USB_STAT 0 i = rb s .USB_STAT 0 i
  keeps : Keeps (· = regAddr .USB_CTL 0) s t
  time : t.time = s.time

theorem config_apart (k : Nat) : regAddr .USB_EPCFG k ≠ regAddr .USB_STAT 0 ∧ regAddr .USB_EPCFG k ≠ regAddr .USB_CTL 0 := by
  change 0x3090 + 0x10 * k ≠ 0x3002 ∧ 0x3090 + 0x10 * k ≠ 0x3000
  omega

theorem rf_configs (s : State) (k : Fin 3) : rf (forN 3 s fun s k => wf s .USB_EPCFG k 3 0 0) .USB_EPCFG k 3 0 = 0 := by
  have same (v : State) (j : Nat) : rf (wf v .USB_EPCFG j 3 0 0) .USB_EPCFG j 3 0 = 0 := rf_wf_same _ _ _ _ (by decide) (by decide)
  have others (v : State) (j i : Nat) (apart : regAddr .USB_EPCFG i ≠ regAddr .USB_EPCFG j) :
      rf (wf v .USB_EPCFG j 3 0 0) .USB_EPCFG i 3 0 = rf v .USB_EPCFG i 3 0 := rf_congr (rd_wf_ne _ _ _ _ _ _ _ _ apart) 3 0
  let s0 := wf s .USB_EPCFG 0 3 0 0
  let s1 := wf s0 .USB_EPCFG 1 3 0 0
  fin_cases k
  · exact (others s1 2 0 (by decide)).trans ((others s0 1 0 (by decide)).trans (same s 0))
  · exact (others s1 2 1 (by decide)).trans (same s0 1)
  · exact same s1 2

theorem usbBusReset_resets (s : State) : BusReset s (usbBusReset s) := by
  let s1 := setUsb s { s.usb with addr := 0, staged := none, toggle := [], sent := none }
  have ends : Ends (usbCleared s) (usbEmptied s) := endSlots_ends 0x85 usbUnits _
  have shown : Tells (usbEmptied s) (usbBusReset s) := by
    rw [usbBusReset_eq]
    exact (((Tells.refl _).wb ..).count (by decide) _).raise (by decide) 100
  have statShown : rd (usbBusReset s) .USB_STAT 0 = rd (wb (usbEmptied s) .USB_STAT 0 2 true) .USB_STAT 0 := by
    rw [usbBusReset_eq]
    exact (((Keeps.refl (A := At .USB_STAT 0) _).count (by decide) _).raise (by decide) 100).rd rfl
  have statKept : Keeps (At .USB_STAT 0) s (usbEmptied s) :=
    ((Keeps.refl s).usbCleared (by decide) (by decide) fun k => (config_apart k).1).trans ends.keeps
  refine ⟨?_, fun v inside => ?_, ?_, fun k three => ?_, ?_, fun i apart => ?_, ?_, ?_⟩
  · rw [shown.usb, ends.usb, usbCleared_usb]
  · rw [shown.slotOf]
    exact slotOf_endSlots 0x85 usbUnits _ (.inl inside)
  · have later : Keeps (At .USB_ADDR 0) (wr s1 .USB_ADDR 0 0) (usbCleared s) :=
      ((Keeps.refl _).foldl fun _ k hu => hu.wf (show ¬ (0x3090 + 0x10 * k : Nat) = 0x3004 by omega) 3 0 0).usbArm (by decide) false false
    exact ((later.trans (usbBusReset_from s (by decide))).rd rfl).trans (rd_wr_same ..)
  · have inside : ∀ k : Fin 3, ¬ At .USB_EPCFG k (regAddr .USB_EP0CTL 0) ∧ ¬ At .USB_EPCFG k (regAddr .USB_STAT 0) := by decide
    obtain ⟨ctl, stat⟩ := inside ⟨k, three⟩
    have later : Keeps (At .USB_EPCFG k) _ (usbCleared s) := (Keeps.refl (forN 3 (wr s1 .USB_ADDR 0 0) fun s k => wf s .USB_EPCFG k 3 0 0)).usbArm ctl false false
    exact ((later.trans (usbBusReset_from s stat)).rf rfl 3 0).trans (rf_configs _ ⟨k, three⟩)
  · exact (rb_congr statShown 2).trans (rb_wb_same _ _ _ _ _ (by decide))
  · exact (rb_congr statShown i).trans ((rb_wb_other _ _ _ _ _ _ (by decide) apart).trans (statKept.rb rfl i))
  · exact ((Keeps.refl s).usbCleared (by decide) (by decide) fun k => (config_apart k).2).trans (usbBusReset_from s (by decide))
  · rw [shown.time, ends.time]
    exact ((Keeps.refl (A := Nowhere) s).usbCleared id id fun _ => id).time

end Sys2Proof.Proofs
end

section
/-! # Chapter 16: what the bus's events do to USB and to Ethernet's clocks (R806, R807, R812-R816, R826, R831) -/
namespace Sys2Proof.Proofs
open Sys2Proof.Machine Sys2Proof.Laws

variable {s t u : State} {A : Nat → Prop}

/-! ## What an event of a LINK unit leaves whole -/

/-- Threads, near RAM, instructions and far memory with its engine. -/
structure LinkStays (s t : State) : Prop where
  thr : t.thr = s.thr
  near : t.near = s.near
  iram : t.iram = s.iram
  far : t.far = s.far
  pads : t.pads = s.pads

namespace LinkStays

theorem refl (s : State) : LinkStays s s := ⟨rfl, rfl, rfl, rfl, rfl⟩

theorem trans (h : LinkStays s t) (k : LinkStays t u) : LinkStays s u :=
  ⟨k.thr.trans h.thr, k.near.trans h.near, k.iram.trans h.iram, k.far.trans h.far, k.pads.trans h.pads⟩

theorem tells (h : LinkStays s t) (k : Tells t u) : LinkStays s u :=
  h.trans (by refine ⟨?_, ?_, ?_, ?_, ?_⟩ <;> rw [k.others])

theorem ends (h : LinkStays s t) (k : Ends t u) : LinkStays s u :=
  h.trans (by refine ⟨?_, ?_, ?_, ?_, ?_⟩ <;> rw [k.others])

theorem setUsb (h : LinkStays s t) (x : Usb) : LinkStays s (setUsb t x) := h.trans ⟨rfl, rfl, rfl, rfl, rfl⟩

theorem setEth (h : LinkStays s t) (x : Eth) : LinkStays s (setEth t x) := h.trans ⟨rfl, rfl, rfl, rfl, rfl⟩

theorem frame (h : LinkStays s t) : t.thr = s.thr ∧ t.near = s.near ∧ t.iram = s.iram ∧ t.far = s.far := ⟨h.thr, h.near, h.iram, h.far⟩

theorem usbBusReset (h : LinkStays s t) : LinkStays s (usbBusReset t) := by
  have cleared : LinkStays t (usbCleared t) :=
    ((((LinkStays.refl t).setUsb _).tells (((Tells.refl _).wr ..).foldl fun _ _ hu => hu.wf ..)).setUsb _).tells ((Tells.refl _).wb ..)
  rw [usbBusReset_eq]
  exact ((h.trans cleared).ends (endSlots_ends ..)).tells ((((Tells.refl _).wb ..).count (by decide) _).raise (by decide) 100)

end LinkStays

/-! ## Disable (R806) -/

/-- USB with EN cleared and nothing being sent. -/
def usbOff (s : State) (m d : Nat) : State :=
  let s1 := setUnit (wb s .USB_CTL 0 0 false) 5 m d
  setUsb s1 { s1.usb with sent := none }

/-- Every entry of USB abandoned. -/
def usbAbandoned (s : State) : State := usbUnits.foldl abandon s

theorem usbAbandoned_ends (s : State) : Ends s (usbAbandoned s) := endSlots_ends 2 usbUnits s

theorem usbAbandoned_idle (s : State) {v : Nat} (inside : v ∈ usbUnits) : slotOf (usbAbandoned s) v = none :=
  slotOf_endSlots 2 usbUnits s (.inl inside)

theorem dstate_wb_usbCtl (s : State) (b : Nat) (x : Bool) : dstate (wb s .USB_CTL 0 b x) 5 = dstate s 5 :=
  ((Keeps.refl (A := At .USB_STATE 0) s).wb (by decide) b x).dstate (u := 5) rfl

theorem usbDisable_active (on : rb s .USB_CTL 0 0 = true) (active : dstate s 5 = 1) :
    usbDisable s = setData (usbAbandoned (usbOff s 0 2)) 5 0 := by
  have state := (dstate_wb_usbCtl s 0 false).trans active
  have act : (dstate (wb s .USB_CTL 0 0 false) 5 == 1) = true := by rw [state]; rfl
  unfold usbDisable
  rw [if_neg (ne_false_of_eq_true on)]
  dsimp only
  rw [if_neg (by rw [state]; decide), act]
  rfl

theorem usbDisable_idle (on : rb s .USB_CTL 0 0 = true) (idle : dstate s 5 = 0) : usbDisable s = usbAbandoned (usbOff s 0 0) := by
  have state := (dstate_wb_usbCtl s 0 false).trans idle
  have act : (dstate (wb s .USB_CTL 0 0 false) 5 == 1) = false := by rw [state]; rfl
  have kept : setMgmt (wb s .USB_CTL 0 0 false) 5 0 = setUnit (wb s .USB_CTL 0 0 false) 5 0 0 := by rw [setMgmt, state]
  unfold usbDisable
  rw [if_neg (ne_false_of_eq_true on)]
  dsimp only
  rw [if_neg (by rw [state]; decide), act, if_neg Bool.false_ne_true, if_neg Bool.false_ne_true, kept]
  rfl

/-- What USB is after it is disabled. -/
structure UsbOff (s t : State) : Prop where
  off : rb t .USB_CTL 0 0 = false
  mgmt : mgmt t 5 = 0
  idle : ∀ v, v ∈ usbUnits → slotOf t v = none
  sent : t.usb.sent = none
  stays : LinkStays s t

theorem usbOff_abandoned (s : State) {d : Nat} (d4 : d < 4) : UsbOff s (usbAbandoned (usbOff s 0 d)) ∧ dstate (usbAbandoned (usbOff s 0 d)) 5 = d := by
  let s0 := wb s .USB_CTL 0 0 false
  have ends := usbAbandoned_ends (usbOff s 0 d)
  have states := setUnit_states s0 5 (m := 0) (by decide) d4
  have same : Keeps Everywhere (setUnit s0 5 0 d) (usbAbandoned (usbOff s 0 d)) := ((Keeps.refl (setUnit s0 5 0 d)).setUsb _).trans ends.keeps
  refine ⟨⟨?_, (same.mgmt trivial).trans states.1, fun v => usbAbandoned_idle _, by rw [ends.usb]; rfl, ?_⟩, (same.dstate trivial).trans states.2⟩
  · exact (same.rb trivial 0).trans ((rb_congr (rd_setUnit_ne s0 5 0 d (by decide)) 0).trans (rb_wb_same s _ _ _ _ (by decide)))
  · exact ((((LinkStays.refl s).tells (((Tells.refl s).wb ..).setUnit 5 0 d)).setUsb _).ends ends)

theorem usbDisable_effects (on : rb s .USB_CTL 0 0 = true) (quiet : dstate s 5 ≤ 1) : UsbOff s (usbDisable s) ∧ dstate (usbDisable s) 5 = 0 := by
  rcases Nat.le_one_iff_eq_zero_or_eq_one.1 quiet with idle | active
  · rw [usbDisable_idle on idle]
    exact usbOff_abandoned s (by decide)
  · obtain ⟨off, -⟩ := usbOff_abandoned s (d := 2) (by decide)
    rw [usbDisable_active on active]
    generalize usbAbandoned (usbOff s 0 2) = v at off ⊢
    have shown : Tells v (setData v 5 0) := (Tells.refl v).setData 5 0
    refine ⟨⟨?_, (mgmt_setData v 5 (by decide)).trans off.mgmt, fun w inside => (shown.slotOf w).trans (off.idle w inside), by rw [shown.usb, off.sent],
      off.stays.tells shown⟩, dstate_setData v 5 (by decide)⟩
    exact (rb_congr (rd_setUnit_ne v 5 _ 0 (by decide)) 0).trans off.off

/-! ## VBUS (R812) -/

/-- The device with VBUS's level at its pad. -/
def vbusAt (s : State) (level : Bool) : State := { s with pads := mset (fun _ => none) s.pads 97 (some level) }

/-- A change of VBUS shown. -/
def vbusShown (s : State) (level : Bool) : State := raise (wb (wb (vbusAt s level) .USB_STAT 0 0 level) .USB_STAT 0 5 true) .usb 101

theorem vbusChange_live {level : Bool} (live : Live s .usb) (change : rb s .USB_STAT 0 0 ≠ level) :
    vbusChange s level = usbShow (if level then vbusShown s level else usbBusReset (vbusShown s level)) := by
  have runs : ¬ islandRuns (vbusAt s level) .usb = false := ne_false_of_eq_true live.2
  exact (if_neg (not_not_intro live.1)).trans ((if_neg runs).trans (if_neg change))

theorem vbusShown_stat (s : State) (level : Bool) : rb (vbusShown s level) .USB_STAT 0 0 = level ∧ rb (vbusShown s level) .USB_STAT 0 5 = true := by
  have raised : Keeps (At .USB_STAT 0) (wb (wb (vbusAt s level) .USB_STAT 0 0 level) .USB_STAT 0 5 true) (vbusShown s level) :=
    (Keeps.refl _).raise (by decide) 101
  constructor
  · rw [raised.rb rfl, rb_wb_other _ _ _ _ _ _ (by decide) (by decide), rb_wb_same _ _ _ _ _ (by decide)]
  · rw [raised.rb rfl, rb_wb_same _ _ _ _ _ (by decide)]

theorem vbusChange_effects {level : Bool} (live : Live s .usb) (change : rb s .USB_STAT 0 0 ≠ level) : let t := vbusChange s level
    mget (fun _ => (none : Option Bool)) t.pads 97 = some level ∧ rb t .USB_STAT 0 0 = level ∧ rb t .USB_STAT 0 5 = true ∧
      (level = false → t.usb.addr = 0 ∧ ∀ v, v ∈ usbUnits → slotOf t v = none) ∧
      t.thr = s.thr ∧ t.near = s.near ∧ t.iram = s.iram ∧ t.far = s.far := by
  obtain ⟨here, flag⟩ := vbusShown_stat s level
  have told : Tells (vbusAt s level) (vbusShown s level) := (((Tells.refl _).wb ..).wb ..).raise (by decide) 101
  have placed : mget (fun _ => (none : Option Bool)) (vbusAt s level).pads 97 = some level :=
    mget_mset_same (fun _ => (none : Option Bool)) s.pads 97 (some level)
  rw [vbusChange_live live change]
  cases level with
  | true =>
    rw [if_pos rfl]
    have shown : Tells (vbusShown s true) (usbShow (vbusShown s true)) := (Tells.refl _).usbShow
    have stat : Keeps (At .USB_STAT 0) (vbusShown s true) (usbShow (vbusShown s true)) := (Keeps.refl _).usbShow (by decide)
    have stays : LinkStays (vbusAt s true) (usbShow (vbusShown s true)) := (LinkStays.refl _).tells (told.trans shown)
    exact ⟨by rw [stays.pads, placed], (stat.rb rfl 0).trans here, (stat.rb rfl 5).trans flag, fun off => absurd off (by decide), stays.frame⟩
  | false =>
    rw [if_neg Bool.false_ne_true]
    generalize shown0 : vbusShown s false = v at here flag told
    have reset := usbBusReset_resets v
    have shown : Tells (usbBusReset v) (usbShow (usbBusReset v)) := (Tells.refl _).usbShow
    have stat : Keeps (At .USB_STAT 0) (usbBusReset v) (usbShow (usbBusReset v)) := (Keeps.refl _).usbShow (by decide)
    have stays : LinkStays (vbusAt s false) (usbShow (usbBusReset v)) := (((LinkStays.refl _).tells told).usbBusReset).tells shown
    refine ⟨by rw [stays.pads, placed], ?_, ?_, fun _ => ⟨?_, fun w inside => ?_⟩, stays.frame⟩
    · exact (stat.rb rfl 0).trans ((reset.stat 0 (by decide)).trans here)
    · exact (stat.rb rfl 5).trans ((reset.stat 5 (by decide)).trans flag)
    · rw [shown.usb, reset.usb]
    · rw [shown.slotOf, reset.idle w inside]

/-! ## Suspend (R814) -/

/-- The device as its bus falls idle. -/
def usbSleeps (s : State) : State :=
  setUsb (wb (wb (stopTimer s tmrIdle) .USB_STAT 0 1 true) .USB_STAT 0 3 true) { s.usb with susAt := s.time, sent := none }

theorem usbSuspend_effects (s : State) : let t := usbShow (raise (count (usbSleeps s) .usb 0x59) .usb 100)
    rb t .USB_STAT 0 1 = true ∧ rb t .USB_STAT 0 3 = true ∧ t.usb.susAt = s.time ∧ LinkStays s t := by
  have shown : Tells (usbSleeps s) (usbShow (raise (count (usbSleeps s) .usb 0x59) .usb 100)) :=
    (((Tells.refl _).count (by decide) _).raise (by decide) 100).usbShow
  have stat : Keeps (At .USB_STAT 0) (usbSleeps s) (usbShow (raise (count (usbSleeps s) .usb 0x59) .usb 100)) :=
    (((Keeps.refl _).count (by decide) _).raise (by decide) 100).usbShow (by decide)
  have same (i : Nat) : rb (usbSleeps s) .USB_STAT 0 i = rb (wb (wb (stopTimer s tmrIdle) .USB_STAT 0 1 true) .USB_STAT 0 3 true) .USB_STAT 0 i := rfl
  refine ⟨?_, ?_, by rw [shown.usb]; rfl, ?_⟩
  · rw [stat.rb rfl, same, rb_wb_other _ _ _ _ _ _ (by decide) (by decide), rb_wb_same _ _ _ _ _ (by decide)]
  · rw [stat.rb rfl, same, rb_wb_same _ _ _ _ _ (by decide)]
  · exact (((LinkStays.refl s).tells ((((Tells.refl s).stopTimer _).wb ..).wb ..)).setUsb _).tells shown

theorem usbResume_effects (suspended : rb s .USB_STAT 0 1 = true) : let t := usbHeard (usbResume s)
    rb t .USB_STAT 0 1 = false ∧ rb t .USB_STAT 0 4 = true ∧ LinkStays s t := by
  have heard : Keeps (At .USB_STAT 0) (usbResume s) (usbHeard (usbResume s)) := (Keeps.refl _).usbHeard
  refine ⟨(heard.rb rfl 1).trans (usbResume_awake s), ?_, (LinkStays.refl s).tells ((Tells.refl s).usbResume).usbHeard⟩
  exact (heard.rb rfl 4).trans ((rb_congr (usbResume_stat suspended) 4).trans (rb_wb_same _ _ _ _ _ (by decide)))

/-! ## Loss of the LINK clocks (R807, R831) -/

theorem usbNoClk_effects (s : State) : let t := usbNoClk s
    rb t .USB_STAT 0 7 = true ∧ dstate t 5 = 3 ∧ (∀ v, v ∈ usbUnits → slotOf t v = none) ∧ (∀ {B : Nat → Prop}, ¬ B (regAddr .USB_STAT 0) →
      ¬ B (regAddr .USB_STATE 0) → Keeps B s t) ∧ t.eth = s.eth ∧ t.dev = s.dev ∧ LinkStays s t := by
  let s1 := usbAbandoned (setUsb s { s.usb with sent := none })
  let s2 := wb s1 .USB_STAT 0 7 true
  have ends : Ends (setUsb s { s.usb with sent := none }) s1 := usbAbandoned_ends _
  have row : usbNoClk s = raise (setData s2 5 3) .usb 100 := rfl
  have shown : Tells s1 (raise (setData s2 5 3) .usb 100) := (((Tells.refl s1).wb ..).setData 5 3).raise (by decide) 100
  rw [row]
  refine ⟨?_, ?_, fun v inside => (shown.slotOf v).trans (usbAbandoned_idle _ inside), fun stat state => ?_, by rw [shown.eth, ends.eth]; rfl,
    by rw [shown.dev, ends.dev]; rfl, (((LinkStays.refl s).setUsb _).ends ends).tells shown⟩
  · have later : Keeps (At .USB_STAT 0) s2 (raise (setData s2 5 3) .usb 100) := ((Keeps.refl s2).setData (u := 5) (by decide) 3).raise (by decide) 100
    exact (later.rb rfl 7).trans (rb_wb_same s1 _ _ _ _ (by decide))
  · exact ((((Keeps.refl (A := At .USB_STATE 0) _).raise (by decide) 100)).dstate (u := 5) rfl).trans (dstate_setData s2 5 (by decide))
  · exact (((((Keeps.refl s).setUsb _).trans ends.keeps).wb stat 7 true).setData (u := 5) state 3).raise (by decide) 100

/-- What the loss of Ethernet's clock leaves. -/
structure EthNoClk (s t : State) : Prop where
  flag : rb t .ETH_STAT 0 6 = true
  state : dstate t 6 = 3
  rx : slotOf t 2 = none
  tx : slotOf t 3 = none
  others : ∀ v, slotOf s v = none → slotOf t v = none
  eth : t.eth = { s.eth with sending := false, backoff := false, attempts := 0, tx := [] }
  dev : t.dev = s.dev
  keeps : ∀ {B : Nat → Prop}, ¬ B (regAddr .ETH_STAT 0) → ¬ B (regAddr .ETH_STATE 0) → Keeps B s t
  stays : LinkStays s t

theorem ethNoClk_loses (s : State) : EthNoClk s (ethNoClk s) := by
  let s0 := setEth s { s.eth with sending := false, backoff := false, attempts := 0, tx := [] }
  let s1 := ethAbandon s0
  let s2 := wb s1 .ETH_STAT 0 6 true
  have ends : Ends s0 s1 := ((Ends.refl s0).abandon 2).abandon 3
  have row : ethNoClk s = raise (setData s2 6 3) .eth 105 := rfl
  have shown : Tells s1 (raise (setData s2 6 3) .eth 105) := (((Tells.refl s1).wb ..).setData 6 3).raise (by decide) 105
  rw [row]
  refine ⟨?_, ?_, ?_, ?_, fun v empty => ?_, by rw [shown.eth, ends.eth]; rfl, by rw [shown.dev, ends.dev]; rfl, fun stat state => ?_,
    (((LinkStays.refl s).setEth _).ends ends).tells shown⟩
  · have later : Keeps (At .ETH_STAT 0) s2 (raise (setData s2 6 3) .eth 105) := ((Keeps.refl s2).setData (u := 6) (by decide) 3).raise (by decide) 105
    exact (later.rb rfl 6).trans (rb_wb_same s1 _ _ _ _ (by decide))
  · exact ((((Keeps.refl (A := At .ETH_STATE 0) _).raise (by decide) 105)).dstate (u := 6) rfl).trans (dstate_setData s2 6 (by decide))
  · exact (shown.slotOf 2).trans (slotOf_endSlot_none (slotOf_endSlot s0 2 2) 3 2)
  · exact (shown.slotOf 3).trans (slotOf_endSlot (abandon s0 2) 3 2)
  · have before : slotOf s0 v = none := empty
    exact (shown.slotOf v).trans (slotOf_endSlot_none (slotOf_endSlot_none before 2 2) 3 2)
  · exact (((((Keeps.refl s).setEth _).trans ends.keeps).wb stat 6 true).setData (u := 6) state 3).raise (by decide) 105

theorem usbClkClear_effects (s : State) : let t := usbClkClear s
    rb t .USB_STAT 0 7 = false ∧ dstate t 5 ≠ 3 ∧ LinkStays s t := by
  let s1 := wb s .USB_STAT 0 7 false
  have cleared : rb s1 .USB_STAT 0 7 = false := rb_wb_same s _ _ _ _ (by decide)
  have row : usbClkClear s = if dstate s1 5 = 3 then usbShow (setData s1 5 0) else s1 := rfl
  rw [row]
  by_cases faulted : dstate s1 5 = 3
  · have shown : Tells s1 (usbShow (setData s1 5 0)) := ((Tells.refl s1).setData 5 0).usbShow
    have stat : Keeps (At .USB_STAT 0) s1 (usbShow (setData s1 5 0)) := ((Keeps.refl s1).setData (u := 5) (by decide) 0).usbShow (by decide)
    rw [if_pos faulted]
    refine ⟨(stat.rb rfl 7).trans cleared, dstate_usbShow ?_, (LinkStays.refl s).tells (((Tells.refl s).wb ..).trans shown)⟩
    rw [dstate_setData s1 5 (by decide)]
    decide
  · rw [if_neg faulted]
    exact ⟨cleared, faulted, (LinkStays.refl s).tells ((Tells.refl s).wb ..)⟩

theorem ethClkClear_effects (s : State) : let t := ethClkClear s
    rb t .ETH_STAT 0 6 = false ∧ dstate t 6 ≠ 3 ∧ t.eth.onPllc = false ∧ LinkStays s t := by
  let s1 := setEth (wb s .ETH_STAT 0 6 false) { s.eth with onPllc := false }
  have cleared : rb s1 .ETH_STAT 0 6 = false := rb_wb_same s _ _ _ _ (by decide)
  have stays : LinkStays s s1 := ((LinkStays.refl s).tells ((Tells.refl s).wb ..)).setEth _
  have row : ethClkClear s = if dstate s1 6 = 3 then ethShow (setData s1 6 0) else s1 := rfl
  rw [row]
  by_cases faulted : dstate s1 6 = 3
  · have shown : Tells s1 (ethShow (setData s1 6 0)) := ((Tells.refl s1).setData 6 0).follow ..
    have stat : Keeps (At .ETH_STAT 0) s1 (ethShow (setData s1 6 0)) := ((Keeps.refl s1).setData (u := 6) (by decide) 0).follow (u := 6) (by decide) _
    rw [if_pos faulted]
    refine ⟨(stat.rb rfl 6).trans cleared, dstate_follow ?_ _, by rw [shown.eth]; rfl, stays.tells shown⟩
    rw [dstate_setData s1 6 (by decide)]
    decide
  · rw [if_neg faulted]
    exact ⟨cleared, faulted, rfl, stays⟩

/-! ## Toggles (R826) -/

theorem togOf_setTog (s : State) (k : Nat) (b : Bool) : togOf (setTog s k b) k = b := mget_mset_same (fun _ => false) s.usb.toggle k b

theorem togOf_setTog_ne (s : State) {j k : Nat} (apart : j ≠ k) (b : Bool) : togOf (setTog s k b) j = togOf s j :=
  mget_mset_ne (fun _ => false) (fun _ => false) s.usb.toggle b apart

theorem usbTogRst_effects (s : State) (ep : Nat) : let t := usbTogRst s ep
    togOf t (2 * ep) = false ∧ togOf t (2 * ep + 1) = false ∧ ∀ k, k / 2 ≠ ep → togOf t k = togOf s k := by
  refine ⟨?_, togOf_setTog .., fun k other => ?_⟩
  · rw [usbTogRst, togOf_setTog_ne _ (by omega), togOf_setTog]
  · rw [usbTogRst, togOf_setTog_ne _ (by omega), togOf_setTog_ne _ (by omega)]

/-- Settles O44: the bus's events on USB and the clocks' events on USB and Ethernet, one equation or frame for each. -/
theorem usbBusEvents : Obligations.UsbBusEvents := by
  intro s req v e live frame idle
  refine ⟨fun may on quiet => ?disable, fun level alive change => ?vbus, fun alive pulled => ?reset, fun alive pulled awake due => ⟨?suspend, ?heard⟩,
    fun alive early => ?early, fun alive suspended => ?resume, fun may suspended long => ?wake, fun may awake => ?noWake, fun alive due => ?wakeEnd,
    fun may => ?address, fun may => ?toggles, fun awake lost pll on link => ?restore, fun may => ?usbClear, fun may => ?ethClear⟩
  case disable =>
    obtain ⟨off, state⟩ := usbDisable_effects on quiet
    exact Does.intro (writeReg_taken may usbDisable) ⟨off.off, off.mgmt, state, off.idle, off.sent, off.stays.frame⟩
  case vbus => exact Does.intro rfl (vbusChange_effects alive change)
  case reset =>
    let s0 := usbResume s
    let s1 := usbBusReset s0
    let s2 := usbShow s1
    have reset := usbBusReset_resets s0
    have shown : Tells s1 s2 := (Tells.refl s1).usbShow
    have heard : Tells s2 (usbHeard s2) := (Tells.refl s2).usbHeard
    have resumed : Tells s s0 := (Tells.refl s).usbResume
    have later {B : Nat → Prop} (apart : ¬ B (regAddr .USB_STATE 0)) : Keeps B s1 (usbHeard s2) := ((Keeps.refl s1).usbShow apart).usbHeard
    have usb : (usbHeard s2).usb = { s0.usb with addr := 0, staged := none, toggle := [], sent := none, armIn := false, armOut := false } := by
      rw [heard.usb, shown.usb, reset.usb]
    have pulls : usbPull s2 = true := by
      have kept : usbPull s2 = usbPull s1 := usbPull_kept ((Keeps.refl s1).usbShow (by unfold PullAddr; decide)) (by rw [shown.usb])
      have before : Keeps (· = regAddr .USB_CTL 0) s s1 := ((Keeps.refl s).usbResume (by decide) (by decide)).trans reset.keeps
      have keep : s1.usb.keepPull = s.usb.keepPull := by rw [reset.usb, resumed.usb]
      have vbus : rb s1 .USB_STAT 0 0 = rb s .USB_STAT 0 0 := (reset.stat 0 (by decide)).trans (usbResume_pull s 0 (by decide))
      rw [kept, usbPull, before.rb rfl, before.rb rfl, keep, vbus]
      exact pulled
    have stat (i : Nat) : rb s2 .USB_STAT 0 i = rb s1 .USB_STAT 0 i := ((Keeps.refl (A := At .USB_STAT 0) s1).usbShow (by decide)).rb rfl i
    have up : rb s1 .USB_STAT 0 1 = false := (reset.stat 1 (by decide)).trans (usbResume_awake s)
    have time : s2.time = s.time := by rw [shown.time, reset.time, resumed.time]
    refine Does.intro ((liveIn_live alive fun s => if usbPull s then usbHeard (usbShow (usbBusReset (usbResume s))) else s).trans (congrArg _ (if_pos pulled)))
      ⟨by rw [usb], ?_, by rw [usb], by rw [usb], by rw [usb], by rw [usb], fun k three => ?_, ?_, ?_, ?_, fun w inside => ?_, ?_⟩
    · exact ((later (B := At .USB_ADDR 0) (by decide)).rd rfl).trans reset.address
    · have apart : ∀ k : Fin 3, ¬ At .USB_EPCFG k (regAddr .USB_STATE 0) := by decide
      exact ((later (apart ⟨k, three⟩)).rf rfl 3 0).trans (reset.configs k three)
    · exact ((later (B := At .USB_STAT 0) (by decide)).rb rfl 2).trans reset.flag
    · exact ((later (B := At .USB_STAT 0) (by decide)).rb rfl 1).trans up
    · rw [usbHeard_idle pulls ((stat 1).trans up), time]
    · rw [heard.slotOf, shown.slotOf, reset.idle w inside]
    · exact ((((LinkStays.refl s).tells resumed).usbBusReset).tells (shown.trans heard)).frame
  case suspend =>
    obtain ⟨suspended, flag, at_, stays⟩ := usbSuspend_effects s
    exact Does.intro ((liveIn_live alive fun s => if usbPull s ∧ rb s .USB_STAT 0 1 = false ∧ timerDue s tmrIdle = true then
      usbShow (raise (count (usbSleeps s) .usb 0x59) .usb 100) else s).trans (congrArg _ (if_pos ⟨pulled, awake, due⟩)))
      ⟨suspended, flag, at_, stays.frame⟩
  case heard =>
    have still : usbResume s = s := if_neg (ne_true_of_eq_false awake)
    have on : (usbPull s && !(rb s .USB_STAT 0 1)) = true := by rw [pulled, awake]; rfl
    have row : usbHeard s = startTimer (send s 7 (.count 0x08 1)) tmrIdle 72000 := by
      unfold usbHeard
      rw [if_pos on, if_pos due, count_send (by decide)]
      rfl
    refine (liveIn_live alive fun s => usbHeard (usbResume s)).trans (congrArg _ ?_)
    rw [still, row]
  case early =>
    refine (liveIn_live alive fun s => if usbPull s ∧ rb s .USB_STAT 0 1 = false ∧ timerDue s tmrIdle = true then
      usbShow (raise (count (usbSleeps s) .usb 0x59) .usb 100) else s).trans (congrArg _ (if_neg ?_))
    rintro ⟨-, -, due⟩
    exact Bool.false_ne_true (early.symm.trans due)
  case resume =>
    obtain ⟨awake, flag, stays⟩ := usbResume_effects suspended
    exact Does.intro (liveIn_live alive fun s => usbHeard (usbResume s)) ⟨awake, flag, stays.frame⟩
  case wake => exact (writeReg_taken may usbRwake).trans (congrArg _ (if_pos ⟨suspended, long⟩))
  case noWake => exact (writeReg_taken may usbRwake).trans (congrArg _ (if_neg fun both => Bool.false_ne_true (awake.symm.trans both.1)))
  case wakeEnd =>
    exact (liveIn_live alive fun s => if timerDue s 132 then stopTimer (setUsb s { s.usb with waking := false }) 132 else s).trans
      (congrArg _ (if_pos due))
  case address =>
    have stays : LinkStays s (usbAddr s v) := ((LinkStays.refl s).setUsb _).tells ((Tells.refl _).wb ..)
    exact Does.intro (writeReg_taken may fun s => usbAddr s v) ⟨rfl, rfl, rb_wb_same _ _ _ _ _ (by decide), stays.frame⟩
  case toggles =>
    obtain ⟨inn, out, others⟩ := usbTogRst_effects s (e + 1)
    exact Does.intro (writeReg_taken may fun s => usbTogRst s (e + 1)) ⟨inn, out, others, rfl, rfl, rfl, rfl, rfl⟩
  case restore =>
    let s1 : State := { s with dev := { s.dev with linkLost := false } }
    have runs : islandRuns s1 .usb = true := by
      change (s.dev.linkOn && !false && rb s .CLK_STAT 0 3 && rb s .CLK_CTL 0 2) = true
      rw [link, pll, on]
      rfl
    have goes : (s.dev.linkLost && islandRuns s1 .usb) = true := by rw [lost, runs]; rfl
    have alive : Live s .ao := ⟨awake, rfl⟩
    obtain ⟨flag, state, empty, kept, -, dev, stays⟩ := usbNoClk_effects s1
    have eth := ethNoClk_loses (usbNoClk s1)
    refine Does.intro ((liveIn_live alive fun s => if s.dev.linkLost && islandRuns { s with dev := { s.dev with linkLost := false } } .usb then
      ethNoClk (usbNoClk { s with dev := { s.dev with linkLost := false } }) else s).trans (congrArg _ (if_pos goes)))
      ⟨by rw [eth.dev, dev], ?_, eth.flag, ?_, eth.state, fun w inside => eth.others w (empty w inside), eth.rx, eth.tx, (stays.trans eth.stays).frame⟩
    · exact ((eth.keeps (B := At .USB_STAT 0) (by decide) (by decide)).rb rfl 7).trans flag
    · exact ((eth.keeps (B := At .USB_STATE 0) (by decide) (by decide)).dstate (u := 5) rfl).trans state
  case usbClear =>
    obtain ⟨cleared, sound, stays⟩ := usbClkClear_effects s
    exact Does.intro (writeReg_taken may usbClkClear) ⟨cleared, sound, stays.frame⟩
  case ethClear =>
    obtain ⟨cleared, sound, own, stays⟩ := ethClkClear_effects s
    exact Does.intro (writeReg_taken may ethClkClear) ⟨cleared, sound, own, stays.frame⟩

end Sys2Proof.Proofs
end

section
/-! # Chapter 16: USB endpoint traffic (R816-R828) -/
namespace Sys2Proof.Proofs
open Sys2Proof.Machine Sys2Proof.Laws

variable {s t u : State} {A : Nat → Prop}

/-! ## EP0's control register -/

theorem Keeps.sameIoBut {l : List Nat} (h : Keeps (· ∉ l) s t) : SameIoBut l s t := fun d k out => h.io d k out

/-- Threads, near RAM and instructions. -/
theorem Keeps.linkFrame (h : Keeps A s t) : t.thr = s.thr ∧ t.near = s.near ∧ t.iram = s.iram := by
  obtain ⟨near, -, iram, -⟩ := h.memory
  exact ⟨h.thr, near, iram⟩

theorem Tells.ep0Flag (h : Tells s t) (bit : Nat) : Tells s (ep0Flag t bit) := ite h ((h.wb ..).raise (by decide) 96)

theorem Keeps.ep0Flag (h : Keeps A s t) (apart : ¬ A (regAddr .USB_EP0CTL 0)) (bit : Nat) : Keeps A s (ep0Flag t bit) :=
  ite h ((h.wb apart bit true).raise (by decide) 96)

theorem ep0Flag_set (s : State) {bit : Nat} (small : bit < 32) : rb (ep0Flag s bit) .USB_EP0CTL 0 bit = true := by
  unfold ep0Flag
  split
  next set => exact set
  · rw [raise_send (by decide)]
    exact rb_wb_same s _ _ _ _ small

theorem Keeps.setTog (h : Keeps A s t) (k : Nat) (b : Bool) : Keeps A s (setTog t k b) := h.setUsb _

theorem togOf_congr (same : t.usb.toggle = s.usb.toggle) (k : Nat) : togOf t k = togOf s k := by rw [togOf, same, togOf]

/-! ## Registers written one by one -/

/-- Instances of a register written one after another. -/
def writeAll (r : Rg) (l : List (Nat × Quad)) (s : State) : State := l.foldl (fun s e => wr s r e.1 e.2) s

theorem rd_writeAll_out {r : Rg} {l : List (Nat × Quad)} {k : Nat} (apart : ∀ j, j ≠ k → regAddr r k ≠ regAddr r j) (out : k ∉ l.map Prod.fst)
    (s : State) : rd (writeAll r l s) r k = rd s r k := by
  induction l generalizing s with
  | nil => rfl
  | cons e l ih =>
    rw [List.map_cons, List.mem_cons, not_or] at out
    exact (ih out.2 (wr s r e.1 e.2)).trans (rd_wr_ne _ _ _ _ _ _ (apart e.1 (Ne.symm out.1)))

theorem rd_writeAll {r : Rg} {l : List (Nat × Quad)} {k : Nat} {v : Quad} (apart : ∀ j, j ≠ k → regAddr r k ≠ regAddr r j)
    (once : (l.map Prod.fst).Nodup) (inside : (k, v) ∈ l) (s : State) : rd (writeAll r l s) r k = v := by
  induction l generalizing s with
  | nil => exact absurd inside List.not_mem_nil
  | cons e l ih =>
    rw [List.map_cons, List.nodup_cons] at once
    rcases List.mem_cons.1 inside with here | later
    · subst here
      exact (rd_writeAll_out apart once.1 (wr s r k v)).trans (rd_wr_same ..)
    · exact ih once.2 later (wr s r e.1 e.2)

/-! ## SETUP (R817) -/

/-- The bytes of a SETUP packet shown. -/
def setupShown (s : State) (data : BitVec 64) : State :=
  forN 8 (if s.usb.armIn || s.usb.armOut || rb s .USB_EP0CTL 0 3 then count s .usb 0x5A else s) fun s k =>
    wr s .USB_SETUP k (BitVec.ofNat 32 (data.toNat / 256 ^ k % 256))

theorem rd_setupShown (s : State) (data : BitVec 64) {k : Nat} (eight : k < 8) :
    rd (setupShown s data) .USB_SETUP k = BitVec.ofNat 32 (data.toNat / 256 ^ k % 256) := by
  have row (v : State) : (forN 8 v fun s k => wr s .USB_SETUP k (BitVec.ofNat 32 (data.toNat / 256 ^ k % 256))) =
      writeAll .USB_SETUP ((List.range 8).map fun k => (k, BitVec.ofNat 32 (data.toNat / 256 ^ k % 256))) v := by
    rw [forN, writeAll, List.foldl_map]
  have once : (((List.range 8).map fun k => (k, BitVec.ofNat 32 (data.toNat / 256 ^ k % 256))).map Prod.fst).Nodup := by
    rw [List.map_map]
    exact (List.map_id (List.range 8)).symm ▸ List.nodup_range
  rw [setupShown, row]
  refine rd_writeAll (fun j other => ?_) once (List.mem_map.2 ⟨k, List.mem_range.2 eight, rfl⟩) _
  change (0x3010 + 0x1 * k : Nat) ≠ 0x3010 + 0x1 * j
  omega

/-- EP0 as a SETUP packet leaves it, before SETUPF. -/
def setupLeft (s : State) : State :=
  usbArm (setTog (setTog (setUsb s { s.usb with stall0 := false, sent := none }) 0 true) 1 true) false false

theorem togOf_usbArm (s : State) (i o : Bool) (k : Nat) : togOf (usbArm s i o) k = togOf s k := rfl

theorem setupLeft_toggles (s : State) : togOf (setupLeft s) 0 = true ∧ togOf (setupLeft s) 1 = true := by
  rw [setupLeft, togOf_usbArm, togOf_usbArm, togOf_setTog_ne _ (by decide), togOf_setTog, togOf_setTog]
  exact ⟨rfl, rfl⟩

theorem setupLeft_usb (s : State) : (setupLeft s).usb.armIn = false ∧ (setupLeft s).usb.armOut = false ∧ (setupLeft s).usb.stall0 = false ∧
    (setupLeft s).usb.addr = s.usb.addr := ⟨rfl, rfl, rfl, rfl⟩

theorem Keeps.setupLeft (h : Keeps A s t) (apart : ¬ A (regAddr .USB_EP0CTL 0)) : Keeps A s (setupLeft t) :=
  (((h.setUsb _).setTog ..).setTog ..).usbArm apart false false

theorem setupShown_tells (s : State) (data : BitVec 64) : Tells s (setupShown s data) :=
  (Tells.ite ((Tells.refl s).count (by decide) 0x5A) (Tells.refl s)).foldl fun _ _ hu => hu.wr ..

theorem Keeps.setupShown (h : Keeps A s t) (apart : ∀ k, ¬ A (regAddr .USB_SETUP k)) (data : BitVec 64) : Keeps A s (setupShown t data) :=
  (ite (h.count (by decide) 0x5A) h).foldl fun _ k hu => hu.wr (apart k) _

theorem usbSetup_effects (data : BitVec 64) (ours : mgmt s 5 ≠ 2) : let t := usbSetup s data
    (∀ k, k < 8 → rd t .USB_SETUP k = BitVec.ofNat 32 (data.toNat / 256 ^ k % 256)) ∧ rb t .USB_EP0CTL 0 3 = true ∧ t.usb.armIn = false ∧
      t.usb.armOut = false ∧ t.usb.stall0 = false ∧ togOf t 0 = true ∧ togOf t 1 = true ∧ t.usb.addr = s.usb.addr ∧ Keeps Nowhere s t := by
  have before : (setupShown s data).usb = s.usb := (setupShown_tells s data).usb
  have shown : ∀ k, k < 8 → rd (setupShown s data) .USB_SETUP k = BitVec.ofNat 32 (data.toNat / 256 ^ k % 256) := fun k => rd_setupShown s data
  have whole : Keeps Nowhere s (setupShown s data) := (Keeps.refl s).setupShown (fun _ => id) data
  have same : mgmt (setupLeft (setupShown s data)) 5 = mgmt s 5 := by
    have apart (k : Nat) : ¬ At .USB_STATE 0 (regAddr .USB_SETUP k) := by
      change ¬ (0x3010 + 0x1 * k : Nat) = 0x3001
      omega
    exact (((Keeps.refl s).setupShown apart data).setupLeft (by decide)).mgmt (u := 5) rfl
  have row : usbSetup s data = ep0Flag (setupLeft (setupShown s data)) 3 := if_neg (same ▸ ours)
  rw [row]
  generalize setupShown s data = v at before shown whole
  obtain ⟨armIn, armOut, stall, addr⟩ := setupLeft_usb v
  obtain ⟨tog0, tog1⟩ := setupLeft_toggles v
  have usb : (ep0Flag (setupLeft v) 3).usb = (setupLeft v).usb := ((Tells.refl _).ep0Flag 3).usb
  refine ⟨fun k eight => ?_, ep0Flag_set _ (by decide), by rw [usb, armIn], by rw [usb, armOut], by rw [usb, stall], ?_, ?_,
    by rw [usb, addr, before], (whole.setupLeft id).ep0Flag id 3⟩
  · have apart : ∀ k : Fin 8, ¬ At .USB_SETUP k (regAddr .USB_EP0CTL 0) := by decide
    exact ((((Keeps.refl v).setupLeft (apart ⟨k, eight⟩)).ep0Flag (apart ⟨k, eight⟩) 3).rd rfl).trans (shown k eight)
  · exact (togOf_congr (congrArg Usb.toggle usb) 0).trans tog0
  · exact (togOf_congr (congrArg Usb.toggle usb) 1).trans tog1

/-! ## EP0's data packets (R818, R819) -/

theorem usbArmIn_effects (clear : rb s .USB_EP0CTL 0 3 = false) : let t := usbArmIn s
    t.usb = { s.usb with armIn := true } ∧ rb t .USB_EP0CTL 0 6 = true ∧ ∀ {B : Nat → Prop}, ¬ B (regAddr .USB_EP0CTL 0) → Keeps B s t := by
  have row : usbArmIn s = usbArm s true s.usb.armOut := if_neg (ne_true_of_eq_false clear)
  rw [row]
  exact ⟨rfl, (rb_wb_same _ _ _ _ _ (by decide)).trans (Bool.true_or _), fun apart => (Keeps.refl s).usbArm apart ..⟩

theorem usbArmOut_effects (clear : rb s .USB_EP0CTL 0 3 = false) : let t := usbArmOut s
    t.usb = { s.usb with armOut := true } ∧ rb t .USB_EP0CTL 0 6 = true ∧ ∀ {B : Nat → Prop}, ¬ B (regAddr .USB_EP0CTL 0) → Keeps B s t := by
  have row : usbArmOut s = usbArm s s.usb.armIn true := if_neg (ne_true_of_eq_false clear)
  rw [row]
  exact ⟨rfl, (rb_wb_same _ _ _ _ _ (by decide)).trans (Bool.or_true _), fun apart => (Keeps.refl s).usbArm apart ..⟩

/-- EP0's buffer with the bytes of a packet. -/
def bufferStored (s : State) (data : List Byte) : State :=
  ((List.range data.length).zip data).foldl (fun s e => wr s .USB_EP0BUF e.1 (BitVec.ofNat 32 e.2.toNat)) s

theorem bufferStored_eq (s : State) (data : List Byte) : bufferStored s data =
    writeAll .USB_EP0BUF (((List.range data.length).zip data).map fun e => (e.1, BitVec.ofNat 32 e.2.toNat)) s := by
  rw [writeAll, List.foldl_map]
  rfl

theorem rd_bufferStored (s : State) (data : List Byte) {k : Nat} (inside : k < data.length) :
    rd (bufferStored s data) .USB_EP0BUF k = BitVec.ofNat 32 (data.getD k 0).toNat := by
  have there : (k, data.getD k 0) ∈ (List.range data.length).zip data := by
    refine List.mem_iff_getElem.2 ⟨k, by simpa using inside, ?_⟩
    rw [List.getElem_zip, List.getElem_range, List.getD_eq_getElem _ _ inside]
  have once : ((((List.range data.length).zip data).map fun e => (e.1, BitVec.ofNat 32 e.2.toNat)).map Prod.fst).Nodup := by
    rw [List.map_map]
    have firsts : (Prod.fst ∘ fun e : Nat × Byte => (e.1, BitVec.ofNat 32 e.2.toNat)) = Prod.fst := rfl
    rw [firsts, List.map_fst_zip (by rw [List.length_range])]
    exact List.nodup_range
  rw [bufferStored_eq]
  refine rd_writeAll (fun j other => ?_) once (List.mem_map.2 ⟨_, there, rfl⟩) s
  change (0x3040 + 0x1 * k : Nat) ≠ 0x3040 + 0x1 * j
  omega

theorem Tells.bufferStored (h : Tells s t) (data : List Byte) : Tells s (bufferStored t data) := h.foldl fun _ _ hu => hu.wr ..

theorem Keeps.bufferStored (h : Keeps Nowhere s t) (data : List Byte) : Keeps Nowhere s (bufferStored t data) := h.foldl fun _ _ hu => hu.wr id _

/-- EP0's packet taken, before its flag. -/
def outTaken (s : State) (n : Nat) : State := usbArm (wr s .USB_EP0LEN 0 (BitVec.ofNat 32 n)) s.usb.armIn false

theorem Keeps.outTaken (h : Keeps A s t) (len : ¬ A (regAddr .USB_EP0LEN 0)) (ctl : ¬ A (regAddr .USB_EP0CTL 0)) (n : Nat) : Keeps A s (outTaken t n) :=
  (h.wr len _).usbArm ctl ..

theorem ep0Out_effects {data : List Byte} {tog : Bool} (unstalled : s.usb.stall0 = false) (clear : rb s .USB_EP0CTL 0 3 = false) (on : mgmt s 5 = 1)
    (armed : s.usb.armOut = true) (short : data.length ≤ 64) (now : tog = togOf s 1) : let t := ep0Out s tog data true
    (∀ k, k < data.length → rd t .USB_EP0BUF k = BitVec.ofNat 32 (data.getD k 0).toNat) ∧ rd t .USB_EP0LEN 0 = BitVec.ofNat 32 data.length ∧
      togOf t 1 = !tog ∧ t.usb.armOut = false ∧ t.usb.armIn = s.usb.armIn ∧ rb t .USB_EP0CTL 0 5 = true ∧ Keeps Nowhere s t := by
  have ready : ¬ (s.usb.stall0 = true ∨ rb s .USB_EP0CTL 0 3 = true ∨ mgmt s 5 ≠ 1 ∨ s.usb.armOut = false) := by
    rw [unstalled, clear, on, armed]
    simp
  have row : ep0Out s tog data true = ep0Flag (outTaken (bufferStored (setTog s 1 (!tog)) data) data.length) 5 :=
    (if_neg Bool.true_eq_false.mp).trans ((if_neg (Nat.not_lt.2 short)).trans ((if_neg ready).trans (if_neg (not_not_intro now))))
  have bytes := fun k => rd_bufferStored (setTog s 1 (!tog)) data (k := k)
  have before : (bufferStored (setTog s 1 (!tog)) data).usb = (setTog s 1 (!tog)).usb := ((Tells.refl _).bufferStored data).usb
  have whole : Keeps Nowhere s (bufferStored (setTog s 1 (!tog)) data) := ((Keeps.refl s).setTog ..).bufferStored data
  have flipped : togOf (bufferStored (setTog s 1 (!tog)) data) 1 = !tog := (togOf_congr (congrArg Usb.toggle before) 1).trans (togOf_setTog ..)
  have armIn : (bufferStored (setTog s 1 (!tog)) data).usb.armIn = s.usb.armIn := by
    rw [before]
    rfl
  rw [row]
  generalize bufferStored (setTog s 1 (!tog)) data = v at bytes whole flipped armIn
  have usb : (ep0Flag (outTaken v data.length) 5).usb = (outTaken v data.length).usb := ((Tells.refl _).ep0Flag 5).usb
  refine ⟨fun k inside => ?_, ?_, ?_, by rw [usb]; rfl, by rw [usb]; exact armIn, ep0Flag_set _ (by decide), (whole.outTaken id id _).ep0Flag id 5⟩
  · have apart : ∀ k : Fin 64, ¬ At .USB_EP0BUF k (regAddr .USB_EP0LEN 0) ∧ ¬ At .USB_EP0BUF k (regAddr .USB_EP0CTL 0) := by decide
    obtain ⟨len, ctl⟩ := apart ⟨k, by omega⟩
    exact ((((Keeps.refl v).outTaken len ctl _).ep0Flag ctl 5).rd rfl).trans (bytes k inside)
  · have later : Keeps (At .USB_EP0LEN 0) (wr v .USB_EP0LEN 0 (BitVec.ofNat 32 data.length)) (ep0Flag (outTaken v data.length) 5) :=
      ((Keeps.refl _).usbArm (by decide) ..).ep0Flag (by decide) 5
    exact (later.rd rfl).trans (rd_wr_same ..)
  · exact (togOf_congr (congrArg Usb.toggle usb) 1).trans flipped

end Sys2Proof.Proofs
end

section
/-! # Chapter 16: tokens and handshakes of USB (R819, R821-R828) -/
namespace Sys2Proof.Proofs
open Sys2Proof.Machine Sys2Proof.Laws

variable {s t u : State} {A : Nat → Prop}

/-! ## IN tokens -/

theorem usbIn_sends {ep n : Nat} {x : Slot} (on : rb s .USB_EPCFG (ep - 1) 0 = true) (flows : rb s .USB_EPCFG (ep - 1) 2 = false)
    (ours : mgmt s 5 = 1) (held : slotOf s n = some x) (data : nbit x.e.uflags 1 = false) (unmarked : x.mark ≠ 1)
    (here : min (usbMps s n) (fragTotal x.e.frags - x.moved) ≠ 0 → ∃ mv, moverOf s x.chan x.e.idx = some mv ∧
      min (usbMps s n) (fragTotal x.e.frags - x.moved) ≤ mv.got.length) :
    usbIn s ep n = setUsb s { s.usb with sent := some (ep, min (usbMps s n) (fragTotal x.e.frags - x.moved)) } := by
  have open_ : ¬ (rb s .USB_EPCFG (ep - 1) 0 = false ∨ mgmt s 5 ≠ 1) := by
    rw [on, ours]
    simp
  have plain : ¬ (nbit x.e.uflags 1 = true ∨ x.mark = 1) := by
    rw [data]
    simpa using unmarked
  unfold usbIn
  rw [if_neg open_, if_neg (ne_true_of_eq_false flows), held]
  dsimp only
  rw [if_neg plain]
  generalize min (usbMps s n) (fragTotal x.e.frags - x.moved) = k at here ⊢
  have has : ¬ (k ≠ 0 ∧ moverHas s x.chan x.e.idx k = false) := by
    rintro ⟨some_, none⟩
    obtain ⟨mv, found, enough⟩ := here some_
    rw [moverHas, found] at none
    simp [enough] at none
  have whole : ¬ (k ≠ 0 ∧ moverShort s x.chan x.e.idx k = true) := by
    rintro ⟨some_, short⟩
    obtain ⟨mv, found, enough⟩ := here some_
    rw [moverShort, found] at short
    simp only [Bool.and_eq_true, decide_eq_true_eq] at short
    exact Nat.not_lt.2 enough short.2
  rw [if_neg has, if_neg whole]

theorem usbIn_waits {ep n : Nat} {x : Slot} {mv : Mover} (on : rb s .USB_EPCFG (ep - 1) 0 = true) (flows : rb s .USB_EPCFG (ep - 1) 2 = false)
    (ours : mgmt s 5 = 1) (held : slotOf s n = some x) (data : nbit x.e.uflags 1 = false) (unmarked : x.mark ≠ 1)
    (found : moverOf s x.chan x.e.idx = some mv) (short : mv.got.length < min (usbMps s n) (fragTotal x.e.frags - x.moved)) (good : mv.bad = false) :
    usbIn s ep n = s := by
  have open_ : ¬ (rb s .USB_EPCFG (ep - 1) 0 = false ∨ mgmt s 5 ≠ 1) := by
    rw [on, ours]
    simp
  have plain : ¬ (nbit x.e.uflags 1 = true ∨ x.mark = 1) := by
    rw [data]
    simpa using unmarked
  unfold usbIn
  rw [if_neg open_, if_neg (ne_true_of_eq_false flows), held]
  dsimp only
  rw [if_neg plain]
  generalize min (usbMps s n) (fragTotal x.e.frags - x.moved) = k at short ⊢
  refine if_pos ⟨by omega, ?_⟩
  rw [moverHas, found]
  simp [good, short]

/-- A packet's effect where the device hears it at its address. -/
def heardAt (a : BitVec 7) (f : State → State) (s : State) : State :=
  if usbHears s = false then s else if a.toNat ≠ s.usb.addr then usbHeard s else usbHeard (f s)

theorem heardAt_ours {a : BitVec 7} (hears : usbHears s = true) (ours : a.toNat = s.usb.addr) (f : State → State) : heardAt a f s = usbHeard (f s) :=
  (if_neg (ne_false_of_eq_true hears)).trans (if_neg (not_not_intro ours))

/-- What an IN token of an endpoint does. -/
def inTaken (ep : Fin 4) (s : State) : State :=
  match epUnit ep false with
  | some u => usbIn s ep u
  | none => if s.usb.stall0 ∨ rb s .USB_EP0CTL 0 3 ∨ mgmt s 5 ≠ 1 ∨ s.usb.armIn = false then s else setUsb s { s.usb with sent := some (0, ep0Len s) }

/-- What an OUT packet of an endpoint does. -/
def outTokenTaken (ep : Fin 4) (tog : Bool) (data : List Byte) (crcOk : Bool) (s : State) : State :=
  match epUnit ep true with
  | some u => usbOut s ep u tog data crcOk
  | none => if ep.val = 0 then ep0Out s tog data crcOk else s

/-- A token that the device hears at its address. -/
theorem usbInToken_heard (live : Live s .usb) {a : BitVec 7} {ep : Fin 4} {n : Nat} (hears : usbHears s = true) (ours : a.toNat = s.usb.addr)
    (unit : epUnit ep false = some n) : exec (.usbInToken a ep) s = .next (usbHeard (usbIn s ep n)) := by
  refine (liveIn_live live (heardAt a (inTaken ep))).trans (congrArg _ ((heardAt_ours hears ours _).trans (congrArg usbHeard ?_)))
  rw [inTaken, unit]

theorem usbInToken_control (live : Live s .usb) {a : BitVec 7} (hears : usbHears s = true) (ours : a.toNat = s.usb.addr)
    (unstalled : s.usb.stall0 = false) (clear : rb s .USB_EP0CTL 0 3 = false) (on : mgmt s 5 = 1) (armed : s.usb.armIn = true) :
    exec (.usbInToken a 0) s = .next (usbHeard (setUsb s { s.usb with sent := some (0, ep0Len s) })) := by
  have ready : ¬ (s.usb.stall0 = true ∨ rb s .USB_EP0CTL 0 3 = true ∨ mgmt s 5 ≠ 1 ∨ s.usb.armIn = false) := by
    rw [unstalled, clear, on, armed]
    simp
  exact (liveIn_live live (heardAt a (inTaken 0))).trans (congrArg _ ((heardAt_ours hears ours _).trans (congrArg usbHeard (if_neg ready))))

/-! ## OUT packets -/

theorem usbOutData_heard (live : Live s .usb) {a : BitVec 7} {ep : Fin 4} {n : Nat} (hears : usbHears s = true) (ours : a.toNat = s.usb.addr)
    (unit : epUnit ep true = some n) (tog : Bool) (data : List Byte) (crcOk : Bool) :
    exec (.usbOutData a ep tog data crcOk) s = .next (usbHeard (usbOut s ep n tog data crcOk)) := by
  refine (liveIn_live live (heardAt a (outTokenTaken ep tog data crcOk))).trans (congrArg _ ((heardAt_ours hears ours _).trans (congrArg usbHeard ?_)))
  rw [outTokenTaken, unit]

theorem usbOutData_control (live : Live s .usb) {a : BitVec 7} (hears : usbHears s = true) (ours : a.toNat = s.usb.addr)
    (tog : Bool) (data : List Byte) (crcOk : Bool) : exec (.usbOutData a 0 tog data crcOk) s = .next (usbHeard (ep0Out s tog data crcOk)) :=
  (liveIn_live live (heardAt a (outTokenTaken 0 tog data crcOk))).trans (congrArg _ (heardAt_ours hears ours _))

theorem usbOut_badCrc {ep n : Nat} (tog : Bool) (data : List Byte) (on : rb s .USB_EPCFG (ep - 1) 1 = true) :
    usbOut s ep n tog data false = send s 7 (.count 0x5C 1) := by
  have row : usbOut s ep n tog data false = count s .usb 0x5C := (if_neg (ne_false_of_eq_true on)).trans (if_pos rfl)
  rw [row, count_send (by decide)]
  rfl

/-- An OUT packet that the endpoint may take: its toggle decides. -/
theorem usbOut_taken {ep n : Nat} {tog : Bool} {data : List Byte} (on : rb s .USB_EPCFG (ep - 1) 1 = true) (fits : data.length ≤ usbMps s n)
    (flows : rb s .USB_EPCFG (ep - 1) 3 = false) (ours : mgmt s 5 = 1) :
    usbOut s ep n tog data true = if tog ≠ togOf s (2 * ep + 1) then count s .usb 0x5E else usbStore s ep n data :=
  (if_neg (ne_false_of_eq_true on)).trans ((if_neg Bool.true_eq_false.mp).trans ((if_neg (Nat.not_lt.2 fits)).trans
    ((if_neg (not_not_intro ours)).trans (if_neg (ne_true_of_eq_false flows)))))

/-- A packet's bytes sent to a held entry that stays. -/
def packetStored (s : State) (k n : Nat) (x : Slot) (data : List Byte) : State :=
  let s1 := unitSend s x.chan x.e.idx x.e.frags x.moved data
  setSlot (setTog s1 k (!(togOf s1 k))) n (some { x with moved := x.moved + data.length })

theorem usbStore_stays {ep n : Nat} {x : Slot} {data : List Byte} (held : slotOf s n = some x) (full : data.length = usbMps s n)
    (room : x.moved + 2 * usbMps s n ≤ fragTotal x.e.frags) (plain : nbit x.e.uflags 0 = false) :
    usbStore s ep n data = packetStored s (2 * ep + 1) n x data := by
  have stays : ¬ (data.length < usbMps s n ∨ fragTotal x.e.frags - (x.moved + data.length) < usbMps s n ∨ nbit x.e.uflags 0 = true) := by
    rw [plain]
    simp only [Bool.false_eq_true, or_false]
    omega
  unfold usbStore
  rw [held]
  exact if_neg stays

/-- The bus heard after a slot and a toggle are set sends what it sends before. -/
theorem xwait_usbHeard (s : State) (k n : Nat) (b : Bool) (x : Option Slot) : (usbHeard (setSlot (setTog s k b) n x)).xwait = (usbHeard s).xwait := by
  have tied (v : State) (due : Bool) : (startTimer (if due then count v .usb 0x08 else v) tmrIdle (msTicks 3)).xwait =
      if due then (send v 7 (.count 0x08 1)).xwait else v.xwait := by
    cases due
    · rfl
    · rw [if_pos rfl, if_pos rfl, count_send (by decide)]
      rfl
  have heard (v : State) : (usbHeard v).xwait = if usbPull v && !(rb v .USB_STAT 0 1) then
      (if timerDue v tmrIdle then (send v 7 (.count 0x08 1)).xwait else v.xwait) else v.xwait := by
    unfold usbHeard
    split
    · exact tied v _
    · rfl
  rw [heard, heard]
  rfl

theorem packetStored_effects {k n : Nat} {x : Slot} (data : List Byte) : let t := usbHeard (packetStored s k n x data)
    slotOf t n = some { x with moved := x.moved + data.length } ∧ togOf t k = !(togOf s k) ∧
      t.xwait = (usbHeard (unitSend s x.chan x.e.idx x.e.frags x.moved data)).xwait ∧ Keeps Nowhere s t := by
  have ends : Ends s (unitSend s x.chan x.e.idx x.e.frags x.moved data) := (Ends.refl s).unitSend ..
  have tog : togOf (unitSend s x.chan x.e.idx x.e.frags x.moved data) k = togOf s k := togOf_congr (congrArg Usb.toggle ends.usb) k
  unfold packetStored
  dsimp only
  rw [tog]
  generalize unitSend s x.chan x.e.idx x.e.frags x.moved data = v at ends
  have heard : Tells _ (usbHeard (setSlot (setTog v k (!(togOf s k))) n (some { x with moved := x.moved + data.length }))) := (Tells.refl _).usbHeard
  refine ⟨?_, ?_, xwait_usbHeard .., (((ends.keeps.setTog ..).setSlot ..).usbHeard)⟩
  · rw [heard.slotOf, slotOf_setSlot]
  · exact (togOf_congr (congrArg Usb.toggle heard.usb) k).trans (togOf_setTog v k _)

/-! ## Handshakes -/

/-- The packet sent is over and its toggle turns. -/
def packetOver (s : State) (k : Nat) : State := setTog (setUsb s { s.usb with sent := none }) k (!(togOf s k))

/-- EP0's packet acknowledged. -/
def controlAcked (s : State) : State := ep0Flag (usbArm s false s.usb.armOut) 4

/-- A staged address taken with a status packet. -/
def addressTaken (s : State) (n : Nat) : State :=
  match s.usb.staged with
  | some a => if n = 0 then wr (setUsb s { s.usb with addr := a, staged := none }) .USB_ADDR 0 (BitVec.ofNat 32 a) else s
  | none => s

theorem usbHandshake_control {n : Nat} (sent : s.usb.sent = some (0, n)) :
    usbHandshake s = addressTaken (controlAcked (packetOver s 0)) n := by
  unfold usbHandshake
  rw [sent] <;> rfl

theorem addressTaken_effects (s : State) (n : Nat) : let t := addressTaken s n
    t.usb.addr = (if n = 0 then s.usb.staged.getD s.usb.addr else s.usb.addr) ∧ t.usb.sent = s.usb.sent ∧ t.usb.armIn = s.usb.armIn ∧
      t.usb.toggle = s.usb.toggle ∧ Keeps (· ≠ regAddr .USB_ADDR 0) s t := by
  unfold addressTaken
  cases staged : s.usb.staged with
  | none => exact ⟨(ite_self _).symm, rfl, rfl, rfl, Keeps.refl s⟩
  | some a =>
    by_cases empty : n = 0
    · dsimp only
      rw [if_pos empty, if_pos empty]
      exact ⟨rfl, rfl, rfl, rfl, ((Keeps.refl s).setUsb _).wr (fun apart => apart rfl) _⟩
    · dsimp only
      rw [if_neg empty, if_neg empty]
      exact ⟨rfl, rfl, rfl, rfl, Keeps.refl s⟩

theorem usbHandshake_control_effects {n : Nat} (sent : s.usb.sent = some (0, n)) : let t := usbHandshake s
    t.usb.sent = none ∧ togOf t 0 = !(togOf s 0) ∧ t.usb.armIn = false ∧ rb t .USB_EP0CTL 0 4 = true ∧
      t.usb.addr = (if n = 0 then s.usb.staged.getD s.usb.addr else s.usb.addr) ∧ Keeps Nowhere s t := by
  let s1 := packetOver s 0
  have acked : Tells (usbArm s1 false s1.usb.armOut) (controlAcked s1) := (Tells.refl _).ep0Flag 4
  obtain ⟨addr, ended, armIn, toggle, kept⟩ := addressTaken_effects (controlAcked s1) n
  have usb : (controlAcked s1).usb = { s1.usb with armIn := false } := acked.usb
  have before : Keeps Nowhere s (controlAcked s1) := ((((Keeps.refl s).setUsb _).setTog ..).usbArm id ..).ep0Flag id 4
  rw [usbHandshake_control sent]
  refine ⟨by rw [ended, usb]; rfl, ?_, by rw [armIn, usb], ?_, by rw [addr, usb]; rfl, before.trans (kept.weaken fun _ => False.elim)⟩
  · have turned : togOf s1 0 = !(togOf s 0) := togOf_setTog ..
    have same : (addressTaken (controlAcked s1) n).usb.toggle = s1.usb.toggle := by rw [toggle, usb]
    exact (togOf_congr same 0).trans turned
  · exact (kept.rb (r := .USB_EP0CTL) (i := 0) (by decide) 4).trans (ep0Flag_set _ (by decide))

/-- The bytes of an acknowledged packet are taken, and the next are asked for. -/
def packetTaken (s : State) (x : Slot) (n : Nat) : State := moverAsk (moverTake s x.chan x.e.idx n).2.2 x.chan x.e.idx

theorem usbAcked_stays {k n : Nat} {x : Slot} (held : slotOf s k = some x) (data : nbit x.e.uflags 1 = false) (more : x.moved + n < fragTotal x.e.frags) :
    usbAcked s k n = setSlot (packetTaken s x n) k (some { x with moved := x.moved + n }) := by
  unfold usbAcked
  rw [held]
  exact (if_neg (ne_true_of_eq_false data)).trans (if_pos more)

theorem usbHandshake_stays {ep : Fin 4} {k n : Nat} {x : Slot} (sent : s.usb.sent = some (ep.val, n)) (unit : epUnit ep false = some k)
    (held : slotOf s k = some x) (data : nbit x.e.uflags 1 = false) (more : x.moved + n < fragTotal x.e.frags) :
    usbHandshake s = setSlot (packetTaken (packetOver s (2 * ep)) x n) k (some { x with moved := x.moved + n }) := by
  have ring : ¬ ep.val = 0 := by
    intro zero
    rw [zero] at unit
    simp [epUnit] at unit
  have here : slotOf (packetOver s (2 * ep)) k = some x := held
  have row : usbHandshake s = usbAcked (packetOver s (2 * ep)) k n := by
    unfold usbHandshake
    rw [sent]
    refine (if_neg ring).trans ?_
    rw [unit] <;> rfl
  rw [row, usbAcked_stays here data more]

theorem usbHandshake_stays_effects {ep : Fin 4} {k n : Nat} {x : Slot} (sent : s.usb.sent = some (ep.val, n)) (unit : epUnit ep false = some k)
    (held : slotOf s k = some x) (data : nbit x.e.uflags 1 = false) (more : x.moved + n < fragTotal x.e.frags) : let t := usbHandshake s
    t.usb.sent = none ∧ togOf t (2 * ep.val) = !(togOf s (2 * ep.val)) ∧ slotOf t k = some { x with moved := x.moved + n } ∧ t.io = s.io ∧
      Keeps Nowhere s t := by
  let s1 := packetOver s (2 * ep)
  have ends : Ends s1 (packetTaken s1 x n) := ((Ends.refl s1).moverTake x.chan x.e.idx n).moverAsk ..
  have turned : togOf s1 (2 * ep.val) = !(togOf s (2 * ep.val)) := togOf_setTog ..
  have stored : Ends s1 (setSlot (packetTaken s1 x n) k (some { x with moved := x.moved + n })) := ends.setSlot ..
  rw [usbHandshake_stays sent unit held data more]
  refine ⟨by rw [stored.usb]; rfl, (togOf_congr (congrArg Usb.toggle stored.usb) _).trans turned, slotOf_setSlot .., stored.io,
    (((Keeps.refl s).setUsb _).setTog ..).trans stored.keeps⟩

theorem usbHeard_io (s : State) : (usbHeard s).io = s.io := by
  unfold usbHeard
  split
  · split
    · rw [count_send (by decide)]
      rfl
    · rfl
  · rfl

/-- Settles O45: tokens, packets and handshakes of every endpoint, one equation or frame for each. -/
theorem usbEndpointTraffic : Obligations.UsbEndpointTraffic := by
  intro s req a tog data sd live u heard ready0 frame
  refine ⟨fun hears ours => ?setup, fun may clear => ⟨?armIn, ?armOut⟩, fun may => writeReg_taken may usbStall0, fun hears ready armed => ?control,
    fun ep n x hears unit on flows ours held plain unmarked => ⟨fun here => ?sends, fun mv found short good => ?waits⟩,
    fun hears ready armed short now => ?out, fun ep n hears unit on fits => ⟨?badCrc, fun flows ours other => ?repeated,
      fun x flows ours now held full room plain => ?stored⟩, fun n sent => ?acked, fun ep n k x sent unit held plain more => ?advanced,
    fun sent => ⟨?lost, ?tied⟩⟩
  case setup =>
    obtain ⟨bytes, flag, armIn, armOut, stall, tog0, tog1, addr, kept⟩ := usbSetup_effects sd ours
    have heard : Tells (usbSetup s sd) (usbHeard (usbSetup s sd)) := (Tells.refl _).usbHeard
    have same : Keeps Everywhere (usbSetup s sd) (usbHeard (usbSetup s sd)) := (Keeps.refl _).usbHeard
    have row : exec (.usbSetup a sd) s = .next (usbHeard (usbSetup s sd)) :=
      (liveIn_live live fun s => if usbHears s then usbHeard (if a.toNat = s.usb.addr then usbSetup s sd else s) else s).trans
        (congrArg _ ((if_pos hears.1).trans (congrArg usbHeard (if_pos hears.2))))
    refine Does.intro row ⟨fun k eight => (same.rd trivial).trans (bytes k eight), (same.rb trivial 3).trans flag, by rw [heard.usb, armIn],
      by rw [heard.usb, armOut], by rw [heard.usb, stall], ?_, ?_, by rw [heard.usb, addr], (kept.usbHeard).linkFrame⟩
    · exact (togOf_congr (congrArg Usb.toggle heard.usb) 0).trans tog0
    · exact (togOf_congr (congrArg Usb.toggle heard.usb) 1).trans tog1
  case armIn =>
    obtain ⟨usb, armed, kept⟩ := usbArmIn_effects clear
    exact Does.intro (writeReg_taken may usbArmIn) ⟨usb, armed, (kept (by simp)).sameIoBut, (kept (B := Nowhere) id).linkFrame⟩
  case armOut =>
    obtain ⟨usb, armed, kept⟩ := usbArmOut_effects clear
    exact Does.intro (writeReg_taken may usbArmOut) ⟨usb, armed, (kept (by simp)).sameIoBut, (kept (B := Nowhere) id).linkFrame⟩
  case control =>
    obtain ⟨unstalled, clear, on⟩ := ready
    exact usbInToken_control live hears.1 hears.2 unstalled clear on armed
  case sends => exact (usbInToken_heard live hears.1 hears.2 unit).trans (congrArg (fun t => Host.Outcome.next (usbHeard t)) (usbIn_sends on flows ours held plain unmarked here))
  case waits =>
    exact (usbInToken_heard live hears.1 hears.2 unit).trans
      (congrArg (fun t => Host.Outcome.next (usbHeard t)) (usbIn_waits on flows ours held plain unmarked found short good))
  case out =>
    obtain ⟨unstalled, clear, on⟩ := ready
    obtain ⟨bytes, length, turned, armOut, armIn, flag, kept⟩ := ep0Out_effects unstalled clear on armed short now
    have heard : Tells (ep0Out s tog data true) (usbHeard (ep0Out s tog data true)) := (Tells.refl _).usbHeard
    have same : Keeps Everywhere (ep0Out s tog data true) (usbHeard (ep0Out s tog data true)) := (Keeps.refl _).usbHeard
    exact Does.intro (usbOutData_control live hears.1 hears.2 ..) ⟨fun k inside => (same.rd trivial).trans (bytes k inside), (same.rd trivial).trans length,
      (togOf_congr (congrArg Usb.toggle heard.usb) 1).trans turned, by rw [heard.usb, armOut], by rw [heard.usb, armIn], (same.rb trivial 5).trans flag,
      (kept.usbHeard).linkFrame⟩
  case badCrc => exact (usbOutData_heard live hears.1 hears.2 unit ..).trans (congrArg (fun t => Host.Outcome.next (usbHeard t)) (usbOut_badCrc tog data on))
  case repeated =>
    have row : usbOut s ep n tog data true = send s 7 (.count 0x5E 1) := by
      rw [usbOut_taken on fits flows ours, if_pos other, count_send (by decide)]
      rfl
    exact (usbOutData_heard live hears.1 hears.2 unit ..).trans (congrArg (fun t => Host.Outcome.next (usbHeard t)) row)
  case stored =>
    have row : usbOut s ep n tog data true = packetStored s (2 * ep + 1) n x data := by
      rw [usbOut_taken on fits flows ours, if_neg (not_not_intro now), usbStore_stays held full room plain]
    obtain ⟨slot, turned, sent, kept⟩ := packetStored_effects (s := s) (k := 2 * ep + 1) (n := n) (x := x) data
    refine Does.intro ((usbOutData_heard live hears.1 hears.2 unit ..).trans (congrArg (fun t => Host.Outcome.next (usbHeard t)) row))
      ⟨slot, turned.trans (by rw [now]), sent, kept.linkFrame⟩
  case acked =>
    obtain ⟨ended, turned, armIn, flag, addr, kept⟩ := usbHandshake_control_effects sent
    have heard : Tells (usbHandshake s) (usbHeard (usbHandshake s)) := (Tells.refl _).usbHeard
    have same : Keeps Everywhere (usbHandshake s) (usbHeard (usbHandshake s)) := (Keeps.refl _).usbHeard
    exact Does.intro (liveIn_live live fun s => usbHeard (usbHandshake s)) ⟨by rw [heard.usb, ended],
      (togOf_congr (congrArg Usb.toggle heard.usb) 0).trans turned, by rw [heard.usb, armIn], (same.rb trivial 4).trans flag, by rw [heard.usb, addr],
      (kept.usbHeard).linkFrame⟩
  case advanced =>
    obtain ⟨ended, turned, slot, io, kept⟩ := usbHandshake_stays_effects sent unit held plain more
    have heard : Tells (usbHandshake s) (usbHeard (usbHandshake s)) := (Tells.refl _).usbHeard
    exact Does.intro (liveIn_live live fun s => usbHeard (usbHandshake s)) ⟨by rw [heard.usb, ended],
      (togOf_congr (congrArg Usb.toggle heard.usb) _).trans turned, (heard.slotOf k).trans slot, (usbHeard_io _).trans io, (kept.usbHeard).linkFrame⟩
  case lost =>
    have some_ : ¬ s.usb.sent.isNone = true := fun none => sent (Option.isNone_iff_eq_none.1 none)
    exact (liveIn_live live fun s => if s.usb.sent.isNone then s else if false then count s .usb 0x08 else setUsb s { s.usb with sent := none }).trans
      (congrArg _ ((if_neg some_).trans (if_neg Bool.false_ne_true)))
  case tied =>
    have some_ : ¬ s.usb.sent.isNone = true := fun none => sent (Option.isNone_iff_eq_none.1 none)
    refine (liveIn_live live fun s => if s.usb.sent.isNone then s else if true then count s .usb 0x08 else setUsb s { s.usb with sent := none }).trans
      (congrArg _ ((if_neg some_).trans ((if_pos rfl).trans ?_)))
    rw [count_send (by decide)]
    rfl

end Sys2Proof.Proofs
end

section
/-! # Chapter 16: a UART's registers, flags and transmitter (R851-R856) -/
namespace Sys2Proof.Proofs
open Sys2Proof.Machine Sys2Proof.Laws

variable {s t u : State} {A : Nat → Prop}

theorem uartOf_setUart (s : State) (n : Nat) (x : Uart) : uartOf (setUart s n x) n = x := mget_mset_same (fun _ => Uart.reset) s.uart n x

/-! ## What is shown -/

/-- The counts of a UART's FIFOs, and RTS. -/
def countsShown (s : State) (n : Nat) : State :=
  let u := uartOf s n
  wr (wr (setUart s n { u with rts := rtsNext s n u }) .UART_RXCNT n (BitVec.ofNat 32 (rxCount u))) .UART_TXCNT n (BitVec.ofNat 32 u.tx.length)

/-- Nothing is being sent and nothing waits. -/
def txIdle (u : Uart) : Bool := u.tx.isEmpty && u.shift.isNone

theorem uartShow_eq (s : State) (n : Nat) : uartShow s n =
    if txIdle (uartOf s n) && !(rb (countsShown s n) .UART_STAT n 6) then raise (wb (countsShown s n) .UART_STAT n 6 (txIdle (uartOf s n))) .serial (81 + 3 * n)
    else wb (countsShown s n) .UART_STAT n 6 (txIdle (uartOf s n)) := rfl

theorem uartShow_tells (s : State) (n : Nat) : Tells (countsShown s n) (uartShow s n) := by
  rw [uartShow_eq]
  exact .ite (((Tells.refl _).wb ..).raise (by decide) _) ((Tells.refl _).wb ..)

/-- A UART with its RTS as driven. -/
theorem uartOf_uartShow (s : State) (n : Nat) : uartOf (uartShow s n) n = { uartOf s n with rts := rtsNext s n (uartOf s n) } := by
  rw [(uartShow_tells s n).uart]
  exact uartOf_setUart s n _

/-- The addresses of a UART's registers that differ. -/
theorem uartRegs_apart : ∀ n : Fin 2, regAddr .UART_STAT n ≠ regAddr .UART_RXCNT n ∧ regAddr .UART_STAT n ≠ regAddr .UART_TXCNT n ∧
    regAddr .UART_RXCNT n ≠ regAddr .UART_TXCNT n ∧ regAddr .UART_CTL n ≠ regAddr .UART_STAT n ∧ regAddr .UART_CTL n ≠ regAddr .UART_RXCNT n ∧
    regAddr .UART_CTL n ≠ regAddr .UART_TXCNT n ∧ regAddr .UART_FMT n ≠ regAddr .UART_STAT n ∧ regAddr .UART_CTL n ≠ regAddr .UART_STATE n ∧
    regAddr .UART_STATE n ≠ regAddr .UART_STAT n ∧ regAddr .UART_STATE n ≠ regAddr .UART_RXCNT n ∧ regAddr .UART_STATE n ≠ regAddr .UART_TXCNT n := by
  decide

theorem uartState (n : Fin 2) : unitReg (7 + n) = (.UART_STATE, n.val) := by fin_cases n <;> rfl

theorem Keeps.countsShown (h : Keeps A s t) {n : Nat} (rx : ¬ A (regAddr .UART_RXCNT n)) (tx : ¬ A (regAddr .UART_TXCNT n)) :
    Keeps A s (countsShown t n) := ((h.setUart ..).wr rx _).wr tx _

theorem Keeps.uartShow (h : Keeps A s t) {n : Nat} (rx : ¬ A (regAddr .UART_RXCNT n)) (tx : ¬ A (regAddr .UART_TXCNT n))
    (stat : ¬ A (regAddr .UART_STAT n)) : Keeps A s (uartShow t n) := by
  rw [uartShow_eq]
  exact ite (((h.countsShown rx tx).wb stat ..).raise (by decide) _) ((h.countsShown rx tx).wb stat ..)

theorem Keeps.uartShown (s : State) (n : Nat) (stat : ¬ A (regAddr .UART_STAT n)) : Keeps A (Proofs.countsShown s n) (Machine.uartShow s n) := by
  have shown : Keeps A (Proofs.countsShown s n) (Proofs.countsShown s n) := Keeps.refl _
  rw [uartShow_eq]
  exact ite ((shown.wb stat ..).raise (by decide) _) (shown.wb stat ..)

section
variable (n : Fin 2)

theorem uartShow_stat (s : State) : rd (uartShow s n) .UART_STAT n = rd (wb (countsShown s n) .UART_STAT n 6 (txIdle (uartOf s n))) .UART_STAT n := by
  have raised (v : State) : rd (raise v .serial (81 + 3 * n)) .UART_STAT n = rd v .UART_STAT n := ((Keeps.refl (A := Everywhere) v).raise (by decide) _).rd trivial
  rw [uartShow_eq]
  split
  · exact raised _
  · rfl

theorem uartShow_idle (s : State) : rb (uartShow s n) .UART_STAT n 6 = txIdle (uartOf s n) :=
  (rb_congr (uartShow_stat n s) 6).trans (rb_wb_same _ _ _ _ _ (by decide))

theorem uartShow_flag (s : State) {bit : Nat} (other : bit ≠ 6) : rb (uartShow s n) .UART_STAT n bit = rb s .UART_STAT n bit := by
  obtain ⟨rx, tx, -⟩ := uartRegs_apart n
  have counts : Keeps (At .UART_STAT n) s (countsShown s n) := (Keeps.refl s).countsShown (Ne.symm rx) (Ne.symm tx)
  exact (rb_congr (uartShow_stat n s) bit).trans ((rb_wb_other _ _ _ _ _ _ (by decide) other).trans (counts.rb rfl bit))

theorem uartShow_rxcnt (s : State) : rd (uartShow s n) .UART_RXCNT n = BitVec.ofNat 32 (rxCount (uartOf s n)) := by
  obtain ⟨rx, -, counts, -⟩ := uartRegs_apart n
  have shown : rd (countsShown s n) .UART_RXCNT n = BitVec.ofNat 32 (rxCount (uartOf s n)) := (rd_wr_ne _ _ _ _ _ _ counts).trans (rd_wr_same ..)
  exact ((Keeps.uartShown s n (A := At .UART_RXCNT n) rx).rd rfl).trans shown

theorem uartShow_txcnt (s : State) : rd (uartShow s n) .UART_TXCNT n = BitVec.ofNat 32 (uartOf s n).tx.length := by
  obtain ⟨-, tx, -⟩ := uartRegs_apart n
  exact ((Keeps.uartShown s n (A := At .UART_TXCNT n) tx).rd rfl).trans (rd_wr_same ..)

end

/-! ## Flags (R856) -/

theorem Shows.uartFlag (h : Shows s t) (n bit code : Nat) : Shows s (uartFlag t n bit code) := by
  unfold Machine.uartFlag
  split
  · exact h
  · exact (ite (h.wb ..) ((h.wb ..).count (by decide) _)).raise (by decide) _

theorem Keeps.uartFlag (h : Keeps A s t) {n : Nat} (apart : ¬ A (regAddr .UART_STAT n)) (bit code : Nat) : Keeps A s (uartFlag t n bit code) := by
  unfold Machine.uartFlag
  split
  · exact h
  · exact (ite (h.wb apart ..) ((h.wb apart ..).count (by decide) _)).raise (by decide) _

theorem uartFlag_stat (n bit code : Nat) (clear : rb s .UART_STAT n bit = false) :
    rd (uartFlag s n bit code) .UART_STAT n = rd (wb s .UART_STAT n bit true) .UART_STAT n := by
  let s1 := if code = 0 then wb s .UART_STAT n bit true else count (wb s .UART_STAT n bit true) .serial (code + 4 * n)
  have row : uartFlag s n bit code = raise s1 .serial (82 + 3 * n) := if_neg (ne_true_of_eq_false clear)
  have later : Keeps Everywhere (wb s .UART_STAT n bit true) (raise s1 .serial (82 + 3 * n)) :=
    (Keeps.ite (Keeps.refl _) ((Keeps.refl _).count (by decide) _)).raise (by decide) _
  rw [row, later.rd trivial]

theorem uartFlag_set (s : State) (n code : Nat) {bit : Nat} (small : bit < 32) : rb (uartFlag s n bit code) .UART_STAT n bit = true := by
  cases before : rb s .UART_STAT n bit with
  | true =>
    have row : uartFlag s n bit code = s := if_pos before
    rw [row, before]
  | false => exact (rb_congr (uartFlag_stat n bit code before) bit).trans (rb_wb_same s _ _ _ _ small)

theorem uartFlag_other (s : State) (n code : Nat) {bit other : Nat} (small : bit < 32) (apart : other ≠ bit) :
    rb (uartFlag s n bit code) .UART_STAT n other = rb s .UART_STAT n other := by
  cases before : rb s .UART_STAT n bit with
  | true =>
    have row : uartFlag s n bit code = s := if_pos before
    rw [row]
  | false => exact (rb_congr (uartFlag_stat n bit code before) other).trans (rb_wb_other s _ _ _ _ _ small apart)

/-! ## The transmitter (R853) -/

theorem uartFill_ring {n : Nat} (off : rb s .UART_CTL n 1 = false) : uartFill s n = s := by
  unfold uartFill
  split
  · rfl
  · exact if_pos (.inl off)

theorem uartFill_empty {n : Nat} (empty : slotOf s (10 + 2 * n) = none) : uartFill s n = s := by
  unfold uartFill
  rw [empty]

/-- The transmitter may start a character. -/
def sends (s : State) (n : Nat) : Prop :=
  unitRuns s (7 + n) = true ∧ rb s .UART_CTL n 0 = true ∧ rb s .UART_CTL n 2 = false ∧ (rb s .UART_CTL n 5 = false ∨ (uartOf s n).cts = true) ∧
    uartStill s n = false

/-- A character moved to the shift register, and the transmit count reported. -/
def charStarted (s : State) (n : Nat) (b : Byte) (rest : List Byte) : State :=
  let s1 := setUart s n { uartOf s n with tx := rest, shift := some b }
  if rb s1 .UART_CTL n 1 = false ∧ rest.length = rf s1 .UART_TXTH n 6 0 then raise s1 .serial (81 + 3 * n) else s1

theorem charStarted_tells (s : State) (n : Nat) (b : Byte) (rest : List Byte) :
    Shows (setUart s n { uartOf s n with tx := rest, shift := some b }) (charStarted s n b rest) :=
  .ite ((Shows.refl _).raise (by decide) _) (Shows.refl _)

theorem Keeps.charStarted (h : Keeps A s t) (n : Nat) (b : Byte) (rest : List Byte) : Keeps A s (charStarted t n b rest) :=
  ite ((h.setUart ..).raise (by decide) _) (h.setUart ..)

theorem uartOf_charStarted (s : State) (n : Nat) (b : Byte) (rest : List Byte) :
    uartOf (charStarted s n b rest) n = { uartOf s n with tx := rest, shift := some b } := by
  have shown : uartOf (charStarted s n b rest) n = uartOf (setUart s n { uartOf s n with tx := rest, shift := some b }) n := by
    rw [(charStarted_tells s n b rest).others]
    rfl
  exact shown.trans (uartOf_setUart ..)

/-- What the transmitter does where no ring entry feeds it: it shows, or it starts a character. -/
theorem uartGo_cases {n : Nat} (unfed : ∀ v, (Keeps (At .UART_CTL n) s v ∧ slotOf v (10 + 2 * n) = slotOf s (10 + 2 * n)) → uartFill v n = v) :
    uartGo s n = uartShow s n ∨ ∃ b rest, uartGo s n = uartShow (charStarted s n b rest) n := by
  have still := unfed s ⟨Keeps.refl s, rfl⟩
  unfold uartGo
  rw [still]
  dsimp only
  split
  next b rest _ _ =>
    split
    · exact .inl rfl
    · refine .inr ⟨b, rest, ?_⟩
      have fed := unfed (charStarted s n b rest) ⟨(Keeps.refl s).charStarted .., by rw [(charStarted_tells s n b rest).slotOf]; rfl⟩
      exact congrArg (fun v => uartShow v n) fed
  · exact .inl rfl

/-- A transmitter that is busy or has nothing to send shows only. -/
theorem uartGo_rests {n : Nat} (off : rb s .UART_CTL n 1 = false) (busy : (uartOf s n).tx = [] ∨ (uartOf s n).shift ≠ none) :
    uartGo s n = uartShow s n := by
  unfold uartGo
  rw [uartFill_ring off]
  dsimp only
  split
  next b rest tx shift =>
    rcases busy with none | some_
    · rw [tx] at none
      exact absurd none (List.cons_ne_nil _ _)
    · exact absurd shift some_
  · rfl

/-- The next character starts. -/
theorem uartGo_starts {n : Nat} {b : Byte} {rest : List Byte} (off : rb s .UART_CTL n 1 = false) (tx : (uartOf s n).tx = b :: rest)
    (shift : (uartOf s n).shift = none) (goes : sends s n) : uartGo s n = uartShow (charStarted s n b rest) n := by
  obtain ⟨runs, on, free, clear, alive⟩ := goes
  have open_ : ¬ (unitRuns s (7 + n) = false ∨ rb s .UART_CTL n 0 = false ∨ rb s .UART_CTL n 2 = true ∨
      (rb s .UART_CTL n 5 = true ∧ (uartOf s n).cts = false) ∨ uartStill s n = true) := by
    rw [runs, on, free, alive]
    rcases clear with ignore | asserted
    · rw [ignore]
      simp
    · rw [asserted]
      simp
  have same : rb (charStarted s n b rest) .UART_CTL n 1 = false := (((Keeps.refl (A := Everywhere) s).charStarted n b rest).rb trivial 1).trans off
  unfold uartGo
  rw [uartFill_ring off]
  dsimp only
  rw [tx, shift]
  exact (if_neg open_).trans (congrArg (fun v => uartShow v n) (uartFill_ring same))

end Sys2Proof.Proofs
end

section
/-! # Chapter 16: what the UARTs do (R806, R850-R856, R864) -/
namespace Sys2Proof.Proofs
open Sys2Proof.Machine Sys2Proof.Laws

variable {s t u : State} {A : Nat → Prop} (n : Fin 2)

/-! ## Receive -/

theorem uartDrain_ring (off : rb s .UART_CTL n 1 = false) : uartDrain s n = s := if_pos (.inl off)

/-- An item stored, and the receive count reported. -/
def itemStored (s : State) (n : Nat) (i : RxItem) : State :=
  let s1 := setUart s n { uartOf s n with rx := (uartOf s n).rx ++ [i] }
  if rb s1 .UART_CTL n 1 = false ∧ rxCount (uartOf s1 n) = rf s1 .UART_RXTH n 6 0 then raise s1 .serial (80 + 3 * n) else s1

theorem Keeps.itemStored (h : Keeps A s t) (n : Nat) (i : RxItem) : Keeps A s (itemStored t n i) :=
  ite ((h.setUart ..).raise (by decide) _) (h.setUart ..)

theorem uartOf_itemStored (s : State) (n : Nat) (i : RxItem) : uartOf (itemStored s n i) n = { uartOf s n with rx := (uartOf s n).rx ++ [i] } := by
  have shown : Shows (setUart s n { uartOf s n with rx := (uartOf s n).rx ++ [i] }) (itemStored s n i) :=
    .ite ((Shows.refl _).raise (by decide) _) (Shows.refl _)
  have same : uartOf (itemStored s n i) n = uartOf (setUart s n { uartOf s n with rx := (uartOf s n).rx ++ [i] }) n := by
    rw [shown.others]
    rfl
  exact same.trans (uartOf_setUart ..)

theorem uartIn_stores (off : rb s .UART_CTL n 1 = false) (room : rxCount (uartOf s n) < 64) (i : RxItem) :
    uartIn s n i = uartShow (itemStored s n i) n := by
  have same : rb (itemStored s n i) .UART_CTL n 1 = false := (((Keeps.refl (A := Everywhere) s).itemStored n i).rb trivial 1).trans off
  exact (if_neg (Nat.not_le.2 room)).trans (congrArg (fun v => uartShow v n) (uartDrain_ring n same))

theorem uartIn_loses (off : rb s .UART_CTL n 1 = false) (full : 64 ≤ rxCount (uartOf s n)) (i : RxItem) :
    uartIn s n i = uartShow (uartFlag s n 0 0x70) n := by
  have apart : ¬ At .UART_CTL n (regAddr .UART_STAT n) := fun same => (uartRegs_apart n).2.2.2.1 same.symm
  have same : rb (uartFlag s n 0 0x70) .UART_CTL n 1 = false := (((Keeps.refl s).uartFlag apart 0 0x70).rb rfl 1).trans off
  have unmarked : ¬ (rb (uartFlag s n 0 0x70) .UART_CTL n 1 && !((uartOf (uartFlag s n 0 0x70) n).rx.getLast? == some .lost)) = true := by
    rw [same]
    exact Bool.false_ne_true
  exact (if_pos full).trans (congrArg (fun v => uartShow v n) (if_neg unmarked))

/-- The flags of a received character's errors. -/
def charFlagged (s : State) (n : Nat) (fe odd : Bool) : State :=
  let s1 := if fe then uartFlag s n 1 0x71 else s
  if odd then uartFlag s1 n 2 0x72 else s1

theorem charFlagged_shows (s : State) (fe odd : Bool) : Shows s (charFlagged s n fe odd) := by
  have first : Shows s (if fe then uartFlag s n 1 0x71 else s) := .ite ((Shows.refl s).uartFlag ..) (Shows.refl s)
  exact .ite (first.uartFlag ..) first

theorem Keeps.charFlagged (h : Keeps A s t) {n : Nat} (apart : ¬ A (regAddr .UART_STAT n)) (fe odd : Bool) : Keeps A s (charFlagged t n fe odd) := by
  have first : Keeps A s (if fe then Machine.uartFlag t n 1 0x71 else t) := ite (h.uartFlag apart ..) h
  exact ite (first.uartFlag apart ..) first

theorem charFlagged_framing {fe : Bool} (framing : fe = true) (s : State) (odd : Bool) : rb (charFlagged s n fe odd) .UART_STAT n 1 = true := by
  have first : rb (if fe then uartFlag s n 1 0x71 else s) .UART_STAT n 1 = true := by
    rw [if_pos framing]
    exact uartFlag_set s n 0x71 (by decide)
  have kept (v : State) : rb (if odd then uartFlag v n 2 0x72 else v) .UART_STAT n 1 = rb v .UART_STAT n 1 := by
    split
    · exact uartFlag_other v n 0x72 (by decide) (by decide)
    · rfl
  exact (kept _).trans first

theorem charFlagged_parity {odd : Bool} (parity : odd = true) (s : State) (fe : Bool) : rb (charFlagged s n fe odd) .UART_STAT n 2 = true := by
  rw [charFlagged, if_pos parity]
  exact uartFlag_set _ n 0x72 (by decide)

/-- The receiver hears its line. -/
def hears (s : State) (n : Nat) : Prop :=
  (unitRuns s (7 + n) = true ∧ rb s .UART_CTL n 0 = true ∧ uartStill s n = false) ∧ connected s (.rxd n) = true

theorem hears_open (h : hears s n) :
    ¬ (unitRuns s (7 + n) = false ∨ rb s .UART_CTL n 0 = false ∨ connected s (.rxd n) = false ∨ uartStill s n = true) := by
  obtain ⟨⟨runs, on, alive⟩, wired⟩ := h
  rw [runs, on, alive, wired]
  simp

/-- Parity counts where the format has it. -/
def oddParity (s : State) (n : Nat) (pe : Bool) : Bool := pe && (rf s .UART_FMT n 2 1 == 1 || rf s .UART_FMT n 2 1 == 2)

/-- The character of the format's width. -/
def charOf (s : State) (n : Nat) (b : Byte) : Byte := if rb s .UART_FMT n 0 then b else b &&& 0x7F

theorem uartChar_flagged (h : hears s n) (b : Byte) (fe pe : Bool) : uartChar s n b fe pe =
    uartIn (charFlagged s n fe (oddParity s n pe)) n (if fe || oddParity s n pe then .bad (charOf s n b) else .good (charOf s n b)) := by
  have apart : ¬ At .UART_FMT n (regAddr .UART_STAT n) := fun same => (uartRegs_apart n).2.2.2.2.2.2.1 same.symm
  have first : rd (if fe then uartFlag s n 1 0x71 else s) .UART_FMT n = rd s .UART_FMT n :=
    (Keeps.ite ((Keeps.refl s).uartFlag apart ..) (Keeps.refl s)).rd rfl
  have parity : oddParity (if fe then uartFlag s n 1 0x71 else s) n pe = oddParity s n pe := by
    rw [oddParity, rf_congr first, oddParity]
  have second : rd (charFlagged s n fe (oddParity s n pe)) .UART_FMT n = rd s .UART_FMT n := ((Keeps.refl s).charFlagged apart ..).rd rfl
  have width : charOf (charFlagged s n fe (oddParity s n pe)) n b = charOf s n b := by
    rw [charOf, rb_congr second, charOf]
  have row : uartChar s n b fe pe = uartIn (charFlagged s n fe (oddParity (if fe then uartFlag s n 1 0x71 else s) n pe)) n
      (if fe || oddParity (if fe then uartFlag s n 1 0x71 else s) n pe then
        .bad (charOf (charFlagged s n fe (oddParity (if fe then uartFlag s n 1 0x71 else s) n pe)) n b)
      else .good (charOf (charFlagged s n fe (oddParity (if fe then uartFlag s n 1 0x71 else s) n pe)) n b)) := if_neg (hears_open n h)
  rw [row, parity, width]

theorem uartOf_shows (h : Shows s t) (k : Nat) : uartOf t k = uartOf s k := by rw [h.others]; rfl

theorem uartChar_stores (h : hears s n) (off : rb s .UART_CTL n 1 = false) (room : rxCount (uartOf s n) < 64) (b : Byte) (fe pe : Bool) :
    let t := uartChar s n b fe pe
    (uartOf t n).rx = (uartOf s n).rx ++ [if fe || oddParity s n pe then .bad (charOf s n b) else .good (charOf s n b)] ∧
      (uartOf t n).tx = (uartOf s n).tx ∧ rd t .UART_RXCNT n = BitVec.ofNat 32 (rxCount (uartOf s n) + 1) ∧
      (fe = true → rb t .UART_STAT n 1 = true) ∧ (oddParity s n pe = true → rb t .UART_STAT n 2 = true) ∧ Keeps Nowhere s t := by
  let s1 := charFlagged s n fe (oddParity s n pe)
  let i : RxItem := if fe || oddParity s n pe then .bad (charOf s n b) else .good (charOf s n b)
  have ctl : ¬ At .UART_CTL n (regAddr .UART_STAT n) := fun same => (uartRegs_apart n).2.2.2.1 same.symm
  have same : uartOf s1 n = uartOf s n := uartOf_shows (charFlagged_shows n s _ _) n
  have off1 : rb s1 .UART_CTL n 1 = false := (((Keeps.refl s).charFlagged ctl ..).rb rfl 1).trans off
  have row : uartChar s n b fe pe = uartShow (itemStored s1 n i) n := by
    rw [uartChar_flagged n h, uartIn_stores n off1 (by rw [same]; exact room)]
  have stored : uartOf (itemStored s1 n i) n = { uartOf s n with rx := (uartOf s n).rx ++ [i] } := by rw [uartOf_itemStored, same]
  have counted : rxCount { uartOf s n with rx := (uartOf s n).rx ++ [i] } = rxCount (uartOf s n) + 1 := by
    have one : rxCount { uartOf s n with rx := [i] } = 1 := by
      change List.countP _ [i] = 1
      cases hi : (fe || oddParity s n pe) <;> simp [i, hi]
    have split_ : rxCount { uartOf s n with rx := (uartOf s n).rx ++ [i] } = rxCount (uartOf s n) + rxCount { uartOf s n with rx := [i] } := List.countP_append
    rw [split_, one]
  have flags (k : Nat) (k6 : k ≠ 6) : rb (uartShow (itemStored s1 n i) n) .UART_STAT n k = rb s1 .UART_STAT n k :=
    (uartShow_flag n _ k6).trans (((Keeps.refl (A := Everywhere) s1).itemStored n i).rb trivial k)
  rw [row]
  refine ⟨by rw [uartOf_uartShow, stored], by rw [uartOf_uartShow, stored], by rw [uartShow_rxcnt, stored, counted], fun framing => ?_, fun parity => ?_,
    (((Keeps.refl s).charFlagged id ..).itemStored n i).uartShow id id id⟩
  · exact (flags 1 (by decide)).trans (charFlagged_framing n framing s _)
  · exact (flags 2 (by decide)).trans (charFlagged_parity n parity s _)

theorem uartChar_loses (h : hears s n) (off : rb s .UART_CTL n 1 = false) (full : 64 ≤ rxCount (uartOf s n)) (b : Byte) (fe pe : Bool) :
    let t := uartChar s n b fe pe
    (uartOf t n).rx = (uartOf s n).rx ∧ rb t .UART_STAT n 0 = true ∧ Keeps Nowhere s t := by
  let s1 := charFlagged s n fe (oddParity s n pe)
  have ctl : ¬ At .UART_CTL n (regAddr .UART_STAT n) := fun same => (uartRegs_apart n).2.2.2.1 same.symm
  have same : uartOf s1 n = uartOf s n := uartOf_shows (charFlagged_shows n s _ _) n
  have off1 : rb s1 .UART_CTL n 1 = false := (((Keeps.refl s).charFlagged ctl ..).rb rfl 1).trans off
  have row : uartChar s n b fe pe = uartShow (uartFlag s1 n 0 0x70) n := by
    rw [uartChar_flagged n h, uartIn_loses n off1 (by rw [same]; exact full)]
  rw [row]
  refine ⟨?_, (uartShow_flag n _ (by decide)).trans (uartFlag_set s1 n 0x70 (by decide)), (((Keeps.refl s).charFlagged id ..).uartFlag id ..).uartShow id id id⟩
  rw [uartOf_uartShow, uartOf_shows ((Shows.refl s1).uartFlag ..), same]

theorem uartBreak_effects (h : hears s n) (off : rb s .UART_CTL n 1 = false) : let t := uartBreak s n
    rb t .UART_STAT n 7 = true ∧ rb t .UART_STAT n 3 = true ∧ uartOf t n = uartOf s n ∧ Keeps Nowhere s t := by
  let s1 := wb s .UART_STAT n 7 true
  have ctl : ¬ At .UART_CTL n (regAddr .UART_STAT n) := fun same => (uartRegs_apart n).2.2.2.1 same.symm
  have off1 : ¬ rb (uartFlag s1 n 3 0x73) .UART_CTL n 1 = true := by
    rw [(((Keeps.refl s).wb ctl 7 true).uartFlag ctl 3 0x73).rb rfl, off]
    exact Bool.false_ne_true
  have row : uartBreak s n = uartFlag s1 n 3 0x73 := (if_neg (hears_open n h)).trans (if_neg off1)
  rw [row]
  refine ⟨(uartFlag_other s1 n 0x73 (by decide) (by decide)).trans (rb_wb_same s _ _ _ _ (by decide)), uartFlag_set s1 n 0x73 (by decide),
    uartOf_shows (((Shows.refl s).wb ..).uartFlag ..) n, ((Keeps.refl s).wb id 7 true).uartFlag id 3 0x73⟩

/-! ## Transmit -/

theorem uartGo_starts_effects {c : Byte} {rest : List Byte} (off : rb s .UART_CTL n 1 = false) (tx : (uartOf s n).tx = c :: rest)
    (shift : (uartOf s n).shift = none) (goes : sends s n) : let t := uartGo s n
    (uartOf t n).shift = some c ∧ (uartOf t n).tx = rest ∧ rd t .UART_TXCNT n = BitVec.ofNat 32 rest.length ∧ Keeps Nowhere s t := by
  rw [uartGo_starts off tx shift goes]
  refine ⟨?_, ?_, ?_, ((Keeps.refl s).charStarted ..).uartShow id id id⟩
  · rw [uartOf_uartShow, uartOf_charStarted]
  · rw [uartOf_uartShow, uartOf_charStarted]
  · rw [uartShow_txcnt, uartOf_charStarted]

/-- Nothing is in the shift register after a character. -/
def shifted (s : State) (n : Nat) : State := setUart s n { uartOf s n with shift := none }

/-- The unit that drains with its last character is idle. -/
def shiftOver (s : State) (n : Nat) : State :=
  if mgmt (shifted s n) (7 + n) = 0 ∧ dstate (shifted s n) (7 + n) = 2 then setData (shifted s n) (7 + n) 0 else shifted s n

theorem exec_txCharDone (live : Live s .serial) (sending : (uartOf s n).shift ≠ none) : exec (.uartTxCharDone n) s = .next (uartGo (shiftOver s n) n) := by
  have some_ : ¬ (uartOf s n).shift.isNone = true := fun none => sending (Option.isNone_iff_eq_none.1 none)
  exact (liveIn_live live fun s => if (uartOf s n).shift.isNone then s else uartGo (shiftOver s n) n).trans (congrArg _ (if_neg some_))

theorem uartOf_shiftOver (s : State) : uartOf (shiftOver s n) n = { uartOf s n with shift := none } := by
  have shown : Shows (shifted s n) (shiftOver s n) := .ite ((Shows.refl _).setData ..) (Shows.refl _)
  exact (uartOf_shows shown n).trans (uartOf_setUart ..)

theorem state_apart : ¬ At .UART_CTL n (regAddr (unitReg (7 + n)).1 (unitReg (7 + n)).2) := by
  rw [uartState]
  exact fun same => (uartRegs_apart n).2.2.2.2.2.2.2.1 same.symm

theorem shiftOver_ctl (s : State) (bit : Nat) : rb (shiftOver s n) .UART_CTL n bit = rb s .UART_CTL n bit := by
  have kept : Keeps (At .UART_CTL n) s (shiftOver s n) := .ite (((Keeps.refl s).setUart ..).setData (state_apart n) 0) ((Keeps.refl s).setUart ..)
  exact kept.rb rfl bit

theorem Keeps.shiftOver (h : Keeps Nowhere s t) : Keeps Nowhere s (shiftOver t n) := ite ((h.setUart ..).setData (u := 7 + n) id 0) (h.setUart ..)

theorem shiftOver_runs (runs : unitRuns s (7 + n) = true) : shiftOver s n = shifted s n := by
  refine if_neg ?_
  rintro ⟨off, -⟩
  have same : mgmt (shifted s n) (7 + n) = mgmt s (7 + n) := rfl
  rw [unitRuns, ← same, off] at runs
  exact Bool.false_ne_true runs

/-! ## Lines (R854) -/

theorem inputPin_inputSet (s : State) (f g : PinIn) (x : Bool) : inputPin (inputSet s f x) g = inputPin s g := by
  unfold inputSet
  split <;> rfl

/-- The level that the board puts on a function's pin. -/
theorem pads_inputSet {f : PinIn} {p : Nat} (pin : inputPin s f = some p) (x : Bool) :
    mget (fun _ => (none : Option Bool)) (inputSet s f x).pads p = some x := by
  unfold inputSet
  rw [pin]
  exact mget_mset_same (fun _ => (none : Option Bool)) s.pads p (some x)

theorem pads_inputSet_ne (s : State) {f : PinIn} {q : Nat} (apart : ∀ p, inputPin s f = some p → q ≠ p) (x : Bool) :
    mget (fun _ => (none : Option Bool)) (inputSet s f x).pads q = mget (fun _ => none) s.pads q := by
  unfold inputSet
  split
  next p pin => exact mget_mset_ne (fun _ => (none : Option Bool)) (fun _ => none) s.pads (some x) (apart p pin)
  · rfl

theorem inputPin_mem {f : PinIn} {p : Nat} (pin : inputPin s f = some p) : p ∈ (inputPins f).map Prod.fst := by
  obtain ⟨e, found, here⟩ := Option.map_eq_some_iff.1 pin
  exact List.mem_map.2 ⟨e, List.mem_of_find?_eq_some found, here⟩

/-- No pin carries both CTS and DSR of a UART. -/
theorem lines_apart {p q : Nat} (cts : inputPin s (.cts n) = some p) (dsr : inputPin s (.dsr n) = some q) : p ≠ q := by
  have p_in := inputPin_mem cts
  have q_in := inputPin_mem dsr
  have disjoint : ∀ k : Fin 2, ∀ p ∈ (inputPins (.cts k)).map Prod.fst, ∀ q ∈ (inputPins (.dsr k)).map Prod.fst, p ≠ q := by decide
  exact disjoint n p p_in q q_in

/-- The board's levels at CTS and DSR. -/
def linesSet (s : State) (n : Nat) (cts dsr : Bool) : State := inputSet (inputSet s (.cts n) cts) (.dsr n) dsr

theorem cts_linesSet (s : State) (cts dsr : Bool) :
    (inputLine (linesSet s n cts dsr) (.cts n)).getD true = if connected s (.cts n) then cts else true := by
  have pin : inputPin (linesSet s n cts dsr) (.cts n) = inputPin s (.cts n) := (inputPin_inputSet ..).trans (inputPin_inputSet ..)
  rw [inputLine, pin, connected]
  cases here : inputPin s (.cts n) with
  | none => rfl
  | some p =>
    have level : padIn (linesSet s n cts dsr) p = cts := by
      refine padIn_eq_board ((pads_inputSet_ne _ (fun q other => ?_) dsr).trans (pads_inputSet here cts))
      exact lines_apart n here ((inputPin_inputSet ..).symm.trans other)
    exact level

theorem dsr_linesSet (s : State) (cts dsr : Bool) :
    (inputLine (linesSet s n cts dsr) (.dsr n)).getD false = if connected s (.dsr n) then dsr else false := by
  have pin : inputPin (linesSet s n cts dsr) (.dsr n) = inputPin s (.dsr n) := (inputPin_inputSet ..).trans (inputPin_inputSet ..)
  rw [inputLine, pin, connected]
  cases here : inputPin s (.dsr n) with
  | none => rfl
  | some p => exact padIn_eq_board (pads_inputSet ((inputPin_inputSet ..).trans here) dsr)

/-- The lines taken, and the flags of those that changed. -/
def linesTaken (s : State) (n : Nat) (cts dsr : Bool) : State :=
  let s1 := setUart s n { uartOf s n with cts := cts, dsr := dsr }
  let s2 := if (uartOf s n).dsr = dsr then s1 else uartFlag s1 n 4 0
  if (uartOf s n).cts = cts then s2 else uartFlag s2 n 5 0

theorem linesTaken_effects (s : State) (cts dsr : Bool) : let t := linesTaken s n cts dsr
    uartOf t n = { uartOf s n with cts := cts, dsr := dsr } ∧ ((uartOf s n).cts ≠ cts → rb t .UART_STAT n 5 = true) ∧
      ((uartOf s n).dsr ≠ dsr → rb t .UART_STAT n 4 = true) ∧ Shows (setUart s n { uartOf s n with cts := cts, dsr := dsr }) t ∧ Keeps Nowhere s t := by
  let s1 := setUart s n { uartOf s n with cts := cts, dsr := dsr }
  let s2 := if (uartOf s n).dsr = dsr then s1 else uartFlag s1 n 4 0
  have shown2 : Shows s1 s2 := .ite (Shows.refl s1) ((Shows.refl s1).uartFlag ..)
  have shown : Shows s1 (linesTaken s n cts dsr) := .ite shown2 (shown2.uartFlag ..)
  have kept2 : Keeps Nowhere s s2 := .ite ((Keeps.refl s).setUart ..) (((Keeps.refl s).setUart ..).uartFlag id ..)
  refine ⟨(uartOf_shows shown n).trans (uartOf_setUart ..), fun change => ?_, fun change => ?_, shown, .ite kept2 (kept2.uartFlag id ..)⟩
  · have row : linesTaken s n cts dsr = uartFlag s2 n 5 0 := if_neg change
    rw [row]
    exact uartFlag_set s2 n 0 (by decide)
  · have flagged : rb s2 .UART_STAT n 4 = true := by
      have here : s2 = uartFlag s1 n 4 0 := if_neg change
      rw [here]
      exact uartFlag_set s1 n 0 (by decide)
    have kept (v : State) : rb (if (uartOf s n).cts = cts then v else uartFlag v n 5 0) .UART_STAT n 4 = rb v .UART_STAT n 4 := by
      split
      · rfl
      · exact uartFlag_other v n 0 (by decide) (by decide)
    exact (kept s2).trans flagged

/-- The transmitter's look with no ring entry held leaves the lines and the other flags. -/
theorem uartGo_unfed (empty : slotOf s (10 + 2 * n) = none) : let t := uartGo s n
    (uartOf t n).cts = (uartOf s n).cts ∧ (uartOf t n).dsr = (uartOf s n).dsr ∧ (∀ bit, bit ≠ 6 → rb t .UART_STAT n bit = rb s .UART_STAT n bit) ∧
      Keeps Nowhere s t := by
  rcases uartGo_cases (s := s) (n := n) (fun v same => uartFill_empty (same.2.trans empty)) with shows_ | ⟨b, rest, starts⟩
  · rw [shows_]
    exact ⟨by rw [uartOf_uartShow], by rw [uartOf_uartShow], fun bit other => uartShow_flag n s other, (Keeps.refl s).uartShow id id id⟩
  · rw [starts]
    refine ⟨by rw [uartOf_uartShow, uartOf_charStarted], by rw [uartOf_uartShow, uartOf_charStarted], fun bit other => ?_,
      ((Keeps.refl s).charStarted ..).uartShow id id id⟩
    exact (uartShow_flag n _ other).trans (((Keeps.refl (A := Everywhere) s).charStarted ..).rb trivial bit)

theorem uartLook_effects (empty : slotOf s (10 + 2 * n) = none) : let t := uartLook s n
    (uartOf t n).cts = (inputLine s (.cts n)).getD true ∧ (uartOf t n).dsr = (inputLine s (.dsr n)).getD false ∧
      ((uartOf s n).cts ≠ (uartOf t n).cts → rb t .UART_STAT n 5 = true) ∧ ((uartOf s n).dsr ≠ (uartOf t n).dsr → rb t .UART_STAT n 4 = true) ∧
      Keeps Nowhere s t := by
  have row : uartLook s n = if (uartOf s n).cts = (inputLine s (.cts n)).getD true ∧ (uartOf s n).dsr = (inputLine s (.dsr n)).getD false then s
      else uartGo (linesTaken s n ((inputLine s (.cts n)).getD true) ((inputLine s (.dsr n)).getD false)) n := rfl
  rw [row]
  generalize (inputLine s (.cts n)).getD true = cts
  generalize (inputLine s (.dsr n)).getD false = dsr
  by_cases same : (uartOf s n).cts = cts ∧ (uartOf s n).dsr = dsr
  · rw [if_pos same]
    exact ⟨same.1, same.2, fun change => absurd rfl change, fun change => absurd rfl change, Keeps.refl s⟩
  · obtain ⟨uart, five, four, shown, kept⟩ := linesTaken_effects n s cts dsr
    obtain ⟨ctsKept, dsrKept, flags, went⟩ := uartGo_unfed n (s := linesTaken s n cts dsr) ((shown.slotOf _).trans empty)
    have ctsNow : (uartOf (uartGo (linesTaken s n cts dsr) n) n).cts = cts := by rw [ctsKept, uart]
    have dsrNow : (uartOf (uartGo (linesTaken s n cts dsr) n) n).dsr = dsr := by rw [dsrKept, uart]
    rw [if_neg same]
    refine ⟨ctsNow, dsrNow, fun change => (flags 5 (by decide)).trans (five ?_), fun change => (flags 4 (by decide)).trans (four ?_), kept.trans went⟩
    · exact fun equal => change (equal.trans ctsNow.symm)
    · exact fun equal => change (equal.trans dsrNow.symm)

/-! ## Disable (R806) -/

/-- A UART disabled, with its entries abandoned. -/
def uartOff (s : State) (n : Nat) : State :=
  let s1 := setUnit (wb s .UART_CTL n 0 false) (7 + n) 0 2
  abandon (abandon (setUart s1 n { uartOf s1 n with rx := [], tx := [] }) (9 + 2 * n)) (10 + 2 * n)

theorem uartOff_effects (s : State) : let t := uartOff s n
    rb t .UART_CTL n 0 = false ∧ mgmt t (7 + n) = 0 ∧ dstate t (7 + n) = 2 ∧ uartOf t n = { uartOf s n with rx := [], tx := [] } ∧
      slotOf t (9 + 2 * n) = none ∧ slotOf t (10 + 2 * n) = none ∧ Keeps Nowhere s t := by
  let s0 := wb s .UART_CTL n 0 false
  let s1 := setUnit s0 (7 + n) 0 2
  let s2 := setUart s1 n { uartOf s1 n with rx := [], tx := [] }
  have ends : Ends s2 (uartOff s n) := ((Ends.refl s2).abandon _).abandon _
  have same : Keeps Everywhere s1 (uartOff s n) := ((Keeps.refl s1).setUart ..).trans ends.keeps
  have states := setUnit_states s0 (7 + n) (m := 0) (d := 2) (by decide) (by decide)
  have before : uartOf s1 n = uartOf s n := uartOf_shows (((Shows.refl s).wb ..).setUnit ..) n
  refine ⟨?_, (same.mgmt trivial).trans states.1, (same.dstate trivial).trans states.2, ?_, ?_, slotOf_endSlot _ _ 2,
    (((Keeps.refl s).wb id 0 false).setUnit id 0 2).trans (same.weaken fun _ => False.elim)⟩
  · exact (same.rb trivial 0).trans ((((Keeps.refl s0).setUnit (state_apart n) 0 2).rb rfl 0).trans (rb_wb_same s _ _ _ _ (by decide)))
  · rw [ends.uart, uartOf_setUart, before]
  · exact slotOf_endSlot_none (slotOf_endSlot s2 _ 2) _ 2

theorem uartDisable_active (on : rb s .UART_CTL n 0 = true) (active : dstate s (7 + n) = 1) : uartDisable s n =
    uartShow (if (uartOf (uartOff s n) n).shift.isNone = true ∧ dstate (uartOff s n) (7 + n) = 2 then setData (uartOff s n) (7 + n) 0 else uartOff s n) n := by
  unfold uartDisable
  rw [if_neg (ne_false_of_eq_true on), if_pos active]
  rfl

theorem uartDisable_effects (on : rb s .UART_CTL n 0 = true) (active : dstate s (7 + n) = 1) : let t := uartDisable s n
    rb t .UART_CTL n 0 = false ∧ mgmt t (7 + n) = 0 ∧ (uartOf t n).rx = [] ∧ (uartOf t n).tx = [] ∧ (uartOf t n).shift = (uartOf s n).shift ∧
      slotOf t (9 + 2 * n) = none ∧ slotOf t (10 + 2 * n) = none ∧ dstate t (7 + n) = (if (uartOf s n).shift = none then 0 else 2) ∧
      Keeps Nowhere s t := by
  obtain ⟨off, mgmt0, drains, uart, rx, tx, kept⟩ := uartOff_effects n s
  obtain ⟨-, -, -, ctlStat, ctlRx, ctlTx, -, -, stateStat, stateRx, stateTx⟩ := uartRegs_apart n
  rw [uartDisable_active n on active]
  generalize uartOff s n = v at off mgmt0 drains uart rx tx kept
  rw [uart]
  let w := if (uartOf s n).shift.isNone = true ∧ dstate v (7 + n) = 2 then setData v (7 + n) 0 else v
  have shown : Shows v w := .ite ((Shows.refl v).setData ..) (Shows.refl v)
  have ctl : Keeps (At .UART_CTL n) v (uartShow w n) :=
    (Keeps.ite ((Keeps.refl v).setData (state_apart n) 0) (Keeps.refl v)).uartShow (Ne.symm ctlRx) (Ne.symm ctlTx) (Ne.symm ctlStat)
  have state : Keeps (At .UART_STATE n) w (uartShow w n) := (Keeps.refl w).uartShow (Ne.symm stateRx) (Ne.symm stateTx) (Ne.symm stateStat)
  have inside : At .UART_STATE n (regAddr (unitReg (7 + n)).1 (unitReg (7 + n)).2) := by rw [uartState]
  have wUart : uartOf w n = { uartOf s n with rx := [], tx := [] } := (uartOf_shows shown n).trans uart
  have tSlot (k : Nat) : slotOf (uartShow w n) k = slotOf v k := by
    rw [(uartShow_tells w n).slotOf]
    exact shown.slotOf k
  have mgmtW : mgmt w (7 + n) = 0 := by
    simp only [w]
    split
    · rw [mgmt_setData v _ (by decide), mgmt0]
    · exact mgmt0
  have dataW : dstate w (7 + n) = if (uartOf s n).shift = none then 0 else 2 := by
    by_cases none_ : (uartOf s n).shift = none
    · have here : w = setData v (7 + n) 0 := if_pos ⟨Option.isNone_iff_eq_none.2 none_, drains⟩
      rw [if_pos none_, here, dstate_setData v _ (by decide)]
    · have here : w = v := if_neg fun both => none_ (Option.isNone_iff_eq_none.1 both.1)
      rw [if_neg none_, here, drains]
  refine ⟨(ctl.rb rfl 0).trans off, (state.mgmt inside).trans mgmtW, by rw [uartOf_uartShow, wUart], by rw [uartOf_uartShow, wUart],
    by rw [uartOf_uartShow, wUart], (tSlot _).trans rx, (tSlot _).trans tx, (state.dstate inside).trans dataW, ?_⟩
  exact (Keeps.ite (kept.setData (u := 7 + n) id 0) kept).uartShow id id id

/-! ## The data port (R851) -/

theorem uartPop_good {c : Byte} {rest : List RxItem} (off : rb s .UART_CTL n 1 = false) (rx : (uartOf s n).rx = .good c :: rest) :
    uartPop s n = (c, uartShow (setUart s n { uartOf s n with rx := rest }) n) := by
  have first : ((uartOf s n).rx.erase (.good c)) = rest := by
    rw [rx]
    exact List.erase_cons_head ..
  have row : uartPop s n = (c, uartShow (setUart s n { uartOf s n with rx := (uartOf s n).rx.erase (.good c) }) n) := by
    unfold uartPop
    rw [if_neg (ne_true_of_eq_false off)]
    dsimp only
    rw [rx]
    rfl
  rw [row, first]

end Sys2Proof.Proofs
end

section
/-! # Chapter 16: the UARTs' obligation -/
namespace Sys2Proof.Proofs
open Sys2Proof.Machine Sys2Proof.Laws

variable {s : State}

theorem uartIsland (n : Fin 2) : islandOfNumber (9 + 2 * n) = .serial := by fin_cases n <;> rfl

/-- A receive entry ended by silence. -/
theorem idleTimeout_effects (n : Fin 2) {x : Slot} (held : slotOf s (9 + 2 * n) = some x) : let t := endSlot s (9 + 2 * n) 0
    slotOf t (9 + 2 * n) = none ∧ (xwaitOf t 15).getLast? = some (.ringDone x.chan x.e.idx 0 (x.moved % 65536) 0) ∧ t.io = s.io ∧ Keeps Nowhere s t := by
  have ends : Ends s (endSlot s (9 + 2 * n) 0) := (Ends.refl s).endSlot ..
  have row : endSlot s (9 + 2 * n) 0 =
      send (setMover (setSlot s (9 + 2 * n) none) x.chan x.e.idx none) 15 (.ringDone x.chan x.e.idx 0 (x.moved % 65536) 0) := by
    unfold endSlot slotComplete
    rw [held]
    dsimp only
    rw [uartIsland]
    rfl
  refine ⟨slotOf_endSlot s _ 0, ?_, ends.io, ends.keeps⟩
  rw [row, xwaitOf_send_same, List.getLast?_concat]

/-- Settles O47: the UARTs' commands and events, one equation or frame for each. -/
theorem uartEffects : Obligations.UartEffects := by
  intro s req n b fe pe t8 g live u frame runs hears_ c odd
  refine ⟨fun may on active => ?disable, fun heard off => ⟨fun room => ?stores, fun full => ?loses, ?break_⟩, liveIn_live live fun s => wb s .UART_STAT n 7 false,
    fun x held some_ => ?idle, fun sending off => ⟨fun empty => ?rests, fun c rest tx run free clear => ?next⟩, fun cts dsr empty => ?lines,
    fun c rest may off rx => ?read, fun may off room => ⟨fun sending => ?queued, fun still empty run free clear => ?sent⟩⟩
  case disable =>
    obtain ⟨ctl, disabled, rx, tx, shift, rxSlot, txSlot, state, kept⟩ := uartDisable_effects n on active
    exact Does.intro (writeReg_taken may fun s => uartDisable s n) ⟨ctl, disabled, rx, tx, shift, rxSlot, txSlot, state, kept.frame⟩
  case stores =>
    obtain ⟨rx, tx, counted, framing, parity, kept⟩ := uartChar_stores n heard off room b fe pe
    exact Does.intro (liveIn_live live fun s => uartChar s n b fe pe) ⟨rx, tx, counted, framing, parity, kept.frame⟩
  case loses =>
    obtain ⟨rx, overrun, kept⟩ := uartChar_loses n heard off full b fe pe
    exact Does.intro (liveIn_live live fun s => uartChar s n b fe pe) ⟨rx, overrun, kept.frame⟩
  case break_ =>
    obtain ⟨seven, three, same, kept⟩ := uartBreak_effects n heard off
    exact Does.intro (liveIn_live live fun s => uartBreak s n) ⟨seven, three, same, kept.frame⟩
  case idle =>
    obtain ⟨ended, done, io, kept⟩ := idleTimeout_effects n held
    have row : exec (.uartIdleTimeout n false) s = .next (endSlot s (9 + 2 * n) 0) := by
      refine (liveIn_live live fun s => match slotOf s (9 + 2 * n) with
        | some x => if x.moved = 0 then s else if false then count s .serial 0x08 else endSlot s (9 + 2 * n) 0
        | none => s).trans (congrArg _ ?_)
      rw [held]
      exact (if_neg some_).trans (if_neg Bool.false_ne_true)
    exact Does.intro row ⟨ended, done, io, kept.frame⟩
  case rests =>
    have uart := uartOf_shiftOver n s
    have row := uartGo_rests (s := shiftOver s n) (n := n) ((shiftOver_ctl n s 1).trans off) (.inl (by rw [uart]; exact empty))
    refine Does.intro ((exec_txCharDone n live sending).trans (congrArg _ row)) ⟨?_, ?_, (((Keeps.refl s).shiftOver n).uartShow id id id).frame⟩
    · rw [uartOf_uartShow, uart]
    · rw [uartShow_idle, uart, txIdle]
      exact Bool.and_eq_true_iff.2 ⟨List.isEmpty_iff.2 empty, rfl⟩
  case next =>
    have uart : uartOf (shifted s n) n = { uartOf s n with shift := none } := uartOf_setUart ..
    have goes : sends (shifted s n) n := ⟨run.1, run.2.1, free, clear.imp id fun asserted => by rw [uart]; exact asserted, run.2.2⟩
    have row : exec (.uartTxCharDone n) s = .next (uartGo (shifted s n) n) :=
      (exec_txCharDone n live sending).trans (by rw [shiftOver_runs n run.1])
    obtain ⟨shift, left, counted, kept⟩ := uartGo_starts_effects n (s := shifted s n) off (by rw [uart]; exact tx) (by rw [uart]) goes
    exact Does.intro row ⟨shift, left, counted, (((Keeps.refl s).setUart ..).trans kept).frame⟩
  case lines =>
    have stays (v : State) (f : PinIn) (x : Bool) : (inputSet v f x).thr = v.thr ∧ (inputSet v f x).io = v.io ∧ (inputSet v f x).slot = v.slot ∧
        (inputSet v f x).uart = v.uart ∧ SameMemory { v with pads := (inputSet v f x).pads } (inputSet v f x) := by
      unfold inputSet
      split <;> exact ⟨rfl, rfl, rfl, rfl, SameMemory.refl _⟩
    let s1 := linesSet s n cts dsr
    obtain ⟨thr1, io1, slot1, uart1, memory1⟩ := stays s (.cts n) cts
    obtain ⟨thr2, io2, slot2, uart2, memory2⟩ := stays (inputSet s (.cts n) cts) (.dsr n) dsr
    have slot : slotOf s1 (10 + 2 * n) = none := by
      have same : s1.slot = s.slot := slot2.trans slot1
      rw [slotOf, same]
      exact empty
    have uart : uartOf s1 n = u := by
      have same : s1.uart = s.uart := uart2.trans uart1
      rw [uartOf, same]
      rfl
    obtain ⟨ctsNow, dsrNow, five, four, kept⟩ := uartLook_effects n (s := s1) slot
    have row : exec (.uartLineChange n cts dsr) s = .next (uartLook s1 n) := liveIn_live live fun s => uartLook (linesSet s n cts dsr) n
    refine Does.intro row ⟨ctsNow.trans (cts_linesSet n s cts dsr), dsrNow.trans (dsr_linesSet n s cts dsr), fun change => five (by rw [uart]; exact change),
      fun change => four (by rw [uart]; exact change), kept.thr.trans (thr2.trans thr1), ?_⟩
    have pads : SameMemory { s with pads := s1.pads } s1 := by
      obtain ⟨near, bits, iram, retain, nvByte, byte, tag, written, owner, -, pending⟩ := memory1
      obtain ⟨near', bits', iram', retain', nvByte', byte', tag', written', owner', -, pending'⟩ := memory2
      exact ⟨near'.trans near, bits'.trans bits, iram'.trans iram, retain'.trans retain, nvByte'.trans nvByte, byte'.trans byte, tag'.trans tag,
        written'.trans written, owner'.trans owner, rfl, pending'.trans pending⟩
    have same : (uartLook s1 n).pads = s1.pads := by
      obtain ⟨-, -, -, -, -, -, -, -, -, pads, -⟩ := kept.memory
      exact pads
    rw [same]
    exact SameMemory.trans pads kept.memory
  case read =>
    have popped := uartPop_good n off rx
    let s1 := uartShow (setUart s n { uartOf s n with rx := rest }) n
    have kept : Keeps Nowhere s s1 := ((Keeps.refl s).setUart ..).uartShow id id id
    have row : exec (.uartDataRead req n (.greg t8 g)) s = .next (replyIn s1 .serial (.greg t8 g) c) := by
      refine (readRegRow_taken may fun s ok =>
        if ok then replyIn (uartPop s n).2 .serial (.greg t8 g) (uartPop s n).1 else replyIn s .serial (.greg t8 g) 0).trans (congrArg _ ((if_pos rfl).trans ?_))
      rw [popped]
    have sent : xwaitOf (replyIn s1 .serial (.greg t8 g) c) 5 = xwaitOf (inOut s1 (.greg t8 g)) 5 ++ [.inReply (landing s1 (.greg t8 g)) c] := xwaitOf_send_same ..
    have lands : landing s1 (.greg t8 g) = ⟨.greg t8 g, s.cycles, !(thr s t8).world⟩ := by
      rw [landing, kept.cycles, thr, kept.thr]
      rfl
    refine Does.intro row ⟨?_, ?_, ?_⟩
    · rw [sent, List.getLast?_concat, lands]
    · have same : uartOf (replyIn s1 .serial (.greg t8 g) c) n = uartOf s1 n := rfl
      rw [same, uartOf_uartShow, uartOf_setUart]
    · have memory : SameMemory s1 (replyIn s1 .serial (.greg t8 g) c) := SameMemory.refl s1
      exact SameMemory.trans kept.memory memory
  case queued =>
    let s1 := setUart s n { uartOf s n with tx := (uartOf s n).tx ++ [b] }
    have uart : uartOf s1 n = { uartOf s n with tx := (uartOf s n).tx ++ [b] } := uartOf_setUart ..
    have open_ : ¬ (rb s .UART_CTL n 1 = true ∨ 16 ≤ (uartOf s n).tx.length) := by
      rintro (ring | full)
      · exact Bool.false_ne_true (off.symm.trans ring)
      · exact Nat.not_le.2 room full
    have row : uartPush s n b = uartShow s1 n := (if_neg open_).trans (uartGo_rests off (.inr (by rw [uart]; exact sending)))
    refine Does.intro ((writeReg_taken may fun s => uartPush s n b).trans (congrArg _ row)) ⟨?_, ?_, (((Keeps.refl (A := Nowhere) s).setUart ..).uartShow id id id).frame⟩
    · rw [uartOf_uartShow, uart]
    · rw [uartOf_uartShow, uart]
  case sent =>
    let s1 := setUart s n { uartOf s n with tx := (uartOf s n).tx ++ [b] }
    have uart : uartOf s1 n = { uartOf s n with tx := (uartOf s n).tx ++ [b] } := uartOf_setUart ..
    have open_ : ¬ (rb s .UART_CTL n 1 = true ∨ 16 ≤ (uartOf s n).tx.length) := by
      rintro (ring | full)
      · exact Bool.false_ne_true (off.symm.trans ring)
      · exact Nat.not_le.2 room full
    have tx : (uartOf s1 n).tx = b :: [] := by
      rw [uart]
      exact (congrArg (· ++ [b]) empty).trans (List.nil_append _)
    have goes : sends s1 n := ⟨run.1, run.2.1, free, clear.imp id fun asserted => by rw [uart]; exact asserted, run.2.2⟩
    obtain ⟨shift, left, -, kept⟩ := uartGo_starts_effects n (s := s1) off tx (by rw [uart]; exact still) goes
    have row : uartPush s n b = uartGo s1 n := if_neg open_
    exact Does.intro ((writeReg_taken may fun s => uartPush s n b).trans (congrArg _ row)) ⟨shift, left, (((Keeps.refl s).setUart ..).trans kept).frame⟩

end Sys2Proof.Proofs
end

section
/-!
SUPPORT. Transfers: a crossing that nothing is sent to (`Still`), and transfers that stay waiting whatever is sent after them (`Posts`).
-/
namespace Sys2Proof.Proofs
open Sys2Proof.Machine Sys2Proof.Laws

variable {s t u : State} {c : Nat}

/-- From `s` to `t` nothing is sent through crossing `c`. -/
def Still (c : Nat) (s t : State) : Prop := xwaitOf t c = xwaitOf s c

namespace Still

theorem refl (s : State) : Still c s s := rfl

theorem trans (h : Still c s t) (k : Still c t u) : Still c s u := Eq.trans k h

theorem ite (h : Still c s t) (k : Still c s u) {p : Prop} [Decidable p] : Still c s (if p then t else u) := by
  split
  · exact h
  · exact k

/-- A change of other parts of the state, which unfolding shows. -/
theorem part (h : Still c s t) (same : u.xwait = t.xwait) : Still c s u := h.trans (by rw [Still, xwaitOf, same, xwaitOf])

theorem send (h : Still c s t) {k : Nat} (apart : c ≠ k) (x : Xfer) : Still c s (send t k x) := h.trans (xwaitOf_send_ne t k c x apart)

theorem raise (h : Still c s t) {i : Island} (away : i ≠ .core) (apart : c ≠ toCore i) (src : Nat) : Still c s (raise t i src) := by
  rw [raise_send away]
  exact h.send apart _

theorem wr (h : Still c s t) (r : Rg) (i : Nat) (v : Quad) : Still c s (wr t r i v) := h.part rfl

theorem wb (h : Still c s t) (r : Rg) (i b : Nat) (x : Bool) : Still c s (wb t r i b x) := h.part rfl

theorem setUnit (h : Still c s t) {v : Nat} (apart : c ≠ toCore (unitIsland v)) (m d : Nat) : Still c s (setUnit t v m d) := by
  have shown := h.wr (unitReg v).1 (unitReg v).2 (BitVec.ofNat 32 (m + 4 * d + 16 * b01 (agreeOf m d)))
  have agreed {p : Prop} [Decidable p] (x : Xfer) := ite (p := p) shown (shown.send apart x)
  unfold Machine.setUnit
  dsimp only
  split
  · exact h
  · split
    · exact (agreed _).raise (unitIsland_ne_core v) apart _
    · exact agreed _

theorem setData (h : Still c s t) {v : Nat} (apart : c ≠ toCore (unitIsland v)) (d : Nat) : Still c s (setData t v d) := h.setUnit apart _ d

end Still

/-! ## An entry that completes -/

/-- A held entry that completes sends its completion through its island's crossing to FABRIC. -/
theorem slotComplete_sends {v : Nat} {x : Slot} (held : slotOf s v = some x) (status done cflags : Nat) :
    xwaitOf (slotComplete s v status done cflags) (toFabric (islandOfNumber v)) =
      xwaitOf s (toFabric (islandOfNumber v)) ++ [.ringDone x.chan x.e.idx status (done % 65536) cflags] := by
  unfold slotComplete
  rw [held]
  exact xwaitOf_send_same ..

/-! ## Transfers that stay -/

/-- From `s` to `t` no transfer that waits goes. -/
structure Posts (s t : State) : Prop where
  stay : ∀ {c : Nat} {x : Xfer}, x ∈ xwaitOf s c → x ∈ xwaitOf t c

namespace Posts

theorem refl (s : State) : Posts s s := ⟨fun waits => waits⟩

theorem trans (h : Posts s t) (k : Posts t u) : Posts s u := ⟨fun waits => k.stay (h.stay waits)⟩

theorem ite (h : Posts s t) (k : Posts s u) {p : Prop} [Decidable p] : Posts s (if p then t else u) := by
  split
  · exact h
  · exact k

theorem part (h : Posts s t) (same : u.xwait = t.xwait) : Posts s u :=
  h.trans ⟨fun waits => by rwa [xwaitOf, same, ← xwaitOf]⟩

theorem foldl {α : Type} {f : State → α → State} {l : List α} (h : Posts s t) (hf : ∀ u x, Posts s u → Posts s (f u x)) : Posts s (l.foldl f t) := by
  induction l generalizing t with
  | nil => exact h
  | cons x l ih => exact ih (hf t x h)

theorem send (h : Posts s t) (k : Nat) (x : Xfer) : Posts s (send t k x) := by
  refine h.trans ⟨fun {c y} waits => ?_⟩
  by_cases here : c = k
  · subst here
    rw [xwaitOf_send_same]
    exact List.mem_append_left _ waits
  · rwa [xwaitOf_send_ne t k c x here]

theorem count (h : Posts s t) {i : Island} (away : i ≠ .core) (code : Nat) : Posts s (count t i code) := by
  rw [count_send away]
  exact h.send ..

theorem raise (h : Posts s t) {i : Island} (away : i ≠ .core) (src : Nat) : Posts s (raise t i src) := by
  rw [raise_send away]
  exact h.send ..

theorem setUnit (h : Posts s t) (v m d : Nat) : Posts s (setUnit t v m d) := by
  have shown : Posts s (wr t (unitReg v).1 (unitReg v).2 (BitVec.ofNat 32 (m + 4 * d + 16 * b01 (agreeOf m d)))) := h.part rfl
  have agreed {p : Prop} [Decidable p] (k : Nat) (x : Xfer) := ite (p := p) shown (shown.send k x)
  unfold Machine.setUnit
  dsimp only
  split
  · exact h
  · split
    · exact (agreed _ _).raise (unitIsland_ne_core v) _
    · exact agreed _ _

theorem setData (h : Posts s t) (v d : Nat) : Posts s (setData t v d) := h.setUnit v _ d

theorem follow (h : Posts s t) (v : Nat) (active : Bool) : Posts s (follow t v active) := ite (h.setData ..) h

theorem unitComplete (h : Posts s t) (i : Island) (c idx status done cflags : Nat) : Posts s (unitComplete t i c idx status done cflags) :=
  (h.part (u := setMover t c idx none) rfl).send ..

end Posts

/-- What is sent waits. -/
theorem mem_send (s : State) (k : Nat) (x : Xfer) : x ∈ xwaitOf (send s k x) k := by
  rw [xwaitOf_send_same]
  exact List.mem_append_right _ (List.mem_singleton_self x)

end Sys2Proof.Proofs
end

section
/-! # Chapter 16: the Ethernet MAC (R806, R831, R833, R834, R836, R840, R843, R845-R847) -/
namespace Sys2Proof.Proofs
open Sys2Proof.Machine Sys2Proof.Laws

variable {s t u : State} {A : Nat → Prop}

/-! ## Disable (R806) -/

/-- Ethernet with EN cleared while it works: its receive entry is abandoned. -/
def ethDrains (s : State) : State := abandon (setUnit (wb s .ETH_CTL 0 0 false) 6 0 2) 2

/-- The sender dealt with, before the states follow. -/
def txCleared (s : State) : State := setEth s { s.eth with sending := false, attempts := 0, backoff := false, tx := [] }

theorem txOver_eq (s : State) : txOver s = if mgmt (txCleared s) 6 = 0 ∧ dstate (txCleared s) 6 = 2 then setData (txCleared s) 6 0 else txCleared s := rfl

theorem txOver_shows (s : State) : Shows (txCleared s) (txOver s) := by
  rw [txOver_eq]
  exact .ite ((Shows.refl _).setData ..) (Shows.refl _)

theorem Keeps.txOver (h : Keeps A s t) (apart : ¬ A (regAddr .ETH_STATE 0)) : Keeps A s (txOver t) := by
  rw [txOver_eq]
  exact ite ((h.setEth _).setData (u := 6) apart 0) (h.setEth _)

theorem txOver_still (s : State) : Still 19 s (txOver s) := by
  have cleared : Still 19 s (txCleared s) := (Still.refl s).part rfl
  rw [txOver_eq]
  exact .ite (cleared.setData (v := 6) (by decide) 0) cleared

theorem txOver_states (s : State) : mgmt (txOver s) 6 = mgmt s 6 ∧ (mgmt s 6 = 0 → dstate s 6 = 2 → dstate (txOver s) 6 = 0) := by
  have same : mgmt (txCleared s) 6 = mgmt s 6 ∧ dstate (txCleared s) 6 = dstate s 6 := ⟨rfl, rfl⟩
  rw [txOver_eq]
  constructor
  · split
    · rw [mgmt_setData _ 6 (by decide), same.1]
    · exact same.1
  · intro off drains
    rw [if_pos ⟨same.1.trans off, same.2.trans drains⟩]
    exact dstate_setData _ 6 (by decide)

theorem ethDisable_active (on : rb s .ETH_CTL 0 0 = true) (active : dstate s 6 = 1) :
    ethDisable s = if (ethDrains s).eth.sending then ethDrains s else setData (txOver (abandon (ethDrains s) 3)) 6 0 := by
  have state : dstate (wb s .ETH_CTL 0 0 false) 6 = 1 :=
    (((Keeps.refl (A := At .ETH_STATE 0) s).wb (by decide) 0 false).dstate (u := 6) rfl).trans active
  have act : (dstate (wb s .ETH_CTL 0 0 false) 6 == 1) = true := by rw [state]; rfl
  unfold ethDisable
  rw [if_neg (ne_false_of_eq_true on)]
  dsimp only
  rw [if_neg (by rw [state]; decide), act]
  rfl

theorem ethDrains_effects (s : State) : let t := ethDrains s
    rb t .ETH_CTL 0 0 = false ∧ mgmt t 6 = 0 ∧ dstate t 6 = 2 ∧ slotOf t 2 = none ∧ slotOf t 3 = slotOf s 3 ∧ t.eth = s.eth ∧ Keeps Nowhere s t := by
  let s0 := wb s .ETH_CTL 0 0 false
  let s1 := setUnit s0 6 0 2
  have ends : Ends s1 (ethDrains s) := (Ends.refl s1).abandon 2
  have same : Keeps Everywhere s1 (ethDrains s) := ends.keeps
  have shown : Shows s s1 := ((Shows.refl s).wb ..).setUnit 6 0 2
  have states := setUnit_states s0 6 (m := 0) (d := 2) (by decide) (by decide)
  refine ⟨?_, (same.mgmt trivial).trans states.1, (same.dstate trivial).trans states.2, slotOf_endSlot s1 2 2,
    (slotOf_endSlot_ne s1 (by decide) 2).trans (shown.slotOf 3), by rw [ends.eth, shown.eth],
    (((Keeps.refl s).wb id 0 false).setUnit (u := 6) id 0 2).trans ends.keeps⟩
  exact (same.rb trivial 0).trans ((rb_congr (rd_setUnit_ne s0 6 0 2 (by decide)) 0).trans (rb_wb_same s _ _ _ _ (by decide)))

theorem ethDisable_effects (on : rb s .ETH_CTL 0 0 = true) (active : dstate s 6 = 1) : let t := ethDisable s
    rb t .ETH_CTL 0 0 = false ∧ mgmt t 6 = 0 ∧ slotOf t 2 = none ∧ dstate t 6 = (if s.eth.sending then 2 else 0) ∧
      (if s.eth.sending then slotOf t 3 = slotOf s 3 else slotOf t 3 = none) ∧ Keeps Nowhere s t := by
  obtain ⟨off, disabled, drains, rx, tx, eth, kept⟩ := ethDrains_effects s
  rw [ethDisable_active on active]
  generalize ethDrains s = v at off disabled drains rx tx eth kept
  rw [eth]
  cases s.eth.sending with
  | true => exact ⟨off, disabled, rx, drains, tx, kept⟩
  | false =>
    let w := abandon v 3
    have ends : Ends v w := (Ends.refl v).abandon 3
    have shown : Shows (txCleared w) (setData (txOver w) 6 0) := (txOver_shows w).setData 6 0
    have ctl : Keeps (At .ETH_CTL 0) v (setData (txOver w) 6 0) := ((ends.keeps).txOver (by decide)).setData (u := 6) (by decide) 0
    have mgmtW : mgmt w 6 = 0 := (ends.keeps (A := Everywhere).mgmt trivial).trans disabled
    refine ⟨(ctl.rb rfl 0).trans off, (mgmt_setData _ 6 (by decide)).trans ((txOver_states w).1.trans mgmtW), ?_, dstate_setData _ 6 (by decide), ?_,
      ((kept.trans ends.keeps).txOver id).setData (u := 6) id 0⟩
    · exact (shown.slotOf 2).trans (slotOf_endSlot_none rx 3 2)
    · exact (shown.slotOf 3).trans (slotOf_endSlot v 3 2)

/-! ## Receive (R836, R840) -/

theorem rxDrop_effects {code : Nat} (counted : code ≠ 0) (s : State) : let t := rxDrop s code
    t.eth = s.eth ∧ rb t .ETH_STAT 0 1 = true ∧ ∀ {B : Nat → Prop}, ¬ B (regAddr .ETH_STAT 0) → Keeps B s t := by
  have row : rxDrop s code = raise (wb (count s .eth code) .ETH_STAT 0 1 true) .eth 105 := by
    unfold rxDrop
    rw [if_neg counted]
  rw [row, raise_send (by decide), count_send (by decide)]
  exact ⟨rfl, rb_wb_same (send s _ _) _ _ _ _ (by decide), fun apart => (((Keeps.refl s).send ..).wb apart 1 true).send ..⟩

/-- The FIFO with a frame behind the others. -/
def framePut (s : State) (f : RxFrame) : State := setEth s { s.eth with fifo := s.eth.fifo ++ [f] }

theorem rxStore_room {bs : List Byte} (room : rxFill s + fifoBytes bs.length ≤ 4096) (status cflags : Nat) :
    rxStore s bs status cflags = fillShow (framePut s ⟨bs, status, cflags⟩) := if_neg (Nat.not_lt.2 room)

theorem rxFill_framePut (s : State) (f : RxFrame) : rxFill (framePut s f) = rxFill s + fifoBytes f.bytes.length := by
  have fill : rxFill (framePut s f) = ((s.eth.fifo ++ [f]).map fun f => fifoBytes f.bytes.length).sum := rfl
  rw [fill, List.map_append, List.sum_append, rxFill]
  exact congrArg _ (Nat.add_zero _)

theorem rxStore_full {bs : List Byte} (full : 4096 < rxFill s + fifoBytes bs.length) (status cflags : Nat) : let t := rxStore s bs status cflags
    t.eth = s.eth ∧ rb t .ETH_STAT 0 0 = true ∧ ∀ {B : Nat → Prop}, ¬ B (regAddr .ETH_STAT 0) → Keeps B s t := by
  have row : rxStore s bs status cflags = raise (wb (count s .eth 0x64) .ETH_STAT 0 0 true) .eth 102 := if_pos full
  rw [row, raise_send (by decide), count_send (by decide)]
  exact ⟨rfl, rb_wb_same (send s _ _) _ _ _ _ (by decide), fun apart => (((Keeps.refl s).send ..).wb apart 0 true).send ..⟩

/-- The receiver takes frames. -/
def receives (s : State) : Prop := rb s .ETH_CTL 0 0 = true ∧ rb s .ETH_CTL 0 1 = true ∧ unitRuns s 6 = true

theorem receives_open (h : receives s) : ¬ (rb s .ETH_CTL 0 0 = false ∨ rb s .ETH_CTL 0 1 = false ∨ unitRuns s 6 = false) := by
  obtain ⟨on, rx, runs⟩ := h
  rw [on, rx, runs]
  simp

theorem frameIn_badFcs (h : receives s) {bs : List Byte} (bad : fcsOk bs = false) : frameIn s bs false = rxDrop s 0x60 :=
  (if_neg (receives_open h)).trans (if_pos bad)

theorem frameIn_stores (h : receives s) {bs : List Byte} (good : fcsOk bs = true) (long : 64 ≤ bs.length) (short : bs.length ≤ 1518)
    (taken : accepts s bs = true) (data : be16 bs 12 ≠ 0x8808) (plain : rb s .ETH_MACCFG 0 7 = false) :
    frameIn s bs false = rxStore s bs 0 (rxCflags s (bs.take (bs.length - 4))) := by
  have fits : ¬ (if tagged bs then 1522 else 1518) < bs.length := by
    split <;> omega
  have mac : (rb s .ETH_MACCFG 0 2 && be16 bs 12 == 0x8808 && be16 bs 14 == 1) = false := by
    have other : (be16 bs 12 == 0x8808) = false := beq_false_of_ne data
    rw [other, Bool.and_false, Bool.false_and]
  have status (v : List Byte) : csumStatus s v = 0 := if_pos plain
  unfold frameIn
  dsimp only
  rw [if_neg (receives_open h), if_neg (ne_false_of_eq_true good), if_neg (Nat.not_lt.2 long), if_neg fits, if_neg Bool.false_ne_true,
    if_neg (ne_false_of_eq_true taken), mac, Bool.false_and, if_neg Bool.false_ne_true, Bool.false_and, if_neg Bool.false_ne_true, status,
    if_pos rfl]
  exact if_neg fun both => both.1 rfl

theorem exec_frameReceived (live : Live s .eth) (crs : connected s .ethCrsdv = true) (rxd0 : connected s (.ethRxd 0) = true)
    (rxd1 : connected s (.ethRxd 1) = true) (bs : List Byte) : exec (.ethFrameReceived bs false) s = .next (frameIn s bs false) := by
  have wired : (connected s .ethCrsdv && connected s (.ethRxd 0) && connected s (.ethRxd 1)) = true := by rw [crs, rxd0, rxd1]; rfl
  exact (liveIn_live live fun s => if connected s .ethCrsdv && connected s (.ethRxd 0) && connected s (.ethRxd 1) then
    frameIn s bs (false && connected s .ethRxer) else s).trans (congrArg _ (if_pos wired))

/-- The frame at the FIFO's head sent to its entry. -/
def frameSent (s : State) (x : Slot) (bs : List Byte) (rest : List RxFrame) : State :=
  let s1 := unitSend s x.chan x.e.idx x.e.frags 0 bs
  fillShow (setEth s1 { s1.eth with fifo := rest })

theorem slotOf_unitSend (s : State) (c i : Nat) (l : List (Nat × Nat)) (o : Nat) (bs : List Byte) (v : Nat) :
    slotOf (unitSend s c i l o bs) v = slotOf s v := by
  unfold unitSend
  generalize fragPieces l o bs.length = pieces
  induction pieces generalizing s bs with
  | nil => rfl
  | cons p pieces ih => exact ih (send s _ _) _

theorem rxDeliver_fits {f : RxFrame} {rest : List RxFrame} {x : Slot} (fifo : s.eth.fifo = f :: rest) (held : slotOf s 2 = some x)
    (runs : unitRuns s 6 = true) (fits : f.bytes.length - 4 ≤ fragTotal x.e.frags) :
    rxDeliver s = slotComplete (frameSent s x (f.bytes.take (f.bytes.length - 4)) rest) 2 f.status (f.bytes.length - 4) f.cflags := by
  have length : (f.bytes.take (f.bytes.length - 4)).length = f.bytes.length - 4 := by
    rw [List.length_take]
    omega
  have whole : (f.bytes.take (f.bytes.length - 4)).take (fragTotal x.e.frags) = f.bytes.take (f.bytes.length - 4) :=
    List.take_of_length_le (by rw [length]; exact fits)
  unfold rxDeliver
  rw [fifo, held]
  dsimp only
  rw [if_neg (ne_false_of_eq_true runs), length, if_neg (Nat.not_lt.2 fits), whole]
  rfl

theorem rxDeliver_effects {f : RxFrame} {rest : List RxFrame} {x : Slot} (fifo : s.eth.fifo = f :: rest) (held : slotOf s 2 = some x)
    (runs : unitRuns s 6 = true) (fits : f.bytes.length - 4 ≤ fragTotal x.e.frags) : let t := rxDeliver s
    t.eth.fifo = rest ∧ slotOf t 2 = none ∧ xwaitOf t 19 = xwaitOf (unitSend s x.chan x.e.idx x.e.frags 0 (f.bytes.take (f.bytes.length - 4))) 19 ++
      [.ringDone x.chan x.e.idx f.status ((f.bytes.length - 4) % 65536) f.cflags] ∧ Keeps Nowhere s t := by
  have sent : Ends s (unitSend s x.chan x.e.idx x.e.frags 0 (f.bytes.take (f.bytes.length - 4))) := (Ends.refl s).unitSend ..
  have slot : slotOf (unitSend s x.chan x.e.idx x.e.frags 0 (f.bytes.take (f.bytes.length - 4))) 2 = some x := (slotOf_unitSend ..).trans held
  rw [rxDeliver_fits fifo held runs fits, frameSent]
  dsimp only
  generalize unitSend s x.chan x.e.idx x.e.frags 0 (f.bytes.take (f.bytes.length - 4)) = v at sent slot
  let w := fillShow (setEth v { v.eth with fifo := rest })
  have ends : Ends w (slotComplete w 2 f.status (f.bytes.length - 4) f.cflags) := (Ends.refl w).slotComplete ..
  have here : slotOf w 2 = some x := slot
  refine ⟨by rw [ends.eth]; rfl, slotOf_slotComplete .., slotComplete_sends here .., ?_⟩
  exact ((sent.keeps.setEth _).wr id _).trans ends.keeps

/-! ## Transmit (R843, R845) -/

theorem txStart_starts (ready : rb s .ETH_CTL 0 2 = true ∧ unitRuns s 6 = true ∧ slotOf s 3 ≠ none ∧ s.eth.tx ≠ [] ∧ s.eth.sending = false ∧
    s.eth.backoff = false ∧ s.eth.pause = 0) : txStart s = setEth s { s.eth with sending := true } := by
  obtain ⟨on, runs, held, loaded, free, off, calm⟩ := ready
  exact if_pos ⟨on, runs, Option.isSome_iff_ne_none.2 held, loaded, free, off, calm⟩

/-- The completion of a sent frame, whatever its status. -/
theorem frameDone {x : Slot} (held : slotOf s 3 = some x) (status n : Nat) : let t := txOver (slotComplete s 3 status n 0)
    t.eth.sending = false ∧ slotOf t 3 = none ∧ (xwaitOf t 19).getLast? = some (.ringDone x.chan x.e.idx status (n % 65536) 0) ∧
      (mgmt s 6 = 0 → dstate s 6 = 2 → dstate t 6 = 0) ∧ ∀ {B : Nat → Prop}, ¬ B (regAddr .ETH_STATE 0) → Keeps B s t := by
  let w := slotComplete s 3 status n 0
  have ends : Ends s w := (Ends.refl s).slotComplete ..
  have shown := txOver_shows w
  have same : Keeps Everywhere s w := ends.keeps
  refine ⟨by rw [shown.eth]; rfl, (shown.slotOf 3).trans (slotOf_slotComplete ..), ?_, fun off drains => ?_, fun apart => (ends.keeps).txOver apart⟩
  · have sent : xwaitOf w 19 = xwaitOf s 19 ++ [.ringDone x.chan x.e.idx status (n % 65536) 0] := slotComplete_sends held ..
    rw [show xwaitOf (txOver w) 19 = xwaitOf w 19 from txOver_still w, sent, List.getLast?_concat]
  · exact (txOver_states w).2 ((same.mgmt trivial).trans off) ((same.dstate trivial).trans drains)

theorem txDone_sent {x : Slot} (sending : s.eth.sending = true) (held : slotOf s 3 = some x) :
    txDone s = txOver (slotComplete s 3 0 (fragTotal x.e.frags) 0) := by
  unfold txDone
  rw [if_neg (ne_false_of_eq_true sending), held]

/-- An attempt that collided, counted. -/
def collided (s : State) : State := count (setEth s { s.eth with attempts := s.eth.attempts + 1 }) .eth 0x67

theorem collided_eq (s : State) : collided s = send (setEth s { s.eth with attempts := s.eth.attempts + 1 }) 9 (.count 0x67 1) := count_send (by decide) ..

/-- A frame given up after its collision, before its entry completes. -/
def gaveUp (s : State) (code : Nat) : State := raise (wb (count s .eth code) .ETH_STAT 0 2 true) .eth 103

theorem collision_late (sending : s.eth.sending = true) (half : rb s .ETH_MACCFG 0 1 = false) :
    collision s true = txOver (slotComplete (gaveUp (collided s) 0x68) 3 0x82 0 0) := by
  have open_ : ¬ (s.eth.sending = false ∨ rb s .ETH_MACCFG 0 1 = true) := by
    rw [sending, half]
    simp
  exact (if_neg open_).trans (if_pos rfl)

theorem collision_last (sending : s.eth.sending = true) (half : rb s .ETH_MACCFG 0 1 = false) (last : 16 ≤ s.eth.attempts + 1) :
    collision s false = txOver (slotComplete (gaveUp (collided s) 0x69) 3 0x83 0 0) := by
  have open_ : ¬ (s.eth.sending = false ∨ rb s .ETH_MACCFG 0 1 = true) := by
    rw [sending, half]
    simp
  have tries : 16 ≤ (collided s).eth.attempts := by
    rw [collided_eq]
    exact last
  exact (if_neg open_).trans ((if_neg Bool.false_ne_true).trans (if_pos tries))

theorem collision_again (sending : s.eth.sending = true) (half : rb s .ETH_MACCFG 0 1 = false) (few : s.eth.attempts + 1 < 16) :
    collision s false = setEth (collided s) { (collided s).eth with sending := false, backoff := true } := by
  have open_ : ¬ (s.eth.sending = false ∨ rb s .ETH_MACCFG 0 1 = true) := by
    rw [sending, half]
    simp
  have tries : ¬ 16 ≤ (collided s).eth.attempts := by
    rw [collided_eq]
    exact Nat.not_le.2 few
  exact (if_neg open_).trans ((if_neg Bool.false_ne_true).trans (if_neg tries))

/-- A frame given up: the flag, and its entry's completion. -/
theorem gaveUp_effects {x : Slot} (held : slotOf s 3 = some x) (code status : Nat) : let t := txOver (slotComplete (gaveUp (collided s) code) 3 status 0 0)
    rb t .ETH_STAT 0 2 = true ∧ slotOf t 3 = none ∧ (xwaitOf t 19).getLast? = some (.ringDone x.chan x.e.idx status 0 0) ∧ Keeps Nowhere s t := by
  let w := wb (count (collided s) .eth code) .ETH_STAT 0 2 true
  have shown : Shows (setEth s { s.eth with attempts := s.eth.attempts + 1 }) (gaveUp (collided s) code) :=
    ((((Shows.refl _).count (by decide) 0x67).count (by decide) code).wb ..).raise (by decide) 103
  have flag : rb (gaveUp (collided s) code) .ETH_STAT 0 2 = true :=
    (((Keeps.refl (A := Everywhere) w).raise (by decide) 103).rb trivial 2).trans (rb_wb_same (count (collided s) .eth code) _ _ _ _ (by decide))
  have slot : slotOf (gaveUp (collided s) code) 3 = some x := (shown.slotOf 3).trans held
  have kept : Keeps Nowhere s (gaveUp (collided s) code) :=
    (((((Keeps.refl s).setEth _).count (by decide) 0x67).count (by decide) code).wb id 2 true).raise (by decide) 103
  generalize gaveUp (collided s) code = v at flag slot kept
  obtain ⟨-, empty, done, -, after⟩ := frameDone slot status 0
  exact ⟨((after (B := At .ETH_STAT 0) (by decide)).rb rfl 2).trans flag, empty, done, kept.trans (after id)⟩

theorem exec_collision (live : Live s .eth) (crs : connected s .ethCrsdv = true) (late : Bool) :
    exec (.ethCollision late) s = .next (collision s late) :=
  (liveIn_live live fun s => if connected s .ethCrsdv then collision s late else s).trans (congrArg _ (if_pos crs))

/-! ## Pause (R846, R847), MDIO (R833, R834) -/

theorem pauseSend_full (auto : rb s .ETH_MACCFG 0 3 = true) (duplex : rb s .ETH_MACCFG 0 1 = true) (runs : unitRuns s 6 = true)
    (on : rb s .ETH_CTL 0 0 = true) (free : s.eth.sending = false) (high : rn s .ETH_RXPHI 0 < rxFill s) :
    pauseSend s = send (setEth s { s.eth with pauseSent := true }) 9 (.count 0x6B 1) := by
  have open_ : ¬ (rb s .ETH_MACCFG 0 3 = false ∨ rb s .ETH_MACCFG 0 1 = false ∨ unitRuns s 6 = false ∨ rb s .ETH_CTL 0 0 = false ∨
      s.eth.sending = true) := by
    rw [auto, duplex, runs, on, free]
    simp
  have row : pauseSend s = count (setEth s { s.eth with pauseSent := true }) .eth 0x6B := (if_neg open_).trans (if_pos high)
  rw [row, count_send (by decide)]
  rfl

/-- An MDIO operation's end shown, before its source. -/
def mdioShown (s : State) (op data : Nat) : State :=
  let s1 := wb (setEth s { s.eth with mdio := none }) .ETH_MDCMD 0 12 false
  wb (if nbit op 10 then s1 else wr s1 .ETH_MDDATA 0 (BitVec.ofNat 32 data)) .ETH_STAT 0 3 true

theorem mdioDone_eq {op : Nat} (busy : s.eth.mdio = some op) (data : Nat) : mdioDone s data = raise (mdioShown s op data) .eth 104 := by
  unfold mdioDone
  rw [busy] <;> rfl

theorem mdioDone_effects {op : Nat} (busy : s.eth.mdio = some op) (data : Nat) : let t := mdioDone s data
    t.eth.mdio = none ∧ rb t .ETH_MDCMD 0 12 = false ∧ rb t .ETH_STAT 0 3 = true ∧
      rd t .ETH_MDDATA 0 = (if nbit op 10 then rd s .ETH_MDDATA 0 else BitVec.ofNat 32 data) ∧ Keeps Nowhere s t := by
  let s1 := wb (setEth s { s.eth with mdio := none }) .ETH_MDCMD 0 12 false
  rw [mdioDone_eq busy, raise_send (by decide)]
  unfold mdioShown
  cases nbit op 10 with
  | true =>
    refine ⟨rfl, ?_, rb_wb_same s1 _ _ _ _ (by decide), ?_, (((((Keeps.refl s).setEth _).wb id 12 false).wb id 3 true).send ..)⟩
    · exact (rb_wb_ne s1 _ _ _ _ _ _ _ (by decide)).trans (rb_wb_same _ _ _ _ _ (by decide))
    · exact (rd_wb_ne s1 _ _ _ _ _ _ (by decide)).trans (rd_wb_ne (setEth s _) _ _ _ _ _ _ (by decide))
  | false =>
    let s2 := wr s1 .ETH_MDDATA 0 (BitVec.ofNat 32 data)
    refine ⟨rfl, ?_, rb_wb_same s2 _ _ _ _ (by decide), ?_, ((((((Keeps.refl s).setEth _).wb id 12 false).wr id _).wb id 3 true).send ..)⟩
    · exact (rb_wb_ne s2 _ _ _ _ _ _ _ (by decide)).trans ((rb_wr_ne s1 _ _ (by decide)).trans (rb_wb_same _ _ _ _ _ (by decide)))
    · exact (rd_wb_ne s2 _ _ _ _ _ _ (by decide)).trans (rd_wr_same ..)

/-- A poll of the PHY's link bit. -/
theorem mdioPoll_effects (data : Nat) (on : rb s .ETH_MDPOLL 0 0 = true) (due : timerDue s 131 = true) : let t := mdioPoll s data
    rb t .ETH_MDPOLL 0 6 = nbit data 2 ∧ mget (fun _ => (none : Option Nat)) t.timers 131 = some (s.time + 384000) ∧
      (rb s .ETH_MDPOLL 0 6 ≠ nbit data 2 → rb t .ETH_STAT 0 4 = true) ∧ Keeps Nowhere s t := by
  let s1 := startTimer s 131 (msTicks 16)
  have open_ : ¬ (rb s .ETH_MDPOLL 0 0 = false ∨ (timerOn s 131 = true ∧ timerDue s 131 = false)) := by
    rw [on, due]
    simp
  have timed : mget (fun _ => (none : Option Nat)) s1.timers 131 = some (s.time + 384000) := timers_startTimer s 131 (msTicks 16)
  by_cases same : rb s .ETH_MDPOLL 0 6 = nbit data 2
  · have row : mdioPoll s data = s1 := (if_neg open_).trans (if_pos same)
    rw [row]
    exact ⟨same, timed, fun change => absurd same change, (Keeps.refl s).startTimer ..⟩
  · have row : mdioPoll s data = raise (wb (wb s1 .ETH_MDPOLL 0 6 (nbit data 2)) .ETH_STAT 0 4 true) .eth 104 := (if_neg open_).trans (if_neg same)
    rw [row, raise_send (by decide)]
    refine ⟨?_, timed, fun _ => rb_wb_same (wb s1 .ETH_MDPOLL 0 6 (nbit data 2)) _ _ _ _ (by decide),
      ((((Keeps.refl s).startTimer ..).wb id ..).wb id 4 true).send ..⟩
    exact (rb_wb_ne (wb s1 .ETH_MDPOLL 0 6 (nbit data 2)) _ _ _ _ _ _ _ (by decide)).trans (rb_wb_same s1 _ _ _ _ (by decide))

/-- Settles O46: the MAC's commands and events, one equation or frame for each. -/
theorem ethernetEffects : Obligations.EthernetEffects := by
  intro s req bs data live e frame done
  refine ⟨fun may on active => ?disable, fun crs rxd0 rxd1 on rx runs => ⟨fun bad => ?badFcs, fun good long short taken other plain =>
      ⟨fun room => ?stored, fun full => ?full⟩⟩, fun f rest x fifo held runs fits => ?deliver, fun ready => ?start, fun paused => ?held,
    fun x sending held => ?sent, fun x crs sending half held => ⟨fun few => ?again, fun last => ?last, ?late⟩, fun waits => ?backoff,
    fun paused => ?pauseEnd, fun auto duplex runs on free high => ?pauseSend, fun own pllc => ?refclk, fun may idle => ?mdioGo,
    fun op busy => ?mdioDone, fun on due => ?poll⟩
  case disable =>
    obtain ⟨off, disabled, rx, state, tx, kept⟩ := ethDisable_effects on active
    exact Does.intro (writeReg_taken may ethDisable) ⟨off, disabled, rx, state, tx, kept.linkFrame⟩
  case badFcs =>
    obtain ⟨same, flag, kept⟩ := rxDrop_effects (code := 0x60) (by decide) s
    exact Does.intro ((exec_frameReceived live crs rxd0 rxd1 bs).trans (congrArg _ (frameIn_badFcs ⟨on, rx, runs⟩ bad)))
      ⟨same, flag, (kept (by simp)).sameIoBut, (kept (B := Nowhere) id).linkFrame⟩
  case stored =>
    have row := (frameIn_stores ⟨on, rx, runs⟩ good long short taken other plain).trans (rxStore_room room 0 _)
    refine Does.intro ((exec_frameReceived live crs rxd0 rxd1 bs).trans (congrArg _ row)) ⟨rfl, ?_, ?_, ?_⟩
    · exact (rd_wr_same ..).trans (congrArg _ (rxFill_framePut ..))
    · exact (((Keeps.refl s).setEth _).wr (by simp) _).sameIoBut
    · exact (((Keeps.refl (A := Nowhere) s).setEth _).wr id _).linkFrame
  case full =>
    obtain ⟨same, flag, kept⟩ := rxStore_full full 0 (rxCflags s (bs.take (bs.length - 4)))
    exact Does.intro ((exec_frameReceived live crs rxd0 rxd1 bs).trans (congrArg _ (frameIn_stores ⟨on, rx, runs⟩ good long short taken other plain)))
      ⟨same, flag, (kept (by simp)).sameIoBut, (kept (B := Nowhere) id).linkFrame⟩
  case deliver =>
    obtain ⟨left, empty, sent, kept⟩ := rxDeliver_effects fifo held runs fits
    exact Does.intro (liveIn_live live rxDeliver) ⟨left, empty, sent, kept.linkFrame⟩
  case start => exact (liveIn_live live txStart).trans (congrArg _ (txStart_starts ready))
  case held =>
    refine (liveIn_live live txStart).trans (congrArg _ (if_neg ?_))
    rintro ⟨-, -, -, -, -, -, calm⟩
    exact paused calm
  case sent =>
    obtain ⟨free, empty, sent, state, kept⟩ := frameDone held 0 (fragTotal x.e.frags)
    exact Does.intro ((liveIn_live live txDone).trans (congrArg _ (txDone_sent sending held))) ⟨free, empty, sent, state, (kept (B := Nowhere) id).linkFrame⟩
  case again =>
    refine Does.intro ((exec_collision live crs false).trans (congrArg _ (collision_again sending half few))) ?_
    rw [collided_eq]
    exact ⟨rfl, held, rfl, rfl, rfl, rfl⟩
  case last =>
    obtain ⟨flag, empty, sent, kept⟩ := gaveUp_effects held 0x69 0x83
    exact Does.intro ((exec_collision live crs false).trans (congrArg _ (collision_last sending half last))) ⟨flag, empty, sent, kept.linkFrame⟩
  case late =>
    obtain ⟨flag, empty, sent, kept⟩ := gaveUp_effects held 0x68 0x82
    exact Does.intro ((exec_collision live crs true).trans (congrArg _ (collision_late sending half))) ⟨flag, empty, sent, kept.linkFrame⟩
  case backoff => exact (liveIn_live live fun s => if s.eth.backoff then txStart (setEth s { s.eth with backoff := false }) else s).trans (congrArg _ (if_pos waits))
  case pauseEnd =>
    exact (liveIn_live live fun s => if s.eth.pause = 0 then s else if false then count s .eth 0x08 else
      wb (setEth s { s.eth with pause := 0 }) .ETH_STAT 0 5 false).trans (congrArg _ ((if_neg paused).trans (if_neg Bool.false_ne_true)))
  case pauseSend => exact (liveIn_live live Machine.pauseSend).trans (congrArg _ (pauseSend_full auto duplex runs on free high))
  case refclk =>
    let s1 := count (setEth s { s.eth with onPllc := true }) .eth 0x6C
    have counted : s1 = send (setEth s { s.eth with onPllc := true }) 9 (.count 0x6C 1) := count_send (by decide) ..
    have lost := ethNoClk_loses s1
    have open_ : ¬ (rb s .ETH_MACCFG 0 5 = true ∨ s.eth.onPllc = true) := by
      rw [own]
      simpa using pllc
    have before : Keeps Nowhere s s1 := ((Keeps.refl s).setEth _).count (by decide) _
    refine Does.intro ((liveIn_live live fun s => if rb s .ETH_MACCFG 0 5 ∨ s.eth.onPllc then s else
      ethNoClk (count (setEth s { s.eth with onPllc := true }) .eth 0x6C)).trans (congrArg _ (if_neg open_)))
      ⟨?_, lost.flag, lost.state, lost.rx, lost.tx, (before.trans (lost.keeps id id)).linkFrame⟩
    rw [lost.eth, counted]
    rfl
  case mdioGo =>
    have free : ¬ s.eth.mdio.isSome = true := by
      rw [show s.eth.mdio = none from idle]
      exact Bool.false_ne_true
    have row : mdioGo s = wb (setEth s { s.eth with mdio := some (rf s .ETH_MDCMD 0 10 0) }) .ETH_MDCMD 0 12 true := if_neg free
    exact Does.intro ((writeReg_taken may Machine.mdioGo).trans (congrArg _ row)) ⟨rfl, rb_wb_same _ _ _ _ _ (by decide),
      (((Keeps.refl s).setEth _).wb (by simp) 12 true).sameIoBut, (((Keeps.refl (A := Nowhere) s).setEth _).wb id 12 true).linkFrame⟩
  case mdioDone =>
    obtain ⟨idle, command, flag, value, kept⟩ := mdioDone_effects busy data.toNat
    exact Does.intro (liveIn_live live fun s => mdioDone s data.toNat) ⟨idle, command, flag, value, kept.linkFrame⟩
  case poll =>
    obtain ⟨link, timed, flag, kept⟩ := mdioPoll_effects data.toNat on due
    exact Does.intro (liveIn_live live fun s => mdioPoll s data.toNat) ⟨link, timed, flag, kept.linkFrame⟩

end Sys2Proof.Proofs
end

section
/-! # Chapter 17: the cause of a BUSFAULT cleared (R900) -/
namespace Sys2Proof.Proofs
open Sys2Proof.Machine Sys2Proof.Laws

/-- The Kolnex port with a BUSFAULT of cause ECHO shown in KX_STAT, its line idle for 24 bit-times. -/
def echoFault : State := { wr State.reset .KX_STAT 0 6 with kx := { Kx.reset with free := true } }

/-- KX_STAT of `echoFault` after its BUSFAULT is cleared: the bit is clear, the cause still reads ECHO. -/
theorem cause_kxStatWrite_echoFault : rf (kxStatWrite echoFault 2) .KX_STAT 0 3 2 = 1 := by decide

/-- Refutes O48: the statement has BFCAUSE read 0 once a BUSFAULT is cleared. A write of 1 to BUSFAULT clears that bit alone (R900) and leaves
the cause, a read-only field of the same register, at what the fault showed. -/
theorem not_kolnexSends : ¬ Obligations.KolnexSends := by
  unfold Obligations.KolnexSends
  intro holds
  have may : MayWrite echoFault 0 .KX_STAT 0 := by decide
  obtain ⟨-, -, -, -, -, -, -, -, -, -, -, -, clears⟩ := holds echoFault 0 2 (by decide)
  obtain ⟨t, row, -, cause, -⟩ := (clears may (by decide) (by decide)).1 rfl
  have row' : exec (.kolnexFaultClear 0 2) echoFault = .next (kxStatWrite echoFault 2) :=
    writeReg_taken may fun s => kxStatWrite s 2
  rw [row'] at row
  cases row
  exact absurd (cause_kxStatWrite_echoFault.symm.trans cause) (by decide)

end Sys2Proof.Proofs
end

section
/-! # Chapter 20: a commit with no command in progress (R1033, R1037) -/
namespace Sys2Proof.Proofs
open Sys2Proof.Machine Sys2Proof.Laws

/-- Two page writes stand in the NV controller, the first in its COMMIT, and no block's command is in progress. -/
def runlessState : State :=
  { State.reset with nv := { Nv.reset with jobs := [.page 0 [], .page 1 []], phase := .commit } }

/-- A commit is of the controller's stores; which command runs, in which phase, it does not say. -/
theorem nvWearUp_run_phase (s : State) (p : Nat) : (nvWearUp s p).nv.run = s.nv.run ∧ (nvWearUp s p).nv.phase = s.nv.phase := by
  rw [nvWearUp]
  generalize decide (nvWear s p + 1 = 1048575) = retire
  generalize decide (nvWear s p + 1 = rf s .NV_WEARWARN 0 19 0) = high
  cases retire <;> cases high <;> constructor <;> rfl

theorem nvCommit_page_run_phase (s : State) (p : Nat) (bs : List Byte) :
    (nvCommit s (.page p bs)).nv.run = s.nv.run ∧ (nvCommit s (.page p bs)).nv.phase = s.nv.phase :=
  nvWearUp_run_phase _ p

/-- With no command in progress the write that has committed leaves the phase as it is. -/
theorem nvNextJob_runless (s : State) (run : s.nv.run = none) : (nvNextJob s).nv.phase = s.nv.phase := by
  rw [nvNextJob, run] <;> rfl

/-- Refutes O54: the statement has the next write of a command begin with its first phase when the one before it has committed, of every state
with two writes there. Where no command is in progress, a state no dispatch (R1029) leads to, the next write stands in COMMIT. -/
theorem not_nvPhasesAndPorts : ¬ Obligations.NvPhasesAndPorts := by
  unfold Obligations.NvPhasesAndPorts
  intro holds
  obtain ⟨-, -, next, -⟩ := holds runlessState 0 0 0 0 .debug (.page 0 []) [] (by decide)
  obtain ⟨t, row, -, phase, -⟩ := next (.page 1 []) [] 0 [] true rfl rfl rfl rfl
  have row' : exec (.nvPhaseDone true) runlessState = .next (nvNextJob (nvCommit runlessState (.page 0 []))) :=
    liveIn_live (i := .serial) (by decide) fun s => nvPhaseDone s true
  obtain ⟨run, commit⟩ := nvCommit_page_run_phase runlessState 0 []
  rw [row'] at row
  cases row
  rw [nvNextJob_runless _ run, commit] at phase
  exact absurd phase (by decide)

end Sys2Proof.Proofs
end

section
/-!
SUPPORT. The Kolnex port (chapter 17): what follows it (R913, R915), what a start bit, a frame heard and a failed attempt leave of it, and what a
frame that passed its checks stores (R901-R904).
-/
namespace Sys2Proof.Proofs
open Sys2Proof.Machine Sys2Proof.Laws

variable {s t u : State} {A : Nat → Prop}

theorem Posts.wr (h : Posts s t) (r : Rg) (i : Nat) (v : Quad) : Posts s (wr t r i v) := h.part rfl

/-! ## What follows the port -/

/-- KX_NACNT and DATA_STATE follow the port, before a slot is drawn. -/
def kxCounted (s : State) : State := wr s .KX_NACNT 0 (BitVec.ofNat 32 s.kx.lone.length)

def kxDrained (s : State) : State := if dstate (kxCounted s) 9 = 2 ∧ mgmt (kxCounted s) 9 ≠ 2 ∧ kxQuiet (kxCounted s) then setData (kxCounted s) 9 0 else kxCounted s

def kxFollowed (s : State) : State := follow (kxDrained s) 9 (mgmt (kxDrained s) 9 == 1 && (!(kxDrained s).kx.held.isEmpty || (kxDrained s).kx.wire == .ack))

theorem kxShow_eq (s : State) : kxShow s = kxDraw (kxFollowed s) := rfl

theorem kxDrained_shows (s : State) : Shows s (kxDrained s) := .ite (((Shows.refl s).wr ..).setData 9 0) ((Shows.refl s).wr ..)

theorem kxFollowed_shows (s : State) : Shows s (kxFollowed s) := .ite ((kxDrained_shows s).setData ..) (kxDrained_shows s)

/-- Drawing a slot is of the port's slot and the free values alone. -/
theorem kxDraw_cases (s : State) : kxDraw s = s ∨ ∃ n d, kxDraw s = setKx { s with fresh := n } { s.kx with drawn := d } := by
  unfold kxDraw
  split
  · exact .inr ⟨_, _, rfl⟩
  · exact .inl rfl

/-- With the bus not free no slot is drawn (R877). -/
theorem kxDraw_busy (busy : s.kx.free = false) : kxDraw s = s := if_neg (by rw [busy]; exact Bool.false_ne_true)

theorem kxShow_kx (s : State) : ∃ d, (kxShow s).kx = { s.kx with drawn := d } := by
  have same := (kxFollowed_shows s).kx
  rw [kxShow_eq]
  obtain held | ⟨n, d, drawn⟩ := kxDraw_cases (kxFollowed s)
  · exact ⟨s.kx.drawn, by rw [held, same]⟩
  · exact ⟨d, by rw [drawn, ← same]; rfl⟩

theorem kxShow_busy (busy : s.kx.free = false) : kxShow s = kxFollowed s :=
  kxDraw_busy (s := kxFollowed s) ((congrArg Kx.free (kxFollowed_shows s).kx).trans busy)

theorem Keeps.kxShow (h : Keeps A s t) (count : ¬ A (regAddr .KX_NACNT 0)) (state : ¬ A (regAddr .KX_STATE 0)) : Keeps A s (kxShow t) := by
  have counted : Keeps A s (kxCounted t) := h.wr count _
  have drained : Keeps A s (kxDrained t) := ite (counted.setData (u := 9) state 0) counted
  have followed : Keeps A s (kxFollowed t) := drained.follow (u := 9) state _
  rw [kxShow_eq]
  obtain held | ⟨n, d, drawn⟩ := kxDraw_cases (kxFollowed t)
  · rwa [held]
  · rw [drawn]
    exact (followed.drawFree n).setKx _

theorem kxDraw_xwait (s : State) : (kxDraw s).xwait = s.xwait := by
  obtain held | ⟨n, d, drawn⟩ := kxDraw_cases s
  · rw [held]
  · rw [drawn]
    rfl

theorem kxShow_still (s : State) : Still 15 s (kxShow s) := by
  have counted : Still 15 s (kxCounted s) := (Still.refl s).wr ..
  have drained : Still 15 s (kxDrained s) := .ite (counted.setData (v := 9) (by decide) 0) counted
  have followed : Still 15 s (kxFollowed s) := .ite (drained.setData (v := 9) (by decide) _) drained
  exact followed.part (kxDraw_xwait _)

theorem kxShow_posts (s : State) : Posts s (kxShow s) := by
  have counted : Posts s (kxCounted s) := (Posts.refl s).part rfl
  have drained : Posts s (kxDrained s) := .ite (counted.setData 9 0) counted
  exact (drained.follow 9 _).part (kxDraw_xwait _)

theorem slotOf_kxShow (s : State) (v : Nat) : slotOf (kxShow s) v = slotOf s v := by
  rw [kxShow_eq, ← (kxFollowed_shows s).slotOf v]
  obtain held | ⟨n, d, drawn⟩ := kxDraw_cases (kxFollowed s)
  · rw [held]
  · rw [drawn]
    rfl

/-- KX_NACNT shows the length of the LONE list (R913). -/
theorem nacnt_kxShow (s : State) : rd (kxShow s) .KX_NACNT 0 = BitVec.ofNat 32 s.kx.lone.length := by
  have counted : rd (kxCounted s) .KX_NACNT 0 = BitVec.ofNat 32 s.kx.lone.length := rd_wr_same ..
  have counted_ : Keeps (At .KX_NACNT 0) (kxCounted s) (kxDrained s) := .ite ((Keeps.refl _).setData (u := 9) (by decide) 0) (Keeps.refl _)
  have followed : Keeps (At .KX_NACNT 0) (kxCounted s) (kxFollowed s) := counted_.follow (u := 9) (by decide) _
  rw [← counted, ← followed.rd rfl, kxShow_eq]
  obtain held | ⟨n, d, drawn⟩ := kxDraw_cases (kxFollowed s)
  · rw [held]
  · rw [drawn]
    rfl

/-- A running port that sends an ACK is ACTIVE. -/
theorem dstate_kxShow_ack (runs : unitRuns s 9 = true) (sends : s.kx.wire = .ack) (busy : s.kx.free = false) : dstate (kxShow s) 9 = 1 := by
  rw [unitRuns, Bool.and_eq_true, beq_iff_eq, decide_eq_true_iff] at runs
  obtain ⟨enabled, calm⟩ := runs
  have counted : Keeps (At .KX_STATE 0) s (kxCounted s) := (Keeps.refl s).wr (by decide) _
  have mgmt1 : mgmt (kxCounted s) 9 = 1 := (counted.mgmt (u := 9) rfl).trans enabled
  have calm1 : dstate (kxCounted s) 9 ≤ 1 := (counted.dstate (u := 9) rfl).trans_le calm
  have drained : kxDrained s = kxCounted s := if_neg fun h => absurd h.1 (by omega)
  have wire : (kxCounted s).kx.wire = .ack := sends
  rw [kxShow_busy busy, kxFollowed, drained, mgmt1, wire, follow, if_pos calm1, dstate_setData _ 9 (by cases (kxCounted s).kx.held.isEmpty <;> decide)]
  cases (kxCounted s).kx.held.isEmpty <;> rfl

/-! ## A start bit, and a frame heard -/

/-- Every address but that of KX_STAT. -/
abbrev NotKxStat : Nat → Prop := (· ≠ regAddr .KX_STAT 0)

/-- No attempt waits for its ACK: nothing is spoilt (R888). -/
theorem kxSpoil_none (none : s.kx.ackWin = none) (early : Bool) : kxSpoil s early = s := by
  rw [kxSpoil, none]

/-- The LONE list emptied. -/
def kxEmptied (s : State) : State := setKx s { s.kx with lone := [] }

/-- The end of LONE: its flags, its event, its source. -/
def loneEnded (s : State) : State := raise (count (wb (wb s .KX_STAT 0 0 false) .KX_STAT 0 6 true) .serial 0x80) .serial 88

/-- Every held frame starts again after LONE, and no BEACON is due. -/
def loneLeft (s : State) : State := kxRestart (stopTimer (setKx s { s.kx with bcnDue := false }) tmrBeacon)

theorem kxHeard_eq (s : State) : kxHeard s = if kxLone (kxEmptied s) then loneLeft (loneEnded (kxEmptied s)) else kxEmptied s := rfl

theorem loneEnded_shows (s : State) : Shows s (loneEnded s) := (((((Shows.refl s).wb ..).wb ..).count (by decide) _).raise (by decide) _)

theorem kxHeard_kx (s : State) : ∃ h d b, (kxHeard s).kx = { s.kx with lone := [], held := h, drawn := d, bcnDue := b } := by
  rw [kxHeard_eq]
  split
  · refine ⟨(loneEnded (kxEmptied s)).kx.held.map fun f => { f with tries := 0 }, none, false, ?_⟩
    have left (w : State) : (loneLeft w).kx = { w.kx with bcnDue := false, held := w.kx.held.map fun f => { f with tries := 0 }, drawn := none } := rfl
    rw [left, (loneEnded_shows (kxEmptied s)).kx, kxEmptied]
    rfl
  · exact ⟨s.kx.held, s.kx.drawn, s.kx.bcnDue, rfl⟩

theorem Keeps.loneLeft (h : Keeps A s t) : Keeps A s (loneLeft t) := ((h.setKx _).stopTimer tmrBeacon).setKx _

theorem Keeps.kxHeard (h : Keeps A s t) (stat : ¬ A (regAddr .KX_STAT 0)) : Keeps A s (kxHeard t) := by
  have emptied : Keeps A s (kxEmptied t) := h.setKx _
  have ended : Keeps A s (loneEnded (kxEmptied t)) :=
    (((emptied.wb stat 0 false).wb stat 6 true).count (by decide) 0x80).raise (by decide) 88
  rw [kxHeard_eq]
  exact ite ended.loneLeft emptied

/-- A frame heard ends LONE (R894). -/
theorem kxLone_kxHeard (s : State) : kxLone (kxHeard s) = false := by
  rw [kxHeard_eq]
  split
  next lone =>
    let v := wb (wb (kxEmptied s) .KX_STAT 0 0 false) .KX_STAT 0 6 true
    have over_ : Keeps (At .KX_STAT 0) v (loneLeft (loneEnded (kxEmptied s))) :=
      (((Keeps.refl v).count (by decide) 0x80).raise (by decide) 88).loneLeft
    refine (over_.rb rfl 0).trans ?_
    rw [rb_wb_other _ _ _ _ _ _ (by decide) (by decide)]
    exact rb_wb_same _ _ _ _ _ (by decide)
  next alone => exact Bool.eq_false_iff.2 alone

/-! ## A failed attempt (R888, R890, R893) -/

theorem Keeps.kxComplete (h : Keeps A s t) (f : KxFrame) (status done : Nat) : Keeps A s (kxComplete t f status done) :=
  ((h.setKx _).report (by decide) 22 3 1 1).unitComplete ..

theorem kxComplete_kx (s : State) (f : KxFrame) (status done : Nat) :
    (kxComplete s f status done).kx = { s.kx with held := s.kx.held.filter fun g => !(g.idx == f.idx) } :=
  ((Shows.refl (setKx s { s.kx with held := s.kx.held.filter fun g => !(g.idx == f.idx) })).report (i := .serial) (by decide) 22 3 1 1).kx

theorem kxComplete_posts (s : State) (f : KxFrame) (status done : Nat) : Posts s (kxComplete s f status done) := by
  have left : Posts s (setKx s { s.kx with held := s.kx.held.filter fun g => !(g.idx == f.idx) }) := (Posts.refl s).part rfl
  have reported : Posts s (report (setKx s { s.kx with held := s.kx.held.filter fun g => !(g.idx == f.idx) }) .serial 22 3 1 1) := left.send ..
  exact reported.unitComplete ..

/-- The LONE list after a NOACK completion to a destination (R893). -/
def loneAfter (s : State) (dst : Nat) : List (Nat × Nat) := ((kxAge s).filter fun e => !(e.1 == dst)) ++ [(dst, s.time)]

def loneListed (s : State) (dst : Nat) : State := setKx s { s.kx with lone := (loneAfter s dst).drop ((loneAfter s dst).length - 3) }

/-- LONE begins (R895). -/
def loneBegun (s : State) : State :=
  let s2 := wb (wb s .KX_STAT 0 0 true) .KX_STAT 0 5 true
  startTimer (raise (count s2 .serial 0x7F) .serial 88) tmrBeacon (msTicks (atLeast1 (rn s2 .KX_LONEBCN 0)))

theorem kxNoack_eq (s : State) (dst : Nat) : kxNoack s dst =
    if mgmt s 9 ≠ 1 then s
    else if (loneAfter s dst).length = 3 ∧ rb (loneListed s dst) .KX_CFG 0 3 ∧ kxLone (loneListed s dst) = false then loneBegun (loneListed s dst)
    else loneListed s dst := rfl

theorem loneBegun_tells (s : State) : Tells s (loneBegun s) := by
  have raised : Tells s (raise (count (wb (wb s .KX_STAT 0 0 true) .KX_STAT 0 5 true) .serial 0x7F) .serial 88) :=
    ((((Tells.refl s).wb ..).wb ..).count (by decide) _).raise (by decide) _
  exact raised.startTimer ..

theorem kxNoack_kx (s : State) (dst : Nat) : ∃ l, (kxNoack s dst).kx = { s.kx with lone := l } := by
  rw [kxNoack_eq]
  split
  · exact ⟨s.kx.lone, rfl⟩
  · split
    · exact ⟨_, (loneBegun_tells _).kx⟩
    · exact ⟨_, rfl⟩

theorem Keeps.kxNoack (h : Keeps A s t) (stat : ¬ A (regAddr .KX_STAT 0)) (dst : Nat) : Keeps A s (kxNoack t dst) := by
  have listed : Keeps A s (loneListed t dst) := h.setKx _
  have raised : Keeps A s (Machine.raise (Machine.count (Machine.wb (Machine.wb (loneListed t dst) .KX_STAT 0 0 true) .KX_STAT 0 5 true) .serial 0x7F) .serial 88) :=
    (((listed.wb stat 0 true).wb stat 5 true).count (by decide) 0x7F).raise (by decide) 88
  have begun : Keeps A s (loneBegun (loneListed t dst)) := raised.startTimer ..
  rw [kxNoack_eq]
  exact ite h (ite begun listed)

theorem kxNoack_posts (s : State) (dst : Nat) : Posts s (kxNoack s dst) := by
  have listed : Posts s (loneListed s dst) := (Posts.refl s).part rfl
  have flagged : Posts s (wb (wb (loneListed s dst) .KX_STAT 0 0 true) .KX_STAT 0 5 true) := listed.part rfl
  have raised : Posts s (raise (count (wb (wb (loneListed s dst) .KX_STAT 0 0 true) .KX_STAT 0 5 true) .serial 0x7F) .serial 88) :=
    (flagged.count (by decide) 0x7F).raise (by decide) 88
  have begun : Posts s (loneBegun (loneListed s dst)) := raised.part rfl
  rw [kxNoack_eq]
  exact .ite (.refl s) (.ite begun listed)

/-- The ACK window closed. -/
def winClosed (s : State) : State := setKx s { s.kx with ackWin := none }

/-- A frame given up without an ACK, before the LONE list is told. -/
def gaveUpAck (s : State) (f : KxFrame) : State :=
  wr (raise (count (kxComplete s f 9 0) .serial 0x7B) .serial 87) .KX_LASTNA 0 (BitVec.ofNat 32 f.dst)

theorem kxAckFail_missing {i : Nat} (none : kxFind (winClosed s) i = none) : kxAckFail s i = winClosed s := by
  unfold winClosed at none
  dsimp only at none
  unfold kxAckFail
  dsimp only
  rw [none] <;> rfl

theorem kxAckFail_found {i : Nat} {f : KxFrame} (found : kxFind (winClosed s) i = some f) :
    kxAckFail s i = if kxAgain (winClosed s) f then count (winClosed s) .serial 0x7A else kxNoack (gaveUpAck (winClosed s) f) f.dst := by
  unfold winClosed at found
  dsimp only at found
  unfold kxAckFail
  dsimp only
  rw [found] <;> rfl

theorem gaveUpAck_shows (s : State) (f : KxFrame) : Shows (kxComplete s f 9 0) (gaveUpAck s f) :=
  (((Shows.refl _).count (i := .serial) (by decide) _).raise (i := .serial) (by decide) _).wr ..

/-- A failed attempt is of the window, the frames held and the LONE list. -/
theorem kxAckFail_kx (s : State) (i : Nat) : ∃ a h l, (kxAckFail s i).kx = { s.kx with ackWin := a, held := h, lone := l } := by
  cases found : kxFind (winClosed s) i with
  | none =>
    rw [kxAckFail_missing found]
    exact ⟨none, s.kx.held, s.kx.lone, rfl⟩
  | some f =>
    rw [kxAckFail_found found]
    split
    · exact ⟨none, s.kx.held, s.kx.lone, ((Shows.refl (winClosed s)).count (i := .serial) (by decide) 0x7A).kx⟩
    · obtain ⟨l, listed⟩ := kxNoack_kx (gaveUpAck (winClosed s) f) f.dst
      refine ⟨none, (winClosed s).kx.held.filter fun g => !(g.idx == f.idx), l, ?_⟩
      rw [listed, (gaveUpAck_shows ..).kx, kxComplete_kx]
      rfl

theorem Keeps.kxAckFail (h : Keeps A s t) (stat : ¬ A (regAddr .KX_STAT 0)) (last : ¬ A (regAddr .KX_LASTNA 0)) (i : Nat) :
    Keeps A s (kxAckFail t i) := by
  have closed : Keeps A s (winClosed t) := h.setKx _
  cases found : kxFind (winClosed t) i with
  | none =>
    rwa [kxAckFail_missing found]
  | some f =>
    have given : Keeps A s (gaveUpAck (winClosed t) f) := (((closed.kxComplete f 9 0).count (by decide) 0x7B).raise (by decide) 87).wr last _
    rw [kxAckFail_found found]
    exact ite (closed.count (by decide) 0x7A) (given.kxNoack stat f.dst)

theorem kxAckFail_posts (s : State) (i : Nat) : Posts s (kxAckFail s i) := by
  have closed : Posts s (winClosed s) := (Posts.refl s).part rfl
  cases found : kxFind (winClosed s) i with
  | none =>
    rwa [kxAckFail_missing found]
  | some f =>
    have raised : Posts s (raise (count (kxComplete (winClosed s) f 9 0) .serial 0x7B) .serial 87) :=
      ((closed.trans (kxComplete_posts ..)).count (by decide) 0x7B).raise (by decide) 87
    have given : Posts s (gaveUpAck (winClosed s) f) := raised.wr ..
    rw [kxAckFail_found found]
    exact .ite (closed.count (by decide) 0x7A) (given.trans (kxNoack_posts ..))

theorem kxSpoil_waits {i : Nat} (waits : s.kx.ackWin = some i) (early : Bool) :
    kxSpoil s early = kxAckFail (count s .serial (if early then 0x7D else 0x7E)) i := by
  rw [kxSpoil, waits]

/-- Spoiling is of the window, the frames held and the LONE list (R888). -/
theorem kxSpoil_kx (s : State) (early : Bool) : ∃ a h l, (kxSpoil s early).kx = { s.kx with ackWin := a, held := h, lone := l } := by
  cases waits : s.kx.ackWin with
  | none => exact ⟨none, s.kx.held, s.kx.lone, by rw [kxSpoil_none waits, ← waits]⟩
  | some i =>
    obtain ⟨a, h, l, failed⟩ := kxAckFail_kx (count s .serial (if early then 0x7D else 0x7E)) i
    exact ⟨a, h, l, by rw [kxSpoil_waits waits, failed, ((Shows.refl s).count (by decide) _).kx]⟩

theorem Keeps.kxSpoil (h : Keeps A s t) (stat : ¬ A (regAddr .KX_STAT 0)) (last : ¬ A (regAddr .KX_LASTNA 0)) (early : Bool) :
    Keeps A s (kxSpoil t early) := by
  cases waits : t.kx.ackWin with
  | none => rwa [kxSpoil_none waits]
  | some i =>
    rw [kxSpoil_waits waits]
    exact (h.count (by decide) _).kxAckFail stat last i

theorem kxSpoil_posts (s : State) (early : Bool) : Posts s (kxSpoil s early) := by
  cases waits : s.kx.ackWin with
  | none =>
    rw [kxSpoil_none waits]
    exact .refl s
  | some i =>
    rw [kxSpoil_waits waits]
    exact ((Posts.refl s).count (by decide) _).trans (kxAckFail_posts ..)

end Sys2Proof.Proofs
end

section
/-! # Chapter 17: receiving (R869, R893, R894, R901-R905) -/
namespace Sys2Proof.Proofs
open Sys2Proof.Machine Sys2Proof.Laws

variable {s t u : State} {A : Nat → Prop} {bs : List Byte}

/-! ## What a frame's checks find -/

/-- A frame heard: the bus is busy, the LONE list empty, and no register but KX_STAT differs. -/
theorem frameHeard_effects (s : State) : let u := kxHeard (kxBusy s)
    (∃ h d b, u.kx = { s.kx with free := false, lone := [], held := h, drawn := d, bcnDue := b }) ∧ Keeps NotKxStat s u ∧ kxLone u = false := by
  obtain ⟨h, d, b, kx⟩ := kxHeard_kx (kxBusy s)
  exact ⟨⟨h, d, b, kx⟩, ((Keeps.refl s).setKx _).kxHeard fun apart => apart rfl, kxLone_kxHeard _⟩

theorem kxHearing_on (pin : connected s .kxRx = true) (on : rb s .KX_CTL 0 0 = true) : kxHearing s = true := by
  rw [kxHearing, pin, on]
  rfl

/-- With no attempt waiting, a frame whose CRC and length are right reaches the store (R875). -/
theorem kxData_good (hears : kxHearing s = true) (calm : s.kx.ackWin = none) (crc : kxCrcOk bs = true) (short : (bs.getD 3 0).toNat ≤ 64)
    (long : bs.length = 6 + (bs.getD 3 0).toNat) (early : Bool) : kxData s bs false early = kxStore (kxHeard (kxBusy s)) bs := by
  have spoilt : kxSpoil (kxBusy s) early = kxBusy s := kxSpoil_none (s := kxBusy s) calm early
  have fits : ¬ ((bs.getD 3 0).toNat > 64 ∨ bs.length ≠ 6 + (bs.getD 3 0).toNat) := by omega
  rw [kxData, if_neg (ne_false_of_eq_true hears)]
  dsimp only
  rw [spoilt, if_neg Bool.false_ne_true, if_neg (ne_false_of_eq_true crc), if_neg fits]

theorem kxData_malformed (hears : kxHearing s = true) (calm : s.kx.ackWin = none) (early : Bool) : kxData s bs true early = kxBusy s := by
  have spoilt : kxSpoil (kxBusy s) early = kxBusy s := kxSpoil_none (s := kxBusy s) calm early
  rw [kxData, if_neg (ne_false_of_eq_true hears)]
  dsimp only
  rw [spoilt, if_pos rfl]

theorem kxBeacon_good (hears : kxHearing s = true) (calm : s.kx.ackWin = none) (crc : kxCrcOk bs = true) (early : Bool) :
    kxBeacon s bs early = kxHeard (kxBusy s) := by
  have spoilt : kxSpoil (kxBusy s) early = kxBusy s := kxSpoil_none (s := kxBusy s) calm early
  rw [kxBeacon, if_neg (ne_false_of_eq_true hears)]
  dsimp only
  rw [spoilt, if_pos crc]

/-! ## What the store makes of a frame (R901-R904) -/

/-- Source and SEQ of a frame, and its bytes without the CRC. -/
def frameSrc (bs : List Byte) : Nat := (bs.getD 1 0).toNat
def frameSeq (bs : List Byte) : Nat := (bs.getD 2 0).toNat % 16
def frameBody (bs : List Byte) : List Byte := bs.take (bs.length - 2)

/-- A frame staged. -/
def staged (s : State) (f : KxStage) : State := setKx s { s.kx with staging := s.kx.staging ++ [f] }

/-- A unicast frame staged, which becomes the last one accepted from its source (R904). -/
def stagedFrom (s : State) (bs : List Byte) : State := setKx s { s.kx with
  staging := s.kx.staging ++ [⟨frameBody bs, 0⟩], dup := mset (fun _ => none) s.kx.dup (frameSrc bs) (some (frameSeq bs, s.time)) }

theorem kxStore_full (on : rb s .KX_CTL 0 0 = true) (taken : (bs.getD 0 0).toNat = kxAddr s ∨ (bs.getD 0 0).toNat = 0xFF)
    (full : 2 ≤ s.kx.staging.length) : kxStore s bs = raise (count (wb s .KX_STAT 0 7 true) .serial 0x85) .serial 86 := by
  rw [kxStore]
  dsimp only
  rw [if_neg, if_pos full]
  rintro (off | ⟨other, one, -⟩)
  · exact ne_false_of_eq_true on off
  · exact taken.elim (beq_eq_false_iff_ne.1 other) (beq_eq_false_iff_ne.1 one)

theorem kxStore_mine (on : rb s .KX_CTL 0 0 = true) (mine : (bs.getD 0 0).toNat = kxAddr s) (room : s.kx.staging.length < 2) :
    kxStore s bs = if kxIsDup s (frameSrc bs) (frameSeq bs) then kxOwe (count s .serial 0x86) (frameSrc bs) (frameSeq bs)
      else kxOwe (stagedFrom s bs) (frameSrc bs) (frameSeq bs) := by
  have own : ((bs.getD 0 0).toNat == kxAddr s) = true := beq_iff_eq.2 mine
  rw [kxStore]
  dsimp only
  rw [own, if_neg, if_neg (Nat.not_le.2 room), if_pos rfl]
  · rfl
  · rintro (off | ⟨other, -⟩)
    · exact ne_false_of_eq_true on off
    · exact Bool.noConfusion other

theorem kxStore_broadcast (on : rb s .KX_CTL 0 0 = true) (all : (bs.getD 0 0).toNat = 0xFF) (other : kxAddr s ≠ 0xFF)
    (room : s.kx.staging.length < 2) : kxStore s bs = staged s ⟨frameBody bs, 1⟩ := by
  have foreign : ((bs.getD 0 0).toNat == kxAddr s) = false := beq_eq_false_iff_ne.2 (by rw [all]; exact other.symm)
  have every : ((bs.getD 0 0).toNat == 0xFF) = true := beq_iff_eq.2 all
  rw [kxStore]
  dsimp only
  rw [foreign, every, if_neg, if_neg (Nat.not_le.2 room), if_neg Bool.false_ne_true, if_pos rfl]
  · rfl
  · rintro (off | ⟨-, one, -⟩)
    · exact ne_false_of_eq_true on off
    · exact Bool.noConfusion one

theorem kxOwe_owed (sound : dstate s 9 ≠ 3) (src seq : Nat) : kxOwe s src seq = setKx s { s.kx with ackOwed := some (src, seq) } := if_neg sound

/-! ## The delivery of a staged frame (R905) -/

/-- A staged frame on its way to the entry held, and its slot free. -/
def stageSent (s : State) (x : Slot) (f : KxStage) (rest : List KxStage) : State :=
  let s1 := unitSend s x.chan x.e.idx x.e.frags 0 f.bytes
  setKx s1 { s1.kx with staging := rest }

theorem kxDeliver_held {f : KxStage} {rest : List KxStage} {x : Slot} (waits : s.kx.staging = f :: rest) (held : slotOf s 14 = some x) :
    kxDeliver s = slotComplete (stageSent s x f rest) 14 0 f.bytes.length f.cflags := by
  rw [kxDeliver, waits, held] <;> rfl

theorem kxDeliver_effects {f : KxStage} {rest : List KxStage} {x : Slot} (waits : s.kx.staging = f :: rest) (held : slotOf s 14 = some x) :
    let t := kxDeliver s
    t.kx.staging = rest ∧ slotOf t 14 = none ∧ xwaitOf t 15 = xwaitOf (unitSend s x.chan x.e.idx x.e.frags 0 f.bytes) 15 ++
      [.ringDone x.chan x.e.idx 0 (f.bytes.length % 65536) f.cflags] ∧ Keeps Nowhere s t := by
  have sent : Ends s (unitSend s x.chan x.e.idx x.e.frags 0 f.bytes) := (Ends.refl s).unitSend ..
  have slot : slotOf (unitSend s x.chan x.e.idx x.e.frags 0 f.bytes) 14 = some x := (slotOf_unitSend ..).trans held
  rw [kxDeliver_held waits held, stageSent]
  dsimp only
  generalize unitSend s x.chan x.e.idx x.e.frags 0 f.bytes = v at sent slot
  let w := setKx v { v.kx with staging := rest }
  have ends : Ends w (slotComplete w 14 0 f.bytes.length f.cflags) := (Ends.refl w).slotComplete ..
  have here : slotOf w 14 = some x := slot
  exact ⟨by rw [ends.kx]; rfl, slotOf_slotComplete .., slotComplete_sends here .., (sent.keeps.setKx _).trans ends.keeps⟩

end Sys2Proof.Proofs
end

section
/-! # Chapter 17: receiving, the statement -/
namespace Sys2Proof.Proofs
open Sys2Proof.Machine Sys2Proof.Laws

variable {s t u : State} {A : Nat → Prop} {bs : List Byte}

/-- What a frame that reached the store leaves, once the port is followed. -/
theorem stored_effects (h : Keeps Nowhere s t) (busy : t.kx.free = false) :
    (kxShow t).kx.staging = t.kx.staging ∧ (kxShow t).kx.ackOwed = t.kx.ackOwed ∧ (kxShow t).kx.lone = t.kx.lone ∧ (kxShow t).kx.free = false ∧
      (kxShow t).thr = s.thr ∧ SameMemory s (kxShow t) := by
  obtain ⟨d, kx⟩ := kxShow_kx t
  have kept : Keeps Nowhere s (kxShow t) := h.kxShow id id
  rw [kx]
  exact ⟨rfl, rfl, rfl, busy, kept.thr, kept.memory⟩

/-- A repeat is judged by what was accepted, the time and KX_DUPWIN (R904). -/
theorem kxIsDup_congr (accepted : t.kx.dup = s.kx.dup) (time : t.time = s.time) (window : rd t .KX_DUPWIN 0 = rd s .KX_DUPWIN 0) (src seq : Nat) :
    kxIsDup t src seq = kxIsDup s src seq := by
  rw [kxIsDup, accepted, time, rn, window, ← rn, ← kxIsDup]

/-- Settles O49: every row of receiving is what the port's store makes of the frame, then the state that follows the port. -/
theorem kolnexReceives : Obligations.KolnexReceives := by
  unfold Obligations.KolnexReceives
  intro s bs early live
  dsimp only
  obtain ⟨⟨h, d, b, kx⟩, kept, alone⟩ := frameHeard_effects s
  have kept0 : Keeps Nowhere s (kxHeard (kxBusy s)) := kept.weaken fun _ no => no.elim
  generalize heardState : kxHeard (kxBusy s) = u at kx kept kept0 alone
  have on_ (on : rb s .KX_CTL 0 0 = true) : rb u .KX_CTL 0 0 = true := (kept.rb (by decide) 0).trans on
  have address : kxAddr u = kxAddr s := congrArg BitVec.toNat (kept.rd (r := .KX_ADDR) (i := 0) (by decide))
  have calm_ (sound : dstate s 9 ≠ 3) : dstate u 9 ≠ 3 := by rwa [kept.dstate (u := 9) (by decide)]
  have repeat_ : kxIsDup u (frameSrc bs) (frameSeq bs) = kxIsDup s (frameSrc bs) (frameSeq bs) :=
    kxIsDup_congr (by rw [kx]) kept.time (kept.rd (by decide)) ..
  have reaches (pin : connected s .kxRx = true) (on : rb s .KX_CTL 0 0 = true) (calm : s.kx.ackWin = none) (crc : kxCrcOk bs = true)
      (short : (bs.getD 3 0).toNat ≤ 64) (long : bs.length = 6 + (bs.getD 3 0).toNat) : kxData s bs false early = kxStore u bs := by
    rw [← heardState]
    exact kxData_good (kxHearing_on pin on) calm crc short long early
  have row (malformed : Bool) := liveIn_live live fun s => kxShow (kxData s bs malformed early)
  refine ⟨fun ⟨⟨pin, on, calm, crc⟩, short, long⟩ mine room sound => ⟨fun new => ?new, fun old => ?old⟩,
    fun ⟨⟨pin, on, calm, crc⟩, short, long⟩ all other room => ?broadcast, fun ⟨⟨pin, on, calm, crc⟩, short, long⟩ taken full => ?full,
    fun pin on calm => ?malformed, fun ⟨pin, on, calm, crc⟩ => ?beacon, fun hears => ?gap, fun owed quiet => ?ack, fun f rest x waits held => ?deliver, ?age⟩
  case new =>
    replace new : kxIsDup s (frameSrc bs) (frameSeq bs) = false := new
    have stored : kxStore u bs = kxOwe (stagedFrom u bs) (frameSrc bs) (frameSeq bs) := by
      rw [kxStore_mine (on_ on) (mine.trans address.symm) (by rw [kx]; exact room), repeat_, if_neg (ne_true_of_eq_false new)]
    have owed : kxOwe (stagedFrom u bs) (frameSrc bs) (frameSeq bs) = setKx (stagedFrom u bs) { (stagedFrom u bs).kx with ackOwed := some (frameSrc bs, frameSeq bs) } :=
      kxOwe_owed (s := stagedFrom u bs) (calm_ sound) ..
    obtain ⟨left, owes, lone, -, frame⟩ := stored_effects (t := setKx (stagedFrom u bs) { (stagedFrom u bs).kx with ackOwed := some (frameSrc bs, frameSeq bs) })
      ((kept0.setKx _).setKx _) (congrArg Kx.free kx)
    refine Does.intro ((row false).trans (congrArg _ (congrArg kxShow ((reaches pin on calm crc short long).trans (stored.trans owed))))) ⟨?_, owes, ?_, frame⟩
    · exact left.trans (congrArg (fun k : Kx => k.staging ++ [⟨frameBody bs, 0⟩]) kx)
    · exact lone.trans (congrArg Kx.lone kx)
  case old =>
    replace old : kxIsDup s (frameSrc bs) (frameSeq bs) = true := old
    have counted : (count u .serial 0x86).kx = u.kx := ((Shows.refl u).count (by decide) _).kx
    have same : dstate (count u .serial 0x86) 9 = dstate u 9 :=
      ((Keeps.refl (A := At .KX_STATE 0) u).count (by decide) 0x86).dstate (u := 9) rfl
    have stored : kxStore u bs = kxOwe (count u .serial 0x86) (frameSrc bs) (frameSeq bs) := by
      rw [kxStore_mine (on_ on) (mine.trans address.symm) (by rw [kx]; exact room), repeat_, if_pos old]
    have owed : kxOwe (count u .serial 0x86) (frameSrc bs) (frameSeq bs) =
        setKx (count u .serial 0x86) { (count u .serial 0x86).kx with ackOwed := some (frameSrc bs, frameSeq bs) } :=
      kxOwe_owed (by rw [same]; exact calm_ sound) ..
    rw [counted, kx] at owed
    obtain ⟨left, owes, lone, -, frame⟩ := stored_effects (t := setKx (count u .serial 0x86) _) ((kept0.count (by decide) 0x86).setKx
      { s.kx with free := false, lone := [], held := h, drawn := d, bcnDue := b, ackOwed := some (frameSrc bs, frameSeq bs) }) rfl
    refine Does.intro ((row false).trans (congrArg _ (congrArg kxShow ((reaches pin on calm crc short long).trans (stored.trans owed))))) ⟨left, owes, lone, ?_, frame⟩
    refine (kxShow_posts _).stay (((Posts.refl (count u .serial 0x86)).part (u := setKx _ _) rfl).stay ?_)
    rw [count_send (by decide)]
    exact mem_send ..
  case broadcast =>
    have stored : kxStore u bs = staged u ⟨frameBody bs, 1⟩ :=
      kxStore_broadcast (on_ on) all (by rw [address]; exact other) (by rw [kx]; exact room)
    obtain ⟨left, owes, -, -, frame⟩ := stored_effects (t := staged u ⟨frameBody bs, 1⟩) (kept0.setKx _) (congrArg Kx.free kx)
    refine Does.intro ((row false).trans (congrArg _ (congrArg kxShow ((reaches pin on calm crc short long).trans stored)))) ⟨?_, ?_, frame⟩
    · exact left.trans (congrArg (fun k : Kx => k.staging ++ [⟨frameBody bs, 1⟩]) kx)
    · exact owes.trans (congrArg Kx.ackOwed kx :)
  case full =>
    have stored : kxStore u bs = raise (count (wb u .KX_STAT 0 7 true) .serial 0x85) .serial 86 :=
      kxStore_full (on_ on) (by rwa [address]) (by rw [kx]; exact full)
    have shown : Shows u (raise (count (wb u .KX_STAT 0 7 true) .serial 0x85) .serial 86) :=
      (((Shows.refl u).wb ..).count (by decide) _).raise (by decide) _
    have flag : Keeps (At .KX_STAT 0) (wb u .KX_STAT 0 7 true) (kxShow (raise (count (wb u .KX_STAT 0 7 true) .serial 0x85) .serial 86)) :=
      (((Keeps.refl _).count (by decide) 0x85).raise (by decide) 86).kxShow (by decide) (by decide)
    obtain ⟨left, owes, -, -, frame⟩ := stored_effects (t := raise (count (wb u .KX_STAT 0 7 true) .serial 0x85) .serial 86)
      (((kept0.wb id 7 true).count (by decide) 0x85).raise (by decide) 86) (by rw [shown.kx, kx])
    rw [shown.kx, kx] at left owes
    refine Does.intro ((row false).trans (congrArg _ (congrArg kxShow ((reaches pin on calm crc short long).trans stored))))
      ⟨(flag.rb rfl 7).trans (rb_wb_same _ _ _ _ _ (by decide)), left, owes, (kxShow_posts _).stay ?_, frame⟩
    rw [raise_send (by decide)]
    exact mem_send ..
  case malformed =>
    obtain ⟨left, owes, lone, free, frame⟩ := stored_effects (t := kxBusy s) ((Keeps.refl s).setKx _) rfl
    exact Does.intro ((row true).trans (congrArg _ (congrArg kxShow (kxData_malformed (kxHearing_on pin on) calm early)))) ⟨left, owes, free, lone, frame⟩
  case beacon =>
    obtain ⟨left, -, lone, free, frame⟩ := stored_effects (t := u) kept0 (by rw [kx])
    rw [kx] at left lone
    refine Does.intro ((liveIn_live live fun s => kxShow (kxBeacon s bs early)).trans (congrArg _ (congrArg kxShow
      ((kxBeacon_good (kxHearing_on pin on) calm crc early).trans heardState)))) ⟨lone, ?_, left, free, frame⟩
    exact (((Keeps.refl u).kxShow (A := At .KX_STAT 0) (by decide) (by decide)).rb rfl 0).trans alone
  case gap =>
    let v := count (kxBusy s) .serial 0x84
    have counted : v.kx = (kxBusy s).kx := ((Shows.refl (kxBusy s)).count (by decide) _).kx
    obtain ⟨win, held, lone, spoilt⟩ := kxSpoil_kx v false
    rw [counted] at spoilt
    have kept : Keeps Nowhere s (kxSpoil v false) := (((Keeps.refl s).setKx _).count (by decide) 0x84).kxSpoil id id false
    obtain ⟨left, -, -, free, frame⟩ := stored_effects kept (by rw [spoilt]; rfl)
    rw [spoilt] at left
    refine Does.intro ((liveIn_live live fun s => if kxHearing s then kxShow (kxSpoil (count (kxBusy s) .serial 0x84) false) else s).trans
      (congrArg _ (if_pos hears))) ⟨free, left, (kxShow_posts _).stay ((kxSpoil_posts v false).stay ?_), frame⟩
    have sent : v = send (kxBusy s) 5 (.count 0x84 1) := count_send (by decide) ..
    rw [sent]
    exact mem_send ..
  case ack =>
    let v := kxBusy (setKx s { s.kx with ackOwed := none, wire := .ack })
    have sends : (s.kx.ackOwed.isSome && s.kx.wire == .quiet) = true := by
      rw [Option.isSome_iff_ne_none.2 owed, quiet]
      rfl
    have kept : Keeps (At .KX_STATE 0) s v := ((Keeps.refl s).setKx _).setKx _
    obtain ⟨d, kx⟩ := kxShow_kx v
    obtain ⟨-, owes, -, free, frame⟩ := stored_effects (t := v) (((Keeps.refl s).setKx _).setKx _) rfl
    refine Does.intro ((liveIn_live live fun s => if s.kx.ackOwed.isSome && s.kx.wire == .quiet then
      kxShow (kxBusy (setKx s { s.kx with ackOwed := none, wire := .ack })) else s).trans (congrArg _ (if_pos sends)))
      ⟨congrArg Kx.wire kx, owes, free, fun runs => dstate_kxShow_ack (s := v) ?_ rfl rfl, (congrArg Kx.held kx :), frame⟩
    rw [unitRuns, kept.mgmt (u := 9) rfl, kept.dstate (u := 9) rfl, ← unitRuns]
    exact runs
  case deliver =>
    obtain ⟨left, empty, sent, kept⟩ := kxDeliver_effects waits held
    obtain ⟨d, kx⟩ := kxShow_kx (kxDeliver s)
    exact Does.intro (liveIn_live live fun s => kxShow (kxDeliver s))
      ⟨(congrArg Kx.staging kx).trans left, (slotOf_kxShow ..).trans empty, Eq.trans (kxShow_still _) sent, (kept.kxShow id id).frame⟩
  case age =>
    let v := setKx s { s.kx with lone := kxAge s }
    obtain ⟨d, kx⟩ := kxShow_kx v
    have kept : Keeps Nowhere s v := (Keeps.refl s).setKx _
    refine Does.intro (liveIn_live live fun s => kxShow (setKx s { s.kx with lone := kxAge s })) ⟨congrArg Kx.lone kx, ?_, (congrArg Kx.held kx :), (kept.kxShow id id).frame⟩
    rw [congrArg Kx.lone kx]
    exact nacnt_kxShow v

end Sys2Proof.Proofs
end

section
/-!
SUPPORT. The serial flash port (chapter 19): settings that take effect (R1012), what shows the queue (R984), and the moves of an entry.
-/
namespace Sys2Proof.Proofs
open Sys2Proof.Machine Sys2Proof.Laws

variable {s t u : State} {A : Nat → Prop} {x : Slot} {n : Nat} {data : List Byte}

/-! ## Entries and the system -/

theorem LeavesSystem.ends (h : LeavesSystem s t) (k : Ends t u) : LeavesSystem s u :=
  h.trans ⟨k.others.trans (by rw [k.others]), fun d a _ => by rw [k.io]⟩

theorem LeavesSystem.cache (h : LeavesSystem s t) : t.cache = s.cache := by rw [h.others]

theorem LeavesSystem.linkFrame (h : LeavesSystem s t) : t.thr = s.thr ∧ t.near = s.near ∧ t.iram = s.iram :=
  ⟨h.thr, h.sameMemory.1, h.sameMemory.2.2.1⟩

/-! ## Settings written while their select is in use (R1012) -/

/-- One setting taken. -/
def cfgTaken (s : State) (e : Nat × Option Quad) : State := match e.2 with
  | some v => if e.1 < 4 then wr s .SPI_CSCFG e.1 v else wr s .SPI_WINCFG 0 ((v &&& ~~~9) ||| (rd s .SPI_WINCFG 0 &&& 9))
  | none => s

/-- Every setting that waits taken. -/
def cfgsTaken (s : State) : State := s.spi.pendCfg.foldl cfgTaken s

theorem spiApply_eq (s : State) : spiApply s =
    if s.spi.fill.isSome ∨ s.spi.tr.isSome then s else setSpi (cfgsTaken s) { (cfgsTaken s).spi with pendCfg := [] } := rfl

/-- No address of a select's settings or of the window's is of `A`. -/
def NoSetting (A : Nat → Prop) : Prop := ¬ A (regAddr .SPI_WINCFG 0) ∧ ∀ k, k < 4 → ¬ A (regAddr .SPI_CSCFG k)

theorem cfgsTaken_shows (s : State) : Shows s (cfgsTaken s) :=
  (Shows.refl s).foldl fun u e hu => by
    unfold cfgTaken
    split
    · exact .ite (hu.wr ..) (hu.wr ..)
    · exact hu

theorem cfgsTaken_xwait (s : State) : (cfgsTaken s).xwait = s.xwait := by
  unfold cfgsTaken
  refine List.foldlRecOn s.spi.pendCfg cfgTaken (motive := fun u => u.xwait = s.xwait) rfl fun u hu e _ => ?_
  unfold cfgTaken
  split
  · split <;> exact hu
  · exact hu

theorem Keeps.cfgsTaken (h : Keeps A s t) (apart : NoSetting A) : Keeps A s (cfgsTaken t) :=
  h.foldl fun u e hu => by
    unfold cfgTaken
    split
    · split
      next low => exact hu.wr (apart.2 _ low) _
      next => exact hu.wr apart.1 _
    · exact hu

theorem Keeps.spiApply (h : Keeps A s t) (apart : NoSetting A) : Keeps A s (spiApply t) := by
  rw [spiApply_eq]
  exact ite h ((h.cfgsTaken apart).setSpi _)

theorem spiApply_spi (s : State) : ∃ c, (spiApply s).spi = { s.spi with pendCfg := c } := by
  rw [spiApply_eq]
  split
  · exact ⟨s.spi.pendCfg, rfl⟩
  · exact ⟨[], by rw [← (cfgsTaken_shows s).spi]; rfl⟩

theorem spiApply_xwait (s : State) : (spiApply s).xwait = s.xwait := by
  rw [spiApply_eq]
  split
  · rfl
  · exact cfgsTaken_xwait s

theorem slotOf_spiApply (s : State) (v : Nat) : slotOf (spiApply s) v = slotOf s v := by
  rw [spiApply_eq]
  split
  · rfl
  · exact (cfgsTaken_shows s).slotOf v

theorem timerOn_spiApply (s : State) (k : Nat) : timerOn (spiApply s) k = timerOn s k := by
  rw [spiApply_eq]
  split
  · rfl
  · exact (cfgsTaken_shows s).timerOn k

/-- No setting of the port is a register of the system. -/
theorem noSetting_system : NoSetting SystemAddr := by
  constructor
  · decide
  · intro k low inside
    simp only [SystemAddr, regAddr, regInfo] at inside
    omega

theorem LeavesSystem.spiApply (h : LeavesSystem s t) : LeavesSystem s (spiApply t) := by
  rw [spiApply_eq]
  refine ite h (setSpi (h.foldl fun u e hu => ?_) _)
  unfold cfgTaken
  split
  · split
    next low => exact hu.wr (noSetting_system.2 _ low) _
    next => exact hu.wr noSetting_system.1 _
  · exact hu

/-! ## What shows the queue (R984) -/

/-- QBUSY and FILL shown. -/
def spiFlags (s : State) : State := wb (wb s .SPI_STAT 0 0 (spiBusy s)) .SPI_STAT 0 1 s.spi.fill.isSome

theorem spiShow_eq (s : State) :
    spiShow s = if rb s .SPI_STAT 0 0 && !(spiBusy s) && !(spiPosted (spiFlags s)) then raise (spiFlags s) .serial 90 else spiFlags s := rfl

theorem spiShow_shows (s : State) : Shows s (spiShow s) := by
  have shown : Shows s (spiFlags s) := ((Shows.refl s).wb ..).wb ..
  rw [spiShow_eq]
  exact .ite (shown.raise (by decide) 90) shown

theorem spiShow_still (s : State) : Still 15 s (spiShow s) := by
  have shown : Still 15 s (spiFlags s) := ((Still.refl s).wb ..).wb ..
  rw [spiShow_eq]
  exact .ite (shown.raise (by decide) (by decide) 90) shown

theorem spiShow_posts (s : State) : Posts s (spiShow s) := by
  have shown : Posts s (spiFlags s) := (Posts.refl s).part rfl
  rw [spiShow_eq]
  exact .ite (shown.raise (by decide) 90) shown

/-- While the port has an entry or a transaction, no source rises. -/
theorem spiShow_working (busy : spiBusy s = true) : spiShow s = spiFlags s := by
  rw [spiShow_eq, busy, Bool.not_true, Bool.and_false, Bool.false_and, if_neg Bool.false_ne_true]

theorem Keeps.spiShow (h : Keeps A s t) (apart : ¬ A (regAddr .SPI_STAT 0)) : Keeps A s (spiShow t) := by
  have shown : Keeps A s (spiFlags t) := (h.wb apart ..).wb apart ..
  rw [spiShow_eq]
  exact ite (shown.raise (by decide) 90) shown

/-- SPI_STAT under it: the two bits shown, the others as they were. -/
theorem stat_spiShow (s : State) (b : Nat) : rb (spiShow s) .SPI_STAT 0 b = rb (spiFlags s) .SPI_STAT 0 b := by
  rw [spiShow_eq]
  exact (Keeps.ite (A := At .SPI_STAT 0) ((Keeps.refl _).raise (by decide) 90) (Keeps.refl _)).rb rfl b

theorem qbusy_spiShow (s : State) : rb (spiShow s) .SPI_STAT 0 0 = spiBusy s := by
  rw [stat_spiShow, spiFlags, rb_wb_other _ _ _ _ _ _ (by decide) (by decide)]
  exact rb_wb_same _ _ _ _ _ (by decide)

theorem filling_spiShow (s : State) : rb (spiShow s) .SPI_STAT 0 1 = s.spi.fill.isSome := by
  rw [stat_spiShow, spiFlags]
  exact rb_wb_same _ _ _ _ _ (by decide)

theorem statHigh_spiShow (s : State) {b : Nat} (high : 2 ≤ b) (low : b < 32) : rb (spiShow s) .SPI_STAT 0 b = rb s .SPI_STAT 0 b := by
  rw [stat_spiShow, spiFlags, rb_wb_other _ _ _ _ _ _ (by omega) (by omega), rb_wb_other _ _ _ _ _ _ (by omega) (by omega)]

/-! ## Moves of the entry in progress (R976, R980) -/

/-- An entry with `n` more bytes moved. -/
def moreMoved (x : Slot) (n : Nat) : Slot := { x with moved := x.moved + n }

/-- What an entry receives, in the order of the lines. -/
def receivedBytes (x : Slot) (n : Nat) (data : List Byte) : List Byte := wordOrder (wordSize x.e) n ((data ++ List.replicate n 0).take n)

/-- A move of `n` bytes of the entry held, which was `x`: its count rises, the timers and the transaction stay. -/
structure Moved (s t : State) (x : Slot) (n : Nat) : Prop where
  held : slotOf t 15 = some (moreMoved x n)
  system : LeavesSystem s t
  timers : t.timers = s.timers
  io : t.io = s.io
  begun : t.spi.begun = s.spi.begun
  tr : t.spi.tr = s.spi.tr

theorem spiMove_dummy (dummy : entryDummy x.e = true) : spiMove s x n data = setSlot s 15 (some (moreMoved x n)) := if_pos dummy

theorem spiMove_recv (dummy : entryDummy x.e = false) (recv : entryRecv x.e = true) :
    spiMove s x n data = setSlot (unitSend s x.chan x.e.idx x.e.frags x.moved (receivedBytes x n data)) 15 (some (moreMoved x n)) :=
  (if_neg (ne_true_of_eq_false dummy)).trans (if_pos recv)

/-- `n` bytes that have come taken from their stream. -/
def bytesTaken (s : State) (x : Slot) (mv : Mover) (n : Nat) : State :=
  setSlot (setMover s x.chan x.e.idx (some { mv with got := mv.got.drop n, taken := mv.taken + n })) 15 (some (moreMoved x n))

/-- The first bytes of the transaction after `bs` more. -/
def sentMore (s : State) (x : Slot) (bs : List Byte) : State :=
  setSpi s { s.spi with sent := (s.spi.sent ++ wordOrder (wordSize x.e) bs.length bs).take 8 }

theorem spiMove_send {mv : Mover} (dummy : entryDummy x.e = false) (recv : entryRecv x.e = false) (streams : moverOf s x.chan x.e.idx = some mv)
    (come : n ≤ mv.got.length) : spiMove s x n data = moverAsk (sentMore (bytesTaken s x mv n) x (mv.got.take n)) x.chan x.e.idx := by
  have length : (mv.got.take n).length = n := List.length_take_of_le come
  have taken : moverTake s x.chan x.e.idx n =
      (mv.got.take n, false, setMover s x.chan x.e.idx (some { mv with got := mv.got.drop n, taken := mv.taken + n })) := by
    rw [moverTake, streams]
    dsimp only
    rw [length, decide_eq_false (Nat.lt_irrefl n)]
  rw [spiMove, if_neg (ne_true_of_eq_false dummy), if_neg (ne_true_of_eq_false recv), taken]
  dsimp only
  rw [if_neg Bool.false_ne_true, length]
  unfold sentMore
  rw [length]
  rfl

theorem slotOf_moverAsk (s : State) (c i v : Nat) : slotOf (moverAsk s c i) v = slotOf s v := by
  unfold moverAsk
  split
  · rfl
  next m _ =>
    dsimp only
    split
    · rfl
    · exact List.foldlRecOn (motive := fun u => slotOf u v = slotOf s v) _ _ rfl fun u hu _ _ => hu

/-- What `n` bytes of an entry need of its data: none where it sends none, else that they have come (R586). -/
def Movable (s : State) (x : Slot) (n : Nat) : Prop :=
  entryDummy x.e = true ∨ entryRecv x.e = true ∨ ∃ mv, moverOf s x.chan x.e.idx = some mv ∧ n ≤ mv.got.length

/-- The three ways an entry moves bytes, by what moves. -/
theorem Movable.cases (h : Movable s x n) : entryDummy x.e = true ∨ (entryDummy x.e = false ∧ entryRecv x.e = true) ∨
    (entryDummy x.e = false ∧ entryRecv x.e = false ∧ ∃ mv, moverOf s x.chan x.e.idx = some mv ∧ n ≤ mv.got.length) := by
  cases dummy : entryDummy x.e with
  | true => exact .inl rfl
  | false =>
    cases recv : entryRecv x.e with
    | true => exact .inr (.inl ⟨rfl, rfl⟩)
    | false =>
      obtain no | no | come := h
      · exact absurd no (by rw [dummy]; exact Bool.false_ne_true)
      · exact absurd no (by rw [recv]; exact Bool.false_ne_true)
      · exact .inr (.inr ⟨rfl, rfl, come⟩)

theorem spiReach_movable (h : Movable s x n) : spiReach s x n = true := by
  unfold spiReach
  obtain dummy | recv | ⟨mv, streams, come⟩ := h
  · rw [dummy]
    rfl
  · rw [recv, Bool.or_true]
    rfl
  · have has : moverHas s x.chan x.e.idx n = true := by
      rw [moverHas, streams]
      exact (congrArg (· || mv.bad) (decide_eq_true come)).trans (Bool.true_or _)
    rw [has, Bool.or_true]

theorem LeavesSystem.spiDrop (h : LeavesSystem s t) (status : Nat) : LeavesSystem s (spiDrop t status) := ((h.stopTimer _).endSlot 15 status).setSpi _

theorem LeavesSystem.spiMove (h : LeavesSystem s t) (x : Slot) (n : Nat) (data : List Byte) : LeavesSystem s (spiMove t x n data) := by
  have taken := h.moverTake x.chan x.e.idx n
  unfold Machine.spiMove
  exact ite (h.setSlot ..) (ite ((h.unitSend ..).setSlot ..) (ite ((taken.setSlot ..).spiDrop 7).spiApply (((taken.setSlot ..).setSpi _).moverAsk ..)))

/-- What can be moved is moved, and the entry stays (R976, R980). -/
theorem spiMove_moved (h : Movable s x n) (data : List Byte) : Moved s (spiMove s x n data) x n := by
  have system := (LeavesSystem.refl s).spiMove x n data
  obtain dummy | ⟨dummy, recv⟩ | ⟨dummy, recv, mv, streams, come⟩ := h.cases
  · rw [spiMove_dummy dummy] at system ⊢
    exact ⟨slotOf_setSlot .., system, rfl, rfl, rfl, rfl⟩
  · rw [spiMove_recv dummy recv] at system ⊢
    have sent : Ends s (setSlot (unitSend s x.chan x.e.idx x.e.frags x.moved (receivedBytes x n data)) 15 (some (moreMoved x n))) :=
      ((Ends.refl s).unitSend ..).setSlot ..
    exact ⟨slotOf_setSlot .., system, sent.timers, sent.io, by rw [sent.spi], by rw [sent.spi]⟩
  · rw [spiMove_send dummy recv streams come] at system ⊢
    have asked : Ends (sentMore (bytesTaken s x mv n) x (mv.got.take n)) _ := (Ends.refl _).moverAsk x.chan x.e.idx
    have held : slotOf (bytesTaken s x mv n) 15 = some (moreMoved x n) := slotOf_setSlot ..
    exact ⟨(slotOf_moverAsk ..).trans held, system, asked.timers, asked.io, by rw [asked.spi]; rfl, by rw [asked.spi]; rfl⟩

/-- Nothing is moved. -/
theorem Moved.none (held : slotOf s 15 = some x) : Moved s s x 0 := ⟨held, .refl s, rfl, rfl, rfl, rfl⟩

end Sys2Proof.Proofs
end

section
/-! # Chapter 19: the queue (R978-R982, R985, R986, R988, R989) -/
namespace Sys2Proof.Proofs
open Sys2Proof.Machine Sys2Proof.Laws

variable {s t u : State} {A : Nat → Prop} {x : Slot} {n : Nat} {data : List Byte}

theorem LeavesSystem.slotComplete (h : LeavesSystem s t) (v status done cflags : Nat) : LeavesSystem s (slotComplete t v status done cflags) :=
  h.ends ((Ends.refl t).slotComplete ..)

theorem LeavesSystem.spiWait (h : LeavesSystem s t) (cs : Nat) : LeavesSystem s (spiWait t cs) := ite (h.startTimer ..) h

/-- The completion of the queue's entry is the last transfer to FABRIC. -/
theorem slotComplete_last (held : slotOf s 15 = some x) (status done cflags : Nat) :
    (xwaitOf (slotComplete s 15 status done cflags) 15).getLast? = some (.ringDone x.chan x.e.idx status (done % 65536) cflags) := by
  have sent : xwaitOf (slotComplete s 15 status done cflags) 15 = xwaitOf s 15 ++ [.ringDone x.chan x.e.idx status (done % 65536) cflags] :=
    slotComplete_sends (v := 15) held ..
  rw [sent, List.getLast?_concat]

/-! ## Entries begin (R978, R979, R989) -/

/-- The port may take the entry it holds. -/
structure MayStart (s : State) (x : Slot) : Prop where
  held : slotOf s 15 = some x
  fresh : s.spi.begun = false
  load : rb s .SPI_STAT 0 2 = false
  fill : s.spi.fill = none
  turn : fillReady s = false
  phase : hoPhase s 4 = 0

theorem MayStart.open_ (h : MayStart s x) : ¬ (s.spi.begun = true ∨ rb s .SPI_STAT 0 2 = true ∨ s.spi.fill.isSome = true ∨ fillReady s = true ∨ hoPhase s 4 ≠ 0) := by
  rw [h.fresh, h.load, h.fill, h.turn]
  simp [h.phase]

/-- An entry that begins: its select and SEL, and nothing moved. -/
def begins (s : State) (x : Slot) : Spi :=
  { s.spi with tr := some (entryCs x.e, entrySel x.e), begun := true, inRow := 0, sent := if s.spi.tr.isSome then s.spi.sent else [] }

theorem spiStart_broken (h : MayStart s x) (broken : rb s .SPI_STAT 0 3 = true) :
    spiStart s = slotComplete (count (wb s .SPI_STAT 0 3 (entryCont x.e)) .serial 0x92) 15 0x81 0 0 := by
  rw [spiStart, h.held]
  exact (if_neg h.open_).trans (if_pos broken)

theorem spiStart_badForm (h : MayStart s x) (whole : rb s .SPI_STAT 0 3 = false) (bad : spiBadForm x.e s.spi.tr = true) :
    spiStart s = slotComplete s 15 0x84 0 0 := by
  rw [spiStart, h.held]
  exact (if_neg h.open_).trans ((if_neg (ne_true_of_eq_false whole)).trans (if_pos bad))

theorem spiStart_begins (h : MayStart s x) (whole : rb s .SPI_STAT 0 3 = false) (good : spiBadForm x.e s.spi.tr = false) :
    spiStart s = spiWait (setSpi (stopTimer s tmrChain) (begins s x)) (entryCs x.e) := by
  rw [spiStart, h.held]
  exact (if_neg h.open_).trans ((if_neg (ne_true_of_eq_false whole)).trans (if_neg (ne_true_of_eq_false good)))

theorem started_broken (h : MayStart s x) (broken : rb s .SPI_STAT 0 3 = true) : let t := spiShow (spiStart s)
    slotOf t 15 = none ∧ (xwaitOf t 15).getLast? = some (.ringDone x.chan x.e.idx 0x81 (0 % 65536) 0) ∧ rb t .SPI_STAT 0 3 = entryCont x.e ∧ LeavesSystem s t := by
  let v := count (wb s .SPI_STAT 0 3 (entryCont x.e)) .serial 0x92
  have shown : Shows s v := ((Shows.refl s).wb ..).count (by decide) _
  have flag : Keeps (At .SPI_STAT 0) (wb s .SPI_STAT 0 3 (entryCont x.e)) (slotComplete v 15 0x81 0 0) :=
    ((Keeps.refl _).count (by decide) 0x92).slotComplete ..
  have system : LeavesSystem s v := ((LeavesSystem.refl s).wb (by decide) ..).count ..
  rw [spiStart_broken h broken]
  refine ⟨((spiShow_shows _).slotOf 15).trans (slotOf_slotComplete ..), ?_, ?_, (system.slotComplete ..).spiShow⟩
  · rw [spiShow_still]
    exact slotComplete_last ((shown.slotOf 15).trans h.held) ..
  · rw [statHigh_spiShow _ (by decide) (by decide), flag.rb rfl]
    exact rb_wb_same _ _ _ _ _ (by decide)

theorem started_badForm (h : MayStart s x) (whole : rb s .SPI_STAT 0 3 = false) (bad : spiBadForm x.e s.spi.tr = true) : let t := spiShow (spiStart s)
    slotOf t 15 = none ∧ (xwaitOf t 15).getLast? = some (.ringDone x.chan x.e.idx 0x84 (0 % 65536) 0) ∧ t.spi = s.spi ∧ LeavesSystem s t := by
  rw [spiStart_badForm h whole bad]
  refine ⟨((spiShow_shows _).slotOf 15).trans (slotOf_slotComplete ..), ?_, ?_, ((LeavesSystem.refl s).slotComplete ..).spiShow⟩
  · rw [spiShow_still]
    exact slotComplete_last h.held ..
  · rw [(spiShow_shows _).spi, ((Ends.refl s).slotComplete ..).spi]

/-- A wait for READY is of that timer alone. -/
theorem spiWait_timed (s : State) (cs : Nat) : spiWait s cs = startTimer s tmrReady (strMax s) ∨ spiWait s cs = s := by
  unfold spiWait
  split
  · exact .inl rfl
  · exact .inr rfl

theorem started_begins (h : MayStart s x) (whole : rb s .SPI_STAT 0 3 = false) (good : spiBadForm x.e s.spi.tr = false) : let t := spiShow (spiStart s)
    slotOf t 15 = some x ∧ t.spi = begins s x ∧ timerOn t tmrChain = false ∧ (rdyEn s (entryCs x.e) = true → timerOn t tmrReady = true) ∧
      rb t .SPI_STAT 0 0 = true ∧ LeavesSystem s t := by
  let v := setSpi (stopTimer s tmrChain) (begins s x)
  have system : LeavesSystem s v := ((LeavesSystem.refl s).stopTimer _).setSpi _
  have told : Tells v (spiWait v (entryCs x.e)) := .ite ((Tells.refl v).startTimer ..) (Tells.refl v)
  have off : timerOn v tmrChain = false := timerOn_stopTimer s tmrChain
  rw [spiStart_begins h whole good]
  refine ⟨?_, ?_, ?_, fun asks => ?_, ?_, (system.spiWait _).spiShow⟩
  · rw [(spiShow_shows _).slotOf, told.slotOf]
    exact h.held
  · rw [(spiShow_shows _).spi, told.spi]
    rfl
  · rw [(spiShow_shows _).timerOn]
    obtain waits | runs := spiWait_timed v (entryCs x.e)
    · rw [waits, timerOn_startTimer_ne _ _ (by decide)]
      exact off
    · rw [runs]
      exact off
  · have waits : spiWait v (entryCs x.e) = startTimer v tmrReady (strMax v) := if_pos asks
    rw [(spiShow_shows _).timerOn, waits]
    exact timerOn_startTimer ..
  · rw [qbusy_spiShow, spiBusy, told.spi]
    exact Bool.or_true _

/-! ## READY read high (R985) -/

/-- The bytes, or the cycles, of a word that starts. -/
def wordNext (x : Slot) : Nat := if entryDummy x.e then entryLen x.e else min (wordSize x.e) (entryLen x.e - x.moved)

/-- The READY wait after a word, where the entry has more. -/
def waitsOn (s : State) (more : Prop) [Decidable more] : State := if more then startTimer s tmrReady (strMax s) else stopTimer s tmrReady

theorem spiReady_moves (held : slotOf s 15 = some x) (waits : timerOn s tmrReady = true) (load : rb s .SPI_STAT 0 2 = false) (fill : s.spi.fill = none)
    (can : Movable s x (wordNext x)) : spiReady s data = waitsOn (spiMove s x (wordNext x) data) (x.moved + wordNext x < entryLen x.e) := by
  have idle : ¬ (rb s .SPI_STAT 0 2 = true ∨ s.spi.fill.isSome = true) := by
    rw [load, fill]
    decide
  unfold spiReady
  rw [if_neg (ne_false_of_eq_true waits), if_neg idle, held]
  dsimp only
  rw [← wordNext, if_neg (ne_false_of_eq_true (spiReach_movable can)), (spiMove_moved can data).held]
  rfl

theorem readied_effects (h : Moved s u x n) : let t := spiShow (waitsOn u (x.moved + n < entryLen x.e))
    slotOf t 15 = some (moreMoved x n) ∧ timerOn t tmrReady = decide (x.moved + n < entryLen x.e) ∧ t.spi = u.spi ∧ t.xwait = u.xwait ∧ LeavesSystem s t := by
  have told : Tells u (waitsOn u (x.moved + n < entryLen x.e)) := .ite ((Tells.refl u).startTimer ..) ((Tells.refl u).stopTimer _)
  have held : slotOf (waitsOn u (x.moved + n < entryLen x.e)) 15 = some (moreMoved x n) := (told.slotOf 15).trans h.held
  have busy : spiBusy (waitsOn u (x.moved + n < entryLen x.e)) = true := by
    rw [spiBusy, held]
    rfl
  have system : LeavesSystem s (waitsOn u (x.moved + n < entryLen x.e)) := .ite (h.system.startTimer ..) (h.system.stopTimer _)
  have timed : timerOn (waitsOn u (x.moved + n < entryLen x.e)) tmrReady = decide (x.moved + n < entryLen x.e) ∧
      (waitsOn u (x.moved + n < entryLen x.e)).xwait = u.xwait := by
    unfold waitsOn
    split
    next more => exact ⟨(timerOn_startTimer ..).trans (decide_eq_true more).symm, rfl⟩
    next done => exact ⟨(timerOn_stopTimer ..).trans (decide_eq_false done).symm, rfl⟩
  refine ⟨((spiShow_shows _).slotOf 15).trans held, ((spiShow_shows _).timerOn _).trans timed.1, ?_, ?_, system.spiShow⟩
  · rw [(spiShow_shows _).spi, told.spi]
  · rw [spiShow_working busy]
    exact timed.2

/-! ## The end of an entry (R980-R982) -/

/-- The entry completes and its word waits no more. -/
def entryOver (s : State) (x : Slot) : State := stopTimer (slotComplete s 15 0 x.moved 0) tmrReady

/-- What follows the last SCK edge of an entry: its transaction waits for the next, or is over. -/
def afterEntry (s : State) (cont : Bool) : State :=
  if cont then startTimer (setSpi s { s.spi with begun := false }) tmrChain (strMax s) else setSpi s { s.spi with begun := false, tr := none }

theorem spiFinish_ends (held : slotOf s 15 = some x) (begun : s.spi.begun = true) (all : entryLen x.e ≤ x.moved) :
    spiFinish s = afterEntry (entryOver s x) (entryCont x.e) := by
  have over_ : ¬ (s.spi.begun = false ∨ x.moved < entryLen x.e) := by
    rw [begun]
    simpa using all
  rw [spiFinish, held]
  exact if_neg over_

theorem LeavesSystem.afterEntry (h : LeavesSystem s t) (cont : Bool) : LeavesSystem s (afterEntry t cont) := ite ((h.setSpi _).startTimer ..) (h.setSpi _)

theorem LeavesSystem.spiFinish (h : LeavesSystem s t) : LeavesSystem s (spiFinish t) := by
  cases held : slotOf t 15 with
  | none =>
    rwa [Machine.spiFinish, held]
  | some x =>
    have over_ : LeavesSystem s (entryOver t x) := (h.slotComplete ..).stopTimer _
    rw [Machine.spiFinish, held]
    exact ite h (over_.afterEntry (entryCont x.e))

theorem LeavesSystem.spiEntryDone (h : LeavesSystem s t) (data : List Byte) : LeavesSystem s (spiEntryDone t data) := by
  cases held : slotOf t 15 with
  | none =>
    rwa [Machine.spiEntryDone, held]
  | some x =>
    rw [Machine.spiEntryDone, held]
    exact ite h (ite h (h.spiMove x (entryLen x.e - x.moved) data)).spiFinish

/-- What an entry has still to move where no word waits for READY. -/
def lastMoves (s : State) (x : Slot) (data : List Byte) : State := if rdyEn s (entryCs x.e) then s else spiMove s x (entryLen x.e - x.moved) data

theorem spiEntryDone_moves (held : slotOf s 15 = some x) (begun : s.spi.begun = true) (reach : spiReach s x (entryLen x.e - x.moved) = true) :
    spiEntryDone s data = spiFinish (lastMoves s x data) := by
  have goes : ¬ (s.spi.begun = false ∨ spiReach s x (entryLen x.e - x.moved) = false) := by
    rw [begun, reach]
    decide
  rw [spiEntryDone, held]
  exact if_neg goes

theorem afterEntry_parts (s : State) (cont : Bool) : let t := afterEntry s cont
    slotOf t 15 = slotOf s 15 ∧ t.xwait = s.xwait ∧ t.spi.begun = false ∧
      if cont then t.spi.tr = s.spi.tr ∧ timerOn t tmrChain = true else t.spi.tr = none := by
  cases cont with
  | true => exact ⟨rfl, rfl, rfl, rfl, timerOn_startTimer ..⟩
  | false => exact ⟨rfl, rfl, rfl, rfl⟩

theorem entryOver_parts (s : State) (x : Slot) :
    slotOf (entryOver s x) 15 = none ∧ (entryOver s x).xwait = (slotComplete s 15 0 x.moved 0).xwait ∧ (entryOver s x).spi.tr = s.spi.tr :=
  ⟨slotOf_slotComplete .., rfl, congrArg Spi.tr ((Ends.refl s).slotComplete 15 0 x.moved 0).spi⟩

theorem afterEntry_effects (held : slotOf s 15 = some x) : let t := spiShow (spiApply (afterEntry (entryOver s x) (entryCont x.e)))
    slotOf t 15 = none ∧ (xwaitOf t 15).getLast? = some (.ringDone x.chan x.e.idx 0 (x.moved % 65536) 0) ∧ t.spi.begun = false ∧
      if entryCont x.e then t.spi.tr = s.spi.tr ∧ timerOn t tmrChain = true else t.spi.tr = none := by
  obtain ⟨empty0, waits0, tr0⟩ := entryOver_parts s x
  obtain ⟨empty, waits, begun, tr⟩ := afterEntry_parts (entryOver s x) (entryCont x.e)
  rw [tr0] at tr
  generalize afterEntry (entryOver s x) (entryCont x.e) = v at empty waits begun tr
  obtain ⟨c, applied⟩ := spiApply_spi v
  have spi : (spiShow (spiApply v)).spi = { v.spi with pendCfg := c } := (spiShow_shows _).spi.trans applied
  refine ⟨?_, ?_, (congrArg Spi.begun spi).trans begun, ?_⟩
  · rw [(spiShow_shows _).slotOf, slotOf_spiApply]
    exact empty.trans empty0
  · rw [spiShow_still, xwaitOf, spiApply_xwait, waits, waits0, ← xwaitOf]
    exact slotComplete_last held ..
  · have sameTr : (spiShow (spiApply v)).spi.tr = v.spi.tr := (congrArg Spi.tr spi :)
    rw [sameTr, (spiShow_shows _).timerOn, timerOn_spiApply]
    exact tr

end Sys2Proof.Proofs
end

section
/-! # Chapter 19: the ROM's header, timeouts and faults (R163, R982, R986, R988, R1003, R1006) -/
namespace Sys2Proof.Proofs
open Sys2Proof.Machine Sys2Proof.Laws

variable {s t u : State} {A : Nat → Prop} {x : Slot} {n : Nat} {data bs : List Byte}

/-! ## SAFE-hold by the ROM's checks (R163, R170) -/

/-- HOLD and its cause shown. -/
def heldFor (s : State) (cause : Nat) : State := wf (wb (setDev s { s.dev with reload := false }) .PMU_MODE 0 2 true) .PMU_BOOTSTAT 0 3 0 cause

theorem safeHoldBy_eq (s : State) (cause : Nat) : safeHoldBy s cause = statShow (heldFor s cause) := rfl

theorem safeHoldBy_effects (s : State) {cause : Nat} (low : cause < 16) : let t := safeHoldBy s cause
    (rb t .PMU_MODE 0 2 = true ∧ rf t .PMU_BOOTSTAT 0 3 0 = cause) ∧ LeavesSystem (heldFor s cause) t ∧ t.thr = s.thr ∧ SameMemory s t := by
  have shown : LeavesSystem (heldFor s cause) (safeHoldBy s cause) := (LeavesSystem.refl _).statShow
  refine ⟨⟨?_, ?_⟩, shown, shown.thr, shown.sameMemory⟩
  · rw [shown.rb (by decide), heldFor]
    refine (rb_congr (rd_wf_ne _ _ _ _ _ _ _ _ (by decide)) 2).trans ?_
    exact rb_wb_same _ _ _ _ _ (by decide)
  · rw [shown.rf (by decide)]
    exact (rf_wf_same _ _ _ _ (by decide) (by decide)).trans (Nat.mod_eq_of_lt low)

/-- The cause a header that fails a check gives, in a full sequence. -/
def headerBad (s : State) (h : List Byte) : Nat := if magicOk h = false then 2 else if fieldsOk h = false then 3 else if keyOk s h = false then 6 else 0

theorem bootHeader_full (full : s.dev.reload = false) (h : List Byte) :
    bootHeader s h = if headerBad s h = 0 then loadBegin s h else safeHoldBy s (headerBad s h) := by
  rw [bootHeader, full, headerBad]
  simp

theorem headerBad_lt (s : State) (h : List Byte) : headerBad s h < 16 := by
  unfold headerBad
  repeat' split
  all_goals decide

theorem keyOk_congr (same : t.dev = s.dev) (h : List Byte) : keyOk t h = keyOk s h := by rw [keyOk, same, keyOk]

/-! ## The end of a load (R1003, R1006) -/

theorem iramWrite_others (s : State) (a : Nat) (bs : List Byte) : ∃ m, iramWrite s a bs = { s with iram := m } := by
  induction s, a, bs using iramWrite.induct with
  | case1 s a b0 b1 b2 b3 rest ih =>
    obtain ⟨m, written⟩ := ih
    exact ⟨m, by rw [iramWrite, written]⟩
  | case2 bs s a short => exact ⟨s.iram, iramWrite.eq_2 s a bs short⟩

/-- What a load has in IRAM, with HASH also in the message (R1003). -/
def loadHashed (s : State) (bs : List Byte) : State := if rb s .SPI_LDCTL 0 4 then { s with dev := { s.dev with sha := s.dev.sha ++ bs } } else s

def loadTold (s : State) (bs : List Byte) : State := if rb s .SPI_LDCTL 0 4 then raise (loadHashed s bs) .fabric 60 else loadHashed s bs

/-- LDCOUNT, and no load in progress. -/
def loadShown (s : State) (n : Nat) : State := wb (wb (wr s .SPI_LDCOUNT 0 (BitVec.ofNat 32 n)) .SPI_LDCTL 0 1 false) .SPI_STAT 0 2 false

/-- The flags of a load that has ended. -/
def loadFlags (s : State) (err : Bool) : State := wb (if err then wb s .SPI_LDCTL 0 3 true else s) .SPI_LDCTL 0 2 true

/-- The whole words a load has taken in. -/
def loadBytes (s : State) (data : List Byte) : List Byte := data.take (min (data.length / 4 * 4) (rf s .SPI_LDLEN 0 18 0))

theorem spiLoadEnd_loading (loads : rb s .SPI_LDCTL 0 1 = true) (data : List Byte) (err : Bool) :
    spiLoadEnd s data err = stopTimer (loadFlags (loadShown (loadTold (iramWrite s (rn s .SPI_LDIRW 0) (loadBytes s data)) (loadBytes s data))
      (loadBytes s data).length) err) tmrReady := by
  rw [spiLoadEnd, if_neg (ne_false_of_eq_true loads)]
  rfl

theorem loadTold_frame (s : State) (bs : List Byte) :
    (loadTold s bs).thr = s.thr ∧ (loadTold s bs).near = s.near ∧ (loadTold s bs).iram = s.iram ∧ (loadTold s bs).io = s.io := by
  unfold loadTold loadHashed
  split
  · rw [raise_fabric]
    exact ⟨rfl, rfl, rfl, rfl⟩
  · exact ⟨rfl, rfl, rfl, rfl⟩

/-- The flags of a load that has ended: GO clear, DONE set, ERR where it ended in error, LOADING clear. -/
theorem loadFlags_shown (s : State) (n : Nat) (err : Bool) : let t := loadFlags (loadShown s n) err
    rb t .SPI_LDCTL 0 1 = false ∧ rb t .SPI_LDCTL 0 2 = true ∧ (err = true → rb t .SPI_LDCTL 0 3 = true) ∧ rb t .SPI_STAT 0 2 = false ∧
      rd t .SPI_LDCOUNT 0 = BitVec.ofNat 32 n := by
  have over_ : rb (loadShown s n) .SPI_LDCTL 0 1 = false := (rb_wb_ne _ _ _ _ _ _ _ _ (by decide)).trans (rb_wb_same _ _ _ _ _ (by decide))
  have idle : rb (loadShown s n) .SPI_STAT 0 2 = false := rb_wb_same _ _ _ _ _ (by decide)
  have counted : rd (loadShown s n) .SPI_LDCOUNT 0 = BitVec.ofNat 32 n := by
    rw [loadShown, rd_wb_ne _ _ _ _ _ _ _ (by decide), rd_wb_ne _ _ _ _ _ _ _ (by decide), rd_wr_same]
  generalize loadShown s n = v at over_ idle counted
  have other (w : State) (b : Nat) (low : b < 32) (apart : b ≠ 2) : rb (wb w .SPI_LDCTL 0 2 true) .SPI_LDCTL 0 b = rb w .SPI_LDCTL 0 b :=
    rb_wb_other _ _ _ _ _ _ (by decide) apart
  unfold loadFlags
  refine ⟨?_, rb_wb_same _ _ _ _ _ (by decide), fun wrong => ?_, ?_, ?_⟩
  · rw [other _ 1 (by decide) (by decide)]
    split
    · rw [rb_wb_other _ _ _ _ _ _ (by decide) (by decide)]
      exact over_
    · exact over_
  · rw [other _ 3 (by decide) (by decide), if_pos wrong]
    exact rb_wb_same _ _ _ _ _ (by decide)
  · rw [rb_wb_ne _ _ _ _ _ _ _ _ (by decide)]
    split
    · rw [rb_wb_ne _ _ _ _ _ _ _ _ (by decide)]
      exact idle
    · exact idle
  · rw [rd_wb_ne _ _ _ _ _ _ _ (by decide)]
    split
    · rw [rd_wb_ne _ _ _ _ _ _ _ (by decide)]
      exact counted
    · exact counted

theorem loadFlags_tells (s : State) (n : Nat) (err : Bool) : Shows s (loadFlags (loadShown s n) err) := by
  have shown : Shows s (loadShown s n) := (((Shows.refl s).wr ..).wb ..).wb ..
  exact Shows.wb (.ite (shown.wb ..) shown) ..

/-- What a load that ends does to the port and the system (R1003, R1006). -/
theorem spiLoadEnd_effects (loads : rb s .SPI_LDCTL 0 1 = true) (data : List Byte) (err : Bool) : let t := spiLoadEnd s data err
    (rb t .SPI_LDCTL 0 1 = false ∧ rb t .SPI_LDCTL 0 2 = true ∧ (err = true → rb t .SPI_LDCTL 0 3 = true) ∧ rb t .SPI_STAT 0 2 = false ∧
      rd t .SPI_LDCOUNT 0 = BitVec.ofNat 32 (loadBytes s data).length) ∧
    t.iram = (iramWrite s (rn s .SPI_LDIRW 0) (loadBytes s data)).iram ∧ t.thr = s.thr ∧ t.near = s.near := by
  obtain ⟨m, written⟩ := iramWrite_others s (rn s .SPI_LDIRW 0) (loadBytes s data)
  rw [spiLoadEnd_loading loads]
  obtain ⟨threads, near, iram, -⟩ := loadTold_frame (iramWrite s (rn s .SPI_LDIRW 0) (loadBytes s data)) (loadBytes s data)
  generalize loadTold (iramWrite s (rn s .SPI_LDIRW 0) (loadBytes s data)) (loadBytes s data) = v at threads near iram
  have shown := loadFlags_tells v (loadBytes s data).length err
  have flags := loadFlags_shown v (loadBytes s data).length err
  generalize loadFlags (loadShown v (loadBytes s data).length) err = w at shown flags
  have memory := shown.memory
  refine ⟨flags, memory.2.2.1.trans iram, shown.thr.trans (threads.trans ?_), memory.1.trans (near.trans ?_)⟩ <;> rw [written]

/-! ## Loads of the window that wait on a line (R994) -/

/-- Of transfers sent in turn each waits. -/
theorem mem_foldl_send {α : Type} (k : Nat) (f : α → Xfer) {l : List α} {y : α} (listed : y ∈ l) (s : State) :
    f y ∈ xwaitOf (l.foldl (fun s z => send s k (f z)) s) k := by
  induction l generalizing s with
  | nil => cases listed
  | cons z l ih =>
    have later : Posts (send s k (f z)) (l.foldl (fun s z => send s k (f z)) (send s k (f z))) := (Posts.refl _).foldl fun _ _ hu => hu.send ..
    obtain rfl | inside := List.mem_cons.1 listed
    · exact later.stay (mem_send ..)
    · exact ih inside _

theorem answerLine_replies (s : State) {line : Nat} (bs : List Byte) {l : WinLoad} (waits : l ∈ s.spi.waiting) (here : l.byte / 32 = line) :
    .spiReply l.req l.dst (lineBytes l bs) ∈ xwaitOf (answerLine s line bs) 15 := by
  have mine : l ∈ s.spi.waiting.filter fun l => l.byte / 32 == line := List.mem_filter.2 ⟨waits, beq_iff_eq.2 here⟩
  exact mem_foldl_send 15 (fun l => .spiReply l.req l.dst (lineBytes l bs)) mine _

theorem answerLine_ends (s : State) (line : Nat) (bs : List Byte) :
    Ends (setSpi s { s.spi with waiting := s.spi.waiting.filter fun l => !(l.byte / 32 == line) }) (answerLine s line bs) :=
  (Ends.refl _).foldl fun _ _ hu => hu.send ..

/-- Every byte of a line of 0xFF reads 0xFF. -/
theorem lineBytes_erased (l : WinLoad) : lineBytes l (List.replicate 32 0xFF) = List.replicate l.n 0xFF := by
  refine List.eq_replicate_iff.2 ⟨by rw [lineBytes, List.length_map, List.length_range], fun b listed => ?_⟩
  obtain ⟨i, -, rfl⟩ := List.mem_map.1 listed
  rw [List.getD_eq_getElem?_getD, List.getElem?_replicate, if_pos (Nat.mod_lt _ (by decide))]
  rfl

/-! ## Faults (R982, R986, R988) -/

/-- The transaction given up, and the queue stopped. -/
def queueStopped (s : State) : State := setSpi s { s.spi with tr := none, begun := false, stopped := true }

theorem spiFault_eq (s : State) (bit code : Nat) (more : Bool) :
    spiFault s bit code more = raise (count (wb (wb (queueStopped s) .SPI_FAULT 0 bit true) .SPI_STAT 0 3 more) .serial code) .serial 91 := rfl

theorem spiFault_effects (s : State) {bit : Nat} (low : bit < 32) (code : Nat) (more : Bool) : let t := spiFault s bit code more
    rb t .SPI_FAULT 0 bit = true ∧ rb t .SPI_STAT 0 3 = more ∧ .edge 91 ∈ xwaitOf t 5 ∧ LeavesSystem s t ∧ Shows (queueStopped s) t := by
  have told : Keeps Everywhere (wb (wb (queueStopped s) .SPI_FAULT 0 bit true) .SPI_STAT 0 3 more) (spiFault s bit code more) :=
    ((Keeps.refl _).count (by decide) code).raise (by decide) 91
  refine ⟨?_, ?_, ?_, ?_, ?_⟩
  · rw [told.rb trivial]
    exact (rb_wb_ne _ _ _ _ _ _ _ _ (by decide)).trans (rb_wb_same _ _ _ _ _ low)
  · rw [told.rb trivial]
    exact rb_wb_same _ _ _ _ _ (by decide)
  · rw [spiFault_eq, raise_send (by decide)]
    exact mem_send ..
  · exact (((((LeavesSystem.refl s).setSpi _).wb (by decide) bit true).wb (by decide) 3 more).count .serial code).raise .serial 91
  · exact ((((Shows.refl _).wb ..).wb ..).count (by decide) _).raise (by decide) _

/-! ## SPI_FAULT written (R988) -/

/-- The fault bits written with 1 cleared. -/
def faultCleared (s : State) (v : Quad) : State := wr s .SPI_FAULT 0 (rd s .SPI_FAULT 0 &&& ~~~v)

theorem spiFaultWrite_eq (s : State) (v : Quad) : spiFaultWrite s v =
    if rf (faultCleared s v) .SPI_FAULT 0 2 0 = 0 then setSpi (faultCleared s v) { s.spi with stopped := false } else faultCleared s v := rfl

theorem spiFaultWrite_effects (s : State) (v : Quad) : let t := spiFaultWrite s v
    rd t .SPI_FAULT 0 = rd s .SPI_FAULT 0 &&& ~~~v ∧ t.spi = { s.spi with stopped := if rf t .SPI_FAULT 0 2 0 = 0 then false else s.spi.stopped } ∧
      SameIoBut [regAddr .SPI_FAULT 0] s t ∧ SameMemory s t ∧ t.thr = s.thr := by
  have cleared : rd (faultCleared s v) .SPI_FAULT 0 = rd s .SPI_FAULT 0 &&& ~~~v := rd_wr_same ..
  have others : SameIoBut [regAddr .SPI_FAULT 0] s (faultCleared s v) := fun d k apart => mget_wr_io_ne s d _ fun same => apart (by rw [same]; exact List.mem_singleton_self _)
  rw [spiFaultWrite_eq]
  by_cases none : rf (faultCleared s v) .SPI_FAULT 0 2 0 = 0
  · rw [if_pos none]
    refine ⟨cleared, ?_, others, SameMemory.refl s, rfl⟩
    have clear : rf (setSpi (faultCleared s v) { s.spi with stopped := false }) .SPI_FAULT 0 2 0 = 0 := none
    rw [if_pos clear]
    rfl
  · rw [if_neg none]
    exact ⟨cleared, by rw [if_neg none]; rfl, others, SameMemory.refl s, rfl⟩

end Sys2Proof.Proofs
end

section
/-! # Chapter 19: the queue, the statement -/
namespace Sys2Proof.Proofs
open Sys2Proof.Machine Sys2Proof.Laws

variable {s t u : State} {A : Nat → Prop} {x : Slot} {n : Nat} {data bs : List Byte}

theorem noSetting_at {r : Rg} {i : Nat} (window : regAddr .SPI_WINCFG 0 ≠ regAddr r i) (select : ∀ k : Fin 4, regAddr .SPI_CSCFG k ≠ regAddr r i) :
    NoSetting (At r i) := ⟨window, fun k low => select ⟨k, low⟩⟩

/-- What the settings that take effect and what shows the queue leave of a state. -/
structure Settled (s t : State) : Prop where
  slot : ∀ v, slotOf t v = slotOf s v
  fabric : xwaitOf t 15 = xwaitOf s 15
  posts : Posts s t
  timer : ∀ k, timerOn t k = timerOn s k
  spi : ∃ c, t.spi = { s.spi with pendCfg := c }
  cache : t.cache = s.cache
  stat : ∀ b, 2 ≤ b → b < 32 → rb t .SPI_STAT 0 b = rb s .SPI_STAT 0 b
  load : rd t .SPI_LDCTL 0 = rd s .SPI_LDCTL 0
  fault : rd t .SPI_FAULT 0 = rd s .SPI_FAULT 0

theorem spiApply_posts (s : State) : Posts s (spiApply s) := (Posts.refl s).part (spiApply_xwait s)

theorem settled (s : State) : Settled s (spiShow (spiApply s)) where
  slot v := ((spiShow_shows _).slotOf v).trans (slotOf_spiApply s v)
  fabric := by rw [spiShow_still, xwaitOf, spiApply_xwait, ← xwaitOf]
  posts := (spiApply_posts s).trans (spiShow_posts _)
  timer k := ((spiShow_shows _).timerOn k).trans (timerOn_spiApply s k)
  spi := by
    obtain ⟨c, applied⟩ := spiApply_spi s
    exact ⟨c, (spiShow_shows _).spi.trans applied⟩
  cache := by rw [(LeavesSystem.refl s).spiApply.spiShow.cache]
  stat b high low := (statHigh_spiShow _ high low).trans
    (((Keeps.refl s).spiApply (noSetting_at (r := .SPI_STAT) (i := 0) (by decide) (by decide))).rb rfl b)
  load := (((Keeps.refl s).spiApply (noSetting_at (r := .SPI_LDCTL) (i := 0) (by decide) (by decide))).spiShow (by decide)).rd rfl
  fault := (((Keeps.refl s).spiApply (noSetting_at (r := .SPI_FAULT) (i := 0) (by decide) (by decide))).spiShow (by decide)).rd rfl

/-- A READY wait that ends with no READY, as it is carried out (R986). -/
theorem exec_stretchTimeout (live : Live s .serial) (pin : connected s .spiReady = true) (due : timerDue s tmrReady = true) (data : List Byte) :
    exec (.spiStretchTimeout false data) s = .next (spiShow (spiApply (spiStretch (stopTimer s tmrReady) data))) := by
  refine (liveIn_live live fun s => if false && (timerDue s tmrReady || justArmed s tmrReady) then spiShow (spiReady (count s .serial 0x08) data)
    else if connected s .spiReady then expire s .serial tmrReady false fun s => spiShow (spiApply (spiStretch s data)) else s).trans (congrArg _ ?_)
  exact (if_neg Bool.false_ne_true).trans ((if_pos pin).trans (expire_due _ due _))

theorem spiStretch_queue (load : rb s .SPI_STAT 0 2 = false) (fill : s.spi.fill = none) (held : slotOf s 15 = some x) (data : List Byte) :
    spiStretch s data = slotComplete (spiFault s 0 0x90 (entryCont x.e)) 15 0x80 x.moved 0 := by
  rw [spiStretch, if_neg (ne_true_of_eq_false load), fill, held]

/-- A fill given up at READY (R988), before its loads are answered. -/
def fillFailed (s : State) : State := raise (count (wb (setSpi s { s.spi with fill := none }) .SPI_FAULT 0 2 true) .serial 0x93) .serial 91

theorem spiStretch_fill {line : Nat} (load : rb s .SPI_STAT 0 2 = false) (fill : s.spi.fill = some line) (data : List Byte) :
    spiStretch s data = answerLine (fillFailed s) line (List.replicate 32 0xFF) := by
  rw [spiStretch, if_neg (ne_true_of_eq_false load), fill] <;> rfl

theorem spiStretch_load (load : rb s .SPI_STAT 0 2 = true) (data : List Byte) : spiStretch s data = spiLoadEnd s data true := if_pos load

theorem stretched_queue (load : rb s .SPI_STAT 0 2 = false) (fill : s.spi.fill = none) (held : slotOf s 15 = some x) (data : List Byte) :
    let t := spiShow (spiApply (spiStretch s data))
    (slotOf t 15 = none ∧ (xwaitOf t 15).getLast? = some (.ringDone x.chan x.e.idx 0x80 (x.moved % 65536) 0)) ∧ rb t .SPI_FAULT 0 0 = true ∧
      rb t .SPI_STAT 0 3 = entryCont x.e ∧ t.spi.tr = none ∧ t.spi.stopped = true ∧ .edge 91 ∈ xwaitOf t 5 ∧ LeavesSystem s t := by
  rw [spiStretch_queue load fill held]
  obtain ⟨fault, more, told, system, shown⟩ := spiFault_effects s (bit := 0) (by decide) 0x90 (entryCont x.e)
  have here : slotOf (spiFault s 0 0x90 (entryCont x.e)) 15 = some x := (shown.slotOf 15).trans held
  have spi := shown.spi
  generalize spiFault s 0 0x90 (entryCont x.e) = v at fault more told system here spi
  have ended : Ends v (slotComplete v 15 0x80 x.moved 0) := (Ends.refl v).slotComplete ..
  have posts : Posts v (slotComplete v 15 0x80 x.moved 0) := by
    unfold slotComplete
    rw [here]
    exact ((Posts.refl v).part (u := setSlot v 15 none) rfl).unitComplete ..
  have last := slotComplete_last here 0x80 x.moved 0
  have empty := slotOf_slotComplete v 15 0x80 x.moved 0
  have kept : Keeps Everywhere v (slotComplete v 15 0x80 x.moved 0) := (Keeps.refl v).slotComplete ..
  have after_ := system.ends ended
  have same := ended.spi
  generalize slotComplete v 15 0x80 x.moved 0 = w at ended posts last empty kept after_ same
  have end_ := settled w
  obtain ⟨c, final⟩ := end_.spi
  rw [same, spi] at final
  refine ⟨⟨(end_.slot 15).trans empty, by rw [end_.fabric]; exact last⟩, ?_, ?_, congrArg Spi.tr final, congrArg Spi.stopped final,
    end_.posts.stay (posts.stay told), after_.spiApply.spiShow⟩
  · rw [rb_congr end_.fault, kept.rb trivial]
    exact fault
  · rw [end_.stat 3 (by decide) (by decide), kept.rb trivial]
    exact more

theorem stretched_fill {line : Nat} (load : rb s .SPI_STAT 0 2 = false) (fill : s.spi.fill = some line) (data : List Byte) :
    let t := spiShow (spiApply (spiStretch s data))
    t.spi.fill = none ∧ rb t .SPI_FAULT 0 2 = true ∧
      (∀ l, l ∈ s.spi.waiting → l.byte / 32 = line → .spiReply l.req l.dst (List.replicate l.n 0xFF) ∈ xwaitOf t 15) ∧ LeavesSystem s t := by
  rw [spiStretch_fill load fill]
  have shown : Shows (setSpi s { s.spi with fill := none }) (fillFailed s) := ((((Shows.refl _).wb ..).count (by decide) _).raise (by decide) _)
  have system : LeavesSystem s (fillFailed s) := ((((LeavesSystem.refl s).setSpi _).wb (by decide) 2 true).count .serial 0x93).raise .serial 91
  have told : Keeps Everywhere (wb (setSpi s { s.spi with fill := none }) .SPI_FAULT 0 2 true) (fillFailed s) :=
    ((Keeps.refl _).count (by decide) 0x93).raise (by decide) 91
  have fault : rb (fillFailed s) .SPI_FAULT 0 2 = true := (told.rb trivial 2).trans (rb_wb_same _ _ _ _ _ (by decide))
  have spi := shown.spi
  generalize fillFailed s = v at system fault spi
  have answered := answerLine_ends v line (List.replicate 32 0xFF)
  have replies {l : WinLoad} := answerLine_replies v (line := line) (List.replicate 32 0xFF) (l := l)
  have same := answered.spi
  have after_ := (system.setSpi { v.spi with waiting := v.spi.waiting.filter fun l => !(l.byte / 32 == line) }).ends answered
  have flags : rb (answerLine v line (List.replicate 32 0xFF)) .SPI_FAULT 0 2 = true := (answered.keeps (A := Everywhere).rb trivial 2).trans fault
  generalize answerLine v line (List.replicate 32 0xFF) = w at replies same after_ flags
  have end_ := settled w
  obtain ⟨c, final⟩ := end_.spi
  rw [same, setSpi, spi] at final
  refine ⟨congrArg Spi.fill final, by rw [rb_congr end_.fault]; exact flags, fun l waits here => end_.posts.stay ?_, after_.spiApply.spiShow⟩
  rw [← lineBytes_erased]
  exact replies (by rw [spi]; exact waits) here

theorem stretched_load (load : rb s .SPI_STAT 0 2 = true) (loads : rb s .SPI_LDCTL 0 1 = true) (data : List Byte) :
    let t := spiShow (spiApply (spiStretch s data))
    rb t .SPI_LDCTL 0 1 = false ∧ rb t .SPI_LDCTL 0 2 = true ∧ rb t .SPI_LDCTL 0 3 = true ∧ rb t .SPI_STAT 0 2 = false ∧ t.thr = s.thr ∧ t.near = s.near := by
  rw [spiStretch_load load]
  obtain ⟨⟨over_, done, err, idle, -⟩, -, threads, near⟩ := spiLoadEnd_effects loads data true
  generalize spiLoadEnd s data true = w at over_ done err idle threads near
  have end_ := settled w
  have after_ := (LeavesSystem.refl w).spiApply.spiShow
  exact ⟨(rb_congr end_.load 1).trans over_, (rb_congr end_.load 2).trans done, (rb_congr end_.load 3).trans (err rfl),
    (end_.stat 2 (by decide) (by decide)).trans idle, after_.thr.trans threads, after_.sameMemory.1.trans near⟩

/-- What is moved with no byte of the unit's own to send leaves the transaction as it is. -/
theorem spiMove_free (free : entryDummy x.e = true ∨ entryRecv x.e = true) : (spiMove s x n data).spi = s.spi ∧
    (entryDummy x.e = false → (spiMove s x n data).xwait = (unitSend s x.chan x.e.idx x.e.frags x.moved (receivedBytes x n data)).xwait) := by
  cases dummy : entryDummy x.e with
  | true =>
    rw [spiMove_dummy dummy]
    exact ⟨rfl, fun no => Bool.noConfusion no⟩
  | false =>
    have recv : entryRecv x.e = true := free.resolve_left (by rw [dummy]; exact Bool.false_ne_true)
    rw [spiMove_recv dummy recv]
    exact ⟨(((Ends.refl s).unitSend ..).setSlot 15 _).spi, fun _ => rfl⟩

/-- What is sent joins the first bytes of the transaction (R159). -/
theorem spiMove_sent {mv : Mover} (dummy : entryDummy x.e = false) (recv : entryRecv x.e = false) (streams : moverOf s x.chan x.e.idx = some mv)
    (come : n ≤ mv.got.length) :
    (spiMove s x n data).spi = { s.spi with sent := (s.spi.sent ++ wordOrder (wordSize x.e) n (mv.got.take n)).take 8 } := by
  rw [spiMove_send dummy recv streams come, ((Ends.refl _).moverAsk ..).spi, sentMore, List.length_take_of_le come]
  rfl

/-- The last bytes of the entry are moved, or none waits to be (R980, R985). -/
theorem lastMoves_moved (held : slotOf s 15 = some x)
    (can : (rdyEn s (entryCs x.e) = true ∧ entryLen x.e - x.moved = 0) ∨ (rdyEn s (entryCs x.e) = false ∧ Movable s x (entryLen x.e - x.moved))) :
    Moved s (lastMoves s x data) x (entryLen x.e - x.moved) ∧ spiReach s x (entryLen x.e - x.moved) = true := by
  obtain ⟨asks, all⟩ | ⟨free, more⟩ := can
  · rw [lastMoves, if_pos asks, all]
    refine ⟨Moved.none held, ?_⟩
    rw [spiReach, decide_eq_true rfl, Bool.or_true, Bool.true_or]
  · rw [lastMoves, if_neg (ne_true_of_eq_false free)]
    exact ⟨spiMove_moved more data, spiReach_movable more⟩

theorem entryDone_effects (held : slotOf s 15 = some x) (begun : s.spi.begun = true)
    (can : (rdyEn s (entryCs x.e) = true ∧ entryLen x.e - x.moved = 0) ∨ (rdyEn s (entryCs x.e) = false ∧ Movable s x (entryLen x.e - x.moved))) :
    let t := spiShow (spiApply (spiEntryDone s data))
    (slotOf t 15 = none ∧ (xwaitOf t 15).getLast? = some (.ringDone x.chan x.e.idx 0 ((x.moved + (entryLen x.e - x.moved)) % 65536) 0)) ∧ t.spi.begun = false ∧
      if entryCont x.e then t.spi.tr = s.spi.tr ∧ timerOn t tmrChain = true else t.spi.tr = none := by
  obtain ⟨moved, reach⟩ := lastMoves_moved (data := data) held can
  have all : entryLen (moreMoved x (entryLen x.e - x.moved)).e ≤ (moreMoved x (entryLen x.e - x.moved)).moved := by
    show entryLen x.e ≤ x.moved + (entryLen x.e - x.moved)
    omega
  rw [spiEntryDone_moves held begun reach, spiFinish_ends moved.held (moved.begun.trans begun) all]
  obtain ⟨empty, last, over_, tr⟩ := afterEntry_effects moved.held
  rw [moved.tr] at tr
  exact ⟨⟨empty, last⟩, over_, tr⟩

/-- Settles O51: each row is the port's own step, then the settings that take effect and what shows the queue; an entry that moves keeps its slot, one
that ends passes its completion last. -/
theorem spiQueueEffects : Obligations.SpiQueueEffects := by
  unfold Obligations.SpiQueueEffects
  intro s req v data live
  dsimp only
  have started := liveIn_live live fun s => spiShow (spiStart s)
  have readied := liveIn_live live fun s => spiShow (spiReady s data)
  have row := liveIn_live live fun s => if readsHeader s && decide (192 ≤ data.length) then bootHeader (spiShow (spiApply (spiEntryDone s data))) data
    else spiShow (spiApply (spiEntryDone s data))
  have system : LeavesSystem s (spiShow (spiApply (spiEntryDone s data))) := ((LeavesSystem.refl s).spiEntryDone data).spiApply.spiShow
  have checked (header : readsHeader s = true) (long : 192 ≤ data.length) (full : s.dev.reload = false) : exec (.spiEntryDone data) s =
      .next (if headerBad s data = 0 then loadBegin (spiShow (spiApply (spiEntryDone s data))) data
        else safeHoldBy (spiShow (spiApply (spiEntryDone s data))) (headerBad s data)) := by
    have same : headerBad (spiShow (spiApply (spiEntryDone s data))) data = headerBad s data := by
      rw [headerBad, keyOk_congr system.dev, ← headerBad]
    refine (row).trans (congrArg _ ((if_pos ?_).trans ?_))
    · rw [header, decide_eq_true long]
      rfl
    · rw [bootHeader_full (by rw [system.dev]; exact full), same]
  have done (plain : readsHeader s = false ∨ data.length < 192) : exec (.spiEntryDone data) s = .next (spiShow (spiApply (spiEntryDone s data))) := by
    refine (row).trans (congrArg _ (if_neg ?_))
    rw [Bool.and_eq_true, decide_eq_true_iff]
    rintro ⟨header, long⟩
    exact plain.elim (ne_false_of_eq_true header) (Nat.not_lt.2 long)
  refine ⟨fun x held fresh load fill turn phase => ⟨fun broken => ?broken, fun whole bad => ?badForm, fun whole good => ?begins⟩,
    fun x held waits load fill => ⟨fun free => ?receives, fun mv dummy recv streams come => ?sends⟩,
    fun x held begun can plain => ?ends, fun header long full => ⟨fun bad => ?bad, fun good => ?good⟩, fun due => ?tie, fun cut => ?cut,
    fun pin due => ⟨fun x load fill held => ?queue, fun line load fill => ?fill, fun load loads => ?load⟩, fun due => ?chain, fun may => ?clear⟩
  case broken =>
    obtain ⟨empty, last, more, system⟩ := started_broken ⟨held, fresh, load, fill, turn, phase⟩ broken
    exact Does.intro started ⟨⟨empty, last⟩, more, system.linkFrame⟩
  case badForm =>
    obtain ⟨empty, last, same, system⟩ := started_badForm ⟨held, fresh, load, fill, turn, phase⟩ whole bad
    exact Does.intro started ⟨⟨empty, last⟩, same, system.linkFrame⟩
  case begins =>
    obtain ⟨still, spi, chain, ready, busy, system⟩ := started_begins ⟨held, fresh, load, fill, turn, phase⟩ whole good
    exact Does.intro started ⟨still, spi, chain, ready, busy, system.linkFrame⟩
  case receives =>
    have can : Movable s x (wordNext x) := free.elim .inl fun recv => .inr (.inl recv)
    obtain ⟨still, timer, spi, sent, system⟩ := readied_effects (spiMove_moved can data)
    obtain ⟨same, put⟩ := spiMove_free (s := s) (n := wordNext x) (data := data) free
    exact Does.intro (readied.trans (congrArg _ (congrArg spiShow (spiReady_moves held waits load fill can))))
      ⟨still, timer, spi.trans same, fun word => sent.trans (put word), system.linkFrame⟩
  case sends =>
    have can : Movable s x (wordNext x) := .inr (.inr ⟨mv, streams, come⟩)
    obtain ⟨still, timer, spi, -, system⟩ := readied_effects (spiMove_moved can data)
    exact Does.intro (readied.trans (congrArg _ (congrArg spiShow (spiReady_moves held waits load fill can))))
      ⟨still, timer, spi.trans (spiMove_sent dummy recv streams come), system.linkFrame⟩
  case ends =>
    obtain ⟨ended, over_, tr⟩ := entryDone_effects (data := data) held begun can
    exact Does.intro (done plain) ⟨ended, over_, tr, system.linkFrame⟩
  case bad =>
    obtain ⟨held, -, threads, memory⟩ := safeHoldBy_effects (spiShow (spiApply (spiEntryDone s data))) (headerBad_lt s data)
    refine Does.intro ((checked header long full).trans (congrArg _ (if_neg bad))) ⟨held.1, held.2, ?_⟩
    obtain ⟨threads0, near0, iram0⟩ := system.linkFrame
    exact ⟨threads.trans threads0, memory.1.trans near0, memory.2.2.1.trans iram0⟩
  case good =>
    refine Does.intro ((checked header long full).trans (congrArg _ (if_pos good))) ⟨?_, rfl, system.thr⟩
    rw [loadBegin, system.dev]
    rfl
  case tie =>
    have counted : count s .serial 0x08 = send s 5 (.count 0x08 1) := count_send (by decide) ..
    have live' : Live (send s 5 (.count 0x08 1)) .serial := live
    refine (liveIn_live live fun s => if true && (timerDue s tmrReady || justArmed s tmrReady) then spiShow (spiReady (count s .serial 0x08) data)
      else if connected s .spiReady then expire s .serial tmrReady false fun s => spiShow (spiApply (spiStretch s data)) else s).trans ?_
    rw [due, Bool.true_or, Bool.true_and, if_pos rfl, counted]
    exact (liveIn_live live' fun s => spiShow (spiReady s data)).symm
  case cut =>
    refine (liveIn_live live fun s => if false && (timerDue s tmrReady || justArmed s tmrReady) then spiShow (spiReady (count s .serial 0x08) data)
      else if connected s .spiReady then expire s .serial tmrReady false fun s => spiShow (spiApply (spiStretch s data)) else s).trans (congrArg _ ?_)
    exact (if_neg Bool.false_ne_true).trans (if_neg (ne_true_of_eq_false cut))
  case queue =>
    obtain ⟨ended, fault, more, tr, stopped, told, system⟩ := stretched_queue (s := stopTimer s tmrReady) load fill held data
    exact Does.intro (exec_stretchTimeout live pin due data) ⟨ended, fault, more, tr, stopped, told, system.linkFrame⟩
  case fill =>
    obtain ⟨free, fault, replies, system⟩ := stretched_fill (s := stopTimer s tmrReady) load fill data
    exact Does.intro (exec_stretchTimeout live pin due data) ⟨free, fault, replies, system.linkFrame⟩
  case load => exact Does.intro (exec_stretchTimeout live pin due data) (stretched_load (s := stopTimer s tmrReady) load loads data)
  case chain =>
    obtain ⟨fault, more, told, system, shown⟩ := spiFault_effects (stopTimer s tmrChain) (bit := 1) (by decide) 0x91 true
    have end_ := settled (spiFault (stopTimer s tmrChain) 1 0x91 true)
    obtain ⟨c, final⟩ := end_.spi
    rw [shown.spi] at final
    have after_ := system.spiApply.spiShow
    refine Does.intro ((liveIn_live live fun s => expire s .serial tmrChain false fun s => spiShow (spiApply (spiFault s 1 0x91 true))).trans
      (congrArg _ (expire_due _ due _))) ⟨(rb_congr end_.fault 1).trans fault, (end_.stat 3 (by decide) (by decide)).trans more,
        congrArg Spi.tr final, congrArg Spi.stopped final, end_.posts.stay told, after_.sameMemory, after_.thr⟩
  case clear => exact Does.intro (writeReg_taken may fun s => spiFaultWrite s (BitVec.ofNat 32 v.toNat)) (spiFaultWrite_effects s _)

end Sys2Proof.Proofs
end

section
/-! # Chapter 19: the read window and the load of IRAM (R991-R994, R996, R998, R1000, R1002, R1003) -/
namespace Sys2Proof.Proofs
open Sys2Proof.Machine Sys2Proof.Laws

variable {s t u : State} {A : Nat → Prop} {l : WinLoad} {data bs : List Byte}

theorem LeavesSystem.windowFrame (h : LeavesSystem s t) : t.thr = s.thr ∧ t.near = s.near ∧ t.iram = s.iram ∧ t.far = s.far :=
  ⟨h.thr, h.sameMemory.1, h.sameMemory.2.2.1, by rw [h.others]⟩

/-! ## A load of the window (R991, R992, R994, R1000) -/

/-- The oldest captured load taken. -/
def loadTaken (s : State) (rest : List WinLoad) : State := setSpi s { s.spi with inLoads := rest }

theorem spiLookup_off {rest : List WinLoad} (waits : s.spi.inLoads = l :: rest) (off : rb s .SPI_WINCFG 0 0 = false) :
    spiLookup s = send (send (loadTaken s rest) 5 (.count 0x94 1)) 15 (.spiReply l.req l.dst (List.replicate l.n 0xFF)) := by
  have counted : count (loadTaken s rest) .serial 0x94 = send (loadTaken s rest) 5 (.count 0x94 1) := count_send (by decide) ..
  have off' : rb (loadTaken s rest) .SPI_WINCFG 0 0 = false := off
  rw [← counted, spiLookup, waits]
  exact if_pos off'

theorem spiLookup_hit {rest : List WinLoad} {c : CacheLine} (waits : s.spi.inLoads = l :: rest) (on : rb s .SPI_WINCFG 0 0 = true)
    (hit : cacheLine s (l.byte / 32) = some c) : spiLookup s =
      send (cacheTouch (wr (loadTaken s rest) .SPI_HITS 0 (rd s .SPI_HITS 0 + 1)) c) 15 (.spiReply l.req l.dst (lineBytes l c.bytes)) := by
  have on' : ¬ rb (loadTaken s rest) .SPI_WINCFG 0 0 = false := ne_false_of_eq_true on
  have hit' : cacheLine (loadTaken s rest) (l.byte / 32) = some c := hit
  rw [spiLookup, waits]
  refine (if_neg on').trans ?_
  unfold loadTaken at hit'
  rw [hit'] <;> rfl

/-- A line asked for by a fill, in progress or waiting. -/
def lineKnown (s : State) (line : Nat) : Bool := s.spi.fill == some line || s.spi.misses.any fun m => m.1 == line

theorem spiLookup_miss {rest : List WinLoad} (waits : s.spi.inLoads = l :: rest) (on : rb s .SPI_WINCFG 0 0 = true)
    (miss : cacheLine s (l.byte / 32) = none) : spiLookup s = setSpi s { s.spi with
      inLoads := rest, waiting := s.spi.waiting ++ [l],
      misses := if lineKnown s (l.byte / 32) then s.spi.misses else s.spi.misses ++ [(l.byte / 32, false)] } := by
  have on' : ¬ rb (loadTaken s rest) .SPI_WINCFG 0 0 = false := ne_false_of_eq_true on
  have miss' : cacheLine (loadTaken s rest) (l.byte / 32) = none := miss
  rw [spiLookup, waits]
  refine (if_neg on').trans ?_
  unfold loadTaken at miss'
  rw [miss'] <;> rfl

/-- A miss has its line among those that are filled or wait to be (R994). -/
theorem line_asked (s : State) (line : Nat) : s.spi.fill = some line ∨
    ∃ q, (line, q) ∈ if lineKnown s line then s.spi.misses else s.spi.misses ++ [(line, false)] := by
  cases known : lineKnown s line with
  | false => exact .inr ⟨false, by rw [if_neg Bool.false_ne_true]; exact List.mem_append_right _ (List.mem_singleton_self _)⟩
  | true =>
    rw [lineKnown, Bool.or_eq_true, beq_iff_eq, List.any_eq_true] at known
    obtain filling | ⟨⟨line', q⟩, listed, same⟩ := known
    · exact .inl filling
    · rw [if_pos rfl]
      exact .inr ⟨q, (beq_iff_eq.1 same) ▸ listed⟩

/-! ## Fills (R993, R996, R998) -/

/-- The oldest miss becomes the fill in progress. -/
def fillTaken (s : State) (m : Nat × Bool) (rest : List (Nat × Bool)) : State :=
  setSpi s { s.spi with misses := rest, fill := some m.1, keep := true, inRow := if (slotOf s 15).isSome then s.spi.inRow + 1 else 0 }

/-- The fill counted, unless it was before (R993). -/
def fillCounted (s : State) (again : Bool) : State := if again then s else count (wr s .SPI_MISSES 0 (rd s .SPI_MISSES 0 + 1)) .serial 0x95

theorem spiFillStart_starts {m : Nat × Bool} {rest : List (Nat × Bool)} (waits : s.spi.misses = m :: rest) (ready : fillReady s = true)
    (idle : s.spi.begun = false) :
    spiFillStart s = spiWait (fillCounted (fillTaken s m rest) m.2) (winCs (fillCounted (fillTaken s m rest) m.2)) := by
  have goes : ¬ (fillReady s = false ∨ s.spi.begun = true) := by
    rw [ready, idle]
    decide
  rw [spiFillStart, waits]
  exact if_neg goes

theorem spiFillStart_waits (waits : fillReady s = false) : spiFillStart s = s := by
  unfold spiFillStart
  split
  · rfl
  · exact if_pos (.inl waits)

theorem fillCounted_shows (s : State) (again : Bool) : Shows s (fillCounted s again) :=
  .ite (Shows.refl s) (((Shows.refl s).wr ..).count (i := .serial) (by decide) _)

theorem misses_fillCounted (s : State) (again : Bool) :
    rd (fillCounted s again) .SPI_MISSES 0 = if again then rd s .SPI_MISSES 0 else rd s .SPI_MISSES 0 + 1 := by
  cases again with
  | true => rfl
  | false =>
    have kept : Keeps (At .SPI_MISSES 0) (wr s .SPI_MISSES 0 (rd s .SPI_MISSES 0 + 1)) (fillCounted s false) :=
      (Keeps.refl _).count (i := .serial) (by decide) 0x95
    exact (kept.rd rfl).trans (rd_wr_same ..)

theorem fillStarted_effects {m : Nat × Bool} {rest : List (Nat × Bool)} (waits : s.spi.misses = m :: rest) (ready : fillReady s = true)
    (idle : s.spi.begun = false) : let t := spiShow (spiFillStart s)
    t.spi.fill = some m.1 ∧ t.spi.misses = rest ∧ t.spi.keep = true ∧ rb t .SPI_STAT 0 1 = true ∧
      rd t .SPI_MISSES 0 = (if m.2 then rd s .SPI_MISSES 0 else rd s .SPI_MISSES 0 + 1) ∧ LeavesSystem s t := by
  rw [spiFillStart_starts waits ready idle]
  have counted := misses_fillCounted (fillTaken s m rest) m.2
  have spi := (fillCounted_shows (fillTaken s m rest) m.2).spi
  have taken : LeavesSystem s (fillTaken s m rest) := (LeavesSystem.refl s).setSpi _
  have system : LeavesSystem s (fillCounted (fillTaken s m rest) m.2) := .ite taken ((taken.wr (by decide) _).count .serial 0x95)
  generalize fillCounted (fillTaken s m rest) m.2 = v at counted spi system
  have told : Tells v (spiWait v (winCs v)) := .ite ((Tells.refl v).startTimer ..) (Tells.refl v)
  have kept : Keeps (At .SPI_MISSES 0) v (spiShow (spiWait v (winCs v))) :=
    Keeps.spiShow (.ite ((Keeps.refl v).startTimer ..) (Keeps.refl v)) (by decide)
  have final : (spiShow (spiWait v (winCs v))).spi = (fillTaken s m rest).spi := ((spiShow_shows _).spi.trans told.spi).trans spi
  refine ⟨congrArg Spi.fill final, congrArg Spi.misses final, congrArg Spi.keep final, ?_, (kept.rd rfl).trans counted, (system.spiWait _).spiShow⟩
  rw [filling_spiShow, told.spi, spi]
  rfl

/-- The line in the cache, where it is kept. -/
def lineCached (s : State) (line : Nat) (bs : List Byte) : State := if s.spi.keep then
    cacheFill (stopTimer (setSpi s { s.spi with fill := none }) tmrReady) ⟨line, bs⟩
  else stopTimer (setSpi s { s.spi with fill := none }) tmrReady

theorem spiFillDone_filled {line : Nat} (fill : s.spi.fill = some line) (whole : data.length = 32) :
    spiFillDone s data = answerLine (lineCached s line data) line data := by
  have bytes : (data ++ List.replicate 32 0).take 32 = data := by rw [← whole, List.take_left']; exact rfl
  rw [spiFillDone, fill]
  dsimp only
  rw [bytes]
  rfl

theorem lineCached_parts (s : State) (line : Nat) (bs : List Byte) : let t := lineCached s line bs
    t.spi = { s.spi with fill := none } ∧ (if s.spi.keep then cacheLine t line = some ⟨line, bs⟩ else t.cache = s.cache) ∧
      (t.thr = s.thr ∧ t.near = s.near ∧ t.iram = s.iram ∧ t.far = s.far) := by
  unfold lineCached
  cases keep : s.spi.keep with
  | true =>
    rw [if_pos rfl]
    dsimp only
    rw [if_pos rfl]
    exact ⟨rfl, List.find?_cons_of_pos (beq_self_eq_true _), rfl, rfl, rfl, rfl⟩
  | false =>
    rw [if_neg Bool.false_ne_true]
    dsimp only
    rw [if_neg Bool.false_ne_true]
    exact ⟨rfl, rfl, rfl, rfl, rfl, rfl⟩

theorem filled_effects {line : Nat} (fill : s.spi.fill = some line) (whole : data.length = 32) : let t := spiShow (spiApply (spiFillDone s data))
    t.spi.fill = none ∧ rb t .SPI_STAT 0 1 = false ∧
      (∀ l, l ∈ s.spi.waiting → l.byte / 32 = line → .spiReply l.req l.dst (lineBytes l data) ∈ xwaitOf t 15) ∧
      t.spi.waiting = s.spi.waiting.filter (fun l => !(l.byte / 32 == line)) ∧
      (if s.spi.keep then cacheLine t line = some ⟨line, data⟩ else t.cache = s.cache) ∧
      (t.thr = s.thr ∧ t.near = s.near ∧ t.iram = s.iram ∧ t.far = s.far) := by
  rw [spiFillDone_filled fill whole]
  obtain ⟨spi, cached, threads, near, iram, far⟩ := lineCached_parts s line data
  generalize lineCached s line data = v at spi cached threads near iram far
  have answered := answerLine_ends v line data
  have replies {l : WinLoad} := answerLine_replies v (line := line) data (l := l)
  have same := answered.spi
  have system : LeavesSystem v (answerLine v line data) :=
    ((LeavesSystem.refl v).setSpi { v.spi with waiting := v.spi.waiting.filter fun l => !(l.byte / 32 == line) }).ends answered
  generalize answerLine v line data = w at replies same system
  have end_ := settled w
  obtain ⟨c, final⟩ := end_.spi
  rw [same, setSpi, spi] at final
  obtain ⟨threads', near', iram', far'⟩ := system.spiApply.spiShow.windowFrame
  have sameCache : (spiShow (spiApply w)).cache = v.cache := end_.cache.trans system.cache
  obtain ⟨c', applied⟩ := spiApply_spi w
  refine ⟨congrArg Spi.fill final, ?_, fun l waits here => end_.posts.stay (replies (by rw [spi]; exact waits) here), congrArg Spi.waiting final, ?_,
    threads'.trans threads, near'.trans near, iram'.trans iram, far'.trans far⟩
  · rw [filling_spiShow, applied, same, setSpi, spi]
    rfl
  · rw [cacheLine, sameCache, ← cacheLine]
    exact cached

end Sys2Proof.Proofs
end

section
/-! # Chapter 19: the load of IRAM and the ROM's image (R163, R1002, R1003) -/
namespace Sys2Proof.Proofs
open Sys2Proof.Machine Sys2Proof.Laws

variable {s t u : State} {A : Nat → Prop} {data bs : List Byte}

/-! ## GO (R1002) -/

/-- The load that LDLEN and LDIRW describe lies in IRAM and is of whole words. -/
def loadFits (s : State) : Prop := rf s .SPI_LDLEN 0 18 0 % 4 = 0 ∧ 4 ≤ rf s .SPI_LDLEN 0 18 0 ∧ rf s .SPI_LDLEN 0 18 0 ≤ 262144 ∧
  rn s .SPI_LDIRW 0 + rf s .SPI_LDLEN 0 18 0 / 4 ≤ 65536

/-- GO taken. -/
def loadGone (s : State) : State := wb (wb (wr s .SPI_LDCOUNT 0 0) .SPI_LDCTL 0 1 true) .SPI_STAT 0 2 true

theorem spiLoadGo_goes (sleeps : rf s .PMU_MODE 0 1 0 = 0) (idle : rb s .SPI_LDCTL 0 1 = false) (fits : loadFits s) :
    spiLoadGo s = spiWait (loadGone s) (winCs s) := by
  obtain ⟨words, some_, few, inside⟩ := fits
  rw [spiLoadGo, if_neg (not_not.2 sleeps), if_neg (ne_true_of_eq_false idle), if_neg (by omega)]
  rfl

theorem spiLoadGo_refused (sleeps : rf s .PMU_MODE 0 1 0 = 0) (idle : rb s .SPI_LDCTL 0 1 = false) (unfit : ¬ loadFits s) :
    spiLoadGo s = wb (wb s .SPI_LDCTL 0 3 true) .SPI_LDCTL 0 2 true := by
  have wrong : rf s .SPI_LDLEN 0 18 0 % 4 ≠ 0 ∨ rf s .SPI_LDLEN 0 18 0 < 4 ∨ rf s .SPI_LDLEN 0 18 0 > 262144 ∨
      rn s .SPI_LDIRW 0 + rf s .SPI_LDLEN 0 18 0 / 4 > 65536 := by
    unfold loadFits at unfit
    omega
  rw [spiLoadGo, if_neg (not_not.2 sleeps), if_neg (ne_true_of_eq_false idle), if_pos wrong]

theorem loadGone_effects (s : State) (cs : Nat) : let t := spiWait (loadGone s) cs
    rb t .SPI_LDCTL 0 1 = true ∧ rb t .SPI_STAT 0 2 = true ∧ rd t .SPI_LDCOUNT 0 = 0 ∧ LeavesSystem s t := by
  have kept : Keeps Everywhere (loadGone s) (spiWait (loadGone s) cs) := .ite ((Keeps.refl _).startTimer ..) (Keeps.refl _)
  have system : LeavesSystem s (loadGone s) := (((LeavesSystem.refl s).wr (by decide) 0).wb (by decide) 1 true).wb (by decide) 2 true
  refine ⟨?_, ?_, ?_, system.spiWait cs⟩
  · rw [kept.rb trivial]
    exact (rb_wb_ne _ _ _ _ _ _ _ _ (by decide)).trans (rb_wb_same _ _ _ _ _ (by decide))
  · rw [kept.rb trivial]
    exact rb_wb_same _ _ _ _ _ (by decide)
  · rw [kept.rd trivial, loadGone, rd_wb_ne _ _ _ _ _ _ _ (by decide), rd_wb_ne _ _ _ _ _ _ _ (by decide), rd_wr_same]

/-! ## The words of a load in IRAM (R1003) -/

/-- The word of four bytes at place `k` of a load. -/
def loadWord (bs : List Byte) (k : Nat) : Quad := BitVec.ofNat 32 (leNat ((bs.drop (4 * k)).take 4))

/-- Whole words go to IRAM from a word upwards, and no other word changes. -/
theorem iramWrite_words (s : State) (a : Nat) (bs : List Byte) : bs.length % 4 = 0 → a + bs.length / 4 ≤ 65536 →
    (∀ k, k < bs.length / 4 → mget (fun _ => (0 : Quad)) (iramWrite s a bs).iram (a + k) = loadWord bs k) ∧
      ∀ j, (j < a ∨ a + bs.length / 4 ≤ j) → mget (fun _ => (0 : Quad)) (iramWrite s a bs).iram j = mget (fun _ => (0 : Quad)) s.iram j := by
  induction s, a, bs using iramWrite.induct with
  | case1 s a b0 b1 b2 b3 rest ih =>
    intro whole inside
    have length : (b0 :: b1 :: b2 :: b3 :: rest).length = rest.length + 4 := rfl
    rw [length] at whole inside ⊢
    obtain ⟨words, others⟩ := ih (by omega) (by omega)
    have here : a % 65536 = a := Nat.mod_eq_of_lt (by omega)
    rw [iramWrite]
    refine ⟨fun k low => ?_, fun j apart => ?_⟩
    · cases k with
      | zero =>
        refine (others a (.inl (by omega))).trans ?_
        rw [here]
        exact mget_mset_same ..
      | succ k =>
        have next : a + (k + 1) = a + 1 + k := by omega
        rw [next]
        exact words k (by omega)
    · have other : j ≠ a := by omega
      refine (others j (by omega)).trans ?_
      rw [here]
      exact mget_mset_ne (fun _ => (0 : Quad)) (fun _ => 0) s.iram _ other
  | case2 bs s a short =>
    intro whole inside
    have empty : bs = [] := by
      match bs, whole, short with
      | [], _, _ => rfl
      | [_], whole, _ => cases whole
      | [_, _], whole, _ => cases whole
      | [_, _, _], whole, _ => cases whole
      | b0 :: b1 :: b2 :: b3 :: rest, _, short => exact (short b0 b1 b2 b3 rest rfl).elim
    rw [iramWrite.eq_2 s a bs short, empty]
    exact ⟨fun k low => absurd low (Nat.not_lt_zero k), fun _ _ => rfl⟩

/-! ## The end of a load, seen from outside the port -/

/-- The registers of the load. -/
abbrev LoadRegs (a : Nat) : Prop := a = regAddr .SPI_LDCTL 0 ∨ a = regAddr .SPI_STAT 0 ∨ a = regAddr .SPI_LDCOUNT 0

theorem Keeps.ledSet (h : Keeps A s t) (mode : ¬ A (regAddr .PP_LEDMODE 0)) (on : ¬ A (regAddr .PP_LEDON 0)) (off : ¬ A (regAddr .PP_LEDOFF 0))
    (cnt : ¬ A (regAddr .PP_LEDCNT 0)) (rep : ¬ A (regAddr .PP_LEDREP 0)) (m a b c d : Nat) : Keeps A s (ledSet t m a b c d) :=
  (((((h.wr mode _).wr on _).wr off _).wr cnt _).wr rep _).ledStart 0

theorem Keeps.statShow_load (h : Keeps LoadRegs s t) : Keeps LoadRegs s (statShow t) := by
  unfold Machine.statShow
  split
  · exact h
  · split
    · exact h
    all_goals exact h.ledSet (by decide) (by decide) (by decide) (by decide) (by decide) ..

theorem Keeps.safeHoldBy_load (h : Keeps LoadRegs s t) (cause : Nat) : Keeps LoadRegs s (safeHoldBy t cause) :=
  (((h.setDev _).wb (by decide) 2 true).wf (by decide) 3 0 cause).statShow_load

/-- The checks of the image leave what a load has shown and stored (R163). -/
theorem Keeps.bootImage_load (h : Keeps LoadRegs s t) (image : List Byte) : Keeps LoadRegs s (bootImage t image) :=
  ite (h.setDev _) (ite (h.safeHoldBy_load 7) (ite (h.safeHoldBy_load 1) (h.setDev _)))

/-- The image is accepted by its signature, or SAFE-hold takes cause 7; the crystal is there (R161, R163). -/
theorem bootImage_full (full : s.dev.reload = false) (image : List Byte) : bootImage s image =
    if sigOk s image = false then safeHoldBy s 7 else if rb s .CLK_STAT 0 0 = false then safeHoldBy s 1 else setDev s { s.dev with romPass := 0x10 } := by
  rw [bootImage, full]
  cases sigOk s image <;> rfl

theorem loadBytes_whole (long : data.length = rf s .SPI_LDLEN 0 18 0) (words : data.length % 4 = 0) : loadBytes s data = data := by
  have all : min (data.length / 4 * 4) (rf s .SPI_LDLEN 0 18 0) = data.length := by omega
  rw [loadBytes, all, List.take_length]

/-- A load leaves the registers of other units and the device but for the message it hashes (R1003). -/
theorem spiLoadEnd_device (loads : rb s .SPI_LDCTL 0 1 = true) (data : List Byte) (err : Bool) : let t := spiLoadEnd s data err
    (rb s .SPI_LDCTL 0 4 = true → t.dev = { s.dev with sha := s.dev.sha ++ loadBytes s data }) ∧
      ∀ r i, ¬ LoadRegs (regAddr r i) → rd t r i = rd s r i := by
  obtain ⟨m, written⟩ := iramWrite_others s (rn s .SPI_LDIRW 0) (loadBytes s data)
  rw [spiLoadEnd_loading loads, written]
  generalize loadBytes s data = bs
  have told : ((rb s .SPI_LDCTL 0 4 = true → (loadTold { s with iram := m } bs).dev = { s.dev with sha := s.dev.sha ++ bs })) ∧
      (loadTold { s with iram := m } bs).io = s.io := by
    refine ⟨fun hash => ?_, (loadTold_frame ..).2.2.2⟩
    have hash' : rb { s with iram := m } .SPI_LDCTL 0 4 = true := hash
    rw [loadTold, if_pos hash', loadHashed, if_pos hash', raise_fabric]
    rfl
  generalize loadTold { s with iram := m } bs = v at told
  obtain ⟨dev, io⟩ := told
  refine ⟨fun hash => ((loadFlags_tells v bs.length err).dev).trans (dev hash), fun r i apart => ?_⟩
  have shown : Keeps (At r i) v (loadShown v bs.length) := (((Keeps.refl v).wr (fun h => apart (.inr (.inr h.symm))) _).wb
    (fun h => apart (.inl h.symm)) 1 false).wb (fun h => apart (.inr (.inl h.symm))) 2 false
  have flagged : Keeps (At r i) v (loadFlags (loadShown v bs.length) err) :=
    (Keeps.ite (shown.wb (fun h => apart (.inl h.symm)) 3 true) shown).wb (fun h => apart (.inl h.symm)) 2 true
  exact ((flagged.stopTimer tmrReady).rd rfl).trans (rd_io s v r i io)

/-- A load that ends, and what the ROM then makes of it (R1003). -/
def loadDoneWith (s : State) (data : List Byte) (short : Bool) : State := match s.dev.hdr with
  | some h => if readsImage s h && !short then bootImage (spiShow (spiLoadEnd s data short)) h else spiShow (spiLoadEnd s data short)
  | none => spiShow (spiLoadEnd s data short)

/-- A load that took in all its bytes ends in no error. -/
theorem exec_loadDone (live : Live s .serial) (long : data.length = rf s .SPI_LDLEN 0 18 0) :
    exec (.spiLoadDone data) s = .next (loadDoneWith s data false) := by
  have whole : decide (data.length < rf s .SPI_LDLEN 0 18 0) = false := decide_eq_false (by omega)
  rw [← whole]
  exact liveIn_live live fun s => loadDoneWith s data (decide (data.length < rf s .SPI_LDLEN 0 18 0))

/-- The ROM's check of the image leaves what the load has shown and stored. -/
theorem loadDone_kept (s : State) (data : List Byte) : Keeps LoadRegs (spiShow (spiLoadEnd s data false)) (loadDoneWith s data false) := by
  unfold loadDoneWith
  split
  · exact .ite ((Keeps.refl _).bootImage_load _) (Keeps.refl _)
  · exact Keeps.refl _

theorem loadDone_image {h : List Byte} (header : s.dev.hdr = some h) (reads : readsImage s h = true) :
    loadDoneWith s data false = bootImage (spiShow (spiLoadEnd s data false)) h := by
  unfold loadDoneWith
  rw [header]
  exact if_pos (by rw [reads]; rfl)

theorem readsImage_hashes {h : List Byte} (reads : readsImage s h = true) : rb s .SPI_LDCTL 0 1 = true ∧ rb s .SPI_LDCTL 0 4 = true := by
  unfold readsImage at reads
  simp only [Bool.and_eq_true] at reads
  tauto

end Sys2Proof.Proofs
end

section
/-! # Chapter 19: the read window and the image load, the statement -/
namespace Sys2Proof.Proofs
open Sys2Proof.Machine Sys2Proof.Laws

variable {s t u : State} {A : Nat → Prop} {data bs : List Byte}

/-- A load of whole words that ends: its words, its flags, and the threads (R1003). -/
theorem loaded_effects (loads : rb s .SPI_LDCTL 0 1 = true) (long : data.length = rf s .SPI_LDLEN 0 18 0) (words : data.length % 4 = 0)
    (inside : rn s .SPI_LDIRW 0 + data.length / 4 ≤ 65536) : let t := loadDoneWith s data false
    (∀ k, k < data.length / 4 → mget (fun _ => (0 : Quad)) t.iram (rn s .SPI_LDIRW 0 + k) = loadWord data k) ∧
      (∀ a, a < 65536 → (a < rn s .SPI_LDIRW 0 ∨ rn s .SPI_LDIRW 0 + data.length / 4 ≤ a) → mget (fun _ => (0 : Quad)) t.iram a = mget (fun _ => (0 : Quad)) s.iram a) ∧
      rb t .SPI_LDCTL 0 1 = false ∧ rb t .SPI_LDCTL 0 2 = true ∧ rb t .SPI_STAT 0 2 = false ∧ rd t .SPI_LDCOUNT 0 = BitVec.ofNat 32 data.length ∧
      t.thr = s.thr ∧ t.near = s.near := by
  obtain ⟨⟨over_, done, -, idle, counted⟩, iram, threads, near⟩ := spiLoadEnd_effects loads data false
  obtain ⟨written, others⟩ := iramWrite_words s (rn s .SPI_LDIRW 0) data words inside
  rw [loadBytes_whole long words] at counted iram
  have kept := loadDone_kept s data
  have shown := spiShow_shows (spiLoadEnd s data false)
  have counter : Keeps (fun a => a = regAddr .SPI_LDCTL 0 ∨ a = regAddr .SPI_LDCOUNT 0) (spiLoadEnd s data false) (spiShow (spiLoadEnd s data false)) :=
    (Keeps.refl _).spiShow (by decide)
  have stat := statHigh_spiShow (spiLoadEnd s data false) (b := 2) (by decide) (by decide)
  have same : (loadDoneWith s data false).iram = (iramWrite s (rn s .SPI_LDIRW 0) data).iram :=
    kept.memory.2.2.1.trans (shown.memory.2.2.1.trans iram)
  dsimp only
  rw [same]
  exact ⟨written, fun a _ apart => others a apart, (kept.rb (.inl rfl) 1).trans ((counter.rb (.inl rfl) 1).trans over_),
    (kept.rb (.inl rfl) 2).trans ((counter.rb (.inl rfl) 2).trans done), (kept.rb (.inr (.inl rfl)) 2).trans (stat.trans idle),
    (kept.rd (.inr (.inr rfl))).trans ((counter.rd (.inr rfl)).trans counted), kept.thr.trans (shown.thr.trans threads),
    kept.memory.1.trans (shown.memory.1.trans near)⟩

/-- The ROM's check of the image it has loaded (R161, R163). -/
theorem imaged_effects {h : List Byte} (header : s.dev.hdr = some h) (reads : readsImage s h = true) (long : data.length = rf s .SPI_LDLEN 0 18 0)
    (words : data.length % 4 = 0) (full : s.dev.reload = false) : let t := loadDoneWith s data false
    let good := ecdsaOk ((h.drop 64).take 64) ((h.drop 128).take 64) (sha256 (s.dev.sha ++ data))
    (good = false → rb t .PMU_MODE 0 2 = true ∧ rf t .PMU_BOOTSTAT 0 3 0 = 7 ∧ t.dev.romPass = s.dev.romPass ∧ t.thr = s.thr) ∧
      (good = true → rb s .CLK_STAT 0 0 = true → t.dev.romPass = 0x10 ∧ rd t .PMU_MODE 0 = rd s .PMU_MODE 0 ∧ t.thr = s.thr) := by
  obtain ⟨loads, hash⟩ := readsImage_hashes reads
  obtain ⟨dev, others⟩ := spiLoadEnd_device loads data false
  obtain ⟨-, -, threads, -⟩ := spiLoadEnd_effects loads data false
  replace dev := dev hash
  rw [loadBytes_whole long words] at dev
  have shown := spiShow_shows (spiLoadEnd s data false)
  have others' {r : Rg} {i : Nat} (system : SystemAddr (regAddr r i)) (apart : ¬ LoadRegs (regAddr r i)) :
      rd (spiShow (spiLoadEnd s data false)) r i = rd s r i := ((LeavesSystem.refl _).spiShow.rd system).trans (others r i apart)
  rw [loadDone_image header reads]
  generalize spiShow (spiLoadEnd s data false) = v at shown others'
  have device : v.dev = { s.dev with sha := s.dev.sha ++ data } := shown.dev.trans dev
  have sig : sigOk v h = ecdsaOk ((h.drop 64).take 64) ((h.drop 128).take 64) (sha256 (s.dev.sha ++ data)) := by rw [sigOk, device]
  have vfull : v.dev.reload = false := by rw [device]; exact full
  dsimp only
  rw [← sig, bootImage_full vfull]
  refine ⟨fun bad => ?_, fun good crystal => ?_⟩
  · rw [if_pos bad]
    obtain ⟨⟨hold, cause⟩, system, threads', -⟩ := safeHoldBy_effects v (cause := 7) (by decide)
    refine ⟨hold, cause, ?_, threads'.trans (shown.thr.trans threads)⟩
    rw [system.dev]
    exact (congrArg Dev.romPass device :)
  · have clock : rb v .CLK_STAT 0 0 = true := (rb_congr (others' (by decide) (by decide)) 0).trans crystal
    rw [if_neg (ne_false_of_eq_true good), if_neg (ne_false_of_eq_true clock)]
    exact ⟨rfl, others' (by decide) (by decide), shown.thr.trans threads⟩

/-- Settles O52: the window's loads are answered in the order of their transfers to FABRIC, a fill in the cache and then to the loads that wait
on it; a load of IRAM is an induction over its words. -/
theorem spiWindowAndLoad : Obligations.SpiWindowAndLoad := by
  unfold Obligations.SpiWindowAndLoad
  intro s req data live
  dsimp only
  have lookup := liveIn_live live spiLookup
  have fills := liveIn_live live fun s => spiShow (spiFillStart s)
  refine ⟨fun l rest waits => ⟨fun off => ?off, fun c on hit => ?hit, fun on miss => ?miss⟩, fun m rest waits ready idle => ?starts, fun later => ?later,
    fun line fill whole => ?filled, fun may => ?emptied, ?emptyDone, fun may => ⟨fun runs => ?runs, fun sleeps idle fits => ?goes, fun sleeps idle unfit => ?refused⟩,
    fun loads long words inside => ?loaded, fun h header reads long words full => ?image⟩
  case off =>
    refine Does.intro (lookup.trans (congrArg _ (spiLookup_off waits off))) ⟨?_, rfl, rfl, rfl, rfl, rfl⟩
    rw [xwaitOf_send_same, xwaitOf_send_ne _ _ _ _ (by decide)]
    rfl
  case hit =>
    refine Does.intro (lookup.trans (congrArg _ (spiLookup_hit waits on hit))) ⟨⟨?_, rfl, rfl, rfl, rfl, rfl⟩, rd_wr_same ..⟩
    rw [xwaitOf_send_same]
    rfl
  case miss =>
    exact Does.intro (lookup.trans (congrArg _ (spiLookup_miss waits on miss))) ⟨rfl, rfl, line_asked s (l.byte / 32), rfl, rfl, rfl, rfl, rfl⟩
  case starts =>
    obtain ⟨filling, misses, keeps, shows, counted, system⟩ := fillStarted_effects waits ready idle
    exact Does.intro fills ⟨filling, misses, keeps, shows, counted, system.windowFrame⟩
  case later =>
    exact Does.intro (fills.trans (congrArg _ (congrArg spiShow (spiFillStart_waits later)))) ⟨(spiShow_shows s).spi, (LeavesSystem.refl s).spiShow.windowFrame⟩
  case filled => exact Does.intro (liveIn_live live fun s => spiShow (spiApply (spiFillDone s data))) (filled_effects fill whole)
  case emptied =>
    refine Does.intro (writeReg_taken may spiInvalidate) ⟨rfl, rfl, rb_wb_same _ _ _ _ _ (by decide), fun d k apart => ?_, rfl, rfl, rfl, rfl⟩
    exact mget_wr_io_ne _ d _ fun same => apart (by rw [same]; exact List.mem_singleton_self _)
  case emptyDone => exact liveIn_live live fun s => wb s .SPI_CACHE 0 1 false
  case runs =>
    refine (writeReg_taken may spiLoadGo).trans (congrArg _ ((if_pos runs).trans ?_))
    exact count_send (by decide) ..
  case goes =>
    obtain ⟨gone, loading, zero, system⟩ := loadGone_effects s (winCs s)
    exact Does.intro ((writeReg_taken may spiLoadGo).trans (congrArg _ (spiLoadGo_goes sleeps idle fits))) ⟨gone, loading, zero, system.windowFrame⟩
  case refused =>
    refine Does.intro ((writeReg_taken may spiLoadGo).trans (congrArg _ (spiLoadGo_refused sleeps idle unfit)))
      ⟨?_, rb_wb_same _ _ _ _ _ (by decide), ?_, ?_, rfl, rfl, rfl, rfl⟩
    · rw [rb_wb_other _ _ _ _ _ _ (by decide) (by decide), rb_wb_other _ _ _ _ _ _ (by decide) (by decide)]
      exact idle
    · rw [rb_wb_other _ _ _ _ _ _ (by decide) (by decide)]
      exact rb_wb_same _ _ _ _ _ (by decide)
    · rw [rb_wb_ne _ _ _ _ _ _ _ _ (by decide), rb_wb_ne _ _ _ _ _ _ _ _ (by decide)]
  case loaded => exact Does.intro (exec_loadDone live long) (loaded_effects loads long words inside)
  case image =>
    obtain ⟨bad, good⟩ := imaged_effects header reads long words full
    exact ⟨fun no => Does.intro (exec_loadDone live long) (bad no), fun yes crystal => Does.intro (exec_loadDone live long) (good yes crystal)⟩

end Sys2Proof.Proofs
end

section
/-!
SUPPORT. The NV controller (chapter 20): how a command ends, and the checks of R1032.
-/
namespace Sys2Proof.Proofs
open Sys2Proof.Machine Sys2Proof.Laws

variable {s t u : State} {A : Nat → Prop} {w : Fin 2} {q code status : Nat}

/-! ## Registers of a block -/

theorem nvbRes_state (w : Fin 2) : regAddr .NV_STATE 0 ≠ regAddr .NVB_RES w := by revert w; decide

/-! ## What follows the commands (R1059) -/

/-- Commands in progress or waiting. -/
def nvWork (s : State) : Bool := s.nv.run.isSome || !s.nv.queue.isEmpty

def nvDrained (s : State) : State := if dstate s 10 = 2 ∧ nvWork s = false then setData s 10 0 else s

theorem nvShow_eq (s : State) : nvShow s = follow (nvDrained s) 10 (mgmt (nvDrained s) 10 == 1 && nvWork s) := rfl

theorem nvShow_shows (s : State) : Shows s (nvShow s) := by
  have drained : Shows s (nvDrained s) := .ite ((Shows.refl s).setData ..) (Shows.refl s)
  rw [nvShow_eq]
  exact .ite (drained.setData ..) drained

theorem Keeps.nvShow (h : Keeps A s t) (state : ¬ A (regAddr .NV_STATE 0)) : Keeps A s (nvShow t) := by
  have drained : Keeps A s (nvDrained t) := ite (h.setData (u := 10) state 0) h
  rw [nvShow_eq]
  exact drained.follow (u := 10) state _

theorem nvShow_posts (s : State) : Posts s (nvShow s) := by
  have drained : Posts s (nvDrained s) := .ite ((Posts.refl s).setData ..) (Posts.refl s)
  rw [nvShow_eq]
  exact drained.follow ..

/-! ## The end of a command (R1030) -/

/-- The controller with no command in progress. -/
def nvIdle (s : State) (w : Fin 2) : State := setNv s { s.nv with
  run := none, begun := false, jobs := [], phase := .load, again := false, abort := false, sets := mset (fun _ => none) s.nv.sets w none }

/-- STATUS, BUSY and DONEF of a block at the end of its command. -/
def nvResultShown (s : State) (w : Fin 2) (status : Nat) : State := wb (wb (wf s .NVB_RES w 3 0 status) .NVB_RES w 6 false) .NVB_RES w 7 true

theorem nvEnd_running (run : s.nv.run = some (w.val, q)) (status : Nat) :
    nvEnd s status = nvShow (raise (nvResultShown (nvIdle s w) w status) .serial 92) := by
  rw [nvEnd, run] <;> rfl

theorem nvResultShown_res (s : State) (w : Fin 2) (status : Nat) : let t := nvResultShown s w status
    rf t .NVB_RES w 3 0 = status % 16 ∧ rb t .NVB_RES w 6 = false ∧ rb t .NVB_RES w 7 = true ∧ rf t .NVB_RES w 5 4 = rf s .NVB_RES w 5 4 := by
  have field (v : State) (b : Nat) (x : Bool) (hi lo : Nat) (b32 : b < 32) (apart : hi < b ∨ b < lo) :
      rf (wb v .NVB_RES w b x) .NVB_RES w hi lo = rf v .NVB_RES w hi lo := by
    rw [rf, wb, rd_wr_same, fld_putFld_apart _ _ b32 (Nat.le_refl b) apart, rf]
  refine ⟨?_, ?_, rb_wb_same _ _ _ _ _ (by decide), ?_⟩
  · rw [nvResultShown, field _ 7 true 3 0 (by decide) (by decide), field _ 6 false 3 0 (by decide) (by decide)]
    exact rf_wf_same _ _ _ _ (by decide) (by decide)
  · rw [nvResultShown, rb_wb_other _ _ _ _ _ _ (by decide) (by decide)]
    exact rb_wb_same _ _ _ _ _ (by decide)
  · rw [nvResultShown, field _ 7 true 5 4 (by decide) (by decide), field _ 6 false 5 4 (by decide) (by decide), rf, wf, rd_wr_same,
      fld_putFld_apart _ _ (by decide) (by decide) (by decide), rf]

/-- A command of block `w` has ended with a status (R1030), and no thread and no memory differs. -/
abbrev NvFin (s : State) (w : Fin 2) (status : Nat) (t : State) : Prop :=
  rf t .NVB_RES w 3 0 = status ∧ rb t .NVB_RES w 6 = false ∧ rb t .NVB_RES w 7 = true ∧ t.nv.run = none ∧ t.thr = s.thr ∧ SameMemory s t

theorem Keeps.nvEnd (h : Keeps A s t) (run : t.nv.run = some (w.val, q)) (res : ¬ A (regAddr .NVB_RES w)) (state : ¬ A (regAddr .NV_STATE 0)) (status : Nat) :
    Keeps A s (nvEnd t status) := by
  rw [nvEnd_running run]
  exact (((((h.setNv _).wf res 3 0 status).wb res 6 false).wb res 7 true).raise (by decide) 92).nvShow state

theorem nvEnd_shows (run : s.nv.run = some (w.val, q)) (status : Nat) : Shows (nvIdle s w) (nvEnd s status) := by
  have shown : Shows (nvIdle s w) (raise (nvResultShown (nvIdle s w) w status) .serial 92) := ((((Shows.refl _).wf ..).wb ..).wb ..).raise (by decide) 92
  rw [nvEnd_running run]
  exact shown.trans (nvShow_shows _)

theorem nvEnd_res (run : s.nv.run = some (w.val, q)) (status : Nat) : let t := nvEnd s status
    rf t .NVB_RES w 3 0 = status % 16 ∧ rb t .NVB_RES w 6 = false ∧ rb t .NVB_RES w 7 = true ∧ rf t .NVB_RES w 5 4 = rf s .NVB_RES w 5 4 := by
  obtain ⟨shown, idle, done, twin⟩ := nvResultShown_res (nvIdle s w) w status
  have kept : Keeps (At .NVB_RES w) (nvResultShown (nvIdle s w) w status) (nvShow (raise (nvResultShown (nvIdle s w) w status) .serial 92)) :=
    ((Keeps.refl _).raise (by decide) 92).nvShow (nvbRes_state w)
  rw [nvEnd_running run]
  exact ⟨(kept.rf rfl 3 0).trans shown, (kept.rb rfl 6).trans idle, (kept.rb rfl 7).trans done, (kept.rf rfl 5 4).trans twin⟩

theorem nvEnd_posts (run : s.nv.run = some (w.val, q)) (status : Nat) : Posts s (nvEnd s status) := by
  have shown : Posts s (nvResultShown (nvIdle s w) w status) := (Posts.refl s).part rfl
  rw [nvEnd_running run]
  exact (shown.raise (by decide) 92).trans (nvShow_posts _)

/-- The command ends, after a change that leaves the controller's command, threads and memories as they were. -/
theorem nvEnd_finMod (h : Keeps Nowhere s t) (run : t.nv.run = some (w.val, q)) (status : Nat) : NvFin s w (status % 16) (nvEnd t status) := by
  obtain ⟨shown, idle, done, -⟩ := nvEnd_res run status
  have kept := h.nvEnd run id id status
  exact ⟨shown, idle, done, congrArg Nv.run (nvEnd_shows run status).nv, kept.thr, kept.memory⟩

theorem nvEnd_fin (h : Keeps Nowhere s t) (run : t.nv.run = some (w.val, q)) (low : status < 16) : NvFin s w status (nvEnd t status) := by
  have fin := nvEnd_finMod h run status
  rwa [Nat.mod_eq_of_lt low] at fin

/-! ## The checks (R1032) -/

/-- The command of code `code` of block `w` has been dispatched and has not begun; the controller runs. -/
abbrev NvCmd (s : State) (w : Fin 2) (q code : Nat) : Prop :=
  s.nv.run = some (w.val, q) ∧ s.nv.begun = false ∧ rf s .NVB_CMD w 3 0 = code ∧ mgmt s 10 = 1 ∧ dstate s 10 ≠ 3

/-- A plan's owner may do it: block 0, or no keeper's page and nothing denied to normal world. -/
def NvOwn (s : State) (w : Fin 2) (p : NvPlan) : Prop := w.val = 0 ∨ (p.denied = false ∧ ∀ x ∈ p.reads ++ p.writes, nwm s ≤ x)

theorem nvOwn_not (s : State) (w : Fin 2) (p : NvPlan) :
    (w.val = 1 ∧ (p.denied ∨ (p.reads ++ p.writes).any fun x => decide (x < nwm s))) ↔ ¬ NvOwn s w p := by
  have two : w.val = 0 ∨ w.val = 1 := by omega
  simp only [NvOwn, List.any_eq_true, decide_eq_true_iff, not_or, not_and, Bool.eq_false_iff, ne_eq, not_forall, not_le, exists_prop]
  constructor
  · rintro ⟨one, bad⟩
    exact ⟨by omega, fun fine => bad.resolve_left fine⟩
  · rintro ⟨one, bad⟩
    exact ⟨by omega, Classical.or_iff_not_imp_left.2 bad⟩

section checks
variable {p : NvPlan}

theorem nvCheck_stopped (off : mgmt s 10 ≠ 1 ∨ dstate s 10 = 3) (w : Nat) : nvCheck s w p = some 15 := if_pos off

theorem nvCheck_runs (on : mgmt s 10 = 1 ∧ dstate s 10 ≠ 3) (w : Nat) : nvCheck s w p =
    if p.args = false then some 1 else if p.range = false then some 2
    else if w = 1 ∧ (p.denied ∨ (p.reads ++ p.writes).any fun x => decide (x < nwm s)) then some 3
    else if p.writes.any (nvProtected s) then some 4
    else if p.allowRetired = false ∧ p.writes.any (nvRetired s) then some 5 else none :=
  if_neg (by rintro (off | faulted); exacts [off on.1, on.2 faulted])

theorem nvCheck_args (on : mgmt s 10 = 1 ∧ dstate s 10 ≠ 3) (bad : p.args = false) (w : Nat) : nvCheck s w p = some 1 := by
  rw [nvCheck_runs on, if_pos bad]

theorem nvCheck_range (on : mgmt s 10 = 1 ∧ dstate s 10 ≠ 3) (args : p.args = true) (bad : p.range = false) (w : Nat) : nvCheck s w p = some 2 := by
  rw [nvCheck_runs on, if_neg (ne_false_of_eq_true args), if_pos bad]

theorem nvCheck_owner (on : mgmt s 10 = 1 ∧ dstate s 10 ≠ 3) (args : p.args = true) (range : p.range = true) (bad : ¬ NvOwn s w p) :
    nvCheck s w p = some 3 := by
  rw [nvCheck_runs on, if_neg (ne_false_of_eq_true args), if_neg (ne_false_of_eq_true range), if_pos ((nvOwn_not s w p).2 bad)]

theorem nvCheck_protected (on : mgmt s 10 = 1 ∧ dstate s 10 ≠ 3) (args : p.args = true) (range : p.range = true) (own : NvOwn s w p)
    (bad : p.writes.any (nvProtected s) = true) : nvCheck s w p = some 4 := by
  rw [nvCheck_runs on, if_neg (ne_false_of_eq_true args), if_neg (ne_false_of_eq_true range), if_neg fun h => (nvOwn_not s w p).1 h own, if_pos bad]

theorem nvCheck_retired (on : mgmt s 10 = 1 ∧ dstate s 10 ≠ 3) (args : p.args = true) (range : p.range = true) (own : NvOwn s w p)
    (free : p.writes.any (nvProtected s) = false) (bad : p.allowRetired = false ∧ p.writes.any (nvRetired s) = true) : nvCheck s w p = some 5 := by
  rw [nvCheck_runs on, if_neg (ne_false_of_eq_true args), if_neg (ne_false_of_eq_true range), if_neg fun h => (nvOwn_not s w p).1 h own,
    if_neg (ne_true_of_eq_false free), if_pos bad]

theorem nvCheck_passes (on : mgmt s 10 = 1 ∧ dstate s 10 ≠ 3) (args : p.args = true) (range : p.range = true) (own : NvOwn s w p)
    (free : p.writes.any (nvProtected s) = false) (sound : p.allowRetired = true ∨ p.writes.any (nvRetired s) = false) : nvCheck s w p = none := by
  rw [nvCheck_runs on, if_neg (ne_false_of_eq_true args), if_neg (ne_false_of_eq_true range), if_neg fun h => (nvOwn_not s w p).1 h own,
    if_neg (ne_true_of_eq_false free), if_neg]
  rintro ⟨no, some_⟩
  obtain yes | none := sound
  · exact ne_false_of_eq_true yes no
  · exact ne_true_of_eq_false none some_

end checks

/-! ## A command dispatched -/

/-- What a failed check counts or reports before the command ends (R449, R1042). -/
def refusalTold (s : State) (p : NvPlan) (status : Nat) : State :=
  if status = 3 then violateFrom s .serial 6 (agentOf ((s.nv.run.map fun r => r.2).getD 8)) (((p.reads ++ p.writes).filter fun x => decide (x < nwm s)).headD 0)
  else if status = 4 then count s .serial 0x9E else s

theorem violateFrom_shows (s : State) (kind agent addr : Nat) : Shows s (violateFrom s .serial kind agent addr) := (Shows.refl s).send ..

theorem refusalTold_shows (s : State) (p : NvPlan) (status : Nat) : Shows s (refusalTold s p status) :=
  .ite (violateFrom_shows ..) (.ite ((Shows.refl s).count (by decide) _) (Shows.refl s))

theorem Keeps.refusalTold (h : Keeps A s t) (p : NvPlan) (status : Nat) : Keeps A s (refusalTold t p status) :=
  ite (h.send ..) (ite (h.count (by decide) _) h)

theorem nvCommand_taken {codes : List Nat} (run : s.nv.run = some (w.val, q)) (fresh : s.nv.begun = false) (listed : codes.contains (rf s .NVB_CMD w 3 0) = true)
    (plan : State → Nat → NvPlan) (f : State → Nat → State) {c : Option Nat} (check : nvCheck s w (plan s w) = c) :
    nvCommand s codes plan f = c.elim (f s w) (nvRefuse s (plan s w)) := by
  have open_ : ¬ (s.nv.begun = true ∨ codes.contains (rf s .NVB_CMD w 3 0) = false) := by
    rw [fresh, listed]
    decide
  rw [nvCommand, run]
  refine (if_neg open_).trans ?_
  rw [check]
  cases c <;> rfl

/-- A command that fails a check ends with the status of the first that fails (R1032). -/
theorem nvCommand_refuses {codes : List Nat} (run : s.nv.run = some (w.val, q)) (fresh : s.nv.begun = false)
    (listed : codes.contains (rf s .NVB_CMD w 3 0) = true) (plan : State → Nat → NvPlan) (f : State → Nat → State)
    (check : nvCheck s w (plan s w) = some status) (low : status < 16) : NvFin s w status (nvCommand s codes plan f) := by
  rw [nvCommand_taken run fresh listed plan f check]
  have told : (refusalTold s (plan s w) status).nv.run = some (w.val, q) := (congrArg Nv.run (refusalTold_shows s (plan s w) status).nv).trans run
  exact nvEnd_fin ((Keeps.refl s).refusalTold ..) told low

/-- A command that passes its checks has its effect. -/
theorem nvCommand_runs {codes : List Nat} (cmd : NvCmd s w q code) (listed : codes.contains code = true) (plan : State → Nat → NvPlan)
    (f : State → Nat → State) (check : nvCheck s w (plan s w) = none) : nvCommand s codes plan f = f s w := by
  obtain ⟨run, fresh, is_, -⟩ := cmd
  exact nvCommand_taken run fresh (by rw [is_]; exact listed) plan f check

end Sys2Proof.Proofs
end

section
/-! # Chapter 20: commands that write (R1031, R1032, R1043, R1046, R1053, R1056, R1057) -/
namespace Sys2Proof.Proofs
open Sys2Proof.Machine Sys2Proof.Laws

variable {s t u : State} {A : Nat → Prop} {w : Fin 2} {q code status : Nat} {ps : List Nat}

/-! ## What a block may touch -/

/-- Block 0 may touch any page, block 1 those of normal world (R444). -/
abbrev OwnPages (s : State) (w : Fin 2) (ps : List Nat) : Prop := w.val = 0 ∨ ∀ p, p ∈ ps → nwm s ≤ p

/-- Of these pages none is protected and none RETIRED. -/
abbrev WholePages (s : State) (ps : List Nat) : Prop := ∀ p, p ∈ ps → nvProtected s p = false ∧ nvRetired s p = false

theorem any_false {f : Nat → Bool} (none : ∀ p, p ∈ ps → f p = false) : ps.any f = false :=
  List.any_eq_false.2 fun p listed => ne_true_of_eq_false (none p listed)

/-- Writes begin with their LOAD. -/
theorem nvBegin_loads {jobs : List NvJob} (some_ : jobs ≠ []) (loads : ∀ j, j ∈ jobs → jobPhase j = .load) :
    nvBegin s jobs = setNv s { s.nv with begun := true, jobs := jobs, phase := .load } := by
  cases jobs with
  | nil => exact absurd rfl some_
  | cons j jobs => rw [nvBegin, loads j (List.mem_cons_self ..)]

theorem map_pages_ne_nil {n : Nat} (some_ : 1 ≤ n) (a : Nat) (f : Nat → NvJob) : (pagesFrom a n).map f ≠ [] := by
  have length : ((pagesFrom a n).map f).length = n := by rw [List.length_map, pagesFrom, List.length_map, List.length_range]
  intro empty
  rw [empty] at length
  exact absurd length (by simp only [List.length_nil]; omega)

/-! ## WRITE and ERASE -/

def writePlan (s : State) (w : Nat) : NvPlan :=
  ⟨decide (1 ≤ nvLen s w ∧ nvLen s w ≤ 256), decide (rf s .NVB_ADDR w 16 0 + nvLen s w ≤ 0x20000), [], writePages s w, false, false⟩

def writeRun (s : State) (w : Nat) : State :=
  nvBegin s ((writePages s w).map fun p => .page p (mergePage s p (rf s .NVB_ADDR w 16 0) (nvBufTake s w (nvLen s w))))

theorem nvWrite_eq (s : State) : nvWrite s = nvCommand s [1] writePlan writeRun := rfl

/-- A WRITE whose LEN and NV byte are in range. -/
structure WriteArgs (s : State) (w : Fin 2) : Prop where
  some_ : 1 ≤ nvLen s w
  few : nvLen s w ≤ 256
  inside : rf s .NVB_ADDR w 16 0 + nvLen s w ≤ 0x20000

theorem WriteArgs.args (h : WriteArgs s w) : (writePlan s w).args = true := decide_eq_true ⟨h.some_, h.few⟩

theorem WriteArgs.range (h : WriteArgs s w) : (writePlan s w).range = true := decide_eq_true h.inside

theorem writeRun_begins (h : WriteArgs s w) : writeRun s w = setNv s { s.nv with
    begun := true, jobs := (writePages s w).map (fun p => .page p (mergePage s p (rf s .NVB_ADDR w 16 0) (nvBufTake s w (nvLen s w)))), phase := .load } := by
  have some_ : 1 ≤ (rf s .NVB_ADDR w 16 0 + nvLen s w - 1) / 256 + 1 - rf s .NVB_ADDR w 16 0 / 256 := by
    have := h.some_
    omega
  refine nvBegin_loads (map_pages_ne_nil some_ _ _) fun j listed => ?_
  obtain ⟨p, -, rfl⟩ := List.mem_map.1 listed
  rfl

theorem nvWrite_begins (cmd : NvCmd s w q 1) (h : WriteArgs s w) (own : OwnPages s w (writePages s w)) (whole : WholePages s (writePages s w)) :
    nvWrite s = setNv s { s.nv with
      begun := true, jobs := (writePages s w).map (fun p => .page p (mergePage s p (rf s .NVB_ADDR w 16 0) (nvBufTake s w (nvLen s w)))), phase := .load } := by
  have check : nvCheck s w (writePlan s w) = none := nvCheck_passes cmd.2.2.2 h.args h.range (own.imp_right fun all => ⟨rfl, all⟩)
    (any_false fun p listed => (whole p listed).1) (.inr (any_false fun p listed => (whole p listed).2))
  rw [nvWrite_eq, nvCommand_runs cmd rfl writePlan writeRun check, writeRun_begins h]

/-- A WRITE that fails its checks. -/
theorem nvWrite_refuses (cmd : NvCmd s w q 1) (low : status < 16) (check : nvCheck s w (writePlan s w) = some status) : NvFin s w status (nvWrite s) :=
  nvCommand_refuses cmd.1 cmd.2.1 (by rw [cmd.2.2.1]; rfl) writePlan writeRun check low

def erasePlan (s : State) (w : Nat) : NvPlan :=
  ⟨decide (1 ≤ nvLen s w ∧ nvLen s w ≤ 256), decide (nvA s w + nvLen s w ≤ 512), [], pagesFrom (nvA s w) (nvLen s w), false, false⟩

theorem nvErase_begins (cmd : NvCmd s w q 2) (some_ : 1 ≤ nvLen s w) (few : nvLen s w ≤ 256) (inside : nvA s w + nvLen s w ≤ 512)
    (own : OwnPages s w (pagesFrom (nvA s w) (nvLen s w))) (whole : WholePages s (pagesFrom (nvA s w) (nvLen s w))) :
    nvErase s = setNv s { s.nv with begun := true, jobs := (pagesFrom (nvA s w) (nvLen s w)).map .blank, phase := .load } := by
  have check : nvCheck s w (erasePlan s w) = none := nvCheck_passes cmd.2.2.2 (decide_eq_true ⟨some_, few⟩) (decide_eq_true inside)
    (own.imp_right fun all => ⟨rfl, all⟩) (any_false fun p listed => (whole p listed).1) (.inr (any_false fun p listed => (whole p listed).2))
  refine (nvCommand_runs cmd rfl erasePlan (fun s w => nvBegin s ((pagesFrom (nvA s w) (nvLen s w)).map .blank)) check).trans ?_
  refine nvBegin_loads (map_pages_ne_nil some_ _ _) fun j listed => ?_
  obtain ⟨p, -, rfl⟩ := List.mem_map.1 listed
  rfl

/-! ## TWINWR (R1046) -/

def twinWrPlan (s : State) (w : Nat) : NvPlan :=
  ⟨tyOk (nvTy s w) && nvA s w != nvB s w && decide (1 ≤ nvLen s w) && decide (nvLen s w ≤ 244), true, [], [nvA s w, nvB s w], false, false⟩

/-- The SEQ of the copy in a page, 0 where it holds none. -/
def copySeq (s : State) (w p : Nat) : Nat := if recValid s p (some (nvTy s w)) then recSeq (nvPage s p) else 0

/-- The SEQ of the new record of a pair. -/
def twinSeq (s : State) (w : Nat) : Nat := 1 + max (copySeq s w (nvA s w)) (copySeq s w (nvB s w))

def twinWrRun (s : State) (w : Nat) : State :=
  if twinSeq s w > 0xFFFFFFFF then nvEnd s 6
  else nvBegin (wr s .NVB_SEQ w (BitVec.ofNat 32 (twinSeq s w)))
    [.page (nvA s w) (recBytes (nvTy s w) (twinSeq s w) (nvBufTake s w (nvLen s w))), .page (nvB s w) (recBytes (nvTy s w) (twinSeq s w) (nvBufTake s w (nvLen s w)))]

theorem nvTwinWr_runs (cmd : NvCmd s w q 3) (ty : tyOk (nvTy s w) = true) (two : nvA s w ≠ nvB s w) (some_ : 1 ≤ nvLen s w) (few : nvLen s w ≤ 244)
    (own : OwnPages s w [nvA s w, nvB s w]) (whole : WholePages s [nvA s w, nvB s w]) : nvTwinWr s = twinWrRun s w := by
  have args : (twinWrPlan s w).args = true := by
    show (tyOk (nvTy s w) && nvA s w != nvB s w && decide (1 ≤ nvLen s w) && decide (nvLen s w ≤ 244)) = true
    rw [ty, bne_iff_ne.2 two, decide_eq_true some_, decide_eq_true few]
    rfl
  have check : nvCheck s w (twinWrPlan s w) = none := nvCheck_passes cmd.2.2.2 args rfl (own.imp_right fun all => ⟨rfl, all⟩)
    (any_false (ps := [nvA s w, nvB s w]) fun p listed => (whole p listed).1) (.inr (any_false (ps := [nvA s w, nvB s w]) fun p listed => (whole p listed).2))
  exact nvCommand_runs cmd rfl twinWrPlan twinWrRun check

/-! ## RINGAPP (R1053) -/

/-- The ring a block selects, and where its next record goes. -/
abbrev ringSel (s : State) (w : Nat) : Nat := rf s .NVB_SEL w 2 0

def ringPages (s : State) (k : Nat) : List Nat := pagesFrom (ringF s k) (ringS s k)

def ringTargets (s : State) (k : Nat) : List Nat := match ringTarget s k with | some i => [ringF s k + i] | none => []

def ringAppPlan (s : State) (w : Nat) : NvPlan :=
  ⟨tyOk (nvTy s w) && decide (1 ≤ nvLen s w) && decide (nvLen s w ≤ 244) && ringOk s (ringSel s w), true, ringPages s (ringSel s w), ringTargets s (ringSel s w), false, true⟩

/-- The SEQ of the newest record of a ring. -/
def ringNewest (s : State) (k : Nat) : Nat := match (ringRecords s k).head? with | some r => r.1 | none => 0

def ringAppRun (s : State) (w : Nat) : State :=
  match ringTarget s (ringSel s w) with
  | none => nvEnd s 12
  | some i =>
    if ringNewest s (ringSel s w) = 0xFFFFFFFF then nvEnd s 6
    else nvBegin (wr (wr s .NVB_SEQ w (BitVec.ofNat 32 (ringNewest s (ringSel s w) + 1))) .NVB_PAGEB w (BitVec.ofNat 32 (ringF s (ringSel s w) + i)))
      [.page (ringF s (ringSel s w) + i) (recBytes (nvTy s w) (ringNewest s (ringSel s w) + 1) (nvBufTake s w (nvLen s w)))]

theorem ringNewest_eq (s : State) (k : Nat) : ((ringRecords s k).head?.map (fun r => r.1)).getD 0 = ringNewest s k := by
  rw [ringNewest]
  cases (ringRecords s k).head? <;> rfl

/-- The slot of the next record lies in the ring (R1053). -/
theorem ringTarget_lt {k i : Nat} (target : ringTarget s k = some i) : i < ringS s k := by
  have listed := List.mem_of_find?_eq_some (show List.find? _ _ = some i from target)
  obtain ⟨j, inside, rfl⟩ := List.mem_map.1 listed
  exact Nat.mod_lt _ (Nat.lt_of_le_of_lt (Nat.zero_le j) (List.mem_range.1 inside))

theorem ringTargets_inside {k p : Nat} (listed : p ∈ ringTargets s k) : p ∈ ringPages s k := by
  unfold ringTargets at listed
  split at listed
  next i target =>
    rw [List.mem_singleton.1 listed]
    exact List.mem_map.2 ⟨i, List.mem_range.2 (ringTarget_lt target), rfl⟩
  next => exact absurd listed (List.not_mem_nil)

theorem nvRingApp_runs (cmd : NvCmd s w q 5) (ty : tyOk (nvTy s w) = true) (some_ : 1 ≤ nvLen s w) (few : nvLen s w ≤ 244)
    (ring : ringOk s (ringSel s w) = true) (own : OwnPages s w (ringPages s (ringSel s w)))
    (free : ∀ i, ringTarget s (ringSel s w) = some i → nvProtected s (ringF s (ringSel s w) + i) = false) : nvRingApp s = ringAppRun s w := by
  have args : (ringAppPlan s w).args = true := by
    show (tyOk (nvTy s w) && decide (1 ≤ nvLen s w) && decide (nvLen s w ≤ 244) && ringOk s (ringSel s w)) = true
    rw [ty, decide_eq_true some_, decide_eq_true few, ring]
    rfl
  have open_ : (ringAppPlan s w).writes.any (nvProtected s) = false := by
    refine any_false fun p listed => ?_
    replace listed : p ∈ ringTargets s (ringSel s w) := listed
    unfold ringTargets at listed
    split at listed
    next i target =>
      rw [List.mem_singleton.1 listed]
      exact free i target
    next => exact absurd listed List.not_mem_nil
  have check : nvCheck s w (ringAppPlan s w) = none := nvCheck_passes cmd.2.2.2 args rfl
    (own.imp_right fun all => ⟨rfl, fun p listed => all p ((List.mem_append.1 listed).elim id ringTargets_inside)⟩) open_ (.inl rfl)
  exact nvCommand_runs cmd rfl ringAppPlan ringAppRun check

/-! ## Counters (R1056, R1057) -/

def counterPlan (s : State) (w : Nat) : NvPlan := ⟨decide (rf s .NVB_SEL w 2 0 ≤ 3), true, [], [], true, false⟩

theorem nvCommand_counter (cmd : NvCmd s w q code) {codes : List Nat} (listed : codes.contains code = true) (sel : rf s .NVB_SEL w 2 0 ≤ 3)
    (keeper : w.val = 0) (f : State → Nat → State) : nvCommand s codes counterPlan f = f s w :=
  nvCommand_runs cmd listed counterPlan f (nvCheck_passes cmd.2.2.2 (decide_eq_true sel) rfl (.inl keeper) rfl (.inr rfl))

theorem nvMcGo_full (full : mcOf s (rf s .NVB_SEL w 2 0) = 0xFFFFFFFF) (v : Nat → Nat) : nvMcGo s w v = nvEnd (count s .serial 0xA0) 6 := if_pos full

theorem nvMcGo_worn (short : mcOf s (rf s .NVB_SEL w 2 0) ≠ 0xFFFFFFFF) (worn : 32000000 ≤ mcUpdates s (rf s .NVB_SEL w 2 0)) (v : Nat → Nat) :
    nvMcGo s w v = nvEnd s 7 := (if_neg short).trans (if_pos worn)

theorem nvMcGo_stale (short : mcOf s (rf s .NVB_SEL w 2 0) ≠ 0xFFFFFFFF) (sound : mcUpdates s (rf s .NVB_SEL w 2 0) < 32000000) {v : Nat → Nat}
    (stale : v (mcOf s (rf s .NVB_SEL w 2 0)) ≤ mcOf s (rf s .NVB_SEL w 2 0)) : nvMcGo s w v = nvEnd s 8 :=
  (if_neg short).trans ((if_neg (Nat.not_le.2 sound)).trans (if_pos stale))

theorem nvMcGo_moves (short : mcOf s (rf s .NVB_SEL w 2 0) ≠ 0xFFFFFFFF) (sound : mcUpdates s (rf s .NVB_SEL w 2 0) < 32000000) {v : Nat → Nat}
    (higher : mcOf s (rf s .NVB_SEL w 2 0) < v (mcOf s (rf s .NVB_SEL w 2 0))) : nvMcGo s w v = setNv s { s.nv with
      begun := true, jobs := [.counter (rf s .NVB_SEL w 2 0) (v (mcOf s (rf s .NVB_SEL w 2 0)))], phase := .erase } :=
  (if_neg short).trans ((if_neg (Nat.not_le.2 sound)).trans (if_neg (Nat.not_le.2 higher)))

theorem nvMcInc_runs (cmd : NvCmd s w q 7) (sel : rf s .NVB_SEL w 2 0 ≤ 3) (keeper : w.val = 0) : nvMcInc s = nvMcGo s w fun v => v + 1 :=
  nvCommand_counter cmd rfl sel keeper fun s w => nvMcGo s w fun v => v + 1

theorem nvMcRaise_runs (cmd : NvCmd s w q 8) (sel : rf s .NVB_SEL w 2 0 ≤ 3) (keeper : w.val = 0) : nvMcRaise s = nvMcGo s w fun _ => rn s .NVB_VALUE w :=
  nvCommand_counter cmd rfl sel keeper fun s w => nvMcGo s w fun _ => rn s .NVB_VALUE w

/-- The counters are not for normal world (R1056). -/
theorem nvMcInc_denied (cmd : NvCmd s w q 7) (sel : rf s .NVB_SEL w 2 0 ≤ 3) (normal : w.val = 1) : NvFin s w 3 (nvMcInc s) := by
  refine nvCommand_refuses cmd.1 cmd.2.1 (by rw [cmd.2.2.1]; rfl) counterPlan _ (nvCheck_owner cmd.2.2.2 (decide_eq_true sel) rfl ?_) (by decide)
  rintro (keeper | ⟨no, -⟩)
  · omega
  · exact Bool.noConfusion no

/-! ## PROTECT (R1043) -/

def protectNew (s : State) (w : Nat) : Nat := rf s .NVB_VALUE w 1 0

/-- The region in force or the new one holds a keeper's page. -/
def protectKeeps (s : State) (w : Nat) : Prop := bpFrom s.nv.bp < nwm s ∨ bpFrom (protectNew s w) < nwm s

def protectPlan (s : State) (w : Nat) : NvPlan :=
  ⟨true, true, [], [], decide (bpFrom s.nv.bp < nwm s) || decide (bpFrom (protectNew s w) < nwm s), false⟩

def protectRun (s : State) (w : Nat) : State := if protectNew s w < s.nv.bp ∧ wpn s = false then nvEnd s 4 else nvBegin s [.protect (protectNew s w)]

theorem protectPlan_denied (s : State) (w : Nat) : (protectPlan s w).denied = true ↔ protectKeeps s w := by
  show (decide _ || decide _) = true ↔ _
  rw [Bool.or_eq_true, decide_eq_true_iff, decide_eq_true_iff]
  rfl

theorem nvProtect_denied (cmd : NvCmd s w q 9) (normal : w.val = 1) (keeps : protectKeeps s w) : NvFin s w 3 (nvProtect s) := by
  refine nvCommand_refuses cmd.1 cmd.2.1 (by rw [cmd.2.2.1]; rfl) protectPlan protectRun (nvCheck_owner cmd.2.2.2 rfl rfl ?_) (by decide)
  rintro (keeper | ⟨no, -⟩)
  · omega
  · exact ne_false_of_eq_true ((protectPlan_denied s w).2 keeps) no

theorem nvProtect_runs (cmd : NvCmd s w q 9) (may : w.val = 0 ∨ ¬ protectKeeps s w) : nvProtect s = protectRun s w := by
  have own : NvOwn s w (protectPlan s w) :=
    may.imp_right fun free => ⟨Bool.eq_false_iff.2 fun denied => free ((protectPlan_denied s w).1 denied), fun _ listed => absurd listed List.not_mem_nil⟩
  exact nvCommand_runs cmd rfl protectPlan protectRun (nvCheck_passes cmd.2.2.2 rfl rfl own rfl (.inr rfl))

/-! ## Codes that are no command (R1031) -/

theorem nvBad_refuses (cmd : NvCmd s w q code) (none : code = 0 ∨ 11 ≤ code) : NvFin s w 1 (nvBad s) := by
  have low : rf s .NVB_CMD w 3 0 < 16 := Nat.mod_lt _ (by decide)
  obtain ⟨run, fresh, is_, on⟩ := cmd
  rw [is_] at low
  have listed : List.contains [0, 11, 12, 13, 14, 15] (rf s .NVB_CMD w 3 0) = true := by
    have cases_ : code = 0 ∨ code = 11 ∨ code = 12 ∨ code = 13 ∨ code = 14 ∨ code = 15 := by omega
    rw [is_]
    obtain rfl | rfl | rfl | rfl | rfl | rfl := cases_ <;> rfl
  exact nvCommand_refuses run fresh listed (fun _ _ => ⟨false, true, [], [], false, false⟩) (fun s _ => s) (nvCheck_args on rfl _) (by decide)

end Sys2Proof.Proofs
end

section
/-! # Chapter 20: commands that read (R1048, R1049, R1054), and the ROM's boot record (R154-R157) -/
namespace Sys2Proof.Proofs
open Sys2Proof.Machine Sys2Proof.Laws

variable {s t u : State} {A : Nat → Prop} {w : Fin 2} {q code status : Nat}

/-! ## A record returned in a block -/

theorem nvbRes_apart (w : Fin 2) : regAddr .NVB_RES w ≠ regAddr .NVB_LEN w ∧ regAddr .NVB_RES w ≠ regAddr .NVB_SEQ w ∧
    regAddr .NVB_RES w ≠ regAddr .NVB_TYPE w ∧ regAddr .NVB_RES w ≠ regAddr .NVB_PAGEB w := by revert w; decide

/-- A block's buffer after bytes are put into it from byte 0. -/
theorem nvBuf_put (s : State) (w : Nat) (bs : List Byte) {i : Nat} (low : i < bs.length) : nvBuf (nvBufPut s w bs) w i = bs.getD i 0 := by
  have filled (n : Nat) : ∀ k, k < n → mget (fun _ => (0 : Byte))
      ((List.range n).foldl (fun m i => mset (fun _ => 0) m (256 * w + i) (bs.getD i 0)) s.nv.buf) (256 * w + k) = bs.getD k 0 := by
    induction n with
    | zero => exact fun k no => absurd no (Nat.not_lt_zero k)
    | succ n ih =>
      intro k inside
      rw [List.range_succ, List.foldl_append]
      by_cases last : k = n
      · rw [last]
        exact mget_mset_same ..
      · refine (mget_mset_ne (fun _ => (0 : Byte)) (fun _ => 0) _ _ (by omega)).trans (ih k (by omega))
  exact filled bs.length i low

/-- A valid record's payload is as long as its LEN (R1044, R1045). -/
theorem recPayload_length {p : Nat} {ty : Option Nat} (valid : recValid s p ty = true) : (recPayload (nvPage s p)).length = recLen (nvPage s p) := by
  have short : recLen (nvPage s p) ≤ 244 := by
    unfold recValid at valid
    simp only [Bool.and_eq_true, decide_eq_true_iff] at valid
    exact valid.1.1.2
  have page : (nvPage s p).length = 256 := by rw [nvPage, List.length_map, List.length_range]
  rw [recPayload, List.length_take, List.length_drop, page]
  omega

/-- A record returned: its payload in the buffer, LEN and SEQ (R1048, R1054). -/
theorem nvReturn_effects (s : State) (w : Fin 2) (p : Nat) : let t := nvReturn s w p
    rd t .NVB_LEN w = BitVec.ofNat 32 (recLen (nvPage s p)) ∧ rd t .NVB_SEQ w = BitVec.ofNat 32 (recSeq (nvPage s p)) ∧
      t.nv = (nvBufPut s w (recPayload (nvPage s p))).nv ∧ ∀ {A : Nat → Prop}, ¬ A (regAddr .NVB_LEN w) → ¬ A (regAddr .NVB_SEQ w) → Keeps A s t := by
  have apart : regAddr .NVB_LEN w ≠ regAddr .NVB_SEQ w := by revert w; decide
  refine ⟨?_, rd_wr_same .., rfl, fun len seq => (((Keeps.refl s).setNv _).wr len _).wr seq _⟩
  exact (rd_wr_ne _ _ _ _ _ _ apart).trans (rd_wr_same ..)

/-! ## Findings and marks (R1048, R1049) -/

theorem twinCount_shows (s : State) (twin : Nat) : Shows s (twinCount s twin) :=
  .ite ((Shows.refl s).count (by decide) _) (.ite (((Shows.refl s).count (by decide) _).raise (by decide) _)
    (.ite ((Shows.refl s).count (by decide) _) (Shows.refl s)))

theorem Keeps.twinCount (h : Keeps A s t) (twin : Nat) : Keeps A s (twinCount t twin) :=
  ite (h.count (by decide) _) (ite ((h.count (by decide) _).raise (by decide) _) (ite (h.count (by decide) _) h))

/-- A mark enters the list, is there, or is dropped: the entry written, if any, was free. -/
theorem nvMark_cases (s : State) (page partner ty : Nat) :
    ((∃ k, k < 8 ∧ rd s .NV_RS k = markWord page partner ty) ∧ nvMark s page partner ty = s) ∨
    (∃ k, k < 8 ∧ nvMark s page partner ty = wr s .NV_RS k (markWord page partner ty)) ∨
    ((∀ k, k < 8 → rb s .NV_RS k 31 = true) ∧ nvMark s page partner ty = wb s .NV_STAT 0 2 true) := by
  unfold nvMark
  split
  next there =>
    obtain ⟨k, listed, same⟩ := List.any_eq_true.1 there
    exact .inl ⟨⟨k, List.mem_range.1 listed, beq_iff_eq.1 same⟩, rfl⟩
  next =>
    split
    next k free => exact .inr (.inl ⟨k, List.mem_range.1 (List.mem_of_find?_eq_some free), rfl⟩)
    next full =>
      refine .inr (.inr ⟨fun k low => ?_, rfl⟩)
      have taken := List.find?_eq_none.1 full k (List.mem_range.2 low)
      simpa using taken

/-- With a free entry the mark is in the list (R1049). -/
theorem nvMark_listed (page partner ty : Nat) {j : Nat} (low : j < 8) (free : rb s .NV_RS j 31 = false) :
    ∃ k, k < 8 ∧ rd (nvMark s page partner ty) .NV_RS k = markWord page partner ty := by
  obtain ⟨⟨k, k8, there⟩, same⟩ | ⟨k, k8, marked⟩ | ⟨full, -⟩ := nvMark_cases s page partner ty
  · exact ⟨k, k8, by rw [same]; exact there⟩
  · exact ⟨k, k8, by rw [marked, rd_wr_same]⟩
  · exact absurd (full j low) (ne_true_of_eq_false free)

/-- No register of a block is of the marks or of NV_STAT. -/
abbrev MarkRegs (a : Nat) : Prop := a = regAddr .NV_STAT 0 ∨ ∃ k, k < 8 ∧ a = regAddr .NV_RS k

theorem Keeps.nvMark (h : Keeps A s t) (apart : ∀ a, A a → ¬ MarkRegs a) (page partner ty : Nat) : Keeps A s (nvMark t page partner ty) := by
  obtain ⟨-, same⟩ | ⟨k, k8, marked⟩ | ⟨-, full⟩ := nvMark_cases t page partner ty
  · rwa [same]
  · rw [marked]
    exact h.wr (fun inside => apart _ inside (.inr ⟨k, k8, rfl⟩)) _
  · rw [full]
    exact h.wb (fun inside => apart _ inside (.inl rfl)) 2 true

theorem nvMark_shows (s : State) (page partner ty : Nat) : Shows s (nvMark s page partner ty) := by
  obtain ⟨-, same⟩ | ⟨k, -, marked⟩ | ⟨-, full⟩ := nvMark_cases s page partner ty
  · rw [same]
    exact .refl s
  · rw [marked]
    exact (Shows.refl s).wr ..
  · rw [full]
    exact (Shows.refl s).wb ..

/-! ## TWINRD (R1048) -/

/-- TWIN has two bits. -/
theorem twinRead_got {a b ty p k : Nat} {m : Option Nat} (got : twinRead s a b ty = .got p k m) : k < 4 ∧ recValid s p (some ty) = true := by
  unfold twinRead at got
  dsimp only at got
  cases va : recValid s a (some ty) <;> cases vb : recValid s b (some ty) <;> simp only [va, vb, Bool.and_self, Bool.and_true, Bool.and_false, Bool.false_eq_true, if_true, if_false] at got
  case false.false => split at got <;> cases got
  case false.true =>
    cases got
    exact ⟨by decide, vb⟩
  case true.false =>
    cases got
    exact ⟨by decide, va⟩
  case true.true =>
    split at got
    · cases got
      exact ⟨by decide, va⟩
    · split at got
      · cases got
        exact ⟨by decide, va⟩
      · split at got
        · cases got
          exact ⟨by decide, vb⟩
        · cases got
          exact ⟨by decide, va⟩

def twinRdPlan (s : State) (w : Nat) : NvPlan := ⟨tyOk (nvTy s w) && nvA s w != nvB s w, true, [nvA s w, nvB s w], [], false, false⟩

/-- The page that a finding marks, if any, marked with its partner. -/
def twinMarked (s : State) (a b ty : Nat) (m : Option Nat) : State := match m with
  | some x => nvMark s x (if x = a then b else a) ty
  | none => s

/-- A copy returned, with TWIN, its event and its mark, before the command ends. -/
def twinReturned (s : State) (w p k : Nat) (m : Option Nat) : State :=
  twinMarked (twinCount (wf (nvReturn s w p) .NVB_RES w 5 4 k) k) (nvA s w) (nvB s w) (nvTy s w) m

def twinRdRun (s : State) (w : Nat) : State := match twinRead s (nvA s w) (nvB s w) (nvTy s w) with
  | .got p k m => nvEnd (twinReturned s w p k m) 0
  | .blank => nvEnd s 9
  | .bad => nvEnd (raise s .serial 93) 10

theorem nvTwinRd_runs (cmd : NvCmd s w q 4) (ty : tyOk (nvTy s w) = true) (two : nvA s w ≠ nvB s w) (own : OwnPages s w [nvA s w, nvB s w]) :
    nvTwinRd s = twinRdRun s w := by
  have args : (twinRdPlan s w).args = true := by
    show (tyOk (nvTy s w) && nvA s w != nvB s w) = true
    rw [ty, bne_iff_ne.2 two]
    rfl
  exact nvCommand_runs cmd rfl twinRdPlan twinRdRun (nvCheck_passes cmd.2.2.2 args rfl (own.imp_right fun all => ⟨rfl, all⟩) rfl (.inr rfl))

theorem Keeps.twinMarked (h : Keeps A s t) (apart : ∀ a, A a → ¬ MarkRegs a) (a b ty : Nat) (m : Option Nat) : Keeps A s (twinMarked t a b ty m) := by
  cases m with
  | none => exact h
  | some x => exact h.nvMark apart ..

theorem twinMarked_shows (s : State) (a b ty : Nat) (m : Option Nat) : Shows s (twinMarked s a b ty m) := by
  cases m with
  | none => exact .refl s
  | some x => exact nvMark_shows ..

/-- The addresses of the blocks' registers. -/
abbrev BlockAddr (a : Nat) : Prop := 0x3A00 ≤ a ∧ a < 0x3A80

theorem markRegs_high {a : Nat} (marks : MarkRegs a) : 0x3A82 ≤ a := by
  obtain rfl | ⟨k, k8, rfl⟩ := marks
  · decide
  · simp only [regAddr, regInfo]
    omega

theorem at_apart {r : Rg} {i : Nat} (block : BlockAddr (regAddr r i)) : ∀ a, At r i a → ¬ MarkRegs a := by
  rintro a rfl marks
  have := markRegs_high marks
  omega

/-- What a copy returned leaves of a block's other registers, until its command has ended. -/
theorem twinEnd_keeps {p k : Nat} {m : Option Nat} (run : (twinReturned s w p k m).nv.run = some (w.val, q)) {r : Rg} {i : Nat} (block : BlockAddr (regAddr r i))
    (res : regAddr .NVB_RES w ≠ regAddr r i) : Keeps (At r i) (nvReturn s w p) (nvEnd (twinReturned s w p k m) 0) := by
  have state : regAddr .NV_STATE 0 ≠ regAddr r i := by
    have high : regAddr .NV_STATE 0 = 0x3A81 := by decide
    omega
  have start : Keeps (At r i) (nvReturn s w p) (nvReturn s w p) := Keeps.refl _
  have marked : Keeps (At r i) (nvReturn s w p) (twinReturned s w p k m) :=
    ((start.wf res 5 4 k).twinCount k).twinMarked (at_apart block) (nvA s w) (nvB s w) (nvTy s w) m
  exact marked.nvEnd run res state 0

theorem twinReturned_nv (s : State) (w : Fin 2) (p k : Nat) (m : Option Nat) : (twinReturned s w p k m).nv = (nvBufPut s w (recPayload (nvPage s p))).nv := by
  have shown : Shows (nvReturn s w p) (twinReturned s w p k m) := (((Shows.refl _).wf ..).trans (twinCount_shows ..)).trans (twinMarked_shows ..)
  exact shown.nv.trans (nvReturn_effects s w p).2.2.1

theorem Keeps.twinReturned (len : ¬ A (regAddr .NVB_LEN w)) (seq : ¬ A (regAddr .NVB_SEQ w)) (res : ¬ A (regAddr .NVB_RES w))
    (marks : ∀ a, A a → ¬ MarkRegs a) (p k : Nat) (m : Option Nat) : Keeps A s (twinReturned s w p k m) :=
  (((((nvReturn_effects s w p).2.2.2 len seq).wf res 5 4 k).twinCount k).twinMarked marks (nvA s w) (nvB s w) (nvTy s w) m)

/-- With a free entry the page to mark is in the list of marks (R1049). -/
theorem twinReturned_marks (w : Fin 2) (p k : Nat) {x j : Nat} (low : j < 8) (free : rb s .NV_RS j 31 = false) :
    ∃ i, i < 8 ∧ rd (twinReturned s w p k (some x)) .NV_RS i = markWord x (if x = nvA s w then nvB s w else nvA s w) (nvTy s w) := by
  have apart {r : Rg} (block : r = .NVB_LEN ∨ r = .NVB_SEQ ∨ r = .NVB_RES) : regAddr r w ≠ regAddr .NV_RS j := by
    have := w.isLt
    obtain rfl | rfl | rfl := block <;> simp only [regAddr, regInfo] <;> omega
  have returned : Keeps (At .NV_RS j) s (nvReturn s w p) := (nvReturn_effects s w p).2.2.2 (apart (.inl rfl)) (apart (.inr (.inl rfl)))
  have kept : Keeps (At .NV_RS j) s (twinCount (wf (nvReturn s w p) .NVB_RES w 5 4 k) k) := (returned.wf (apart (.inr (.inr rfl))) 5 4 k).twinCount k
  exact nvMark_listed _ _ _ low ((kept.rb rfl 31).trans free)

/-- TWINRD finds a copy (R1048, R1049). -/
theorem twinGot_effects {p k : Nat} {m : Option Nat} (run : s.nv.run = some (w.val, q)) (got : twinRead s (nvA s w) (nvB s w) (nvTy s w) = .got p k m) :
    let t := nvEnd (twinReturned s w p k m) 0
    NvFin s w 0 t ∧ rf t .NVB_RES w 5 4 = k ∧ rd t .NVB_LEN w = BitVec.ofNat 32 (recLen (nvPage s p)) ∧
      rd t .NVB_SEQ w = BitVec.ofNat 32 (recSeq (nvPage s p)) ∧ (∀ i, i < recLen (nvPage s p) → nvBuf t w i = (recPayload (nvPage s p)).getD i 0) ∧
      (∀ x j, m = some x → j < 8 → rb s .NV_RS j 31 = false →
        ∃ i, i < 8 ∧ rd t .NV_RS i = markWord x (if x = nvA s w then nvB s w else nvA s w) (nvTy s w)) := by
  obtain ⟨k4, valid⟩ := twinRead_got got
  obtain ⟨len, seq, -, -⟩ := nvReturn_effects s w p
  have nv := twinReturned_nv s w p k m
  have run' : (twinReturned s w p k m).nv.run = some (w.val, q) := (congrArg Nv.run nv).trans run
  have inBlock {r : Rg} (block : r = .NVB_LEN ∨ r = .NVB_SEQ ∨ r = .NVB_RES) : BlockAddr (regAddr r w) := by
    have := w.isLt
    obtain rfl | rfl | rfl := block <;> simp only [BlockAddr, regAddr, regInfo] <;> omega
  have resLen : regAddr .NVB_RES w ≠ regAddr .NVB_LEN w := (nvbRes_apart w).1
  have resSeq : regAddr .NVB_RES w ≠ regAddr .NVB_SEQ w := (nvbRes_apart w).2.1
  refine ⟨nvEnd_fin (Keeps.twinReturned id id id (fun _ no => no.elim) p k m) run' (by decide), ?_, ?_, ?_, fun i low => ?_, fun x j mark low free => ?_⟩
  · have kept : Keeps (At .NVB_RES w) (wf (nvReturn s w p) .NVB_RES w 5 4 k) (twinReturned s w p k m) :=
      ((Keeps.refl _).twinCount k).twinMarked (at_apart (inBlock (.inr (.inr rfl)))) (nvA s w) (nvB s w) (nvTy s w) m
    rw [(nvEnd_res run' 0).2.2.2, kept.rf rfl, rf_wf_same _ _ _ _ (by decide) (by decide)]
    exact Nat.mod_eq_of_lt k4
  · exact ((twinEnd_keeps run' (inBlock (.inl rfl)) resLen).rd rfl).trans len
  · exact ((twinEnd_keeps run' (inBlock (.inr (.inl rfl))) resSeq).rd rfl).trans seq
  · have buf : (nvEnd (twinReturned s w p k m) 0).nv.buf = (nvBufPut s w (recPayload (nvPage s p))).nv.buf :=
      (congrArg Nv.buf (nvEnd_shows run' 0).nv).trans (congrArg Nv.buf nv :)
    rw [nvBuf, buf]
    exact nvBuf_put s w _ (by rw [recPayload_length valid]; exact low)
  · subst mark
    obtain ⟨i, i8, marked⟩ := twinReturned_marks w p k (x := x) low free
    have resRs : regAddr .NVB_RES w ≠ regAddr .NV_RS i := by
      have := w.isLt
      simp only [regAddr, regInfo]
      omega
    have stateRs : regAddr .NV_STATE 0 ≠ regAddr .NV_RS i := by
      simp only [regAddr, regInfo]
      omega
    have start : Keeps (At .NV_RS i) (twinReturned s w p k (some x)) (twinReturned s w p k (some x)) := Keeps.refl _
    exact ⟨i, i8, ((start.nvEnd run' resRs stateRs 0).rd rfl).trans marked⟩

end Sys2Proof.Proofs
end

section
/-! # Chapters 03 and 20: the ROM's read of the boot record (R154-R157), and RINGRD (R1054) -/
namespace Sys2Proof.Proofs
open Sys2Proof.Machine Sys2Proof.Laws

variable {s t u : State} {A : Nat → Prop} {w : Fin 2} {q code status : Nat}

/-! ## SAFE-hold and the NV controller -/

/-- The addresses of the NV store's registers. -/
abbrev NvAddr (a : Nat) : Prop := 0x3A00 ≤ a ∧ a < 0x3B00

theorem statShow_xwait (s : State) : (statShow s).xwait = s.xwait := by
  have led (v : State) (k : Nat) : (ledStart v k).xwait = v.xwait := by
    unfold ledStart
    split
    · rfl
    · rfl
    · split <;> rfl
    · rfl
  unfold statShow
  split
  · rfl
  · split
    · rfl
    all_goals exact led _ 0

theorem Keeps.statShow_nv (h : Keeps NvAddr s t) : Keeps NvAddr s (statShow t) := by
  unfold Machine.statShow
  split
  · exact h
  · split
    · exact h
    all_goals exact h.ledSet (by decide) (by decide) (by decide) (by decide) (by decide) ..

theorem Keeps.safeHoldBy_nv (h : Keeps NvAddr s t) (cause : Nat) : Keeps NvAddr s (safeHoldBy t cause) :=
  (((h.setDev _).wb (by decide) 2 true).wf (by decide) 3 0 cause).statShow_nv

theorem safeHoldBy_nv (s : State) (cause : Nat) : (safeHoldBy s cause).nv = s.nv := by
  have shown : LeavesSystem (heldFor s cause) (statShow (heldFor s cause)) := (LeavesSystem.refl _).statShow
  rw [safeHoldBy_eq, shown.others]
  rfl

theorem safeHoldBy_posts (s : State) (cause : Nat) : Posts s (safeHoldBy s cause) := (Posts.refl s).part (statShow_xwait _)

/-- The debug enables stay under SAFE-hold. -/
theorem dbgen_safeHoldBy (s : State) (cause : Nat) : rd (safeHoldBy s cause) .TG_DBGEN 0 = rd s .TG_DBGEN 0 := by
  have shown : LeavesSystem (heldFor s cause) (statShow (heldFor s cause)) := (LeavesSystem.refl _).statShow
  rw [safeHoldBy_eq, shown.rd (by decide), heldFor, rd_wf_ne _ _ _ _ _ _ _ _ (by decide), rd_wb_ne _ _ _ _ _ _ _ (by decide)]
  rfl

/-! ## The boot record (R154-R157) -/

/-- KEYHASH of the boot record taken. -/
def keyTaken (s : State) : State := setDev s { s.dev with keyhash := some (nvBufTake s 0 32) }

theorem bootRecord_eq (status : Nat) (s : State) : bootRecord status s =
    if status = 9 then safeHoldBy (wr s .TG_DBGEN 0 15) 4
    else if status ≠ 0 then safeHoldBy (wr s .TG_DBGEN 0 0) 5
    else if (nvBufTake s 0 32).all fun b => b == 0xFF then safeHoldBy (wr (keyTaken s) .TG_DBGEN 0 15) 4
    else wr (keyTaken s) .TG_DBGEN 0 (BitVec.ofNat 32 ((nvBuf s 0 32).toNat % 16)) := rfl

/-- The ROM's check of the boot record leaves the NV store and its registers. -/
theorem bootRecord_kept (status : Nat) (s : State) : let t := bootRecord status s
    Keeps NvAddr s t ∧ t.nv = s.nv ∧ Posts s t := by
  have written (v : Quad) : Keeps NvAddr s (wr s .TG_DBGEN 0 v) := (Keeps.refl s).wr (by decide) v
  have keyed (v : Quad) : Keeps NvAddr s (wr (keyTaken s) .TG_DBGEN 0 v) := ((Keeps.refl s).setDev _).wr (by decide) v
  have posts {v : State} (same : v.xwait = s.xwait) (cause : Nat) : Posts s (safeHoldBy v cause) := ((Posts.refl s).part same).trans (safeHoldBy_posts v cause)
  rw [bootRecord_eq]
  split
  · exact ⟨(written 15).safeHoldBy_nv 4, safeHoldBy_nv .., posts (v := wr s .TG_DBGEN 0 15) rfl 4⟩
  · split
    · exact ⟨(written 0).safeHoldBy_nv 5, safeHoldBy_nv .., posts (v := wr s .TG_DBGEN 0 0) rfl 5⟩
    · split
      · exact ⟨(keyed 15).safeHoldBy_nv 4, safeHoldBy_nv .., posts (v := wr (keyTaken s) .TG_DBGEN 0 15) rfl 4⟩
      · exact ⟨keyed _, rfl, (Posts.refl s).part rfl⟩

/-- HOLD with a cause. -/
abbrev HeldWith (t : State) (cause : Nat) : Prop := rb t .PMU_MODE 0 2 = true ∧ rf t .PMU_BOOTSTAT 0 3 0 = cause

theorem bootRecord_blank (s : State) : rd (bootRecord 9 s) .TG_DBGEN 0 = 15 ∧ HeldWith (bootRecord 9 s) 4 := by
  have row : bootRecord 9 s = safeHoldBy (wr s .TG_DBGEN 0 15) 4 := rfl
  rw [row]
  exact ⟨(dbgen_safeHoldBy ..).trans (rd_wr_same ..), (safeHoldBy_effects _ (by decide)).1⟩

theorem bootRecord_bad (s : State) : rd (bootRecord 10 s) .TG_DBGEN 0 = 0 ∧ HeldWith (bootRecord 10 s) 5 := by
  have row : bootRecord 10 s = safeHoldBy (wr s .TG_DBGEN 0 0) 5 := rfl
  rw [row]
  exact ⟨(dbgen_safeHoldBy ..).trans (rd_wr_same ..), (safeHoldBy_effects _ (by decide)).1⟩

/-- A boot record read: KEYHASH, and the debug enables its byte 32 gives, or those of an erased key (R155, R157). -/
theorem bootRecord_read (s : State) : let t := bootRecord 0 s
    t.dev.keyhash = some (nvBufTake t 0 32) ∧
      (if (nvBufTake t 0 32).all (fun b => b == 0xFF) then rd t .TG_DBGEN 0 = 15 ∧ HeldWith t 4
       else rd t .TG_DBGEN 0 = BitVec.ofNat 32 ((nvBuf t 0 32).toNat % 16) ∧ rd t .PMU_MODE 0 = rd s .PMU_MODE 0) := by
  have nv : (bootRecord 0 s).nv = s.nv := (bootRecord_kept 0 s).2.1
  have byte (i : Nat) : nvBuf (bootRecord 0 s) 0 i = nvBuf s 0 i := by rw [nvBuf, nv, nvBuf]
  have key : nvBufTake (bootRecord 0 s) 0 32 = nvBufTake s 0 32 := List.map_congr_left fun i _ => byte i
  dsimp only
  rw [key, byte]
  have row : bootRecord 0 s = if (nvBufTake s 0 32).all fun b => b == 0xFF then safeHoldBy (wr (keyTaken s) .TG_DBGEN 0 15) 4
    else wr (keyTaken s) .TG_DBGEN 0 (BitVec.ofNat 32 ((nvBuf s 0 32).toNat % 16)) := rfl
  rw [row]
  by_cases erased : ((nvBufTake s 0 32).all fun b => b == 0xFF) = true
  · have held := safeHoldBy_effects (wr (keyTaken s) .TG_DBGEN 0 15) (cause := 4) (by decide)
    rw [if_pos erased, if_pos erased]
    exact ⟨by rw [held.2.1.dev]; rfl, (dbgen_safeHoldBy ..).trans (rd_wr_same ..), held.1⟩
  · rw [if_neg erased, if_neg erased]
    exact ⟨rfl, rd_wr_same .., rd_wr_ne _ _ _ _ _ _ (by decide)⟩

/-- The read of the boot record is in block 0 and has not ended. -/
theorem readsBoot_run (reads : readsBoot s = true) (run : s.nv.run = some (w.val, q)) : w.val = 0 := by
  unfold readsBoot at reads
  rw [run] at reads
  simp only [Bool.and_eq_true, beq_iff_eq] at reads
  tauto

theorem twinRdBoot_reads (reads : readsBoot s = true) (run : s.nv.run = some (w.val, q)) (over_ : (nvTwinRd s).nv.run = none) :
    twinRdBoot s = bootRecord (rf (nvTwinRd s) .NVB_RES 0 3 0) (nvTwinRd s) := by
  rw [twinRdBoot]
  refine if_pos ?_
  rw [reads, run, over_]
  rfl

/-- TWINRD with or without the ROM's check of what it found: the NV store and its registers are those of TWINRD. -/
theorem twinRdBoot_kept (s : State) : Keeps NvAddr (nvTwinRd s) (twinRdBoot s) ∧ (twinRdBoot s).nv = (nvTwinRd s).nv ∧ Posts (nvTwinRd s) (twinRdBoot s) := by
  rw [twinRdBoot]
  split
  · exact bootRecord_kept ..
  · exact ⟨Keeps.refl _, rfl, .refl _⟩

theorem nvbRes_inside (w : Fin 2) : NvAddr (regAddr .NVB_RES w) := by revert w; decide

/-- A command that has ended has ended still after changes that leave the NV store, threads and memories. -/
theorem NvFin.kept (fin : NvFin s w status t) (k : Keeps NvAddr t u) (nv : u.nv = t.nv) : NvFin s w status u := by
  have inside := nvbRes_inside w
  obtain ⟨shown, idle, done, run, threads, memory⟩ := fin
  exact ⟨(k.rf inside 3 0).trans shown, (k.rb inside 6).trans idle, (k.rb inside 7).trans done, (congrArg Nv.run nv).trans run,
    k.thr.trans threads, SameMemory.trans memory k.memory⟩

end Sys2Proof.Proofs
end

section
/-! # Chapter 20: RINGRD, MAINT and the store that comes up (R1022, R1050, R1054) -/
namespace Sys2Proof.Proofs
open Sys2Proof.Machine Sys2Proof.Laws

variable {s t u : State} {A : Nat → Prop} {w : Fin 2} {q code status : Nat}

/-! ## RINGRD (R1054) -/

theorem mem_ringInsert {r x : Nat × Nat} {l : List (Nat × Nat)} (inside : x ∈ ringInsert r l) : x = r ∨ x ∈ l := by
  induction l with
  | nil => exact .inl (List.mem_singleton.1 inside)
  | cons y l ih =>
    unfold ringInsert at inside
    split at inside
    · exact List.mem_cons.1 inside
    · obtain first | later := List.mem_cons.1 inside
      · exact .inr (List.mem_cons.2 (.inl first))
      · exact (ih later).imp_right fun old => List.mem_cons_of_mem _ old

/-- A record of a ring is a valid one (R1052). -/
theorem ringRecords_valid {k : Nat} {r : Nat × Nat} (listed : r ∈ ringRecords s k) : recValid s (ringF s k + r.2) none = true := by
  have folded (l acc : List (Nat × Nat)) (inside : r ∈ l.foldl (fun acc r => ringInsert r acc) acc) : r ∈ l ∨ r ∈ acc := by
    induction l generalizing acc with
    | nil => exact .inr inside
    | cons x l ih =>
      obtain later | now := ih _ inside
      · exact .inl (List.mem_cons_of_mem _ later)
      · exact (mem_ringInsert now).imp_left fun first => List.mem_cons.2 (.inl first)
  obtain found | none := folded _ _ listed
  · obtain ⟨i, -, some_⟩ := List.mem_filterMap.1 found
    split at some_
    next valid =>
      cases some_
      exact valid
    next => cases some_
  · exact absurd none List.not_mem_nil

def ringRdPlan (s : State) (w : Nat) : NvPlan := ⟨ringOk s (ringSel s w), true, ringPages s (ringSel s w), [], false, false⟩

/-- A ring's record returned in a block, with its TYPE and its page. -/
def ringReturned (s : State) (w p : Nat) : State :=
  wr (wr (nvReturn s w p) .NVB_TYPE w (BitVec.ofNat 32 (recType (nvPage s p)))) .NVB_PAGEB w (BitVec.ofNat 32 p)

def ringRdRun (s : State) (w : Nat) : State := match (ringRecords s (ringSel s w))[rf s .NVB_IDX w 4 0]? with
  | none => nvEnd s 11
  | some r => nvEnd (ringReturned s w (ringF s (ringSel s w) + r.2)) 0

theorem nvRingRd_runs (cmd : NvCmd s w q 6) (ring : ringOk s (ringSel s w) = true) (own : OwnPages s w (ringPages s (ringSel s w))) :
    nvRingRd s = ringRdRun s w := by
  have mine : NvOwn s w (ringRdPlan s w) :=
    own.imp_right fun all => ⟨rfl, fun p listed => all p ((List.mem_append.1 listed).elim id fun no => absurd no List.not_mem_nil)⟩
  exact nvCommand_runs cmd rfl ringRdPlan ringRdRun (nvCheck_passes cmd.2.2.2 ring rfl mine rfl (.inr rfl))

/-- RINGRD finds a record (R1054). -/
theorem ringGot_effects {p : Nat} (run : s.nv.run = some (w.val, q)) (valid : recValid s p none = true) : let t := nvEnd (ringReturned s w p) 0
    NvFin s w 0 t ∧ rd t .NVB_LEN w = BitVec.ofNat 32 (recLen (nvPage s p)) ∧ rd t .NVB_SEQ w = BitVec.ofNat 32 (recSeq (nvPage s p)) ∧
      rd t .NVB_TYPE w = BitVec.ofNat 32 (recType (nvPage s p)) ∧ rd t .NVB_PAGEB w = BitVec.ofNat 32 p ∧
      (∀ i, i < recLen (nvPage s p) → nvBuf t w i = (recPayload (nvPage s p)).getD i 0) := by
  obtain ⟨len, seq, nv, kept⟩ := nvReturn_effects s w p
  obtain ⟨resLen, resSeq, resType, resPage⟩ := nvbRes_apart w
  have run' : (ringReturned s w p).nv.run = some (w.val, q) := (congrArg Nv.run nv).trans run
  have apart : ∀ w : Fin 2, (regAddr .NVB_LEN w ≠ regAddr .NVB_TYPE w ∧ regAddr .NVB_LEN w ≠ regAddr .NVB_PAGEB w ∧ regAddr .NVB_SEQ w ≠ regAddr .NVB_TYPE w ∧
      regAddr .NVB_SEQ w ≠ regAddr .NVB_PAGEB w ∧ regAddr .NVB_TYPE w ≠ regAddr .NVB_PAGEB w) ∧ regAddr .NV_STATE 0 ≠ regAddr .NVB_LEN w ∧
      regAddr .NV_STATE 0 ≠ regAddr .NVB_SEQ w ∧ regAddr .NV_STATE 0 ≠ regAddr .NVB_TYPE w ∧ regAddr .NV_STATE 0 ≠ regAddr .NVB_PAGEB w := by decide
  obtain ⟨⟨lenType, lenPage, seqType, seqPage, typePage⟩, stateLen, stateSeq, stateType, statePage⟩ := apart w
  have ended {r : Rg} (res : regAddr .NVB_RES w ≠ regAddr r w) (state : regAddr .NV_STATE 0 ≠ regAddr r w) :
      rd (nvEnd (ringReturned s w p) 0) r w = rd (ringReturned s w p) r w := by
    have start : Keeps (At r w) (ringReturned s w p) (ringReturned s w p) := Keeps.refl _
    exact (start.nvEnd run' res state 0).rd rfl
  have all : Keeps Nowhere s (ringReturned s w p) := ((kept id id).wr id _).wr id _
  refine ⟨nvEnd_fin all run' (by decide), ?_, ?_, ?_, ?_, fun i low => ?_⟩
  · rw [ended resLen stateLen, ringReturned, rd_wr_ne _ _ _ _ _ _ lenPage, rd_wr_ne _ _ _ _ _ _ lenType]
    exact len
  · rw [ended resSeq stateSeq, ringReturned, rd_wr_ne _ _ _ _ _ _ seqPage, rd_wr_ne _ _ _ _ _ _ seqType]
    exact seq
  · rw [ended resType stateType, ringReturned, rd_wr_ne _ _ _ _ _ _ typePage, rd_wr_same]
  · rw [ended resPage statePage, ringReturned, rd_wr_same]
  · have buf : (nvEnd (ringReturned s w p) 0).nv.buf = (nvBufPut s w (recPayload (nvPage s p))).nv.buf :=
      (congrArg Nv.buf (nvEnd_shows run' 0).nv).trans (congrArg Nv.buf nv :)
    rw [nvBuf, buf]
    exact nvBuf_put s w _ (by rw [recPayload_length valid]; exact low)

/-! ## MAINT (R1050) -/

theorem nvMaint_runs (cmd : NvCmd s w q 10) (keeper : w.val = 0) : nvMaint s = nvMaintNext 9 s :=
  nvCommand_runs cmd rfl (fun _ _ => ⟨true, true, [], [], true, false⟩) (fun s _ => nvMaintNext 9 s)
    (nvCheck_passes cmd.2.2.2 rfl rfl (.inl keeper) rfl (.inr rfl))

/-- MAINT's next entry is one on. -/
def maintNext (s : State) : State := setNv s { s.nv with maintAt := s.nv.maintAt + 1 }

/-- With no entry marked MAINT passes over the list and ends with its status. -/
theorem nvMaintNext_empty (n : Nat) (h : Keeps Nowhere s t) (run : t.nv.run = some (w.val, q)) (none : ∀ k, k < 8 → rb t .NV_RS k 31 = false) :
    NvFin s w (t.nv.status % 16) (nvMaintNext n t) := by
  induction n generalizing t with
  | zero => exact nvEnd_finMod h run _
  | succ n ih =>
    rw [nvMaintNext]
    dsimp only
    by_cases done : 8 ≤ t.nv.maintAt
    · rw [if_pos done]
      exact nvEnd_finMod h run _
    · rw [if_neg done]
      have free : (rd t .NV_RS t.nv.maintAt).getLsbD 31 = false := none _ (by omega)
      rw [if_pos free]
      exact ih (t := maintNext t) (h.setNv _) run none

/-- The first entry marks a page whose partner is read as copy A: the page is written anew (R1050). -/
theorem nvMaintNext_first {page other ty win k : Nat} (start : s.nv.maintAt = 0) (marked : (rd s .NV_RS 0).getLsbD 31 = true)
    (page_ : page = fld (rd s .NV_RS 0) 8 0) (other_ : other = fld (rd s .NV_RS 0) 17 9) (ty_ : ty = fld (rd s .NV_RS 0) 25 18)
    (got : twinRead s other page ty = .got win k (some page)) (free : nvProtected s page = false) (sound : nvRetired s page = false) :
    nvMaintNext 9 s = nvBegin (twinCount (maintNext s) k) [.page page (nvPage (twinCount (maintNext s) k) win)] := by
  subst page_ other_ ty_
  have shown := twinCount_shows (maintNext s) k
  have free' : nvProtected (twinCount (maintNext s) k) (fld (rd s .NV_RS 0) 8 0) = false := by
    rw [shown.others]
    exact free
  have sound' : nvRetired (twinCount (maintNext s) k) (fld (rd s .NV_RS 0) 8 0) = false := by
    rw [nvRetired, shown.nv]
    exact sound
  have got' : twinRead (setNv s { s.nv with maintAt := 0 + 1 }) (fld (rd s .NV_RS 0) 17 9) (fld (rd s .NV_RS 0) 8 0) (fld (rd s .NV_RS 0) 25 18) =
      .got win k (some (fld (rd s .NV_RS 0) 8 0)) := got
  rw [maintNext, start] at free' sound' ⊢
  rw [nvMaintNext]
  dsimp only
  rw [start, if_neg (by decide), if_neg (ne_false_of_eq_true marked), got']
  dsimp only
  rw [if_pos rfl, free', sound']
  rfl

theorem twinCount_io (s : State) (twin : Nat) : (twinCount s twin).io = s.io := by
  have counted (code : Nat) : (count s .serial code).io = s.io := by rw [count_send (by decide)]; rfl
  have raised : (raise (count s .serial 0x99) .serial 93).io = s.io := by
    rw [raise_send (by decide)]
    exact counted 0x99
  unfold twinCount
  split
  · exact counted _
  · split
    · exact raised
    · split
      · exact counted _
      · rfl

theorem maintBegun_effects (start : s.nv.maintAt = 0) (page win k : Nat) :
    let t := nvBegin (twinCount (maintNext s) k) [.page page (nvPage (twinCount (maintNext s) k) win)]
    t.nv = { s.nv with maintAt := 1, begun := true, jobs := [.page page (nvPage s win)], phase := .load } ∧ t.io = s.io ∧ t.thr = s.thr ∧ SameMemory s t := by
  have shown := twinCount_shows (maintNext s) k
  have same : nvPage (twinCount (maintNext s) k) win = nvPage s win := by
    rw [nvPage, shown.memory.2.2.2.2.1]
    rfl
  have io := twinCount_io (maintNext s) k
  have nv := shown.nv
  have frame := shown.frame
  dsimp only
  rw [same]
  generalize twinCount (maintNext s) k = v at io nv frame
  refine ⟨?_, io, frame⟩
  rw [nvBegin, nv, maintNext, start]
  rfl

end Sys2Proof.Proofs
end

section
/-! # Chapter 20: the store that comes up (R1022), and the statement about commands -/
namespace Sys2Proof.Proofs
open Sys2Proof.Machine Sys2Proof.Laws

variable {s t u : State} {A : Nat → Prop} {w : Fin 2} {q code status : Nat}

/-! ## What a store that has come up shows (R1022, R1061) -/

/-- READY, and the protection setting in force. -/
def storeShown (s : State) : State := wf (wb s .NV_STAT 0 0 true) .NV_STAT 0 5 4 s.nv.bp

/-- A counter shown with its flags. -/
def counterShown (s : State) (n : Nat) : State :=
  wb (wb (wr s .NV_MC n (BitVec.ofNat 32 (mcOf s n))) .NV_MCSTAT 0 n (decide (mcOf s n = 0xFFFFFFFF))) .NV_MCSTAT 0 (4 + n) (decide (32000000 ≤ mcUpdates s n))

def countersShown (s : State) : State := counterShown (counterShown (counterShown (counterShown s 0) 1) 2) 3

/-- A store of which something is lost: the port is FAULTED. -/
def storeFaulted (s : State) : State := setData (raise (wb s .NV_STAT 0 1 true) .serial 93) 10 3

/-- A page whose headers are both lost. -/
def pageLost (s : State) (p : Nat) : State := count (setNv { s with nvByte := merase s.nvByte (256 * p) (256 * p + 256) } { s.nv with
  blank := mset (fun _ => true) s.nv.blank p true, retired := mset (fun _ => false) s.nv.retired p true }) .serial 0x9F

/-- The loads that waited for READY answered. -/
def loadsAnswered (s : State) : State := s.nv.loads.foldl nvAnswer (setNv s { s.nv with loads := [] })

theorem nvReady_sound (low : rb s .NV_STAT 0 0 = false) : nvReady s [] false = loadsAnswered (countersShown (storeShown s)) :=
  if_neg (ne_true_of_eq_false low)

theorem nvReady_lost (low : rb s .NV_STAT 0 0 = false) {p : Nat} (page : p < 512) :
    nvReady s [p] true = loadsAnswered (storeFaulted (countersShown (storeShown (pageLost s p)))) := by
  have lost : (if p < 512 then pageLost s p else s) = pageLost s p := if_pos page
  rw [← lost]
  exact if_neg (ne_true_of_eq_false low)

theorem storeShown_stat (s : State) : rb (storeShown s) .NV_STAT 0 0 = true ∧ rf (storeShown s) .NV_STAT 0 5 4 = s.nv.bp % 4 := by
  refine ⟨?_, rf_wf_same _ _ _ _ (by decide) (by decide)⟩
  rw [storeShown, rb_wf_apart _ _ _ _ (by decide) (by decide) (by decide)]
  exact rb_wb_same _ _ _ _ _ (by decide)

theorem counterShown_shows (s : State) (n : Nat) : Shows s (counterShown s n) := (((Shows.refl s).wr ..).wb ..).wb ..

theorem countersShown_shows (s : State) : Shows s (countersShown s) :=
  (((counterShown_shows s 0).trans (counterShown_shows _ 1)).trans (counterShown_shows _ 2)).trans (counterShown_shows _ 3)

theorem mcOf_shows (h : Shows s t) (k : Nat) : mcOf t k = mcOf s k := by rw [mcOf, h.nv, mcOf]

/-- A counter's register shows its value, another counter's stays. -/
theorem mc_counterShown (s : State) (n : Nat) {k : Nat} (k4 : k < 4) :
    rd (counterShown s n) .NV_MC k = if k = n then BitVec.ofNat 32 (mcOf s n) else rd s .NV_MC k := by
  have apart : regAddr .NV_MC k ≠ regAddr .NV_MCSTAT 0 := by
    simp only [regAddr, regInfo]
    omega
  rw [counterShown, rd_wb_ne _ _ _ _ _ _ _ apart, rd_wb_ne _ _ _ _ _ _ _ apart]
  split
  next same => rw [same, rd_wr_same]
  next other =>
    refine rd_wr_ne _ _ _ _ _ _ ?_
    simp only [regAddr, regInfo]
    omega

theorem mc_countersShown (s : State) {k : Nat} (k4 : k < 4) : rd (countersShown s) .NV_MC k = BitVec.ofNat 32 (mcOf s k) := by
  have value (v : State) (n : Nat) : mcOf (counterShown v n) = mcOf v := funext fun m => mcOf_shows (counterShown_shows v n) m
  rw [countersShown, mc_counterShown _ _ k4, mc_counterShown _ _ k4, mc_counterShown _ _ k4, mc_counterShown _ _ k4, value, value, value]
  split_ifs with three two one zero
  · rw [three]
  · rw [two]
  · rw [one]
  · rw [zero]
  · omega

theorem stat_countersShown (s : State) : rd (countersShown s) .NV_STAT 0 = rd s .NV_STAT 0 := by
  have one (v : State) (n : Nat) (n4 : n < 4) : rd (counterShown v n) .NV_STAT 0 = rd v .NV_STAT 0 := by
    have apart : regAddr .NV_STAT 0 ≠ regAddr .NV_MC n := by
      simp only [regAddr, regInfo]
      omega
    rw [counterShown, rd_wb_ne _ _ _ _ _ _ _ (by decide), rd_wb_ne _ _ _ _ _ _ _ (by decide), rd_wr_ne _ _ _ _ _ _ apart]
  rw [countersShown, one _ 3 (by decide), one _ 2 (by decide), one _ 1 (by decide), one _ 0 (by decide)]

/-! ## Loads of the mapping (R31, R289) -/

/-- The answer of a load of the mapping. -/
def loadReply (m : SMap Byte) (l : WinLoad) : Xfer :=
  .spiReply l.req l.dst ((List.range l.n).map fun i => mget (fun _ => (0xFF : Byte)) m (l.byte + i))

theorem foldl_nvAnswer (loads : List WinLoad) (s : State) : loads.foldl nvAnswer s = loads.foldl (fun v l => send v 15 (loadReply s.nvByte l)) s := by
  induction loads generalizing s with
  | nil => rfl
  | cons l loads ih => exact ih (send s 15 (loadReply s.nvByte l))

theorem loadsAnswered_ends (s : State) : Ends (setNv s { s.nv with loads := [] }) (loadsAnswered s) := by
  rw [loadsAnswered, foldl_nvAnswer]
  exact (Ends.refl _).foldl fun _ _ hu => hu.send ..

theorem loadsAnswered_replies {l : WinLoad} (waits : l ∈ s.nv.loads) : loadReply s.nvByte l ∈ xwaitOf (loadsAnswered s) 15 := by
  rw [loadsAnswered, foldl_nvAnswer]
  exact mem_foldl_send 15 (loadReply s.nvByte) waits _

/-- What a store that has come up shows stays while its loads are answered. -/
theorem loadsAnswered_keeps (s : State) : Keeps Everywhere s (loadsAnswered s) := ((Keeps.refl s).setNv _).trans (loadsAnswered_ends s).keeps

/-- The answers are of the transfers alone: the controller only forgets the loads. -/
theorem loadsAnswered_nv (s : State) : (loadsAnswered s).nv = { s.nv with loads := [] } := by
  rw [(loadsAnswered_ends s).others]
  rfl

/-! ## The store comes up -/

theorem ready_sound_effects (s : State) : let t := loadsAnswered (countersShown (storeShown s))
    rb t .NV_STAT 0 0 = true ∧ rf t .NV_STAT 0 5 4 = s.nv.bp % 4 ∧ (∀ k, k < 4 → rd t .NV_MC k = BitVec.ofNat 32 (mcOf s k)) ∧
      t.nv = { s.nv with loads := [] } ∧ (∀ l, l ∈ s.nv.loads → loadReply s.nvByte l ∈ xwaitOf t 15) ∧ t.thr = s.thr ∧ SameMemory s t := by
  obtain ⟨ready, bp⟩ := storeShown_stat s
  have shown : Shows s (countersShown (storeShown s)) := (((Shows.refl s).wb ..).wf ..).trans (countersShown_shows _)
  have stat := stat_countersShown (storeShown s)
  have mc {k : Nat} (k4 : k < 4) : rd (countersShown (storeShown s)) .NV_MC k = BitVec.ofNat 32 (mcOf s k) := mc_countersShown (storeShown s) k4
  generalize countersShown (storeShown s) = v at shown stat mc
  have kept := loadsAnswered_keeps v
  refine ⟨?_, ?_, fun k k4 => (kept.rd trivial).trans (mc k4), ?_, fun l waits => ?_, kept.thr.trans shown.thr, SameMemory.trans shown.memory kept.memory⟩
  · rw [kept.rb trivial, rb_congr stat]
    exact ready
  · rw [kept.rf trivial, rf, stat, ← rf]
    exact bp
  · rw [loadsAnswered_nv, shown.nv]
  · have bytes : s.nvByte = v.nvByte := shown.memory.2.2.2.2.1.symm
    rw [bytes]
    exact loadsAnswered_replies (by rw [shown.nv]; exact waits)

/-- An erased page reads 0xFF (R1023). -/
theorem nvPage_erased (s : State) (p : Nat) (same : t.nvByte = merase s.nvByte (256 * p) (256 * p + 256)) : nvPage t p = List.replicate 256 0xFF := by
  refine List.eq_replicate_iff.2 ⟨by rw [nvPage, List.length_map, List.length_range], fun b listed => ?_⟩
  obtain ⟨o, low, rfl⟩ := List.mem_map.1 listed
  rw [List.mem_range] at low
  rw [same]
  refine (mget_filter (fun _ => (0xFF : Byte)) s.nvByte (fun k => !(decide (256 * p ≤ k) && decide (k < 256 * p + 256))) (256 * p + o)).trans (if_neg ?_)
  rw [decide_eq_true (by omega : 256 * p ≤ 256 * p + o), decide_eq_true (by omega : 256 * p + o < 256 * p + 256)]
  decide

theorem ready_lost_effects (s : State) (p : Nat) : let t := loadsAnswered (storeFaulted (countersShown (storeShown (pageLost s p))))
    rb t .NV_STAT 0 0 = true ∧ rb t .NV_STAT 0 1 = true ∧ dstate t 10 = 3 ∧ nvBlank t p = true ∧ nvRetired t p = true ∧
      nvPage t p = List.replicate 256 0xFF ∧ t.thr = s.thr ∧ t.near = s.near := by
  have lost : (pageLost s p).nvByte = merase s.nvByte (256 * p) (256 * p + 256) ∧ mget (fun _ => true) (pageLost s p).nv.blank p = true ∧
      mget (fun _ => false) (pageLost s p).nv.retired p = true ∧ (pageLost s p).thr = s.thr ∧ (pageLost s p).near = s.near := by
    rw [pageLost, count_send (by decide)]
    exact ⟨rfl, mget_mset_same (fun _ => true) s.nv.blank p true, mget_mset_same (fun _ => false) s.nv.retired p true, rfl, rfl⟩
  generalize pageLost s p = u at lost
  obtain ⟨byte, blank, retired, threads, near⟩ := lost
  obtain ⟨ready, -⟩ := storeShown_stat u
  have shown : Shows u (countersShown (storeShown u)) := (((Shows.refl u).wb ..).wf ..).trans (countersShown_shows _)
  have stat := stat_countersShown (storeShown u)
  generalize countersShown (storeShown u) = v at shown stat
  have faulted : Shows v (storeFaulted v) := (((Shows.refl v).wb ..).raise (by decide) 93).setData ..
  have flags : Keeps (At .NV_STAT 0) (wb v .NV_STAT 0 1 true) (storeFaulted v) := ((Keeps.refl _).raise (by decide) 93).setData (u := 10) (by decide) 3
  have state : dstate (storeFaulted v) 10 = 3 := dstate_setData _ 10 (by decide)
  generalize storeFaulted v = x at faulted flags state
  have kept := loadsAnswered_keeps x
  have nv : (loadsAnswered x).nv = { u.nv with loads := [] } := by rw [loadsAnswered_nv, faulted.nv, shown.nv]
  have bytes : (loadsAnswered x).nvByte = merase s.nvByte (256 * p) (256 * p + 256) :=
    kept.memory.2.2.2.2.1.trans (faulted.memory.2.2.2.2.1.trans (shown.memory.2.2.2.2.1.trans byte))
  refine ⟨?_, ?_, (kept.dstate (u := 10) trivial).trans state, by rw [nvBlank, nv]; exact blank, by rw [nvRetired, nv]; exact retired,
    nvPage_erased s p bytes, kept.thr.trans (faulted.thr.trans (shown.thr.trans threads)), kept.memory.1.trans (faulted.memory.1.trans (shown.memory.1.trans near))⟩
  · rw [kept.rb trivial, flags.rb rfl, rb_wb_other _ _ _ _ _ _ (by decide) (by decide), rb_congr stat]
    exact ready
  · rw [kept.rb trivial, flags.rb rfl]
    exact rb_wb_same _ _ _ _ _ (by decide)

end Sys2Proof.Proofs
end

section
/-! # Chapter 20: NV commands, the statement -/
namespace Sys2Proof.Proofs
open Sys2Proof.Machine Sys2Proof.Laws

variable {s t u : State} {A : Nat → Prop} {w : Fin 2} {q code status : Nat}

theorem nvDispatch_waiting {c : Nat × Nat} {rest : List (Nat × Nat)} (waits : s.nv.queue = c :: rest) (idle : s.nv.run = none) (ready : rb s .NV_STAT 0 0 = true) :
    nvDispatch s = setNv s { s.nv with
      queue := rest, run := some c, begun := false, jobs := [], phase := .load, again := false, donePg := 0, maintAt := 0, status := 0, abort := false } := by
  have goes : ¬ (s.nv.run.isSome = true ∨ rb s .NV_STAT 0 0 = false) := by
    rw [idle, ready]
    decide
  unfold nvDispatch
  rw [waits]
  exact if_neg goes

theorem any_true {ps : List Nat} {f : Nat → Bool} {p : Nat} (listed : p ∈ ps) (yes : f p = true) : ps.any f = true := List.any_eq_true.2 ⟨p, listed, yes⟩

theorem nvbLen_inside (w : Fin 2) : NvAddr (regAddr .NVB_LEN w) ∧ NvAddr (regAddr .NVB_SEQ w) := by revert w; decide

theorem nvRs_inside {k : Nat} (k8 : k < 8) : NvAddr (regAddr .NV_RS k) := by
  simp only [NvAddr, regAddr, regInfo]
  omega

/-- The ROM reads the boot record with the TWINRD that has ended (R154, R155). -/
theorem twinRdBoot_ended (reads : readsBoot s = true) (run : s.nv.run = some (w.val, q)) (fin : NvFin s w status t) (ended : nvTwinRd s = t) :
    twinRdBoot s = bootRecord status (nvTwinRd s) := by
  obtain ⟨shown, -, -, none, -⟩ := fin
  subst ended
  rw [twinRdBoot_reads reads run none, ← shown, readsBoot_run reads run]

/-- TWINRD leaves the mode as it is. -/
theorem twinGot_mode (run : s.nv.run = some (w.val, q)) (p k : Nat) (m : Option Nat) : Keeps (At .PMU_MODE 0) s (nvEnd (twinReturned s w p k m) 0) := by
  have apart : ∀ w : Fin 2, regAddr .NVB_LEN w ≠ regAddr .PMU_MODE 0 ∧ regAddr .NVB_SEQ w ≠ regAddr .PMU_MODE 0 ∧ regAddr .NVB_RES w ≠ regAddr .PMU_MODE 0 := by decide
  obtain ⟨len, seq, res⟩ := apart w
  have marks : ∀ a, At .PMU_MODE 0 a → ¬ MarkRegs a := by
    rintro a rfl marks
    exact absurd (markRegs_high marks) (by decide)
  have run' : (twinReturned s w p k m).nv.run = some (w.val, q) := (congrArg Nv.run (twinReturned_nv s w p k m)).trans run
  have returned : Keeps (At .PMU_MODE 0) s (twinReturned s w p k m) := Keeps.twinReturned len seq res marks p k m
  exact returned.nvEnd run' res (by decide) 0

/-- Settles O53: a command dispatched passes the checks of R1032 or ends with the first that fails; each command's own effect is the lemma its
section of chapter 20 has above. -/
theorem nvCommands : Obligations.NvCommands := by
  unfold Obligations.NvCommands
  intro s w q live
  dsimp only
  refine ⟨fun low => ⟨?ready, fun p page => ?lost⟩, fun c rest waits idle ready => ?dispatch,
    fun cmd some_ few inside => ⟨fun own whole => ?write, fun foreign => ?writeOwner, fun p own listed locked => ?writeProtected,
      fun p own free listed retired => ?writeRetired⟩,
    fun cmd len => ?writeLen, fun cmd some_ few beyond => ?writeRange, fun run fresh is_ off => ?writeOff,
    fun cmd some_ few inside own whole => ?erase, fun cmd ty two some_ few own whole => ⟨fun fits => ?twin, fun over_ => ?twinFull⟩,
    fun cmd ty two own => ⟨fun p k m got => ?got, fun blank => ?blank, fun bad => ?bad,
      fun reads => ⟨fun p k m got => ?bootGot, fun blank => ?bootBlank, fun bad => ?bootBad⟩⟩,
    fun cmd ty some_ few ring own => ⟨fun i target free room => ?append, fun none => ?appendFull⟩,
    fun cmd ring own => ⟨fun r listed => ?ringGot, fun none => ?ringNone⟩,
    fun cmd sel => ⟨fun normal => ?incDenied, fun keeper full => ?incFull, fun keeper short worn => ?incWorn, fun keeper short sound => ?inc⟩,
    fun cmd sel keeper short sound => ⟨fun stale => ?raiseStale, fun higher => ?raise⟩,
    fun cmd => ⟨fun normal keeps => ?protectDenied, fun may lower locked => ?protectLocked, fun may allowed => ?protect⟩,
    fun cmd keeper start => ⟨fun none => ?maintEmpty, fun win k marked got free sound => ?maint⟩, fun c cmd none => ?bad0⟩
  case ready => exact Does.intro ((liveIn_live live fun s => nvReady s [] false).trans (congrArg _ (nvReady_sound low))) (ready_sound_effects s)
  case lost => exact Does.intro ((liveIn_live live fun s => nvReady s [p] true).trans (congrArg _ (nvReady_lost low page))) (ready_lost_effects s p)
  case dispatch => exact (liveIn_live live nvDispatch).trans (congrArg _ (nvDispatch_waiting waits idle ready))
  case write => exact (liveIn_live live nvWrite).trans (congrArg _ (nvWrite_begins cmd ⟨some_, few, inside⟩ own whole))
  case writeOwner =>
    have args : WriteArgs s w := ⟨some_, few, inside⟩
    have mine : ¬ NvOwn s w (writePlan s w) := fun own => foreign (own.imp_right And.right)
    exact Does.intro (liveIn_live live nvWrite) (nvWrite_refuses cmd (by decide) (nvCheck_owner cmd.2.2.2 args.args args.range mine))
  case writeProtected =>
    have args : WriteArgs s w := ⟨some_, few, inside⟩
    exact Does.intro (liveIn_live live nvWrite) (nvWrite_refuses cmd (by decide)
      (nvCheck_protected cmd.2.2.2 args.args args.range (own.imp_right fun all => ⟨rfl, all⟩) (any_true listed locked)))
  case writeRetired =>
    have args : WriteArgs s w := ⟨some_, few, inside⟩
    exact Does.intro (liveIn_live live nvWrite) (nvWrite_refuses cmd (by decide)
      (nvCheck_retired cmd.2.2.2 args.args args.range (own.imp_right fun all => ⟨rfl, all⟩) (any_false free) ⟨rfl, any_true listed retired⟩))
  case writeLen =>
    have bad : (writePlan s w).args = false := decide_eq_false (by omega)
    exact Does.intro (liveIn_live live nvWrite) (nvWrite_refuses cmd (by decide) (nvCheck_args cmd.2.2.2 bad _))
  case writeRange =>
    have args : (writePlan s w).args = true := decide_eq_true ⟨some_, few⟩
    have bad : (writePlan s w).range = false := decide_eq_false (by omega)
    exact Does.intro (liveIn_live live nvWrite) (nvWrite_refuses cmd (by decide) (nvCheck_range cmd.2.2.2 args bad _))
  case writeOff =>
    exact Does.intro (liveIn_live live nvWrite) (nvCommand_refuses run fresh (by rw [is_]; rfl) writePlan writeRun (nvCheck_stopped off _) (by decide))
  case erase => exact (liveIn_live live nvErase).trans (congrArg _ (nvErase_begins cmd some_ few inside own whole))
  case twin =>
    refine (liveIn_live live nvTwinWr).trans (congrArg _ ((nvTwinWr_runs cmd ty two some_ few own whole).trans ?_))
    exact if_neg (Nat.not_lt.2 fits)
  case twinFull =>
    refine Does.intro ((liveIn_live live nvTwinWr).trans (congrArg _ ((nvTwinWr_runs cmd ty two some_ few own whole).trans (if_pos over_)))) ?_
    exact nvEnd_fin (Keeps.refl s) cmd.1 (by decide)
  case got =>
    have runs : nvTwinRd s = nvEnd (twinReturned s w p k m) 0 := by rw [nvTwinRd_runs cmd ty two own, twinRdRun, got]
    obtain ⟨fin, twin, len, seq, bytes, marks⟩ := twinGot_effects cmd.1 got
    obtain ⟨kept, nv, -⟩ := twinRdBoot_kept s
    rw [runs] at kept nv
    refine Does.intro (liveIn_live live twinRdBoot) ⟨fin.kept kept nv, (kept.rf (nvbRes_inside w) 5 4).trans twin, (kept.rd (nvbLen_inside w).1).trans len,
      (kept.rd (nvbLen_inside w).2).trans seq, fun i low => ?_, fun x j mark low free => ?_⟩
    · rw [nvBuf, nv, ← nvBuf]
      exact bytes i low
    · obtain ⟨i, i8, marked⟩ := marks x j mark low free
      exact ⟨i, i8, (kept.rd (nvRs_inside i8)).trans marked⟩
  case blank =>
    have runs : nvTwinRd s = nvEnd s 9 := by rw [nvTwinRd_runs cmd ty two own, twinRdRun, blank]
    obtain ⟨kept, nv, -⟩ := twinRdBoot_kept s
    rw [runs] at kept nv
    exact Does.intro (liveIn_live live twinRdBoot) ((nvEnd_fin (Keeps.refl s) cmd.1 (by decide)).kept kept nv)
  case bad =>
    have runs : nvTwinRd s = nvEnd (raise s .serial 93) 10 := by rw [nvTwinRd_runs cmd ty two own, twinRdRun, bad]
    obtain ⟨kept, nv, posts⟩ := twinRdBoot_kept s
    have told : Shows s (raise s .serial 93) := (Shows.refl s).raise (by decide) 93
    have run' : (raise s .serial 93).nv.run = some (w.val, q) := (congrArg Nv.run told.nv).trans cmd.1
    rw [runs] at kept nv posts
    refine Does.intro (liveIn_live live twinRdBoot) ⟨(nvEnd_fin ((Keeps.refl s).raise (by decide) 93) run' (by decide)).kept kept nv, posts.stay ((nvEnd_posts run' 10).stay ?_)⟩
    rw [raise_send (by decide)]
    exact mem_send ..
  case bootGot =>
    have runs : nvTwinRd s = nvEnd (twinReturned s w p k m) 0 := by rw [nvTwinRd_runs cmd ty two own, twinRdRun, got]
    obtain ⟨key, enables⟩ := bootRecord_read (nvTwinRd s)
    have kept : Keeps (At .PMU_MODE 0) s (nvTwinRd s) := by
      rw [runs]
      exact twinGot_mode cmd.1 p k m
    refine Does.intro ((liveIn_live live twinRdBoot).trans (congrArg _ (twinRdBoot_ended reads cmd.1 (twinGot_effects cmd.1 got).1 runs))) ⟨key, ?_⟩
    rw [← kept.rd rfl]
    exact enables
  case bootBlank =>
    have runs : nvTwinRd s = nvEnd s 9 := by rw [nvTwinRd_runs cmd ty two own, twinRdRun, blank]
    exact Does.intro ((liveIn_live live twinRdBoot).trans (congrArg _ (twinRdBoot_ended reads cmd.1 (nvEnd_fin (Keeps.refl s) cmd.1 (by decide)) runs)))
      (bootRecord_blank (nvTwinRd s))
  case bootBad =>
    have runs : nvTwinRd s = nvEnd (raise s .serial 93) 10 := by rw [nvTwinRd_runs cmd ty two own, twinRdRun, bad]
    have told : Shows s (raise s .serial 93) := (Shows.refl s).raise (by decide) 93
    have run' : (raise s .serial 93).nv.run = some (w.val, q) := (congrArg Nv.run told.nv).trans cmd.1
    exact Does.intro ((liveIn_live live twinRdBoot).trans (congrArg _
      (twinRdBoot_ended reads cmd.1 (nvEnd_fin ((Keeps.refl s).raise (by decide) 93) run' (by decide)) runs))) (bootRecord_bad (nvTwinRd s))
  case append =>
    have only : ∀ j, ringTarget s (ringSel s w) = some j → nvProtected s (ringF s (ringSel s w) + j) = false := by
      intro j here
      cases target.symm.trans here
      exact free
    rw [ringNewest_eq] at room ⊢
    refine (liveIn_live live nvRingApp).trans (congrArg _ ((nvRingApp_runs cmd ty some_ few ring own only).trans ?_))
    rw [ringAppRun, target]
    exact if_neg room
  case appendFull =>
    have only : ∀ j, ringTarget s (ringSel s w) = some j → nvProtected s (ringF s (ringSel s w) + j) = false := by
      intro j here
      cases none.symm.trans here
    have runs : nvRingApp s = nvEnd s 12 := by rw [nvRingApp_runs cmd ty some_ few ring own only, ringAppRun, none]
    exact Does.intro ((liveIn_live live nvRingApp).trans (congrArg _ runs)) (nvEnd_fin (Keeps.refl s) cmd.1 (by decide))
  case ringGot =>
    have runs : nvRingRd s = nvEnd (ringReturned s w (ringF s (ringSel s w) + r.2)) 0 := by rw [nvRingRd_runs cmd ring own, ringRdRun, listed]
    exact Does.intro ((liveIn_live live nvRingRd).trans (congrArg _ runs)) (ringGot_effects cmd.1 (ringRecords_valid (List.mem_of_getElem? listed)))
  case ringNone =>
    have runs : nvRingRd s = nvEnd s 11 := by rw [nvRingRd_runs cmd ring own, ringRdRun, none]
    exact Does.intro ((liveIn_live live nvRingRd).trans (congrArg _ runs)) (nvEnd_fin (Keeps.refl s) cmd.1 (by decide))
  case incDenied => exact Does.intro (liveIn_live live nvMcInc) (nvMcInc_denied cmd sel normal)
  case incFull =>
    have counted : Shows s (count s .serial 0xA0) := (Shows.refl s).count (by decide) 0xA0
    exact Does.intro ((liveIn_live live nvMcInc).trans (congrArg _ ((nvMcInc_runs cmd sel keeper).trans (nvMcGo_full full _))))
      (nvEnd_fin ((Keeps.refl s).count (by decide) 0xA0) ((congrArg Nv.run counted.nv).trans cmd.1) (by decide))
  case incWorn =>
    exact Does.intro ((liveIn_live live nvMcInc).trans (congrArg _ ((nvMcInc_runs cmd sel keeper).trans (nvMcGo_worn short worn _))))
      (nvEnd_fin (Keeps.refl s) cmd.1 (by decide))
  case inc => exact (liveIn_live live nvMcInc).trans (congrArg _ ((nvMcInc_runs cmd sel keeper).trans (nvMcGo_moves short sound (Nat.lt_succ_self _))))
  case raiseStale =>
    exact Does.intro ((liveIn_live live nvMcRaise).trans (congrArg _ ((nvMcRaise_runs cmd sel keeper).trans (nvMcGo_stale short sound stale))))
      (nvEnd_fin (Keeps.refl s) cmd.1 (by decide))
  case raise => exact (liveIn_live live nvMcRaise).trans (congrArg _ ((nvMcRaise_runs cmd sel keeper).trans (nvMcGo_moves short sound higher)))
  case protectDenied => exact Does.intro (liveIn_live live nvProtect) (nvProtect_denied cmd normal keeps)
  case protectLocked =>
    exact Does.intro ((liveIn_live live nvProtect).trans (congrArg _ ((nvProtect_runs cmd may).trans (if_pos ⟨lower, locked⟩)))) (nvEnd_fin (Keeps.refl s) cmd.1 (by decide))
  case protect =>
    refine (liveIn_live live nvProtect).trans (congrArg _ ((nvProtect_runs cmd may).trans (if_neg ?_)))
    rintro ⟨lower, locked⟩
    exact allowed.elim (Nat.not_le.2 lower) (ne_true_of_eq_false locked)
  case maintEmpty => exact Does.intro ((liveIn_live live nvMaint).trans (congrArg _ (nvMaint_runs cmd keeper))) (nvMaintNext_empty 9 (Keeps.refl s) cmd.1 none)
  case maint =>
    exact Does.intro ((liveIn_live live nvMaint).trans (congrArg _ ((nvMaint_runs cmd keeper).trans
      (nvMaintNext_first start marked rfl rfl rfl got free sound)))) (maintBegun_effects start _ win k)
  case bad0 => exact Does.intro (liveIn_live live nvBad) (nvBad_refuses cmd none)

end Sys2Proof.Proofs
end
